-- ==== Sys2Proof/Word.lean ====
section
/-! DEFINITION. The word types of the part: a register word is 32 bits, a byte is 8 (R8, R104). -/

namespace Sys2Proof

/-- A native register word (R8). -/
abbrev Word := BitVec 32

/-- A byte of a frame, of a packet or of the flash. -/
abbrev Byte := BitVec 8

end Sys2Proof
end

