-- ==== Sys2Proof/Machine/Store.lean ====
section
/-! DEFINITION. Register fields and the sparse maps that hold what is not at its default value. A map lists its keys
in rising order and no entry equal to the default, so equal contents are equal data. -/

namespace Sys2Proof.Machine

/-- The access codes of R8; the read-to-clear fields are split by the three kinds of R30. -/
inductive Acc where
  | ro | rw | rwl | trv | w1p | rcFlags | rcCount | rcOther
  deriving DecidableEq, Repr

/-- A register field: byte address of its word, lowest bit, width, access code, reset value, and whether a read is
served from the Meridian shadow (R26) or live (R27). -/
structure Field where
  addr : Nat
  lo : Nat
  width : Nat
  acc : Acc
  reset : Nat
  pub : Bool
  deriving DecidableEq, Repr

/-- The key of a field in a store: one number per bit position of the register space. -/
def Field.key (f : Field) : Nat := f.addr * 32 + f.lo

/-- A sparse map from keys to values. -/
abbrev KMap (α : Type) := List (Nat × α)

/-- The value at a key, the default `d` where none is listed. -/
def KMap.get {α : Type} (d : α) : KMap α → Nat → α
  | [], _ => d
  | (j, v) :: m, k => if j = k then v else KMap.get d m k

/-- The map without a key. -/
def KMap.erase {α : Type} : KMap α → Nat → KMap α
  | [], _ => []
  | (j, v) :: m, k => if j = k then KMap.erase m k else (j, v) :: KMap.erase m k

/-- The map with an entry put at its place in rising key order. -/
def KMap.insert {α : Type} : KMap α → Nat → α → KMap α
  | [], k, v => [(k, v)]
  | (j, w) :: m, k, v => if k < j then (k, v) :: (j, w) :: m else (j, w) :: KMap.insert m k v

/-- The map with the value at a key replaced; a default value is not listed. -/
def KMap.put {α : Type} [DecidableEq α] (d : α) (m : KMap α) (k : Nat) (v : α) : KMap α :=
  if v = d then KMap.erase m k else KMap.insert (KMap.erase m k) k v

/-- The canonical form: keys strictly rising, no entry equal to the default. -/
def KMap.wf {α : Type} [DecidableEq α] (d : α) (m : KMap α) : Bool :=
  decide (m.Pairwise (fun a b => a.1 < b.1)) && m.all (fun e => decide (e.2 ≠ d))

/-- A store of register fields: the fields that are not at their reset value, by key. -/
abbrev Store := KMap Nat

/-- The value of a field in a store. -/
def Store.get (m : Store) (f : Field) : Nat := KMap.get f.reset m f.key

/-- A store with a field set; the value is cut to the field's width. -/
def Store.set (m : Store) (f : Field) (v : Nat) : Store := KMap.put f.reset m f.key (v % 2 ^ f.width)

end Sys2Proof.Machine
end

