-- ==== Sys2Proof/Machine/RegDefs.lean ====
section
/-! DEFINITION. The register fields of the part, one definition each, written from the field maps of the
spec (R152, R170, R190, R210, R231, R254, R268, R288, R316, R339, R356, R372, R386, R404, R411, R414, R416, R418).
A definition gives the byte address of the word, the lowest bit, the width, the access code (R8), the
reset value and whether reads are served from the Meridian shadow (R26) or live (R27). An index is taken modulo the number
of instances, so that every definition names a register of its own block. -/

namespace Sys2Proof.Machine

/-- First granule of region `d` in the default carve (R234). -/
def rgnBase (d : Nat) : Nat :=
  if d < 48 then 64 * d else if d < 52 then 3072 + 256 * (d - 48) else if d = 52 then 4096
  else if d < 101 then 6144 + 64 * (d - 53) else if d < 149 then 9216 + 128 * (d - 101)
  else if d < 153 then 15360 + 1024 * (d - 149) else if d = 153 then 19456 else 19712

/-- Size in granules of region `d` in the default carve (R234). -/
def rgnSize (d : Nat) : Nat :=
  if d < 48 then 64 else if d < 52 then 256 else if d = 52 then 2048 else if d < 101 then 64
  else if d < 149 then 128 else if d < 153 then 1024 else 256

/-- The blocks that keep a set of fault registers (R373). -/
inductive FBlk where
  | prt (n : Nat) | qd (q : Nat) | sec (s : Nat) | ups (u : Nat)
  | pkm | swx | pwr | icu | nw | sys
  deriving DecidableEq, Repr

/-- Address of the first fault word of a block (R373, R413). -/
def FBlk.base : FBlk → Nat
  | .prt n => 0x10100 + 0x400 * (n % 48)
  | .qd q => 0xE100 + 0x200 * (q % 12)
  | .sec s => 0xD100 + 0x400 * (s % 4)
  | .ups u => 0xC100 + 0x400 * (u % 4)
  | .pkm => 0xA100
  | .swx => 0xB100
  | .pwr => 0x9100
  | .icu => 0x5900
  | .nw => 0x2100
  | .sys => 0x100

/-- Reset value of FLTSEV (R413). -/
def FBlk.sevReset : FBlk → Nat
  | .prt _ => 0x149 | .qd _ => 0x29 | .sec _ => 0x2AA | .ups _ => 0x5
  | .pkm => 0x2B | .swx => 0x3 | .pwr => 0xB | .icu => 0x2 | .nw => 0x9 | .sys => 0xE7

/-! ## SYS -/

/-- SYS.ID.STEP (R414). -/
def SYS.ID.STEP : Field := ⟨0x0 + 0x0, 0, 8, .ro, 0, false⟩
/-- SYS.ID.PART (R414). -/
def SYS.ID.PART : Field := ⟨0x0 + 0x0, 16, 16, .ro, 18450, false⟩
/-- SYS.MODE.MODE (R414). -/
def SYS.MODE.MODE : Field := ⟨0x0 + 0x4, 0, 2, .ro, 0, false⟩
/-- SYS.MODE.ABBREV (R414). -/
def SYS.MODE.ABBREV : Field := ⟨0x0 + 0x4, 2, 1, .ro, 0, false⟩
/-- SYS.MODE.SLOT (R414). -/
def SYS.MODE.SLOT : Field := ⟨0x0 + 0x4, 3, 1, .ro, 0, false⟩
/-- SYS.MODE.FALLBACK (R414). -/
def SYS.MODE.FALLBACK : Field := ⟨0x0 + 0x4, 4, 1, .ro, 0, false⟩
/-- SYS.LASTERR.CODE (R414). -/
def SYS.LASTERR.CODE : Field := ⟨0x0 + 0x8, 0, 8, .rcOther, 0, false⟩
/-- SYS.LASTERR.REQ (R414). -/
def SYS.LASTERR.REQ : Field := ⟨0x0 + 0x8, 8, 3, .rcOther, 0, false⟩
/-- SYS.STRAP.MODE (R414). -/
def SYS.STRAP.MODE : Field := ⟨0x0 + 0xc, 0, 2, .ro, 0, false⟩
/-- SYS.STRAP.ADR (R414). -/
def SYS.STRAP.ADR : Field := ⟨0x0 + 0xc, 2, 3, .ro, 0, false⟩
/-- SYS.STRAP.VIO33 (R414). -/
def SYS.STRAP.VIO33 : Field := ⟨0x0 + 0xc, 5, 1, .ro, 0, false⟩
/-- SYS.MERIDIAN.COUNT (R414). -/
def SYS.MERIDIAN.COUNT : Field := ⟨0x0 + 0x10, 0, 32, .ro, 0, false⟩
/-- SYS.TKCFG.SPICRC (R414). -/
def SYS.TKCFG.SPICRC : Field := ⟨0x0 + 0x14, 0, 1, .rwl, 0, false⟩
/-- SYS.TKCFG.I2CCRC (R414). -/
def SYS.TKCFG.I2CCRC : Field := ⟨0x0 + 0x14, 1, 1, .rwl, 0, false⟩
/-- SYS.LOCK.ALL (R414). -/
def SYS.LOCK.ALL : Field := ⟨0x0 + 0x18, 0, 1, .trv, 0, false⟩
/-- SYS.VOTECNT.COUNT (R414). -/
def SYS.VOTECNT.COUNT : Field := ⟨0x0 + 0x1c, 0, 16, .rcCount, 0, false⟩
/-- SYS.OFFCNT.COUNT (R414). -/
def SYS.OFFCNT.COUNT : Field := ⟨0x0 + 0x20, 0, 16, .rcCount, 0, false⟩
/-- SYS.RESETREQ.GO (R414). -/
def SYS.RESETREQ.GO : Field := ⟨0x0 + 0x24, 0, 1, .w1p, 0, false⟩
/-- SYS.RESETREQ.KEY (R414). -/
def SYS.RESETREQ.KEY : Field := ⟨0x0 + 0x24, 16, 16, .rw, 0, false⟩
/-- SYS.TJCORE.TJ (R414). -/
def SYS.TJCORE.TJ : Field := ⟨0x0 + 0x28, 0, 12, .ro, 0, true⟩
/-- SYS.TJCORE.PEAK (R414). -/
def SYS.TJCORE.PEAK : Field := ⟨0x0 + 0x28, 16, 12, .rcOther, 0, true⟩
/-- SYS.FAULTPIN.MINSEV (R414). -/
def SYS.FAULTPIN.MINSEV : Field := ⟨0x0 + 0x2c, 0, 2, .rwl, 2, false⟩
/-- SYS.FAULTPIN.WIDTH (R414). -/
def SYS.FAULTPIN.WIDTH : Field := ⟨0x0 + 0x2c, 2, 10, .rwl, 10, false⟩
/-- SYS.FAULTPIN.FORCE (R414). -/
def SYS.FAULTPIN.FORCE : Field := ⟨0x0 + 0x2c, 12, 1, .rw, 0, false⟩
/-- SYS.FAULTPIN.PIN (R414). -/
def SYS.FAULTPIN.PIN : Field := ⟨0x0 + 0x2c, 13, 1, .ro, 0, false⟩

/-! ## BOOT -/

/-- BOOT.RSTCAUSE.CAUSE (R416). -/
def BOOT.RSTCAUSE.CAUSE : Field := ⟨0x1000 + 0x0, 0, 8, .ro, 1, false⟩
/-- BOOT.FAILMEM.SLOTA (R416). -/
def BOOT.FAILMEM.SLOTA : Field := ⟨0x1000 + 0x4, 0, 1, .ro, 0, false⟩
/-- BOOT.FAILMEM.SLOTB (R416). -/
def BOOT.FAILMEM.SLOTB : Field := ⟨0x1000 + 0x4, 1, 1, .ro, 0, false⟩
/-- BOOT.FAILMEM.NVM (R416). -/
def BOOT.FAILMEM.NVM : Field := ⟨0x1000 + 0x4, 2, 1, .ro, 0, false⟩
/-- BOOT.FAILMEM.QID (R416). -/
def BOOT.FAILMEM.QID : Field := ⟨0x1000 + 0x4, 3, 12, .ro, 0, false⟩
/-- BOOT.FAILMEM.LINK (R416). -/
def BOOT.FAILMEM.LINK : Field := ⟨0x1000 + 0x4, 15, 4, .ro, 0, false⟩
/-- BOOT.FAILMEM.CAL (R416). -/
def BOOT.FAILMEM.CAL : Field := ⟨0x1000 + 0x4, 19, 1, .ro, 0, false⟩
/-- BOOT.FAILCLR.MARK (R416). -/
def BOOT.FAILCLR.MARK : Field := ⟨0x1000 + 0x8, 0, 20, .w1p, 0, false⟩
/-- BOOT.BOOTCNT.BOOTNO (R416). -/
def BOOT.BOOTCNT.BOOTNO : Field := ⟨0x1000 + 0xc, 0, 16, .ro, 0, false⟩
/-- BOOT.BOOTCNT.CONSEC (R416). -/
def BOOT.BOOTCNT.CONSEC : Field := ⟨0x1000 + 0xc, 16, 2, .ro, 0, false⟩
/-- BOOT.RESCUE.RSTREQ (R416). -/
def BOOT.RESCUE.RSTREQ : Field := ⟨0x1000 + 0x10, 0, 1, .w1p, 0, false⟩
/-- BOOT.RESCUE.ENTRY (R416). -/
def BOOT.RESCUE.ENTRY : Field := ⟨0x1000 + 0x10, 1, 3, .ro, 0, false⟩
/-- BOOT.RESCUE.PORT (R416). -/
def BOOT.RESCUE.PORT : Field := ⟨0x1000 + 0x10, 4, 2, .ro, 0, false⟩
/-- BOOT.JSEQ.JSEQ (R416). -/
def BOOT.JSEQ.JSEQ : Field := ⟨0x1000 + 0x14, 0, 32, .ro, 0, false⟩
/-- BOOT.HEADER.ACTIVE (R416). -/
def BOOT.HEADER.ACTIVE : Field := ⟨0x1000 + 0x18, 0, 1, .ro, 0, false⟩
/-- BOOT.HEADER.STATEA (R416). -/
def BOOT.HEADER.STATEA : Field := ⟨0x1000 + 0x18, 1, 2, .ro, 0, false⟩
/-- BOOT.HEADER.STATEB (R416). -/
def BOOT.HEADER.STATEB : Field := ⟨0x1000 + 0x18, 3, 2, .ro, 0, false⟩
/-- BOOT.HDRSEQ.SEQ (R416). -/
def BOOT.HDRSEQ.SEQ : Field := ⟨0x1000 + 0x1c, 0, 32, .ro, 0, false⟩
/-- BOOT.UPDCMD.CMD (R416). -/
def BOOT.UPDCMD.CMD : Field := ⟨0x1000 + 0x20, 0, 3, .rw, 0, false⟩
/-- BOOT.UPDCMD.SLOT (R416). -/
def BOOT.UPDCMD.SLOT : Field := ⟨0x1000 + 0x20, 3, 1, .rw, 0, false⟩
/-- BOOT.UPDOFS.OFS (R416). -/
def BOOT.UPDOFS.OFS : Field := ⟨0x1000 + 0x24, 0, 22, .rw, 0, false⟩
/-- BOOT.UPDLEN.LEN (R416). -/
def BOOT.UPDLEN.LEN : Field := ⟨0x1000 + 0x28, 0, 23, .rw, 0, false⟩
/-- BOOT.UPDSTS.SESSION (R416). -/
def BOOT.UPDSTS.SESSION : Field := ⟨0x1000 + 0x2c, 0, 2, .ro, 0, false⟩
/-- BOOT.UPDSTS.BUSY (R416). -/
def BOOT.UPDSTS.BUSY : Field := ⟨0x1000 + 0x2c, 2, 1, .ro, 0, false⟩
/-- BOOT.UPDSTS.RESTRICT (R416). -/
def BOOT.UPDSTS.RESTRICT : Field := ⟨0x1000 + 0x2c, 3, 1, .ro, 0, false⟩
/-- BOOT.UPDSTS.TARGET (R416). -/
def BOOT.UPDSTS.TARGET : Field := ⟨0x1000 + 0x2c, 4, 1, .ro, 0, false⟩
/-- BOOT.UPDSTS.OWNER (R416). -/
def BOOT.UPDSTS.OWNER : Field := ⟨0x1000 + 0x2c, 5, 3, .ro, 7, false⟩
/-- BOOT.UPDSTS.RESULT (R416). -/
def BOOT.UPDSTS.RESULT : Field := ⟨0x1000 + 0x2c, 8, 8, .ro, 0, false⟩
/-- BOOT.UPDSTS.REASON (R416). -/
def BOOT.UPDSTS.REASON : Field := ⟨0x1000 + 0x2c, 16, 8, .ro, 0, false⟩
/-- BOOT.RBCTR.VALUE (R416). -/
def BOOT.RBCTR.VALUE : Field := ⟨0x1000 + 0x30, 0, 7, .rw, 0, false⟩
/-- BOOT.UPDDATA.DATA (R416). -/
def BOOT.UPDDATA.DATA (k : Nat) : Field := ⟨0x1000 + 0x200 + 4 * (k % 64), 0, 32, .rw, 0, false⟩

/-! ## NW -/

/-- NW.CTL.SLEEPEN (R404). -/
def NW.CTL.SLEEPEN : Field := ⟨0x2000 + 0x0, 0, 1, .rwl, 1, false⟩
/-- NW.CTL.ECLEN (R404). -/
def NW.CTL.ECLEN : Field := ⟨0x2000 + 0x0, 1, 1, .rwl, 0, false⟩
/-- NW.CTL.LDSHOLD (R404). -/
def NW.CTL.LDSHOLD : Field := ⟨0x2000 + 0x0, 2, 1, .rwl, 0, false⟩
/-- NW.CTL.I2CWAKE (R404). -/
def NW.CTL.I2CWAKE : Field := ⟨0x2000 + 0x0, 3, 1, .rwl, 1, false⟩
/-- NW.CTL.LOCK (R404). -/
def NW.CTL.LOCK : Field := ⟨0x2000 + 0x0, 16, 1, .trv, 0, false⟩
/-- NW.IDLE.TIME (R404). -/
def NW.IDLE.TIME : Field := ⟨0x2000 + 0x4, 0, 20, .rwl, 1000, false⟩
/-- NW.STS.STATE (R404). -/
def NW.STS.STATE : Field := ⟨0x2000 + 0x8, 0, 2, .ro, 0, false⟩
/-- NW.STS.IDLEOK (R404). -/
def NW.STS.IDLEOK : Field := ⟨0x2000 + 0x8, 2, 1, .ro, 0, false⟩
/-- NW.STS.ECLOK (R404). -/
def NW.STS.ECLOK : Field := ⟨0x2000 + 0x8, 3, 1, .ro, 0, false⟩
/-- NW.STS.BACKOFF (R404). -/
def NW.STS.BACKOFF : Field := ⟨0x2000 + 0x8, 4, 4, .ro, 0, false⟩
/-- NW.STS.REMAIN (R404). -/
def NW.STS.REMAIN : Field := ⟨0x2000 + 0x8, 8, 24, .ro, 0, false⟩
/-- NW.ABORT.BLOCK (R404). -/
def NW.ABORT.BLOCK : Field := ⟨0x2000 + 0xc, 0, 5, .ro, 31, false⟩
/-- NW.ABORT.TMO (R404). -/
def NW.ABORT.TMO : Field := ⟨0x2000 + 0xc, 5, 1, .ro, 0, false⟩
/-- NW.ABORT.TARGET (R404). -/
def NW.ABORT.TARGET : Field := ⟨0x2000 + 0xc, 6, 1, .ro, 0, false⟩
/-- NW.ABORT.COUNT (R404). -/
def NW.ABORT.COUNT : Field := ⟨0x2000 + 0xc, 16, 16, .rcCount, 0, false⟩
/-- NW.WAKE.VALID (R404). -/
def NW.WAKE.VALID : Field := ⟨0x2000 + 0x10, 0, 1, .rcFlags, 0, false⟩
/-- NW.WAKE.FROM (R404). -/
def NW.WAKE.FROM : Field := ⟨0x2000 + 0x10, 1, 2, .rcOther, 0, false⟩
/-- NW.WAKE.CAUSE (R404). -/
def NW.WAKE.CAUSE : Field := ⟨0x2000 + 0x10, 4, 4, .rcOther, 0, false⟩
/-- NW.WAKE.SRC (R404). -/
def NW.WAKE.SRC : Field := ⟨0x2000 + 0x10, 8, 10, .rcOther, 1023, false⟩
/-- NW.WAKE.DETAIL (R404). -/
def NW.WAKE.DETAIL : Field := ⟨0x2000 + 0x10, 18, 6, .rcOther, 63, false⟩
/-- NW.CNT.DUSKCNT (R404). -/
def NW.CNT.DUSKCNT : Field := ⟨0x2000 + 0x14, 0, 16, .rcCount, 0, false⟩
/-- NW.CNT.ECLCNT (R404). -/
def NW.CNT.ECLCNT : Field := ⟨0x2000 + 0x14, 16, 16, .rcCount, 0, false⟩
/-- NW.DUSKTIME.MS (R404). -/
def NW.DUSKTIME.MS : Field := ⟨0x2000 + 0x18, 0, 32, .ro, 0, false⟩

/-! ## ICU -/

/-- ICU.SRC_CFG.TGT (R372). -/
def ICU.SRC_CFG.TGT (i : Nat) : Field := ⟨0x4000 + 8 * (i % 512), 0, 4, .rwl, (if i < 7 then 11 else 12), false⟩
/-- ICU.SRC_CFG.EN (R372). -/
def ICU.SRC_CFG.EN (i : Nat) : Field := ⟨0x4000 + 8 * (i % 512), 4, 1, .rw, (if i < 7 then 1 else 0), false⟩
/-- ICU.SRC_CFG.NWW (R372). -/
def ICU.SRC_CFG.NWW (i : Nat) : Field := ⟨0x4000 + 8 * (i % 512), 5, 1, .rwl, 0, false⟩
/-- ICU.SRC_STS.PEND (R372). -/
def ICU.SRC_STS.PEND (i : Nat) : Field := ⟨0x4000 + 8 * (i % 512) + 4, 0, 1, .ro, 0, false⟩
/-- ICU.SRC_STS.INSVC (R372). -/
def ICU.SRC_STS.INSVC (i : Nat) : Field := ⟨0x4000 + 8 * (i % 512) + 4, 1, 1, .ro, 0, false⟩
/-- ICU.SRC_STS.LOST (R372). -/
def ICU.SRC_STS.LOST (i : Nat) : Field := ⟨0x4000 + 8 * (i % 512) + 4, 2, 1, .rcFlags, 0, false⟩
/-- ICU.SRC_STS.CLRPEND (R372). -/
def ICU.SRC_STS.CLRPEND (i : Nat) : Field := ⟨0x4000 + 8 * (i % 512) + 4, 4, 1, .w1p, 0, false⟩
/-- ICU.SRC_STS.LOSTCNT (R372). -/
def ICU.SRC_STS.LOSTCNT (i : Nat) : Field := ⟨0x4000 + 8 * (i % 512) + 4, 8, 8, .rcCount, 0, false⟩
/-- ICU.CLAIM.SRC (R372). -/
def ICU.CLAIM.SRC (t : Nat) : Field := ⟨0x4000 + 0x1000 + 0x40 * (t % 13) + 0x0, 0, 10, .ro, 1023, false⟩
/-- ICU.DONE.SRC (R372). -/
def ICU.DONE.SRC (t : Nat) : Field := ⟨0x4000 + 0x1000 + 0x40 * (t % 13) + 0x4, 0, 10, .rw, 1023, false⟩
/-- ICU.TCTL.CCOUNT (R372). -/
def ICU.TCTL.CCOUNT (t : Nat) : Field := ⟨0x4000 + 0x1000 + 0x40 * (t % 13) + 0x8, 0, 8, .rwl, 1, false⟩
/-- ICU.TCTL.TRST (R372). -/
def ICU.TCTL.TRST (t : Nat) : Field := ⟨0x4000 + 0x1000 + 0x40 * (t % 13) + 0x8, 8, 1, .w1p, 0, false⟩
/-- ICU.TCTL.CTIME (R372). -/
def ICU.TCTL.CTIME (t : Nat) : Field := ⟨0x4000 + 0x1000 + 0x40 * (t % 13) + 0x8, 16, 16, .rwl, 1000, false⟩
/-- ICU.TSTAT.INSVC (R372). -/
def ICU.TSTAT.INSVC (t : Nat) : Field := ⟨0x4000 + 0x1000 + 0x40 * (t % 13) + 0xc, 0, 10, .ro, 1023, false⟩
/-- ICU.TSTAT.TOP (R372). -/
def ICU.TSTAT.TOP (t : Nat) : Field := ⟨0x4000 + 0x1000 + 0x40 * (t % 13) + 0xc, 10, 10, .ro, 1023, false⟩
/-- ICU.TSTAT.LINE (R372). -/
def ICU.TSTAT.LINE (t : Nat) : Field := ⟨0x4000 + 0x1000 + 0x40 * (t % 13) + 0xc, 20, 1, .ro, 0, false⟩
/-- ICU.TSTAT.ORDERR (R372). -/
def ICU.TSTAT.ORDERR (t : Nat) : Field := ⟨0x4000 + 0x1000 + 0x40 * (t % 13) + 0xc, 21, 1, .ro, 0, false⟩
/-- ICU.TSTAT.HELD (R372). -/
def ICU.TSTAT.HELD (t : Nat) : Field := ⟨0x4000 + 0x1000 + 0x40 * (t % 13) + 0xc, 24, 8, .ro, 0, false⟩
/-- ICU.TCNT.SPUR (R372). -/
def ICU.TCNT.SPUR (t : Nat) : Field := ⟨0x4000 + 0x1000 + 0x40 * (t % 13) + 0x10, 0, 16, .rcCount, 0, false⟩
/-- ICU.TCNT.ORDCNT (R372). -/
def ICU.TCNT.ORDCNT (t : Nat) : Field := ⟨0x4000 + 0x1000 + 0x40 * (t % 13) + 0x10, 16, 8, .rcCount, 0, false⟩
/-- ICU.CTL.SWTRIG (R372). -/
def ICU.CTL.SWTRIG : Field := ⟨0x4000 + 0x1800 + 0x0, 0, 1, .w1p, 0, false⟩
/-- ICU.CTL.LOCK (R372). -/
def ICU.CTL.LOCK : Field := ⟨0x4000 + 0x1800 + 0x0, 16, 1, .trv, 0, false⟩
/-- ICU.WATCHN.N (R372). -/
def ICU.WATCHN.N : Field := ⟨0x4000 + 0x1800 + 0x4, 0, 7, .ro, 0, false⟩
/-- ICU.FSUM0.P00_P31 (R372). -/
def ICU.FSUM0.P00_P31 : Field := ⟨0x4000 + 0x1800 + 0x10, 0, 32, .ro, 0, false⟩
/-- ICU.FSUM1.P32_P47 (R372). -/
def ICU.FSUM1.P32_P47 : Field := ⟨0x4000 + 0x1800 + 0x14, 0, 16, .ro, 0, false⟩
/-- ICU.FSUM1.QD (R372). -/
def ICU.FSUM1.QD : Field := ⟨0x4000 + 0x1800 + 0x14, 16, 12, .ro, 0, false⟩
/-- ICU.FSUM2.SEC (R372). -/
def ICU.FSUM2.SEC : Field := ⟨0x4000 + 0x1800 + 0x18, 0, 4, .ro, 0, false⟩
/-- ICU.FSUM2.UPS (R372). -/
def ICU.FSUM2.UPS : Field := ⟨0x4000 + 0x1800 + 0x18, 4, 4, .ro, 0, false⟩
/-- ICU.FSUM2.BLK (R372). -/
def ICU.FSUM2.BLK : Field := ⟨0x4000 + 0x1800 + 0x18, 8, 6, .ro, 0, false⟩

/-! ## MBX -/

/-- MBX.SEL.CODE (R418). -/
def MBX.SEL.CODE (m : Nat) : Field := ⟨0x8000 + 0x20 * (m % 8) + 0x0, 0, 8, .rw, 0, false⟩
/-- MBX.SEL.INDEX (R418). -/
def MBX.SEL.INDEX (m : Nat) : Field := ⟨0x8000 + 0x20 * (m % 8) + 0x0, 16, 11, .rw, 0, false⟩
/-- MBX.CTRL.GO (R418). -/
def MBX.CTRL.GO (m : Nat) : Field := ⟨0x8000 + 0x20 * (m % 8) + 0x4, 0, 1, .w1p, 0, false⟩
/-- MBX.CTRL.BUSY (R418). -/
def MBX.CTRL.BUSY (m : Nat) : Field := ⟨0x8000 + 0x20 * (m % 8) + 0x4, 1, 1, .ro, 0, false⟩
/-- MBX.CTRL.VALID (R418). -/
def MBX.CTRL.VALID (m : Nat) : Field := ⟨0x8000 + 0x20 * (m % 8) + 0x4, 2, 1, .ro, 0, false⟩
/-- MBX.CTRL.ERR (R418). -/
def MBX.CTRL.ERR (m : Nat) : Field := ⟨0x8000 + 0x20 * (m % 8) + 0x4, 8, 8, .ro, 0, false⟩
/-- MBX.CTRL.PART (R418). -/
def MBX.CTRL.PART (m : Nat) : Field := ⟨0x8000 + 0x20 * (m % 8) + 0x4, 16, 9, .rw, 0, false⟩
/-- MBX.DATA.DATA (R418). -/
def MBX.DATA.DATA (m : Nat) (i : Nat) : Field := ⟨0x8000 + 0x20 * (m % 8) + 0x10 + 4 * (i % 4), 0, 32, .ro, 0, false⟩
/-- MBX.BULK.HOLDER (R418). -/
def MBX.BULK.HOLDER : Field := ⟨0x8000 + 0x100, 0, 3, .ro, 0, false⟩
/-- MBX.BULK.HELD (R418). -/
def MBX.BULK.HELD : Field := ⟨0x8000 + 0x100, 3, 1, .ro, 0, false⟩

/-! ## PWR -/

/-- PWR.CTL.READV (R356). -/
def PWR.CTL.READV : Field := ⟨0x9000 + 0x0, 0, 7, .rwl, 10, false⟩
/-- PWR.CTL.LOCK (R356). -/
def PWR.CTL.LOCK : Field := ⟨0x9000 + 0x0, 16, 1, .trv, 0, false⟩
/-- PWR.POOL.POOL (R356). -/
def PWR.POOL.POOL : Field := ⟨0x9000 + 0x4, 0, 19, .rwl, 0, false⟩
/-- PWR.TOTCOM.COMMIT (R356). -/
def PWR.TOTCOM.COMMIT : Field := ⟨0x9000 + 0x8, 0, 19, .ro, 0, true⟩
/-- PWR.TOTCON.CONTRACT (R356). -/
def PWR.TOTCON.CONTRACT : Field := ⟨0x9000 + 0xc, 0, 19, .ro, 0, true⟩
/-- PWR.STS.SHEDQ (R356). -/
def PWR.STS.SHEDQ : Field := ⟨0x9000 + 0x10, 0, 12, .ro, 0, true⟩
/-- PWR.STS.POOLSHED (R356). -/
def PWR.STS.POOLSHED : Field := ⟨0x9000 + 0x10, 12, 1, .ro, 0, true⟩
/-- PWR.STS.NWAIT (R356). -/
def PWR.STS.NWAIT : Field := ⟨0x9000 + 0x10, 16, 6, .ro, 0, true⟩
/-- PWR.EVT.SHEDIN (R356). -/
def PWR.EVT.SHEDIN : Field := ⟨0x9000 + 0x14, 0, 1, .rcFlags, 0, true⟩
/-- PWR.EVT.SHEDOUT (R356). -/
def PWR.EVT.SHEDOUT : Field := ⟨0x9000 + 0x14, 1, 1, .rcFlags, 0, true⟩
/-- PWR.EVT.WAIT (R356). -/
def PWR.EVT.WAIT : Field := ⟨0x9000 + 0x14, 2, 1, .rcFlags, 0, true⟩
/-- PWR.EVT.IGNHR (R356). -/
def PWR.EVT.IGNHR : Field := ⟨0x9000 + 0x14, 3, 1, .rcFlags, 0, true⟩
/-- PWR.EVT.REBUILD (R356). -/
def PWR.EVT.REBUILD : Field := ⟨0x9000 + 0x14, 4, 1, .rcFlags, 0, true⟩
/-- PWR.CNT.REJECTS (R356). -/
def PWR.CNT.REJECTS : Field := ⟨0x9000 + 0x18, 0, 16, .rcCount, 0, true⟩
/-- PWR.CNT.IGNHR (R356). -/
def PWR.CNT.IGNHR : Field := ⟨0x9000 + 0x18, 16, 16, .rcCount, 0, true⟩
/-- PWR.QCAP.CAP (R356). -/
def PWR.QCAP.CAP (q : Nat) : Field := ⟨0x9000 + 0x40 + 4 * (q % 12), 0, 15, .rwl, 0, false⟩
/-- PWR.QCAP.FAILCAP (R356). -/
def PWR.QCAP.FAILCAP (q : Nat) : Field := ⟨0x9000 + 0x40 + 4 * (q % 12), 16, 15, .rwl, 0, false⟩
/-- PWR.QBOOK.COMMIT (R356). -/
def PWR.QBOOK.COMMIT (q : Nat) : Field := ⟨0x9000 + 0x80 + 4 * (q % 12), 0, 15, .ro, 0, true⟩
/-- PWR.QBOOK.CONTRACT (R356). -/
def PWR.QBOOK.CONTRACT (q : Nat) : Field := ⟨0x9000 + 0x80 + 4 * (q % 12), 16, 15, .ro, 0, true⟩
/-- PWR.PCFG.PRIO (R356). -/
def PWR.PCFG.PRIO (n : Nat) : Field := ⟨0x9000 + 0x200 + 4 * (n % 48), 0, 3, .rwl, 0, false⟩
/-- PWR.PCFG.PMAX (R356). -/
def PWR.PCFG.PMAX (n : Nat) : Field := ⟨0x9000 + 0x200 + 4 * (n % 48), 16, 13, .rwl, 0, false⟩
/-- PWR.PBOOK.COMMIT (R356). -/
def PWR.PBOOK.COMMIT (n : Nat) : Field := ⟨0x9000 + 0x300 + 4 * (n % 48), 0, 13, .ro, 0, true⟩
/-- PWR.PBOOK.CONTRACT (R356). -/
def PWR.PBOOK.CONTRACT (n : Nat) : Field := ⟨0x9000 + 0x300 + 4 * (n % 48), 16, 13, .ro, 0, true⟩
/-- PWR.PALLOW.ALLOW (R356). -/
def PWR.PALLOW.ALLOW (n : Nat) : Field := ⟨0x9000 + 0x400 + 4 * (n % 48), 0, 13, .ro, 0, true⟩
/-- PWR.PALLOW.SHED (R356). -/
def PWR.PALLOW.SHED (n : Nat) : Field := ⟨0x9000 + 0x400 + 4 * (n % 48), 16, 2, .ro, 0, true⟩
/-- PWR.PALLOW.WAIT (R356). -/
def PWR.PALLOW.WAIT (n : Nat) : Field := ⟨0x9000 + 0x400 + 4 * (n % 48), 18, 1, .ro, 0, true⟩

/-! ## PKM -/

/-- PKM.CTL.CUTTHR (R254). -/
def PKM.CTL.CUTTHR : Field := ⟨0xA000 + 0x0, 0, 8, .rwl, 8, false⟩
/-- PKM.CTL.BORROWMAX (R254). -/
def PKM.CTL.BORROWMAX : Field := ⟨0xA000 + 0x0, 12, 12, .rwl, 512, false⟩
/-- PKM.CTL.LOCK (R254). -/
def PKM.CTL.LOCK : Field := ⟨0xA000 + 0x0, 24, 1, .trv, 0, false⟩
/-- PKM.FREEMARK.LOW (R254). -/
def PKM.FREEMARK.LOW : Field := ⟨0xA000 + 0x4, 0, 16, .rwl, 1024, false⟩
/-- PKM.FREESTS.BELOW (R254). -/
def PKM.FREESTS.BELOW : Field := ⟨0xA000 + 0x8, 0, 1, .ro, 0, true⟩
/-- PKM.FREESTS.WAS (R254). -/
def PKM.FREESTS.WAS : Field := ⟨0xA000 + 0x8, 1, 1, .rcFlags, 0, true⟩
/-- PKM.GCNT0.FREE (R254). -/
def PKM.GCNT0.FREE : Field := ⟨0xA000 + 0x10, 0, 16, .ro, 23296, true⟩
/-- PKM.GCNT0.QUEUED (R254). -/
def PKM.GCNT0.QUEUED : Field := ⟨0xA000 + 0x10, 16, 16, .ro, 9472, true⟩
/-- PKM.GCNT1.INFLIGHT (R254). -/
def PKM.GCNT1.INFLIGHT : Field := ⟨0xA000 + 0x14, 0, 12, .ro, 0, true⟩
/-- PKM.GCNT1.FENCED (R254). -/
def PKM.GCNT1.FENCED : Field := ⟨0xA000 + 0x14, 12, 1, .ro, 0, true⟩
/-- PKM.GCNT1.RETIRED (R254). -/
def PKM.GCNT1.RETIRED : Field := ⟨0xA000 + 0x14, 16, 16, .ro, 0, true⟩
/-- PKM.GCNT2.POOLFREE (R254). -/
def PKM.GCNT2.POOLFREE : Field := ⟨0xA000 + 0x18, 0, 16, .ro, 12800, true⟩
/-- PKM.GCNT2.SPAREUSED (R254). -/
def PKM.GCNT2.SPAREUSED : Field := ⟨0xA000 + 0x18, 16, 9, .ro, 0, true⟩
/-- PKM.ECCCNT.CORR (R254). -/
def PKM.ECCCNT.CORR : Field := ⟨0xA000 + 0x20, 0, 16, .rcCount, 0, true⟩
/-- PKM.ECCCNT.UNCORR (R254). -/
def PKM.ECCCNT.UNCORR : Field := ⟨0xA000 + 0x20, 16, 8, .rcCount, 0, true⟩
/-- PKM.ECCCNT.NOFENCE (R254). -/
def PKM.ECCCNT.NOFENCE : Field := ⟨0xA000 + 0x20, 24, 8, .rcCount, 0, true⟩
/-- PKM.LINECNT.TRANSIENT (R254). -/
def PKM.LINECNT.TRANSIENT : Field := ⟨0xA000 + 0x24, 0, 16, .rcCount, 0, true⟩
/-- PKM.LINECNT.LASTING (R254). -/
def PKM.LINECNT.LASTING : Field := ⟨0xA000 + 0x24, 16, 16, .rcCount, 0, true⟩
/-- PKM.FENCE.LINE (R254). -/
def PKM.FENCE.LINE : Field := ⟨0xA000 + 0x28, 0, 15, .ro, 0, true⟩
/-- PKM.FENCE.ACTIVE (R254). -/
def PKM.FENCE.ACTIVE : Field := ⟨0xA000 + 0x28, 15, 1, .ro, 0, true⟩
/-- PKM.FENCE.PEND (R254). -/
def PKM.FENCE.PEND : Field := ⟨0xA000 + 0x28, 16, 5, .ro, 0, true⟩
/-- PKM.FENCE.RESULT (R254). -/
def PKM.FENCE.RESULT : Field := ⟨0xA000 + 0x28, 21, 2, .ro, 0, true⟩
/-- PKM.FENCE.FALLBACK (R254). -/
def PKM.FENCE.FALLBACK : Field := ⟨0xA000 + 0x28, 23, 1, .ro, 0, true⟩
/-- PKM.PNOTE0.P00_P31 (R254). -/
def PKM.PNOTE0.P00_P31 : Field := ⟨0xA000 + 0x30, 0, 32, .rcFlags, 0, true⟩
/-- PKM.PNOTE1.P32_P47 (R254). -/
def PKM.PNOTE1.P32_P47 : Field := ⟨0xA000 + 0x34, 0, 16, .rcFlags, 0, true⟩
/-- PKM.RGN.BASE (R254). -/
def PKM.RGN.BASE (d : Nat) : Field := ⟨0xA000 + 0x400 + 4 * d, 0, 15, .rwl, rgnBase d, false⟩
/-- PKM.RGN.SIZE (R254). -/
def PKM.RGN.SIZE (d : Nat) : Field := ⟨0xA000 + 0x400 + 4 * d, 15, 16, .rwl, rgnSize d, false⟩
/-- PKM.IQPTR.WPTR (R254). -/
def PKM.IQPTR.WPTR (k : Nat) : Field := ⟨0xA000 + 0x800 + 4 * (k % 53), 0, 14, .ro, 0, true⟩
/-- PKM.IQPTR.RPTR (R254). -/
def PKM.IQPTR.RPTR (k : Nat) : Field := ⟨0xA000 + 0x800 + 4 * (k % 53), 16, 14, .ro, 0, true⟩

/-! ## SWX -/

/-- SWX.CTL.SLOTLIM (R231). -/
def SWX.CTL.SLOTLIM : Field := ⟨0xB000 + 0x0, 0, 7, .rwl, 64, false⟩
/-- SWX.CTL.LOCK (R231). -/
def SWX.CTL.LOCK : Field := ⟨0xB000 + 0x0, 16, 1, .trv, 0, false⟩
/-- SWX.GEN.GEN0 (R231). -/
def SWX.GEN.GEN0 : Field := ⟨0xB000 + 0x4, 0, 4, .ro, 0, true⟩
/-- SWX.GEN.GEN1 (R231). -/
def SWX.GEN.GEN1 : Field := ⟨0xB000 + 0x4, 4, 4, .ro, 0, true⟩
/-- SWX.GEN.GEN2 (R231). -/
def SWX.GEN.GEN2 : Field := ⟨0xB000 + 0x4, 8, 4, .ro, 0, true⟩
/-- SWX.GEN.GEN3 (R231). -/
def SWX.GEN.GEN3 : Field := ⟨0xB000 + 0x4, 12, 4, .ro, 0, true⟩
/-- SWX.LOAD.BEATS (R231). -/
def SWX.LOAD.BEATS : Field := ⟨0xB000 + 0x8, 0, 16, .ro, 0, true⟩
/-- SWX.CNTA.STALE (R231). -/
def SWX.CNTA.STALE (r : Nat) : Field := ⟨0xB000 + 0x10 + 0x10 * (r % 5), 0, 16, .rcCount, 0, true⟩
/-- SWX.CNTA.BADTAIL (R231). -/
def SWX.CNTA.BADTAIL (r : Nat) : Field := ⟨0xB000 + 0x10 + 0x10 * (r % 5), 16, 16, .rcCount, 0, true⟩
/-- SWX.CNTB.ADMNAK (R231). -/
def SWX.CNTB.ADMNAK (r : Nat) : Field := ⟨0xB000 + 0x14 + 0x10 * (r % 5), 0, 16, .rcCount, 0, true⟩
/-- SWX.CNTB.RLYWD (R231). -/
def SWX.CNTB.RLYWD (r : Nat) : Field := ⟨0xB000 + 0x14 + 0x10 * (r % 5), 16, 16, .rcCount, 0, true⟩
/-- SWX.CNTC.NOSLOT (R231). -/
def SWX.CNTC.NOSLOT (r : Nat) : Field := ⟨0xB000 + 0x18 + 0x10 * (r % 5), 0, 16, .rcCount, 0, true⟩
/-- SWX.CNTC.ISODROP (R231). -/
def SWX.CNTC.ISODROP (r : Nat) : Field := ⟨0xB000 + 0x18 + 0x10 * (r % 5), 16, 16, .rcCount, 0, true⟩
/-- SWX.RT.PORT (R231). -/
def SWX.RT.PORT (u : Nat) (a : Nat) : Field := ⟨0xB000 + 0x800 + 0x200 * (u % 4) + 4 * (a % 128), 0, 6, .ro, 0, true⟩
/-- SWX.RT.VALID (R231). -/
def SWX.RT.VALID (u : Nat) (a : Nat) : Field := ⟨0xB000 + 0x800 + 0x200 * (u % 4) + 4 * (a % 128), 6, 1, .ro, 0, true⟩
/-- SWX.RT.HSDEV (R231). -/
def SWX.RT.HSDEV (u : Nat) (a : Nat) : Field := ⟨0xB000 + 0x800 + 0x200 * (u % 4) + 4 * (a % 128), 7, 1, .ro, 0, true⟩
/-- SWX.RT.GEN (R231). -/
def SWX.RT.GEN (u : Nat) (a : Nat) : Field := ⟨0xB000 + 0x800 + 0x200 * (u % 4) + 4 * (a % 128), 8, 4, .ro, 0, true⟩

/-! ## UPS -/

/-- UPS.CTL.EN (R152). -/
def UPS.CTL.EN (u : Nat) : Field := ⟨0xC000 + 0x400 * (u % 4) + 0x0, 0, 1, .rwl, 0, false⟩
/-- UPS.CTL.PWRMODE (R152). -/
def UPS.CTL.PWRMODE (u : Nat) : Field := ⟨0xC000 + 0x400 * (u % 4) + 0x0, 1, 1, .rwl, 0, false⟩
/-- UPS.CTL.RWAKEOK (R152). -/
def UPS.CTL.RWAKEOK (u : Nat) : Field := ⟨0xC000 + 0x400 * (u % 4) + 0x0, 2, 1, .rwl, 0, false⟩
/-- UPS.CTL.CONNWAKE (R152). -/
def UPS.CTL.CONNWAKE (u : Nat) : Field := ⟨0xC000 + 0x400 * (u % 4) + 0x0, 3, 1, .rwl, 0, false⟩
/-- UPS.CTL.BINTERVAL (R152). -/
def UPS.CTL.BINTERVAL (u : Nat) : Field := ⟨0xC000 + 0x400 * (u % 4) + 0x0, 8, 5, .rwl, 12, false⟩
/-- UPS.CTL.LOCK (R152). -/
def UPS.CTL.LOCK (u : Nat) : Field := ⟨0xC000 + 0x400 * (u % 4) + 0x0, 16, 1, .trv, 0, false⟩
/-- UPS.STS.VBUS (R152). -/
def UPS.STS.VBUS (u : Nat) : Field := ⟨0xC000 + 0x400 * (u % 4) + 0x4, 0, 1, .ro, 0, true⟩
/-- UPS.STS.PULLUP (R152). -/
def UPS.STS.PULLUP (u : Nat) : Field := ⟨0xC000 + 0x400 * (u % 4) + 0x4, 1, 1, .ro, 0, true⟩
/-- UPS.STS.HS (R152). -/
def UPS.STS.HS (u : Nat) : Field := ⟨0xC000 + 0x400 * (u % 4) + 0x4, 2, 1, .ro, 0, true⟩
/-- UPS.STS.DEVSTATE (R152). -/
def UPS.STS.DEVSTATE (u : Nat) : Field := ⟨0xC000 + 0x400 * (u % 4) + 0x4, 3, 3, .ro, 0, true⟩
/-- UPS.STS.SUSP (R152). -/
def UPS.STS.SUSP (u : Nat) : Field := ⟨0xC000 + 0x400 * (u % 4) + 0x4, 6, 1, .ro, 0, true⟩
/-- UPS.STS.ALTSET (R152). -/
def UPS.STS.ALTSET (u : Nat) : Field := ⟨0xC000 + 0x400 * (u % 4) + 0x4, 7, 1, .ro, 0, true⟩
/-- UPS.STS.ADDR (R152). -/
def UPS.STS.ADDR (u : Nat) : Field := ⟨0xC000 + 0x400 * (u % 4) + 0x4, 8, 7, .ro, 0, true⟩
/-- UPS.STS.RWAKEEN (R152). -/
def UPS.STS.RWAKEEN (u : Nat) : Field := ⟨0xC000 + 0x400 * (u % 4) + 0x4, 15, 1, .ro, 0, true⟩
/-- UPS.STS.STAGED (R152). -/
def UPS.STS.STAGED (u : Nat) : Field := ⟨0xC000 + 0x400 * (u % 4) + 0x4, 16, 1, .ro, 0, true⟩
/-- UPS.EVT.BUSRST (R152). -/
def UPS.EVT.BUSRST (u : Nat) : Field := ⟨0xC000 + 0x400 * (u % 4) + 0x8, 0, 1, .rcFlags, 0, true⟩
/-- UPS.EVT.SUSPEND (R152). -/
def UPS.EVT.SUSPEND (u : Nat) : Field := ⟨0xC000 + 0x400 * (u % 4) + 0x8, 1, 1, .rcFlags, 0, true⟩
/-- UPS.EVT.RESUME (R152). -/
def UPS.EVT.RESUME (u : Nat) : Field := ⟨0xC000 + 0x400 * (u % 4) + 0x8, 2, 1, .rcFlags, 0, true⟩
/-- UPS.EVT.CONFIG (R152). -/
def UPS.EVT.CONFIG (u : Nat) : Field := ⟨0xC000 + 0x400 * (u % 4) + 0x8, 3, 1, .rcFlags, 0, true⟩
/-- UPS.EVT.CTLABORT (R152). -/
def UPS.EVT.CTLABORT (u : Nat) : Field := ⟨0xC000 + 0x400 * (u % 4) + 0x8, 4, 1, .rcFlags, 0, true⟩
/-- UPS.EVT.RWAKE (R152). -/
def UPS.EVT.RWAKE (u : Nat) : Field := ⟨0xC000 + 0x400 * (u % 4) + 0x8, 5, 1, .rcFlags, 0, true⟩
/-- UPS.EVT.VBUSCHG (R152). -/
def UPS.EVT.VBUSCHG (u : Nat) : Field := ⟨0xC000 + 0x400 * (u % 4) + 0x8, 6, 1, .rcFlags, 0, true⟩
/-- UPS.EVT.FSCONN (R152). -/
def UPS.EVT.FSCONN (u : Nat) : Field := ⟨0xC000 + 0x400 * (u % 4) + 0x8, 7, 1, .rcFlags, 0, true⟩
/-- UPS.ACCMASK.RD (R152). -/
def UPS.ACCMASK.RD (u : Nat) : Field := ⟨0xC000 + 0x400 * (u % 4) + 0xc, 0, 12, .rwl, 1, false⟩
/-- UPS.ACCMASK.WR (R152). -/
def UPS.ACCMASK.WR (u : Nat) : Field := ⟨0xC000 + 0x400 * (u % 4) + 0xc, 16, 12, .rwl, 0, false⟩
/-- UPS.PART0.P00_P31 (R152). -/
def UPS.PART0.P00_P31 (u : Nat) : Field := ⟨0xC000 + 0x400 * (u % 4) + 0x10, 0, 32, .ro, 0, true⟩
/-- UPS.PART1.P32_P47 (R152). -/
def UPS.PART1.P32_P47 (u : Nat) : Field := ⟨0xC000 + 0x400 * (u % 4) + 0x14, 0, 16, .ro, 0, true⟩
/-- UPS.HUBCFG.NBR (R152). -/
def UPS.HUBCFG.NBR (u : Nat) : Field := ⟨0xC000 + 0x400 * (u % 4) + 0x18, 0, 6, .ro, 0, true⟩
/-- UPS.HUBCFG.PWRON2PG (R152). -/
def UPS.HUBCFG.PWRON2PG (u : Nat) : Field := ⟨0xC000 + 0x400 * (u % 4) + 0x18, 8, 8, .ro, 0, true⟩
/-- UPS.HUBCFG.CONTRCUR (R152). -/
def UPS.HUBCFG.CONTRCUR (u : Nat) : Field := ⟨0xC000 + 0x400 * (u % 4) + 0x18, 16, 8, .ro, 0, true⟩
/-- UPS.HUBCFG.IND (R152). -/
def UPS.HUBCFG.IND (u : Nat) : Field := ⟨0xC000 + 0x400 * (u % 4) + 0x18, 24, 1, .ro, 0, true⟩
/-- UPS.WAKESRC.VALID (R152). -/
def UPS.WAKESRC.VALID (u : Nat) : Field := ⟨0xC000 + 0x400 * (u % 4) + 0x1c, 0, 1, .rcFlags, 0, true⟩
/-- UPS.WAKESRC.COLL (R152). -/
def UPS.WAKESRC.COLL (u : Nat) : Field := ⟨0xC000 + 0x400 * (u % 4) + 0x1c, 1, 1, .rcFlags, 0, true⟩
/-- UPS.WAKESRC.HUBPORT (R152). -/
def UPS.WAKESRC.HUBPORT (u : Nat) : Field := ⟨0xC000 + 0x400 * (u % 4) + 0x1c, 8, 6, .rcOther, 0, true⟩
/-- UPS.WAKESRC.PHYS (R152). -/
def UPS.WAKESRC.PHYS (u : Nat) : Field := ⟨0xC000 + 0x400 * (u % 4) + 0x1c, 16, 6, .rcOther, 0, true⟩
/-- UPS.CNT0.BUSRSTCNT (R152). -/
def UPS.CNT0.BUSRSTCNT (u : Nat) : Field := ⟨0xC000 + 0x400 * (u % 4) + 0x20, 0, 16, .rcCount, 0, true⟩
/-- UPS.CNT0.ABORTCNT (R152). -/
def UPS.CNT0.ABORTCNT (u : Nat) : Field := ⟨0xC000 + 0x400 * (u % 4) + 0x20, 16, 16, .rcCount, 0, true⟩
/-- UPS.CNT1.RWAKECNT (R152). -/
def UPS.CNT1.RWAKECNT (u : Nat) : Field := ⟨0xC000 + 0x400 * (u % 4) + 0x24, 0, 16, .rcCount, 0, true⟩
/-- UPS.CNT1.IGNWAKE (R152). -/
def UPS.CNT1.IGNWAKE (u : Nat) : Field := ⟨0xC000 + 0x400 * (u % 4) + 0x24, 16, 16, .rcCount, 0, true⟩
/-- UPS.TCSTS.TCSTATE (R316). -/
def UPS.TCSTS.TCSTATE (u : Nat) : Field := ⟨0xC000 + 0x400 * (u % 4) + 0x40, 0, 4, .ro, 0, true⟩
/-- UPS.TCSTS.ORIENT (R316). -/
def UPS.TCSTS.ORIENT (u : Nat) : Field := ⟨0xC000 + 0x400 * (u % 4) + 0x40, 4, 2, .ro, 0, true⟩
/-- UPS.TCSTS.RPSEEN (R316). -/
def UPS.TCSTS.RPSEEN (u : Nat) : Field := ⟨0xC000 + 0x400 * (u % 4) + 0x40, 6, 2, .ro, 0, true⟩
/-- UPS.TCSTS.NOSRC (R316). -/
def UPS.TCSTS.NOSRC (u : Nat) : Field := ⟨0xC000 + 0x400 * (u % 4) + 0x40, 8, 1, .ro, 0, true⟩
/-- UPS.TCCTL.ROLE (R316). -/
def UPS.TCCTL.ROLE (u : Nat) : Field := ⟨0xC000 + 0x400 * (u % 4) + 0x44, 0, 1, .rwl, 0, false⟩

/-! ## SEC -/

/-- SEC.CTL.REDUCED (R411). -/
def SEC.CTL.REDUCED (s : Nat) : Field := ⟨0xD000 + 0x400 * (s % 4) + 0x0, 0, 1, .rwl, 0, false⟩
/-- SEC.CTL.LOCK (R411). -/
def SEC.CTL.LOCK (s : Nat) : Field := ⟨0xD000 + 0x400 * (s % 4) + 0x0, 16, 1, .trv, 0, false⟩
/-- SEC.STS.LINK (R411). -/
def SEC.STS.LINK (s : Nat) : Field := ⟨0xD000 + 0x400 * (s % 4) + 0x4, 0, 1, .ro, 0, true⟩
/-- SEC.STS.RATE (R411). -/
def SEC.STS.RATE (s : Nat) : Field := ⟨0xD000 + 0x400 * (s % 4) + 0x4, 1, 1, .ro, 0, true⟩
/-- SEC.STS.HOLD (R411). -/
def SEC.STS.HOLD (s : Nat) : Field := ⟨0xD000 + 0x400 * (s % 4) + 0x4, 2, 1, .ro, 0, true⟩
/-- SEC.STS.PRESENT (R411). -/
def SEC.STS.PRESENT (s : Nat) : Field := ⟨0xD000 + 0x400 * (s % 4) + 0x4, 3, 1, .ro, 0, true⟩
/-- SEC.STS.ARMED (R411). -/
def SEC.STS.ARMED (s : Nat) : Field := ⟨0xD000 + 0x400 * (s % 4) + 0x4, 4, 1, .ro, 0, true⟩
/-- SEC.STS.SERUN (R411). -/
def SEC.STS.SERUN (s : Nat) : Field := ⟨0xD000 + 0x400 * (s % 4) + 0x4, 5, 1, .ro, 0, true⟩
/-- SEC.STS.PCRUN (R411). -/
def SEC.STS.PCRUN (s : Nat) : Field := ⟨0xD000 + 0x400 * (s % 4) + 0x4, 6, 1, .ro, 0, true⟩
/-- SEC.STS.VCONNOK (R411). -/
def SEC.STS.VCONNOK (s : Nat) : Field := ⟨0xD000 + 0x400 * (s % 4) + 0x4, 7, 1, .ro, 0, true⟩
/-- SEC.EVT.EVENTS (R411). -/
def SEC.EVT.EVENTS (s : Nat) : Field := ⟨0xD000 + 0x400 * (s % 4) + 0x8, 0, 8, .rcFlags, 0, true⟩
/-- SEC.TJDIE.TJ (R411). -/
def SEC.TJDIE.TJ (s : Nat) : Field := ⟨0xD000 + 0x400 * (s % 4) + 0xc, 0, 12, .ro, 0, true⟩
/-- SEC.TJDIE.PEAK (R411). -/
def SEC.TJDIE.PEAK (s : Nat) : Field := ⟨0xD000 + 0x400 * (s % 4) + 0xc, 16, 12, .rcOther, 0, true⟩
/-- SEC.LINKCNT.RETX (R411). -/
def SEC.LINKCNT.RETX (s : Nat) : Field := ⟨0xD000 + 0x400 * (s % 4) + 0x10, 0, 16, .rcCount, 0, true⟩
/-- SEC.LINKCNT.RETRAIN (R411). -/
def SEC.LINKCNT.RETRAIN (s : Nat) : Field := ⟨0xD000 + 0x400 * (s % 4) + 0x10, 16, 8, .rcCount, 0, true⟩

/-! ## QD -/

/-- QD.VIN.VIN (R339). -/
def QD.VIN.VIN (q : Nat) : Field := ⟨0xE000 + 0x200 * (q % 12) + 0x0, 0, 12, .ro, 0, true⟩
/-- QD.IIN.IIN (R339). -/
def QD.IIN.IIN (q : Nat) : Field := ⟨0xE000 + 0x200 * (q % 12) + 0x4, 0, 17, .ro, 0, true⟩
/-- QD.PIN.PIN (R339). -/
def QD.PIN.PIN (q : Nat) : Field := ⟨0xE000 + 0x200 * (q % 12) + 0x8, 0, 22, .ro, 0, true⟩
/-- QD.TBRD.TBRD (R339). -/
def QD.TBRD.TBRD (q : Nat) : Field := ⟨0xE000 + 0x200 * (q % 12) + 0xc, 0, 11, .ro, 0, true⟩
/-- QD.VWARN.LEVEL (R339). -/
def QD.VWARN.LEVEL (q : Nat) : Field := ⟨0xE000 + 0x200 * (q % 12) + 0x10, 0, 9, .rwl, 200, false⟩
/-- QD.VFAIL.LEVEL (R339). -/
def QD.VFAIL.LEVEL (q : Nat) : Field := ⟨0xE000 + 0x200 * (q % 12) + 0x14, 0, 9, .rwl, 180, false⟩
/-- QD.STS.WARN (R339). -/
def QD.STS.WARN (q : Nat) : Field := ⟨0xE000 + 0x200 * (q % 12) + 0x18, 0, 1, .ro, 0, true⟩
/-- QD.STS.FAIL (R339). -/
def QD.STS.FAIL (q : Nat) : Field := ⟨0xE000 + 0x200 * (q % 12) + 0x18, 1, 1, .ro, 0, true⟩
/-- QD.STS.WARNWAS (R339). -/
def QD.STS.WARNWAS (q : Nat) : Field := ⟨0xE000 + 0x200 * (q % 12) + 0x18, 2, 1, .rcFlags, 0, true⟩
/-- QD.STS.FAILWAS (R339). -/
def QD.STS.FAILWAS (q : Nat) : Field := ⟨0xE000 + 0x200 * (q % 12) + 0x18, 3, 1, .rcFlags, 0, true⟩
/-- QD.STS.NTCFLT (R339). -/
def QD.STS.NTCFLT (q : Nat) : Field := ⟨0xE000 + 0x200 * (q % 12) + 0x18, 4, 1, .ro, 0, true⟩
/-- QD.STS.HOT (R339). -/
def QD.STS.HOT (q : Nat) : Field := ⟨0xE000 + 0x200 * (q % 12) + 0x18, 5, 1, .ro, 0, true⟩
/-- QD.STS.IDSRC (R339). -/
def QD.STS.IDSRC (q : Nat) : Field := ⟨0xE000 + 0x200 * (q % 12) + 0x18, 6, 2, .ro, 0, true⟩
/-- QD.STS.IDDIFF (R339). -/
def QD.STS.IDDIFF (q : Nat) : Field := ⟨0xE000 + 0x200 * (q % 12) + 0x18, 8, 1, .ro, 0, true⟩
/-- QD.EVT.FAILIN (R339). -/
def QD.EVT.FAILIN (q : Nat) : Field := ⟨0xE000 + 0x200 * (q % 12) + 0x1c, 0, 1, .rcFlags, 0, true⟩
/-- QD.EVT.FAILOUT (R339). -/
def QD.EVT.FAILOUT (q : Nat) : Field := ⟨0xE000 + 0x200 * (q % 12) + 0x1c, 1, 1, .rcFlags, 0, true⟩
/-- QD.EVT.WARNIN (R339). -/
def QD.EVT.WARNIN (q : Nat) : Field := ⟨0xE000 + 0x200 * (q % 12) + 0x1c, 2, 1, .rcFlags, 0, true⟩
/-- QD.EVT.WARNOUT (R339). -/
def QD.EVT.WARNOUT (q : Nat) : Field := ⟨0xE000 + 0x200 * (q % 12) + 0x1c, 3, 1, .rcFlags, 0, true⟩
/-- QD.EVT.NTCFLT (R339). -/
def QD.EVT.NTCFLT (q : Nat) : Field := ⟨0xE000 + 0x200 * (q % 12) + 0x1c, 4, 1, .rcFlags, 0, true⟩
/-- QD.EVT.HOT (R339). -/
def QD.EVT.HOT (q : Nat) : Field := ⟨0xE000 + 0x200 * (q % 12) + 0x1c, 5, 1, .rcFlags, 0, true⟩
/-- QD.EVT.IDDIFF (R339). -/
def QD.EVT.IDDIFF (q : Nat) : Field := ⟨0xE000 + 0x200 * (q % 12) + 0x1c, 6, 1, .rcFlags, 0, true⟩
/-- QD.EVT.IDFAIL (R339). -/
def QD.EVT.IDFAIL (q : Nat) : Field := ⟨0xE000 + 0x200 * (q % 12) + 0x1c, 7, 1, .rcFlags, 0, true⟩
/-- QD.CTL.TBRDWARN (R339). -/
def QD.CTL.TBRDWARN (q : Nat) : Field := ⟨0xE000 + 0x200 * (q % 12) + 0x20, 0, 8, .rwl, 95, false⟩
/-- QD.CTL.FBICAP (R339). -/
def QD.CTL.FBICAP (q : Nat) : Field := ⟨0xE000 + 0x200 * (q % 12) + 0x20, 8, 2, .trv, 3, false⟩
/-- QD.CTL.LOCK (R339). -/
def QD.CTL.LOCK (q : Nat) : Field := ⟨0xE000 + 0x200 * (q % 12) + 0x20, 16, 1, .trv, 0, false⟩
/-- QD.ID.RSHUNT (R339). -/
def QD.ID.RSHUNT (q : Nat) : Field := ⟨0xE000 + 0x200 * (q % 12) + 0x24, 0, 13, .ro, 0, true⟩
/-- QD.ID.BOARDREV (R339). -/
def QD.ID.BOARDREV (q : Nat) : Field := ⟨0xE000 + 0x200 * (q % 12) + 0x24, 16, 8, .ro, 0, true⟩

/-! ## PRT -/

/-- PRT.HUBSTS.CONNECTION (R170). -/
def PRT.HUBSTS.CONNECTION (n : Nat) : Field := ⟨0x10000 + 0x400 * (n % 48) + 0x0, 0, 1, .ro, 0, true⟩
/-- PRT.HUBSTS.ENABLE (R170). -/
def PRT.HUBSTS.ENABLE (n : Nat) : Field := ⟨0x10000 + 0x400 * (n % 48) + 0x0, 1, 1, .ro, 0, true⟩
/-- PRT.HUBSTS.SUSPEND (R170). -/
def PRT.HUBSTS.SUSPEND (n : Nat) : Field := ⟨0x10000 + 0x400 * (n % 48) + 0x0, 2, 1, .ro, 0, true⟩
/-- PRT.HUBSTS.OVERCUR (R170). -/
def PRT.HUBSTS.OVERCUR (n : Nat) : Field := ⟨0x10000 + 0x400 * (n % 48) + 0x0, 3, 1, .ro, 0, true⟩
/-- PRT.HUBSTS.RESET (R170). -/
def PRT.HUBSTS.RESET (n : Nat) : Field := ⟨0x10000 + 0x400 * (n % 48) + 0x0, 4, 1, .ro, 0, true⟩
/-- PRT.HUBSTS.POWER (R170). -/
def PRT.HUBSTS.POWER (n : Nat) : Field := ⟨0x10000 + 0x400 * (n % 48) + 0x0, 8, 1, .ro, 0, true⟩
/-- PRT.HUBSTS.LOWSPD (R170). -/
def PRT.HUBSTS.LOWSPD (n : Nat) : Field := ⟨0x10000 + 0x400 * (n % 48) + 0x0, 9, 1, .ro, 0, true⟩
/-- PRT.HUBSTS.HIGHSPD (R170). -/
def PRT.HUBSTS.HIGHSPD (n : Nat) : Field := ⟨0x10000 + 0x400 * (n % 48) + 0x0, 10, 1, .ro, 0, true⟩
/-- PRT.HUBSTS.TEST (R170). -/
def PRT.HUBSTS.TEST (n : Nat) : Field := ⟨0x10000 + 0x400 * (n % 48) + 0x0, 11, 1, .ro, 0, true⟩
/-- PRT.HUBSTS.INDMAN (R170). -/
def PRT.HUBSTS.INDMAN (n : Nat) : Field := ⟨0x10000 + 0x400 * (n % 48) + 0x0, 12, 1, .ro, 0, true⟩
/-- PRT.HUBSTS.STATE (R170). -/
def PRT.HUBSTS.STATE (n : Nat) : Field := ⟨0x10000 + 0x400 * (n % 48) + 0x0, 16, 4, .ro, 0, true⟩
/-- PRT.HUBSTS.TESTSEL (R170). -/
def PRT.HUBSTS.TESTSEL (n : Nat) : Field := ⟨0x10000 + 0x400 * (n % 48) + 0x0, 20, 3, .ro, 0, true⟩
/-- PRT.HUBSTS.INDSHOWN (R170). -/
def PRT.HUBSTS.INDSHOWN (n : Nat) : Field := ⟨0x10000 + 0x400 * (n % 48) + 0x0, 24, 2, .ro, 0, true⟩
/-- PRT.HUBCHG.C_CONNECTION (R170). -/
def PRT.HUBCHG.C_CONNECTION (n : Nat) : Field := ⟨0x10000 + 0x400 * (n % 48) + 0x4, 0, 1, .rcFlags, 0, true⟩
/-- PRT.HUBCHG.C_ENABLE (R170). -/
def PRT.HUBCHG.C_ENABLE (n : Nat) : Field := ⟨0x10000 + 0x400 * (n % 48) + 0x4, 1, 1, .rcFlags, 0, true⟩
/-- PRT.HUBCHG.C_SUSPEND (R170). -/
def PRT.HUBCHG.C_SUSPEND (n : Nat) : Field := ⟨0x10000 + 0x400 * (n % 48) + 0x4, 2, 1, .rcFlags, 0, true⟩
/-- PRT.HUBCHG.C_OVERCUR (R170). -/
def PRT.HUBCHG.C_OVERCUR (n : Nat) : Field := ⟨0x10000 + 0x400 * (n % 48) + 0x4, 3, 1, .rcFlags, 0, true⟩
/-- PRT.HUBCHG.C_RESET (R170). -/
def PRT.HUBCHG.C_RESET (n : Nat) : Field := ⟨0x10000 + 0x400 * (n % 48) + 0x4, 4, 1, .rcFlags, 0, true⟩
/-- PRT.CTL.PRSTRT (R170). -/
def PRT.CTL.PRSTRT (n : Nat) : Field := ⟨0x10000 + 0x400 * (n % 48) + 0x8, 0, 1, .w1p, 0, false⟩
/-- PRT.CTL.OOS (R170). -/
def PRT.CTL.OOS (n : Nat) : Field := ⟨0x10000 + 0x400 * (n % 48) + 0x8, 3, 1, .trv, 0, false⟩
/-- PRT.CTL.INDMODE (R170). -/
def PRT.CTL.INDMODE (n : Nat) : Field := ⟨0x10000 + 0x400 * (n % 48) + 0x8, 4, 2, .rw, 0, false⟩
/-- PRT.CTL.INDSW (R170). -/
def PRT.CTL.INDSW (n : Nat) : Field := ⟨0x10000 + 0x400 * (n % 48) + 0x8, 6, 2, .rw, 0, false⟩
/-- PRT.CTL.FSONLY (R170). -/
def PRT.CTL.FSONLY (n : Nat) : Field := ⟨0x10000 + 0x400 * (n % 48) + 0x8, 8, 1, .rwl, 0, false⟩
/-- PRT.CTL.LOCK (R170). -/
def PRT.CTL.LOCK (n : Nat) : Field := ⟨0x10000 + 0x400 * (n % 48) + 0x8, 16, 1, .trv, 0, false⟩
/-- PRT.TCSTS.TCSTATE (R170). -/
def PRT.TCSTS.TCSTATE (n : Nat) : Field := ⟨0x10000 + 0x400 * (n % 48) + 0x10, 0, 4, .ro, 0, true⟩
/-- PRT.TCSTS.ORIENT (R170). -/
def PRT.TCSTS.ORIENT (n : Nat) : Field := ⟨0x10000 + 0x400 * (n % 48) + 0x10, 4, 2, .ro, 0, true⟩
/-- PRT.TCSTS.RPADV (R170). -/
def PRT.TCSTS.RPADV (n : Nat) : Field := ⟨0x10000 + 0x400 * (n % 48) + 0x10, 6, 2, .ro, 0, true⟩
/-- PRT.TCSTS.MOISTOK (R170). -/
def PRT.TCSTS.MOISTOK (n : Nat) : Field := ⟨0x10000 + 0x400 * (n % 48) + 0x10, 8, 1, .ro, 0, true⟩
/-- PRT.TCSTS.WET (R170). -/
def PRT.TCSTS.WET (n : Nat) : Field := ⟨0x10000 + 0x400 * (n % 48) + 0x10, 9, 1, .ro, 0, true⟩
/-- PRT.TCSTS.OOS (R170). -/
def PRT.TCSTS.OOS (n : Nat) : Field := ⟨0x10000 + 0x400 * (n % 48) + 0x10, 10, 1, .ro, 0, true⟩
/-- PRT.TCSTS.WETPIN (R170). -/
def PRT.TCSTS.WETPIN (n : Nat) : Field := ⟨0x10000 + 0x400 * (n % 48) + 0x10, 16, 4, .ro, 0, true⟩
/-- PRT.TCSTS.WETGND (R170). -/
def PRT.TCSTS.WETGND (n : Nat) : Field := ⟨0x10000 + 0x400 * (n % 48) + 0x10, 20, 1, .ro, 0, true⟩
/-- PRT.TCSTS.WETVBUS (R170). -/
def PRT.TCSTS.WETVBUS (n : Nat) : Field := ⟨0x10000 + 0x400 * (n % 48) + 0x10, 21, 1, .ro, 0, true⟩
/-- PRT.TCSTS.LEAKMIN (R170). -/
def PRT.TCSTS.LEAKMIN (n : Nat) : Field := ⟨0x10000 + 0x400 * (n % 48) + 0x10, 24, 8, .ro, 0, true⟩
/-- PRT.TCCTL.DSROLE (R170). -/
def PRT.TCCTL.DSROLE (n : Nat) : Field := ⟨0x10000 + 0x400 * (n % 48) + 0x14, 0, 2, .rwl, 0, false⟩
/-- PRT.TCCTL.RPDEF (R170). -/
def PRT.TCCTL.RPDEF (n : Nat) : Field := ⟨0x10000 + 0x400 * (n % 48) + 0x14, 2, 2, .rwl, 1, false⟩
/-- PRT.TCCTL.MOISTBYP (R170). -/
def PRT.TCCTL.MOISTBYP (n : Nat) : Field := ⟨0x10000 + 0x400 * (n % 48) + 0x14, 4, 1, .rwl, 0, false⟩
/-- PRT.QCFG.ALMEN (R190). -/
def PRT.QCFG.ALMEN (n : Nat) : Field := ⟨0x10000 + 0x400 * (n % 48) + 0x60, 0, 1, .rwl, 1, false⟩
/-- PRT.QCFG.ALMCLR (R190). -/
def PRT.QCFG.ALMCLR (n : Nat) : Field := ⟨0x10000 + 0x400 * (n % 48) + 0x60, 1, 1, .w1p, 0, false⟩
/-- PRT.QCFG.TTRST (R190). -/
def PRT.QCFG.TTRST (n : Nat) : Field := ⟨0x10000 + 0x400 * (n % 48) + 0x60, 2, 1, .w1p, 0, false⟩
/-- PRT.QSTS.LATECNT (R190). -/
def PRT.QSTS.LATECNT (n : Nat) : Field := ⟨0x10000 + 0x400 * (n % 48) + 0x64, 0, 8, .rcCount, 0, true⟩
/-- PRT.QSTS.OVFCNT (R190). -/
def PRT.QSTS.OVFCNT (n : Nat) : Field := ⟨0x10000 + 0x400 * (n % 48) + 0x64, 8, 4, .rcCount, 0, true⟩
/-- PRT.QSTS.ALMFULL (R190). -/
def PRT.QSTS.ALMFULL (n : Nat) : Field := ⟨0x10000 + 0x400 * (n % 48) + 0x64, 12, 4, .rcCount, 0, true⟩
/-- PRT.QSTS.PBUSY (R190). -/
def PRT.QSTS.PBUSY (n : Nat) : Field := ⟨0x10000 + 0x400 * (n % 48) + 0x64, 16, 5, .ro, 0, true⟩
/-- PRT.QSTS.NPBUSY (R190). -/
def PRT.QSTS.NPBUSY (n : Nat) : Field := ⟨0x10000 + 0x400 * (n % 48) + 0x64, 21, 3, .ro, 0, true⟩
/-- PRT.QSTS.STOPPED (R190). -/
def PRT.QSTS.STOPPED (n : Nat) : Field := ⟨0x10000 + 0x400 * (n % 48) + 0x64, 24, 1, .ro, 0, true⟩
/-- PRT.ALM.STATE (R190). -/
def PRT.ALM.STATE (n : Nat) (k : Nat) : Field := ⟨0x10000 + 0x400 * (n % 48) + 0x80 + 4 * (k % 16), 0, 2, .ro, 0, true⟩
/-- PRT.ALM.TYPE (R190). -/
def PRT.ALM.TYPE (n : Nat) (k : Nat) : Field := ⟨0x10000 + 0x400 * (n % 48) + 0x80 + 4 * (k % 16), 2, 1, .ro, 0, true⟩
/-- PRT.ALM.DIR (R190). -/
def PRT.ALM.DIR (n : Nat) (k : Nat) : Field := ⟨0x10000 + 0x400 * (n % 48) + 0x80 + 4 * (k % 16), 3, 1, .ro, 0, true⟩
/-- PRT.ALM.ADDR (R190). -/
def PRT.ALM.ADDR (n : Nat) (k : Nat) : Field := ⟨0x10000 + 0x400 * (n % 48) + 0x80 + 4 * (k % 16), 4, 7, .ro, 0, true⟩
/-- PRT.ALM.EP (R190). -/
def PRT.ALM.EP (n : Nat) (k : Nat) : Field := ⟨0x10000 + 0x400 * (n % 48) + 0x80 + 4 * (k % 16), 11, 4, .ro, 0, true⟩
/-- PRT.ALM.PERIOD (R190). -/
def PRT.ALM.PERIOD (n : Nat) (k : Nat) : Field := ⟨0x10000 + 0x400 * (n % 48) + 0x80 + 4 * (k % 16), 15, 3, .ro, 0, true⟩
/-- PRT.ALM.PHASE (R190). -/
def PRT.ALM.PHASE (n : Nat) (k : Nat) : Field := ⟨0x10000 + 0x400 * (n % 48) + 0x80 + 4 * (k % 16), 18, 10, .ro, 0, true⟩
/-- PRT.ALM.MPSCLS (R190). -/
def PRT.ALM.MPSCLS (n : Nat) (k : Nat) : Field := ⟨0x10000 + 0x400 * (n % 48) + 0x80 + 4 * (k % 16), 28, 3, .ro, 0, true⟩
/-- PRT.ALM.TOGGLE (R190). -/
def PRT.ALM.TOGGLE (n : Nat) (k : Nat) : Field := ⟨0x10000 + 0x400 * (n % 48) + 0x80 + 4 * (k % 16), 31, 1, .ro, 0, true⟩
/-- PRT.MTRSTS.WITHDRAWN (R210). -/
def PRT.MTRSTS.WITHDRAWN (n : Nat) : Field := ⟨0x10000 + 0x400 * (n % 48) + 0xc0, 0, 8, .rcCount, 0, true⟩
/-- PRT.MTRSTS.STRANDED (R210). -/
def PRT.MTRSTS.STRANDED (n : Nat) : Field := ⟨0x10000 + 0x400 * (n % 48) + 0xc0, 8, 8, .rcCount, 0, true⟩
/-- PRT.MTRSTS.BLOCK (R210). -/
def PRT.MTRSTS.BLOCK (n : Nat) : Field := ⟨0x10000 + 0x400 * (n % 48) + 0xc0, 16, 4, .ro, 1, true⟩
/-- PRT.MTRSTS.NOFIT (R210). -/
def PRT.MTRSTS.NOFIT (n : Nat) : Field := ⟨0x10000 + 0x400 * (n % 48) + 0xc0, 24, 8, .rcCount, 0, true⟩
/-- PRT.MTRCFG.MODE (R210). -/
def PRT.MTRCFG.MODE (n : Nat) : Field := ⟨0x10000 + 0x400 * (n % 48) + 0xc4, 0, 2, .rwl, 0, false⟩
/-- PRT.MTRCFG.LEAD (R210). -/
def PRT.MTRCFG.LEAD (n : Nat) : Field := ⟨0x10000 + 0x400 * (n % 48) + 0xc4, 2, 2, .rwl, 2, false⟩
/-- PRT.MTRCFG.MISSLIM (R210). -/
def PRT.MTRCFG.MISSLIM (n : Nat) : Field := ⟨0x10000 + 0x400 * (n % 48) + 0xc4, 4, 4, .rwl, 2, false⟩
/-- PRT.MTRCNT.DATAHIT (R210). -/
def PRT.MTRCNT.DATAHIT (n : Nat) : Field := ⟨0x10000 + 0x400 * (n % 48) + 0xc8, 0, 16, .rcCount, 0, true⟩
/-- PRT.MTRCNT.NAKHIT (R210). -/
def PRT.MTRCNT.NAKHIT (n : Nat) : Field := ⟨0x10000 + 0x400 * (n % 48) + 0xc8, 16, 16, .rcCount, 0, true⟩
/-- PRT.MTRMAP.ARMED (R210). -/
def PRT.MTRMAP.ARMED (n : Nat) : Field := ⟨0x10000 + 0x400 * (n % 48) + 0xcc, 0, 16, .ro, 0, true⟩
/-- PRT.MTRMAP.HELD (R210). -/
def PRT.MTRMAP.HELD (n : Nat) : Field := ⟨0x10000 + 0x400 * (n % 48) + 0xcc, 16, 16, .ro, 0, true⟩
/-- PRT.OWNER.OWN (R268). -/
def PRT.OWNER.OWN (n : Nat) : Field := ⟨0x10000 + 0x400 * (n % 48) + 0xc, 0, 3, .ro, 7, true⟩
/-- PRT.OWNER.NEXT (R268). -/
def PRT.OWNER.NEXT (n : Nat) : Field := ⟨0x10000 + 0x400 * (n % 48) + 0xc, 4, 3, .ro, 7, true⟩
/-- PRT.OWNER.REQTO (R268). -/
def PRT.OWNER.REQTO (n : Nat) : Field := ⟨0x10000 + 0x400 * (n % 48) + 0xc, 8, 3, .rw, 7, false⟩
/-- PRT.OWNER.GO (R268). -/
def PRT.OWNER.GO (n : Nat) : Field := ⟨0x10000 + 0x400 * (n % 48) + 0xc, 11, 1, .w1p, 0, false⟩
/-- PRT.OWNER.STATE (R268). -/
def PRT.OWNER.STATE (n : Nat) : Field := ⟨0x10000 + 0x400 * (n % 48) + 0xc, 16, 2, .ro, 0, true⟩
/-- PRT.OWNER.LASTBY (R268). -/
def PRT.OWNER.LASTBY (n : Nat) : Field := ⟨0x10000 + 0x400 * (n % 48) + 0xc, 20, 3, .ro, 7, true⟩
/-- PRT.OWNER.LASTRES (R268). -/
def PRT.OWNER.LASTRES (n : Nat) : Field := ⟨0x10000 + 0x400 * (n % 48) + 0xc, 24, 8, .ro, 0, true⟩
/-- PRT.OWNCNT.DONE (R268). -/
def PRT.OWNCNT.DONE (n : Nat) : Field := ⟨0x10000 + 0x400 * (n % 48) + 0x18, 0, 8, .rcCount, 0, true⟩
/-- PRT.OWNCNT.LOST (R268). -/
def PRT.OWNCNT.LOST (n : Nat) : Field := ⟨0x10000 + 0x400 * (n % 48) + 0x18, 8, 8, .rcCount, 0, true⟩
/-- PRT.OWNCNT.RSTHO (R268). -/
def PRT.OWNCNT.RSTHO (n : Nat) : Field := ⟨0x10000 + 0x400 * (n % 48) + 0x18, 16, 8, .rcCount, 0, true⟩
/-- PRT.TCEVT.ATTACH (R316). -/
def PRT.TCEVT.ATTACH (n : Nat) : Field := ⟨0x10000 + 0x400 * (n % 48) + 0x1c, 0, 1, .rcFlags, 0, true⟩
/-- PRT.TCEVT.DETACH (R316). -/
def PRT.TCEVT.DETACH (n : Nat) : Field := ⟨0x10000 + 0x400 * (n % 48) + 0x1c, 1, 1, .rcFlags, 0, true⟩
/-- PRT.TCEVT.FOREIGN (R316). -/
def PRT.TCEVT.FOREIGN (n : Nat) : Field := ⟨0x10000 + 0x400 * (n % 48) + 0x1c, 2, 1, .rcFlags, 0, true⟩
/-- PRT.TCEVT.ACCESS (R316). -/
def PRT.TCEVT.ACCESS (n : Nat) : Field := ⟨0x10000 + 0x400 * (n % 48) + 0x1c, 3, 1, .rcFlags, 0, true⟩
/-- PRT.TCEVT.ERRREC (R316). -/
def PRT.TCEVT.ERRREC (n : Nat) : Field := ⟨0x10000 + 0x400 * (n % 48) + 0x1c, 4, 1, .rcFlags, 0, true⟩
/-- PRT.TCEVT.WETIN (R316). -/
def PRT.TCEVT.WETIN (n : Nat) : Field := ⟨0x10000 + 0x400 * (n % 48) + 0x1c, 5, 1, .rcFlags, 0, true⟩
/-- PRT.TCEVT.WETOUT (R316). -/
def PRT.TCEVT.WETOUT (n : Nat) : Field := ⟨0x10000 + 0x400 * (n % 48) + 0x1c, 6, 1, .rcFlags, 0, true⟩
/-- PRT.TCEVT.OOS (R316). -/
def PRT.TCEVT.OOS (n : Nat) : Field := ⟨0x10000 + 0x400 * (n % 48) + 0x1c, 7, 1, .rcFlags, 0, true⟩
/-- PRT.TCEVT.CCOV (R316). -/
def PRT.TCEVT.CCOV (n : Nat) : Field := ⟨0x10000 + 0x400 * (n % 48) + 0x1c, 8, 1, .rcFlags, 0, true⟩
/-- PRT.PDSTS.OBJPOS (R316). -/
def PRT.PDSTS.OBJPOS (n : Nat) : Field := ⟨0x10000 + 0x400 * (n % 48) + 0x20, 0, 3, .ro, 0, true⟩
/-- PRT.PDSTS.EXPLICIT (R316). -/
def PRT.PDSTS.EXPLICIT (n : Nat) : Field := ⟨0x10000 + 0x400 * (n % 48) + 0x20, 3, 1, .ro, 0, true⟩
/-- PRT.PDSTS.REV (R316). -/
def PRT.PDSTS.REV (n : Nat) : Field := ⟨0x10000 + 0x400 * (n % 48) + 0x20, 4, 2, .ro, 0, true⟩
/-- PRT.PDSTS.VSEL (R316). -/
def PRT.PDSTS.VSEL (n : Nat) : Field := ⟨0x10000 + 0x400 * (n % 48) + 0x20, 6, 2, .ro, 0, true⟩
/-- PRT.PDSTS.OPCURR (R316). -/
def PRT.PDSTS.OPCURR (n : Nat) : Field := ⟨0x10000 + 0x400 * (n % 48) + 0x20, 8, 10, .ro, 0, true⟩
/-- PRT.PDSTS.CABLE (R316). -/
def PRT.PDSTS.CABLE (n : Nat) : Field := ⟨0x10000 + 0x400 * (n % 48) + 0x20, 18, 2, .ro, 0, true⟩
/-- PRT.PDSTS.VCSRC (R316). -/
def PRT.PDSTS.VCSRC (n : Nat) : Field := ⟨0x10000 + 0x400 * (n % 48) + 0x20, 20, 1, .ro, 0, true⟩
/-- PRT.PDSTS.ALTMODE (R316). -/
def PRT.PDSTS.ALTMODE (n : Nat) : Field := ⟨0x10000 + 0x400 * (n % 48) + 0x20, 21, 1, .ro, 0, true⟩
/-- PRT.PDSTS.PWRROLE (R316). -/
def PRT.PDSTS.PWRROLE (n : Nat) : Field := ⟨0x10000 + 0x400 * (n % 48) + 0x20, 22, 2, .ro, 0, true⟩
/-- PRT.PDSTS.EVT (R316). -/
def PRT.PDSTS.EVT (n : Nat) : Field := ⟨0x10000 + 0x400 * (n % 48) + 0x20, 24, 8, .rcFlags, 0, true⟩
/-- PRT.PDCTL.VMAX (R316). -/
def PRT.PDCTL.VMAX (n : Nat) : Field := ⟨0x10000 + 0x400 * (n % 48) + 0x24, 0, 2, .rwl, 3, false⟩
/-- PRT.PDCTL.PDEN (R316). -/
def PRT.PDCTL.PDEN (n : Nat) : Field := ⟨0x10000 + 0x400 * (n % 48) + 0x24, 3, 1, .rwl, 1, false⟩
/-- PRT.PDCTL.IMAX (R316). -/
def PRT.PDCTL.IMAX (n : Nat) : Field := ⟨0x10000 + 0x400 * (n % 48) + 0x24, 4, 9, .rwl, 300, false⟩
/-- PRT.PDCTL.RESEND (R316). -/
def PRT.PDCTL.RESEND (n : Nat) : Field := ⟨0x10000 + 0x400 * (n % 48) + 0x24, 16, 1, .w1p, 0, false⟩
/-- PRT.PDCTL.HRESET (R316). -/
def PRT.PDCTL.HRESET (n : Nat) : Field := ⟨0x10000 + 0x400 * (n % 48) + 0x24, 17, 1, .w1p, 0, false⟩
/-- PRT.PDCTL.VCSWAP (R316). -/
def PRT.PDCTL.VCSWAP (n : Nat) : Field := ⟨0x10000 + 0x400 * (n % 48) + 0x24, 18, 1, .w1p, 0, false⟩
/-- PRT.PDCTL.SOPPDISC (R316). -/
def PRT.PDCTL.SOPPDISC (n : Nat) : Field := ⟨0x10000 + 0x400 * (n % 48) + 0x24, 19, 1, .w1p, 0, false⟩
/-- PRT.VCONN.ON (R316). -/
def PRT.VCONN.ON (n : Nat) : Field := ⟨0x10000 + 0x400 * (n % 48) + 0x28, 0, 1, .ro, 0, true⟩
/-- PRT.VCONN.PIN (R316). -/
def PRT.VCONN.PIN (n : Nat) : Field := ⟨0x10000 + 0x400 * (n % 48) + 0x28, 1, 1, .ro, 0, true⟩
/-- PRT.VCONN.ALLOW (R316). -/
def PRT.VCONN.ALLOW (n : Nat) : Field := ⟨0x10000 + 0x400 * (n % 48) + 0x28, 2, 1, .rwl, 1, false⟩
/-- PRT.VCONN.IMEAS (R316). -/
def PRT.VCONN.IMEAS (n : Nat) : Field := ⟨0x10000 + 0x400 * (n % 48) + 0x28, 4, 10, .ro, 0, true⟩
/-- PRT.VCONN.OCCNT (R316). -/
def PRT.VCONN.OCCNT (n : Nat) : Field := ⟨0x10000 + 0x400 * (n % 48) + 0x28, 16, 8, .rcCount, 0, true⟩
/-- PRT.VCONN.SWAPCNT (R316). -/
def PRT.VCONN.SWAPCNT (n : Nat) : Field := ⟨0x10000 + 0x400 * (n % 48) + 0x28, 24, 8, .rcCount, 0, true⟩
/-- PRT.ALTMUX.ALLOW (R316). -/
def PRT.ALTMUX.ALLOW (n : Nat) : Field := ⟨0x10000 + 0x400 * (n % 48) + 0x2c, 0, 1, .rwl, 1, false⟩
/-- PRT.ALTMUX.KICK (R316). -/
def PRT.ALTMUX.KICK (n : Nat) : Field := ⟨0x10000 + 0x400 * (n % 48) + 0x2c, 1, 1, .w1p, 0, false⟩
/-- PRT.ALTMUX.ACTIVE (R316). -/
def PRT.ALTMUX.ACTIVE (n : Nat) : Field := ⟨0x10000 + 0x400 * (n % 48) + 0x2c, 2, 1, .ro, 0, true⟩
/-- PRT.ALTMUX.QHOLD (R316). -/
def PRT.ALTMUX.QHOLD (n : Nat) : Field := ⟨0x10000 + 0x400 * (n % 48) + 0x2c, 4, 2, .ro, 0, true⟩
/-- PRT.ALTMUX.QBUSY (R316). -/
def PRT.ALTMUX.QBUSY (n : Nat) : Field := ⟨0x10000 + 0x400 * (n % 48) + 0x2c, 6, 1, .ro, 0, true⟩
/-- PRT.ALTMUX.NAKCNT (R316). -/
def PRT.ALTMUX.NAKCNT (n : Nat) : Field := ⟨0x10000 + 0x400 * (n % 48) + 0x2c, 8, 8, .rcCount, 0, true⟩
/-- PRT.ALTMUX.SVID (R316). -/
def PRT.ALTMUX.SVID (n : Nat) : Field := ⟨0x10000 + 0x400 * (n % 48) + 0x2c, 16, 16, .ro, 0, true⟩
/-- PRT.PDCNT.HRSENT (R316). -/
def PRT.PDCNT.HRSENT (n : Nat) : Field := ⟨0x10000 + 0x400 * (n % 48) + 0x30, 0, 8, .rcCount, 0, true⟩
/-- PRT.PDCNT.HRRCVD (R316). -/
def PRT.PDCNT.HRRCVD (n : Nat) : Field := ⟨0x10000 + 0x400 * (n % 48) + 0x30, 8, 8, .rcCount, 0, true⟩
/-- PRT.PDCNT.REJECTS (R316). -/
def PRT.PDCNT.REJECTS (n : Nat) : Field := ⟨0x10000 + 0x400 * (n % 48) + 0x30, 16, 8, .rcCount, 0, true⟩
/-- PRT.PDCNT.ALERTS (R316). -/
def PRT.PDCNT.ALERTS (n : Nat) : Field := ⟨0x10000 + 0x400 * (n % 48) + 0x30, 24, 8, .rcCount, 0, true⟩
/-- PRT.FUSCFG.ILIM (R339). -/
def PRT.FUSCFG.ILIM (n : Nat) : Field := ⟨0x10000 + 0x400 * (n % 48) + 0x40, 0, 10, .trv, 385, false⟩
/-- PRT.FUSCFG.FTIME (R339). -/
def PRT.FUSCFG.FTIME (n : Nat) : Field := ⟨0x10000 + 0x400 * (n % 48) + 0x40, 10, 9, .trv, 100, false⟩
/-- PRT.FUSCFG.RETRY (R339). -/
def PRT.FUSCFG.RETRY (n : Nat) : Field := ⟨0x10000 + 0x400 * (n % 48) + 0x40, 19, 3, .rwl, 3, false⟩
/-- PRT.FUSCFG.RWAIT (R339). -/
def PRT.FUSCFG.RWAIT (n : Nat) : Field := ⟨0x10000 + 0x400 * (n % 48) + 0x40, 22, 4, .rwl, 4, false⟩
/-- PRT.FUSCFG.PGQ (R339). -/
def PRT.FUSCFG.PGQ (n : Nat) : Field := ⟨0x10000 + 0x400 * (n % 48) + 0x40, 26, 3, .rwl, 2, false⟩
/-- PRT.FUSCFG.REARM (R339). -/
def PRT.FUSCFG.REARM (n : Nat) : Field := ⟨0x10000 + 0x400 * (n % 48) + 0x40, 29, 1, .w1p, 0, false⟩
/-- PRT.FUSSTS.STATE (R339). -/
def PRT.FUSSTS.STATE (n : Nat) : Field := ⟨0x10000 + 0x400 * (n % 48) + 0x44, 0, 3, .ro, 0, true⟩
/-- PRT.FUSSTS.PG (R339). -/
def PRT.FUSSTS.PG (n : Nat) : Field := ⟨0x10000 + 0x400 * (n % 48) + 0x44, 3, 1, .ro, 0, true⟩
/-- PRT.FUSSTS.LIMIT (R339). -/
def PRT.FUSSTS.LIMIT (n : Nat) : Field := ⟨0x10000 + 0x400 * (n % 48) + 0x44, 4, 1, .ro, 0, true⟩
/-- PRT.FUSSTS.FOLD (R339). -/
def PRT.FUSSTS.FOLD (n : Nat) : Field := ⟨0x10000 + 0x400 * (n % 48) + 0x44, 5, 1, .ro, 0, true⟩
/-- PRT.FUSSTS.GATEON (R339). -/
def PRT.FUSSTS.GATEON (n : Nat) : Field := ⟨0x10000 + 0x400 * (n % 48) + 0x44, 6, 1, .ro, 0, true⟩
/-- PRT.FUSSTS.CAUSE (R339). -/
def PRT.FUSSTS.CAUSE (n : Nat) : Field := ⟨0x10000 + 0x400 * (n % 48) + 0x44, 8, 3, .ro, 0, true⟩
/-- PRT.FUSSTS.SENSE (R339). -/
def PRT.FUSSTS.SENSE (n : Nat) : Field := ⟨0x10000 + 0x400 * (n % 48) + 0x44, 11, 1, .ro, 0, true⟩
/-- PRT.FUSSTS.TRIPS (R339). -/
def PRT.FUSSTS.TRIPS (n : Nat) : Field := ⟨0x10000 + 0x400 * (n % 48) + 0x44, 12, 4, .ro, 0, true⟩
/-- PRT.FUSSTS.WAIT (R339). -/
def PRT.FUSSTS.WAIT (n : Nat) : Field := ⟨0x10000 + 0x400 * (n % 48) + 0x44, 16, 7, .ro, 0, true⟩
/-- PRT.FUSSTS.FTFILL (R339). -/
def PRT.FUSSTS.FTFILL (n : Nat) : Field := ⟨0x10000 + 0x400 * (n % 48) + 0x44, 24, 7, .ro, 0, true⟩
/-- PRT.FUSEVT.TRIP (R339). -/
def PRT.FUSEVT.TRIP (n : Nat) : Field := ⟨0x10000 + 0x400 * (n % 48) + 0x48, 0, 1, .rcFlags, 0, true⟩
/-- PRT.FUSEVT.HSHORT (R339). -/
def PRT.FUSEVT.HSHORT (n : Nat) : Field := ⟨0x10000 + 0x400 * (n % 48) + 0x48, 1, 1, .rcFlags, 0, true⟩
/-- PRT.FUSEVT.OVERLOAD (R339). -/
def PRT.FUSEVT.OVERLOAD (n : Nat) : Field := ⟨0x10000 + 0x400 * (n % 48) + 0x48, 2, 1, .rcFlags, 0, true⟩
/-- PRT.FUSEVT.THERMAL (R339). -/
def PRT.FUSEVT.THERMAL (n : Nat) : Field := ⟨0x10000 + 0x400 * (n % 48) + 0x48, 3, 1, .rcFlags, 0, true⟩
/-- PRT.FUSEVT.OV (R339). -/
def PRT.FUSEVT.OV (n : Nat) : Field := ⟨0x10000 + 0x400 * (n % 48) + 0x48, 4, 1, .rcFlags, 0, true⟩
/-- PRT.FUSEVT.VFAULT (R339). -/
def PRT.FUSEVT.VFAULT (n : Nat) : Field := ⟨0x10000 + 0x400 * (n % 48) + 0x48, 5, 1, .rcFlags, 0, true⟩
/-- PRT.FUSEVT.SENSEFLT (R339). -/
def PRT.FUSEVT.SENSEFLT (n : Nat) : Field := ⟨0x10000 + 0x400 * (n % 48) + 0x48, 6, 1, .rcFlags, 0, true⟩
/-- PRT.FUSEVT.LATCHED (R339). -/
def PRT.FUSEVT.LATCHED (n : Nat) : Field := ⟨0x10000 + 0x400 * (n % 48) + 0x48, 7, 1, .rcFlags, 0, true⟩
/-- PRT.FUSEVT.REARMED (R339). -/
def PRT.FUSEVT.REARMED (n : Nat) : Field := ⟨0x10000 + 0x400 * (n % 48) + 0x48, 8, 1, .rcFlags, 0, true⟩
/-- PRT.FUSEVT.PGON (R339). -/
def PRT.FUSEVT.PGON (n : Nat) : Field := ⟨0x10000 + 0x400 * (n % 48) + 0x48, 9, 1, .rcFlags, 0, true⟩
/-- PRT.FUSEVT.PGOFF (R339). -/
def PRT.FUSEVT.PGOFF (n : Nat) : Field := ⟨0x10000 + 0x400 * (n % 48) + 0x48, 10, 1, .rcFlags, 0, true⟩
/-- PRT.FUSEVT.LIMITIN (R339). -/
def PRT.FUSEVT.LIMITIN (n : Nat) : Field := ⟨0x10000 + 0x400 * (n % 48) + 0x48, 11, 1, .rcFlags, 0, true⟩
/-- PRT.FUSEVT.QUALRST (R339). -/
def PRT.FUSEVT.QUALRST (n : Nat) : Field := ⟨0x10000 + 0x400 * (n % 48) + 0x48, 12, 1, .rcFlags, 0, true⟩
/-- PRT.FUSEVT.CLEAN (R339). -/
def PRT.FUSEVT.CLEAN (n : Nat) : Field := ⟨0x10000 + 0x400 * (n % 48) + 0x48, 13, 1, .rcFlags, 0, true⟩
/-- PRT.FUSEVT.TWARN (R339). -/
def PRT.FUSEVT.TWARN (n : Nat) : Field := ⟨0x10000 + 0x400 * (n % 48) + 0x48, 14, 1, .rcFlags, 0, true⟩
/-- PRT.FUSEVT.TREL (R339). -/
def PRT.FUSEVT.TREL (n : Nat) : Field := ⟨0x10000 + 0x400 * (n % 48) + 0x48, 15, 1, .rcFlags, 0, true⟩
/-- PRT.FUSEVT.TRIPCNT (R339). -/
def PRT.FUSEVT.TRIPCNT (n : Nat) : Field := ⟨0x10000 + 0x400 * (n % 48) + 0x48, 24, 8, .rcCount, 0, true⟩
/-- PRT.TJEST.TJ (R339). -/
def PRT.TJEST.TJ (n : Nat) : Field := ⟨0x10000 + 0x400 * (n % 48) + 0x4c, 0, 12, .ro, 0, true⟩
/-- PRT.TJEST.PFET (R339). -/
def PRT.TJEST.PFET (n : Nat) : Field := ⟨0x10000 + 0x400 * (n % 48) + 0x4c, 16, 16, .ro, 0, true⟩
/-- PRT.VBUSMEAS.VBUS (R339). -/
def PRT.VBUSMEAS.VBUS (n : Nat) : Field := ⟨0x10000 + 0x400 * (n % 48) + 0x50, 0, 12, .ro, 0, true⟩
/-- PRT.VBUSMEAS.FBICODE (R339). -/
def PRT.VBUSMEAS.FBICODE (n : Nat) : Field := ⟨0x10000 + 0x400 * (n % 48) + 0x50, 16, 12, .ro, 0, true⟩
/-- PRT.IBUSMEAS.IBUS (R339). -/
def PRT.IBUSMEAS.IBUS (n : Nat) : Field := ⟨0x10000 + 0x400 * (n % 48) + 0x54, 0, 16, .ro, 0, true⟩
/-- PRT.IBUSMEAS.ISET (R339). -/
def PRT.IBUSMEAS.ISET (n : Nat) : Field := ⟨0x10000 + 0x400 * (n % 48) + 0x54, 16, 10, .ro, 0, true⟩

/-! ## LDS -/

/-- LDS.CTL.EN (R288). -/
def LDS.CTL.EN : Field := ⟨0x20000 + 0x0, 0, 1, .rwl, 1, false⟩
/-- LDS.CTL.ENUMTRY (R288). -/
def LDS.CTL.ENUMTRY : Field := ⟨0x20000 + 0x0, 2, 2, .rwl, 2, false⟩
/-- LDS.CTL.REQTMO (R288). -/
def LDS.CTL.REQTMO : Field := ⟨0x20000 + 0x0, 8, 8, .rwl, 50, false⟩
/-- LDS.CTL.LOCK (R288). -/
def LDS.CTL.LOCK : Field := ⟨0x20000 + 0x0, 16, 1, .trv, 0, false⟩
/-- LDS.STS.RUN (R288). -/
def LDS.STS.RUN : Field := ⟨0x20000 + 0x4, 0, 1, .ro, 0, true⟩
/-- LDS.STS.NPROF (R288). -/
def LDS.STS.NPROF : Field := ⟨0x20000 + 0x4, 4, 5, .ro, 0, true⟩
/-- LDS.STS.NOWNED (R288). -/
def LDS.STS.NOWNED : Field := ⟨0x20000 + 0x4, 16, 6, .ro, 0, true⟩
/-- LDS.STS.NBUSY (R288). -/
def LDS.STS.NBUSY : Field := ⟨0x20000 + 0x4, 22, 4, .ro, 0, true⟩
/-- LDS.CNT0.HBDROP (R288). -/
def LDS.CNT0.HBDROP : Field := ⟨0x20000 + 0x8, 0, 16, .rcCount, 0, true⟩
/-- LDS.CNT0.ENUMFAIL (R288). -/
def LDS.CNT0.ENUMFAIL : Field := ⟨0x20000 + 0x8, 16, 16, .rcCount, 0, true⟩
/-- LDS.CNT1.CTLTMO (R288). -/
def LDS.CNT1.CTLTMO : Field := ⟨0x20000 + 0xc, 0, 16, .rcCount, 0, true⟩
/-- LDS.CNT1.HBSTALL (R288). -/
def LDS.CNT1.HBSTALL : Field := ⟨0x20000 + 0xc, 16, 16, .rcCount, 0, true⟩
/-- LDS.CHG0.P00_P31 (R288). -/
def LDS.CHG0.P00_P31 : Field := ⟨0x20000 + 0x10, 0, 32, .rcFlags, 0, true⟩
/-- LDS.CHG1.P32_P47 (R288). -/
def LDS.CHG1.P32_P47 : Field := ⟨0x20000 + 0x14, 0, 16, .rcFlags, 0, true⟩
/-- LDS.RSUM.STATE (R288). -/
def LDS.RSUM.STATE (n : Nat) : Field := ⟨0x20000 + 0x100 + 4 * (n % 48), 0, 4, .ro, 0, true⟩
/-- LDS.RSUM.RESULT (R288). -/
def LDS.RSUM.RESULT (n : Nat) : Field := ⟨0x20000 + 0x100 + 4 * (n % 48), 8, 8, .ro, 0, true⟩
/-- LDS.RSUM.PROFILE (R288). -/
def LDS.RSUM.PROFILE (n : Nat) : Field := ⟨0x20000 + 0x100 + 4 * (n % 48), 16, 5, .ro, 31, true⟩
/-- LDS.RSUM.IDVALID (R288). -/
def LDS.RSUM.IDVALID (n : Nat) : Field := ⟨0x20000 + 0x100 + 4 * (n % 48), 24, 1, .ro, 0, true⟩
/-- LDS.RSUM.HBUSED (R288). -/
def LDS.RSUM.HBUSED (n : Nat) : Field := ⟨0x20000 + 0x100 + 4 * (n % 48), 25, 1, .ro, 0, true⟩

/-! ## Fault words (R386) -/

/-- FLTSTS.SRC of a fault block (R386). -/
def FLT.FLTSTS.SRC (b : FBlk) : Field := ⟨b.base + 0x0, 0, 16, .rcFlags, 0, false⟩
/-- FLTSEV.SEVk of a fault block (R386); reset from R374. -/
def FLT.FLTSEV.SEV (b : FBlk) (k : Nat) : Field :=
  ⟨b.base + 0x4, 2 * (k % 16), 2, .rwl, b.sevReset / 2 ^ (2 * k) % 4, false⟩
/-- FLTFIRST.SRC of a fault block (R386). -/
def FLT.FLTFIRST.SRC (b : FBlk) : Field := ⟨b.base + 0x8, 0, 4, .rcOther, 0, false⟩
/-- FLTFIRST.SEV of a fault block (R386). -/
def FLT.FLTFIRST.SEV (b : FBlk) : Field := ⟨b.base + 0x8, 4, 2, .rcOther, 0, false⟩
/-- FLTFIRST.VALID of a fault block (R386). -/
def FLT.FLTFIRST.VALID (b : FBlk) : Field := ⟨b.base + 0x8, 6, 1, .rcFlags, 0, false⟩
/-- FLTFIRST.MER of a fault block (R386). -/
def FLT.FLTFIRST.MER (b : FBlk) : Field := ⟨b.base + 0x8, 8, 24, .rcOther, 0, false⟩
/-- FLTACK.ACK of a fault block (R386). -/
def FLT.FLTACK.ACK (b : FBlk) : Field := ⟨b.base + 0xc, 0, 1, .w1p, 0, false⟩
/-- FLTACK.CLRLATCH of a fault block (R386). -/
def FLT.FLTACK.CLRLATCH (b : FBlk) : Field := ⟨b.base + 0xc, 1, 1, .w1p, 0, false⟩
/-- FLTTIMERS.GRACE of a fault block (R386). -/
def FLT.FLTTIMERS.GRACE (b : FBlk) : Field := ⟨b.base + 0x10, 0, 8, .rwl, 10, false⟩
/-- FLTTIMERS.QUIET of a fault block (R386). -/
def FLT.FLTTIMERS.QUIET (b : FBlk) : Field := ⟨b.base + 0x10, 8, 8, .rwl, 20, false⟩
/-- FLTTIMERS.STATE of a fault block (R386). -/
def FLT.FLTTIMERS.STATE (b : FBlk) : Field := ⟨b.base + 0x10, 16, 3, .ro, 0, false⟩
/-- RECOV.COUNT of a fault block (R386). -/
def FLT.RECOV.COUNT (b : FBlk) : Field := ⟨b.base + 0x14, 0, 8, .rcCount, 0, false⟩
/-- RECOV.WINDOW of a fault block (R386). -/
def FLT.RECOV.WINDOW (b : FBlk) : Field := ⟨b.base + 0x14, 8, 3, .ro, 0, false⟩
/-- RECOV.LATCHED of a fault block (R386). -/
def FLT.RECOV.LATCHED (b : FBlk) : Field := ⟨b.base + 0x14, 11, 1, .ro, 0, false⟩
/-- RECOV.LASTING of a fault block (R386). -/
def FLT.RECOV.LASTING (b : FBlk) : Field := ⟨b.base + 0x14, 12, 1, .ro, 0, false⟩
/-- RECOV.EVCNT of a fault block (R386). -/
def FLT.RECOV.EVCNT (b : FBlk) : Field := ⟨b.base + 0x14, 16, 8, .rcCount, 0, false⟩

end Sys2Proof.Machine
end

