-- ==== Sys2Proof/Machine/RegMap.lean ====
section
/-! DEFINITION. The register map (R405 to R418): which block a byte address lies in, and which fields the word
at an offset of a block holds. A word with no fields is unlisted: it reads 0 and ignores writes (R406). -/

namespace Sys2Proof.Machine

/-- A block of the native address map (R405). -/
inductive Blk where
  | sys | boot | nw | icu | mbx (m : Nat) | mbxBulk | pwr | pkm | swx
  | ups (u : Nat) | sec (s : Nat) | qd (q : Nat) | prt (n : Nat) | lds
  deriving DecidableEq, Repr

/-- The block that holds a native byte address, with the offset inside it (R405); none between the rows (R406). -/
def blockOf (a : Nat) : Option (Blk × Nat) :=
  if a < 0x1000 then some (.sys, a)
  else if a < 0x2000 then some (.boot, a - 0x1000)
  else if a < 0x3000 then some (.nw, a - 0x2000)
  else if a < 0x4000 then none
  else if a < 0x6000 then some (.icu, a - 0x4000)
  else if a < 0x8000 then none
  else if a < 0x8100 then some (.mbx ((a - 0x8000) / 0x20), (a - 0x8000) % 0x20)
  else if a < 0x9000 then some (.mbxBulk, a - 0x8000)
  else if a < 0xA000 then some (.pwr, a - 0x9000)
  else if a < 0xB000 then some (.pkm, a - 0xA000)
  else if a < 0xC000 then some (.swx, a - 0xB000)
  else if a < 0xD000 then some (.ups ((a - 0xC000) / 0x400), (a - 0xC000) % 0x400)
  else if a < 0xE000 then some (.sec ((a - 0xD000) / 0x400), (a - 0xD000) % 0x400)
  else if a < 0xF800 then some (.qd ((a - 0xE000) / 0x200), (a - 0xE000) % 0x200)
  else if a < 0x10000 then none
  else if a < 0x1C000 then some (.prt ((a - 0x10000) / 0x400), (a - 0x10000) % 0x400)
  else if a < 0x20000 then none
  else if a < 0x21000 then some (.lds, a - 0x20000)
  else none

/-- The fields of fault word `i` (0 FLTSTS to 5 RECOV) of a block (R386). -/
def faultFields (b : FBlk) (i : Nat) : List Field :=
  match i with
  | 0 => [FLT.FLTSTS.SRC b]
  | 1 => (List.range 16).map (FLT.FLTSEV.SEV b)
  | 2 => [FLT.FLTFIRST.SRC b, FLT.FLTFIRST.SEV b, FLT.FLTFIRST.VALID b, FLT.FLTFIRST.MER b]
  | 3 => [FLT.FLTACK.ACK b, FLT.FLTACK.CLRLATCH b]
  | 4 => [FLT.FLTTIMERS.GRACE b, FLT.FLTTIMERS.QUIET b, FLT.FLTTIMERS.STATE b]
  | 5 => [FLT.RECOV.COUNT b, FLT.RECOV.WINDOW b, FLT.RECOV.LATCHED b, FLT.RECOV.LASTING b, FLT.RECOV.EVCNT b]
  | _ => []

/-- The fields of the word at offset `off` of SYS. -/
def SYS.fields (off : Nat) : List Field :=
  if off = 0x0 then [SYS.ID.STEP, SYS.ID.PART]
  else if off = 0x4 then [SYS.MODE.MODE, SYS.MODE.ABBREV, SYS.MODE.SLOT, SYS.MODE.FALLBACK]
  else if off = 0x8 then [SYS.LASTERR.CODE, SYS.LASTERR.REQ]
  else if off = 0xc then [SYS.STRAP.MODE, SYS.STRAP.ADR, SYS.STRAP.VIO33]
  else if off = 0x10 then [SYS.MERIDIAN.COUNT]
  else if off = 0x14 then [SYS.TKCFG.SPICRC, SYS.TKCFG.I2CCRC]
  else if off = 0x18 then [SYS.LOCK.ALL]
  else if off = 0x1c then [SYS.VOTECNT.COUNT]
  else if off = 0x20 then [SYS.OFFCNT.COUNT]
  else if off = 0x24 then [SYS.RESETREQ.GO, SYS.RESETREQ.KEY]
  else if off = 0x28 then [SYS.TJCORE.TJ, SYS.TJCORE.PEAK]
  else if off = 0x2c then [SYS.FAULTPIN.MINSEV, SYS.FAULTPIN.WIDTH, SYS.FAULTPIN.FORCE, SYS.FAULTPIN.PIN]
  else if 0x100 ≤ off ∧ off < 0x118 ∧ off % 4 = 0 then faultFields .sys ((off - 0x100) / 4)
  else []

/-- The fields of the word at offset `off` of BOOT. -/
def BOOT.fields (off : Nat) : List Field :=
  if off = 0x0 then [BOOT.RSTCAUSE.CAUSE]
  else if off = 0x4 then [BOOT.FAILMEM.SLOTA, BOOT.FAILMEM.SLOTB, BOOT.FAILMEM.NVM, BOOT.FAILMEM.QID, BOOT.FAILMEM.LINK, BOOT.FAILMEM.CAL]
  else if off = 0x8 then [BOOT.FAILCLR.MARK]
  else if off = 0xc then [BOOT.BOOTCNT.BOOTNO, BOOT.BOOTCNT.CONSEC]
  else if off = 0x10 then [BOOT.RESCUE.RSTREQ, BOOT.RESCUE.ENTRY, BOOT.RESCUE.PORT]
  else if off = 0x14 then [BOOT.JSEQ.JSEQ]
  else if off = 0x18 then [BOOT.HEADER.ACTIVE, BOOT.HEADER.STATEA, BOOT.HEADER.STATEB]
  else if off = 0x1c then [BOOT.HDRSEQ.SEQ]
  else if off = 0x20 then [BOOT.UPDCMD.CMD, BOOT.UPDCMD.SLOT]
  else if off = 0x24 then [BOOT.UPDOFS.OFS]
  else if off = 0x28 then [BOOT.UPDLEN.LEN]
  else if off = 0x2c then [BOOT.UPDSTS.SESSION, BOOT.UPDSTS.BUSY, BOOT.UPDSTS.RESTRICT, BOOT.UPDSTS.TARGET, BOOT.UPDSTS.OWNER, BOOT.UPDSTS.RESULT, BOOT.UPDSTS.REASON]
  else if off = 0x30 then [BOOT.RBCTR.VALUE]
  else if 0x200 ≤ off ∧ off < 0x300 ∧ off % 4 = 0 then [BOOT.UPDDATA.DATA ((off - 0x200) / 4)]
  else []

/-- The fields of the word at offset `off` of NW. -/
def NW.fields (off : Nat) : List Field :=
  if off = 0x0 then [NW.CTL.SLEEPEN, NW.CTL.ECLEN, NW.CTL.LDSHOLD, NW.CTL.I2CWAKE, NW.CTL.LOCK]
  else if off = 0x4 then [NW.IDLE.TIME]
  else if off = 0x8 then [NW.STS.STATE, NW.STS.IDLEOK, NW.STS.ECLOK, NW.STS.BACKOFF, NW.STS.REMAIN]
  else if off = 0xc then [NW.ABORT.BLOCK, NW.ABORT.TMO, NW.ABORT.TARGET, NW.ABORT.COUNT]
  else if off = 0x10 then [NW.WAKE.VALID, NW.WAKE.FROM, NW.WAKE.CAUSE, NW.WAKE.SRC, NW.WAKE.DETAIL]
  else if off = 0x14 then [NW.CNT.DUSKCNT, NW.CNT.ECLCNT]
  else if off = 0x18 then [NW.DUSKTIME.MS]
  else if 0x100 ≤ off ∧ off < 0x118 ∧ off % 4 = 0 then faultFields .nw ((off - 0x100) / 4)
  else []

/-- Sources marked reserved in R357 have no SRC registers. -/
def srcExists (i : Nat) : Bool :=
  i < 7 || (16 ≤ i && i < 438) || i == 511

/-- The fields of the word at offset `off` of ICU. -/
def ICU.fields (off : Nat) : List Field :=
  if off < 0x1000 ∧ off % 8 = 0 ∧ srcExists (off / 8) then [ICU.SRC_CFG.TGT (off / 8), ICU.SRC_CFG.EN (off / 8), ICU.SRC_CFG.NWW (off / 8)]
  else if off < 0x1000 ∧ off % 8 = 4 ∧ srcExists (off / 8) then [ICU.SRC_STS.PEND (off / 8), ICU.SRC_STS.INSVC (off / 8), ICU.SRC_STS.LOST (off / 8), ICU.SRC_STS.CLRPEND (off / 8), ICU.SRC_STS.LOSTCNT (off / 8)]
  else if 0x1000 ≤ off ∧ off < 0x1340 ∧ off % 0x40 = 0x0 then [ICU.CLAIM.SRC ((off - 0x1000) / 0x40)]
  else if 0x1000 ≤ off ∧ off < 0x1340 ∧ off % 0x40 = 0x4 then [ICU.DONE.SRC ((off - 0x1000) / 0x40)]
  else if 0x1000 ≤ off ∧ off < 0x1340 ∧ off % 0x40 = 0x8 then [ICU.TCTL.CCOUNT ((off - 0x1000) / 0x40), ICU.TCTL.TRST ((off - 0x1000) / 0x40), ICU.TCTL.CTIME ((off - 0x1000) / 0x40)]
  else if 0x1000 ≤ off ∧ off < 0x1340 ∧ off % 0x40 = 0xc then [ICU.TSTAT.INSVC ((off - 0x1000) / 0x40), ICU.TSTAT.TOP ((off - 0x1000) / 0x40), ICU.TSTAT.LINE ((off - 0x1000) / 0x40), ICU.TSTAT.ORDERR ((off - 0x1000) / 0x40), ICU.TSTAT.HELD ((off - 0x1000) / 0x40)]
  else if 0x1000 ≤ off ∧ off < 0x1340 ∧ off % 0x40 = 0x10 then [ICU.TCNT.SPUR ((off - 0x1000) / 0x40), ICU.TCNT.ORDCNT ((off - 0x1000) / 0x40)]
  else if off = 0x1800 + 0x0 then [ICU.CTL.SWTRIG, ICU.CTL.LOCK]
  else if off = 0x1800 + 0x4 then [ICU.WATCHN.N]
  else if off = 0x1800 + 0x10 then [ICU.FSUM0.P00_P31]
  else if off = 0x1800 + 0x14 then [ICU.FSUM1.P32_P47, ICU.FSUM1.QD]
  else if off = 0x1800 + 0x18 then [ICU.FSUM2.SEC, ICU.FSUM2.UPS, ICU.FSUM2.BLK]
  else if 0x1900 ≤ off ∧ off < 0x1918 ∧ off % 4 = 0 then faultFields .icu ((off - 0x1900) / 4)
  else []

/-- The fields of the word at offset `off` of MBX. -/
def MBX.fields (m : Nat) (off : Nat) : List Field :=
  if off = 0x0 then [MBX.SEL.CODE m, MBX.SEL.INDEX m]
  else if off = 0x4 then [MBX.CTRL.GO m, MBX.CTRL.BUSY m, MBX.CTRL.VALID m, MBX.CTRL.ERR m, MBX.CTRL.PART m]
  else if 0x10 ≤ off ∧ off < 0x20 ∧ off % 4 = 0 then [MBX.DATA.DATA m ((off - 0x10) / 4)]
  else []

/-- The fields of the word at offset `off` of PWR. -/
def PWR.fields (off : Nat) : List Field :=
  if off = 0x0 then [PWR.CTL.READV, PWR.CTL.LOCK]
  else if off = 0x4 then [PWR.POOL.POOL]
  else if off = 0x8 then [PWR.TOTCOM.COMMIT]
  else if off = 0xc then [PWR.TOTCON.CONTRACT]
  else if off = 0x10 then [PWR.STS.SHEDQ, PWR.STS.POOLSHED, PWR.STS.NWAIT]
  else if off = 0x14 then [PWR.EVT.SHEDIN, PWR.EVT.SHEDOUT, PWR.EVT.WAIT, PWR.EVT.IGNHR, PWR.EVT.REBUILD]
  else if off = 0x18 then [PWR.CNT.REJECTS, PWR.CNT.IGNHR]
  else if 0x40 ≤ off ∧ off < 0x70 ∧ off % 4 = 0 then [PWR.QCAP.CAP ((off - 0x40) / 4), PWR.QCAP.FAILCAP ((off - 0x40) / 4)]
  else if 0x80 ≤ off ∧ off < 0xb0 ∧ off % 4 = 0 then [PWR.QBOOK.COMMIT ((off - 0x80) / 4), PWR.QBOOK.CONTRACT ((off - 0x80) / 4)]
  else if 0x200 ≤ off ∧ off < 0x2c0 ∧ off % 4 = 0 then [PWR.PCFG.PRIO ((off - 0x200) / 4), PWR.PCFG.PMAX ((off - 0x200) / 4)]
  else if 0x300 ≤ off ∧ off < 0x3c0 ∧ off % 4 = 0 then [PWR.PBOOK.COMMIT ((off - 0x300) / 4), PWR.PBOOK.CONTRACT ((off - 0x300) / 4)]
  else if 0x400 ≤ off ∧ off < 0x4c0 ∧ off % 4 = 0 then [PWR.PALLOW.ALLOW ((off - 0x400) / 4), PWR.PALLOW.SHED ((off - 0x400) / 4), PWR.PALLOW.WAIT ((off - 0x400) / 4)]
  else if 0x100 ≤ off ∧ off < 0x118 ∧ off % 4 = 0 then faultFields .pwr ((off - 0x100) / 4)
  else []

/-- The fields of the word at offset `off` of PKM. -/
def PKM.fields (off : Nat) : List Field :=
  if off = 0x0 then [PKM.CTL.CUTTHR, PKM.CTL.BORROWMAX, PKM.CTL.LOCK]
  else if off = 0x4 then [PKM.FREEMARK.LOW]
  else if off = 0x8 then [PKM.FREESTS.BELOW, PKM.FREESTS.WAS]
  else if off = 0x10 then [PKM.GCNT0.FREE, PKM.GCNT0.QUEUED]
  else if off = 0x14 then [PKM.GCNT1.INFLIGHT, PKM.GCNT1.FENCED, PKM.GCNT1.RETIRED]
  else if off = 0x18 then [PKM.GCNT2.POOLFREE, PKM.GCNT2.SPAREUSED]
  else if off = 0x20 then [PKM.ECCCNT.CORR, PKM.ECCCNT.UNCORR, PKM.ECCCNT.NOFENCE]
  else if off = 0x24 then [PKM.LINECNT.TRANSIENT, PKM.LINECNT.LASTING]
  else if off = 0x28 then [PKM.FENCE.LINE, PKM.FENCE.ACTIVE, PKM.FENCE.PEND, PKM.FENCE.RESULT, PKM.FENCE.FALLBACK]
  else if off = 0x30 then [PKM.PNOTE0.P00_P31]
  else if off = 0x34 then [PKM.PNOTE1.P32_P47]
  else if 0x400 ≤ off ∧ off < 0x66c ∧ off % 4 = 0 then [PKM.RGN.BASE ((off - 0x400) / 4), PKM.RGN.SIZE ((off - 0x400) / 4)]
  else if 0x800 ≤ off ∧ off < 0x8d4 ∧ off % 4 = 0 then [PKM.IQPTR.WPTR ((off - 0x800) / 4), PKM.IQPTR.RPTR ((off - 0x800) / 4)]
  else if 0x100 ≤ off ∧ off < 0x118 ∧ off % 4 = 0 then faultFields .pkm ((off - 0x100) / 4)
  else []

/-- The fields of the word at offset `off` of SWX. -/
def SWX.fields (off : Nat) : List Field :=
  if off = 0x0 then [SWX.CTL.SLOTLIM, SWX.CTL.LOCK]
  else if off = 0x4 then [SWX.GEN.GEN0, SWX.GEN.GEN1, SWX.GEN.GEN2, SWX.GEN.GEN3]
  else if off = 0x8 then [SWX.LOAD.BEATS]
  else if 0x10 ≤ off ∧ off < 0x60 ∧ (off - 0x10) % 16 = 0 then [SWX.CNTA.STALE ((off - 0x10) / 16), SWX.CNTA.BADTAIL ((off - 0x10) / 16)]
  else if 0x14 ≤ off ∧ off < 0x64 ∧ (off - 0x14) % 16 = 0 then [SWX.CNTB.ADMNAK ((off - 0x14) / 16), SWX.CNTB.RLYWD ((off - 0x14) / 16)]
  else if 0x18 ≤ off ∧ off < 0x68 ∧ (off - 0x18) % 16 = 0 then [SWX.CNTC.NOSLOT ((off - 0x18) / 16), SWX.CNTC.ISODROP ((off - 0x18) / 16)]
  else if 0x800 ≤ off ∧ off < 0x1000 ∧ off % 4 = 0 then [SWX.RT.PORT ((off - 0x800) / 0x200) ((off - 0x800) % 0x200 / 4), SWX.RT.VALID ((off - 0x800) / 0x200) ((off - 0x800) % 0x200 / 4), SWX.RT.HSDEV ((off - 0x800) / 0x200) ((off - 0x800) % 0x200 / 4), SWX.RT.GEN ((off - 0x800) / 0x200) ((off - 0x800) % 0x200 / 4)]
  else if 0x100 ≤ off ∧ off < 0x118 ∧ off % 4 = 0 then faultFields .swx ((off - 0x100) / 4)
  else []

/-- The fields of the word at offset `off` of UPS. -/
def UPS.fields (u : Nat) (off : Nat) : List Field :=
  if off = 0x0 then [UPS.CTL.EN u, UPS.CTL.PWRMODE u, UPS.CTL.RWAKEOK u, UPS.CTL.CONNWAKE u, UPS.CTL.BINTERVAL u, UPS.CTL.LOCK u]
  else if off = 0x4 then [UPS.STS.VBUS u, UPS.STS.PULLUP u, UPS.STS.HS u, UPS.STS.DEVSTATE u, UPS.STS.SUSP u, UPS.STS.ALTSET u, UPS.STS.ADDR u, UPS.STS.RWAKEEN u, UPS.STS.STAGED u]
  else if off = 0x8 then [UPS.EVT.BUSRST u, UPS.EVT.SUSPEND u, UPS.EVT.RESUME u, UPS.EVT.CONFIG u, UPS.EVT.CTLABORT u, UPS.EVT.RWAKE u, UPS.EVT.VBUSCHG u, UPS.EVT.FSCONN u]
  else if off = 0xc then [UPS.ACCMASK.RD u, UPS.ACCMASK.WR u]
  else if off = 0x10 then [UPS.PART0.P00_P31 u]
  else if off = 0x14 then [UPS.PART1.P32_P47 u]
  else if off = 0x18 then [UPS.HUBCFG.NBR u, UPS.HUBCFG.PWRON2PG u, UPS.HUBCFG.CONTRCUR u, UPS.HUBCFG.IND u]
  else if off = 0x1c then [UPS.WAKESRC.VALID u, UPS.WAKESRC.COLL u, UPS.WAKESRC.HUBPORT u, UPS.WAKESRC.PHYS u]
  else if off = 0x20 then [UPS.CNT0.BUSRSTCNT u, UPS.CNT0.ABORTCNT u]
  else if off = 0x24 then [UPS.CNT1.RWAKECNT u, UPS.CNT1.IGNWAKE u]
  else if off = 0x40 then [UPS.TCSTS.TCSTATE u, UPS.TCSTS.ORIENT u, UPS.TCSTS.RPSEEN u, UPS.TCSTS.NOSRC u]
  else if off = 0x44 then [UPS.TCCTL.ROLE u]
  else if 0x100 ≤ off ∧ off < 0x118 ∧ off % 4 = 0 then faultFields (.ups u) ((off - 0x100) / 4)
  else []

/-- The fields of the word at offset `off` of SEC. -/
def SEC.fields (s : Nat) (off : Nat) : List Field :=
  if off = 0x0 then [SEC.CTL.REDUCED s, SEC.CTL.LOCK s]
  else if off = 0x4 then [SEC.STS.LINK s, SEC.STS.RATE s, SEC.STS.HOLD s, SEC.STS.PRESENT s, SEC.STS.ARMED s, SEC.STS.SERUN s, SEC.STS.PCRUN s, SEC.STS.VCONNOK s]
  else if off = 0x8 then [SEC.EVT.EVENTS s]
  else if off = 0xc then [SEC.TJDIE.TJ s, SEC.TJDIE.PEAK s]
  else if off = 0x10 then [SEC.LINKCNT.RETX s, SEC.LINKCNT.RETRAIN s]
  else if 0x100 ≤ off ∧ off < 0x118 ∧ off % 4 = 0 then faultFields (.sec s) ((off - 0x100) / 4)
  else []

/-- The fields of the word at offset `off` of QD. -/
def QD.fields (q : Nat) (off : Nat) : List Field :=
  if off = 0x0 then [QD.VIN.VIN q]
  else if off = 0x4 then [QD.IIN.IIN q]
  else if off = 0x8 then [QD.PIN.PIN q]
  else if off = 0xc then [QD.TBRD.TBRD q]
  else if off = 0x10 then [QD.VWARN.LEVEL q]
  else if off = 0x14 then [QD.VFAIL.LEVEL q]
  else if off = 0x18 then [QD.STS.WARN q, QD.STS.FAIL q, QD.STS.WARNWAS q, QD.STS.FAILWAS q, QD.STS.NTCFLT q, QD.STS.HOT q, QD.STS.IDSRC q, QD.STS.IDDIFF q]
  else if off = 0x1c then [QD.EVT.FAILIN q, QD.EVT.FAILOUT q, QD.EVT.WARNIN q, QD.EVT.WARNOUT q, QD.EVT.NTCFLT q, QD.EVT.HOT q, QD.EVT.IDDIFF q, QD.EVT.IDFAIL q]
  else if off = 0x20 then [QD.CTL.TBRDWARN q, QD.CTL.FBICAP q, QD.CTL.LOCK q]
  else if off = 0x24 then [QD.ID.RSHUNT q, QD.ID.BOARDREV q]
  else if 0x100 ≤ off ∧ off < 0x118 ∧ off % 4 = 0 then faultFields (.qd q) ((off - 0x100) / 4)
  else []

/-- The fields of the word at offset `off` of PRT. -/
def PRT.fields (n : Nat) (off : Nat) : List Field :=
  if off = 0x0 then [PRT.HUBSTS.CONNECTION n, PRT.HUBSTS.ENABLE n, PRT.HUBSTS.SUSPEND n, PRT.HUBSTS.OVERCUR n, PRT.HUBSTS.RESET n, PRT.HUBSTS.POWER n, PRT.HUBSTS.LOWSPD n, PRT.HUBSTS.HIGHSPD n, PRT.HUBSTS.TEST n, PRT.HUBSTS.INDMAN n, PRT.HUBSTS.STATE n, PRT.HUBSTS.TESTSEL n, PRT.HUBSTS.INDSHOWN n]
  else if off = 0x4 then [PRT.HUBCHG.C_CONNECTION n, PRT.HUBCHG.C_ENABLE n, PRT.HUBCHG.C_SUSPEND n, PRT.HUBCHG.C_OVERCUR n, PRT.HUBCHG.C_RESET n]
  else if off = 0x8 then [PRT.CTL.PRSTRT n, PRT.CTL.OOS n, PRT.CTL.INDMODE n, PRT.CTL.INDSW n, PRT.CTL.FSONLY n, PRT.CTL.LOCK n]
  else if off = 0x10 then [PRT.TCSTS.TCSTATE n, PRT.TCSTS.ORIENT n, PRT.TCSTS.RPADV n, PRT.TCSTS.MOISTOK n, PRT.TCSTS.WET n, PRT.TCSTS.OOS n, PRT.TCSTS.WETPIN n, PRT.TCSTS.WETGND n, PRT.TCSTS.WETVBUS n, PRT.TCSTS.LEAKMIN n]
  else if off = 0x14 then [PRT.TCCTL.DSROLE n, PRT.TCCTL.RPDEF n, PRT.TCCTL.MOISTBYP n]
  else if off = 0x60 then [PRT.QCFG.ALMEN n, PRT.QCFG.ALMCLR n, PRT.QCFG.TTRST n]
  else if off = 0x64 then [PRT.QSTS.LATECNT n, PRT.QSTS.OVFCNT n, PRT.QSTS.ALMFULL n, PRT.QSTS.PBUSY n, PRT.QSTS.NPBUSY n, PRT.QSTS.STOPPED n]
  else if 0x80 ≤ off ∧ off < 0xc0 ∧ off % 4 = 0 then [PRT.ALM.STATE n ((off - 0x80) / 4), PRT.ALM.TYPE n ((off - 0x80) / 4), PRT.ALM.DIR n ((off - 0x80) / 4), PRT.ALM.ADDR n ((off - 0x80) / 4), PRT.ALM.EP n ((off - 0x80) / 4), PRT.ALM.PERIOD n ((off - 0x80) / 4), PRT.ALM.PHASE n ((off - 0x80) / 4), PRT.ALM.MPSCLS n ((off - 0x80) / 4), PRT.ALM.TOGGLE n ((off - 0x80) / 4)]
  else if off = 0xc0 then [PRT.MTRSTS.WITHDRAWN n, PRT.MTRSTS.STRANDED n, PRT.MTRSTS.BLOCK n, PRT.MTRSTS.NOFIT n]
  else if off = 0xc4 then [PRT.MTRCFG.MODE n, PRT.MTRCFG.LEAD n, PRT.MTRCFG.MISSLIM n]
  else if off = 0xc8 then [PRT.MTRCNT.DATAHIT n, PRT.MTRCNT.NAKHIT n]
  else if off = 0xcc then [PRT.MTRMAP.ARMED n, PRT.MTRMAP.HELD n]
  else if off = 0xc then [PRT.OWNER.OWN n, PRT.OWNER.NEXT n, PRT.OWNER.REQTO n, PRT.OWNER.GO n, PRT.OWNER.STATE n, PRT.OWNER.LASTBY n, PRT.OWNER.LASTRES n]
  else if off = 0x18 then [PRT.OWNCNT.DONE n, PRT.OWNCNT.LOST n, PRT.OWNCNT.RSTHO n]
  else if off = 0x1c then [PRT.TCEVT.ATTACH n, PRT.TCEVT.DETACH n, PRT.TCEVT.FOREIGN n, PRT.TCEVT.ACCESS n, PRT.TCEVT.ERRREC n, PRT.TCEVT.WETIN n, PRT.TCEVT.WETOUT n, PRT.TCEVT.OOS n, PRT.TCEVT.CCOV n]
  else if off = 0x20 then [PRT.PDSTS.OBJPOS n, PRT.PDSTS.EXPLICIT n, PRT.PDSTS.REV n, PRT.PDSTS.VSEL n, PRT.PDSTS.OPCURR n, PRT.PDSTS.CABLE n, PRT.PDSTS.VCSRC n, PRT.PDSTS.ALTMODE n, PRT.PDSTS.PWRROLE n, PRT.PDSTS.EVT n]
  else if off = 0x24 then [PRT.PDCTL.VMAX n, PRT.PDCTL.PDEN n, PRT.PDCTL.IMAX n, PRT.PDCTL.RESEND n, PRT.PDCTL.HRESET n, PRT.PDCTL.VCSWAP n, PRT.PDCTL.SOPPDISC n]
  else if off = 0x28 then [PRT.VCONN.ON n, PRT.VCONN.PIN n, PRT.VCONN.ALLOW n, PRT.VCONN.IMEAS n, PRT.VCONN.OCCNT n, PRT.VCONN.SWAPCNT n]
  else if off = 0x2c then [PRT.ALTMUX.ALLOW n, PRT.ALTMUX.KICK n, PRT.ALTMUX.ACTIVE n, PRT.ALTMUX.QHOLD n, PRT.ALTMUX.QBUSY n, PRT.ALTMUX.NAKCNT n, PRT.ALTMUX.SVID n]
  else if off = 0x30 then [PRT.PDCNT.HRSENT n, PRT.PDCNT.HRRCVD n, PRT.PDCNT.REJECTS n, PRT.PDCNT.ALERTS n]
  else if off = 0x40 then [PRT.FUSCFG.ILIM n, PRT.FUSCFG.FTIME n, PRT.FUSCFG.RETRY n, PRT.FUSCFG.RWAIT n, PRT.FUSCFG.PGQ n, PRT.FUSCFG.REARM n]
  else if off = 0x44 then [PRT.FUSSTS.STATE n, PRT.FUSSTS.PG n, PRT.FUSSTS.LIMIT n, PRT.FUSSTS.FOLD n, PRT.FUSSTS.GATEON n, PRT.FUSSTS.CAUSE n, PRT.FUSSTS.SENSE n, PRT.FUSSTS.TRIPS n, PRT.FUSSTS.WAIT n, PRT.FUSSTS.FTFILL n]
  else if off = 0x48 then [PRT.FUSEVT.TRIP n, PRT.FUSEVT.HSHORT n, PRT.FUSEVT.OVERLOAD n, PRT.FUSEVT.THERMAL n, PRT.FUSEVT.OV n, PRT.FUSEVT.VFAULT n, PRT.FUSEVT.SENSEFLT n, PRT.FUSEVT.LATCHED n, PRT.FUSEVT.REARMED n, PRT.FUSEVT.PGON n, PRT.FUSEVT.PGOFF n, PRT.FUSEVT.LIMITIN n, PRT.FUSEVT.QUALRST n, PRT.FUSEVT.CLEAN n, PRT.FUSEVT.TWARN n, PRT.FUSEVT.TREL n, PRT.FUSEVT.TRIPCNT n]
  else if off = 0x4c then [PRT.TJEST.TJ n, PRT.TJEST.PFET n]
  else if off = 0x50 then [PRT.VBUSMEAS.VBUS n, PRT.VBUSMEAS.FBICODE n]
  else if off = 0x54 then [PRT.IBUSMEAS.IBUS n, PRT.IBUSMEAS.ISET n]
  else if 0x100 ≤ off ∧ off < 0x118 ∧ off % 4 = 0 then faultFields (.prt n) ((off - 0x100) / 4)
  else []

/-- The fields of the word at offset `off` of LDS. -/
def LDS.fields (off : Nat) : List Field :=
  if off = 0x0 then [LDS.CTL.EN, LDS.CTL.ENUMTRY, LDS.CTL.REQTMO, LDS.CTL.LOCK]
  else if off = 0x4 then [LDS.STS.RUN, LDS.STS.NPROF, LDS.STS.NOWNED, LDS.STS.NBUSY]
  else if off = 0x8 then [LDS.CNT0.HBDROP, LDS.CNT0.ENUMFAIL]
  else if off = 0xc then [LDS.CNT1.CTLTMO, LDS.CNT1.HBSTALL]
  else if off = 0x10 then [LDS.CHG0.P00_P31]
  else if off = 0x14 then [LDS.CHG1.P32_P47]
  else if 0x100 ≤ off ∧ off < 0x1c0 ∧ off % 4 = 0 then [LDS.RSUM.STATE ((off - 0x100) / 4), LDS.RSUM.RESULT ((off - 0x100) / 4), LDS.RSUM.PROFILE ((off - 0x100) / 4), LDS.RSUM.IDVALID ((off - 0x100) / 4), LDS.RSUM.HBUSED ((off - 0x100) / 4)]
  else []

/-- The fields of the word at offset `off` of a block. -/
def Blk.fields (b : Blk) (off : Nat) : List Field :=
  match b with
  | .sys => SYS.fields off
  | .boot => BOOT.fields off
  | .nw => NW.fields off
  | .icu => ICU.fields off
  | .mbx m => MBX.fields m off
  | .mbxBulk => if off = 0x100 then [MBX.BULK.HOLDER, MBX.BULK.HELD] else []
  | .pwr => PWR.fields off
  | .pkm => PKM.fields off
  | .swx => SWX.fields off
  | .ups u => UPS.fields u off
  | .sec s => SEC.fields s off
  | .qd q => QD.fields q off
  | .prt n => PRT.fields n off
  | .lds => LDS.fields off

/-- The fields of the native word at byte address `a`; none where the map lists no word there (R406). -/
def wordFields (a : Nat) : List Field :=
  match blockOf a with
  | some (b, off) => b.fields off
  | none => []

/-- The fault blocks, in the order port, quad, sector, personality, then the single blocks (R373). -/
def FBlk.all : List FBlk :=
  (List.range 48).map .prt ++ (List.range 12).map .qd ++ (List.range 4).map .sec ++ (List.range 4).map .ups
    ++ [.pkm, .swx, .pwr, .icu, .nw, .sys]

end Sys2Proof.Machine
end

