-- ==== Sys2Proof/Machine/Types.lean ====
section
/-! DEFINITION. The data types that commands carry and the state holds: requesters, handshakes, USB keys, Power
Delivery messages, measurements, and what the block drives out. -/

namespace Sys2Proof.Machine

/-- A handshake or an answer on a USB link (R20, R21, R174). `nothing` is no answer at all. -/
inductive Ans where
  | ack | nak | nyet | stall | err | nothing
  | data (pid : Nat) (bytes : List Byte)
  | mdata (bytes : List Byte)
  deriving DecidableEq, Repr

/-- What a device does with a transaction (R21, R175, R199): `bad` is a timeout, a bad CRC or a bad PID. -/
inductive Dev where
  | ack | nak | nyet | stall | bad
  | data (pid : Nat) (bytes : List Byte)
  deriving DecidableEq, Repr

/-- A held outcome: of a relay slot (R20), a TT buffer or record (R174, R176) or a Meteor slot (R199). -/
inductive Held where
  | data (pid : Nat) (bytes : List Byte)
  | ack | nak | stall | noResp | err
  deriving DecidableEq, Repr

/-- A key: device address, endpoint number, direction (R174, R185, R220). -/
structure Key where
  addr : Nat
  ep : Nat
  dirIn : Bool
  deriving DecidableEq, Repr

/-- The eight bytes of a SETUP packet. -/
structure Setup where
  bmReq : Nat
  bReq : Nat
  wValue : Nat
  wIndex : Nat
  wLength : Nat
  deriving DecidableEq, Repr

/-- The flags of the 5 V PDO (R299). -/
structure SrcFlags where
  dualRolePower : Bool
  unconstrained : Bool
  usbComm : Bool
  dualRoleData : Bool
  unchunked : Bool
  epr : Bool
  deriving DecidableEq, Repr

/-- The flags that every Source_Capabilities carries (R299): Unconstrained Power and USB Communications Capable. -/
def SrcFlags.sent : SrcFlags := ⟨false, true, true, false, false, false⟩

/-- The messages and ordered sets the policy core sends (R296 to R312). -/
inductive PdTx where
  | srcCaps (flags : SrcFlags) (pdos : List (Nat × Nat))  -- voltage code and current in 10 mA units, in order (R299)
  | accept | reject | wait | psRdy | notSupported | hardReset
  | request (objPos cur : Nat)             -- as the sink of a foreign source (R292)
  | vconnSwap | alert
  | status (presentInput powerStatus : Nat)  -- R308
  | discoverIdSopP                          -- on SOP' (R304)
  | vdmAck (cmd : Nat) (objs : List Nat)
  | vdmNak (cmd : Nat)
  | attention (svid objPos : Nat)           -- R312
  deriving DecidableEq, Repr

/-- A Request of the sink: object position and the two currents in 10 mA units (R297, R340). -/
structure PdReq where
  obj : Nat
  cur : Nat
  maxCur : Nat
  deriving DecidableEq, Repr

/-- The PD messages that may be stored in autonomous hold or Dusk (R15, R396); a Request with its header's revision. -/
inductive PdRx where
  | request (rev : Nat) (r : PdReq) | getSourceCap | softReset | prSwap | vconnSwap | vconnSwapAccept | getStatus | unsupported
  | sourceCaps | hardReset | discoverIdentity | discoverSvids | discoverModes (svid : Nat)
  | enterMode (svid objPos : Nat) | exitMode (svid : Nat) | otherVdm | psRdy | cableIdentity (cap : Nat)
  deriving DecidableEq, Repr

/-- What the block drove or answered during the last command. -/
inductive Out where
  | tokel (bytes : List Byte)                       -- bytes the management target sends (R104, R106)
  | i2cNack                                          -- the address is not acknowledged (R398)
  | usb (u : Nat) (a : Ans)                          -- an answer on an upstream link; u = 4 is the rescue personality
  | device (n : Nat) (k : Key) (pid : Nat) (bytes : List Byte)  -- a token, with data for an OUT or SETUP, on port n
  | deviceIn (n : Nat) (k : Key)                     -- an IN on port n
  | ping (n : Nat) (k : Key)                         -- a PING on port n
  | deviceAck (n : Nat)                              -- the ACK of a device's DATA
  | badCrcEnd (n : Nat)                              -- a packet completed with its CRC16 inverted (R250)
  | badCrcEndUp (u : Nat)                            -- the same on an upstream link
  | sof (n frame : Nat)                              -- SOF or keep-alive on port n
  | se0 (n : Nat) | chirpPairs (n : Nat) | kDrive (n : Nat) | eor (n : Nat) | endSignal (n : Nat)
  | testMode (n sel : Nat)                           -- a USB 2.0 test mode on port n
  | upTestMode (u sel : Nat)
  | upK (u : Nat) | upRelease (u : Nat) | pullup (u : Nat) (on : Bool)
  | pd (n : Nat) (m : PdTx)                          -- a PD message on port n
  | goodCrc (n : Nat)
  | gate (n : Nat) (on fast : Bool) | cc (n : Nat) (on : Bool) | dsch (n : Nat) (on : Bool) | fbi (n code : Nat)
  | fbiHiZ (n : Nat)                                 -- the FBI output is high impedance (R49)
  | vconn (n : Nat) (on : Bool) | sbu (n : Nat) (on : Bool)
  | led (s : Nat) (frame : List Bool)                -- an indicator frame with its parity bit (R168)
  | flashErase (addr len : Nat) | flashProgram (addr len : Nat)
  | faultN (low : Bool)
  | pinsReset                                        -- all pins take their states of the Reset column (R48, R49)
  | pinsEclipse                                      -- all pins take their states of the Eclipse column (R48)
  deriving DecidableEq, Repr

/-- Who makes a register access (R102); the service engine on Lodestar's behalf, for ownership requests alone (R256). -/
inductive Requester where
  | pers (u : Fin 4) | rescue | spi | i2c | records | service
  deriving DecidableEq, Repr

/-- The requester code of R102. -/
def Requester.code : Requester → Nat
  | .pers u => u.val
  | .rescue => 4
  | .spi => 5
  | .i2c => 6
  | .records => 7
  | .service => 4

/-- Power state of the part (R48, R389): supplies off, held in Reset, flash release, boot or Active, rescue, Dusk,
Eclipse. -/
inductive Phase where
  | unpowered | held | flashRelease | running | rescue | dusk | eclipse
  deriving DecidableEq, Repr

/-- One port's measurements in a Meridian sample set (R26): VBUS in 6.25 mV units, currents in mA, V_ISN − V_VBUS in mV,
limit and foldback comparators, fault timer fill. -/
structure PortSample where
  vbus : BitVec 12
  ibus : BitVec 16
  drop : BitVec 15
  vconnMa : BitVec 10
  fold : Bool
  ftFill : Fin 101
  deriving DecidableEq, Repr

/-- One quad's measurements: VIN in 8 mV units, input current in mA, board temperature in 0.125 °C units (two's
complement), and whether the NTC reads outside −40 °C to 125 °C (R330, R336). -/
structure QuadSample where
  vin : BitVec 12
  iin : BitVec 17
  tbrd : BitVec 11
  ntcBad : Bool
  deriving DecidableEq, Repr

/-- The sample set of one Meridian: entries not listed keep their last value. -/
structure Samples where
  ports : List (Fin 48 × PortSample)
  quads : List (Fin 12 × QuadSample)
  tjCore : BitVec 12
  tjDie : List (Fin 4 × BitVec 12)
  deriving DecidableEq, Repr

/-- An I2C transfer addressed to the target, held until the part is awake (R398): a read with its header and the bytes
clocked, a write, a status read, a frame with an unknown command. -/
inductive I2cFrame where
  | read (hdr : List Byte) (clocked : Nat) | write (bytes : List Byte) | status | unknown (cmd : Byte)
  deriving DecidableEq, Repr

/-- The supplies whose fall or return is judged (R60). -/
inductive Supply where
  | vddCore | vddPhy | vdd33Phy | vddio | vddNw | vdd5 (s : Fin 4) | vconnIn (s : Fin 4)
  deriving DecidableEq, Repr

end Sys2Proof.Machine
end

