-- ==== Sys2Proof/Machine/HiddenPort.lean ====
section
/-! DEFINITION. What a downstream port holds beside its registers: signalling in progress, Type-C and PD sequences,
e-fuse timers, its transaction translator, its Almanac and Meteor entries, its relay slots, and Lodestar's record. -/

namespace Sys2Proof.Machine

/-- Where the resolution of a PD hard reset stands (R302): none, tPSHardReset running, discharging, tSrcRecover. -/
inductive HrPhase where
  | none | waitPs | discharge | recover
  deriving DecidableEq, Repr

/-- The Galuc's own PD message sequences (R301, R305, R304, R308, R312). -/
inductive Ams where
  | resend | vcSwap | sopDisc | alert | attention | hreset
  deriving DecidableEq, Repr

/-- Where a VCONN swap stands (R305): none; VCONN_Swap sent; swap accepted and the Galuc becomes the source; swap
accepted and the partner becomes the source. -/
inductive SwapPhase where
  | none | sent | becoming | leaving
  deriving DecidableEq, Repr

/-- The sense self-test (R331): idle, due after a trip, running after a trip, running after a re-arm. -/
inductive SelfTest where
  | none | due | running | rearm
  deriving DecidableEq, Repr

/-- How the Type-C state machine reached its state: as source, as sink, accessory (R291). -/
inductive TcPath where
  | source | sink | accessory
  deriving DecidableEq, Repr

/-- A hub-class action that a stopped sector engine has still to carry out on a port (R16). -/
inductive HubAct where
  | reset | suspend | test (sel : Nat) | disable | resume
  deriving DecidableEq, Repr

/-- State of a TT buffer or record (R174, R176). -/
inductive TtSt where
  | queued | wire | done (h : Held)
  deriving DecidableEq, Repr

/-- A non-periodic TT buffer (R174). -/
structure NpBuf where
  key : Key
  setup : Option Setup
  low : Bool
  pid : Nat
  bytes : List Byte
  st : TtSt
  /-- the buffer was freed while its transaction was on the wire: the result is discarded (R181, R182) -/
  dead : Bool
  deriving DecidableEq, Repr

/-- A periodic TT record (R176). `y` is the microframe count of Y; `got` the bytes of an isochronous IN so far. -/
structure PerRec where
  key : Key
  iso : Bool
  low : Bool
  behindHub : Bool
  y : Nat
  pid : Nat
  bytes : List Byte
  got : List Byte
  st : TtSt
  dead : Bool
  deriving DecidableEq, Repr

/-- An Almanac entry with its Meteor slot (R185, R195, R200). `st`: 0 FREE, 1 LEARNING, 2 LEARNED, 3 STABLE. -/
structure AlmEntry where
  st : Nat
  key : Key
  iso : Bool
  /-- low-speed device, and behind a full-speed hub (R178) -/
  low : Bool
  behindHub : Bool
  per : Nat
  phase : Nat
  lastM : Nat
  lastD : Nat
  mps : Nat
  toggle : Nat
  stab : Nat
  miss : Nat
  armed : Bool
  held : Option Held
  /-- the expected poll for which a prefetch has been made (R197) -/
  pfFor : Option Nat
  /-- a prefetch is on the wire, with the MODE in force when it started (R209) -/
  pfWire : Option Nat
  /-- a poll took over the outcome of the prefetch on the wire (R200) -/
  polled : Bool
  /-- Meteor could have run throughout the present window (R198) -/
  winOk : Bool
  /-- microframe at which a control hold's re-arm falls due (R204) -/
  rearm : Option Nat
  /-- a withdrawal fell on the prefetch on the wire: its outcome is withdrawn at once (R209) -/
  wd : Bool
  deriving DecidableEq, Repr

/-- A FREE Almanac entry. -/
def AlmEntry.free : AlmEntry :=
  ⟨0, ⟨0, 0, false⟩, false, false, false, 0, 0, 0, 0, 0, 0, 0, 0, false, none, none, none, false, false, none, false⟩

/-- An entry that is freed: FREE, but for a prefetch that is still on the wire, whose outcome is to be withdrawn (R209). -/
def AlmEntry.drop (e : AlmEntry) : AlmEntry :=
  if e.pfWire.isNone then AlmEntry.free
  else { AlmEntry.free with key := e.key, low := e.low, behindHub := e.behindHub, mps := e.mps, pfWire := e.pfWire,
                            polled := e.polled, wd := true }

/-- A control transfer observed on a port (R184, R188, R203, R225): its SETUP, the IN data so far, and whether it is a
control hold of Meteor. -/
structure CtlXfer where
  addr : Nat
  ep : Nat
  setup : Setup
  got : List Byte
  statusIn : Bool
  lastM : Nat
  deriving DecidableEq, Repr

/-- A relay slot (R20, R220). -/
structure Slot where
  key : Key
  held : Option Held
  /-- an IN for this slot is outstanding downstream -/
  asked : Bool
  iso : Bool
  /-- Meridians for which the slot has been empty with no admitted packet; consecutive errors of its INs -/
  idle : Nat
  errors : Nat
  deriving DecidableEq, Repr

/-- A Roster entry (R282). Times in microseconds since boot start; 0 for not yet. -/
structure RosterEntry where
  state : Nat
  result : Nat
  profile : Nat
  speed : Nat
  idValid : Bool
  hbUsed : Bool
  vid : Nat
  pid : Nat
  bcd : Nat
  serial : List Byte
  tAttach : Nat
  tCheckin : Nat
  tHeart : Nat
  hbCnt : Nat
  hbRec : List Byte
  deriving DecidableEq, Repr

/-- A vacant Roster entry (R284). -/
def RosterEntry.vacant : RosterEntry := ⟨0, 0, 0xFF, 0, false, false, 0, 0, 0, [], 0, 0, 0, 0, []⟩

/-- Where Lodestar's work on a port stands (R273, R279). -/
inductive LdsStep where
  | idle | connectWait | resetting | resetWait | devDesc8 | setAddress | addrWait | devDesc18 | cfg9 | cfgAll
  | str0 | strSerial | setConfig | record | recordDelay | clearHalt
  deriving DecidableEq, Repr

/-- Lodestar's state of one port beside the Roster entry. -/
structure LdsPort where
  entry : RosterEntry
  step : LdsStep
  attempt : Nat
  seq : Nat
  mps0 : Nat
  devDesc : List Byte
  cfgDesc : List Byte
  lang : Nat
  recIdx : Nat
  misses : Nat
  polling : Bool
  /-- the routing entry of address n + 1 (R271): 0 invalid, 1 valid from the next Meridian, 2 valid -/
  route : Nat
  /-- Meridian of `now` in which the last poll was placed or dropped, plus 1 (R281) -/
  polledAt : Nat
  /-- the port left Lodestar while SV was stopped: the entry is to become RELEASED (R284) -/
  relDue : Bool
  deriving DecidableEq, Repr

/-- The hidden state of a downstream port. -/
structure PortX where
  /-- the port is armed (R87) and power-demanded (R154) -/
  armed : Bool
  demand : Bool
  /-- a port restart holds CC open (R165); a device was connected when it began -/
  restart : Bool
  restartDev : Bool
  /-- the owner's indicator selector (R167) and the wire state of a port reset (R162) -/
  indSel : Nat
  chirped : Bool
  /-- changes of the hub state since the last Meridian, in HUBCHG's bit places (R142) -/
  chg : Nat
  /-- a waking port of its suspended partition (R147) and K driven on the port for the partition -/
  waking : Bool
  kDriven : Bool
  /-- SOF is being sent on the port -/
  sofOn : Bool
  /-- hub-class actions that wait for the sector engine to run again, oldest first (R16) -/
  hubActs : List HubAct
  /-- a held ownership request: target and requester code (R258); it has been sampled at a Meridian (R259) -/
  request : Option (Nat × Nat)
  reqSampled : Bool
  /-- a restart or hard reset fell during the handover (R264), and it has ended -/
  hoHold : Bool
  hoEnded : Bool
  /-- Lodestar has claimed the port: its entry begins at M4 (R263, R285) -/
  claimDue : Bool
  /-- Type-C (R291): the path taken, whether Rd is presented, TryWait, a partner's Ra on the other CC, the moisture
  check running, Wet retest due -/
  path : TcPath
  presRd : Bool
  tryWait : Bool
  ra : Bool
  checking : Bool
  /-- vSafe5V budget has been asked for and not yet granted (R344) -/
  ask : Bool
  /-- gate driven, VBUS above 0.8 V, DSCH driven -/
  gate : Bool
  vbus : Bool
  dsch : Bool
  /-- power-good qualification running; microframe-free stamp of power-good in Meridians (R334) -/
  qual : Bool
  pgAt : Nat
  cleanRun : Bool
  /-- fault timer not at 0; self-test; retry wait: running, length in half seconds, start in Meridians; a wait not yet
  started because PE1 is down; thermal hold -/
  selfTest : SelfTest
  waitRun : Bool
  waitLen : Nat
  waitAt : Nat
  waitDue : Bool
  /-- PE1 was down at the trip, so the wait counts from its return (R332) -/
  waitAnew : Bool
  thermHold : Bool
  latched : Bool
  /-- FBI: target in force and old target (0 5 V … 3 20 V), ramp running, trim steps offset by 64, Meridians at limit -/
  target : Nat
  oldTarget : Nat
  ramp : Bool
  /-- VBUS has entered the window of the target since the ramp (R319) -/
  inWindow : Bool
  trim : Nat
  trimAtLimit : Nat
  /-- trimming runs after a ramp (R319); excess of the FET junction over the board in 10^-12 °C (R330) -/
  trimRun : Bool
  dT : Nat
  /-- the FBI output is driven, not high impedance (R49); error recovery asked for while the link was lost (R15) -/
  fbiOn : Bool
  errDue : Bool
  /-- PD: negotiated revision, offered PDOs, an accepted Request whose PS_RDY is pending, tSrcTransition running,
  Source_Capabilities due, count sent, a Request awaited (tSenderResponse), hard-reset count, hard-reset phase -/
  rev : Nat
  offer : List (Nat × Nat)
  accepted : Option PdReq
  /-- maximum operating current of the contract in 10 mA units (R340) -/
  maxCur : Nat
  transRun : Bool
  capsDue : Bool
  capsCount : Nat
  awaitReq : Bool
  hrCount : Nat
  hr : HrPhase
  /-- own sequences waiting, tSinkTx running, VCONN swap, cable discovery outstanding, swap for discovery -/
  ams : List Ams
  sinkTx : Bool
  swap : SwapPhase
  discovering : Bool
  ocOff : Bool
  /-- PE0: a waiting re-advertisement, its pacing interval running, marked off by the port die alone -/
  readvDue : Bool
  readvRun : Bool
  /-- a partner left in Dusk: the rest of the detach runs after the return (R396) -/
  detachDue : Bool
  /-- PD messages stored while the link is lost or in Dusk (R15, R396) -/
  stored : List PdRx
  /-- TT: buffers in ACK order, records in pipeline order, microframe count of the owner's last SOF, 16,384 for none since
  the port last worked (R173, R186) -/
  np : List NpBuf
  per : List PerRec
  /-- StopTT awaits the end of the transaction on the wire (R183) -/
  stopDue : Bool
  frameM : Nat
  /-- in the present microframe: keys whose DATA was stranded, polls served from held DATA and from a held handshake (R209) -/
  strand : List Key
  hitData : Nat
  hitNak : Nat
  alm : KMap AlmEntry
  /-- maximum packet sizes taken from configuration descriptors (R188) -/
  sizes : List (Key × Nat)
  ctls : List CtlXfer
  /-- addresses under a control hold with the microframe of their last split (R203), re-addressed addresses (R206) -/
  holds : List (Nat × Nat)
  readdr : List Nat
  /-- relay slots (R220) and control transfers on the high-speed relay -/
  slots : List Slot
  /-- endpoints whose next OUT needs a PING first (R21); slots in force while more are in use than SLOTLIM (R231) -/
  pingKeys : List Key
  slotLim : Nat
  lds : LdsPort
  deriving DecidableEq, Repr

/-- Lodestar's state of a port it does not work on. -/
def LdsPort.reset : LdsPort := ⟨.vacant, .idle, 0, 0, 0, [], [], 0, 0, 0, false, 0, 0, false⟩

/-- Lodestar's transfers and polls on a port stop. -/
def LdsPort.halt (l : LdsPort) : LdsPort := { l with step := .idle, polling := false }

/-- Lodestar's device is gone or out of its reach: its routing entry is invalid too (R271). -/
def LdsPort.gone (l : LdsPort) : LdsPort := { l.halt with route := 0 }

/-- The hidden state of a port after a device-level reset. -/
def PortX.reset : PortX where
  armed := false
  demand := false
  restart := false
  restartDev := false
  indSel := 0
  chirped := false
  chg := 0
  waking := false
  kDriven := false
  sofOn := false
  hubActs := []
  request := none
  reqSampled := false
  hoHold := false
  hoEnded := false
  claimDue := false
  path := .source
  presRd := false
  tryWait := false
  ra := false
  checking := false
  ask := false
  gate := false
  vbus := false
  dsch := false
  qual := false
  pgAt := 0
  cleanRun := false
  selfTest := .none
  waitRun := false
  waitLen := 0
  waitAt := 0
  waitDue := false
  waitAnew := false
  thermHold := false
  latched := false
  target := 0
  oldTarget := 0
  ramp := false
  inWindow := true
  trim := 64
  trimAtLimit := 0
  trimRun := false
  dT := 0
  fbiOn := false
  errDue := false
  rev := 0
  offer := []
  accepted := none
  maxCur := 0
  transRun := false
  capsDue := false
  capsCount := 0
  awaitReq := false
  hrCount := 0
  hr := .none
  ams := []
  sinkTx := false
  swap := .none
  discovering := false
  ocOff := false
  readvDue := false
  readvRun := false
  detachDue := false
  stored := []
  np := []
  per := []
  stopDue := false
  frameM := 16384
  strand := []
  hitData := 0
  hitNak := 0
  alm := []
  sizes := []
  ctls := []
  holds := []
  readdr := []
  slots := []
  pingKeys := []
  slotLim := 64
  lds := LdsPort.reset

end Sys2Proof.Machine
end

