-- ==== Sys2Proof/Machine/HiddenCore.lean ====
section
/-! DEFINITION. What the upstream personalities, sectors, quads, fault blocks, mailboxes, the switch, packet memory,
boot, the flash session and Nightwatch hold beside their registers. -/

namespace Sys2Proof.Machine

/-- One port in a personality's hub view (R141): status bits, change bits, whether the port's bit of the
status-change bitmap is newly reportable (R143), and PORT_POWER as GetPortStatus shows it: `pwr` is the feature as the host
last set it, `pwrSeen` follows it at each Meridian. -/
structure View where
  conn : Bool
  en : Bool
  susp : Bool
  oc : Bool
  rst : Bool
  pwr : Bool
  low : Bool
  high : Bool
  test : Bool
  ind : Bool
  cConn : Bool
  cEn : Bool
  cSusp : Bool
  cOc : Bool
  cRst : Bool
  fresh : Bool
  pwrSeen : Bool
  deriving DecidableEq, Repr

/-- A view with every bit 0. -/
def View.zero : View :=
  ⟨false, false, false, false, false, false, false, false, false, false, false, false, false, false, false, false, false⟩

/-- The control transfer in progress on a personality's EP0 (R144). -/
inductive Ctl where
  | none
  | request                                                  -- hub-class or standard: its effect stands
  | vendorRead (addr : Nat) (words : Nat)
  | vendorWrite (addr : Nat) (bytes : List Byte)             -- being staged
  | vendorStatus
  deriving DecidableEq, Repr

/-- The descriptor record of a personality (R132) beside what UPS[u] holds. -/
structure PersRecord where
  vid : Nat
  pid : Nat
  bcd : Nat
  mfr : List Nat
  prod : List Nat
  serial : List Nat
  deriving DecidableEq, Repr

/-- Hidden state of a personality. -/
structure UpX where
  views : KMap View
  record : PersRecord
  ctl : Ctl
  /-- result code of the last completed vendor read or write (R107) -/
  lastSts : Nat
  /-- waking ports of a wake being propagated, the waking port first (R147) -/
  wakers : List Nat
  kStarted : Bool
  hostResume : Bool
  /-- the return from Dusk has already raised EVT.RESUME for this resume (R399, R32) -/
  resumeSeen : Bool
  /-- status-change packet sent and not yet ACKed (R143), its toggle -/
  sentPorts : List Nat
  sentTog : Bool
  /-- test mode selector, routing changes waiting for the next Meridian (R225): address, port or none, high speed -/
  testSel : Nat
  rtPending : List (Nat × Option Nat × Bool)
  /-- the table has moved to a new generation in this Meridian (R226) -/
  rtAdv : Bool
  /-- consecutive upstream packets with a bad CRC (R374) -/
  badCrc : Nat
  /-- frame number and microframe index of the last SOF as m (R173) -/
  frameM : Nat
  /-- fault action in force: the pull-up is held off (R378) -/
  blocked : Bool
  /-- in mode none, a bus reset ended: devices still attached are shown anew from the next Meridian (R145) -/
  showAfter : Bool
  /-- Type-C of the receptacle (R290, R294): path taken, Rp presented, TryWait.SRC, debounce over and VBUS awaited -/
  path : TcPath
  presRp : Bool
  tryWait : Bool
  debounced : Bool
  /-- the status-change endpoint is halted (R134) -/
  halted : Bool
  /-- SETUP transfers forwarded on the high-speed relay, by address (R22, R225) -/
  xfers : List (Nat × CtlXfer)
  /-- the last port reset was relayed to a hub: its address, its port, and whether it has reported a high-speed device since
  (R225) -/
  hubReset : Option (Nat × Nat × Bool)
  deriving DecidableEq, Repr

/-- Hidden state of a personality after reset. -/
def UpX.reset : UpX :=
  ⟨[], ⟨0, 0, 0, [], [], []⟩, .none, 0, [], false, false, false, [], false, 0, [], false, 0, 0, false, false, .sink, false, false,
    false, false, [], none⟩

/-- Hidden state of a sector: port die out of its power-on reset, link lost and not restored, the 20 ms passed, a
restart running and whether its boot steps are done, frame last sent on Ss_LED (12 codes). -/
structure SecX where
  dieUp : Bool
  lost : Bool
  late : Bool
  restarting : Bool
  hot : Bool
  ledSent : List Nat
  deriving DecidableEq, Repr

/-- Hidden state of a sector after reset. -/
def SecX.reset : SecX := ⟨false, false, false, false, false, []⟩

/-- The values of a quad's identity memory in use (R321): per port RSENSE µΩ, PSOA mW, RTH 0.1 °C/W, TAU ms, FBV0 mV,
FBRT 100 Ω. -/
structure PortIdent where
  rsense : Nat
  psoa : Nat
  rth : Nat
  tau : Nat
  fbv0 : Nat
  fbrt : Nat
  deriving DecidableEq, Repr

/-- The whole identity of a quad. -/
structure Ident where
  boardrev : Nat
  rshunt : Nat
  ports : List PortIdent
  deriving DecidableEq, Repr

/-- Hidden state of a quad: identity in use, cache used without reading the memory this boot, Meridians of over-power,
cap or Fail triggers in force, SHED_START due, Fail entered and PE0 has not acted. -/
structure QuadX where
  ident : Option Ident
  reread : Bool
  overM : Nat
  capTrig : Bool
  failTrig : Bool
  failNew : Bool
  actionMark : Bool
  deriving DecidableEq, Repr

/-- Hidden state of a quad after reset. -/
def QuadX.reset : QuadX := ⟨none, false, 0, false, false, false, false⟩

/-- Hidden state of a fault block (R373): conditions still present (bit k), action in force, major sources recorded since
the grace timer started (bit k). -/
structure FaultX where
  present : Nat
  action : Bool
  major : Nat
  deriving DecidableEq, Repr

/-- A fault block with nothing present. -/
def FaultX.reset : FaultX := ⟨0, false, 0⟩

/-- Hidden state of a mailbox (R123): capture asked for, its values taken at the Meridian, capture running, who asked,
captured words, the code the capture will end with, and whether it reads the flash. -/
structure MbxX where
  due : Bool
  taken : Bool
  running : Bool
  req : Nat
  words : List Nat
  err : Nat
  fromFlash : Bool
  deriving DecidableEq, Repr

/-- A mailbox with nothing captured. -/
def MbxX.reset : MbxX := ⟨false, false, false, 0, [], 0, false⟩

/-- What a packet in the switch is (R21, R222). -/
inductive PktKind where
  | setup | out | isoOut | inData
  deriving DecidableEq, Repr

/-- State of a packet's tail (R219, R240). -/
inductive Tail where
  | receiving | good | bad
  deriving DecidableEq, Repr

/-- A packet between an input and an output of the switch. -/
structure Pkt where
  id : Nat
  inp : Nat
  out : Nat
  gen : Nat
  kind : PktKind
  key : Key
  pid : Nat
  bytes : List Byte
  tail : Tail
  /-- reservation in granules, of which from the free pool; granules written -/
  resv : Nat
  fromPool : Nat
  used : Nat
  /-- cut-through has begun; words written into the ingress queue and read from it; write pointer of the first (R240) -/
  started : Bool
  wrW : Nat
  rdW : Nat
  first : Nat
  /-- released to the wire (awaiting the device's answer), the token sent was a PING, consecutive errors -/
  released : Bool
  pinging : Bool
  errors : Nat
  /-- microframe count of the owner's SOF at arrival (R222) -/
  age : Nat
  /-- no room for a further packet when it was admitted (R216) -/
  nyet : Bool
  /-- held in the streaming fall-back pair (R248): 0 no, 1 of its output region, 2 of its ingress queue; the place in the
  pair at which it begins (R247) -/
  pair : Nat
  pairAt : Nat
  /-- voided by an error while it is received: only its tail is awaited (R243, R251) -/
  void : Bool
  deriving DecidableEq, Repr

/-- The line fence of packet memory (R245, R246). -/
structure FenceX where
  pending : List Nat
  active : Option Nat
  /-- 0 none, 1 streaming, 2 overlay fall-back of the region of the line; region -/
  mode : Nat
  region : Nat
  /-- the fenced line was Queued before (R238) -/
  queued : Bool
  waiting : Bool
  writeback : Bool
  /-- logical lines mapped onto a replacement line; spare lines in use or retired; pool granules in use as replacements -/
  map : List (Nat × Nat)
  spares : List Nat
  /-- the packet that holds the line under test (R238); the eight words of the fence buffer (R246) -/
  holder : Option Nat
  buf : List Nat
  /-- streaming fall-back is over for new packets, and one is still being written into the pair; bytes written into the pair
  so far; the overlay's line slots with their eight words (R247) -/
  ending : Bool
  pairPos : Nat
  slots : List (Nat × List Nat)
  deriving DecidableEq, Repr

/-- No fence. -/
def FenceX.reset : FenceX := ⟨[], none, 0, 0, false, false, false, [], [], none, [], false, 0, []⟩

/-- The switch and packet memory beside their registers. -/
structure SwX where
  packets : List Pkt
  nextId : Nat
  beats : Nat
  /-- the input that the fabric served last (R212) -/
  lastIn : Nat
  /-- the words of packet memory (R232), by physical line × 8 + place; a word that nothing has written is 0 -/
  mem : KMap Nat
  fence : FenceX
  /-- a further low-mark crossing may be taken (R244) -/
  armedLow : Bool
  /-- the first retirement without a spare has been reported (R252) -/
  poolRetired : Bool
  deriving DecidableEq, Repr

/-- The switch after reset. DESIGN CHOICE (log entry 109): the round robin of R212 begins at input 0. -/
def SwX.reset : SwX := ⟨[], 0, 0, 52, [], FenceX.reset, true, false⟩

/-- A journal record (R90). -/
structure JRec where
  seq : Nat
  bootno : Nat
  code : Nat
  inst : Nat
  outcome : Nat
  slot : Nat
  reason : Nat
  arg : Nat
  time : Nat
  deriving DecidableEq, Repr

/-- A section entry of the manifest in force (R84). -/
structure Sect where
  typ : Nat
  version : Nat
  offset : Nat
  length : Nat
  digest : Nat
  deriving DecidableEq, Repr

/-- Cached digests of the last full boot (R100). -/
structure Digests where
  manifest : Nat
  sects : List Sect
  deriving DecidableEq, Repr

/-- What the Nightwatch retention SRAM keeps (R387), the journal apart. -/
structure Retain where
  /-- nothing has been kept yet: the boot state is to be rebuilt from the flash journal (R88) -/
  lost : Bool
  journal : List JRec
  jseq : Nat
  bootNo : Nat
  consec : Nat
  /-- failure memory as the 20 bits of BOOT.FAILMEM, and the run of each mark (R88) -/
  failMem : Nat
  runs : KMap Nat
  cause : Nat
  idents : KMap (Option Ident)
  phyTrim : Option Nat
  digests : Option Digests
  /-- SFDP parameters valid, and the step 0x05 result: restricted -/
  sfdp : Bool
  compat : Option Bool
  energy : KMap Nat
  owners : List Nat
  deriving DecidableEq, Repr

/-- Retention after a power-on reset. -/
def Retain.reset : Retain := ⟨true, [], 0, 0, 0, 0, [], 1, [], none, none, false, none, [], []⟩

/-- The boot in progress (R87). -/
structure BootX where
  /-- step in progress 0x01 to 0x0E, 0 once complete; instance for 0x08 and 0x09 -/
  step : Nat
  inst : Nat
  abbrev_ : Bool
  slot : Nat
  fallback : Bool
  restricted : Bool
  /-- 10 ms of R89 running; the boot has started: it has its number and its event 0x28 (R90, R91) -/
  retry : Bool
  started : Bool
  /-- marks whose alternative method this boot has used (R88) -/
  altUsed : Nat
  manifest : List Sect
  length : Nat
  rollback : Nat
  fitted : Nat
  build : Nat
  manDigest : Nat
  restarted : List Nat
  /-- the initial ownership table waits for the next Meridian (R265) -/
  ownDue : Bool
  ownTable : List Nat
  ownInForce : Bool
  /-- microseconds since boot start (R90) -/
  us : Nat
  openUpdate : Bool
  /-- the flash answers (NVM probe done), next position and highest JSEQ of the journal ring (R91) -/
  nvm : Bool
  jPos : Nat
  jFlash : Nat
  /-- length of the last VERIFY that passed (R98) -/
  verLen : Nat
  deriving DecidableEq, Repr

/-- A boot at step 0x01. -/
def BootX.reset : BootX :=
  ⟨1, 0, false, 0, false, false, false, false, 0, [], 0, 0, 0, 0, 0, [], false, [], false, 0, false, false, 0, 0, 0⟩

/-- The rescue personality (R95): address, configuration, state code of R138, high speed, last vendor result. -/
structure RescueX where
  chosen : Bool
  port : Nat
  fromUps : Bool
  devstate : Nat
  addr : Nat
  hs : Bool
  ctl : Ctl
  lastSts : Nat
  deriving DecidableEq, Repr

/-- No rescue. -/
def RescueX.reset : RescueX := ⟨false, 0, false, 0, 0, false, .none, 0⟩

/-- Nightwatch (R393, R396): the handshake runs, aims at Eclipse, and the block asked next; a wake event of the present Dusk
or Eclipse has been recorded. -/
structure SleepX where
  running : Bool
  eclipse : Bool
  next : Nat
  woken : Bool
  deriving DecidableEq, Repr

/-- No handshake. -/
def SleepX.reset : SleepX := ⟨false, false, 0, false⟩

/-- An update command in progress (R98, R417): its code, slot and length, and what a VERIFY found. -/
structure UpdX where
  cmd : Nat
  slot : Nat
  len : Nat
  result : Nat
  reason : Nat
  arg : Option Nat
  restrict : Bool
  /-- accepted while the service engine does not run: it begins when that engine does (R16) -/
  waiting : Bool
  /-- COMMIT's header record has landed, and event 0x23 is still to be journaled (R99) -/
  landed : Bool
  deriving DecidableEq, Repr

end Sys2Proof.Machine
end

