-- ==== Sys2Proof/Syntax.lean ====
section
/-! DEFINITION. The commands of the block: one constructor per row of the opcode table, with the operands that the event
or access carries from outside. A register write carries its requester and the word written; measurements, device answers
and flash read-backs are operands, since they come from outside the part. -/

namespace Sys2Proof

open Sys2Proof.Machine

/-- What the hardware found during a boot step (R87): the NVM answered and read, every SRAM read back right, the identity
memory's bytes (none: no answer), link training at full and reduced rate, calibration and its trim. -/
structure StepReport where
  nvmOk : Bool
  sramOk : Bool
  mem : Option (List Byte)
  linkFull : Bool
  linkReduced : Bool
  calOk : Bool
  trim : Nat
  deriving DecidableEq, Repr

/-- What a sector restart's steps found (R96): SRAM read back, the three identity memories, link training, engines. -/
structure SectorReport where
  sramOk : Bool
  mems : List (Fin 3 × List Byte)
  linkFull : Bool
  linkReduced : Bool
  ready : Bool
  deriving DecidableEq, Repr

/-- A downstream wake event (R147). -/
inductive WakeEv where
  | k | connect | disconnect | trip
  deriving DecidableEq, Repr

/-- What the port die sees on CC in Unattached (R291): Rd on one CC (the second where cc2), Ra on the other where ra;
Ra on both or Rd on both; a source's Rp, with the current it advertises (0 default, 1 1.5 A, 2 3.0 A). -/
inductive CcSight where
  | rd (cc2 ra : Bool)
  | accessory
  | rp (cc2 : Bool) (cur : Fin 3)
  deriving DecidableEq, Repr

/-- What the far end presents when a try ends (R291): Ra on the other CC pin, and as a source the current its Rp advertises
(0 default, 1 1.5 A, 2 3.0 A). A downstream port looks for the first, an upstream one for the second. -/
structure FarEnd where
  ra : Bool
  cur : Fin 3
  deriving DecidableEq, Repr

/-- Leakages measured by the moisture check (R158), in kΩ, per pin (CC1, CC2, SBU1, SBU2): to ground and to VBUS. -/
structure LeakSet where
  gCc1 : BitVec 12
  gCc2 : BitVec 12
  gSbu1 : BitVec 12
  gSbu2 : BitVec 12
  vCc1 : BitVec 12
  vCc2 : BitVec 12
  vSbu1 : BitVec 12
  vSbu2 : BitVec 12
  deriving DecidableEq, Repr

/-- Where an uncorrectable error was read (R250): fabric copy of a packet, transmit path of a packet, a relay slot, a
TT's non-periodic or periodic result, a Meteor held slot, a hub endpoint buffer of a personality, Lodestar's data for a
port, or nothing in use. -/
inductive ErrAt where
  | ingress (id : Nat) | transmit (id : Nat) | slot (n : Fin 48) (key : Key)
  | ttNp (n : Fin 48) (key : Key) | ttPer (n : Fin 48) (key : Key) | meteor (n : Fin 48) (k : Fin 16)
  | hub (u : Fin 4) | lodestar (n : Fin 48) | idle
  deriving DecidableEq, Repr

/-- The line in which an uncorrectable error was found (R250): its number in the packet memory, and whether the word came
from a fall-back bank that stands in for it. -/
structure ErrLine where
  line : Fin 32768
  bank : Bool
  deriving DecidableEq, Repr

/-- The token of a periodic CSPLIT (R176, R177): IN or OUT, and what an isochronous IN on the wire has received since the last. -/
structure CsplitTok where
  dirIn : Bool
  arrived : List Byte
  deriving DecidableEq, Repr

/-- A port, and the time within its microframe in full-speed bit times (R178). -/
structure PortTime where
  port : Fin 48
  time : Nat
  deriving DecidableEq, Repr

/-- The token of a non-periodic SSPLIT (R174). -/
inductive SplitTok where
  | setup (req : BitVec 64) | out (tog : Bool) (bytes : List Byte) | inTok
  deriving DecidableEq, Repr

/-- The areas of the retention SRAM (R387); a journal record by its place, newest 0; an identity image or energy count by
its quad. -/
inductive RetArea where
  | journal (i : Nat) | identity (q : Fin 12) | trim | digests | flashParams | bootState | energy (q : Fin 12)
  | eclipse
  deriving DecidableEq, Repr

/-- The fixed wake events of R396. -/
inductive FixedWake where
  | upstreamLine (u : Fin 4) | downstream (n : Fin 48) | portDie (n : Fin 48) | uVbus (u : Fin 4)
  deriving DecidableEq, Repr

/-- The commands of the block. -/
inductive Instr where
  /-- MERIDIAN (R26). The 125 µs fabric tick at which every block publishes its host-visible status into the shadow in one atomic step. -/
  | meridian (smp : Samples)
  /-- LINK_FRAME_CRC_FAIL (R14). A sector-link frame that fails its CRC is retransmitted by the link layer and never acted on. -/
  | linkFrameCrcFail (s : Fin 4)
  /-- LINK_LOCK_LOST (R15). A sector link loses lock; the core die retrains it and the port die enters autonomous hold. -/
  | linkLockLost (s : Fin 4)
  /-- LINK_RESTORED (R15). Retraining completes; the port die leaves autonomous hold and delivers stored PD messages in arrival order. -/
  | linkRestored (s : Fin 4)
  /-- LINK_RESTORE_TIMEOUT (R15). A link not restored within 20 ms records a major sector fault. -/
  | linkRestoreTimeout (s : Fin 4)
  /-- RESET_N_ASSERT (R49). RESET_N low past the glitch filter: every port die drops gates, opens CC, discharges VBUS, and upstream pull-ups switch off. -/
  | resetNAssert
  /-- RESET_N_RELEASE (R72). RESET_N rises; straps are sampled and boot begins within 100 µs. -/
  | resetNRelease (strap : BitVec 5)
  /-- POWER_ON_RESET_END (R59). Core-die power-on reset ends 1 ms after the last supply and the crystal are good; VDDIO mode is chosen and boot begins. -/
  | powerOnResetEnd (strap : BitVec 5) (vio33 : Bool)
  /-- PORT_DIE_POR_END (R59). A port die leaves power-on reset 1 ms after VDD5_Ss rises and waits in the Reset pin state for link training. -/
  | portDiePorEnd (s : Fin 4)
  /-- SUPPLY_LOW (R60). A supply stays below its falling threshold for 2 µs and the reaction listed for that supply is taken. -/
  | supplyLow (x : Supply)
  /-- UPSTREAM_VBUS_CHANGE (R138). Uu_VBUS appears or is lost, moving the personality to Attached or Detached and possibly entering rescue. -/
  | upstreamVbusChange (u : Fin 4) (present : Bool)
  /-- CORE_DIE_OVERTEMP (R76). Core die Tj at or above 115 °C for 1 ms raises a critical device fault. -/
  | coreDieOvertemp
  /-- PORT_DIE_OVERTEMP (R76). Port die Tj at or above 135 °C for 100 µs fast-offs all 12 gates and raises a major sector fault. -/
  | portDieOvertemp (s : Fin 4)
  /-- BOOT_STEP_COMPLETE (R87). A boot step finishes with OK, FAIL, SKIPPED or ALTERED, is journaled, and the next step or a boot-retry reset follows. -/
  | bootStepComplete (rep : StepReport)
  /-- ENGINE_READY_TIMEOUT (R87). An engine released at step 0x0B fails to report ready within 50 ms and is restarted once. -/
  | engineReadyTimeout (e : Fin 11)
  /-- BOOT_TIMEOUT (R89). A boot not at 0x0E within 2 s fails the step in progress with TIMEOUT. -/
  | bootTimeout
  /-- BOOT_RETRY_RESET (R89). 10 ms after a mandatory step's failure is journaled, the boot-retry reset takes place. -/
  | bootRetryReset
  /-- IDENTITY_REREAD_COMPLETE (R87). After 0x0E a quad identity memory read from the cache is reread, and a difference or failure sets IDDIFF or IDFAIL. -/
  | identityRereadComplete (q : Fin 12) (mem : Option (List Byte))
  /-- RESCUE_RSTREQ (R95). A write of BOOT.RESCUE.RSTREQ leaves rescue with reset cause 0x08, clearing the retry count and failure memory. -/
  | rescueRstreq (r : Requester) (w : Word)
  /-- FAILCLR (R88). A 1 written to a BOOT.FAILCLR bit clears that failure-memory mark. -/
  | failclr (r : Requester) (w : Word)
  /-- UPDCMD_OPEN (R98). OPEN journals 0x20 and writes a header marking the target slot EMPTY, opening an update session. -/
  | updcmdOpen (r : Requester) (slot : Bool)
  /-- UPDCMD_ERASE (R98). ERASE erases the target slot in 64 KiB blocks and journals 0x21. -/
  | updcmdErase (r : Requester)
  /-- UPDCMD_PROGRAM (R98). PROGRAM writes the page buffer to UPDOFS in the target slot and reads it back. -/
  | updcmdProgram (r : Requester)
  /-- UPDCMD_VERIFY (R98). VERIFY runs the manifest, signature, compatibility and digest checks on the target and journals 0x22. -/
  | updcmdVerify (r : Requester)
  /-- UPDCMD_COMMIT (R98). COMMIT writes one header making the target ACTIVE and the old slot PREVIOUS, and invalidates cached digests. -/
  | updcmdCommit (r : Requester)
  /-- UPDCMD_ABORT (R98). ABORT ends the update session with nothing further written. -/
  | updcmdAbort (r : Requester)
  /-- UPDATE_COMMAND_COMPLETE (R417). A running update command finishes, clearing BUSY and setting UPDSTS.RESULT and the session state. -/
  | updateCommandComplete (readBack : Bool)
  /-- RBCTR_WRITE (R101). A write of BOOT.RBCTR, if allowed, starts advancing the anti-rollback fuse counter. -/
  | rbctrWrite (r : Requester) (w : Word)
  /-- FUSE_BLOW_COMPLETE (R101). One anti-rollback fuse is blown and verified; the next follows until the value is reached and 0x25 is journaled. -/
  | fuseBlowComplete
  /-- RESETREQ (R415). A write of SYS.RESETREQ with GO and the key schedules a software full reset. -/
  | resetreq (r : Requester) (w : Word)
  /-- SOFTWARE_FULL_RESET (R415). 1 ms after an accepted RESETREQ, or when a pending record write ends, the software full reset begins. -/
  | softwareFullReset
  /-- SPI_READ (R104). An SPI 0xA1 frame reads 1–256 words from one Meridian's shadow, clearing RC fields as words shift out. -/
  | spiRead (hdr : List Byte) (clocked : Nat)
  /-- SPI_WRITE (R104). An SPI 0xA2 frame writes 1–256 words, judged word by word and committed whole or not at all. -/
  | spiWrite (bytes : List Byte)
  /-- SPI_STATUS (R104). An SPI 0xA5 frame returns the result of the last completed SPI read or write frame; it ends at STS. One
  that goes on is an SPI_READ whose command byte is 0xA5. -/
  | spiStatus
  /-- SPI_UNKNOWN_COMMAND (R105). An SPI frame with an unknown command byte is ignored and records E_RANGE in SYS.LASTERR. -/
  | spiUnknownCommand (onI2c : Bool) (cmd : Byte)
  /-- SHORT_FRAME (R111). A write frame that ends before CNT words arrive commits the complete words or nothing, with E_PART. -/
  | shortFrame (onI2c : Bool) (bytes : List Byte)
  /-- I2C_READ (R106). An I2C 0xA1 transfer reads words at the strapped address. -/
  | i2cRead (adr : BitVec 7) (hdr : List Byte) (clocked : Nat)
  /-- I2C_WRITE (R106). An I2C 0xA2 transfer writes words, committed at the ending P or Sr. -/
  | i2cWrite (adr : BitVec 7) (bytes : List Byte)
  /-- I2C_STATUS (R106). An I2C 0xA5 transfer returns the result of the last completed I2C frame; it ends at STS. One that goes
  on is an I2C_READ whose command byte is 0xA5. -/
  | i2cStatus (adr : BitVec 7)
  /-- VENDOR_READ (R108). A USB vendor request 0x40 samples words at Setup and returns them in the data stage. -/
  | vendorRead (u : Fin 5) (bm : Byte) (wValue wIndex wLength : BitVec 16) (status : Bool)
  /-- VENDOR_WRITE (R108). A USB vendor request 0x41 stages its data and commits it as one frame before ACKing the status stage. -/
  | vendorWrite (u : Fin 5) (bm : Byte) (wValue wIndex wLength : BitVec 16) (bytes : List Byte) (complete : Bool)
  /-- VENDOR_STATUS (R107). A USB vendor request 0x45 returns the STS of the personality's last completed vendor read or write. -/
  | vendorStatus (u : Fin 5) (bm : Byte) (wValue wIndex wLength : BitVec 16)
  /-- REGISTER_WRITE (R114). A write to register fields without a row of their own is judged and stored. -/
  | registerWrite (r : Requester) (addr : BitVec 24) (w : Word)
  /-- BIT_ALIAS_WRITE (R121). A write to a bit-alias word sets or clears one bit atomically, following the bit's access code. -/
  | bitAliasWrite (r : Requester) (addr : BitVec 24) (w : Word)
  /-- VOTE_DISAGREE (R119). The three copies of a TRV field disagree; source 2 is raised, VOTECNT increments and a rewrite is scheduled. -/
  | voteDisagree (addr : BitVec 24) (lo : Fin 32) (copy : Fin 3) (v : Word)
  /-- VOTE_REWRITE (R119). The Warden rewrites the minority copy with the majority within 100 µs. -/
  | voteRewrite (addr : BitVec 24) (lo : Fin 32)
  /-- MBX_SEL_WRITE (R123). A write of MBX SEL clears VALID and ERR, resets PART and releases any bulk buffer held. -/
  | mbxSelWrite (r : Requester) (m : Fin 8) (w : Word)
  /-- MBX_GO (R123). A write of CTRL.GO sets BUSY and schedules the capture of the selected value. -/
  | mbxGo (r : Requester) (m : Fin 8) (w : Word)
  /-- MBX_PART_WRITE (R123). A write of CTRL.PART selects the part shown in DATA0–DATA3. -/
  | mbxPartWrite (r : Requester) (m : Fin 8) (w : Word)
  /-- MBX_DATA3_READ (R123). A read of DATA3 with VALID set advances PART by one, wrapping after the last part. -/
  | mbxData3Read (r : Requester) (m : Fin 8)
  /-- MBX_CAPTURE_START (R125). At the Meridian following GO, or at once for journal and identity selectors, the capture begins. -/
  | mbxCaptureStart (m : Fin 8)
  /-- MBX_CAPTURE_COMPLETE (R125). A capture ends, clearing BUSY and setting VALID or ERR. -/
  | mbxCaptureComplete (m : Fin 8) (flashOk : Bool)
  /-- BULK_BUFFER_TIMEOUT (R126). 1 s after VALID was set, the bulk buffer is released and the holding mailbox's VALID cleared. -/
  | bulkBufferTimeout
  /-- BUS_RESET (R145). A bus reset of a personality resets its hub view, owned ports, TTs and routing table, and enters Default. -/
  | busReset (u : Fin 4) (hs : Bool)
  /-- PERSONALITY_EN_WRITE (R138). A write of UPS CTL.EN enables or disables a personality, switching the pull-up and entering Attached or Detached. -/
  | personalityEnWrite (r : Requester) (u : Fin 4) (w : Word)
  /-- SET_ADDRESS (R138). SET_ADDRESS to the personality takes the address at the status stage. -/
  | setAddress (u : Fin 4) (adr : BitVec 7)
  /-- SET_CONFIGURATION (R138). SetConfiguration to the personality enters Configured, or returns to Address with the port actions of R145. -/
  | setConfiguration (u : Fin 4) (cfg : Byte)
  /-- SET_INTERFACE (R136). SetInterface changing the alternate setting resets every TT of the ports the personality owns. -/
  | setInterface (u : Fin 4) (alt : Byte)
  /-- GET_DESCRIPTOR (R134). A standard GET_DESCRIPTOR returns the device, configuration, qualifier or string descriptor built from UPS fields. -/
  | getDescriptor (u : Fin 4) (wValue wIndex wLength : BitVec 16)
  /-- GET_STATUS (R134). GET_STATUS to the device returns self-powered and remote-wakeup bits. -/
  | getStatus (u : Fin 4)
  /-- SET_FEATURE_TEST_MODE (R138). SetFeature(TEST_MODE) enters the selected USB 2.0 test mode. -/
  | setFeatureTestMode (u : Fin 4) (sel : Byte)
  /-- NEW_SETUP_ABORT (R144). A new SETUP before a transfer's status stage ends that transfer without the bus-reset actions. -/
  | newSetupAbort (u : Fin 4)
  /-- GET_HUB_STATUS (R140). GetHubStatus returns zero hub status and change. -/
  | getHubStatus (u : Fin 4)
  /-- CLEAR_HUB_FEATURE (R140). ClearHubFeature completes with no effect. -/
  | clearHubFeature (u : Fin 4) (sel : BitVec 16)
  /-- SET_HUB_FEATURE (R140). SetHubFeature is STALLed. -/
  | setHubFeature (u : Fin 4) (sel : BitVec 16)
  /-- GET_PORT_STATUS (R141). GetPortStatus returns wPortStatus and wPortChange from the personality's hub view. -/
  | getPortStatus (u : Fin 4) (i : Byte)
  /-- SET_PORT_FEATURE_PORT_RESET (R161). SetPortFeature(PORT_RESET) on an owned port drives SE0 and runs the chirp handshake. -/
  | setPortFeaturePortReset (u : Fin 4) (i : Byte)
  /-- SET_PORT_FEATURE_PORT_SUSPEND (R161). SetPortFeature(PORT_SUSPEND) suspends an Enabled owned port from the next frame boundary. -/
  | setPortFeaturePortSuspend (u : Fin 4) (i : Byte)
  /-- SET_PORT_FEATURE_PORT_TEST (R161). SetPortFeature(PORT_TEST) runs the selected test mode on the port. -/
  | setPortFeaturePortTest (u : Fin 4) (i sel : Byte)
  /-- SET_PORT_FEATURE_PORT_INDICATOR (R167). SetPortFeature(PORT_INDICATOR) selects the port indicator mode. -/
  | setPortFeaturePortIndicator (u : Fin 4) (i sel : Byte)
  /-- SET_PORT_FEATURE_PORT_ENABLE (R140). SetPortFeature(PORT_ENABLE) is STALLed. -/
  | setPortFeaturePortEnable (u : Fin 4) (i : Byte)
  /-- SET_PORT_FEATURE_PORT_POWER (R139). SetPortFeature(PORT_POWER) sets the view bit, raising the port's demand in individual mode. -/
  | setPortFeaturePortPower (u : Fin 4) (i : Byte)
  /-- CLEAR_PORT_FEATURE_PORT_POWER (R139). ClearPortFeature(PORT_POWER) clears the view bit, lowering the demand in individual mode. -/
  | clearPortFeaturePortPower (u : Fin 4) (i : Byte)
  /-- CLEAR_PORT_FEATURE_PORT_ENABLE (R161). ClearPortFeature(PORT_ENABLE) disables the port. -/
  | clearPortFeaturePortEnable (u : Fin 4) (i : Byte)
  /-- CLEAR_PORT_FEATURE_PORT_SUSPEND (R161). ClearPortFeature(PORT_SUSPEND) drives 20 ms of resume K on a suspended port. -/
  | clearPortFeaturePortSuspend (u : Fin 4) (i : Byte)
  /-- CLEAR_PORT_FEATURE_PORT_INDICATOR (R140). ClearPortFeature(PORT_INDICATOR) acts on the port's indicator. -/
  | clearPortFeaturePortIndicator (u : Fin 4) (i : Byte)
  /-- CLEAR_PORT_FEATURE_CHANGE (R141). ClearPortFeature of a change bit clears that bit in the hub view at once. -/
  | clearPortFeatureChange (u : Fin 4) (i : Byte) (c : Fin 5)
  /-- CLEAR_TT_BUFFER (R181). ClearTTBuffer frees the non-periodic TT buffer with the given key. -/
  | clearTtBuffer (u : Fin 4) (wValue : BitVec 16) (i : Byte)
  /-- RESET_TT (R182). ResetTT frees every TT buffer and record and ends a stop. -/
  | resetTt (u : Fin 4) (i : Byte)
  /-- STOP_TT (R183). StopTT stops the TT once the transaction on the wire has finished. -/
  | stopTt (u : Fin 4) (i : Byte)
  /-- GET_TT_STATE (R140). GetTTState is STALLed. -/
  | getTtState (u : Fin 4) (i : Byte)
  /-- GET_HUB_DESCRIPTOR (R135). GetHubDescriptor returns the hub descriptor built from the personality's fields. -/
  | getHubDescriptor (u : Fin 4) (wLength : BitVec 16)
  /-- SET_HUB_DESCRIPTOR (R135). SetHubDescriptor is STALLed. -/
  | setHubDescriptor (u : Fin 4)
  /-- STATUS_CHANGE_IN (R143). An IN to the status-change endpoint returns the change bitmap or NAK. -/
  | statusChangeIn (u : Fin 4)
  /-- STATUS_CHANGE_ACK (R143). The host's ACK of a status-change packet stops the carried ports being newly reportable. -/
  | statusChangeAck (u : Fin 4)
  /-- SUSPEND (R146). 3 ms of upstream idle suspends the personality and stops SOF on its owned ports within 1 ms. -/
  | suspend (u : Fin 4)
  /-- WAKE_QUALIFY (R147). A downstream wake event qualifies while the partition is suspended, recording WAKESRC and driving K on the other ports. -/
  | wakeQualify (n : Fin 48) (ev : WakeEv)
  /-- UPSTREAM_K_START (R147). 100 µs after qualification, unless the host resumed first, the Galuc drives K upstream. -/
  | upstreamKStart (u : Fin 4)
  /-- UPSTREAM_K_END (R147). After 2 ms of upstream K the Galuc releases the line to the host. -/
  | upstreamKEnd (u : Fin 4)
  /-- HOST_RESUME (R148). The host begins resume on a suspended personality; the Galuc follows it and drives K on the partition. -/
  | hostResume (u : Fin 4)
  /-- RESUME_EOP (R149). The host ends resume with EOP; C_PORT_SUSPEND is latched for waking ports and SOF restarts within 1 ms. -/
  | resumeEop (u : Fin 4)
  /-- HOST_SOF (R173). The owner's SOF marks a microframe; TT frames begin and the Almanac counts misses. -/
  | hostSof (u : Fin 4) (frame : BitVec 11) (uf : BitVec 3)
  /-- FS_FRAME_START (R180). A full-speed frame begins on a port: SOF or keep-alive is sent and unstarted periodic work of the last frame is abandoned. -/
  | fsFrameStart (n : Fin 48)
  /-- ALMANAC_LEARNING_TIMEOUT (R186). A LEARNING entry with no SSPLIT for 2,048 microframes is freed. -/
  | almanacLearningTimeout (n : Fin 48) (k : Fin 16)
  /-- HOST_SETUP (R21). A high-speed SETUP with DATA0 from a host is ACKed and forwarded. -/
  | hostSetup (u : Fin 4) (adr : BitVec 7) (ep : BitVec 4) (req : BitVec 64) (crcOk : Bool)
  /-- HOST_OUT (R21). A high-speed OUT is admitted or NAKed, and answered ACK, NYET or nothing at its tail. -/
  | hostOut (u : Fin 4) (adr : BitVec 7) (ep : BitVec 4) (tog : Bool) (bytes : List Byte)
  /-- HOST_PING (R21). A high-speed PING is answered ACK or NAK by room in the output. -/
  | hostPing (u : Fin 4) (adr : BitVec 7) (ep : BitVec 4)
  /-- HOST_IN (R21). A high-speed IN is answered from the relay slot and may issue one IN downstream. -/
  | hostIn (u : Fin 4) (adr : BitVec 7) (ep : BitVec 4) (acked : Bool)
  /-- DOWNSTREAM_OUT_RESPONSE (R21). The device's answer to a forwarded OUT completes, retries, PINGs or fills the slot with STALL or no-response. -/
  | downstreamOutResponse (n : Fin 48) (d : Dev)
  /-- DOWNSTREAM_IN_RESPONSE (R21). The device's answer to a relay IN is held in the slot or returns the reservation. -/
  | downstreamInResponse (n : Fin 48) (adr : BitVec 7) (ep : BitVec 4) (d : Dev)
  /-- RELAY_SLOT_FREE (R220). An empty relay slot whose key has no admitted packet for 8 Meridians is freed. -/
  | relaySlotFree (n : Fin 48) (adr : BitVec 7) (ep : BitVec 4) (dirIn : Bool)
  /-- HOST_ISO_IN (R222). A high-speed isochronous IN is answered with the held DATA or a zero-length packet, and one IN is issued downstream. -/
  | hostIsoIn (u : Fin 4) (adr : BitVec 7) (ep : BitVec 4)
  /-- HOST_ISO_OUT (R222). A high-speed isochronous OUT is relayed downstream in the next microframe or voided. -/
  | hostIsoOut (u : Fin 4) (adr : BitVec 7) (ep : BitVec 4) (pid : Fin 4) (bytes : List Byte) (crcOk : Bool)
  /-- ISO_OUT_LATE_DISCARD (R222). An isochronous OUT that cannot start before the end of the microframe after arrival is discarded and counted. -/
  | isoOutLateDiscard (id : Nat)
  /-- ISO_HELD_EXPIRE (R222). A held isochronous DATA not collected within 8 service intervals is discarded and counted. -/
  | isoHeldExpire (n : Fin 48) (adr : BitVec 7) (ep : BitVec 4)
  /-- CUT_THROUGH_START (R242). Once a packet reaches the cut-through threshold or its tail, the fabric copy begins. -/
  | cutThroughStart (id : Nat)
  /-- FABRIC_BEAT (R215). The fabric moves one 16-byte beat into an output region after checking the isolation pairs. -/
  | fabricBeat (id : Nat) (out : Fin 53)
  /-- PACKET_TAIL (R219). A packet's tail arrives; CRC16 and destination are checked, the reservation is trimmed, and the packet is noticed or voided. -/
  | packetTail (id : Nat) (crcOk : Bool)
  /-- PACKET_RELEASE (R219). A checked packet is released from its output region to the wire or relay slot. -/
  | packetRelease (id : Nat)
  /-- GRANULE_RETURN (R238). Granules of a released or voided entry return from in-flight to free within 64 cycles. -/
  | granuleReturn
  /-- CORRECTED_ERROR (R245). A single-bit error is corrected on read and its line put on the pending-fence list. -/
  | correctedError (line : Fin 32768)
  /-- UNCORRECTABLE_ERROR (R250). A double-bit error voids its packet or TT result, raises source 4 and heads the fence list. -/
  | uncorrectableError (line : ErrLine) (at_ : ErrAt)
  /-- FENCE_START (R246). With no fence active, the line at the head of the list is copied to the fence buffer, its region enters fall-back and the test starts. -/
  | fenceStart
  /-- FENCE_TEST_COMPLETE (R249). The line test ends; the line returns, is retired onto a spare or pool granule, or waits for a replacement. -/
  | fenceTestComplete (pass : Bool)
  /-- REPLACEMENT_AVAILABLE (R249). A pool granule becomes free for a line waiting for replacement, which is then retired and fall-back ends. -/
  | replacementAvailable
  /-- OVERLAY_WRITEBACK_COMPLETE (R247). Overlay line slots are written back into the region after a fence, releasing waiting accesses. -/
  | overlayWritebackComplete
  /-- RGN_WRITE (R236). A write of a region descriptor re-carves packet memory if legal and the region is idle. -/
  | rgnWrite (r : Requester) (d : Fin 155) (w : Word)
  /-- OWNER_GO (R257). A write of PRT OWNER with GO makes an ownership request, which is checked and held for the next Meridian. -/
  | ownerGo (r : Requester) (n : Fin 48) (w : Word)
  /-- HANDOVER_RELEASING (R260). At M0 a sampled request enters RELEASING, resetting the TT, withdrawing slots and invalidating the losing routes. -/
  | handoverReleasing (n : Fin 48)
  /-- HANDOVER_TRANSIT (R260). At M1 the port enters TRANSIT, discards packets for the losing owner and shows OWN 7. -/
  | handoverTransit (n : Fin 48)
  /-- HANDOVER_CLAIMING (R260). At M2 the port enters CLAIMING with OWN the target. -/
  | handoverClaiming (n : Fin 48)
  /-- HANDOVER_OWNED (R260). At M3 the port enters OWNED for the target, DONE increments and demand is evaluated afresh. -/
  | handoverOwned (n : Fin 48)
  /-- INITIAL_OWNERSHIP_APPLY (R265). At the Meridian after step 0x0D the initial ownership table is applied with no handover. -/
  | initialOwnershipApply
  /-- PRSTRT (R165). A write of PRT CTL.PRSTRT starts a port restart, opening CC for 50 ms. -/
  | prstrt (r : Requester) (n : Fin 48) (w : Word)
  /-- PORT_RESTART_END (R165). After 50 ms of CC open, PRT returns to image values and the demand is evaluated afresh. -/
  | portRestartEnd (n : Fin 48)
  /-- OOS_WRITE (R166). A write of PRT CTL.OOS takes the port out of service or returns it. -/
  | oosWrite (r : Requester) (n : Fin 48) (w : Word)
  /-- VBUS_DISCHARGED (R345). Pnn_VBUS falls below 0.8 V; DSCH goes low and PE0 releases the port's committed power. -/
  | vbusDischarged (n : Fin 48)
  /-- USB_CONNECT (R161). D+ or D− above VIH for 2.5 µs on a Disconnected port latches C_PORT_CONNECTION and enters Disabled. -/
  | usbConnect (n : Fin 48) (low : Bool)
  /-- USB_DISCONNECT (R161). A USB disconnect on a port moves it to Disconnected and withdraws TT and relay slots. -/
  | usbDisconnect (n : Fin 48)
  /-- DEVICE_CHIRP (R162). A device chirp K during reset is answered with K–J pairs, making the port high speed. -/
  | deviceChirp (n : Fin 48)
  /-- PORT_RESET_END (R161). 15 ms after SE0 began, the reset ends, speed is set and C_PORT_RESET latched. -/
  | portResetEnd (n : Fin 48)
  /-- PORT_BABBLE (R161). A device transmitting past EOF2 disables the port with C_PORT_ENABLE. -/
  | portBabble (n : Fin 48)
  /-- DISABLING_COMPLETE (R161). The transaction in progress at a disable finishes and the port enters Disabled. -/
  | disablingComplete (n : Fin 48)
  /-- DEVICE_RESUME_K (R161). Device K for 50 µs on a selectively suspended port starts 20 ms of resume. -/
  | deviceResumeK (n : Fin 48)
  /-- RESUME_DRIVE_END (R161). After 20 ms of resume K the port drives end-of-resume. -/
  | resumeDriveEnd (n : Fin 48)
  /-- SEND_EOR_COMPLETE (R161). End-of-resume sent: C_PORT_SUSPEND latched and SOF restarted. -/
  | sendEorComplete (n : Fin 48)
  /-- LED_FRAME_REFRESH (R168). Every 100 ms an indicator frame is sent whether or not anything changed. -/
  | ledFrameRefresh (s : Fin 4)
  /-- CC_ATTACH_SEEN (R291). A partner termination is seen on CC in Unattached and tCCDebounce starts. -/
  | ccAttachSeen (n : Fin 52) (sight : CcSight)
  /-- CC_DEBOUNCE_EXPIRE (R291). tCCDebounce elapses with the termination present; the attach is reported and the moisture check starts, or Try.SRC begins. -/
  | ccDebounceExpire (n : Fin 52)
  /-- CC_TERMINATION_LOST (R291). The termination goes before debounce ends and the port returns to Unattached. -/
  | ccTerminationLost (n : Fin 52)
  /-- DRP_TOGGLE (R290). The DRP toggle switches between Rp and Rd within its 75 ms period. -/
  | drpToggle (n : Fin 52)
  /-- DRP_TRY_EXPIRE (R291). tDRPTry ends without Rd and the port presents Rd in TryWait.SNK. -/
  | drpTryExpire (n : Fin 52)
  /-- TRY_CC_DEBOUNCE_EXPIRE (R291). Rd seen for tTryCCDebounce in Try.SRC starts the moisture check. -/
  | tryCcDebounceExpire (n : Fin 52) (cc2 : Bool) (far : FarEnd)
  /-- TRY_TIMEOUT (R291). tTryTimeout ends in TryWait.SNK without Rp and VBUS, returning to Unattached. -/
  | tryTimeout (n : Fin 52)
  /-- SRC_DISCONNECT (R293). Rd absent for tSRCDisconnect detaches the partner with the detach actions. -/
  | srcDisconnect (n : Fin 52)
  /-- SINK_VBUS_LOST (R291). VBUS below vSinkDisconnect in Attached.SNK ends the sink contract. -/
  | sinkVbusLost (n : Fin 48)
  /-- CC_OVERVOLTAGE (R291). CC above 5.5 V sends the port through error recovery. -/
  | ccOvervoltage (n : Fin 48)
  /-- ERROR_RECOVERY_END (R291). tErrorRecovery elapses and the port returns to Unattached. -/
  | errorRecoveryEnd (n : Fin 48)
  /-- MOISTURE_CHECK_COMPLETE (R158). The moisture and residue check ends; a pass asks for budget, a fail enters Wet. -/
  | moistureCheckComplete (n : Fin 48) (leak : LeakSet)
  /-- WET_RETEST (R159). 5 s after the last check began, a Wet port is checked again. -/
  | wetRetest (n : Fin 48)
  /-- BUDGET_REQUEST (R344). A policy core asks PE0 to commit vSafe5V or a raise, which is committed, queued or refused. -/
  | budgetRequest (n : Fin 48) (raise : Option PdReq)
  /-- GATE_FULLY_ON (R329). The gate reaches 8 V above VBUS and power-good qualification starts. -/
  | gateFullyOn (n : Fin 48)
  /-- POWER_GOOD (R329). Qualification completes after PGQ with the limit inactive; power-good asserts. -/
  | powerGood (n : Fin 48)
  /-- POWER_GOOD_FALL (R329). VBUS below V_UV for 50 µs makes power-good fall. -/
  | powerGoodFall (n : Fin 48)
  /-- LIMIT_ENGAGE (R325). The current-limit loop engages, the fault timer counts up and qualification restarts. -/
  | limitEngage (n : Fin 48)
  /-- LIMIT_RELEASE (R325). The limit becomes inactive and the fault timer counts down. -/
  | limitRelease (n : Fin 48)
  /-- HARD_SHORT (R326). Current above 2.5 × I_set trips the port with cause 2, gate pulled off within 1.5 µs. -/
  | hardShort (n : Fin 48)
  /-- OVERVOLTAGE_TRIP (R326). VBUS above the overvoltage threshold for 10 µs trips the port with cause 4. -/
  | overvoltageTrip (n : Fin 48)
  /-- OVERLOAD_TRIP (R328). The fault timer reaching FTIME trips the port with cause 1. -/
  | overloadTrip (n : Fin 48)
  /-- VOLTAGE_TRIP (R320). A gate not driven in 100 ms, a window not met in 200 ms, or VBUS below V_UV for FTIME trips the port with cause 5. -/
  | voltageTrip (n : Fin 48)
  /-- SELF_TEST_START (R331). Once VBUS is below 0.8 V or 5 ms after a trip, the sense self-test injects 25 mV. -/
  | selfTestStart (n : Fin 48)
  /-- SELF_TEST_COMPLETE (R331). The self-test reading passes and the retry rules apply, or fails and latches the port off. -/
  | selfTestComplete (n : Fin 48) (pass : Bool)
  /-- RETRY_WAIT_END (R332). The retry wait ends and VBUS may be applied again through the moisture check and budget. -/
  | retryWaitEnd (n : Fin 48)
  /-- CLEAN_POWER_GOOD (R334). 30 s of continuous power-good with TRIPS above 0 returns TRIPS to 0 and sets CLEAN. -/
  | cleanPowerGood (n : Fin 48)
  /-- REARM (R334). A write of FUSCFG.REARM clears TRIPS, wait, latch and SENSE and runs the self-test. -/
  | rearm (r : Requester) (n : Fin 48) (w : Word)
  /-- FBICAP_WRITE (R318). A write of QD CTL.FBICAP bounds targets and sends ports above the new cap through error recovery. -/
  | fbicapWrite (r : Requester) (q : Fin 12) (w : Word)
  /-- SRC_TRANSITION_EXPIRE (R298). tSrcTransition after Accept elapses; the limit is set and the voltage ramp starts. -/
  | srcTransitionExpire (n : Fin 48)
  /-- RAMP_END (R319). The FBI ramp to a new target ends and V_UV and trim follow the new target. -/
  | rampEnd (n : Fin 48)
  /-- PS_RDY_SEND (R320). VBUS 10 ms inside the new window with power-good sends PS_RDY and updates the books. -/
  | psRdySend (n : Fin 48)
  /-- SOURCE_CAPABILITIES_SEND (R299). 20–50 ms after power-good Source_Capabilities is sent, repeating up to nCapsCount. -/
  | sourceCapabilitiesSend (n : Fin 48)
  /-- REQUEST (R297). A received Request is Accepted after a budget commit, Rejected, or answered Wait. -/
  | request (n : Fin 48) (rev : Fin 4) (req : PdReq)
  /-- GET_SOURCE_CAP (R297). A received Get_Source_Cap is answered with Source_Capabilities. -/
  | getSourceCap (n : Fin 48)
  /-- SOFT_RESET (R297). A received Soft_Reset is Accepted and followed by Source_Capabilities. -/
  | softReset (n : Fin 48)
  /-- PR_SWAP (R297). A received PR_Swap or DR_Swap is Rejected. -/
  | prSwap (n : Fin 48)
  /-- VCONN_SWAP (R305). A received VCONN_Swap is Accepted or Rejected and the VCONN source changes. -/
  | vconnSwap (n : Fin 48)
  /-- VCONN_SWAP_ACCEPT (R305). The partner Accepts the Galuc's VCONN_Swap and VCONN is handed over with PS_RDY. -/
  | vconnSwapAccept (n : Fin 48)
  /-- GET_STATUS_PD (R308). A received Get_Status at revision 3.x is answered with Status. -/
  | getStatusPd (n : Fin 48)
  /-- UNSUPPORTED_MESSAGE (R297). Any other received message is answered Not_Supported, or Reject at revision 2.0. -/
  | unsupportedMessage (n : Fin 48) (unstructuredVdm : Bool)
  /-- SOURCE_CAPABILITIES_RECEIVED (R292). As foreign sink, received Source_Capabilities are answered with a 10 mA Request. -/
  | sourceCapabilitiesReceived (n : Fin 48)
  /-- HARD_RESET_RECEIVED (R302). A received Hard Reset isolates SBU at once and starts the hard-reset sequence. -/
  | hardResetReceived (n : Fin 48)
  /-- PS_HARD_RESET_EXPIRE (R302). tPSHardReset elapses; VCONN and gate go off and VBUS is discharged. -/
  | psHardResetExpire (n : Fin 48)
  /-- SRC_RECOVER_EXPIRE (R302). tSrcRecover elapses at vSafe0V, ending the hard reset; the moisture check follows. -/
  | srcRecoverExpire (n : Fin 48)
  /-- SENDER_RESPONSE_TIMEOUT (R350). No Request within tSenderResponse after Source_Capabilities in a contract sends Hard Reset. -/
  | senderResponseTimeout (n : Fin 48)
  /-- SINK_TX_EXPIRE (R301). tSinkTx at SinkTxNG elapses and the Galuc starts its own message sequence. -/
  | sinkTxExpire (n : Fin 48)
  /-- DISCOVER_IDENTITY (R310). A received Discover Identity VDM is ACKed with the Galuc's identity VDOs. -/
  | discoverIdentity (n : Fin 48)
  /-- DISCOVER_SVIDS (R310). A received Discover SVIDs is ACKed with CONSVID or NAKed. -/
  | discoverSvids (n : Fin 48)
  /-- DISCOVER_MODES (R310). A received Discover Modes for CONSVID is ACKed with MODEVDO. -/
  | discoverModes (n : Fin 48) (svid : BitVec 16)
  /-- ENTER_MODE (R311). A received Enter Mode is ACKed and SBU connected to the quad service wires, or NAKed. -/
  | enterMode (n : Fin 48) (svid : BitVec 16) (pos : BitVec 3)
  /-- EXIT_MODE (R312). A received Exit Mode isolates SBU and is ACKed, or NAKed if the mode is not held. -/
  | exitMode (n : Fin 48) (svid : BitVec 16)
  /-- OTHER_VDM (R310). A structured VDM for another SVID or command is NAKed. -/
  | otherVdm (n : Fin 48) (cmd : BitVec 5)
  /-- PDCTL_RESEND (R300). A write of PDCTL.RESEND sends Source_Capabilities again. -/
  | pdctlResend (r : Requester) (n : Fin 48) (w : Word)
  /-- PDCTL_HRESET (R302). A write of PDCTL.HRESET sends Hard Reset. -/
  | pdctlHreset (r : Requester) (n : Fin 48) (w : Word)
  /-- PDCTL_VCSWAP (R305). A write of PDCTL.VCSWAP sends VCONN_Swap. -/
  | pdctlVcswap (r : Requester) (n : Fin 48) (w : Word)
  /-- PDCTL_SOPPDISC (R304). A write of PDCTL.SOPPDISC rediscovers the cable, swapping VCONN first if needed. -/
  | pdctlSoppdisc (r : Requester) (n : Fin 48) (w : Word)
  /-- PDEN_WRITE (R318). A write of PDCTL.PDEN starts PD, or takes the port through error recovery if a contract is in force. -/
  | pdenWrite (r : Requester) (n : Fin 48) (w : Word)
  /-- ALTMUX_KICK (R312). A write of ALTMUX.KICK ends the service-console mode and sends Attention. -/
  | altmuxKick (r : Requester) (n : Fin 48) (w : Word)
  /-- VCONN_OVERCURRENT (R307). VCONN over its limit is switched off within 10 µs and counted. -/
  | vconnOvercurrent (n : Fin 48)
  /-- QUAD_WARN_ENTER (R336). Quad VIN below VWARN for 1 ms enters Warn and sends Alert to 3.x contracts. -/
  | quadWarnEnter (q : Fin 12)
  /-- QUAD_WARN_EXIT (R336). Quad VIN above VWARN + 0.5 V for 1 ms leaves Warn and sends a second Alert. -/
  | quadWarnExit (q : Fin 12)
  /-- QUAD_FAIL_ENTER (R336). Quad VIN below VFAIL for 100 µs enters Fail and triggers shedding. -/
  | quadFailEnter (q : Fin 12)
  /-- QUAD_FAIL_EXIT (R336). Quad VIN above VFAIL + 0.5 V for 10 ms leaves Fail and ends the Fail trigger. -/
  | quadFailExit (q : Fin 12)
  /-- SHED_START (R346). At the Meridian after a cap, pool or Fail trigger, PE0 walks the ports in shed order reducing or marking them off. -/
  | shedStart
  /-- FAIL_SHED_TIMEOUT (R348). PE0 not acting within 10 ms of Fail entry makes the port die mark the quad's ports off. -/
  | failShedTimeout (q : Fin 12)
  /-- POOL_WRITE (R342). A write of PWR.POOL changes the pool, starting or ending shedding. -/
  | poolWrite (r : Requester) (w : Word)
  /-- QCAP_WRITE (R342). A write of PWR.QCAP changes a quad cap, starting or ending shedding. -/
  | qcapWrite (r : Requester) (q : Fin 12) (w : Word)
  /-- PCFG_WRITE (R351). A write of PWR.PCFG changes PRIO or PMAX, possibly re-advertising or shedding the port. -/
  | pcfgWrite (r : Requester) (n : Fin 48) (w : Word)
  /-- READV_EXPIRE (R343). The re-advertisement pacing interval elapses and a deferred allowance change is re-advertised. -/
  | readvExpire (n : Fin 48)
  /-- PE0_REBUILD (R352). PE0 running again rebuilds the books from the policy cores and clears all marks. -/
  | pe0Rebuild
  /-- ENGINE_RESTART_COMPLETE (R18). An engine restarted by the Warden runs again and resumes its functions. -/
  | engineRestartComplete (e : Fin 11)
  /-- SSPLIT_NONPERIODIC (R174). A bulk or control SSPLIT is ACKed into a TT buffer or NAKed. -/
  | ssplitNonperiodic (u : Fin 4) (i : BitVec 7) (adr : BitVec 7) (ep : BitVec 4) (tok : SplitTok) (low crcOk : Bool)
  /-- CSPLIT_NONPERIODIC (R174). A bulk or control CSPLIT is answered from the matching buffer. -/
  | csplitNonperiodic (u : Fin 4) (i : BitVec 7) (adr : BitVec 7) (ep : BitVec 4) (dirIn : Bool)
  /-- SSPLIT_PERIODIC (R176). A periodic SSPLIT takes a record or is discarded, and updates the Almanac or is served from a Meteor slot. -/
  | ssplitPeriodic (u : Fin 4) (i : BitVec 7) (adr : BitVec 7) (ep : BitVec 4) (dirIn iso low behindHub tog : Bool) (bytes : List Byte)
  /-- CSPLIT_PERIODIC (R176). A periodic CSPLIT is answered NYET, DATA, handshake or ERR from its record. -/
  | csplitPeriodic (u : Fin 4) (i : BitVec 7) (adr : BitVec 7) (ep : BitVec 4) (tok : CsplitTok)
  /-- TT_NONPERIODIC_START (R175). With no periodic work ready, the TT starts the oldest queued non-periodic transaction. -/
  | ttNonperiodicStart (at_ : PortTime)
  /-- TT_TRANSACTION_COMPLETE (R175). The device answers a TT transaction and the result is stored. -/
  | ttTransactionComplete (n : Fin 48) (d : Dev)
  /-- PERIODIC_READY (R179). A periodic transaction becomes ready and is started or abandoned as late. -/
  | periodicReady (n : Fin 48) (t : Nat)
  /-- TTRST (R182). A write of QCFG.TTRST resets the TT as ResetTT does. -/
  | ttrst (r : Requester) (n : Fin 48) (w : Word)
  /-- ALMCLR (R189). A write of QCFG.ALMCLR frees every Almanac entry once. -/
  | almclr (r : Requester) (n : Fin 48) (w : Word)
  /-- ALMEN_WRITE (R189). A write of QCFG.ALMEN at 0 stops learning and frees every entry. -/
  | almenWrite (r : Requester) (n : Fin 48) (w : Word)
  /-- PREFETCH_START (R197). Within an armed entry's window, the TT starts one Meteor prefetch IN. -/
  | prefetchStart (n : Fin 48) (k : Fin 16) (t : Nat)
  /-- PREFETCH_OUTCOME (R199). The device answers a prefetch; DATA, NAK or STALL is held by mode. -/
  | prefetchOutcome (n : Fin 48) (k : Fin 16) (d : Dev)
  /-- HELD_HANDSHAKE_EXPIRE (R201). A held NAK or STALL not polled by the end of its microframe is discarded. -/
  | heldHandshakeExpire (n : Fin 48) (k : Fin 16)
  /-- CONTROL_HOLD_TIMEOUT (R204). 256 microframes with no split for a held control endpoint abandon the transfer and end the hold. -/
  | controlHoldTimeout (n : Fin 48) (adr : BitVec 7)
  /-- METEOR_REARM (R204). 4 × P microframes after a control hold ends, the address's entries are armed again. -/
  | meteorRearm (n : Fin 48) (k : Fin 16)
  /-- LDS_ENUM_START (R273). A queued Lodestar port starts enumeration when a place of 8 is free. -/
  | ldsEnumStart (n : Fin 48)
  /-- LDS_CONNECT_WAIT_END (R273). After 100 ms of continuous connection Lodestar resets the port. -/
  | ldsConnectWaitEnd (n : Fin 48)
  /-- LDS_CONTROL_COMPLETE (R273). A Lodestar control transfer completes and the next enumeration step or record runs. -/
  | ldsControlComplete (n : Fin 48) (d : Dev)
  /-- LDS_REQUEST_TIMEOUT (R274). A Lodestar control transfer exceeds REQTMO and the attempt or record fails. -/
  | ldsRequestTimeout (n : Fin 48)
  /-- LDS_RECORD_DELAY_END (R277). A record's DELAY elapses and the next check-in record runs. -/
  | ldsRecordDelayEnd (n : Fin 48)
  /-- LDS_HEARTBEAT_POLL (R281). Lodestar polls a READY port's heartbeat endpoint in its assigned frame, or drops the poll. -/
  | ldsHeartbeatPoll (n : Fin 48) (behind : Bool)
  /-- LDS_HEARTBEAT_OUTCOME (R281). A heartbeat poll's outcome is stored, cleared on STALL, or counted towards SILENT. -/
  | ldsHeartbeatOutcome (n : Fin 48) (d : Dev)
  /-- COALESCE_TIMEOUT (R365). The coalescing timer reaches CTIME and the target is delivered. -/
  | coalesceTimeout (t : Fin 13)
  /-- ICU_CLAIM (R362). A read of CLAIM returns the lowest qualifying source and puts it in service, or 0x3FF. -/
  | icuClaim (r : Requester) (t : Fin 13)
  /-- ICU_DONE (R363). A write of DONE completes the in-service source or records an order error. -/
  | icuDone (r : Requester) (t : Fin 13) (w : Word)
  /-- TRST (R370). A write of TCTL.TRST resets the target and delivers pending sources. -/
  | trst (r : Requester) (t : Fin 13) (w : Word)
  /-- CLRPEND (R359). A write of SRC STS.CLRPEND clears the source's pending bit. -/
  | clrpend (r : Requester) (i : Fin 512) (w : Word)
  /-- SWTRIG (R372). A write of ICU CTL.SWTRIG gives an edge on source 511. -/
  | swtrig (r : Requester) (w : Word)
  /-- SRC_CFG_WRITE (R361). A write of SRC CFG moves a pending source's target or changes enable and watch. -/
  | srcCfgWrite (r : Requester) (i : Fin 512) (w : Word)
  /-- TCTL_WRITE (R365). A write of TCTL coalescing values takes effect at once and may deliver at once. -/
  | tctlWrite (r : Requester) (t : Fin 13) (w : Word)
  /-- GRACE_EXPIRE (R377). The grace timer expires without acknowledge and the block's action is taken. -/
  | graceExpire (b : Fin 74)
  /-- FLTACK_ACK (R377). A write of FLTACK.ACK stops the grace timer and cancels the action. -/
  | fltackAck (r : Requester) (b : Fin 74) (w : Word)
  /-- SECTOR_RESTART_COMPLETE (R96). The sector restart's boot steps finish and step 0x0D arms the sector. -/
  | sectorRestartComplete (s : Fin 4) (rep : SectorReport)
  /-- QUIET_END (R380). The quiet period ends; the block's self-test runs and it restores or latches. -/
  | quietEnd (b : Fin 74) (pass : Bool)
  /-- CLRLATCH (R381). A write of FLTACK.CLRLATCH runs the self-test at once and restores a latched block if it passes. -/
  | clrlatch (r : Requester) (b : Fin 74) (w : Word) (pass : Bool)
  /-- RECOVERY_WINDOW_EXPIRE (R381). A recovery older than 60 s leaves RECOV.WINDOW. -/
  | recoveryWindowExpire (b : Fin 74)
  /-- QUAD_OVERPOWER (R374). Quad input power above 1.25 × CAP at every Meridian for 10 ms records QD fault source 2. -/
  | quadOverpower (q : Fin 12)
  /-- FBI_TRIM_LIMIT (R374). FBI trim held at its ±64-step limit for 100 Meridians records PRT fault source 3. -/
  | fbiTrimLimit (n : Fin 48)
  /-- UPSTREAM_CRC_ERRORS (R374). 16 consecutive upstream packets with bad CRC record UPS fault source 1. -/
  | upstreamCrcErrors (u : Fin 4)
  /-- ENGINE_WATCHDOG_MISS (R383). An engine misses its 10 ms report; the Warden restarts it or escalates the fault. -/
  | engineWatchdogMiss (e : Fin 11)
  /-- WARDEN_TIMER_EXPIRE (R383). The Nightwatch timer on the Warden expires after 100 ms and a watchdog reset follows. -/
  | wardenTimerExpire
  /-- FAULT_N_WIDTH_END (R384). FAULT_N's minimum low time ends and the pin follows FORCE. -/
  | faultNWidthEnd
  /-- CLK_NW_OUT_OF_RANGE (R374). CLK_NW outside 24–40 kHz records NW fault source 0. -/
  | clkNwOutOfRange
  /-- RETENTION_PARITY_ERROR (R388). A retention SRAM parity error records NW fault 1 and invalidates the area holding the word. -/
  | retentionParityError (area : RetArea)
  /-- CLK_NW_CALIBRATE (R391). Once per second in Active, Nightwatch calibrates CLK_NW against CLK_REF. -/
  | clkNwCalibrate
  /-- IDLE_TIMER_EXPIRE (R391). The idle timer runs out while idle and the sleep handshake begins towards Dusk or Eclipse. -/
  | idleTimerExpire
  /-- SLEEP_BLOCK_ANSWER (R393). A block asked to sleep agrees and stops or refuses; the last agreement enters the target state. -/
  | sleepBlockAnswer
  /-- SLEEP_ANSWER_TIMEOUT (R393). A block silent for 50 µs counts as a refusal with ABORT.TMO. -/
  | sleepAnswerTimeout
  /-- FIXED_WAKE_EVENT (R396). A fixed wake event in Dusk or Eclipse wakes the part. -/
  | fixedWakeEvent (ev : FixedWake)
  /-- WATCHED_SOURCE_WAKE (R397). The event of an enabled watched source wakes the part. -/
  | watchedSourceWake (i : Fin 512)
  /-- WAKE_N_ASSERT (R397). WAKE_N low for 10 µs wakes the part. -/
  | wakeNAssert
  /-- I2C_ADDRESS_MATCH (R398). The Nightwatch recogniser matches the I2C address, holds SCL and wakes the core. -/
  | i2cAddressMatch (adr : BitVec 7)
  /-- DUSK_RETURN_COMPLETE (R399). The part returns from Dusk to Active within 120 µs and the Meridian divider restarts. -/
  | duskReturnComplete (ms : BitVec 32)
  /-- ECLIPSE_WAKE (R400). A wake from Eclipse performs a device-level reset with cause 0x09 and an abbreviated boot. -/
  | eclipseWake
  /-- SUPPLY_RESTORED (R60). A supply that was judged low rises back above its threshold plus hysteresis, ending the core-die supply reset hold, restoring VCONN availability, or bringing VDDIO back while rescue runs. -/
  | supplyRestored (x : Supply)
  /-- UPSTREAM_VBUS_OVERVOLTAGE (R56). Uu_VBUS rises above 6.0 V, is disconnected from the Nightwatch regulator and records UPS fault source 0. -/
  | upstreamVbusOvervoltage (u : Fin 4)
  /-- ENERGY_COUNT_TICK (R337). Every 125 µs of the port die's clock, including in Dusk, each quad's 48-bit energy count accumulates V × I. -/
  | energyCountTick (q : Fin 12)
  /-- LDS_ENUM_WAIT_END (R273). The 10 ms wait after Lodestar's port reset ends, or the 2 ms wait after SET_ADDRESS ends, and the next enumeration step starts. -/
  | ldsEnumWaitEnd (n : Fin 48)
  /-- PD_MESSAGE_FAILED (R298). A transmitted PD message gets no GoodCRC after the port die's retries, leading to Hard Reset in an explicit contract or to a cable record of no answer. -/
  | pdMessageFailed (n : Fin 48) (toCable : Bool)
  /-- PS_RDY_RECEIVED (R305). The partner's PS_RDY in a VCONN swap, in which the partner becomes the VCONN source, is received and the Galuc turns its VCONN off. -/
  | psRdyReceived (n : Fin 48)
  /-- CABLE_IDENTITY_RESPONSE (R304). The cable's answer to Discover Identity on SOP' arrives and its VBUS current capability is recorded in PDSTS.CABLE. -/
  | cableIdentityResponse (n : Fin 48) (amps5 : Bool)
  deriving DecidableEq, Repr

end Sys2Proof
end

