-- ==== Sys2Proof/Decode.lean ====
section
/-! DEFINITION. The command that a word of the opcode table spells. The table gives no row any bits: its rows are events
and register accesses, so no word spells one. -/

namespace Sys2Proof

/-- The command that a word of `nbits` bits spells: none, since no row of the opcode table has an encoding. -/
def decodeTableWord (_nbits _w : Nat) : Option Instr := none

end Sys2Proof
end

