-- ==== Sys2Proof/Config.lean ====
section
/-! DEFINITION. What a particular part, board or moment fixes and the spec leaves open: opaque constants, without a
body, so that no proof can see a value of them. -/

namespace Sys2Proof.Config

/-- The `i`-th open value of a run: a value the spec leaves undefined, applied to the state's counter `freeCtr`. -/
opaque freeValue : Nat → Nat

/-- SHA-256 of a byte string, as a number (R83, R85); the function itself is outside the spec. -/
opaque sha256 : List Byte → Nat

/-- The signature check of a manifest (R85): key bytes, digest, signature bytes. -/
opaque signatureOk : List Byte → Nat → List Byte → Bool

/-- The key digest held in fuses (R85). -/
opaque fusedKeyDigest : Nat

/-- Silicon stepping, shown in SYS.ID.STEP (R414). -/
opaque stepping : Nat

/-- Excess of a port's moisture threshold over 180 kΩ, in kΩ before reduction modulo 41 (R158). -/
opaque moistureExcess : Nat → Nat

/-- Mbocia's USB vendor ID (R95), whose number the spec does not give. -/
opaque mbociaVid : Nat

/-- The bytes of the rescue personality's descriptors that R95 leaves open, by place. -/
opaque rescueByte : Nat → Byte

end Sys2Proof.Config
end

