-- ==== Sys2Proof/Machine/State.lean ====
section
/-! DEFINITION. The state of the block, its state after a power-on reset, and the reasons a step can stop. -/

namespace Sys2Proof.Machine

/-- Reasons for a fault: there are none. Every command of the block takes a next state, since the spec answers every access
with a result code and every event with an effect or with none. -/
inductive Fault where
  deriving DecidableEq, Repr

/-- Reasons for a refusal. -/
inductive Refusal where
  /-- Raised by an arm of exec whose command has no meaning yet; no arm is left that raises it. Safe: nothing is claimed
  of such a command. -/
  | notModelled (mnemonic : String)
  deriving DecidableEq, Repr

/-- The state of the Galuc 4812. -/
structure State where
  /-- Live registers, published shadow (R26), and image values (values of the boot's steps 0x06 and 0x07). -/
  regs : Store
  shadow : Store
  image : Store
  /-- The three copies of a voted field that disagree (R119), by field key; the live value is their majority. -/
  copies : KMap (Nat × Nat × Nat)
  ports : KMap PortX
  ups : KMap UpX
  secs : KMap SecX
  quads : KMap QuadX
  faults : KMap FaultX
  mbx : KMap MbxX
  sw : SwX
  boot : BootX
  retain : Retain
  rescue : RescueX
  sleep : SleepX
  upd : Option UpdX
  /-- Fuse blowing in progress: value to reach (R101); fuses blown. -/
  fuseGoal : Option Nat
  fuses : Nat
  phase : Phase
  /-- Device safe state in force (R379). -/
  safe : Bool
  /-- Engines not running, by interrupt target number (R16); engines that missed a report within the last second. -/
  stopped : List Nat
  missed : List (Nat × Nat)
  /-- Meridians elapsed since power was applied: the model's own time base for intervals. -/
  now : Nat
  /-- Start of a target's coalescing timer (R365), in Meridians of `now`. -/
  icuTimer : KMap (Option Nat)
  /-- FAULT_N minimum low time running (R384). -/
  faultWidth : Bool
  /-- A software full reset is scheduled (R415). -/
  resetDue : Bool
  /-- Supplies that are low, upstream VBUS present per port, straps on the pins (R52, R60). -/
  low : List Supply
  vbusU : List Nat
  /-- RESET_N is low; power-on reset of the core die, or a hold by a low supply, has not ended (R59, R60). -/
  resetN : Bool
  por : Bool
  /-- In the power-on reset under way the VDDIO mode is still to be chosen (R58), and the straps to be sampled (R52);
  upstream ports whose VBUS is above 6.0 V and cut from Nightwatch's regulator (R56). -/
  vioDue : Bool
  strapDue : Bool
  vbusHigh : List Nat
  /-- Start of the idle timer (R391) in Meridians of `now`; last rewrite of a voted field (R119), by key, plus 1; words
  written in Dusk with the value each had before, whose effect begins at the return (R390). -/
  idleAt : Nat
  fixedAt : KMap Nat
  duskDue : List (Nat × Nat)
  /-- Results of the last frames on SPI and I2C (R104, R106). -/
  lastSpi : Nat
  lastI2c : Nat
  /-- The I2C transfer that waits for the part to wake, SCL held low (R398). -/
  heldI2c : Option I2cFrame
  /-- Source edges waiting for the next Meridian without a register of their own (428, 436, 437) and the raised
  over-temperature of the core die. -/
  edgeDue : List Nat
  /-- Budget: pool trigger, shed walk due at the next Meridian. -/
  poolTrig : Bool
  shedDue : Bool
  /-- Lodestar: order number of the next connect; whether it ran at the last evaluation. -/
  ldsSeq : Nat
  ldsRan : Bool
  ldsProfiles : List Byte
  /-- The PD table values (R309): IDVID, IDPID, CONSVID, MODEVDO. -/
  pdTable : Nat × Nat × Nat × Nat
  /-- The configuration flash (R79) and the quad identity memories read at boot, as bytes that are not 0xFF. -/
  flash : List Host.Cell
  /-- MODEL'S OWN: the number of open values used so far, and what the block drove or answered last. -/
  freeCtr : Nat
  outs : List Out
  /-- MODEL'S OWN: the commands waiting, first in, first out. -/
  pending : List Sys2Proof.Instr
  deriving DecidableEq, Repr

/-- The state right after a power-on reset: every register at its reset value, boot at step 0x01, nothing in flash. -/
def State.reset : State where
  regs := []
  shadow := []
  image := []
  copies := []
  ports := []
  ups := []
  secs := []
  quads := []
  faults := []
  mbx := []
  sw := SwX.reset
  boot := BootX.reset
  retain := Retain.reset
  rescue := RescueX.reset
  sleep := SleepX.reset
  upd := none
  fuseGoal := none
  fuses := 0
  phase := .running
  safe := false
  stopped := [0, 1, 2, 3, 4, 5, 6, 7, 8, 9, 10]
  missed := []
  now := 0
  icuTimer := []
  faultWidth := false
  resetDue := false
  low := []
  vbusU := []
  resetN := false
  por := false
  vioDue := false
  strapDue := false
  vbusHigh := []
  idleAt := 0
  fixedAt := []
  duskDue := []
  lastSpi := 0
  lastI2c := 0
  heldI2c := none
  edgeDue := []
  poolTrig := false
  shedDue := false
  ldsSeq := 0
  ldsRan := false
  ldsProfiles := []
  pdTable := (0, 0, 0, 0)
  flash := []
  freeCtr := 0
  outs := []
  pending := []

end Sys2Proof.Machine
end

