-- ==== Sys2Proof/Machine/Ops.lean ====
section
/-! DEFINITION. The named operations over registers, hidden records, time and outputs that every meaning is built from. -/

namespace Sys2Proof.Machine

/-- The answer of a meaning. -/
abbrev Res := Host.Outcome State Fault Refusal

/-! ## Registers -/

/-- The live value of a field (R27). -/
def State.rd (s : State) (f : Field) : Nat := Store.get s.regs f

/-- The live value of a field as a flag. -/
def State.on (s : State) (f : Field) : Bool := s.rd f != 0

/-- The published value of a field (R26). -/
def State.rdPub (s : State) (f : Field) : Nat := Store.get s.shadow f

/-- The image value of a field: what a port or sector restart returns it to (R96). -/
def State.rdImage (s : State) (f : Field) : Nat := Store.get s.image f

/-- The state with a field's live value replaced. -/
def State.wr (s : State) (f : Field) (v : Nat) : State := { s with regs := Store.set s.regs f v }

/-- The state with a voted field written: all three copies take the value (R119). -/
def State.wrVoted (s : State) (f : Field) (v : Nat) : State := { s.wr f v with copies := KMap.erase s.copies f.key }

/-- A flag field set to 1. -/
def State.raise (s : State) (f : Field) : State := s.wr f 1

/-- A flag field set by a Bool. -/
def State.flag (s : State) (f : Field) (b : Bool) : State := s.wr f b.toNat

/-- A saturating count (R30, and the field maps' "saturating"). -/
def State.bump (s : State) (f : Field) (k : Nat := 1) : State := s.wr f (min (2 ^ f.width - 1) (s.rd f + k))

/-- Bits of a field of events set (R30). -/
def State.orBits (s : State) (f : Field) (m : Nat) : State := s.wr f (s.rd f ||| m)

/-- A field returned to its image value. -/
def State.toImage (s : State) (f : Field) : State := s.wr f (s.rdImage f)

/-- Both the live value and the image value of a field: what steps 0x06 and 0x07 load. -/
def State.load (s : State) (f : Field) (v : Nat) : State :=
  { s with regs := Store.set s.regs f v, image := Store.set s.image f v }

/-! ## Hidden records -/

/-- The hidden record of port `n`. -/
def State.port (s : State) (n : Nat) : PortX := KMap.get PortX.reset s.ports n
/-- The state with the hidden record of port `n` changed. -/
def State.modPort (s : State) (n : Nat) (g : PortX → PortX) : State :=
  { s with ports := KMap.put PortX.reset s.ports n (g (s.port n)) }
/-- The hidden record of personality `u`. -/
def State.up (s : State) (u : Nat) : UpX := KMap.get UpX.reset s.ups u
/-- The state with the hidden record of personality `u` changed. -/
def State.modUp (s : State) (u : Nat) (g : UpX → UpX) : State :=
  { s with ups := KMap.put UpX.reset s.ups u (g (s.up u)) }
/-- The hidden record of sector `i`. -/
def State.sec (s : State) (i : Nat) : SecX := KMap.get SecX.reset s.secs i
/-- The state with the hidden record of sector `i` changed. -/
def State.modSec (s : State) (i : Nat) (g : SecX → SecX) : State :=
  { s with secs := KMap.put SecX.reset s.secs i (g (s.sec i)) }
/-- The hidden record of quad `q`. -/
def State.quad (s : State) (q : Nat) : QuadX := KMap.get QuadX.reset s.quads q
/-- The state with the hidden record of quad `q` changed. -/
def State.modQuad (s : State) (q : Nat) (g : QuadX → QuadX) : State :=
  { s with quads := KMap.put QuadX.reset s.quads q (g (s.quad q)) }
/-- The hidden record of mailbox `m`. -/
def State.mb (s : State) (m : Nat) : MbxX := KMap.get MbxX.reset s.mbx m
/-- The state with the hidden record of mailbox `m` changed. -/
def State.modMb (s : State) (m : Nat) (g : MbxX → MbxX) : State :=
  { s with mbx := KMap.put MbxX.reset s.mbx m (g (s.mb m)) }
/-- The Almanac entry `k` of port `n`. -/
def State.almE (s : State) (n k : Nat) : AlmEntry := KMap.get AlmEntry.free (s.port n).alm k
/-- The state with an Almanac entry replaced. -/
def State.setAlm (s : State) (n k : Nat) (e : AlmEntry) : State :=
  s.modPort n (fun p => { p with alm := KMap.put AlmEntry.free p.alm k e })
/-- The hidden record of Lodestar's work on port `n` changed. -/
def State.modLds (s : State) (n : Nat) (g : LdsPort → LdsPort) : State :=
  s.modPort n (fun p => { p with lds := g p.lds })
/-- What the view of personality `u` holds for port `n` (R141). -/
def State.view (s : State) (u n : Nat) : View := KMap.get View.zero (s.up u).views n
/-- The state with a view replaced. -/
def State.setView (s : State) (u n : Nat) (v : View) : State :=
  s.modUp u (fun x => { x with views := KMap.put View.zero x.views n v })
/-- The switch and packet memory changed. -/
def State.modSw (s : State) (g : SwX → SwX) : State := { s with sw := g s.sw }

/-- Index of a fault block in the order of `FBlk.all`. -/
def FBlk.idx : FBlk → Nat
  | .prt n => n
  | .qd q => 48 + q
  | .sec i => 60 + i
  | .ups u => 64 + u
  | .pkm => 68
  | .swx => 69
  | .pwr => 70
  | .icu => 71
  | .nw => 72
  | .sys => 73

/-- The fault block with an index. -/
def FBlk.ofIdx (i : Nat) : FBlk :=
  if i < 48 then .prt i else if i < 60 then .qd (i - 48) else if i < 64 then .sec (i - 60)
  else if i < 68 then .ups (i - 64) else if i = 68 then .pkm else if i = 69 then .swx
  else if i = 70 then .pwr else if i = 71 then .icu else if i = 72 then .nw else .sys

/-- The hidden record of a fault block. -/
def State.flt (s : State) (b : FBlk) : FaultX := KMap.get FaultX.reset s.faults b.idx
/-- The state with the hidden record of a fault block changed. -/
def State.modFlt (s : State) (b : FBlk) (g : FaultX → FaultX) : State :=
  { s with faults := KMap.put FaultX.reset s.faults b.idx (g (s.flt b)) }

/-- A change of a port's hub state (R142, R170): latched in HUBCHG (bit `k`), and given to the hub views at the next
Meridian whether or not the HUBCHG bit is still set. -/
def State.hubEvt (s : State) (n k : Nat) : State :=
  (if k = 0 then s.raise (PRT.HUBCHG.C_CONNECTION n)
   else if k = 1 then s.raise (PRT.HUBCHG.C_ENABLE n)
   else if k = 2 then s.raise (PRT.HUBCHG.C_SUSPEND n)
   else if k = 3 then s.raise (PRT.HUBCHG.C_OVERCUR n)
   else s.raise (PRT.HUBCHG.C_RESET n)).modPort n (fun p => { p with chg := p.chg ||| 2 ^ k })

/-! ## Outputs, open values, time -/

/-- Something driven or answered during this command. -/
def State.emit (s : State) (o : Out) : State := { s with outs := s.outs ++ [o] }

/-- The state a meaning starts from: the outputs of the last command are gone. -/
def State.fresh (s : State) : State := { s with outs := [] }

/-- An open value of the spec, and the state with the counter of open values advanced. -/
def State.free (s : State) : Nat × State := (Config.freeValue s.freeCtr, { s with freeCtr := s.freeCtr + 1 })

/-- The answer of a command that takes effect. -/
def done (s : State) : Res := .next s

/-- The answer of a command that takes effect only where its guard holds. -/
def doneIf (c : Bool) (s t : State) : Res := .next (if c then t else s)

/-- An effect repeated over a list of indices. -/
def State.forEach (s : State) (l : List Nat) (g : State → Nat → State) : State := l.foldl g s

/-- Engine with interrupt target `e` runs (R16): SE s is s, PC s is 4 + s, PE0 8, PE1 9, SV 10, WD 11. -/
def State.runs (s : State) (e : Nat) : Bool := !s.stopped.contains e

/-- The sector, quad and place in the quad of a port (R1, R2). -/
def secOf (n : Nat) : Nat := n / 12
/-- The quad of a port (R2). -/
def quadOf (n : Nat) : Nat := n / 4
/-- The ports of sector `i`. -/
def secPorts (i : Nat) : List Nat := (List.range 12).map (12 * i + ·)
/-- The ports of quad `q`. -/
def quadPorts (q : Nat) : List Nat := (List.range 4).map (4 * q + ·)
/-- All downstream ports. -/
def allPorts : List Nat := List.range 48

/-- The part is Active: boot, normal or restricted operation (not in rescue, Dusk, Eclipse, Reset or unpowered). -/
def State.active (s : State) : Bool := s.phase == .running

/-- Port `n` of an armed and reachable sector while the part runs. -/
def State.portUp (s : State) (n : Nat) : Bool := s.active && !s.safe && (s.port n).armed

/-- Restricted mode (R93). -/
def State.restricted (s : State) : Bool := s.boot.restricted

/-- Microseconds from a stamp in Meridians of `now` to the present: known only to within a Meridian each way, the rest is
open (the spec counts in CLK_FAB cycles, the model in Meridians). -/
def State.elapsedUs (s : State) (start : Nat) : Nat × State :=
  ((s.now - start) * 125 - 125 + (s.free).1 % 250, (s.free).2)

/-! ## Bits and bytes -/

/-- Bit `i` of a number. -/
def bitAt (v i : Nat) : Bool := v / 2 ^ i % 2 == 1

/-- Bits [lo + w − 1 : lo] of a number. -/
def bitsOf (v lo w : Nat) : Nat := v / 2 ^ lo % 2 ^ w

/-- A number with bit `i` set or cleared. -/
def withBit (v i : Nat) (b : Bool) : Nat :=
  if bitAt v i then (if b then v else v - 2 ^ i) else (if b then v + 2 ^ i else v)

/-- Two's complement reading of a `w`-bit field. -/
def signed (w v : Nat) : Int := if v < 2 ^ (w - 1) then v else (v : Int) - 2 ^ w

/-- Two's complement code of an integer in `w` bits. -/
def unsigned (w : Nat) (v : Int) : Nat := (v % (2 ^ w : Int)).toNat

/-- The little-endian number of a byte list. -/
def leNat : List Byte → Nat
  | [] => 0
  | b :: bs => b.toNat + 256 * leNat bs

/-- `k` little-endian bytes of a number. -/
def leBytes : Nat → Nat → List Byte
  | 0, _ => []
  | k + 1, v => BitVec.ofNat 8 v :: leBytes k (v / 256)

/-- Bytes `lo` to `lo + k − 1` of a list, as a little-endian number. -/
def fieldAt (bs : List Byte) (lo k : Nat) : Nat := leNat ((bs.drop lo).take k)

/-- All bytes of a range of a list are 0. -/
def zeroAt (bs : List Byte) (lo k : Nat) : Bool := ((bs.drop lo).take k).all (· == 0)

/-- Next number of shift steps of the reflected CRC-32. -/
def crc32Step : Nat → Nat → Nat
  | 0, c => c
  | k + 1, c => crc32Step k (if c % 2 = 1 then (c / 2) ^^^ 0xEDB88320 else c / 2)

/-- CRC-32 with the IEEE 802.3 polynomial (R80); reflection, initial value and final inversion are those of IEEE 802.3. -/
def crc32 (bs : List Byte) : Nat :=
  (bs.foldl (fun c b => crc32Step 8 (c ^^^ b.toNat)) 0xFFFFFFFF) ^^^ 0xFFFFFFFF

/-- Shift steps of the CRC-8 of R109. -/
def crc8Step : Nat → Nat → Nat
  | 0, c => c
  | k + 1, c => crc8Step k (if c ≥ 128 then (2 * c) % 256 ^^^ 7 else 2 * c)

/-- CRC-8 with polynomial 0x07, initial value 0, no reflection (R109). -/
def crc8 (bs : List Byte) : Nat := bs.foldl (fun c b => crc8Step 8 (c ^^^ b.toNat)) 0

/-- The eight bytes of a SETUP packet as its fields. -/
def Setup.ofBits (v : BitVec 64) : Setup :=
  ⟨bitsOf v.toNat 0 8, bitsOf v.toNat 8 8, bitsOf v.toNat 16 16, bitsOf v.toNat 32 16, bitsOf v.toNat 48 16⟩

/-- The eight bytes of a SETUP packet, first byte first. -/
def Setup.bytes (r : Setup) : List Byte :=
  leBytes 1 r.bmReq ++ leBytes 1 r.bReq ++ leBytes 2 r.wValue ++ leBytes 2 r.wIndex ++ leBytes 2 r.wLength

/-! ## Flash (R79) -/

/-- A byte of the flash; an unlisted byte reads as erased, 0xFF. -/
def State.flashByte (s : State) (a : Nat) : Byte := KMap.get 0xFF s.flash a

/-- `k` bytes of the flash from an address. -/
def State.flashBytes (s : State) (a k : Nat) : List Byte := (List.range k).map (fun i => s.flashByte (a + i))

/-- An erase returns every byte of a range to 0xFF. -/
def State.flashErase (s : State) (a k : Nat) : State :=
  ({ s with flash := s.flash.filter (fun c => !(decide (a ≤ c.1) && decide (c.1 < a + k))) }).emit (.flashErase a k)

/-- Programming clears bits and never sets one: the AND of old and new bytes. -/
def programBytes : List Host.Cell → Nat → List Byte → List Host.Cell
  | m, _, [] => m
  | m, a, b :: bs => programBytes (KMap.put 0xFF m a (KMap.get 0xFF m a &&& b)) (a + 1) bs

/-- A program of a byte list at an address. -/
def State.flashProgram (s : State) (a : Nat) (bs : List Byte) : State :=
  ({ s with flash := programBytes s.flash a bs }).emit (.flashProgram a bs.length)

/-! ## Owner and reach of a port (R255, R103) -/

/-- Owner code of a port. -/
def State.owner (s : State) (n : Nat) : Nat := s.rd (PRT.OWNER.OWN n)

/-- The port is in state OWNED. -/
def State.owned (s : State) (n : Nat) : Bool := s.rd (PRT.OWNER.STATE n) == 0

/-- Personality `u` (or Lodestar, 4) owns port `n` in state OWNED. -/
def State.owns (s : State) (u n : Nat) : Bool := s.owned n && s.owner n == u

/-- The ports that `u` owns in state OWNED. -/
def State.ownedPorts (s : State) (u : Nat) : List Nat := allPorts.filter (s.owns u)

/-- Port `n` is in personality `u`'s partition (R130). -/
def State.inPartition (s : State) (u n : Nat) : Bool :=
  if s.restricted && u == 0 then decide (n < 48)
  else if n < 32 then bitAt (s.rd (UPS.PART0.P00_P31 u)) n else bitAt (s.rd (UPS.PART1.P32_P47 u)) (n - 32)

/-- The ports of a partition in rising order (R130). -/
def State.partition (s : State) (u : Nat) : List Nat := allPorts.filter (s.inPartition u)

/-- The physical port that hub port `i` of personality `u` names (R130). -/
def State.hubPort (s : State) (u i : Nat) : Option Nat :=
  if i = 0 then none else (s.partition u)[i - 1]?

/-- The hub port number of physical port `n` in `u`'s partition; 0 where it is not in it. -/
def State.hubNumber (s : State) (u n : Nat) : Nat :=
  if s.inPartition u n then ((s.partition u).filter (· ≤ n)).length else 0

end Sys2Proof.Machine
end

