-- ==== Sys2Proof/Machine/Flags.lean ====
section
/-! DEFINITION. Status flags and interrupt sources: the interrupt controller's edges, holding and delivery (R359 to
R365), and the hub status bits that follow a port's state (R161, R170). -/

namespace Sys2Proof.Machine

/-! ## Interrupt controller -/

/-- Source `i` is pending and enabled with target `t` (R362). -/
def State.qualifies (s : State) (t i : Nat) : Bool :=
  s.on (ICU.SRC_STS.PEND i) && s.on (ICU.SRC_CFG.EN i) && s.rd (ICU.SRC_CFG.TGT i) == t

/-- The lowest-numbered source that qualifies at target `t`. -/
def State.lowest (s : State) (t : Nat) : Option Nat := (List.range 512).find? (s.qualifies t)

/-- The source a claim of `t` would return now (R362, TSTAT.TOP): none while a source is in service. -/
def State.top (s : State) (t : Nat) : Nat :=
  if s.rd (ICU.TSTAT.INSVC t) ≠ 0x3FF then 0x3FF else (s.lowest t).getD 0x3FF

/-- Delivery of a target: the line asserts where a source qualifies and no order error blocks it, HELD returns to 0 and
the timer stops (R365, R363). -/
def State.deliver (s : State) (t : Nat) : State :=
  if s.on (ICU.TSTAT.ORDERR t) then s
  else
    { s.wr (ICU.TSTAT.HELD t) 0 |>.flag (ICU.TSTAT.LINE t) (s.lowest t).isSome with
      icuTimer := KMap.put none s.icuTimer t none }

/-- The line deasserts when nothing qualifies or an order error blocks the target (R360). -/
def State.lineCheck (s : State) (t : Nat) : State :=
  if s.on (ICU.TSTAT.LINE t) && ((s.lowest t).isNone || s.on (ICU.TSTAT.ORDERR t)) then s.wr (ICU.TSTAT.LINE t) 0
  else s

/-- A new event of source `i` for target `t` (R365): delivered at once while the line is asserted and for sources 0 to
15; otherwise held and counted, the first one starting the timer, and delivered at CCOUNT. -/
def State.hold (s : State) (t i : Nat) : State :=
  if s.on (ICU.TSTAT.LINE t) then s
  else
    let s1 := s.bump (ICU.TSTAT.HELD t)
    let s2 := if s.rd (ICU.TSTAT.HELD t) = 0 then { s1 with icuTimer := KMap.put none s1.icuTimer t (some s1.now) }
              else s1
    if i < 16 ∨ s2.rd (ICU.TSTAT.HELD t) ≥ s2.rd (ICU.TCTL.CCOUNT t) then s2.deliver t else s2

/-- The rising edge of source `i`'s event (R359, R364). -/
def State.edge (s : State) (i : Nat) : State :=
  if !srcExists i then s
  else if s.on (ICU.SRC_STS.INSVC i) then (s.raise (ICU.SRC_STS.LOST i)).bump (ICU.SRC_STS.LOSTCNT i)
  else if s.on (ICU.SRC_STS.PEND i) then s
  else
    let s1 := s.raise (ICU.SRC_STS.PEND i)
    if s1.on (ICU.SRC_CFG.EN i) then s1.hold (s1.rd (ICU.SRC_CFG.TGT i)) i else s1

/-- A target reset (R370). -/
def State.targetReset (s : State) (t : Nat) : State :=
  let i := s.rd (ICU.TSTAT.INSVC t)
  let s1 := if i ≠ 0x3FF then (s.wr (ICU.SRC_STS.INSVC i) 0).wr (ICU.TSTAT.INSVC t) 0x3FF else s
  (s1.wr (ICU.TSTAT.ORDERR t) 0).deliver t

/-- IRQ_N is driven low (R48, R360): in Active, and in Dusk as at entry; in every other state it is Hi-Z. -/
def State.irqLow (s : State) : Bool := (s.active || s.phase == .dusk) && s.on (ICU.TSTAT.LINE 12)

/-- A source edge at the next Meridian (R358). -/
def State.edgeAtMeridian (s : State) (i : Nat) : State :=
  { s with edgeDue := if s.edgeDue.contains i then s.edgeDue else s.edgeDue ++ [i] }

/-! ## Hub port status -/

/-- Names of the states in HUBSTS.STATE (R170). -/
def HS.off : Nat := 0
/-- Disconnected. -/
def HS.disconnected : Nat := 1
/-- Disabling. -/
def HS.disabling : Nat := 2
/-- Disabled. -/
def HS.disabled : Nat := 3
/-- Resetting. -/
def HS.resetting : Nat := 4
/-- Enabled. -/
def HS.enabled : Nat := 5
/-- Suspended. -/
def HS.suspended : Nat := 8
/-- Resuming. -/
def HS.resuming : Nat := 9
/-- SendEOR. -/
def HS.sendEor : Nat := 10
/-- Restart_S. -/
def HS.restartS : Nat := 11
/-- Restart_E. -/
def HS.restartE : Nat := 12
/-- Test. -/
def HS.test : Nat := 13

/-- The physical hub state of a port (R153). -/
def State.hub (s : State) (n : Nat) : Nat := s.rd (PRT.HUBSTS.STATE n)

/-- A port is in a state in which its device is enabled (R167's green states). -/
def hubGreen (st : Nat) : Bool := st == 5 || (8 ≤ st && st ≤ 12)

/-- The port enters a hub state, with the status bits that follow from it (R161, R170). -/
def State.setHub (s : State) (n st : Nat) : State :=
  ((((s.wr (PRT.HUBSTS.STATE n) st).flag (PRT.HUBSTS.ENABLE n) (hubGreen st || st == 2)).flag (PRT.HUBSTS.SUSPEND n)
    (decide (8 ≤ st) && decide (st ≤ 11))).flag (PRT.HUBSTS.RESET n) (st == 4)).flag (PRT.HUBSTS.TEST n) (st == 13)

/-- The indicator of a port: 0 off, 1 amber, 2 green (R167). -/
def State.indicator (s : State) (n : Nat) : Nat :=
  let auto :=
    if s.on (PRT.HUBSTS.OVERCUR n) || s.on (PRT.TCSTS.WET n) then 1 else if hubGreen (s.hub n) then 2 else 0
  let mode := s.rd (PRT.CTL.INDMODE n)
  if mode = 1 then s.rd (PRT.CTL.INDSW n)
  else if mode = 2 then 0
  else if s.owner n < 4 && s.on (UPS.HUBCFG.IND (s.owner n)) then
    (match (s.port n).indSel with
     | 1 => 1
     | 2 => 2
     | 3 => 0
     | _ => auto)
  else auto

/-- The number of a Boolean list read with its first element as the least significant bit. -/
def boolsNat : List Bool → Nat
  | [] => 0
  | b :: bs => b.toNat + 2 * boolsNat bs

/-- wPortChange of a view. -/
def View.change (v : View) : Nat := boolsNat [v.cConn, v.cEn, v.cSusp, v.cOc, v.cRst]

/-- Change events added to a view (R141); a port whose change bits were all clear becomes newly reportable (R143). -/
def View.addChange (v : View) (m : Nat) : View :=
  { v with cConn := v.cConn || bitAt m 0, cEn := v.cEn || bitAt m 1, cSusp := v.cSusp || bitAt m 2,
           cOc := v.cOc || bitAt m 3, cRst := v.cRst || bitAt m 4, fresh := v.fresh || (v.change == 0 && m % 32 != 0) }

end Sys2Proof.Machine
end

