-- ==== Sys2Proof/Machine/TtOps.lean ====
section
/-! DEFINITION. What events do to a port's transaction translator, Almanac and Meteor slots (R182, R184, R189, R205),
and to its relay slots and queued packets (R22, R221, R229): the shared operations of chapters 08 to 11. -/

namespace Sys2Proof.Machine

/-! ## Transaction translator -/

/-- A control hold ends (R204): the entries of its address that are LEARNED or STABLE with misses below MISSLIM are to be
armed again after 4 × P microframes. -/
def State.holdEnd (s : State) (n a : Nat) : State :=
  if !(s.port n).holds.any (fun h => h.1 == a) then s
  else
    let lim := s.rd (PRT.MTRCFG.MISSLIM n)
    s.modPort n (fun p => { p with
      holds := p.holds.filter (fun h => h.1 != a),
      alm := p.alm.map (fun e =>
        if e.2.key.addr = a ∧ e.2.st ≥ 2 ∧ e.2.miss < lim then
          (e.1, { e.2 with rearm := some (((s.up (s.owner n)).frameM + 4 * e.2.per) % 16384) })
        else e) })

/-- Every control hold of a port ends, its transfers abandoned (R204). -/
def State.holdsEnd (s : State) (n : Nat) : State :=
  (s.forEach ((s.port n).holds.map (·.1)) (fun t a => t.holdEnd n a)).modPort n (fun p => { p with ctls := [] })

/-- A TT reset (R182): every buffer and record is freed, one on the wire finishing with its result discarded, and a
stopped TT runs again; the control holds end (R204). A poll that waited for a prefetch is freed, and the prefetch's outcome is
held (R209). -/
def State.ttReset (s : State) (n : Nat) : State :=
  ((s.modPort n (fun p => { p with
    np := (p.np.filter (fun b => b.st == .wire)).map (fun b => { b with dead := true }),
    per := (p.per.filter (fun r => r.st == .wire && !p.alm.any (fun e => e.2.polled && e.2.key == r.key))).map
      (fun r => { r with dead := true }),
    alm := p.alm.map (fun e => (e.1, { e.2 with polled := false })), stopDue := false })).wr (PRT.QSTS.STOPPED n)
      0).holdsEnd n

/-- A TT that is cut, with nothing left on the wire (R184, detach). -/
def State.ttCut (s : State) (n : Nat) : State :=
  (s.modPort n (fun p => { p with np := [], per := [], stopDue := false })).wr (PRT.QSTS.STOPPED n) 0

/-- The port leaves Enabled: its TT holds no transactions in any other hub state (R171). -/
def State.leaveTo (s : State) (n st : Nat) : State := (s.modPort n (fun p => { p with np := [], per := [] })).setHub n st

/-- The entries that are not FREE, with their indices. -/
def State.almList (s : State) (n : Nat) : List (Nat × AlmEntry) := (s.port n).alm

/-- A slot holds DATA. -/
def heldData (h : Option Held) : Bool :=
  match h with
  | some (.data _ _) => true
  | _ => false

/-- Meteor does not run for a time: no present window counts as one in which it ran throughout (R198). -/
def State.mtrPause (s : State) (n : Nat) : State :=
  s.modPort n (fun p => { p with alm := p.alm.map (fun e => (e.1, { e.2 with winOk := false })) })

/-- DATA stranded in the present microframe, of the keys that `sel` picks, counts as withdrawn instead (R209). -/
def State.restrand (s : State) (n : Nat) (sel : Key → Bool) : State :=
  let k := ((s.port n).strand.filter sel).length
  if k = 0 then s
  else
    ((s.wr (PRT.MTRSTS.STRANDED n) (s.rd (PRT.MTRSTS.STRANDED n) - k)).bump (PRT.MTRSTS.WITHDRAWN n) k).modPort n
      (fun p => { p with strand := p.strand.filter (fun x => !sel x) })

/-- A port event wins over the polls of its microframe (R209): what they took from the slots counts as withdrawn, not as hits. -/
def State.unpoll (s : State) (n : Nat) : State :=
  let p := s.port n
  if p.hitData = 0 ∧ p.hitNak = 0 then s
  else
    (((s.wr (PRT.MTRCNT.DATAHIT n) (s.rd (PRT.MTRCNT.DATAHIT n) - p.hitData)).wr (PRT.MTRCNT.NAKHIT n)
      (s.rd (PRT.MTRCNT.NAKHIT n) - p.hitNak)).bump (PRT.MTRSTS.WITHDRAWN n) p.hitData).modPort n
        (fun p => { p with hitData := 0, hitNak := 0 })

/-- A held slot is withdrawn (R205): a held DATA is counted; the outcome of a prefetch on the wire is withdrawn as it comes
(R209). -/
def State.withdrawEntry (s : State) (n k : Nat) : State :=
  let e := s.almE n k
  let s1 := (s.setAlm n k { e with held := none, wd := e.pfWire.isSome }).restrand n (· == e.key)
  if heldData e.held then s1.bump (PRT.MTRSTS.WITHDRAWN n) else s1

/-- Every held slot of the port is withdrawn, counted where `counted` (R205). -/
def State.withdrawAll (s : State) (n : Nat) (counted : Bool) : State :=
  let k := ((s.port n).alm.filter (fun e => heldData e.2.held)).length
  let s1 := s.modPort n (fun p =>
    { p with alm := p.alm.map (fun e => (e.1, { e.2 with held := none, wd := e.2.pfWire.isSome })) })
  if counted then (s1.restrand n (fun _ => true)).bump (PRT.MTRSTS.WITHDRAWN n) k else s1

/-- The Almanac is cleared (R184, R189): every entry is FREE but for a prefetch on the wire that is not `cut`. -/
def State.almClear (s : State) (n : Nat) (cut : Bool) : State :=
  s.modPort n (fun p => { p with alm := if cut then [] else
    (p.alm.map (fun e => (e.1, e.2.drop))).filter (fun e => e.2.pfWire.isSome) })

/-- TT reset with the Almanac cleared, held slots withdrawn and counted, control transfers forgotten (R184, R205); the polls of
the microframe go with it (R209). -/
def State.ttAndAlmanac (s : State) (n : Nat) (cut counted : Bool) : State :=
  let s1 := (if counted then s.unpoll n else s).withdrawAll n counted
  let s2 := if cut then s1.ttCut n else s1.ttReset n
  (s2.almClear n cut).modPort n (fun p => { p with ctls := [], holds := [], sizes := [], frameM := 16384, strand := [] })

/-- The entries of a device address are freed, their held slots withdrawn (R184, R205). -/
def State.freeAddr (s : State) (n a : Nat) : State :=
  let ks := ((s.port n).alm.filter (fun e => e.2.key.addr == a)).map (·.1)
  (s.forEach ks (fun t k => let u := t.withdrawEntry n k; u.setAlm n k (u.almE n k).drop)).restrand n (fun x => x.addr == a)

/-! ## Relay slots and packets -/

/-- Index of the traffic counters of an owner code: 0 to 3 for personalities, 4 for Lodestar (R230). -/
def cntIdx (owner : Nat) : Nat := min owner 4

/-- The requester whose traffic a packet belongs to: the personality or Lodestar at either end. -/
def Pkt.side (p : Pkt) : Nat := if p.inp ≥ 48 then p.inp - 48 else p.out - 48

/-- The port at the downstream end of a packet. -/
def Pkt.port (p : Pkt) : Nat := if p.inp ≥ 48 then p.out else p.inp

/-- Granules of a byte count; a zero-length packet takes none. -/
def granules (bytes : Nat) : Nat := (bytes + 63) / 64

/-- POOLFREE changes to `v` (R244): a downward crossing of the low mark sets WAS, and the next is taken only once the pool
has risen to LOW + 16. -/
def State.setPool (s : State) (v : Nat) : State :=
  let low := s.rd PKM.FREEMARK.LOW
  let s1 := s.wr PKM.GCNT2.POOLFREE v
  if low ≤ s.rd PKM.GCNT2.POOLFREE ∧ v < low ∧ s.sw.armedLow then
    ((s1.raise PKM.FREESTS.WAS).modSw (fun w => { w with armedLow := false })).edgeAtMeridian 424
  else if low + 16 ≤ v then s1.modSw (fun w => { w with armedLow := true })
  else s1

/-! ## Packet memory (R232, R239 to R248) -/

/-- The bank of a granule (R232). -/
def bankOf (g : Nat) : Nat := g / 2048

/-- The physical line that serves a logical one: itself, or its replacement (R249). -/
def FenceX.phys (f : FenceX) (l : Nat) : Nat :=
  match f.map.find? (fun m => m.1 == l) with
  | some m => m.2
  | none => l

/-- The eight words of a logical line as they are read (R246, R247): from the fence buffer while the line is fenced, from its
overlay slot, else from packet memory. -/
def SwX.line (w : SwX) (l : Nat) : List Nat :=
  if w.fence.active = some l then w.fence.buf
  else
    match w.fence.slots.find? (fun x => x.1 == l) with
    | some x => x.2
    | none => (List.range 8).map (fun i => KMap.get 0 w.mem (8 * w.fence.phys l + i))

/-- A line's words written into packet memory. -/
def SwX.putLine (w : SwX) (l : Nat) (ws : List Nat) : SwX :=
  { w with mem := (ws.zip (List.range 8)).foldl (fun m x => KMap.put 0 m (8 * w.fence.phys l + x.2) x.1) w.mem }

/-- A word written at a logical word address (R246, R247): `ov` tells that the region it lies in is in overlay fall-back. -/
def SwX.store (w : SwX) (ov : Bool) (a v : Nat) : SwX :=
  let f := w.fence
  let l := a / 8
  let ws := (w.line l).set (a % 8) v
  if f.active = some l then { w with fence := { f with buf := ws } }
  else if f.slots.any (fun x => x.1 == l) then
    { w with fence := { f with slots := f.slots.map (fun x => if x.1 = l then (l, ws) else x) } }
  else if ov && decide (f.slots.length < 32) then { w with fence := { f with slots := f.slots ++ [(l, ws)] } }
  else { w with mem := KMap.put 0 w.mem (8 * f.phys l + a % 8) v }

/-- The 64-bit words of a byte list, first byte lowest, the last one padded with zero bytes (R240). -/
def packWords (bs : List Byte) : List Nat := (List.range ((bs.length + 7) / 8)).map (fun i => fieldAt bs (8 * i) 8)

/-- Words of ingress queue `k` (R239). -/
def State.iqWords (s : State) (k : Nat) : Nat := if k < 52 then 8 * s.rd (PKM.RGN.SIZE k) else 2048

/-- Words written into ingress queue `k` at its write pointer (R239). -/
def State.iqPush (s : State) (k : Nat) (ws : List Nat) : State :=
  let n := s.iqWords k
  let base := 8 * s.rd (PKM.RGN.BASE k)
  let at_ := s.rd (PKM.IQPTR.WPTR k)
  let ov := s.sw.fence.mode == 2 && s.sw.fence.region == k
  (s.modSw (fun w => (ws.zip (List.range ws.length)).foldl (fun w x => w.store ov (base + (at_ + x.2) % n) x.1) w)).wr
    (PKM.IQPTR.WPTR k) ((at_ + ws.length) % (2 * n))

/-- `d` words read from ingress queue `k` (R239). -/
def State.iqPop (s : State) (k d : Nat) : State :=
  s.wr (PKM.IQPTR.RPTR k) ((s.rd (PKM.IQPTR.RPTR k) + d) % (2 * s.iqWords k))

/-- Words held in ingress queue `k` (R239). -/
def State.iqHeld (s : State) (k : Nat) : Nat :=
  (s.rd (PKM.IQPTR.WPTR k) + 2 * s.iqWords k - s.rd (PKM.IQPTR.RPTR k)) % (2 * s.iqWords k)

/-- A payload that goes through ingress queue `k` within one command (R239, R243). -/
def State.iqThrough (s : State) (k : Nat) (bs : List Byte) : State :=
  (s.iqPush k (packWords bs)).iqPop k ((bs.length + 7) / 8)

/-- A payload that the fabric copies within one command, to or from a TT region or Lodestar (R239, R212). -/
def State.iqPass (s : State) (k : Nat) (bs : List Byte) : State :=
  (s.iqThrough k bs).modSw (fun w => { w with beats := w.beats + (bs.length + 15) / 16 })

/-- Words of a packet that its producer can have written: whole ones before the tail, all after it (R240). -/
def Pkt.written (p : Pkt) : Nat :=
  if p.tail = .receiving then p.bytes.length / 8 else (p.bytes.length + 7) / 8

/-- An IN that is outstanding downstream: its DATA has not begun. -/
def Pkt.asking (p : Pkt) : Bool := p.kind == .inData && p.tail == .receiving && p.released

/-- A packet is copied whole into its output region. -/
def Pkt.copied (p : Pkt) : Bool := p.tail != .receiving && p.rdW == p.written

/-- The fall-back pair, sector and index, of region `d` (R247). -/
def fallPair (d : Nat) : Option (Nat × Nat) :=
  if d < 48 then some (d / 12, d % 12) else if d < 52 then some (d - 48, 0)
  else if d = 52 ∨ d = 153 then some (0, 0)
  else if 53 ≤ d ∧ d < 101 then some ((d - 53) / 12, (d - 53) % 12)
  else if 101 ≤ d ∧ d < 149 then some ((d - 101) / 12, (d - 101) % 12)
  else if 149 ≤ d ∧ d < 153 then some (d - 149, 0) else none

/-- The output region of output `k` (R234). -/
def outRegion (k : Nat) : Nat := if k = 52 then 52 else 101 + k

/-- The region in whose pair a packet is held. -/
def Pkt.pairRegion (p : Pkt) : Nat := if p.pair = 2 then p.inp else outRegion p.out

/-- A packet is held in the pair that serves region `d`. -/
def Pkt.inPair (p : Pkt) (d : Nat) : Bool := p.pair != 0 && fallPair p.pairRegion == fallPair d

/-- A packet is still to be written into its pair. -/
def Pkt.filling (p : Pkt) : Bool := !p.void && (if p.pair = 2 then p.tail == .receiving else !p.copied)

/-- Streaming fall-back that has ended for new packets is over once no packet is being written into the pair (R247). -/
def State.fallSettle (s : State) : State :=
  let f := s.sw.fence
  if f.ending && !s.sw.packets.any (fun p => p.inPair f.region && p.filling) then
    (s.modSw (fun w => { w with fence := { f with ending := false, mode := 0 } })).wr PKM.FENCE.FALLBACK 0
  else s

/-- `k` granules leave an output entry (R238): they are in-flight, but for what the published count cannot hold (log entry
107). -/
def State.toFlight (s : State) (k : Nat) : State :=
  let fly := min k (4095 - s.rd PKM.GCNT1.INFLIGHT)
  ((s.wr PKM.GCNT0.QUEUED (s.rd PKM.GCNT0.QUEUED - k)).wr PKM.GCNT1.INFLIGHT (s.rd PKM.GCNT1.INFLIGHT + fly)).wr
    PKM.GCNT0.FREE (s.rd PKM.GCNT0.FREE + (k - fly))

/-- What a packet holds is given up (R237, R238, R243): what is left of it in its queue is read through, the granules it had
written become in-flight, a line of it under test apart, and what it borrowed returns to the pool. -/
def State.giveUp (s : State) (p : Pkt) : State :=
  let mine := s.sw.fence.holder == some p.id
  let s1 := if mine then s.modSw (fun w => { w with fence := { w.fence with queued := false, holder := none } }) else s
  let s2 := s1.toFlight (p.used - mine.toNat)
  let s3 := if p.pair = 2 then s2 else s2.iqPop p.inp (p.wrW - p.rdW)
  let back := p.fromPool - (mine && s.sw.fence.region == 155).toNat
  if back = 0 then s3 else s3.setPool (s3.rd PKM.GCNT2.POOLFREE + back)

/-- A packet is discarded or done, or voided whole. -/
def State.dropPkt (s : State) (id : Nat) : State :=
  match s.sw.packets.find? (fun p => p.id == id) with
  | none => s
  | some p => ((s.modSw (fun w => { w with packets := w.packets.filter (fun q => q.id != id) })).giveUp p).fallSettle

/-- Packets discarded as stale, each counted for its side (R227, R228, R229); a relay slot that held one is empty again. An IN
that is outstanding has no packet yet. -/
def State.dropStale (s : State) (sel : Pkt → Bool) : State :=
  (s.sw.packets.filter (fun p => sel p && !p.asking && !p.void)).foldl (fun t p =>
    let t1 := (t.dropPkt p.id).bump (SWX.CNTA.STALE (cntIdx p.side))
    if p.kind = .inData then
      t1.modPort p.inp (fun x => { x with slots := x.slots.map (fun y =>
        if y.key = p.key then { y with asked := false, held := if heldData y.held then none else y.held } else y) })
    else t1) s

/-- The packet of a held relay DATA is given up with its slot: IN data packets of a key on a port. -/
def State.dropHeld (s : State) (n : Nat) (k : Key) : State :=
  (s.sw.packets.filter (fun p => p.kind == .inData && p.inp == n && p.key == k)).foldl (fun t p => t.dropPkt p.id) s

/-! ## Room of an ingress queue (R241) -/

/-- Streaming fall-back takes the packets of region `d` (R247). -/
def State.streaming (s : State) (d : Nat) : Bool :=
  s.sw.fence.mode == 1 && s.sw.fence.region == d && !s.sw.fence.ending

/-- Bytes held or reserved in the fall-back pair (R248): what an ingress queue has had copied out takes no room. -/
def State.pairBytes (s : State) : Nat :=
  ((s.sw.packets.filter (fun p => p.inPair s.sw.fence.region && p.kind != .setup)).map
    (fun p => (if p.tail = .receiving then 1024 else p.bytes.length) - (if p.pair = 2 then 8 * p.rdW else 0))).sum

/-- Room of the pair for data (R248): 64 bytes stay for a SETUP. -/
def State.pairRoom (s : State) : Nat := 2048 - 64 - s.pairBytes

/-- Tags of ingress queue `k` in use (R240). -/
def State.tagsUsed (s : State) (k : Nat) : Nat := (s.sw.packets.filter (fun p => p.inp == k && !p.copied)).length

/-- Words that packets admitted or asked for will still bring to ingress queue `k` (R241). -/
def State.iqOwed (s : State) (k : Nat) : Nat :=
  ((s.sw.packets.filter (fun p => p.inp == k && p.tail == .receiving && p.pair != 2)).map (fun p => 128 - p.wrW)).sum

/-- Ingress queue `k` has a free tag and room for `l` bytes (R241, R248); `setup` may use the 64 bytes kept for it. -/
def State.inRoom (s : State) (k l : Nat) (setup : Bool) : Bool :=
  decide (s.tagsUsed k < 32) &&
    (if s.streaming k && decide (k < 52) then decide (l ≤ s.pairRoom + (if setup then 64 else 0))
     else decide (s.iqHeld k + s.iqOwed k + (l + 7) / 8 ≤ s.iqWords k))

/-- A relay slot is withdrawn (R22, R221): its outcome is discarded, a DATA counted, and the slot freed. -/
def State.withdrawSlot (s : State) (n : Nat) (k : Key) : State :=
  match (s.port n).slots.find? (fun x => x.key == k) with
  | none => s
  | some x =>
    let s1 := s.modPort n (fun p => { p with slots := p.slots.filter (fun y => y.key != k) })
    let s2 := s1.dropHeld n k
    match x.held with
    | some (.data _ _) => s2.bump (SWX.CNTB.RLYWD (cntIdx (s.owner n)))
    | _ => s2

/-- Every relay slot of a port that `sel` picks is withdrawn (R22). -/
def State.withdrawSlots (s : State) (n : Nat) (sel : Slot → Bool) : State :=
  ((s.port n).slots.filter sel).foldl (fun t x => t.withdrawSlot n x.key) s

/-- What a port event does to the relay: slots withdrawn, and the packets already copied for the port discarded and counted
as stale where `stale` (R22, R229). -/
def State.relayReset (s : State) (n : Nat) (stale : Bool) : State :=
  let s1 := (s.withdrawSlots n (fun _ => true)).modPort n (fun p => { p with pingKeys := [] })
  if stale then s1.dropStale (fun p => p.inp ≥ 48 && p.out == n && p.copied) else s1

/-! ## Routing changes (R225) -/

/-- A change of entry `a` of `u`'s routing table, applied at the next Meridian. -/
def State.rtQueue (s : State) (u a : Nat) (port : Option Nat) (hs : Bool) : State :=
  s.modUp u (fun x => { x with rtPending := x.rtPending ++ [(a, port, hs)] })

/-- The entry of `u`'s table for an address as it will stand once the pending changes apply: port, high-speed flag. -/
def State.rtNext (s : State) (u a : Nat) : Option (Nat × Bool) :=
  match (s.up u).rtPending.reverse.find? (fun c => c.1 == a) with
  | some (_, some n, hs) => some (n, hs)
  | some (_, none, _) => none
  | none => if s.on (SWX.RT.VALID u a) then some (s.rd (SWX.RT.PORT u a), s.on (SWX.RT.HSDEV u a)) else none

/-- The entry in force of `u`'s table for an address (R224). -/
def State.route (s : State) (u a : Nat) : Option Nat :=
  if s.on (SWX.RT.VALID u a) then some (s.rd (SWX.RT.PORT u a)) else none

/-- Every entry of `u`'s table that points to port `n` becomes invalid at the next Meridian (R225). -/
def State.rtDropPort (s : State) (u n : Nat) : State :=
  s.forEach ((List.range 128).filter (fun a => match s.rtNext u a with
    | some (m, _) => m == n
    | none => false)) (fun t a => t.rtQueue u a none false)

/-- Every entry of `u`'s table becomes invalid at the next Meridian (R225, R145). -/
def State.rtClear (s : State) (u : Nat) : State :=
  s.forEach ((List.range 128).filter (fun a => (s.rtNext u a).isSome)) (fun t a => t.rtQueue u a none false)

/-- The entries that point to a port in the table of its owner, a personality, become invalid (R225). -/
def State.rtDropOwner (s : State) (n : Nat) : State :=
  if s.owner n < 4 then s.rtDropPort (s.owner n) n else s

end Sys2Proof.Machine
end

