-- ==== Sys2Proof/Machine/PortOps.lean ====
section
/-! DEFINITION. What the shared events of a downstream port do: Roster changes (R282, R285), the end of a PD contract
and of the service console (R312), gate and VBUS (R155, R327), detach and hub disconnect (R161, R293), the demand
(R154 to R156), error recovery (R291), and the books of a port (R345). -/

namespace Sys2Proof.Machine

/-! ## Roster (R282 to R286) -/

/-- Bit `n` of LDS.CHG0 or CHG1 set (R286). -/
def State.ldsChange (s : State) (n : Nat) : State :=
  if n < 32 then s.orBits LDS.CHG0.P00_P31 (2 ^ n) else s.orBits LDS.CHG1.P32_P47 (2 ^ (n - 32))

/-- The Roster entry of a port replaced, with RSUM and the change bit (R286, R288). -/
def State.setEntry (s : State) (n : Nat) (e : RosterEntry) : State :=
  let old := (s.port n).lds.entry
  let s1 := s.modLds n (fun l => { l with entry := e })
  let s2 := ((((s1.wr (LDS.RSUM.STATE n) e.state).wr (LDS.RSUM.RESULT n) e.result).wr (LDS.RSUM.PROFILE n)
    (if e.profile = 0xFF then 0x1F else e.profile)).flag (LDS.RSUM.IDVALID n) e.idValid).flag (LDS.RSUM.HBUSED n) e.hbUsed
  if old.state ≠ e.state ∨ old.result ≠ e.result then s2.ldsChange n else s2

/-- The Roster entry of a port. -/
def State.entry (s : State) (n : Nat) : RosterEntry := (s.port n).lds.entry

/-- Lodestar is at work on a port: QUEUED, ENUMERATING or CHECKING (R283). -/
def RosterEntry.busy (e : RosterEntry) : Bool := e.state == 1 || e.state == 2 || e.state == 3

/-- Time since boot start in µs, for the journal and the Roster (R90, R282): the model keeps it to a Meridian, and the rest
is open. -/
def State.clockUs (s : State) : Nat × State := (s.boot.us + (s.free).1 % 250 - 125, (s.free).2)

/-- The end of a check-in: result and time (R280), state; source 430 where the result is not 0x01 (R286). -/
def State.ldsEnd (s : State) (n result state : Nat) : State :=
  let t := s.clockUs
  let s1 := t.2.setEntry n { t.2.entry n with state := state, result := result, tCheckin := t.1 }
  let s2 := s1.modLds n LdsPort.halt
  if result ≠ 1 then s2.edgeAtMeridian 430 else s2

/-- A device leaves a port that Lodestar owns (R285); the entry moves only while the port is OWNED and SV runs (R283, R284). -/
def State.ldsDetach (s : State) (n : Nat) : State :=
  if s.owner n ≠ 4 then s
  else
    let s1 := s.modLds n LdsPort.gone
    if !s.owned n || !s.runs 10 then s1
    else if (s.entry n).busy then s1.ldsEnd n 0x06 7
    else if (s.entry n).state = 4 ∨ (s.entry n).state = 5 ∨ (s.entry n).state = 6 then
      s1.setEntry n { s1.entry n with state := 7 }
    else s1

/-- A new connection on a Lodestar port at a time starts a new entry (R283), where SV runs to write it (R284). -/
def State.ldsConnect (s : State) (n time : Nat) : State :=
  if s.owner n ≠ 4 ∨ !s.owned n ∨ !s.runs 10 then s
  else
    let st := if s.ldsRan then 1 else 9
    let s1 := s.setEntry n { RosterEntry.vacant with state := st, tAttach := time }
    let s2 := s1.modLds n (fun l => { LdsPort.reset with entry := l.entry, seq := s.ldsSeq })
    { s2 with ldsSeq := s.ldsSeq + 1 }

/-- A device connects to a port between two Meridians: its attach time is open within them (R282). -/
def State.ldsAttach (s : State) (n : Nat) : State :=
  if s.owner n ≠ 4 then s
  else
    let t := s.clockUs
    t.2.ldsConnect n t.1

/-- Lodestar's part of a handover's M0 (R260, R285): transfers stop; a check-in in progress ends with result 0x07. -/
def State.ldsRelease (s : State) (n : Nat) : State :=
  if s.owner n ≠ 4 then s
  else
    let s1 := s.modLds n LdsPort.gone
    if s.runs 10 && (s.entry n).busy then
      let t := s1.clockUs
      (t.2.setEntry n { t.2.entry n with result := 0x07, tCheckin := t.1 }).edgeAtMeridian 430
    else s1

/-! ## Service console, VCONN, contract -/

/-- The ports of `n`'s quad show who holds the service wires (R316). -/
def State.setQuadHold (s : State) (n : Nat) (held : Bool) : State :=
  s.forEach (quadPorts (quadOf n)) (fun t m =>
    (t.flag (PRT.ALTMUX.QBUSY m) held).wr (PRT.ALTMUX.QHOLD m) (if held then n % 4 else 0))

/-- The service-console mode ends, the SBU pins isolated first (R312). -/
def State.modeExit (s : State) (n : Nat) : State :=
  if s.on (PRT.ALTMUX.ACTIVE n) then
    ((((s.emit (.sbu n false)).wr (PRT.ALTMUX.ACTIVE n) 0).wr (PRT.PDSTS.ALTMODE n) 0).orBits (PRT.PDSTS.EVT n)
      0x80).setQuadHold n false
  else s

/-- VCONN switched off (R155, R307). -/
def State.vconnOff (s : State) (n : Nat) : State :=
  if s.on (PRT.VCONN.ON n) || s.on (PRT.PDSTS.VCSRC n) then
    ((s.emit (.vconn n false)).wr (PRT.VCONN.ON n) 0).wr (PRT.PDSTS.VCSRC n) 0
  else s

/-- VCONN switched on, on the CC pin that shows Ra (R303). -/
def State.vconnOn (s : State) (n : Nat) : State :=
  (((s.emit (.vconn n true)).wr (PRT.VCONN.ON n) 1).flag (PRT.VCONN.PIN n) (s.rd (PRT.TCSTS.ORIENT n) == 1)).raise
    (PRT.PDSTS.VCSRC n)

/-- Every PD sequence of a port is forgotten; nothing is sent (R155 step 1, R313). -/
def State.pdForget (s : State) (n : Nat) : State :=
  s.modPort n (fun p => { p with accepted := none, transRun := false, capsDue := false, capsCount := 0,
                                 awaitReq := false, ams := [], sinkTx := false, swap := .none, discovering := false,
                                 offer := [], readvDue := false })

/-- A PD contract ends without a message: no object, no explicit contract, target 5 V (R155, R327, R318). -/
def State.endContract (s : State) (n : Nat) : State :=
  let s1 := if s.on (PRT.PDSTS.EXPLICIT n) then s.orBits (PRT.PDSTS.EVT n) 1 else s
  let s2 := (((s1.wr (PRT.PDSTS.OBJPOS n) 0).wr (PRT.PDSTS.EXPLICIT n) 0).wr (PRT.PDSTS.VSEL n) 0).wr
    (PRT.PDSTS.OPCURR n) 0
  (s2.pdForget n).modPort n (fun p => { p with maxCur := 0, target := 0, oldTarget := 0, ramp := false, trim := 64,
                                               trimAtLimit := 0, trimRun := false, inWindow := true })

/-! ## Books (R340, R345) -/

/-- The cabinet and quad totals follow the ports' books (R340). -/
def State.sumBooks (s : State) : State :=
  let k := (allPorts.map (fun n => s.rd (PWR.PBOOK.COMMIT n))).sum
  let c := (allPorts.map (fun n => s.rd (PWR.PBOOK.CONTRACT n))).sum
  let s1 := (s.wr PWR.TOTCOM.COMMIT k).wr PWR.TOTCON.CONTRACT c
  s1.forEach (List.range 12) (fun t q =>
    (t.wr (PWR.QBOOK.COMMIT q) ((quadPorts q).map (fun n => s.rd (PWR.PBOOK.COMMIT n))).sum).wr (PWR.QBOOK.CONTRACT q)
      ((quadPorts q).map (fun n => s.rd (PWR.PBOOK.CONTRACT n))).sum)

/-- The committed power of a port (R340). -/
def State.setK (s : State) (n k : Nat) : State :=
  if s.runs 8 then (s.wr (PWR.PBOOK.COMMIT n) k).sumBooks else s

/-- The contracted power of a port (R340). -/
def State.setC (s : State) (n c : Nat) : State :=
  if s.runs 8 then (s.wr (PWR.PBOOK.CONTRACT n) c).sumBooks else s

/-- The committed power of a port. -/
def State.kOf (s : State) (n : Nat) : Nat := s.rd (PWR.PBOOK.COMMIT n)

/-- ΣK over a quad. -/
def State.kQuad (s : State) (q : Nat) : Nat := ((quadPorts q).map s.kOf).sum

/-- ΣK over the cabinet. -/
def State.kAll (s : State) : Nat := (allPorts.map s.kOf).sum

/-! ## The port die's hold (R15, R47) -/

/-- The link of the port's sector is lost: nothing the core die decides reaches the port die (R15). -/
def State.cutOff (s : State) (n : Nat) : Bool := (s.sec (secOf n)).lost

/-- The port die of the port is in autonomous hold: it runs, and its link is lost (R15). -/
def State.inHold (s : State) (n : Nat) : Bool := s.cutOff n && (s.sec (secOf n)).dieUp

/-- The policy core of a port's sector runs, its link is up and the part is Active (R15, R16). -/
def State.pcUp (s : State) (n : Nat) : Bool := s.active && s.runs (4 + secOf n) && !s.cutOff n

/-- The sector engine that keeps the port's hub state runs, and the part is Active (R16). -/
def State.seUp (s : State) (n : Nat) : Bool := s.active && s.runs (secOf n)

/-! ## Gate and VBUS -/

/-- The FBI output goes to high impedance (R49). -/
def State.fbiHiZ (s : State) (n : Nat) : State :=
  if (s.port n).fbiOn then (s.emit (.fbiHiZ n)).modPort n (fun p => { p with fbiOn := false }) else s

/-- The FBI output is driven at a code (R317). -/
def State.fbiDrive (s : State) (n code : Nat) : State :=
  (s.emit (.fbi n code)).modPort n (fun p => { p with fbiOn := true })

/-- Power-good falls (R329). -/
def State.pgFall (s : State) (n : Nat) : State :=
  if s.on (PRT.FUSSTS.PG n) then
    ((s.wr (PRT.FUSSTS.PG n) 0).raise (PRT.FUSEVT.PGOFF n)).modPort n (fun p => { p with cleanRun := false })
  else s

/-- The gate turns off, fast or with the normal sink current (R155, R327): power-good falls, the limit is inactive, and
nothing is contracted any more (R340). -/
def State.gateOff (s : State) (n : Nat) (fast : Bool) : State :=
  let s1 := if (s.port n).gate then s.emit (.gate n false fast) else s
  let s2 := ((((s1.pgFall n).wr (PRT.FUSSTS.GATEON n) 0).wr (PRT.FUSSTS.LIMIT n) 0).wr (PRT.FUSSTS.FOLD n) 0).setC n 0
  s2.modPort n (fun p => { p with gate := false, qual := false, ask := false, checking := false, trimRun := false })

/-- VBUS is below 0.8 V: the discharge ends and the committed power is released (R345). -/
def State.vbusGone (s : State) (n : Nat) : State :=
  let s1 := if (s.port n).dsch then s.emit (.dsch n false) else s
  (s1.modPort n (fun p => { p with vbus := false, dsch := false })).setK n 0

/-- VBUS is discharged until it is below 0.8 V (R155 step 3); at once where it already is. -/
def State.discharge (s : State) (n : Nat) : State :=
  if (s.port n).vbus then (s.emit (.dsch n true)).modPort n (fun p => { p with dsch := true }) else s.vbusGone n

/-! ## Hub state -/

/-- Whatever the port drives on its wires, a reset's SE0, a resume's K or a test mode, ends (R161, R164). -/
def State.endDrive (s : State) (n : Nat) : State :=
  let st := s.hub n
  if st == 4 || (9 ≤ st && st ≤ 13) || (s.port n).kDriven then s.emit (.endSignal n) else s

/-- A reset whose end has not been published yet leaves no change bit (R164). -/
def State.dropReset (s : State) (n : Nat) : State :=
  if bitAt (s.port n).chg 4 then
    (s.wr (PRT.HUBCHG.C_RESET n) (s.rdPub (PRT.HUBCHG.C_RESET n))).modPort n (fun p => { p with chg := withBit p.chg 4 false })
  else s

/-- The detach row of R161: the connection change is latched, signalling ends, and the port is Disconnected; a reset that has
completed in the same Meridian leaves no C_PORT_RESET (R164). In Disconnected, a device that a bus reset was to show anew is
gone (R145). -/
def State.hubDisconnect (s : State) (n : Nat) : State :=
  let st := s.hub n
  if st == 2 || st == 3 || st == 4 || st == 5 || (8 ≤ st && st ≤ 12) then
    let s1 := ((((s.endDrive n).dropReset n).hubEvt n 0).setHub n HS.disconnected)
    let s2 := ((s1.wr (PRT.HUBSTS.CONNECTION n) 0).wr (PRT.HUBSTS.LOWSPD n) 0).wr (PRT.HUBSTS.HIGHSPD n) 0
    let s3 := ((s2.ttAndAlmanac n true true).relayReset n true).rtDropOwner n
    (s3.modPort n (fun p => { p with chirped := false, waking := false, kDriven := false, sofOn := false,
                                     readdr := [], hubActs := [] })).ldsDetach n
  else if st == 1 && !(s.port n).restart then s.modPort n (fun p => { p with restartDev := false })
  else s

/-- The port goes to Powered-off or Disconnected with every signalling ended and no change bit (R155 step 4, R145); its
routes stay. -/
def State.hubDrop (s : State) (n st : Nat) : State :=
  let s1 := ((((s.endDrive n).setHub n st).wr (PRT.HUBSTS.CONNECTION n) 0).wr (PRT.HUBSTS.LOWSPD n) 0).wr (PRT.HUBSTS.HIGHSPD n) 0
  let s2 := (s1.ttAndAlmanac n true true).relayReset n true
  (s2.modPort n (fun p => { p with chirped := false, waking := false, kDriven := false, sofOn := false,
                                   readdr := [], hubActs := [] })).ldsDetach n

/-- The same where the device is detached with it: the owner's routes to the port end (R225). -/
def State.hubDown (s : State) (n st : Nat) : State := (s.hubDrop n st).rtDropOwner n

/-- Loss of VBUS that the demand did not cause (R157): Disconnected, from a test mode too. -/
def State.vbusLoss (s : State) (n : Nat) : State :=
  if s.hub n = HS.test then s.hubDown n HS.disconnected else s.hubDisconnect n

/-! ## Type-C -/

/-- The Type-C state of a port (R291). -/
def State.tc (s : State) (n : Nat) : Nat := s.rd (PRT.TCSTS.TCSTATE n)

/-- The CC terminations are opened: TCSTATE Open, no orientation, no partner (R155 step 2, R291). -/
def State.ccOpen (s : State) (n : Nat) : State :=
  let s1 := ((((s.emit (.cc n false)).wr (PRT.TCSTS.TCSTATE n) 0).wr (PRT.TCSTS.ORIENT n) 0).wr (PRT.TCSTS.MOISTOK n)
    0).wr (PRT.PDSTS.PWRROLE n) 0
  s1.modPort n (fun p => { p with path := .source, tryWait := false, ra := false, checking := false, rev := 0 })

/-- Wet ends (R159). -/
def State.wetEnd (s : State) (n : Nat) : State :=
  if s.on (PRT.TCSTS.WET n) then
    ((((s.wr (PRT.TCSTS.WET n) 0).wr (PRT.TCSTS.WETPIN n) 0).wr (PRT.TCSTS.WETGND n) 0).wr (PRT.TCSTS.WETVBUS n)
      0).raise (PRT.TCEVT.WETOUT n)
  else s

/-- The Rp advertised before a contract (R301, R344): RPDEF, lowered to the highest current whose 5 V power is within
PMAX, and to the default while the port is shed. -/
def State.rpChoice (s : State) (n : Nat) : Nat :=
  let pmax := s.rd (PWR.PCFG.PMAX n)
  let d := if s.restricted then 1 else s.rd (PRT.TCCTL.RPDEF n)
  if s.rd (PWR.PALLOW.SHED n) ≠ 0 then 0
  else if d ≥ 2 ∧ pmax ≥ 1500 then 2
  else if d ≥ 1 ∧ pmax ≥ 750 then 1
  else 0

/-- Rp current of a code, in 10 mA units. -/
def rpCurrent (rp : Nat) : Nat := if rp = 0 then 50 else if rp = 1 then 150 else 300

/-- The CC terminations are switched on and the port waits for a partner (R156, R291). -/
def State.ccOn (s : State) (n : Nat) : State :=
  (((s.emit (.cc n true)).wr (PRT.TCSTS.TCSTATE n) 1).wr (PRT.TCSTS.RPADV n) (s.rpChoice n)).modPort n
    (fun p => { p with presRd := false })

/-- A shed mark is cleared (R349). -/
def State.clearMark (s : State) (n : Nat) : State := s.wr (PWR.PALLOW.SHED n) 0

/-- A waiting vSafe5V request is given up. -/
def State.unwait (s : State) (n : Nat) : State :=
  (s.wr (PWR.PALLOW.WAIT n) 0).modPort n (fun p => { p with ask := false })

/-- A PD hard reset in progress is abandoned (R335); a handover that waited for its end goes on (R264). -/
def PortX.hrStop (p : PortX) : PortX :=
  if p.hr == .none then p else { p with hr := .none, hoEnded := p.hoEnded || (p.hoHold && !p.restart) }

/-- Steps 1 and 2 of R155: the contract ends, VCONN off, gate off, CC open, SBU isolated. -/
def State.dropPower (s : State) (n : Nat) : State :=
  ((((((s.modeExit n).endContract n).vconnOff n).gateOff n false).ccOpen n).wetEnd n).unwait n
    |>.modPort n (fun p => { p.hrStop with ocOff := false })

/-- The demand of a port falls (R155): contract ended, gate off, CC open, VBUS discharged, TT and relay slots reset,
Powered-off. A partner, if any, is detached with it. -/
def State.demandFall (s : State) (n : Nat) : State :=
  let s1 := ((s.dropPower n).clearMark n).discharge n
  ((s1.hubDown n HS.off).wr (PRT.HUBSTS.POWER n) 0).modPort n (fun p => { p with demand := false })

/-- The demand of a port rises (R156); with the link lost the CC terminations follow its restoration (R15, R47). -/
def State.demandRise (s : State) (n : Nat) : State :=
  let s1 := s.setHub n HS.disconnected
  ((if s.cutOff n then s1 else s1.ccOn n).raise (PRT.HUBSTS.POWER n)).modPort n (fun p => { p with demand := true })

/-- Whether a port is power-demanded by R154, with a PRT fault action counted as out of service (R378). -/
def State.demandOf (s : State) (n : Nat) : Bool :=
  (s.port n).armed && s.boot.ownInForce && !s.on (PRT.CTL.OOS n) && !(s.flt (.prt n)).action &&
    (if s.owner n < 4 then
      (if s.on (UPS.CTL.PWRMODE (s.owner n)) then true else (s.view (s.owner n) n).pwr)
     else true)

/-- TCSTS.OOS follows CTL.OOS, and a PRT fault action that acts as it does (R166, R378); entry is an event (R169). -/
def State.oosShow (s : State) (n : Nat) : State :=
  let held := s.on (PRT.CTL.OOS n) || (s.flt (.prt n)).action
  if held && !s.on (PRT.TCSTS.OOS n) then (s.raise (PRT.TCSTS.OOS n)).raise (PRT.TCEVT.OOS n)
  else s.flag (PRT.TCSTS.OOS n) held

/-- The demand follows R154: not while the port is in handover or a restart holds CC open (R154, R165); in autonomous
hold VBUS is kept and a fall waits for the link (R15). -/
def State.evalDemand (s0 : State) (n : Nat) : State :=
  let s := s0.oosShow n
  if !s.owned n || (s.port n).restart || s.safe || !s.active then s
  else if s.demandOf n && !(s.port n).demand then s.demandRise n
  else if !s.demandOf n && (s.port n).demand then (if s.inHold n then s else s.demandFall n)
  else s

/-- The detach of a partner in Attached.SRC or while it waits for VBUS (R293): R155 steps 1, 3 and 4 with the CC
terminations kept on, hub state Disconnected. The retry wait goes on (R333), the shed mark is cleared (R349). -/
def State.detach (s : State) (n : Nat) : State :=
  let s1 := (((((s.modeExit n).endContract n).vconnOff n).gateOff n false).wetEnd n).unwait n
  let s2 := ((s1.clearMark n).discharge n).vbusLoss n
  let s3 := (((((s2.wr (PRT.TCSTS.TCSTATE n) 1).wr (PRT.TCSTS.ORIENT n) 0).wr (PRT.TCSTS.MOISTOK n) 0).wr
    (PRT.PDSTS.PWRROLE n) 0).wr (PRT.PDSTS.REV n) 0).raise (PRT.TCEVT.DETACH n)
  (s3.wr (PRT.PDSTS.CABLE n) 0).modPort n (fun p => { p.hrStop with hrCount := 0, ocOff := false, rev := 0,
                                                                    ra := false, tryWait := false })
    |>.wr (PRT.TCSTS.RPADV n) (s3.rpChoice n)

/-- Type-C error recovery (R291): steps 1 and 2 of R155, CC open, TCSTATE 9; the loss of VBUS disconnects the hub port
(R157). In autonomous hold it waits for the link (R15). -/
def State.errorRecovery (s : State) (n : Nat) : State :=
  if s.inHold n then s.modPort n (fun p => { p with errDue := true })
  else if 1 ≤ s.tc n ∧ s.tc n ≤ 8 then
    let s1 := (((s.dropPower n).vbusLoss n).clearMark n).discharge n
    ((s1.wr (PRT.TCSTS.TCSTATE n) 9).raise (PRT.TCEVT.ERRREC n)).modPort n (fun p => { p with hrCount := 0 })
  else s

/-- The port may be energised (R15, R16, R18, R76, R332, R333, R348, R378): demanded, no wait, latch, thermal hold, hard
reset, self-test or fault hold, not marked off, its link up, its die not hot, its policy core running, and with a trip in
the budget PE1 running. -/
def State.mayPower (s : State) (n : Nat) : Bool :=
  let p := s.port n
  s.pcUp n && !s.safe && p.demand && !p.waitRun && !p.waitDue && !p.thermHold && p.hr == .none &&
    p.selfTest == .none && !p.latched && !s.on (PRT.FUSSTS.SENSE n) &&
    s.rd (PWR.PALLOW.SHED n) != 2 && !p.restart && !(s.quad (quadOf n)).actionMark &&
    (s.runs 9 || s.rd (PRT.FUSSTS.TRIPS n) == 0) && !(s.sec (secOf n)).hot

/-- VBUS may be applied again to the partner of a port in TCSTATE 3 (R158): it may be energised, and its VBUS has been
discharged. -/
def State.mayApply (s : State) (n : Nat) : Bool := s.mayPower n && !(s.port n).gate && !(s.port n).vbus

/-- The way back to vSafe5V of a port that holds a partner in TCSTATE 3 (R158, R160, R23): the moisture check runs, or
with MOISTBYP is skipped and the budget is asked for. -/
def State.tryApply (s : State) (n : Nat) : State :=
  if s.tc n = 3 ∧ s.mayApply n ∧ !(s.port n).checking ∧ !(s.port n).ask then
    if s.on (PRT.TCCTL.MOISTBYP n) then
      ((s.wr (PRT.TCSTS.LEAKMIN n) 0xFF).wr (PRT.TCSTS.MOISTOK n) 0).modPort n (fun p => { p with ask := true })
    else s.modPort n (fun p => { p with checking := true })
  else s

/-- Loss of VBUS that keeps the attach (R327 steps 1 to 3, R348): fast gate off, VCONN off, SBU isolated, contract
ended, discharge; TCSTATE 3; hub state Disconnected (R157). -/
def State.powerCut (s : State) (n : Nat) : State :=
  let s1 := (((((s.gateOff n true).vconnOff n).modeExit n).endContract n).unwait n)
  let s2 := (s1.discharge n).vbusLoss n
  let s3 := ((s2.wr (PRT.FUSSTS.FTFILL n) 0).modPort n PortX.hrStop).wr (PRT.TCSTS.RPADV n) (s2.rpChoice n)
  if s3.tc n = 6 then s3.wr (PRT.TCSTS.TCSTATE n) 3 else s3

end Sys2Proof.Machine
end

