-- ==== Sys2Proof/Machine/FaultOps.lean ====
section
/-! DEFINITION. Bus-reset actions of a personality (R145), restarts of a port and a sector (R96, R165), the device safe
state (R379), and recording a fault with its reaction and action (R375 to R381). -/

namespace Sys2Proof.Machine

/-! ## Personalities -/

/-- The view that R145 gives a partition port: Powered-off in individual mode, Disconnected in mode none. DESIGN CHOICE (log
entry 96): the PORT_POWER bit that mode none stores here, 1, is still the view's bit if CTL.PWRMODE becomes individual later;
the spec does not say what the bit is then. -/
def State.resetView (s : State) (u n : Nat) : State :=
  s.setView u n { View.zero with pwr := s.on (UPS.CTL.PWRMODE u), pwrSeen := s.on (UPS.CTL.PWRMODE u) }

/-- What R145 does to a port the personality owns: in individual mode the demand falls; in mode none VBUS stays, the
port goes to Disconnected, and a device still there is shown anew from the next Meridian. -/
def State.resetOwnedPort (s : State) (u n : Nat) : State :=
  let s1 := if s.hub n = HS.resetting then (s.emit (.endSignal n)).setHub n HS.disabled else s
  let s2 := s1.dropStale (fun p => p.inp ≥ 48 && p.out == n && p.copied)
  if s2.on (UPS.CTL.PWRMODE u) then
    if s2.hub n = HS.off then s2.modPort n (fun p => { p with hubActs := [] })
    else
      let had := s2.on (PRT.HUBSTS.CONNECTION n)
      let low := s2.rd (PRT.HUBSTS.LOWSPD n)
      ((s2.hubDrop n HS.disconnected).wr (PRT.HUBSTS.LOWSPD n) low).modPort n (fun p => { p with restartDev := had })
  else s2.evalDemand n

/-- The starred effects of R145: views, owned ports, TT and relay slots. -/
def State.portResets (s : State) (u : Nat) : State :=
  let s1 := s.forEach (s.partition u) (fun t n => t.resetView u n)
  let s2 := s1.forEach (s1.ownedPorts u) (fun t n => t.resetOwnedPort u n)
  s2.modUp u (fun x => { x with showAfter := true, sentPorts := [], xfers := [] })

/-- The mailbox of personality `u` loses its capture and the bulk buffer (R126). -/
def State.mbxRelease (s : State) (m : Nat) : State :=
  let s1 := if s.on (MBX.CTRL.BUSY m) then (s.wr (MBX.CTRL.BUSY m) 0).modMb m (fun _ => MbxX.reset) else s
  if s1.on MBX.BULK.HELD && s1.rd MBX.BULK.HOLDER == m then
    ((s1.wr MBX.BULK.HELD 0).wr MBX.BULK.HOLDER 0).wr (MBX.CTRL.VALID m) 0
  else s1

/-- A vendor write being staged is discarded (R144). -/
def State.ctlAbort (s : State) (u : Nat) : State :=
  let s1 := match (s.up u).ctl with
    | .vendorWrite _ _ => ((s.raise (UPS.EVT.CTLABORT u)).bump (UPS.CNT0.ABORTCNT u)).wr (UPS.STS.STAGED u) 0
    | _ => s
  s1.modUp u (fun x => { x with ctl := .none })

/-- An update session owned by requester code `r` ends as ABORT (R99, R144); BUSY stays while fuses are blown (R101). -/
def State.updAbort (s : State) (r : Nat) : State :=
  if s.rd BOOT.UPDSTS.SESSION ≠ 0 ∧ s.rd BOOT.UPDSTS.OWNER = r then
    { (((s.wr BOOT.UPDSTS.SESSION 0).wr BOOT.UPDSTS.OWNER 7).flag BOOT.UPDSTS.BUSY s.fuseGoal.isSome) with upd := none }
  else s

/-- The bus-reset actions of a personality (R145), with what R126, R99 and R144 add. -/
def State.busResetActions (s : State) (u : Nat) : State :=
  let s1 := ((s.ctlAbort u).mbxRelease u).updAbort u
  let s2 := ((s1.portResets u).rtClear u).dropStale (fun p => p.side == u)
  s2.modUp u (fun x => { x with wakers := [], kStarted := false, hostResume := false, resumeSeen := false })

/-- The personality goes Detached (R138): bus-reset actions, pull-up off. -/
def State.detachPers (s : State) (u : Nat) : State :=
  if s.rd (UPS.STS.DEVSTATE u) = 0 then s
  else
    let s1 := (s.busResetActions u).emit (.pullup u false)
    (((((((s1.wr (UPS.STS.DEVSTATE u) 0).wr (UPS.STS.PULLUP u) 0).wr (UPS.STS.HS u) 0).wr (UPS.STS.SUSP u) 0).wr
      (UPS.STS.ADDR u) 0).wr (UPS.STS.ALTSET u) 0).wr (UPS.STS.RWAKEEN u) 0).modUp u
        (fun x => { x with testSel := 0 })

/-- The personality attaches where it is enabled, has VBUS and is not held off (R138): from step 0x0C onwards, and in
restricted mode U0 alone (R93). -/
def State.attachPers (s : State) (u : Nat) : State :=
  if s.active && !s.safe && s.on (UPS.CTL.EN u) && s.on (UPS.STS.VBUS u) && s.rd (UPS.STS.DEVSTATE u) == 0 &&
      !(s.up u).blocked && (s.boot.step == 0 || decide (0x0C ≤ s.boot.step)) && (u == 0 || !s.restricted) then
    ((s.emit (.pullup u true)).wr (UPS.STS.DEVSTATE u) 1).raise (UPS.STS.PULLUP u)
  else s

/-! ## Restarts -/

/-- The fields of PRT[n] that a restart returns to image values (R96, R165): all but OWNER, the fault words, and the
retry budget of R333. -/
def portImageFields (n : Nat) : List Field :=
  ([0x0, 0x4, 0x8, 0x10, 0x14, 0x18, 0x1C, 0x20, 0x24, 0x28, 0x2C, 0x30, 0x40, 0x48, 0x4C, 0x50, 0x54, 0x60, 0x64,
    0x80, 0x84, 0x88, 0x8C, 0x90, 0x94, 0x98, 0x9C, 0xA0, 0xA4, 0xA8, 0xAC, 0xB0, 0xB4, 0xB8, 0xBC, 0xC0, 0xC4, 0xC8,
    0xCC].flatMap (PRT.fields n)) ++ [PRT.FUSSTS.PG n, PRT.FUSSTS.LIMIT n, PRT.FUSSTS.FOLD n, PRT.FUSSTS.GATEON n,
    PRT.FUSSTS.FTFILL n]

/-- A retry wait, a self-test or a latched-off state goes on: PORT_OVER_CURRENT stays 1 with it (R157, R333). -/
def PortX.tripped (p : PortX) : Bool := p.waitRun || p.waitDue || p.latched || p.selfTest != .none

/-- PRT[n] to image values; the copies of its voted fields agree again. PORT_OVER_CURRENT stays with the retry wait and the
latch (R157). -/
def State.portToImage (s : State) (n : Nat) : State :=
  ((portImageFields n).foldl (fun t f => { t.toImage f with copies := KMap.erase t.copies f.key }) s).flag
    (PRT.HUBSTS.OVERCUR n) (s.on (PRT.HUBSTS.OVERCUR n) && (s.port n).tripped)

/-- The actions of M1 (R260): the losing owner's packets are discarded (R227), OWN shows 7, and a losing Lodestar's entry is
RELEASED (R285), by SV's return where SV does not run (R284). -/
def State.toTransit (s : State) (n : Nat) : State :=
  let s1 := s.dropStale (fun p => p.port == n)
  let s2 := if s.owner n ≠ 4 then s1
    else if s.runs 10 then s1.setEntry n { s1.entry n with state := 8 }
    else s1.modLds n (fun l => { l with relDue := true })
  (s2.wrVoted (PRT.OWNER.STATE n) 2).wrVoted (PRT.OWNER.OWN n) 7

/-- A restart of a port begins while it is in handover (R264): RELEASING goes to TRANSIT at once, with the actions of M1. -/
def State.handoverRestart (s : State) (n : Nat) : State :=
  if s.owned n then s
  else
    let s1 := if s.rd (PRT.OWNER.STATE n) = 1 then
        s.toTransit n
      else s
    s1.modPort n (fun p => { p with hoHold := true, hoEnded := false })

/-- A restart or hard reset that fell during a handover has ended (R264): CLAIMING follows at the next Meridian. -/
def State.handoverRelease (s : State) (n : Nat) : State :=
  if (s.port n).hoHold then s.modPort n (fun p => { p with hoEnded := true }) else s

/-- The ingress queue of a port is reset with its packets (R243). -/
def State.queueReset (s : State) (k : Nat) : State :=
  let s1 := s.dropStale (fun p => p.inp == k)
  let s2 := (s1.sw.packets.filter (fun p => p.inp == k)).foldl (fun t p => t.dropPkt p.id) s1
  (s2.wr (PKM.IQPTR.WPTR k) 0).wr (PKM.IQPTR.RPTR k) 0

/-- The change bits of the hub state that have not been published yet are dropped: a port restart discards the events that
fall with it (R164). -/
def State.dropChanges (s : State) (n : Nat) : State :=
  let s1 := s.wr (PRT.HUBCHG.C_CONNECTION n) (s.rdPub (PRT.HUBCHG.C_CONNECTION n))
  let s2 := s1.wr (PRT.HUBCHG.C_ENABLE n) (s.rdPub (PRT.HUBCHG.C_ENABLE n))
  let s3 := s2.wr (PRT.HUBCHG.C_SUSPEND n) (s.rdPub (PRT.HUBCHG.C_SUSPEND n))
  let s4 := s3.wr (PRT.HUBCHG.C_OVERCUR n) (s.rdPub (PRT.HUBCHG.C_OVERCUR n))
  (s4.wr (PRT.HUBCHG.C_RESET n) (s.rdPub (PRT.HUBCHG.C_RESET n))).modPort n (fun p => { p with chg := 0 })

/-- A port restart begins (R165): the actions of R155, CC open, Almanac and held slots cleared before PRT[n] returns to
image values, and the handover rule of R264. -/
def State.portRestart (s0 : State) (n : Nat) : State :=
  let s := s0.dropChanges n
  let had := s.on (PRT.HUBSTS.CONNECTION n) || ((s.port n).restart && (s.port n).restartDev)
  let s1 := if (s.port n).demand then s.demandFall n else (s.dropPower n).discharge n
  let s2 := ((s1.ttAndAlmanac n false true).queueReset n).handoverRestart n
  (s2.setHub n HS.off).modPort n (fun p => { p with restart := true, restartDev := had, demand := false,
                                                    indSel := 0, readdr := [], hubActs := [] })

/-- An engine stops running (R16): its target is reset (R370), and a sector or policy engine shows in SEC[s] (R411). -/
def State.engineStop (s : State) (e : Nat) : State :=
  if s.stopped.contains e then s
  else
    let s1 := { s.targetReset e with stopped := e :: s.stopped }
    if e < 4 then (s1.wr (SEC.STS.SERUN e) 0).orBits (SEC.EVT.EVENTS e) 128
    else if e < 8 then (s1.wr (SEC.STS.PCRUN (e - 4)) 0).orBits (SEC.EVT.EVENTS (e - 4)) 128
    else s1

/-- An engine runs. -/
def State.engineRun (s : State) (e : Nat) : State :=
  let s1 := { s with stopped := s.stopped.filter (· != e) }
  if e < 4 then s1.raise (SEC.STS.SERUN e) else if e < 8 then s1.raise (SEC.STS.PCRUN (e - 4)) else s1

/-- The boot steps of a sector restart begin (R96): its ports off with CC open, SEC, QD and PRT to image values but
OWNER and fault words, its engines stopped and their targets reset, its link down. -/
def State.sectorRestart (s : State) (i : Nat) : State :=
  let s1 := s.forEach (secPorts i) (fun t n =>
    let t1 := if (t.port n).demand then t.demandFall n else (t.dropPower n).discharge n
    let t2 := (((t1.ttAndAlmanac n true false).queueReset n).handoverRestart n).portToImage n
    (t2.setHub n HS.off).modPort n (fun p => { p with restart := false, restartDev := false, demand := false,
                                                      armed := false, indSel := 0, readdr := [], stored := [], hubActs := [] }))
  let s2 := s1.forEach [3 * i, 3 * i + 1, 3 * i + 2] (fun t q =>
    ([0x0, 0x4, 0x8, 0xC, 0x10, 0x14, 0x18, 0x1C, 0x20, 0x24].flatMap (QD.fields q)).foldl (fun a f => a.toImage f) t)
  let present := s2.rd (SEC.STS.PRESENT i)
  let vconn := s2.rd (SEC.STS.VCONNOK i)
  let s3 := ([0x0, 0x4, 0x8, 0xC, 0x10].flatMap (SEC.fields i)).foldl (fun a f => a.toImage f) s2
  let s4 := ((s3.wr (SEC.STS.PRESENT i) present).wr (SEC.STS.VCONNOK i) vconn).modSec i (fun x =>
    { x with restarting := true, lost := false, late := false })
  (s4.engineStop i).engineStop (4 + i)

/-! ## Faults -/

/-- Global fault source of a block's kind (R357). -/
def FBlk.source : FBlk → Nat
  | .prt _ => 416
  | .qd _ => 417
  | .sec _ => 418
  | .ups _ => 419
  | .pkm => 420
  | .swx => 421
  | .pwr => 422
  | .icu => 423
  | .nw => 423
  | .sys => 423

/-- Code of a device block in the argument of event 0x29 (R379). -/
def FBlk.safeCode : FBlk → Nat
  | .sys => 0
  | .nw => 1
  | .icu => 2
  | .pkm => 3
  | .swx => 4
  | _ => 5

/-- The action of a block is covered by its sector's action or by the safe state (R385). -/
def State.covered (s : State) (b : FBlk) : Bool :=
  s.safe || (match b with
    | .prt n => (s.flt (.sec (secOf n))).action
    | _ => false)

/-- A recovery is counted (R380, R381). -/
def State.countRecovery (s : State) (b : FBlk) : State :=
  (s.bump (FLT.RECOV.COUNT b)).wr (FLT.RECOV.WINDOW b) (min 3 (s.rd (FLT.RECOV.WINDOW b) + 1))

/-- The 32 bytes of a journal record (R90). -/
def JRec.bytes (r : JRec) : List Byte :=
  let body := leBytes 4 r.seq ++ leBytes 4 r.bootno ++ leBytes 1 r.code ++ leBytes 1 r.inst ++ leBytes 1 r.outcome ++
    leBytes 1 r.slot ++ leBytes 1 r.arg ++ leBytes 1 r.reason ++ leBytes 2 0 ++ leBytes 6 r.time ++ leBytes 6 0
  body ++ leBytes 4 (crc32 body)

/-- A record goes to the flash ring (R91): the first record of a 4 KiB sector erases it. -/
def State.ringWrite (s : State) (r : JRec) : State :=
  let p := s.boot.jPos
  let s1 := if p % 128 = 0 then s.flashErase (0x10000 + 32 * p) 4096 else s
  let s2 := s1.flashProgram (0x10000 + 32 * p) r.bytes
  { s2 with boot := { s2.boot with jPos := (p + 1) % 2048, jFlash := r.seq } }

/-- The records in retention that the ring does not hold yet go there in JSEQ order (R91), once the flash answers. -/
def State.ringFlush (s : State) : State :=
  if s.boot.nvm then
    (s.retain.journal.reverse.filter (fun r => decide (s.boot.jFlash < r.seq))).foldl (fun t r => t.ringWrite r) s
  else s

/-- A journal record is written into retention and then to the flash ring (R91): the 256 newest are kept in retention. The
model keeps the time since boot start to a Meridian; the rest of TIME is open. -/
def State.journal (s0 : State) (code inst outcome slot reason arg : Nat) : State :=
  let t := s0.clockUs
  let s := t.2
  let r : JRec := ⟨(s.retain.jseq + 1) % 2 ^ 32, s.retain.bootNo, code, inst, outcome + (if s.boot.abbrev_ then 128 else 0),
    slot, reason, arg, t.1 % 2 ^ 48⟩
  let s1 := { s with retain := { s.retain with journal := (r :: s.retain.journal).take 256, jseq := r.seq } }
  (s1.wr BOOT.JSEQ.JSEQ r.seq).ringFlush

/-- The device safe state (R379): every port takes the actions of R49, every pull-up off, every engine but the Warden
halts, other blocks' timers stop (R385), and event 0x29 is journaled. -/
def State.safeState (s : State) (b : FBlk) (k : Nat) : State :=
  let s1 := s.forEach allPorts (fun t n => (if (t.port n).demand then t.demandFall n else t).fbiHiZ n)
  let s2 := s1.forEach (List.range 4) (fun t u => t.detachPers u)
  let s3 := FBlk.all.foldl (fun t c =>
    if c ≠ b ∧ (t.rd (FLT.FLTTIMERS.STATE c) = 1 ∨ t.rd (FLT.FLTTIMERS.STATE c) = 2) then t.wr (FLT.FLTTIMERS.STATE c) 0
    else t) s2
  ({ s3.forEach (List.range 11) (fun t e => t.engineStop e) with safe := true }).journal 0x29 0xFF 0 0xFF 0
    (16 * b.safeCode + k)

/-- FAULT_N driven low for an action of a severity (R384). -/
def State.faultPin (s : State) (sev : Nat) : State :=
  if sev ≥ s.rd SYS.FAULTPIN.MINSEV then
    { (((s.raise SYS.FAULTPIN.FORCE).raise SYS.FAULTPIN.PIN).emit (.faultN true)) with faultWidth := true }
  else s

/-- A port is marked off (R348): steps 1 to 3 of R327 with no self-test and no charge. -/
def State.markOff (s : State) (n : Nat) : State :=
  (s.powerCut n).wr (PWR.PALLOW.SHED n) 2

/-- PE0 marks a port off (R348); in autonomous hold its gate keeps its state until the link is back (R15). -/
def State.peMarkOff (s : State) (n : Nat) : State :=
  if s.inHold n then s.wr (PWR.PALLOW.SHED n) 2 else s.markOff n

/-- What a block's action does (R378). -/
def State.actionEffect (s : State) (b : FBlk) (k : Nat) : State :=
  match b with
  | .prt n => s.evalDemand n
  | .qd q => (s.modQuad q (fun x => { x with actionMark := true })).forEach (quadPorts q) (fun t n => t.markOff n)
  | .sec i =>
    (s.forEach (secPorts i) (fun t n =>
      if t.rd (FLT.FLTTIMERS.STATE (.prt n)) = 1 then t.wr (FLT.FLTTIMERS.STATE (.prt n)) 0 else t)).sectorRestart i
  | .ups u => (s.modUp u (fun x => { x with blocked := true })).detachPers u
  | .icu => (s.forEach ((List.range 13).filter (fun t => s.on (ICU.TSTAT.ORDERR t))) (fun a t => a.targetReset t)
      |>.countRecovery .icu)
  | _ => s.safeState b k

/-- A block's action is taken (R378): not again while in force. It latches where WINDOW already shows 3 (R381), or for
PRT source 1 (R380); otherwise the quiet period starts. The ICU's action is itself the restore. -/
def State.takeAction (s : State) (b : FBlk) (k sev : Nat) : State :=
  if (s.flt b).action then s
  else if b = .icu then
    (((s.wr (FLT.FLTTIMERS.STATE b) 0).modFlt b (fun x => { x with major := 0 })).faultPin sev).actionEffect b k
  else
    let latch := s.rd (FLT.RECOV.WINDOW b) ≥ 3 || (match b with
      | .prt _ => k == 1
      | _ => false)
    let s1 := s.modFlt b (fun x => { x with action := true, major := 0 })
    let s2 := if latch then
        let t := (s1.wr (FLT.FLTTIMERS.STATE b) 4).raise (FLT.RECOV.LATCHED b)
        (match b with
         | .prt _ => if k = 1 then t.raise (FLT.RECOV.LASTING b) else t
         | _ => t)
      else s1.wr (FLT.FLTTIMERS.STATE b) 2
    (s2.faultPin sev).actionEffect b k

/-- The record of a fault source (R375): FLTSTS, FLTFIRST, the interrupt of the block's kind. -/
def State.recordOnly (s : State) (b : FBlk) (k : Nat) : State :=
  let sev := s.rd (FLT.FLTSEV.SEV b k)
  let s1 := s.orBits (FLT.FLTSTS.SRC b) (2 ^ k)
  let s2 := if s1.on (FLT.FLTFIRST.VALID b) then s1
    else (((s1.wr (FLT.FLTFIRST.SRC b) k).wr (FLT.FLTFIRST.SEV b) sev).raise (FLT.FLTFIRST.VALID b)).wr
      (FLT.FLTFIRST.MER b) (s1.rd SYS.MERIDIAN.COUNT)
  let s3 := if sev ≥ 1 then s2.bump (FLT.RECOV.EVCNT b) else s2
  s3.edge b.source

/-- A fault source's condition arises (R375): recorded, then the reaction of its severity: minor and information only
recorded; major starts the grace timer; critical takes the action at once. -/
def State.record (s : State) (b : FBlk) (k : Nat) : State :=
  let sev := s.rd (FLT.FLTSEV.SEV b k)
  let s1 := s.recordOnly b k
  if s1.covered b then s1
  else if sev = 3 then s1.takeAction b k sev
  else if sev = 2 ∧ !(s1.flt b).action then
    let s2 := s1.modFlt b (fun x => { x with major := withBit x.major k true })
    if s2.rd (FLT.FLTTIMERS.STATE b) = 0 then s2.wr (FLT.FLTTIMERS.STATE b) 1 else s2
  else s1

/-- A condition that lasts begins: it is recorded, and recorded again after a read while it lasts (R376). -/
def State.condBegin (s : State) (b : FBlk) (k : Nat) : State :=
  (s.modFlt b (fun x => { x with present := withBit x.present k true })).record b k

/-- A condition that lasts ends. -/
def State.condEnd (s : State) (b : FBlk) (k : Nat) : State :=
  s.modFlt b (fun x => { x with present := withBit x.present k false })

/-- The conditions of a block still present are recorded again (R376, R380, R385), the highest severity first. -/
def State.recordPresent (s : State) (b : FBlk) : State :=
  let ks := (List.range 16).filter (fun k => bitAt (s.flt b).present k)
  let byP := ([3, 2, 1, 0].map (fun v => ks.filter (fun k => s.rd (FLT.FLTSEV.SEV b k) == v))).flatten
  s.forEach byP (fun t k => t.record b k)

end Sys2Proof.Machine
end

