-- ==== Sys2Proof/Machine/TypeC.lean ====
section
/-! DEFINITION. Type-C on downstream ports (R289 to R295) and the moisture and residue check (R158 to R160). -/

namespace Sys2Proof.Machine

/-- The attach is reported to the policy core and the check starts (R291 row 2, R158). -/
def State.attachSource (s : State) (n : Nat) (cc2 ra : Bool) : State :=
  let s1 := (((s.wr (PRT.TCSTS.TCSTATE n) 3).wr (PRT.TCSTS.ORIENT n) (if cc2 then 2 else 1)).wr (PRT.TCSTS.MOISTOK n)
    0).raise (PRT.TCEVT.ATTACH n)
  (s1.modPort n (fun p => { p with path := .source, ra := ra, presRd := false, tryWait := false })).tryApply n

/-! ## The upstream receptacles (R289, R290, R294) -/

/-- The receptacle is a DRP with Try.SNK (R289). -/
def State.upDrp (s : State) (u : Nat) : Bool := s.on (UPS.TCCTL.ROLE u)

/-- Unattached on an upstream receptacle. -/
def State.upUnattached (s : State) (u : Nat) : State :=
  ((((s.wr (UPS.TCSTS.TCSTATE u) 1).wr (UPS.TCSTS.ORIENT u) 0).wr (UPS.TCSTS.RPSEEN u) 0).wr (UPS.TCSTS.NOSRC u) 0).modUp
    u (fun x => { x with tryWait := false, presRp := false, debounced := false })

/-- Attached.SNK on an upstream receptacle. -/
def State.upSink (s : State) (u : Nat) : State :=
  (s.wr (UPS.TCSTS.TCSTATE u) 7).modUp u (fun x => { x with tryWait := false, presRp := false, debounced := false })

/-- A termination is seen on an upstream receptacle in Unattached: a source's Rp while Rd is presented, a sink's Rd while a
DRP presents Rp. -/
def State.upSeen (s : State) (u : Nat) (sight : Sys2Proof.CcSight) : State :=
  if !s.active ∨ 1 < s.rd (UPS.TCSTS.TCSTATE u) then s
  else
    match sight with
    | .rp cc2 cur =>
      if (s.up u).presRp then s
      else (((s.wr (UPS.TCSTS.TCSTATE u) 2).wr (UPS.TCSTS.ORIENT u) (if cc2 then 2 else 1)).wr (UPS.TCSTS.RPSEEN u)
        (cur + 1)).modUp u (fun x => { x with path := .sink, debounced := false })
    | .rd cc2 _ =>
      if s.upDrp u && (s.up u).presRp then
        ((s.wr (UPS.TCSTS.TCSTATE u) 2).wr (UPS.TCSTS.ORIENT u) (if cc2 then 2 else 1)).modUp u
          (fun x => { x with path := .source })
      else s
    | .accessory => s

/-- tCCDebounce ends on an upstream receptacle: Attached.SNK with Uu_VBUS present; a DRP that saw Rd tries to be sink. -/
def State.upDebounced (s : State) (u : Nat) : State :=
  if s.rd (UPS.TCSTS.TCSTATE u) ≠ 2 then s
  else if (s.up u).path = .source then
    (s.wr (UPS.TCSTS.TCSTATE u) 5).modUp u (fun x => { x with presRp := false, tryWait := false })
  else if s.on (UPS.STS.VBUS u) then s.upSink u
  else s.modUp u (fun x => { x with debounced := true })

/-- tTryCCDebounce ends: Rp in Try.SNK makes it the sink, and RPSEEN shows its current; Rd in TryWait.SRC makes it the
source of a sink-only partner, which gets no VBUS. -/
def State.upTryDebounced (s : State) (u : Nat) (cc2 : Bool) (cur : Nat) : State :=
  if s.rd (UPS.TCSTS.TCSTATE u) ≠ 5 then s
  else
    let s1 := s.wr (UPS.TCSTS.ORIENT u) (if cc2 then 2 else 1)
    if (s.up u).tryWait then (s1.wr (UPS.TCSTS.TCSTATE u) 6).raise (UPS.TCSTS.NOSRC u)
    else
      let s2 := s1.wr (UPS.TCSTS.RPSEEN u) (cur + 1)
      if s.on (UPS.STS.VBUS u) then s2.upSink u else s2

/-- ROLE becomes sink only (R289): a receptacle that presents Rp, or has tried to be source or sink of a sink-only partner,
presents Rd and is Unattached. -/
def State.upRoleEffect (s : State) (u : Nat) : State :=
  if s.upDrp u then s
  else
    let t := s.rd (UPS.TCSTS.TCSTATE u)
    if t = 5 ∨ t = 6 ∨ (t = 2 ∧ (s.up u).path = .source) then s.upUnattached u
    else s.modUp u (fun x => { x with presRp := false })

/-- DSROLE becomes source only (R289, R291): a port that presents Rd presents Rp instead and is Unattached, from
Attached.SNK with the sink contract ended (R292). -/
def State.dsroleEffect (s : State) (n : Nat) : State :=
  let p := s.port n
  let t := s.tc n
  let back := fun (a : State) => ((a.wr (PRT.TCSTS.TCSTATE n) 1).wr (PRT.TCSTS.ORIENT n) 0).modPort n
    (fun x => { x with presRd := false, tryWait := false, path := .source })
  if s.rd (PRT.TCCTL.DSROLE n) = 0 then s
  else if t = 7 then back ((s.pdForget n).wr (PRT.PDSTS.PWRROLE n) 0)
  else if (t = 2 ∧ p.path = .sink) ∨ (t = 5 ∧ p.tryWait) then back s
  else if t = 1 then s.modPort n (fun x => { x with presRd := false })
  else s

/-! ## The rows -/

/-- CC_ATTACH_SEEN (R291, R294): a termination is seen in Unattached and tCCDebounce starts; 48 + u is receptacle Uu. -/
def execCcAttachSeen (n : Fin 52) (sight : Sys2Proof.CcSight) (s : State) : Res :=
  let p := s.port n
  if 48 ≤ n.val then done (s.fresh.upSeen (n.val - 48) sight)
  else
    doneIf (s.tc n == 1 && p.demand && !p.restart &&
        (match sight with
         | .rp _ _ => s.rd (PRT.TCCTL.DSROLE n) == 0 && p.presRd
         | _ => !p.presRd)) s.fresh
      (let s1 := s.fresh.wr (PRT.TCSTS.TCSTATE n) 2
       match sight with
       | .rd cc2 ra => (s1.wr (PRT.TCSTS.ORIENT n) (if cc2 then 2 else 1)).modPort n
           (fun p => { p with path := .source, ra := ra })
       | .accessory => s1.modPort n (fun p => { p with path := .accessory, ra := false })
       | .rp cc2 _ => (s1.wr (PRT.TCSTS.ORIENT n) (if cc2 then 2 else 1)).modPort n
           (fun p => { p with path := .sink, ra := false }))

/-- CC_DEBOUNCE_EXPIRE (R291, R294): from AttachWait as source the attach is reported and the check starts; as sink
Try.SRC begins; an accessory is reported; from TryWait.SNK Attached.SNK is entered (R292). Downstream the attach belongs to
the policy core (R16): with it or the link down it waits. -/
def execCcDebounceExpire (n : Fin 52) (s : State) : Res :=
  let p := s.port n
  let s := s.fresh
  done (if 48 ≤ n.val then s.upDebounced (n.val - 48)
    else if !s.pcUp n then s
    else if s.tc n = 2 then
      (match p.path with
       | .source => s.attachSource n (s.rd (PRT.TCSTS.ORIENT n) == 2) p.ra
       | .sink => (s.wr (PRT.TCSTS.TCSTATE n) 5).modPort n (fun p => { p with tryWait := false, presRd := false })
       | .accessory => (s.wr (PRT.TCSTS.TCSTATE n) 8).raise (PRT.TCEVT.ACCESS n))
    else if s.tc n = 5 ∧ p.tryWait then
      (((s.wr (PRT.TCSTS.TCSTATE n) 7).wr (PRT.PDSTS.PWRROLE n) 2).raise (PRT.TCEVT.FOREIGN n)).modPort n
        (fun p => { p with tryWait := false, path := .sink })
    else s)

/-- CC_TERMINATION_LOST (R291, R294): the termination goes before the debounce ends. -/
def execCcTerminationLost (n : Fin 52) (s : State) : Res :=
  if 48 ≤ n.val then doneIf (s.rd (UPS.TCSTS.TCSTATE (n.val - 48)) == 2) s.fresh (s.fresh.upUnattached (n.val - 48))
  else doneIf (s.tc n == 2) s.fresh ((s.fresh.wr (PRT.TCSTS.TCSTATE n) 1).wr (PRT.TCSTS.ORIENT n) 0)

/-- DRP_TOGGLE (R290, R295): an unattached DRP port switches between Rp and Rd; upstream only after step 0x0C. -/
def execDrpToggle (n : Fin 52) (s : State) : Res :=
  if 48 ≤ n.val then
    doneIf (s.active && s.upDrp (n.val - 48) && decide (s.rd (UPS.TCSTS.TCSTATE (n.val - 48)) ≤ 1) &&
        (s.boot.step == 0 || decide (0x0C < s.boot.step))) s.fresh
      (s.fresh.modUp (n.val - 48) (fun x => { x with presRp := !x.presRp }))
  else doneIf (s.tc n == 1 && s.rd (PRT.TCCTL.DSROLE n) == 0) s.fresh
    (s.fresh.modPort n (fun p => { p with presRd := !p.presRd }))

/-- DRP_TRY_EXPIRE (R291): tDRPTry ends without Rd, TryWait.SNK presents Rd, or with a role changed to source only the
port is Unattached; upstream, TryWait.SRC presents Rp. -/
def execDrpTryExpire (n : Fin 52) (s : State) : Res :=
  if 48 ≤ n.val then
    doneIf (s.rd (UPS.TCSTS.TCSTATE (n.val - 48)) == 5 && !(s.up (n.val - 48)).tryWait) s.fresh
      (s.fresh.modUp (n.val - 48) (fun x => { x with tryWait := true, presRp := true }))
  else doneIf (s.tc n == 5 && !(s.port n).tryWait && s.pcUp n) s.fresh
    (if s.rd (PRT.TCCTL.DSROLE n) = 0 then s.fresh.modPort n (fun p => { p with tryWait := true, presRd := true })
     else (s.fresh.wr (PRT.TCSTS.TCSTATE n) 1).wr (PRT.TCSTS.ORIENT n) 0)

/-- TRY_CC_DEBOUNCE_EXPIRE (R291, R294): Rd seen in Try.SRC; as AttachWait with Rd present. Upstream, `cur` is the
current that a source seen in Try.SNK advertises. -/
def execTryCcDebounceExpire (n : Fin 52) (cc2 : Bool) (far : Sys2Proof.FarEnd) (s : State) : Res :=
  if 48 ≤ n.val then done (s.fresh.upTryDebounced (n.val - 48) cc2 far.cur)
  else doneIf (s.tc n == 5 && !(s.port n).tryWait && s.pcUp n) s.fresh (s.fresh.attachSource n cc2 far.ra)

/-- TRY_TIMEOUT (R291): tTryTimeout ends in TryWait.SNK, or upstream in TryWait.SRC. -/
def execTryTimeout (n : Fin 52) (s : State) : Res :=
  if 48 ≤ n.val then
    doneIf (s.rd (UPS.TCSTS.TCSTATE (n.val - 48)) == 5 && (s.up (n.val - 48)).tryWait) s.fresh (s.fresh.upUnattached (n.val - 48))
  else doneIf (s.tc n == 5 && (s.port n).tryWait && s.pcUp n) s.fresh
    (((s.fresh.wr (PRT.TCSTS.TCSTATE n) 1).wr (PRT.TCSTS.ORIENT n) 0).modPort n
      (fun p => { p with tryWait := false, presRd := false }))

/-- SRC_DISCONNECT (R291, R293, R294): Rd absent in Attached.SRC, in the moisture check or in Wet detaches the partner; an
accessory's terminations gone return the port to Unattached (in Dusk the gate and VCONN are turned off, the SBU pins
isolated and VBUS discharged, and the rest follows after the return, R396), as does a sink-only partner gone upstream. -/
def execSrcDisconnect (n : Fin 52) (s : State) : Res :=
  done (if 48 ≤ n.val then
      (if s.rd (UPS.TCSTS.TCSTATE (n.val - 48)) = 6 then s.fresh.upUnattached (n.val - 48) else s.fresh)
    else if s.tc n = 3 ∨ s.tc n = 4 ∨ s.tc n = 6 then
      (if s.phase = .dusk then
        ((((s.fresh.modeExit n).vconnOff n).gateOff n false).discharge n).modPort n (fun p => { p with detachDue := true })
       else s.fresh.detach n)
    else if s.tc n = 8 then
      ((s.fresh.wr (PRT.TCSTS.TCSTATE n) 1).wr (PRT.TCSTS.ORIENT n) 0).raise (PRT.TCEVT.DETACH n)
    else s.fresh)

/-- SINK_VBUS_LOST (R291): VBUS below vSinkDisconnect in Attached.SNK ends the sink contract. -/
def execSinkVbusLost (n : Fin 48) (s : State) : Res :=
  doneIf (s.tc n == 7) s.fresh
    ((((s.fresh.pdForget n).wr (PRT.TCSTS.TCSTATE n) 1).wr (PRT.TCSTS.ORIENT n) 0).wr (PRT.PDSTS.PWRROLE n) 0)

/-- CC_OVERVOLTAGE (R291): CC above 5.5 V sends the port through error recovery. -/
def execCcOvervoltage (n : Fin 48) (s : State) : Res :=
  doneIf (decide (1 ≤ s.tc n) && decide (s.tc n ≤ 8)) s.fresh
    ((s.fresh.errorRecovery n).raise (PRT.TCEVT.CCOV n))

/-- ERROR_RECOVERY_END (R291): the port returns to Unattached; with the policy core or the link down it waits. -/
def execErrorRecoveryEnd (n : Fin 48) (s : State) : Res :=
  doneIf (s.tc n == 9 && s.pcUp n) s.fresh (s.fresh.ccOn n)

/-- The leakages that count (R158): a CC pin that carries Rd or Ra is measured only against VBUS. Each entry: pin,
against VBUS, value in kΩ. -/
def measured (leak : Sys2Proof.LeakSet) (orient : Nat) (ra : Bool) : List (Nat × Bool × Nat) :=
  let cc1 := orient == 1 || ra
  let cc2 := orient == 2 || ra
  (if cc1 then [] else [(0, false, leak.gCc1.toNat)]) ++ (if cc2 then [] else [(1, false, leak.gCc2.toNat)]) ++
    [(2, false, leak.gSbu1.toNat), (3, false, leak.gSbu2.toNat), (0, true, leak.vCc1.toNat),
     (1, true, leak.vCc2.toNat), (2, true, leak.vSbu1.toNat), (3, true, leak.vSbu2.toNat)]

/-- The moisture threshold of a port in kΩ: fixed for the part and within 180 to 220 (R158). -/
def moistThreshold (n : Nat) : Nat := 180 + Config.moistureExcess n % 41

/-- The mask of the pins that a list of failed measurements names. -/
def pinMask (l : List (Nat × Bool × Nat)) : Nat :=
  boolsNat ((List.range 4).map (fun k => l.any (fun x => x.1 == k)))

/-- MOISTURE_CHECK_COMPLETE (R158, R159): the check passes when every measured leakage is at or above the port's
threshold, and then asks for budget; otherwise the port is Wet. The result is the policy core's to take (R16). -/
def execMoistureCheckComplete (n : Fin 48) (leak : Sys2Proof.LeakSet) (s : State) : Res :=
  let p := s.port n
  let m := measured leak (s.rd (PRT.TCSTS.ORIENT n)) p.ra
  let bad := m.filter (fun x => x.2.2 < moistThreshold n)
  let low := (m.map (fun x => x.2.2)).foldl min 4095
  doneIf (p.checking && (s.tc n == 3 || s.tc n == 4) && s.pcUp n) s.fresh
    (let s1 := (s.fresh.modPort n (fun p => { p with checking := false })).wr (PRT.TCSTS.LEAKMIN n) (min 255 (low / 10))
     if bad.isEmpty then
       (((s1.wetEnd n).wr (PRT.TCSTS.TCSTATE n) 3).raise (PRT.TCSTS.MOISTOK n)).modPort n
         (fun p => { p with ask := true })
     else
       let s2 := if s1.on (PRT.TCSTS.WET n) then s1 else s1.raise (PRT.TCEVT.WETIN n)
       ((((((s2.wr (PRT.TCSTS.TCSTATE n) 4).raise (PRT.TCSTS.WET n)).wr (PRT.TCSTS.MOISTOK n) 0).wr
         (PRT.TCSTS.WETPIN n) (pinMask bad)).flag (PRT.TCSTS.WETGND n) (bad.any (fun x => !x.2.1))).flag
         (PRT.TCSTS.WETVBUS n) (bad.any (fun x => x.2.1))))

/-- WET_RETEST (R159): 5 s after the start of the last check a Wet port is checked again, also where MOISTBYP has been set
meanwhile (DESIGN CHOICE, log entry 91). -/
def execWetRetest (n : Fin 48) (s : State) : Res :=
  doneIf (s.tc n == 4 && s.pcUp n) s.fresh (s.fresh.modPort n (fun p => { p with checking := true }))

end Sys2Proof.Machine
end

