-- ==== Sys2Proof/Machine/Budget.lean ====
section
/-! DEFINITION. The cabinet power budget (R340 to R353): allowances, commits, waiting ports, shedding, and what the
writes of POOL, QCAP and PCFG start. -/

namespace Sys2Proof.Machine

/-- Volts of a voltage code (R319). -/
def volts (code : Nat) : Nat := if code = 0 then 5 else if code = 1 then 9 else if code = 2 then 15 else 20

/-- I(V) of R299 in 10 mA units for an allowance in 10 mW units. -/
def State.pdoCurrent (s : State) (n code allow : Nat) : Nat :=
  min 300 (min (if s.restricted then min 150 (s.rd (PRT.PDCTL.IMAX n)) else s.rd (PRT.PDCTL.IMAX n)) (allow / volts code))

/-- The PDOs of Source_Capabilities in order (R299): one Fixed PDO per voltage up to VMAX and FBICAP, those below 0.50 A
left out but the 5 V one. -/
def State.pdos (s : State) (n allow : Nat) : List (Nat × Nat) :=
  let vmax := if s.restricted then 0 else min (s.rd (PRT.PDCTL.VMAX n)) (s.rd (QD.CTL.FBICAP (quadOf n)))
  ((List.range (vmax + 1)).map (fun c => (c, s.pdoCurrent n c allow))).filter (fun x => x.1 == 0 || decide (50 ≤ x.2))

/-- H_q of R343. -/
def State.headroom (s : State) (q : Nat) : Nat :=
  min (s.rd (PWR.QCAP.CAP q) - s.kQuad q) (s.rd PWR.POOL.POOL - s.kAll)

/-- A port's own sequence is queued (R301): with a revision 3.x contract Rp goes to SinkTxNG for tSinkTx first. -/
def State.queueAms (s : State) (n : Nat) (a : Ams) : State :=
  let s1 := s.modPort n (fun p => { p with ams := if p.ams.contains a then p.ams else p.ams ++ [a], sinkTx := true })
  if s1.on (PRT.PDSTS.EXPLICIT n) ∧ s1.rd (PRT.PDSTS.REV n) ≥ 2 ∧ !s1.cutOff n then s1.wr (PRT.TCSTS.RPADV n) 1 else s1

/-- A changed offer is advertised again (R300): at once where `paced` is false, else at most once per READV (R343). -/
def State.readvertise (s : State) (n : Nat) (paced : Bool) : State :=
  if !s.on (PRT.PDSTS.EXPLICIT n) && (s.port n).offer.isEmpty then s
  else if s.tc n ≠ 6 ∨ !s.on (PRT.PDCTL.PDEN n) then s
  else if paced && (s.port n).readvRun then s.modPort n (fun p => { p with readvDue := true })
  else (s.queueAms n .resend).modPort n (fun p => { p with readvRun := paced || p.readvRun, readvDue := false })

/-- A_n of R343 for a port that is not shed. -/
def State.allowance (s : State) (n : Nat) : Nat :=
  min (s.rd (PWR.PCFG.PMAX n)) (s.kOf n + s.headroom (quadOf n))

/-- The allowances are computed anew (R343); a change that alters an I(V) is advertised under R300. -/
def State.recomputeAllowances (s : State) : State :=
  if !s.runs 8 then s
  else s.forEach allPorts (fun t n =>
    if t.rd (PWR.PALLOW.SHED n) ≠ 0 then t
    else
      let a := s.allowance n
      let t1 := t.wr (PWR.PALLOW.ALLOW n) a
      if (t.port n).offer.isEmpty ∨ (t.port n).offer = t.pdos n a then t1 else t1.readvertise n true)

/-- vSafe5V amount of R344 in 10 mW units. -/
def State.v5Amount (s : State) (n : Nat) : Nat := 5 * rpCurrent (s.rpChoice n)

/-- A commit of `add` more on port `n` fits (R342). -/
def State.fits (s : State) (n add : Nat) : Bool :=
  decide (s.kQuad (quadOf n) + add ≤ s.rd (PWR.QCAP.CAP (quadOf n))) && decide (s.kAll + add ≤ s.rd PWR.POOL.POOL)

/-- Port `m` waits on the pool: its amount fits under its quad cap and not under POOL (R344). -/
def State.waitsOnPool (s : State) (m : Nat) : Bool :=
  s.on (PWR.PALLOW.WAIT m) && decide (s.kQuad (quadOf m) + s.v5Amount m ≤ s.rd (PWR.QCAP.CAP (quadOf m))) &&
    decide (s.rd PWR.POOL.POOL < s.kAll + s.v5Amount m)

/-- A raise or a new vSafe5V request of port `n` is held back by waiting ports (R344). -/
def State.heldBack (s : State) (n : Nat) : Bool :=
  (quadPorts (quadOf n)).any (fun m => s.on (PWR.PALLOW.WAIT m)) || allPorts.any s.waitsOnPool

/-- I_set in 10 mA units (R323): the contract's maximum operating current, else the Rp current. -/
def State.iset (s : State) (n : Nat) : Nat :=
  let ic := if s.on (PRT.PDSTS.EXPLICIT n) then (s.port n).maxCur else rpCurrent (s.rd (PRT.TCSTS.RPADV n))
  min (s.rd (PRT.FUSCFG.ILIM n)) (5 * ic / 4 + 10)

/-- I_set follows its inputs (R323); in autonomous hold the limit is kept (R15). -/
def State.setIset (s : State) (n : Nat) : State := if s.inHold n then s else s.wr (PRT.IBUSMEAS.ISET n) (s.iset n)

/-- The Rp advertised without an explicit contract follows RPDEF, PMAX and the shed mark (R301, R344), and so do the limit
(R323) and, from power-good, the contracted power (R340). A higher Rp on a port with VBUS waits until the budget has room
for it (DEDUCED, log entry 92: R341 and R342 admit no other order). Nothing changes while the link is lost (R15). -/
def State.rpFollow (s : State) (n : Nat) : State :=
  let t := s.tc n
  let rp := s.rpChoice n
  if s.cutOff n then s
  else if t = 6 then
    let need := 5 * rpCurrent rp
    let add := need - s.kOf n
    if s.on (PRT.PDSTS.EXPLICIT n) ∨ (s.port n).accepted.isSome ∨
        (0 < add ∧ (!s.runs 8 ∨ s.heldBack n ∨ !s.fits n add)) then s
    else
      let s1 := ((if 0 < add then s.setK n need else s).wr (PRT.TCSTS.RPADV n) rp).setIset n
      if s1.on (PRT.FUSSTS.PG n) then (s1.setC n need).setK n need else s1
  else if (1 ≤ t ∧ t ≤ 5) ∨ t = 8 then s.wr (PRT.TCSTS.RPADV n) rp
  else s

/-- The FBI code of a target voltage (R317) from the identity values in use; 0 where none are. -/
def State.fbiCode (s : State) (n code : Nat) : Nat :=
  match (s.quad (quadOf n)).ident with
  | none => 0
  | some i =>
    match i.ports[n % 4]? with
    | none => 0
    | some p =>
      let num := 2 * (p.fbv0 - 1000 * volts code) * 10000
      let den := 15 * p.fbrt
      min 4095 ((num + den) / (2 * den))

/-- vSafe5V is committed and applied (R23, R344, R303): the limit and FBI set, the gate driven, VCONN on where the cable
shows Ra. -/
def State.grantV5 (s : State) (n : Nat) : State :=
  let s1 := (s.setK n (s.v5Amount n)).wr (PWR.PALLOW.WAIT n) 0
  let s2 := ((s1.wr (PRT.TCSTS.RPADV n) (s1.rpChoice n)).wr (PRT.TCSTS.TCSTATE n) 6).wr (PRT.PDSTS.PWRROLE n) 1
  let s3 := ((s2.setIset n).fbiDrive n (s2.fbiCode n 0)).emit (.gate n true false)
  let s4 := s3.modPort n (fun p => { p with ask := false, gate := true, vbus := true, dsch := false, target := 0,
                                            oldTarget := 0, ramp := false, inWindow := true })
  if (s4.port n).ra && s4.on (PRT.VCONN.ALLOW n) && s4.on (SEC.STS.VCONNOK (secOf n)) && !(s4.port n).ocOff then
    let s5 := s4.vconnOn n
    if s5.on (PRT.PDCTL.PDEN n) then (s5.emit (.pd n .discoverIdSopP)).modPort n (fun p => { p with discovering := true })
    else s5
  else s4

/-- A vSafe5V request reaches PE0 (R344): granted, or the port joins the waiting ports. -/
def State.serveAsk (s : State) (n : Nat) : State :=
  if s.heldBack n || !s.fits n (s.v5Amount n - s.kOf n) then
    ((s.raise (PWR.PALLOW.WAIT n)).raise PWR.EVT.WAIT)
  else s.grantV5 n

/-- Ports in the order of R344's service of waiting ports: descending PRIO, then ascending number. -/
def State.serveOrder (s : State) (l : List Nat) : List Nat :=
  ([7, 6, 5, 4, 3, 2, 1, 0].map (fun p => l.filter (fun n => s.rd (PWR.PCFG.PRIO n) == p))).flatten

/-- The shed order (R346): ascending PRIO, then descending number. -/
def State.shedOrder (s : State) (l : List Nat) : List Nat :=
  ([0, 1, 2, 3, 4, 5, 6, 7].map (fun p => l.reverse.filter (fun n => s.rd (PWR.PCFG.PRIO n) == p))).flatten

/-- Waiting ports are served one after another until one does not fit (R344). -/
def State.serveList (s : State) : List Nat → State
  | [] => s
  | n :: l => if s.fits n (s.v5Amount n - s.kOf n) then (s.grantV5 n).serveList l else s

/-- PE0 serves the ports waiting for vSafe5V (R344); one that may not be energised now goes on waiting (R15, R18, R76). -/
def State.serveWaiting (s : State) : State :=
  if !s.runs 8 then s
  else s.serveList (s.serveOrder (allPorts.filter (fun n => s.on (PWR.PALLOW.WAIT n) && s.mayPower n)))

/-! ## Shedding -/

/-- What a port counts towards an excess during a shed walk (R347, R348). -/
def State.shedCount (s : State) (n : Nat) : Nat :=
  if s.rd (PWR.PALLOW.SHED n) = 2 then 0
  else if s.rd (PWR.PALLOW.SHED n) = 1 then min (s.kOf n) (s.rd (PWR.PALLOW.ALLOW n)) else s.kOf n

/-- E_q of a quad under its cap trigger. -/
def State.excessQuad (s : State) (q : Nat) : Nat :=
  if (s.quad q).capTrig then ((quadPorts q).map s.shedCount).sum - s.rd (PWR.QCAP.CAP q) else 0

/-- E of the cabinet under the pool trigger. -/
def State.excessPool (s : State) : Nat :=
  if s.poolTrig then (allPorts.map s.shedCount).sum - s.rd PWR.POOL.POOL else 0

/-- A port is reduced to an allowance (R347): Rp to the default current, the offer advertised again; without an
explicit contract its supply falls to 2.5 W with Rp. -/
def State.reduce (s : State) (n a : Nat) : State :=
  let s1 := (s.wr (PWR.PALLOW.ALLOW n) a).wr (PWR.PALLOW.SHED n) 1
  if s1.on (PRT.PDSTS.EXPLICIT n) then s1.readvertise n false
  else if s1.tc n = 6 ∧ (s1.port n).accepted.isNone then (s1.rpFollow n).readvertise n false
  else s1

/-- The walk of reductions (R347). -/
def State.walkReduce (s : State) : List Nat → State
  | [] => s
  | n :: l =>
    let eq := s.excessQuad (quadOf n)
    let e := s.excessPool
    if s.rd (PWR.PALLOW.SHED n) = 0 ∧ s.kOf n > 0 ∧ (eq > 0 ∨ e > 0) then
      (s.reduce n (max 250 (s.kOf n - max eq e))).walkReduce l
    else s.walkReduce l

/-- The walk that marks reduced ports off while an excess remains (R347). -/
def State.walkOff (s : State) : List Nat → State
  | [] => s
  | n :: l =>
    if s.rd (PWR.PALLOW.SHED n) = 1 ∧ (s.excessQuad (quadOf n) > 0 ∨ s.excessPool > 0) then (s.peMarkOff n).walkOff l
    else s.walkOff l

/-- The walk of a Fail (R348): ports marked off until ΣK, a port marked off as 0, is at most FAILCAP. -/
def State.walkFail (s : State) (q : Nat) : List Nat → State
  | [] => s
  | n :: l =>
    let k := ((quadPorts q).map (fun m => if s.rd (PWR.PALLOW.SHED m) = 2 then 0 else s.kOf m)).sum
    if k ≤ s.rd (PWR.QCAP.FAILCAP q) then s
    else if s.rd (PWR.PALLOW.SHED n) = 2 then s.walkFail q l
    else (s.peMarkOff n).walkFail q l

/-- SHED_START (R346 to R348): at the Meridian after a trigger PE0 walks the ports. -/
def execShedStart (s : State) : Res :=
  let s := s.fresh
  doneIf (s.shedDue && s.runs 8) s
    (let s1 := s.forEach ((List.range 12).filter (fun q => (s.quad q).failNew)) (fun t q =>
        (t.walkFail q (t.shedOrder (quadPorts q))).modQuad q (fun x => { x with failNew := false }))
     let s2 := s1.walkReduce (s1.shedOrder allPorts)
     let s3 := s2.walkOff (s2.shedOrder allPorts)
     ({ s3 with shedDue := false }).raise PWR.EVT.SHEDIN)

/-- A mark is cleared (R349): a port that was off returns through the check, and Rp follows (R301). -/
def State.unmark (s : State) (n : Nat) : State :=
  if s.rd (PWR.PALLOW.SHED n) ≠ 0 then ((s.clearMark n).tryApply n).rpFollow n else s

/-- The marks of a scope are cleared as its trigger ends (R349); other triggers still in force walk afresh. A quad whose
fault action is in force keeps its marks. -/
def State.endMarks (s : State) (l : List Nat) : State :=
  let s1 := s.forEach (l.filter (fun n => !(s.quad (quadOf n)).actionMark)) (fun t n => t.unmark n)
  let more := s1.poolTrig || (List.range 12).any (fun q => (s1.quad q).capTrig || (s1.quad q).failTrig)
  let s2 := s1.forEach ((List.range 12).filter (fun q => (s1.quad q).failTrig)) (fun t q =>
    t.modQuad q (fun x => { x with failNew := true }))
  ({ s2 with shedDue := s2.shedDue || more }).raise PWR.EVT.SHEDOUT

/-- What a committed write of PWR.POOL starts or ends (R342, R349); with PE0 down it is judged at the rebuild (R16, R352). -/
def State.poolEffect (s : State) : State :=
  if !s.runs 8 then s
  else if s.kAll > s.rd PWR.POOL.POOL then { s with poolTrig := true, shedDue := true }
  else if s.poolTrig then ({ s with poolTrig := false }).endMarks allPorts
  else s

/-- What a committed write of PWR.QCAP[q] starts or ends (R342, R349); with PE0 down it is judged at the rebuild. -/
def State.qcapEffect (s : State) (q : Nat) : State :=
  if !s.runs 8 then s
  else if s.kQuad q > s.rd (PWR.QCAP.CAP q) then { s.modQuad q (fun x => { x with capTrig := true }) with shedDue := true }
  else if (s.quad q).capTrig then (s.modQuad q (fun x => { x with capTrig := false })).endMarks (quadPorts q)
  else s

/-- A contract above PMAX is shed with that port alone (R351). -/
def State.pmaxShed (s : State) (n : Nat) : State :=
  let pmax := s.rd (PWR.PCFG.PMAX n)
  if s.kOf n > pmax ∧ s.rd (PWR.PALLOW.SHED n) ≠ 2 then (s.reduce n (max 250 pmax)).raise PWR.EVT.SHEDIN else s

/-- What a committed write of PWR.PCFG[n] starts (R351): a contract above PMAX is shed with that port alone; a changed
offer is advertised without pacing, and Rp follows (R301). PE0 does it, with PE0 down at the rebuild (R16, R352). -/
def State.pcfgEffect (s : State) (n : Nat) : State :=
  if !s.runs 8 then s
  else if s.kOf n > s.rd (PWR.PCFG.PMAX n) ∧ s.rd (PWR.PALLOW.SHED n) ≠ 2 then s.pmaxShed n
  else if s.rd (PWR.PALLOW.SHED n) = 0 then
    let a := s.allowance n
    let s1 := (s.wr (PWR.PALLOW.ALLOW n) a).rpFollow n
    if (s.port n).offer.isEmpty ∨ (s.port n).offer = s.pdos n a then s1 else s1.readvertise n false
  else if s.rd (PWR.PALLOW.SHED n) = 1 ∧ !(s.quad (quadOf n)).capTrig ∧ !s.poolTrig then
    ((s.clearMark n).rpFollow n).readvertise n false
  else s

/-- READV_EXPIRE (R343): the pacing interval ends; a deferred change is advertised. -/
def execReadvExpire (n : Fin 48) (s : State) : Res :=
  doneIf (s.port n).readvRun s.fresh
    (let s1 := s.fresh.modPort n (fun p => { p with readvRun := false })
     if (s1.port n).readvDue then s1.readvertise n true else s1)

/-- Power of the supply in force on a port (R340). -/
def State.supplyPower (s : State) (n : Nat) : Nat :=
  if s.on (PRT.PDSTS.EXPLICIT n) then volts (s.rd (PRT.PDSTS.VSEL n)) * (s.port n).maxCur
  else if s.on (PRT.FUSSTS.PG n) then 5 * rpCurrent (s.rd (PRT.TCSTS.RPADV n)) else 0

/-- K_n of a rebuilt book (R352): C_n, the power of an Accepted Request, or the vSafe5V amount on its way. -/
def State.rebuiltK (s : State) (n : Nat) : Nat :=
  match (s.port n).accepted with
  | some r =>
    let v := match (s.port n).offer[r.obj - 1]? with
      | some x => x.1
      | none => 0
    max (s.supplyPower n) (volts v * r.maxCur)
  | none => if (s.port n).gate ∧ !s.on (PRT.FUSSTS.PG n) ∧ !s.on (PRT.PDSTS.EXPLICIT n) then s.v5Amount n
            else s.supplyPower n

/-- PE0_REBUILD (R352, R353): the books from what the policy cores report, marks cleared, a contract above PMAX and
triggers still present shed afresh. -/
def execPe0Rebuild (s : State) : Res :=
  let s := s.fresh
  doneIf (s.runs 8) s
    (let s1 := s.forEach allPorts (fun t n =>
        let t1 := (t.wr (PWR.PBOOK.CONTRACT n) (t.supplyPower n)).wr (PWR.PBOOK.COMMIT n) (t.rebuiltK n)
        if (t1.quad (quadOf n)).actionMark then t1 else t1.clearMark n)
     let s2 := s1.sumBooks
     let s3 := s2.forEach (List.range 12) (fun t q =>
        t.modQuad q (fun x => { x with capTrig := decide (s2.kQuad q > s2.rd (PWR.QCAP.CAP q)),
                                       failNew := x.failTrig }))
     let back := s3.forEach allPorts (fun t n => ((t.tryApply n).rpFollow n).pmaxShed n)
     let pool := decide (s3.kAll > s3.rd PWR.POOL.POOL)
     let more := pool || (List.range 12).any (fun q => (s3.quad q).capTrig || (s3.quad q).failTrig)
     ({ back with poolTrig := pool, shedDue := more }).raise PWR.EVT.REBUILD)

/-! ## Quad input levels (R336) -/

/-- The policy cores of a quad's ports send Alert (R308) where a revision 3.x contract is in force. -/
def State.alertQuad (s : State) (q : Nat) : State :=
  s.forEach (quadPorts q) (fun t n =>
    if t.tc n = 6 ∧ t.on (PRT.PDSTS.EXPLICIT n) ∧ t.rd (PRT.PDSTS.REV n) ≥ 2 then t.queueAms n .alert else t)

/-- QUAD_WARN_ENTER (R336, R308). -/
def execQuadWarnEnter (q : Fin 12) (s : State) : Res :=
  doneIf ((s.active || s.phase == .dusk) && !s.on (QD.STS.WARN q)) s.fresh
    ((((s.fresh.raise (QD.STS.WARN q)).raise (QD.STS.WARNWAS q)).raise (QD.EVT.WARNIN q)).alertQuad q)

/-- QUAD_WARN_EXIT (R336, R308). -/
def execQuadWarnExit (q : Fin 12) (s : State) : Res :=
  doneIf ((s.active || s.phase == .dusk) && s.on (QD.STS.WARN q)) s.fresh
    (((s.fresh.wr (QD.STS.WARN q) 0).raise (QD.EVT.WARNOUT q)).alertQuad q)

/-- The port die marks every port of a quad off, alone (R348). -/
def State.dieShed (s : State) (q : Nat) : State :=
  ((s.forEach (quadPorts q) (fun t n => t.markOff n)).modQuad q (fun x => { x with failNew := false })).record .pwr 1

/-- QUAD_FAIL_ENTER (R336, R346, R348): shedding at the next Meridian; by the port die at once where PE0 is down. -/
def execQuadFailEnter (q : Fin 12) (s : State) : Res :=
  doneIf ((s.active || s.phase == .dusk) && !s.on (QD.STS.FAIL q)) s.fresh
    (let s1 := ((s.fresh.raise (QD.STS.FAIL q)).raise (QD.STS.FAILWAS q)).raise (QD.EVT.FAILIN q)
     let s2 := { s1.modQuad q (fun x => { x with failTrig := true, failNew := true }) with shedDue := true }
     if s2.runs 8 then s2 else s2.dieShed q)

/-- QUAD_FAIL_EXIT (R336, R349): the Fail trigger ends and every mark of the quad is cleared; with PE0 down the marks are
cleared at its rebuild (R16, R353). -/
def execQuadFailExit (q : Fin 12) (s : State) : Res :=
  doneIf ((s.active || s.phase == .dusk) && s.on (QD.STS.FAIL q)) s.fresh
    (let s1 := (s.fresh.wr (QD.STS.FAIL q) 0).raise (QD.EVT.FAILOUT q)
     let acted := !(s1.quad q).failNew
     let s2 := s1.modQuad q (fun x => { x with failTrig := false, failNew := false })
     if acted && s2.runs 8 then s2.endMarks (quadPorts q) else s2)

/-- FAIL_SHED_TIMEOUT (R348): PE0 has not acted within 10 ms of Fail entry. -/
def execFailShedTimeout (q : Fin 12) (s : State) : Res :=
  doneIf (s.active && (s.quad q).failNew) s.fresh (s.fresh.dieShed q)

/-- QUAD_OVERPOWER (R374): input power above 1.25 × CAP at every Meridian for 10 ms, which is 80 of them, records QD
source 2. -/
def execQuadOverpower (q : Fin 12) (s : State) : Res :=
  doneIf (s.active && decide (80 ≤ (s.quad q).overM)) s.fresh (s.fresh.condBegin (.qd q) 2)

end Sys2Proof.Machine
end

