-- ==== Sys2Proof/Machine/Fuse.lean ====
section
/-! DEFINITION. The port's e-fuse (R317 to R335): power-good, the current limit, trips, the sense self-test, the retry
wait, the re-arm, the discharge, and the port-die over-temperature shutdown (R76). -/

namespace Sys2Proof.Machine

/-- GATE_FULLY_ON (R329): the gate is 8 V above VBUS and, with the limit inactive, power-good qualification starts. -/
def execGateFullyOn (n : Fin 48) (s : State) : Res :=
  doneIf ((s.port n).gate && !s.on (PRT.FUSSTS.GATEON n)) s.fresh
    ((s.fresh.raise (PRT.FUSSTS.GATEON n)).modPort n (fun p => { p with qual := !s.on (PRT.FUSSTS.LIMIT n) }))

/-- POWER_GOOD (R329, R340, R341, R157): qualification completes with the limit inactive. The contracted power becomes that
of the supply in force, what was committed beyond it is released unless a Request is being carried out,
PORT_OVER_CURRENT returns to 0, and the first Source_Capabilities falls due (R298). -/
def execPowerGood (n : Fin 48) (s : State) : Res :=
  let p := s.port n
  doneIf (p.gate && p.qual && s.on (PRT.FUSSTS.GATEON n) && !s.on (PRT.FUSSTS.LIMIT n) && !s.on (PRT.FUSSTS.PG n)) s.fresh
    (let s1 := (((s.fresh.raise (PRT.FUSSTS.PG n)).raise (PRT.FUSEVT.PGON n)).wr (PRT.HUBSTS.OVERCUR n) 0)
     let c := s1.supplyPower n
     let s2 := (if s.on (PRT.PDSTS.EXPLICIT n) ∨ p.accepted.isSome then s1.setC n c else (s1.setC n c).setK n c)
     s2.modPort n (fun p => { p with qual := false, pgAt := s.now, cleanRun := true,
                                     capsDue := s.on (PRT.PDCTL.PDEN n) && !s.on (PRT.PDSTS.EXPLICIT n),
                                     capsCount := if s.on (PRT.PDSTS.EXPLICIT n) then p.capsCount else 0 }))

/-- POWER_GOOD_FALL (R329): VBUS below V_UV for 50 µs; qualification runs again. -/
def execPowerGoodFall (n : Fin 48) (s : State) : Res :=
  doneIf (s.on (PRT.FUSSTS.PG n)) s.fresh
    ((s.fresh.pgFall n).modPort n (fun p => { p with qual := s.on (PRT.FUSSTS.GATEON n) && !s.on (PRT.FUSSTS.LIMIT n) }))

/-- LIMIT_ENGAGE (R325, R328, R329): the limit becomes active and wins against a qualification that completes. -/
def execLimitEngage (n : Fin 48) (s : State) : Res :=
  doneIf ((s.port n).gate && !s.on (PRT.FUSSTS.LIMIT n)) s.fresh
    (let s1 := (s.fresh.raise (PRT.FUSSTS.LIMIT n)).raise (PRT.FUSEVT.LIMITIN n)
     if (s.port n).qual then (s1.raise (PRT.FUSEVT.QUALRST n)).modPort n (fun p => { p with qual := false }) else s1)

/-- LIMIT_RELEASE (R325, R329): the limit becomes inactive; qualification starts from zero with the gate fully on. -/
def execLimitRelease (n : Fin 48) (s : State) : Res :=
  doneIf (s.on (PRT.FUSSTS.LIMIT n)) s.fresh
    (((s.fresh.wr (PRT.FUSSTS.LIMIT n) 0).wr (PRT.FUSSTS.FOLD n) 0).modPort n
      (fun p => { p with qual := s.on (PRT.FUSSTS.GATEON n) && !s.on (PRT.FUSSTS.PG n) }))

/-- The cause bit of FUSEVT for a trip cause of R326. -/
def causeBit (n cause : Nat) : Field :=
  if cause = 2 then PRT.FUSEVT.HSHORT n else if cause = 4 then PRT.FUSEVT.OV n
  else if cause = 1 then PRT.FUSEVT.OVERLOAD n else if cause = 5 then PRT.FUSEVT.VFAULT n else PRT.FUSEVT.THERMAL n

/-- A trip (R326, R327, R332): charged once; gate, VCONN and SBU off in one step, the contract ended, VBUS discharged,
PORT_OVER_CURRENT set (R157), and the self-test due. -/
def State.trip (s : State) (n cause : Nat) : State :=
  let s1 := ((s.raise (PRT.FUSEVT.TRIP n)).raise (causeBit n cause)).bump (PRT.FUSEVT.TRIPCNT n)
  let s2 := (s1.wr (PRT.FUSSTS.TRIPS n) (min 8 (s.rd (PRT.FUSSTS.TRIPS n) + 1))).wr (PRT.FUSSTS.CAUSE n) cause
  let s3 := ((s2.raise (PRT.HUBSTS.OVERCUR n)).hubEvt n 3).powerCut n
  let hot := decide (500 < signed 12 (s.rd (PRT.TJEST.TJ n)))
  s3.modPort n (fun p => { p with selfTest := .due, waitAt := s.now, waitDue := !s.runs 9, waitAnew := !s.runs 9,
                                  thermHold := hot || p.thermHold })

/-- HARD_SHORT (R326): current above 2.5 × I_set with the gate driven. -/
def execHardShort (n : Fin 48) (s : State) : Res :=
  doneIf (s.port n).gate s.fresh (s.fresh.trip n 2)

/-- OVERVOLTAGE_TRIP (R326). -/
def execOvervoltageTrip (n : Fin 48) (s : State) : Res :=
  doneIf (s.port n).gate s.fresh (s.fresh.trip n 4)

/-- OVERLOAD_TRIP (R326, R328): the fault timer, which runs while the limit is active, reaches FTIME. -/
def execOverloadTrip (n : Fin 48) (s : State) : Res :=
  doneIf ((s.port n).gate && s.on (PRT.FUSSTS.LIMIT n)) s.fresh (s.fresh.trip n 1)

/-- VOLTAGE_TRIP (R320, R326). -/
def execVoltageTrip (n : Fin 48) (s : State) : Res :=
  doneIf (s.port n).gate s.fresh (s.fresh.trip n 5)

/-- SELF_TEST_START (R331): VBUS below 0.8 V, or 5 ms after the trip. -/
def execSelfTestStart (n : Fin 48) (s : State) : Res :=
  doneIf ((s.port n).selfTest == .due) s.fresh (s.fresh.modPort n (fun p => { p with selfTest := .running }))

/-- The retry wait of the k-th trip in half seconds (R332). -/
def retryWait (rwait k : Nat) : Nat := min 120 (rwait * 2 ^ (k - 1))

/-- The port latches off (R331, R332). -/
def State.latchOff (s : State) (n : Nat) : State :=
  (s.raise (PRT.FUSEVT.LATCHED n)).modPort n (fun p => { p with latched := true, waitRun := false, waitDue := false,
                                                                waitAnew := false })

/-- SELF_TEST_COMPLETE (R331, R332, R334, R374): a pass after a trip starts the retry wait, or latches the port off once
the budget is spent; a pass after a re-arm lets the port follow R23; a failure latches it with SENSE. -/
def execSelfTestComplete (n : Fin 48) (pass : Bool) (s : State) : Res :=
  let p := s.port n
  doneIf (p.selfTest == .running || p.selfTest == .rearm) s.fresh
    (let s1 := s.fresh.modPort n (fun p => { p with selfTest := .none })
     let k := s.rd (PRT.FUSSTS.TRIPS n)
     if !pass then
       let s2 := if p.gate then s1.powerCut n else s1
       (((s2.raise (PRT.FUSSTS.SENSE n)).raise (PRT.FUSEVT.SENSEFLT n)).latchOff n).record (.prt n) 1
     else if p.selfTest == .rearm then s1.tryApply n
     else if k ≤ s.rd (PRT.FUSCFG.RETRY n) then
       s1.modPort n (fun p => { p with waitLen := retryWait (s.rd (PRT.FUSCFG.RWAIT n)) k,
                                       waitRun := s.runs 9 && !p.waitDue, waitDue := !s.runs 9 || p.waitDue })
     else (s1.latchOff n).record (.prt n) 0)

/-- RETRY_WAIT_END (R332, R333): VBUS may be applied again, through the check of R158. -/
def execRetryWaitEnd (n : Fin 48) (s : State) : Res :=
  doneIf ((s.port n).waitRun && s.runs 9) s.fresh ((s.fresh.modPort n (fun p => { p with waitRun := false })).tryApply n)

/-- CLEAN_POWER_GOOD (R334): 30 s of power-good restore the budget. -/
def execCleanPowerGood (n : Fin 48) (s : State) : Res :=
  doneIf (s.on (PRT.FUSSTS.PG n) && (s.port n).cleanRun && s.on (PRT.FUSSTS.TRIPS n) && s.runs 9) s.fresh
    (((s.fresh.wr (PRT.FUSSTS.TRIPS n) 0).raise (PRT.FUSEVT.CLEAN n)).modPort n (fun p => { p with cleanRun := false }))

/-- What a committed REARM does (R334): the budget, the wait, the latch and SENSE are cleared and the self-test runs;
with nothing to clear it has no effect. -/
def State.rearmEffect (s : State) (n : Nat) : State :=
  let p := s.port n
  if !s.on (PRT.FUSSTS.TRIPS n) && !p.waitRun && !p.waitDue && !p.latched && !s.on (PRT.FUSSTS.SENSE n) then s
  else
    ((((s.wr (PRT.FUSSTS.TRIPS n) 0).wr (PRT.FUSSTS.SENSE n) 0).wr (PRT.HUBSTS.OVERCUR n) 0).raise
      (PRT.FUSEVT.REARMED n)).modPort n (fun p => { p with waitRun := false, waitDue := false, waitAnew := false,
                                                           latched := false, selfTest := .rearm })

/-- The voltage code of an Accepted Request whose PS_RDY is pending, or of the contract in force. -/
def State.contractVolts (s : State) (n : Nat) : Nat :=
  match (s.port n).accepted with
  | some r => max (s.rd (PRT.PDSTS.VSEL n)) (match (s.port n).offer[r.obj - 1]? with
      | some x => x.1
      | none => 0)
  | none => s.rd (PRT.PDSTS.VSEL n)

/-- What a committed write of FBICAP does (R318): error recovery of each port above it; the others are offered anew where
their PDOs change (R300). -/
def State.fbicapEffect (s : State) (q : Nat) : State :=
  s.forEach (quadPorts q) (fun t n =>
    if t.rd (QD.CTL.FBICAP q) < t.contractVolts n then t.errorRecovery n
    else if (t.port n).offer.isEmpty ∨ (t.port n).offer = t.pdos n (t.rd (PWR.PALLOW.ALLOW n)) then t
    else t.readvertise n false)

/-- VBUS_DISCHARGED (R155, R327, R345): VBUS is below 0.8 V: DSCH low, the committed power released; a PD hard reset
goes on to tSrcRecover and the hub state follows R157 (R302); a port that may be supplied again is checked (R158). -/
def execVbusDischarged (n : Fin 48) (s : State) : Res :=
  doneIf ((s.port n).dsch && !(s.port n).gate) s.fresh
    (let s1 := s.fresh.vbusGone n
     if (s1.port n).hr == .discharge then (s1.modPort n (fun p => { p with hr := .recover })).vbusLoss n
     else s1.tryApply n)

/-- FBI_TRIM_LIMIT (R319, R374): the trim has stood at its limit for 100 Meridians. -/
def execFbiTrimLimit (n : Fin 48) (s : State) : Res :=
  doneIf (s.active && (s.port n).gate && decide (100 ≤ (s.port n).trimAtLimit)) s.fresh (s.fresh.record (.prt n) 3)

/-- RAMP_END (R319): the code has reached the target; trimming starts at the next Meridian, and DSCH goes low. -/
def execRampEnd (n : Fin 48) (s : State) : Res :=
  doneIf (s.port n).ramp s.fresh
    (let s1 := s.fresh.modPort n (fun p => { p with ramp := false, dsch := false, trim := 64, trimAtLimit := 0, trimRun := true })
     if (s.port n).dsch then s1.emit (.dsch n false) else s1)

/-- PORT_DIE_OVERTEMP (R76, R77): the port die turns all 12 gates off with no charge to any retry budget, and a major
sector fault is recorded. -/
def execPortDieOvertemp (i : Fin 4) (s : State) : Res :=
  doneIf (s.sec i).dieUp s.fresh
    (let s1 := s.fresh.forEach (secPorts i) (fun t n =>
        if (t.port n).gate || t.on (PRT.VCONN.ON n) then t.powerCut n else t)
     ((s1.modSec i (fun x => { x with hot := true })).orBits (SEC.EVT.EVENTS i) 8).condBegin (.sec i) 1)

end Sys2Proof.Machine
end

