-- ==== Sys2Proof/Machine/Pd.lean ====
section
/-! DEFINITION. Power Delivery on downstream ports (R296 to R313): negotiation, hard reset, VCONN swaps, cable
discovery, structured VDMs and the service console, and the budget requests of the policy cores (R344). -/

namespace Sys2Proof.Machine

/-- A sequence of the port is in progress: a Request is awaited or being carried out, or a VCONN swap. -/
def PortX.inSequence (p : PortX) : Bool := p.accepted.isSome || p.awaitReq || p.swap != .none

/-- Rp as R301 wants it: with a revision 3.x contract SinkTxNG during a sequence of the Galuc's own and SinkTxOK
otherwise; with revision 2.0 the choice of R344; without a contract as the budget allows. -/
def State.rpSettle (s : State) (n : Nat) : State :=
  if s.tc n ≠ 6 then s
  else if s.on (PRT.PDSTS.EXPLICIT n) ∧ s.rd (PRT.PDSTS.REV n) ≥ 2 then
    let p := s.port n
    s.wr (PRT.TCSTS.RPADV n) (if p.sinkTx || p.inSequence || p.discovering then 1 else 2)
  else if s.on (PRT.PDSTS.EXPLICIT n) then s.wr (PRT.TCSTS.RPADV n) (s.rpChoice n)
  else s.rpFollow n

/-- Source_Capabilities is sent under R299 and a Request awaited. -/
def State.sendCaps (s : State) (n : Nat) : State :=
  if !s.on (PRT.PDCTL.PDEN n) then s
  else
    let offer := s.pdos n (s.rd (PWR.PALLOW.ALLOW n))
    (s.emit (.pd n (.srcCaps .sent offer))).modPort n (fun p => { p with offer := offer, awaitReq := true, capsDue := false })

/-! ## Hard reset (R302) -/

/-- A hard reset begins (R302 step 1, R307, R340): SBU isolated, the contract and every sequence forgotten, a VCONN swap
abandoned with VCONN off, nothing contracted; a port in handover follows R264. As sink only the contract is forgotten. -/
def State.hardReset (s : State) (n : Nat) (sent : Bool) : State :=
  let s1 := (if sent then (s.emit (.pd n .hardReset)).bump (PRT.PDCNT.HRSENT n) else s.bump (PRT.PDCNT.HRRCVD n)).orBits
    (PRT.PDSTS.EVT n) 4
  if s.tc n = 7 then s1.pdForget n
  else if s.tc n ≠ 6 ∨ (s.port n).hr ≠ .none then s1
  else
    let s2 := if (s.port n).swap ≠ .none then (s1.modeExit n).vconnOff n else s1.modeExit n
    let s3 := ((s2.endContract n).setC n 0).modPort n (fun p => { p with hr := .waitPs, ocOff := false })
    ((s3.wr (PRT.TCSTS.RPADV n) (s3.rpChoice n)).setIset n).handoverRestart n

/-- A Hard Reset asked for while the policy core or the link was down is sent (R16). -/
def State.hresetRun (s : State) (n : Nat) : State :=
  if (s.port n).ams.contains .hreset then
    (s.modPort n (fun p => { p with ams := p.ams.filter (· != .hreset) })).hardReset n true
  else s

/-- PS_HARD_RESET_EXPIRE (R302 step 2): VCONN off, the gate off, VBUS discharged; the port waits with its terminations
on. -/
def execPsHardResetExpire (n : Fin 48) (s : State) : Res :=
  doneIf ((s.port n).hr == .waitPs) s.fresh
    (let s1 := ((s.fresh.vconnOff n).gateOff n false).wr (PRT.TCSTS.TCSTATE n) 3
     let s2 := (s1.modPort n (fun p => { p with hr := .discharge })).discharge n
     if (s2.port n).vbus then s2 else (s2.modPort n (fun p => { p with hr := .recover })).vbusLoss n)

/-- SRC_RECOVER_EXPIRE (R302 step 3, R264): the hard reset ends and the port returns to vSafe5V through the check. -/
def execSrcRecoverExpire (n : Fin 48) (s : State) : Res :=
  doneIf ((s.port n).hr == .recover) s.fresh
    (((s.fresh.modPort n (fun p => { p with hr := .none })).handoverRelease n).tryApply n)

/-! ## Requests -/

/-- A Request is valid for an offer (R297): the object is one of those sent and both currents are within it. -/
def reqValid (offer : List (Nat × Nat)) (r : PdReq) : Bool :=
  match (if r.obj = 0 then none else offer[r.obj - 1]?) with
  | some x => decide (r.cur ≤ x.2) && decide (r.maxCur ≤ x.2)
  | none => false

/-- Power of a Request in 10 mW units: contract voltage times maximum operating current (R340). -/
def reqPower (offer : List (Nat × Nat)) (r : PdReq) : Nat :=
  match offer[r.obj - 1]? with
  | some x => volts x.1 * r.maxCur
  | none => 0

/-- A Request is Rejected (R297). -/
def State.rejectReq (s : State) (n : Nat) : State :=
  (((s.emit (.pd n .reject)).bump (PRT.PDCNT.REJECTS n)).orBits (PRT.PDSTS.EVT n) 2).rpSettle n

/-- A Request is evaluated (R297, R342, R344): Wait while PE0 is down; Reject of an invalid object, of a raise that does
not fit or is held back; otherwise the power is committed and Accept sent. -/
def State.evalRequest (s : State) (n : Nat) (r : PdReq) : State :=
  let s1 := s.modPort n (fun p => { p with awaitReq := false, hrCount := 0 })
  let offer := (s.port n).offer
  if !s.runs 8 then (s1.emit (.pd n .wait)).rpSettle n
  else if !reqValid offer r then s1.rejectReq n
  else
    let need := reqPower offer r
    if s.kOf n < need ∧ (s.heldBack n ∨ !s.fits n (need - s.kOf n)) then (s1.bump PWR.CNT.REJECTS).rejectReq n
    else
      ((s1.setK n (max (s.kOf n) need)).emit (.pd n .accept)).modPort n
        (fun p => { p with accepted := some r, transRun := true })

/-- SRC_TRANSITION_EXPIRE (R298, R319, R323): a higher I_set is set, then the target moves to the new voltage. -/
def execSrcTransitionExpire (n : Fin 48) (s : State) : Res :=
  let p := s.port n
  doneIf (p.transRun && s.pcUp n) s.fresh
    (match p.accepted with
     | none => s.fresh.modPort n (fun p => { p with transRun := false })
     | some r =>
       let code := match p.offer[r.obj - 1]? with
         | some x => x.1
         | none => 0
       let want := min (s.rd (PRT.FUSCFG.ILIM n)) (5 * r.maxCur / 4 + 10)
       let s1 := if s.rd (PRT.IBUSMEAS.ISET n) < want then s.fresh.wr (PRT.IBUSMEAS.ISET n) want else s.fresh
       if code = p.target then s1.modPort n (fun p => { p with transRun := false })
       else
         let fall := decide (code < p.target)
         let s2 := s1.fbiDrive n (s1.fbiCode n code)
         let s3 := if fall then s2.emit (.dsch n true) else s2
         s3.modPort n (fun p => { p with transRun := false, oldTarget := p.target, target := code, ramp := true,
                                         inWindow := false, dsch := fall || p.dsch, trim := 64 }))

/-- PS_RDY_SEND (R23, R320, R340, R345): VBUS has stayed in the window with power-good: the contract is in force, the
contracted power is its own and a reduction is released. -/
def execPsRdySend (n : Fin 48) (s : State) : Res :=
  let p := s.port n
  doneIf (p.accepted.isSome && !p.transRun && !p.ramp && p.inWindow && s.on (PRT.FUSSTS.PG n) && s.tc n == 6 && s.pcUp n) s.fresh
    (match p.accepted with
     | none => s.fresh
     | some r =>
       let same := s.on (PRT.PDSTS.EXPLICIT n) && s.rd (PRT.PDSTS.OBJPOS n) == r.obj &&
         s.rd (PRT.PDSTS.VSEL n) == p.target && s.rd (PRT.PDSTS.OPCURR n) == r.cur && p.maxCur == r.maxCur
       let s1 := (((s.fresh.emit (.pd n .psRdy)).raise (PRT.PDSTS.EXPLICIT n)).wr (PRT.PDSTS.OBJPOS n) r.obj)
       let s2 := (s1.wr (PRT.PDSTS.VSEL n) p.target).wr (PRT.PDSTS.OPCURR n) r.cur
       let s3 := s2.modPort n (fun p => { p with accepted := none, maxCur := r.maxCur, oldTarget := p.target,
                                                 inWindow := true, capsDue := false, capsCount := 0 })
       let c := volts p.target * r.maxCur
       let s4 := (((s3.setC n c).setK n c).setIset n).rpSettle n
       if same then s4 else s4.orBits (PRT.PDSTS.EVT n) 1)

/-! ## VCONN swap (R305, R306) -/

/-- The Galuc may become the VCONN source of a port (R303, R305, R307). -/
def State.mayVconn (s : State) (n : Nat) : Bool :=
  s.on (PRT.VCONN.ALLOW n) && s.on (SEC.STS.VCONNOK (secOf n)) && s.tc n == 6 && !(s.port n).ocOff

/-- A VCONN swap is completed (R305). -/
def State.swapDone (s : State) (n : Nat) : State :=
  ((s.bump (PRT.VCONN.SWAPCNT n)).orBits (PRT.PDSTS.EVT n) 8).modPort n (fun p => { p with swap := .none })

/-- VCONN on, PS_RDY sent: the Galuc has become the VCONN source (R305). -/
def State.swapBecome (s : State) (n : Nat) : State := ((s.vconnOn n).emit (.pd n .psRdy)).swapDone n

/-- A cable discovery asked for is sent once the Galuc is the VCONN source (R304). -/
def State.sopRun (s : State) (n : Nat) : State :=
  if (s.port n).ams.contains .sopDisc && s.on (PRT.PDSTS.VCSRC n) && (s.port n).swap == .none then
    (s.emit (.pd n .discoverIdSopP)).modPort n (fun p => { p with ams := p.ams.filter (· != .sopDisc),
                                                                  discovering := true })
  else s

/-- The Galuc sends VCONN_Swap, unless it would become a source that it may not be. -/
def State.swapSend (s : State) (n : Nat) : State :=
  if s.on (PRT.PDSTS.VCSRC n) || s.mayVconn n then
    (s.emit (.pd n .vconnSwap)).modPort n (fun p => { p with swap := .sent })
  else s.modPort n (fun p => { p with ams := p.ams.filter (· != .sopDisc) })

/-- The first of the port's own sequences runs (R301). -/
def State.amsRun (s : State) (n : Nat) : State :=
  match (s.port n).ams with
  | [] => s.modPort n (fun p => { p with sinkTx := false })
  | a :: rest =>
    let s1 := s.modPort n (fun p => { p with ams := rest, sinkTx := !rest.isEmpty })
    match a with
    | .resend => s1.sendCaps n
    | .hreset => s1.hardReset n true
    | .vcSwap => s1.swapSend n
    | .alert => ((s1.emit (.pd n .alert)).bump (PRT.PDCNT.ALERTS n)).orBits (PRT.PDSTS.EVT n) 0x40
    | .attention => s1.emit (.pd n (.attention s.pdTable.2.2.1 1))
    | .sopDisc =>
      if s.on (PRT.PDSTS.VCSRC n) then
        (s1.emit (.pd n .discoverIdSopP)).modPort n (fun p => { p with discovering := true })
      else (s1.modPort n (fun p => { p with ams := .sopDisc :: rest, sinkTx := true })).swapSend n

/-- SINK_TX_EXPIRE (R301, R308): tSinkTx has passed and no sequence is in progress: the next own sequence starts. -/
def execSinkTxExpire (n : Fin 48) (s : State) : Res :=
  let p := s.port n
  doneIf (p.sinkTx && !p.inSequence && s.tc n == 6 && s.pcUp n) s.fresh ((s.fresh.amsRun n).rpSettle n)

/-! ## Messages -/

/-- Not_Supported, or Reject at revision 2.0 (R297). -/
def State.notSupported (s : State) (n : Nat) : State :=
  s.emit (.pd n (if s.rd (PRT.PDSTS.REV n) = 1 then .reject else .notSupported))

/-- A structured VDM is answered only with an explicit contract at revision 3.x (R310). -/
def State.vdmOk (s : State) (n : Nat) : Bool := s.on (PRT.PDSTS.EXPLICIT n) && decide (2 ≤ s.rd (PRT.PDSTS.REV n))

/-- The service-console SVID, 0 for none (R309). -/
def State.consvid (s : State) : Nat := s.pdTable.2.2.1

/-- The three objects of the Discover Identity answer (R310), in USB PD's bit places. -/
def State.identityVdos (s : State) : List Nat :=
  [2 ^ 31 + (if s.consvid = 0 then 0 else 2 ^ 26) + 2 ^ 23 + s.pdTable.1, 0, s.pdTable.2.1 * 65536]

/-- Enter Mode (R311): ACKed only where allowed and the quad's service wires are free. -/
def State.enterMode (s : State) (n svid pos : Nat) : State :=
  if svid = s.consvid ∧ svid ≠ 0 ∧ pos = 1 ∧ s.on (PRT.ALTMUX.ALLOW n) ∧ !s.on (PRT.ALTMUX.ACTIVE n) ∧
      !(quadPorts (quadOf n)).any (fun m => s.on (PRT.ALTMUX.ACTIVE m)) then
    (((((s.emit (.pd n (.vdmAck 4 []))).emit (.sbu n true)).raise (PRT.ALTMUX.ACTIVE n)).raise
      (PRT.PDSTS.ALTMODE n)).orBits (PRT.PDSTS.EVT n) 0x80).setQuadHold n true
  else (s.emit (.pd n (.vdmNak 4))).bump (PRT.ALTMUX.NAKCNT n)

/-- Exit Mode (R312, R313): the pins are isolated before the ACK; after a KICK the mode is ended already, the ACK is
sent and no Attention. -/
def State.exitMode (s : State) (n svid : Nat) : State :=
  if svid = s.consvid ∧ svid ≠ 0 ∧ (s.on (PRT.ALTMUX.ACTIVE n) ∨ (s.port n).ams.contains .attention) then
    let s1 := (s.modeExit n).emit (.pd n (.vdmAck 5 []))
    s1.modPort n (fun p => { p with ams := p.ams.filter (· != .attention) })
  else s.emit (.pd n (.vdmNak 5))

/-- VCONN_Swap received (R305, R306). -/
def State.vconnSwapRx (s : State) (n : Nat) : State :=
  let s1 := if s.tc n = 7 then s.modPort n (fun p => { p with ams := p.ams.filter (· != .vcSwap), swap := .none }) else s
  if s1.on (PRT.PDSTS.VCSRC n) then (s1.emit (.pd n .accept)).modPort n (fun p => { p with swap := .leaving })
  else if s1.mayVconn n then ((s1.emit (.pd n .accept)).swapBecome n).rpSettle n
  else s1.emit (.pd n .reject)

/-- A message received as source (R297), with no power transition in progress. -/
def State.answer (s : State) (n : Nat) (m : PdRx) : State :=
  match m with
  | .request rev r => (if rev = 0 then s else s.wr (PRT.PDSTS.REV n) rev).evalRequest n r
  | .getSourceCap => s.sendCaps n
  | .softReset => (s.emit (.pd n .accept)).sendCaps n
  | .prSwap => s.emit (.pd n .reject)
  | .vconnSwap => s.vconnSwapRx n
  | .vconnSwapAccept =>
    if (s.port n).swap != .sent then s
    else if s.on (PRT.PDSTS.VCSRC n) then s.modPort n (fun p => { p with swap := .leaving })
    else ((s.swapBecome n).sopRun n).rpSettle n
  | .psRdy =>
    if (s.port n).swap != .leaving then s else (((s.vconnOff n).swapDone n).sopRun n).rpSettle n
  | .getStatus =>
    if s.rd (PRT.PDSTS.REV n) ≥ 2 then
      let w := s.on (QD.STS.WARN (quadOf n))
      s.emit (.pd n (if w then .status 0 2 else .status 2 0))
    else s.notSupported n
  | .unsupported => s.notSupported n
  | .sourceCaps => s.notSupported n
  | .otherVdm => if s.vdmOk n then s.emit (.pd n (.vdmNak 0)) else s
  | .discoverIdentity => if s.vdmOk n then s.emit (.pd n (.vdmAck 1 s.identityVdos)) else s
  | .discoverSvids =>
    if !s.vdmOk n then s
    else s.emit (.pd n (if s.consvid = 0 then .vdmNak 2 else .vdmAck 2 [s.consvid * 65536]))
  | .discoverModes svid =>
    if !s.vdmOk n then s
    else s.emit (.pd n (if s.consvid ≠ 0 ∧ svid = s.consvid then .vdmAck 3 [s.pdTable.2.2.2] else .vdmNak 3))
  | .enterMode svid pos => if s.vdmOk n then s.enterMode n svid pos else s
  | .exitMode svid => if s.vdmOk n then s.exitMode n svid else s
  | .cableIdentity cap =>
    if (s.port n).discovering then
      (((s.wr (PRT.PDSTS.CABLE n) cap).orBits (PRT.PDSTS.EVT n) 0x20).modPort n
        (fun p => { p with discovering := false })).rpSettle n
    else s
  | .hardReset => s.hardReset n false

/-- A message received in Attached.SNK (R292, R305, R306). -/
def State.answerSink (s : State) (n : Nat) (m : PdRx) : State :=
  match m with
  | .sourceCaps => s.emit (.pd n (.request 1 1))
  | .vconnSwap => s.vconnSwapRx n
  | .psRdy => if (s.port n).swap = .leaving then (s.vconnOff n).swapDone n else s
  | .prSwap => s.emit (.pd n .reject)
  | .hardReset => s.hardReset n false
  | _ => s.notSupported n

/-- The message comes from the cable, on SOP'. -/
def PdRx.fromCable : PdRx → Bool
  | .cableIdentity _ => true
  | _ => false

/-- A received message is handled by the policy core (R297): between Accept and PS_RDY any message other than Hard Reset
is a protocol error; with PD disabled nothing is sent (R299). -/
def State.handle (s : State) (n : Nat) (m : PdRx) : State :=
  if m = .hardReset then s.hardReset n false
  else if !s.on (PRT.PDCTL.PDEN n) then s
  else if s.tc n = 7 then s.answerSink n m
  else if s.tc n ≠ 6 ∨ (s.port n).hr ≠ .none then s
  else if (s.port n).accepted.isSome ∧ !m.fromCable then s.hardReset n true
  else s.answer n m

/-- A message arrives (R15, R302, R396): stored, up to four, while the link is lost or in Dusk; acknowledged only while
the policy core is down, a Hard Reset then being carried out by the port die alone. -/
def State.receive (s : State) (n : Nat) (m : PdRx) : State :=
  if s.tc n ≠ 6 ∧ s.tc n ≠ 7 then s
  else if (s.active && (s.sec (secOf n)).lost) || s.phase == .dusk then
    let s1 := s.emit (.goodCrc n)
    if (s.port n).stored.length < 4 then s1.modPort n (fun p => { p with stored := p.stored ++ [m] }) else s1
  else if !s.runs (4 + secOf n) then (if m = .hardReset then s.hardReset n false else s.emit (.goodCrc n))
  else s.handle n m

/-- The messages stored for a port are delivered in arrival order (R15). -/
def State.deliverStored (s : State) (n : Nat) : State :=
  (s.port n).stored.foldl (fun t m => t.handle n m) (s.modPort n (fun p => { p with stored := [] }))

/-- REQUEST (R296, R297): as it is handled the message's revision becomes the negotiated one, and the Request is evaluated. -/
def execRequest (n : Fin 48) (rev : Fin 4) (req : PdReq) (s : State) : Res :=
  let s := s.fresh
  done (s.receive n (.request rev req))

/-- GET_SOURCE_CAP (R297). -/
def execGetSourceCap (n : Fin 48) (s : State) : Res := done (s.fresh.receive n .getSourceCap)

/-- SOFT_RESET (R297). -/
def execSoftReset (n : Fin 48) (s : State) : Res := done (s.fresh.receive n .softReset)

/-- PR_SWAP (R297): PR_Swap and DR_Swap are Rejected. -/
def execPrSwap (n : Fin 48) (s : State) : Res := done (s.fresh.receive n .prSwap)

/-- VCONN_SWAP (R305, R306). -/
def execVconnSwap (n : Fin 48) (s : State) : Res := done (s.fresh.receive n .vconnSwap)

/-- VCONN_SWAP_ACCEPT (R305). -/
def execVconnSwapAccept (n : Fin 48) (s : State) : Res := done (s.fresh.receive n .vconnSwapAccept)

/-- PS_RDY_RECEIVED (R305): the partner sources VCONN and the Galuc turns its own off. -/
def execPsRdyReceived (n : Fin 48) (s : State) : Res := done (s.fresh.receive n .psRdy)

/-- GET_STATUS_PD (R308). -/
def execGetStatusPd (n : Fin 48) (s : State) : Res := done (s.fresh.receive n .getStatus)

/-- UNSUPPORTED_MESSAGE (R297): Not_Supported, at revision 2.0 Reject; an unstructured VDM is ignored at 2.0. -/
def execUnsupportedMessage (n : Fin 48) (unstructuredVdm : Bool) (s : State) : Res :=
  done (if unstructuredVdm && s.rd (PRT.PDSTS.REV n) == 1 && (s.port n).accepted.isNone then s.fresh
    else s.fresh.receive n .unsupported)

/-- SOURCE_CAPABILITIES_RECEIVED (R292). -/
def execSourceCapabilitiesReceived (n : Fin 48) (s : State) : Res := done (s.fresh.receive n .sourceCaps)

/-- HARD_RESET_RECEIVED (R302). -/
def execHardResetReceived (n : Fin 48) (s : State) : Res := done (s.fresh.receive n .hardReset)

/-- DISCOVER_IDENTITY (R310). -/
def execDiscoverIdentity (n : Fin 48) (s : State) : Res := done (s.fresh.receive n .discoverIdentity)

/-- DISCOVER_SVIDS (R310). -/
def execDiscoverSvids (n : Fin 48) (s : State) : Res := done (s.fresh.receive n .discoverSvids)

/-- DISCOVER_MODES (R310). -/
def execDiscoverModes (n : Fin 48) (svid : BitVec 16) (s : State) : Res :=
  done (s.fresh.receive n (.discoverModes svid.toNat))

/-- ENTER_MODE (R311). -/
def execEnterMode (n : Fin 48) (svid : BitVec 16) (pos : BitVec 3) (s : State) : Res :=
  done (s.fresh.receive n (.enterMode svid.toNat pos.toNat))

/-- EXIT_MODE (R310, R312). -/
def execExitMode (n : Fin 48) (svid : BitVec 16) (s : State) : Res := done (s.fresh.receive n (.exitMode svid.toNat))

/-- OTHER_VDM (R310): any other structured VDM command is NAKed. -/
def execOtherVdm (n : Fin 48) (cmd : BitVec 5) (s : State) : Res :=
  let s1 := s.fresh.receive n .otherVdm
  done { s1 with outs := s1.outs.map (fun o => if o = .pd n.val (.vdmNak 0) then .pd n.val (.vdmNak cmd.toNat) else o) }

/-- CABLE_IDENTITY_RESPONSE (R304). -/
def execCableIdentityResponse (n : Fin 48) (amps5 : Bool) (s : State) : Res :=
  done (s.fresh.receive n (.cableIdentity (if amps5 then 2 else 1)))

/-- SOURCE_CAPABILITIES_SEND (R298, R299): the first after power-good, and again up to nCapsCount while the port partner
does not acknowledge it. -/
def execSourceCapabilitiesSend (n : Fin 48) (s : State) : Res :=
  let p := s.port n
  doneIf (p.capsDue && s.on (PRT.FUSSTS.PG n) && s.on (PRT.PDCTL.PDEN n) && s.tc n == 6 && s.pcUp n &&
      decide (p.capsCount < 50)) s.fresh
    ((s.fresh.sendCaps n).modPort n (fun p => { p with capsCount := p.capsCount + 1 }))

/-- SENDER_RESPONSE_TIMEOUT (R298, R350): no Request within tSenderResponse: Hard Reset in an explicit contract, counted;
without one up to nHardResetCount, then error recovery. A VCONN_Swap of the Galuc's own is given up. -/
def execSenderResponseTimeout (n : Fin 48) (s : State) : Res :=
  let p := s.port n
  let s := s.fresh
  doneIf (s.pcUp n) s
    (if p.awaitReq then
      (if s.on (PRT.PDSTS.EXPLICIT n) then ((s.hardReset n true).raise PWR.EVT.IGNHR).bump PWR.CNT.IGNHR
       else if p.hrCount < 2 then (s.hardReset n true).modPort n (fun p => { p with hrCount := p.hrCount + 1 })
       else s.errorRecovery n)
     else if p.swap == .sent then
      (s.modPort n (fun p => { p with swap := .none, ams := p.ams.filter (· != .sopDisc) })).rpSettle n
     else s)

/-- PD_MESSAGE_FAILED (R298, R304): no GoodCRC after the retries: the cable is recorded as not answering; in an explicit
contract Hard Reset; an unanswered Source_Capabilities is sent again while nCapsCount allows. -/
def execPdMessageFailed (n : Fin 48) (toCable : Bool) (s : State) : Res :=
  let p := s.port n
  let s := s.fresh
  doneIf (s.pcUp n) s
    (if toCable then
      (if p.discovering then
        ((s.wr (PRT.PDSTS.CABLE n) 3).modPort n (fun p => { p with discovering := false })).rpSettle n
       else s)
     else if s.on (PRT.PDSTS.EXPLICIT n) then s.hardReset n true
     else if p.awaitReq then
       s.modPort n (fun p => { p with awaitReq := false, capsDue := decide (p.capsCount < 50) })
     else s)

/-! ## Commands of PDCTL and ALTMUX, budget requests, VCONN over-current -/

/-- One of the port's PDCTL commands is pending (R313). -/
def State.pdBusy (s : State) (n : Nat) : Bool :=
  let p := s.port n
  p.ams.contains .resend || p.ams.contains .hreset || p.ams.contains .vcSwap || p.ams.contains .sopDisc || p.swap == .sent ||
    (p.discovering && s.on (PRT.PDSTS.EXPLICIT n)) || p.hr == .waitPs

/-- What a committed write of PDEN does (R318, R299). -/
def State.pdenEffect (s : State) (n : Nat) : State :=
  if s.on (PRT.PDCTL.PDEN n) then
    if s.tc n = 6 ∧ s.on (PRT.FUSSTS.PG n) then s.modPort n (fun p => { p with capsDue := true, capsCount := 0 }) else s
  else if s.on (PRT.PDSTS.EXPLICIT n) ∨ (s.port n).accepted.isSome then s.errorRecovery n
  else (s.pdForget n).rpSettle n

/-- What a committed KICK does (R312): the mode ends and Attention follows. -/
def State.kickEffect (s : State) (n : Nat) : State :=
  if s.on (PRT.ALTMUX.ACTIVE n) then (s.modeExit n).queueAms n .attention else s

/-- BUDGET_REQUEST (R344): the policy core asks for vSafe5V after the check, where the port may be energised (R18, R76), or
for a raise. -/
def execBudgetRequest (n : Fin 48) (raise : Option PdReq) (s : State) : Res :=
  match raise with
  | none =>
    doneIf ((s.port n).ask && s.tc n == 3 && s.runs 8 && s.mayPower n && !s.on (PWR.PALLOW.WAIT n)) s.fresh
      (s.fresh.serveAsk n)
  | some r => done (s.fresh.receive n (.request 0 r))

/-- VCONN_OVERCURRENT (R307, R374). -/
def execVconnOvercurrent (n : Fin 48) (s : State) : Res :=
  doneIf (s.on (PRT.VCONN.ON n)) s.fresh
    ((((((s.fresh.vconnOff n).bump (PRT.VCONN.OCCNT n)).orBits (PRT.PDSTS.EVT n) 0x10).modPort n
      (fun p => { p with ocOff := true })).rpSettle n).record (.prt n) 4)

end Sys2Proof.Machine
end

