-- ==== Sys2Proof/Machine/HubPort.lean ====
section
/-! DEFINITION. Downstream port control (R153 to R168): the hub-class port requests of R140, the physical hub state
machine of R161, port restarts, and the indicator frames. -/

namespace Sys2Proof.Machine

/-! ## EP0 of a personality -/

/-- A new SETUP ends a transfer in progress (R144): a vendor write being staged is discarded. -/
def State.newSetup (s : State) (u : Nat) : State := (s.ctlAbort u).modUp u (fun x => { x with ctl := .request })

/-- A hub-class request (R140): not received while Detached, STALLed outside Configured (GetHubDescriptor also answered in
Address), otherwise acted on at the Setup stage. -/
def State.hubReq (s : State) (u : Nat) (inAddress : Bool) (act : State → State) : State :=
  let d := s.rd (UPS.STS.DEVSTATE u)
  if d = 0 then s
  else
    let s1 := s.newSetup u
    if d = 4 ∨ (inAddress ∧ d = 3) then act s1 else s1.emit (.usb u .stall)

/-- A port-feature request (R140): STALLed where `bad` or where `i` names no partition port; for an owned port `own`, for
another partition port `other`; then it completes. -/
def State.portReq (s : State) (u i : Nat) (bad : Bool) (own other : State → Nat → State) : State :=
  s.hubReq u false (fun s1 =>
    match s1.hubPort u i with
    | none => s1.emit (.usb u .stall)
    | some n =>
      if bad then s1.emit (.usb u .stall)
      else ((if s1.owns u n then own s1 n else other s1 n).emit (.usb u .ack)))

/-- GET_HUB_STATUS (R140): wHubStatus and wHubChange are 0. -/
def execGetHubStatus (u : Fin 4) (s : State) : Res :=
  done (s.fresh.hubReq u false (fun t => t.emit (.usb u (.data 1 [0, 0, 0, 0]))))

/-- CLEAR_HUB_FEATURE (R140): the two hub features complete with no effect; another selector is STALLed. -/
def execClearHubFeature (u : Fin 4) (sel : BitVec 16) (s : State) : Res :=
  done (s.fresh.hubReq u false (fun t => t.emit (.usb u (if sel.toNat ≤ 1 then .ack else .stall))))

/-- SET_HUB_FEATURE (R140): STALL for every selector. -/
def execSetHubFeature (u : Fin 4) (_sel : BitVec 16) (s : State) : Res :=
  done (s.fresh.hubReq u false (fun t => t.emit (.usb u .stall)))

/-- SET_HUB_DESCRIPTOR (R135): STALL. -/
def execSetHubDescriptor (u : Fin 4) (s : State) : Res :=
  done (s.fresh.hubReq u false (fun t => t.emit (.usb u .stall)))

/-- wPortStatus of a view, in USB 2.0's bit places; PORT_POWER always reads 1 in mode none (R139), else it shows what the
last Meridian took (R141). -/
def View.status (v : View) (noneMode : Bool) : Nat :=
  boolsNat [v.conn, v.en, v.susp, v.oc, v.rst, false, false, false, v.pwrSeen || noneMode, v.low, v.high, v.test, v.ind]

/-- GET_PORT_STATUS (R141): served from the personality's hub view. -/
def execGetPortStatus (u : Fin 4) (i : Byte) (s : State) : Res :=
  done (s.fresh.hubReq u false (fun t =>
    match t.hubPort u i.toNat with
    | none => t.emit (.usb u .stall)
    | some n =>
      let v := t.view u n
      t.emit (.usb u (.data 1 (leBytes 2 (v.status (t.on (UPS.CTL.PWRMODE u))) ++ leBytes 2 v.change)))))

/-! ## Port reset, suspend, test, indicator -/

/-- A port reset begins (R161, R184, R205, R225, R229): SE0 is driven, the TT is reset and the Almanac cleared with held
slots withdrawn, relay slots withdrawn, queued packets discarded, routing entries to the port made invalid. -/
def State.startReset (s : State) (n : Nat) : State :=
  let s1 := (((s.emit (.se0 n)).setHub n HS.resetting).wr (PRT.HUBSTS.HIGHSPD n) 0)
  let s2 := ((s1.ttAndAlmanac n false true).relayReset n true).rtDropOwner n
  s2.modPort n (fun p => { p with chirped := false, readdr := [], sofOn := false, kDriven := false, waking := false })

/-- Resume of a selectively suspended port begins (R161): K is driven for 20 ms. -/
def State.startResume (s : State) (n : Nat) : State :=
  if s.hub n = HS.suspended then (s.emit (.kDrive n)).setHub n HS.resuming else s

/-- What a hub-class action does to the physical port (R161): nothing in a state that has no row for it. -/
def State.hubAct (s : State) (n : Nat) (a : HubAct) : State :=
  let st := s.hub n
  match a with
  | .reset => if st = HS.disabled ∨ st = HS.enabled ∨ st = HS.suspended then s.startReset n else s
  | .suspend =>
    if st = HS.enabled then (s.leaveTo n HS.suspended).modPort n (fun p => { p with sofOn := false }) else s
  | .test sel =>
    if st = HS.disabled ∨ st = HS.suspended ∨ st = HS.disconnected then
      ((s.setHub n HS.test).wr (PRT.HUBSTS.TESTSEL n) sel).emit (.testMode n sel)
    else s
  | .disable =>
    let t := s.modPort n (fun p => { p with sofOn := false })
    if st = HS.enabled then (t.ttReset n).setHub n HS.disabling
    else if st = HS.suspended then t.setHub n HS.disabled
    else s
  | .resume => s.startResume n

/-- A hub-class action on a port: carried out by the sector engine (R16); while that engine is stopped the action waits for it
(DESIGN CHOICE, log entry 94). -/
def State.hubDo (s : State) (n : Nat) (a : HubAct) : State :=
  if s.seUp n then s.hubAct n a else s.modPort n (fun p => { p with hubActs := p.hubActs ++ [a] })

/-- The actions that waited for the sector engine are carried out, oldest first (R16). -/
def State.hubReplay (s : State) (n : Nat) : State :=
  (s.port n).hubActs.foldl (fun t a => t.hubAct n a) (s.modPort n (fun p => { p with hubActs := [] }))

/-- SET_PORT_FEATURE_PORT_RESET (R161, R141): at full speed no status bit of the view follows (R137). -/
def execSetPortFeaturePortReset (u : Fin 4) (i : Byte) (s : State) : Res :=
  done (s.fresh.portReq u i.toNat false
    (fun t n =>
      let t1 := t.hubDo n .reset
      if (t.hub n = HS.disabled ∨ t.hub n = HS.enabled ∨ t.hub n = HS.suspended) ∧ t.on (UPS.STS.HS u) then
        t1.setView u n { t.view u n with rst := true }
      else t1)
    (fun t _ => t))

/-- SET_PORT_FEATURE_PORT_SUSPEND (R161, R141, R163): at full speed no status bit of the view follows (R137). -/
def execSetPortFeaturePortSuspend (u : Fin 4) (i : Byte) (s : State) : Res :=
  done (s.fresh.portReq u i.toNat false
    (fun t n =>
      let t1 := t.hubDo n .suspend
      if t.hub n = HS.enabled ∧ t.on (UPS.STS.HS u) then t1.setView u n { t.view u n with susp := true } else t1)
    (fun t _ => t))

/-- SET_PORT_FEATURE_PORT_TEST (R161): a selector outside 1 to 5 is STALLed for every partition port. -/
def execSetPortFeaturePortTest (u : Fin 4) (i sel : Byte) (s : State) : Res :=
  done (s.fresh.portReq u i.toNat (!(decide (1 ≤ sel.toNat) && decide (sel.toNat ≤ 5)))
    (fun t n => t.hubDo n (.test sel.toNat)) (fun t _ => t))

/-- SET_PORT_FEATURE_PORT_INDICATOR (R167): works only with indicator support and INDMODE 0; a selector above 3 is
STALLed. -/
def execSetPortFeaturePortIndicator (u : Fin 4) (i sel : Byte) (s : State) : Res :=
  done (s.fresh.portReq u i.toNat (decide (3 < sel.toNat))
    (fun t n =>
      if t.on (UPS.HUBCFG.IND u) ∧ t.rd (PRT.CTL.INDMODE n) = 0 then
        t.modPort n (fun p => { p with indSel := sel.toNat })
      else t)
    (fun t _ => t))

/-- SET_PORT_FEATURE_PORT_ENABLE (R140): STALL for every partition port. -/
def execSetPortFeaturePortEnable (u : Fin 4) (i : Byte) (s : State) : Res :=
  done (s.fresh.portReq u i.toNat true (fun t _ => t) (fun t _ => t))

/-- The view bit PORT_POWER of an individual-mode personality set or cleared (R139); it acts on an owned port through
R154, and GetPortStatus shows it from the next Meridian (R141). -/
def State.viewPower (s : State) (u n : Nat) (b : Bool) : State :=
  if s.on (UPS.CTL.PWRMODE u) then s else s.setView u n { s.view u n with pwr := b }

/-- SET_PORT_FEATURE_PORT_POWER (R139, R154, R156). -/
def execSetPortFeaturePortPower (u : Fin 4) (i : Byte) (s : State) : Res :=
  done (s.fresh.portReq u i.toNat false (fun t n => (t.viewPower u n true).evalDemand n) (fun t n => t.viewPower u n true))

/-- CLEAR_PORT_FEATURE_PORT_POWER (R139, R154, R155). -/
def execClearPortFeaturePortPower (u : Fin 4) (i : Byte) (s : State) : Res :=
  done (s.fresh.portReq u i.toNat false (fun t n => (t.viewPower u n false).evalDemand n)
    (fun t n => t.viewPower u n false))

/-- CLEAR_PORT_FEATURE_PORT_ENABLE (R161). -/
def execClearPortFeaturePortEnable (u : Fin 4) (i : Byte) (s : State) : Res :=
  done (s.fresh.portReq u i.toNat false
    (fun t n => t.hubDo n .disable) (fun t _ => t))

/-- CLEAR_PORT_FEATURE_PORT_SUSPEND (R161). -/
def execClearPortFeaturePortSuspend (u : Fin 4) (i : Byte) (s : State) : Res :=
  done (s.fresh.portReq u i.toNat false (fun t n => t.hubDo n .resume) (fun t _ => t))

/-- CLEAR_PORT_FEATURE_PORT_INDICATOR (R140, R167): the indicator returns to automatic. -/
def execClearPortFeaturePortIndicator (u : Fin 4) (i : Byte) (s : State) : Res :=
  done (s.fresh.portReq u i.toNat false (fun t n => t.modPort n (fun p => { p with indSel := 0 })) (fun t _ => t))

/-- A change bit of a view cleared; with all of them clear the port is no longer newly reportable (R143). -/
def View.clearChange (v : View) (c : Nat) : View :=
  let w := if c = 0 then { v with cConn := false } else if c = 1 then { v with cEn := false }
    else if c = 2 then { v with cSusp := false } else if c = 3 then { v with cOc := false }
    else { v with cRst := false }
  if w.change = 0 then { w with fresh := false } else w

/-- CLEAR_PORT_FEATURE_CHANGE (R141): clears that change bit in the hub view at once, for any partition port. -/
def execClearPortFeatureChange (u : Fin 4) (i : Byte) (c : Fin 5) (s : State) : Res :=
  let act := fun (t : State) n => t.setView u n ((t.view u n).clearChange c)
  done (s.fresh.portReq u i.toNat false act act)

/-! ## Events of the physical port (R161, R162) -/

/-- USB_CONNECT (R161, R283): a pull-up is seen in Disconnected; a foreign source supplies no USB data (R292). -/
def execUsbConnect (n : Fin 48) (low : Bool) (s : State) : Res :=
  doneIf (s.seUp n && s.hub n == HS.disconnected && s.tc n != 7 && !(s.port n).restart) s.fresh
    (((((s.fresh.hubEvt n 0).raise (PRT.HUBSTS.CONNECTION n)).flag (PRT.HUBSTS.LOWSPD n) low).setHub n
      HS.disabled).ldsAttach n)

/-- USB_DISCONNECT (R161). -/
def execUsbDisconnect (n : Fin 48) (s : State) : Res :=
  doneIf (s.seUp n && !(s.port n).restart) s.fresh (s.fresh.hubDisconnect n)

/-- DEVICE_CHIRP (R162, R272): answered with K–J pairs unless FSONLY or a Lodestar port. -/
def execDeviceChirp (n : Fin 48) (s : State) : Res :=
  doneIf (s.seUp n && s.hub n == HS.resetting && !s.on (PRT.HUBSTS.LOWSPD n) && !s.on (PRT.CTL.FSONLY n) &&
      s.owner n != 4) s.fresh
    ((s.fresh.emit (.chirpPairs n)).modPort n (fun p => { p with chirped := true }))

/-- PORT_RESET_END (R161, R162, R225): SE0 ends, the speed is set, C_PORT_RESET latched, the port Enabled; entry 0 of the
owner's table points to the port. -/
def execPortResetEnd (n : Fin 48) (s : State) : Res :=
  doneIf (s.seUp n && s.hub n == HS.resetting) s.fresh
    (let hs := (s.port n).chirped
     let s1 := ((((s.fresh.emit (.endSignal n)).setHub n HS.enabled).flag (PRT.HUBSTS.HIGHSPD n) hs).hubEvt n 4).modPort n
         (fun p => { p with sofOn := true })
     let s2 := if s1.owner n < 4 then (s1.rtQueue (s1.owner n) 0 (some n) hs).modUp (s1.owner n)
         (fun x => { x with hubReset := none }) else s1
     if s2.owner n = 4 ∧ (s2.port n).lds.step = .resetting then s2.modLds n (fun l => { l with step := .resetWait })
     else s2)

/-- PORT_BABBLE (R161): the device transmits past EOF2 or never ends. -/
def execPortBabble (n : Fin 48) (s : State) : Res :=
  doneIf (s.seUp n && s.hub n == HS.enabled) s.fresh
    (((s.fresh.hubEvt n 1).leaveTo n HS.disabled).modPort n (fun p => { p with sofOn := false }))

/-- DISABLING_COMPLETE (R161): the transaction in progress has finished. -/
def execDisablingComplete (n : Fin 48) (s : State) : Res :=
  doneIf (s.seUp n && s.hub n == HS.disabling) s.fresh (s.fresh.leaveTo n HS.disabled)

/-- The partition that owns a port is suspended (R146). -/
def State.partSusp (s : State) (n : Nat) : Bool := decide (s.owner n < 4) && s.on (UPS.STS.SUSP (s.owner n))

/-- DEVICE_RESUME_K (R161, R163): device K for 50 µs on a selectively suspended port of a partition that is not
suspended. -/
def execDeviceResumeK (n : Fin 48) (s : State) : Res :=
  doneIf (s.seUp n && !s.partSusp n) s.fresh (s.fresh.startResume n)

/-- RESUME_DRIVE_END (R161, R285): 20 ms of K have passed; the end-of-resume is driven. A Lodestar port resumed after Dusk
has its SOF again at once. -/
def execResumeDriveEnd (n : Fin 48) (s : State) : Res :=
  let lds := s.hub n == HS.restartE && s.owner n == 4
  doneIf (s.seUp n && (s.hub n == HS.resuming || lds)) s.fresh
    (if lds then (((s.fresh.emit (.eor n)).setHub n HS.enabled).modPort n (fun p => { p with kDriven := false, sofOn := true }))
     else (s.fresh.emit (.eor n)).setHub n HS.sendEor)

/-- SEND_EOR_COMPLETE (R161): C_PORT_SUSPEND is latched and SOF restarts. -/
def execSendEorComplete (n : Fin 48) (s : State) : Res :=
  doneIf (s.seUp n && s.hub n == HS.sendEor) s.fresh
    (((s.fresh.hubEvt n 2).setHub n HS.enabled).modPort n (fun p => { p with sofOn := true }))

/-! ## Port restart (R165) -/

/-- What a committed PRSTRT does (R165, R374). -/
def State.prstrtEffect (s : State) (n : Nat) : State := (s.record (.prt n) 2).portRestart n

/-- PORT_RESTART_END (R165, R264): after 50 ms PRT[n] returns to image values, the TT is reset, the owner's view latches a
connection change where a device was connected (in a handover the gaining view only at M4, R263), a handover goes on,
and the demand is evaluated afresh. -/
def execPortRestartEnd (n : Fin 48) (s : State) : Res :=
  doneIf ((s.port n).restart && s.active) s.fresh
    (let s1 := ((s.fresh.portToImage n).ttReset n).modPort n (fun p => { p with restart := false, restartDev := false })
     let s2 := if (s.port n).restartDev && decide (s1.owner n < 4) && s1.owned n then
         s1.setView (s1.owner n) n ((s1.view (s1.owner n) n).addChange 1)
       else s1
     (s2.handoverRelease n).evalDemand n)

/-! ## Indicator frames (R168) -/

/-- The 25 bits of a sector's frame: port 12s + 11 first, amber then green, and a bit that makes the parity even. -/
def State.ledFrame (s : State) (i : Nat) : List Bool :=
  let bits := (secPorts i).reverse.flatMap (fun n => [s.indicator n == 1, s.indicator n == 2])
  bits ++ [bits.foldl (fun a b => a != b) false]

/-- A frame is sent, and INDSHOWN follows it. -/
def State.sendLed (s : State) (i : Nat) : State :=
  let s1 := s.emit (.led i (s.ledFrame i))
  (s1.forEach (secPorts i) (fun t n => t.wr (PRT.HUBSTS.INDSHOWN n) (s.indicator n))).modSec i
    (fun x => { x with ledSent := (secPorts i).map s.indicator })

/-- LED_FRAME_REFRESH (R168): every 100 ms, whether or not anything changed; Ss_LED is a pin of the port die, which the link
reaches. -/
def execLedFrameRefresh (i : Fin 4) (s : State) : Res :=
  doneIf (s.active && s.on (SEC.STS.LINK i)) s.fresh (s.fresh.sendLed i)

end Sys2Proof.Machine
end

