-- ==== Sys2Proof/Machine/Upstream.lean ====
section
/-! DEFINITION. Hub personalities (R130 to R149): states, standard requests and descriptors, the status-change endpoint,
suspend, wake and resume; and the standard requests of the rescue personality (R95). -/

namespace Sys2Proof.Machine

/-! ## The rescue personality -/

/-- Rescue runs on upstream port `u` (R94). -/
def State.resc (s : State) (u : Nat) : Bool := s.phase == .rescue && s.rescue.chosen && s.rescue.port == u

/-- The rescue personality connects on the lowest-numbered upstream port with VBUS, if one is chosen or can be (R94). -/
def State.rescuePort (s : State) : State :=
  if s.rescue.chosen then s
  else
    match (List.range 4).find? (fun u => s.vbusU.contains u) with
    | none => s
    | some u =>
      ({ s with rescue := { s.rescue with chosen := true, port := u, devstate := 1 } }.wr BOOT.RESCUE.PORT u).emit
        (.pullup u true)

/-- An upstream bus state of the rescue personality replaced. -/
def State.rescState (s : State) (d a : Nat) : State := { s with rescue := { s.rescue with devstate := d, addr := a } }

/-! ## Events on the upstream port -/

/-- A bus reset ends the suspended state and every wake in progress (R149). -/
def State.busResetEffect (s : State) (u : Nat) (hs : Bool) : State :=
  let s1 := if s.rd (UPS.STS.DEVSTATE u) = 1 then s else s.busResetActions u
  let s2 := ((((s1.wr (UPS.STS.DEVSTATE u) 2).flag (UPS.STS.HS u) hs).wr (UPS.STS.SUSP u) 0).wr (UPS.STS.ADDR u) 0).wr
    (UPS.STS.ALTSET u) 0
  let s3 := (((s2.wr (UPS.STS.RWAKEEN u) 0).raise (UPS.EVT.BUSRST u)).bump (UPS.CNT0.BUSRSTCNT u)).modUp u
    (fun x => { x with sentTog := false, sentPorts := [], halted := false })
  if hs then s3 else s3.raise (UPS.EVT.FSCONN u)

/-- The rescue personality can run at high speed: the core and PHY supplies are present (R95). -/
def State.rescueHs (s : State) : Bool :=
  !s.low.contains .vddCore && !s.low.contains .vddPhy && !s.low.contains .vdd33Phy

/-- BUS_RESET (R138, R145, R137, R144, R95). -/
def execBusReset (u : Fin 4) (hs : Bool) (s : State) : Res :=
  let d := s.rd (UPS.STS.DEVSTATE u)
  done (if s.resc u then
      (if s.rescue.devstate = 0 then s.fresh
       else { ((s.fresh.updAbort 4).mbxRelease 0).rescState 2 0 with
              rescue := { s.rescue with devstate := 2, addr := 0, hs := hs && s.rescueHs, ctl := .none } })
    else if s.active ∧ 1 ≤ d ∧ d ≤ 4 then s.fresh.busResetEffect u hs
    else s.fresh)

/-- What a committed write of UPS CTL.EN does (R138). -/
def State.enEffect (s : State) (u : Nat) : State := if s.on (UPS.CTL.EN u) then s.attachPers u else s.detachPers u

/-- A standard request to a personality in Default, Address or Configured, or to the rescue personality. -/
def State.stdReq (s : State) (u : Nat) (act : State → State) (rescue : State → State) : State :=
  if s.resc u then (if s.rescue.devstate < 2 then s else rescue { s with rescue := { s.rescue with ctl := .none } })
  else
    let d := s.rd (UPS.STS.DEVSTATE u)
    if s.active ∧ 2 ≤ d ∧ d ≤ 4 then act (s.newSetup u) else s

/-- The answer of a request that completes, or a STALL. -/
def State.ans (s : State) (u : Nat) (ok : Bool) : State := s.emit (.usb u (if ok then .ack else .stall))

/-- SET_ADDRESS (R138): taken at the status stage. -/
def State.setAddr (s : State) (u a : Nat) : State :=
  s.stdReq u
    (fun t =>
      if t.rd (UPS.STS.DEVSTATE u) ≤ 3 then
        ((t.wr (UPS.STS.ADDR u) a).wr (UPS.STS.DEVSTATE u) (if a = 0 then 2 else 3)).ans u true
      else t.ans u false)
    (fun t => if t.rescue.devstate ≤ 3 then (t.rescState (if a = 0 then 2 else 3) a).ans u true else t.ans u false)

/-- SET_ADDRESS (R138). -/
def execSetAddress (u : Fin 4) (adr : BitVec 7) (s : State) : Res := done (s.fresh.setAddr u adr.toNat)

/-- SetConfiguration (R138, R145): 1 enters Configured with alternate setting 0; 0 returns to Address with the port
actions of R145. -/
def State.setConfig (s : State) (u c : Nat) : State :=
  s.stdReq u
    (fun t =>
      let d := t.rd (UPS.STS.DEVSTATE u)
      let tog := fun (x : State) => x.modUp u (fun y => { y with sentTog := false, sentPorts := [], halted := false })
      if c = 1 ∧ (d = 3 ∨ d = 4) then
        (((tog t).wr (UPS.STS.ALTSET u) 0).wr (UPS.STS.DEVSTATE u) 4 |>.raise (UPS.EVT.CONFIG u)).ans u true
      else if c = 0 ∧ d = 4 then
        ((((tog t).portResets u).wr (UPS.STS.ALTSET u) 0).wr (UPS.STS.DEVSTATE u) 3 |>.raise (UPS.EVT.CONFIG u)).ans u true
      else t.ans u (decide (c = 0) && d == 3))
    (fun t =>
      if t.rescue.devstate = 2 ∨ 1 < c then t.ans u false
      else (t.rescState (if c = 1 then 4 else 3) t.rescue.addr).ans u true)

/-- SET_CONFIGURATION (R138). -/
def execSetConfiguration (u : Fin 4) (cfg : Byte) (s : State) : Res := done (s.fresh.setConfig u cfg.toNat)

/-- SetInterface (R136): a change of the alternate setting resets every TT of the ports the personality owns. -/
def State.setIface (s : State) (u a : Nat) : State :=
  s.stdReq u
    (fun t =>
      if t.rd (UPS.STS.DEVSTATE u) = 4 ∧ (a = 0 ∨ (a = 1 ∧ t.on (UPS.STS.HS u))) then
        let t1 := t.modUp u (fun y => { y with sentTog := false, sentPorts := [], halted := false })
        if a = t.rd (UPS.STS.ALTSET u) then t1.ans u true
        else (((t1.wr (UPS.STS.ALTSET u) a).raise (UPS.EVT.CONFIG u)).forEach (t.ownedPorts u)
          (fun x n => x.ttReset n)).ans u true
      else t.ans u false)
    (fun t => t.ans u (decide (a = 0) && t.rescue.devstate == 4))

/-- SET_INTERFACE (R136). -/
def execSetInterface (u : Fin 4) (alt : Byte) (s : State) : Res := done (s.fresh.setIface u alt.toNat)

/-! ## Descriptors (R134, R135) -/

/-- A byte. -/
def b (v : Nat) : Byte := BitVec.ofNat 8 v

/-- Bytes of the status-change bitmap for N ports (R134). -/
def mapBytes (nbr : Nat) : Nat := (nbr + 1 + 7) / 8

/-- The device descriptor at high or full speed. -/
def State.devDesc (s : State) (u : Nat) : List Byte :=
  let r := (s.up u).record
  [b 18, b 1, b 0, b 2, b 9, b 0, b (if s.on (UPS.STS.HS u) then 2 else 0), b 64] ++ leBytes 2 r.vid ++ leBytes 2 r.pid ++
    leBytes 2 r.bcd ++ [b (if r.mfr.isEmpty then 0 else 1), b (if r.prod.isEmpty then 0 else 2),
      b (if r.serial.isEmpty then 0 else 3), b 1]

/-- Interface 0 with its endpoint in one alternate setting. -/
def State.ifaceDesc (s : State) (u alt : Nat) : List Byte :=
  [b 9, b 4, b 0, b alt, b 1, b 9, b 0, b (if alt = 0 then 1 else 2), b 0, b 7, b 5, b 0x81, b 3] ++
    leBytes 2 (mapBytes (s.rd (UPS.HUBCFG.NBR u))) ++ [b (s.rd (UPS.CTL.BINTERVAL u))]

/-- A configuration descriptor of type `ty` for high or full speed. -/
def State.cfgDesc (s : State) (u ty : Nat) (hs : Bool) : List Byte :=
  [b 9, b ty] ++ leBytes 2 (if hs then 41 else 25) ++ [b 1, b 1, b 0, b (if s.on (UPS.CTL.RWAKEOK u) then 0xE0 else 0xC0),
    b 0] ++ s.ifaceDesc u 0 ++ (if hs then s.ifaceDesc u 1 else [])

/-- A string descriptor of UTF-16 code units. -/
def strDesc (cs : List Nat) : List Byte := [b (2 + 2 * cs.length), b 3] ++ cs.flatMap (leBytes 2)

/-- A standard descriptor of a personality, none where the request is STALLed (R134). -/
def State.descriptor (s : State) (u ty idx : Nat) : Option (List Byte) :=
  let r := (s.up u).record
  let hs := s.on (UPS.STS.HS u)
  if ty = 1 ∧ idx = 0 then some (s.devDesc u)
  else if ty = 2 ∧ idx = 0 then some (s.cfgDesc u 2 hs)
  else if ty = 3 then
    (if idx = 0 then some [b 4, b 3, b 9, b 4]
     else
       let cs := if idx = 1 then r.mfr else if idx = 2 then r.prod else if idx = 3 then r.serial else []
       if cs.isEmpty then none else some (strDesc cs))
  else if ty = 6 ∧ idx = 0 then some [b 10, b 6, b 0, b 2, b 9, b 0, b (if hs then 0 else 2), b 64, b 1, b 0]
  else if ty = 7 ∧ idx = 0 then some (s.cfgDesc u 7 (!hs))
  else none

/-- A descriptor of the rescue personality (R95); what R95 leaves open is `Config.rescueByte`. -/
def rescueDesc (ty idx : Nat) : Option (List Byte) :=
  let o := Config.rescueByte
  if ty = 1 ∧ idx = 0 then
    some ([b 18, b 1, b 0, b 2, b 0xFF, o 0, o 1, b 64] ++ leBytes 2 (Config.mbociaVid % 65536) ++ leBytes 2 0x48F0 ++
      [o 2, o 3, o 4, o 5, o 6, b 1])
  else if ty = 2 ∧ idx = 0 then
    some ([b 9, b 2, b 18, b 0, b 1, b 1, o 7, b 0x80, b 250, b 9, b 4, b 0, b 0, b 0, b 0xFF, o 8, o 9, o 10])
  else none

/-- Data cut to wLength, or a STALL. -/
def State.dataAns (s : State) (u : Nat) (d : Option (List Byte)) (len : Nat) : State :=
  s.emit (.usb u (match d with
    | some bs => .data 1 (bs.take len)
    | none => .stall))

/-- GET_DESCRIPTOR (R134). -/
def State.getDesc (s : State) (u wValue len : Nat) : State :=
  s.stdReq u (fun t => t.dataAns u (t.descriptor u (wValue / 256) (wValue % 256)) len)
    (fun t => t.dataAns u (rescueDesc (wValue / 256) (wValue % 256)) len)

/-- GET_DESCRIPTOR (R134). -/
def execGetDescriptor (u : Fin 4) (wValue _wIndex wLength : BitVec 16) (s : State) : Res :=
  done (s.fresh.getDesc u wValue.toNat wLength.toNat)

/-- GET_STATUS of the device (R134): bit 0 self-powered, bit 1 DEVICE_REMOTE_WAKEUP, cut to wLength. -/
def State.getSts (s : State) (u len : Nat) : State :=
  s.stdReq u (fun t => t.dataAns u (some [b (1 + 2 * t.rd (UPS.STS.RWAKEEN u)), b 0]) len)
    (fun t => t.dataAns u (some [b 0, b 0]) len)

/-- GET_STATUS (R134). -/
def execGetStatus (u : Fin 4) (s : State) : Res := done (s.fresh.getSts u 2)

/-- SetFeature(TEST_MODE) (R138), in every state but Detached: selectors 1 to 5 enter a USB 2.0 test mode. -/
def State.testMode (s : State) (u sel : Nat) : State :=
  if s.resc u then s.stdReq u id (fun t => t.ans u false)
  else if s.active ∧ s.rd (UPS.STS.DEVSTATE u) ≠ 0 then
    let t := s.newSetup u
    if 1 ≤ sel ∧ sel ≤ 5 then
      (((t.ans u true).wr (UPS.STS.DEVSTATE u) 5).emit (.upTestMode u sel)).modUp u (fun x => { x with testSel := sel })
    else t.ans u false
  else s

/-- SET_FEATURE_TEST_MODE (R138). -/
def execSetFeatureTestMode (u : Fin 4) (sel : Byte) (s : State) : Res := done (s.fresh.testMode u sel.toNat)

/-- NEW_SETUP_ABORT (R144). -/
def execNewSetupAbort (u : Fin 4) (s : State) : Res :=
  doneIf (s.active && s.rd (UPS.STS.DEVSTATE u) != 0) s.fresh (s.fresh.newSetup u)

/-- The hub descriptor (R135). -/
def State.hubDesc (s : State) (u : Nat) : List Byte :=
  let nbr := s.rd (UPS.HUBCFG.NBR u)
  let ch := (if s.on (UPS.CTL.PWRMODE u) then 2 else 1) + 8 + 128 * s.rd (UPS.HUBCFG.IND u)
  [b (7 + 2 * mapBytes nbr), b 0x29, b nbr] ++ leBytes 2 ch ++ [b (s.rd (UPS.HUBCFG.PWRON2PG u)),
    b (s.rd (UPS.HUBCFG.CONTRCUR u))] ++ List.replicate (mapBytes nbr) (b 0) ++ List.replicate (mapBytes nbr) (b 0xFF)

/-- GET_HUB_DESCRIPTOR (R135, R140): answered in Address too. -/
def execGetHubDescriptor (u : Fin 4) (wLength : BitVec 16) (s : State) : Res :=
  done (s.fresh.hubReq u true (fun t => t.dataAns u (some (t.hubDesc u)) wLength.toNat))

/-! ## Status-change endpoint (R143) -/

/-- The partition ports of `u` with a change bit set in its view. -/
def State.changedPorts (s : State) (u : Nat) : List Nat := (s.partition u).filter (fun n => (s.view u n).change != 0)

/-- The bitmap of the status-change endpoint: bit i for hub port i. -/
def State.changeMap (s : State) (u : Nat) : List Byte :=
  leBytes (mapBytes (s.rd (UPS.HUBCFG.NBR u))) (((s.changedPorts u).map (fun n => 2 ^ s.hubNumber u n)).sum)

/-- STATUS_CHANGE_IN (R143, R138, R134): no handshake outside Configured; STALL while the endpoint is halted; NAK where
nothing is newly reportable. -/
def execStatusChangeIn (u : Fin 4) (s : State) : Res :=
  doneIf (s.active && s.rd (UPS.STS.DEVSTATE u) == 4) s.fresh
    (if (s.up u).halted then s.fresh.emit (.usb u .stall)
     else if (s.partition u).any (fun n => (s.view u n).fresh) then
      (s.fresh.emit (.usb u (.data (s.up u).sentTog.toNat (s.changeMap u)))).modUp u
        (fun x => { x with sentPorts := s.changedPorts u })
     else s.fresh.emit (.usb u .nak))

/-- STATUS_CHANGE_ACK (R143): the ports carried stop being newly reportable and the toggle advances. -/
def execStatusChangeAck (u : Fin 4) (s : State) : Res :=
  doneIf (s.active && !(s.up u).sentPorts.isEmpty) s.fresh
    ((s.fresh.forEach (s.up u).sentPorts (fun t n => t.setView u n { t.view u n with fresh := false })).modUp u
      (fun x => { x with sentPorts := [], sentTog := !x.sentTog }))

/-! ## Suspend, wake and resume (R146 to R149) -/

/-- The ports that `u` owns and that are enabled. -/
def State.enabledPorts (s : State) (u : Nat) : List Nat := (s.ownedPorts u).filter (fun n => s.hub n == HS.enabled)

/-- SUSPEND (R146): SOF stops on every enabled port the personality owns; hub states do not change. -/
def execSuspend (u : Fin 4) (s : State) : Res :=
  let d := s.rd (UPS.STS.DEVSTATE u)
  doneIf (s.active && decide (2 ≤ d) && decide (d ≤ 4) && !s.on (UPS.STS.SUSP u)) s.fresh
    (((s.fresh.raise (UPS.STS.SUSP u)).raise (UPS.EVT.SUSPEND u)).forEach (s.ownedPorts u)
      (fun t n => (t.mtrPause n).modPort n (fun p => { p with sofOn := false, frameM := 16384 })))

/-- K is driven on a port for its partition's resume (R161). -/
def State.driveK (s : State) (n : Nat) : State :=
  ((s.leaveTo n HS.restartE).emit (.kDrive n)).modPort n (fun p => { p with kDriven := true })

/-- A wake event qualifies on port `n` of `u` (R147): recorded, and K driven on every other enabled port. Of several
waking ports the one with the lowest hub port number is recorded. -/
def State.wake (s : State) (u n : Nat) : State :=
  let h := s.hubNumber u n
  let ws := (s.up u).wakers
  let take := if ws.isEmpty then !s.on (UPS.WAKESRC.VALID u)
    else ws.contains (s.rd (UPS.WAKESRC.PHYS u)) && decide (h < s.rd (UPS.WAKESRC.HUBPORT u))
  let s1 := if take then ((s.raise (UPS.WAKESRC.VALID u)).wr (UPS.WAKESRC.HUBPORT u) h).wr (UPS.WAKESRC.PHYS u) n else s
  let s2 := (s1.modUp u (fun x => { x with wakers := if x.wakers.contains n then x.wakers else x.wakers ++ [n] })).modPort
    n (fun p => { p with waking := true })
  s2.forEach ((s2.enabledPorts u).filter (fun m => !(s2.port m).waking)) (fun t m => t.driveK m)

/-- WAKE_QUALIFY (R147): also on a port on which the partition's resume is already driven, which is an additional waking
port. -/
def execWakeQualify (n : Fin 48) (ev : Sys2Proof.WakeEv) (s : State) : Res :=
  let u := s.owner n
  let on := match ev with
    | .k => s.hub n == HS.enabled || s.hub n == HS.suspended || s.hub n == HS.restartE || s.hub n == HS.restartS
    | _ => s.on (UPS.CTL.CONNWAKE u)
  doneIf (s.seUp n && decide (u < 4) && s.owned n && s.partSusp n && on) s.fresh
    (if s.on (UPS.STS.RWAKEEN u) then s.fresh.wake u n else s.fresh.bump (UPS.CNT1.IGNWAKE u))

/-- UPSTREAM_K_START (R147): 100 µs after qualification, unless the host has begun its resume. -/
def execUpstreamKStart (u : Fin 4) (s : State) : Res :=
  let x := s.up u
  doneIf (s.on (UPS.STS.SUSP u) && !x.wakers.isEmpty && !x.hostResume && !x.kStarted) s.fresh
    ((s.fresh.modUp u (fun x => { x with kStarted := true })).emit (.upK u))

/-- The resume of `u`'s partition (R148, R161): K on every enabled port; a selectively suspended waking port follows. -/
def State.partResume (s : State) (u : Nat) : State :=
  let s1 := s.forEach (s.enabledPorts u) (fun t n => t.driveK n)
  s1.forEach ((s1.up u).wakers.filter (fun n => s1.hub n == HS.suspended)) (fun t n => t.setHub n HS.restartS)

/-- UPSTREAM_K_END (R147): after 2 ms the line is released to the host, whose resume goes on, or begins. -/
def execUpstreamKEnd (u : Fin 4) (s : State) : Res :=
  let x := s.up u
  doneIf (s.on (UPS.STS.SUSP u) && x.kStarted) s.fresh
    (let s1 := (s.fresh.emit (.upRelease u)).modUp u (fun x => { x with kStarted := false, hostResume := true })
     if x.hostResume then s1 else s1.partResume u)

/-- HOST_RESUME (R148): a host that begins before the Galuc drives K is a collision. -/
def execHostResume (u : Fin 4) (s : State) : Res :=
  let x := s.up u
  doneIf (s.active && s.on (UPS.STS.SUSP u)) s.fresh
    (let s1 := if !x.wakers.isEmpty && !x.kStarted && !x.hostResume then s.fresh.raise (UPS.WAKESRC.COLL u) else s.fresh
     (s1.modUp u (fun x => { x with hostResume := true })).partResume u)

/-- A port at the end of its partition's resume (R161): it is Enabled and SOF resumes; C_PORT_SUSPEND is latched for a
waking port (R148). -/
def State.resumePort (s : State) (u n : Nat) : State :=
  let wk := (s.up u).wakers.contains n
  let st := s.hub n
  let s1 := if st = HS.restartE ∨ st = HS.restartS ∨ (wk ∧ st = HS.suspended) then
      (s.emit (.endSignal n)).setHub n HS.enabled else s
  let s2 := if wk then s1.hubEvt n 2 else s1
  s2.modPort n (fun p => { p with kDriven := false, waking := false, sofOn := s2.hub n == HS.enabled, frameM := 16384 })

/-- RESUME_EOP (R148, R149): the host's end-of-resume ends the wake and the partition's suspend. -/
def execResumeEop (u : Fin 4) (s : State) : Res :=
  let woke := !(s.up u).wakers.isEmpty
  doneIf (s.active && s.on (UPS.STS.SUSP u) && (s.up u).hostResume) s.fresh
    (let s0 := s.fresh.wr (UPS.STS.SUSP u) 0
     let s1 := if (s.up u).resumeSeen then s0 else s0.raise (UPS.EVT.RESUME u)
     let s2 := if woke then (s1.raise (UPS.EVT.RWAKE u)).bump (UPS.CNT1.RWAKECNT u) else s1
     (s2.forEach (s2.ownedPorts u) (fun t n => t.resumePort u n)).modUp u
       (fun x => { x with wakers := [], kStarted := false, hostResume := false, resumeSeen := false }))

/-! ## Uu_VBUS and link errors -/

/-- Uu_VBUS appears or is lost while the part runs (R138, R294). -/
def State.vbusChange (s : State) (u : Nat) (present : Bool) : State :=
  let s1 := (s.flag (UPS.STS.VBUS u) present).raise (UPS.EVT.VBUSCHG u)
  if present then
    (if (s1.up u).debounced ∧ s1.rd (UPS.TCSTS.TCSTATE u) = 2 then s1.upSink u else s1).attachPers u
  else
    (if s1.rd (UPS.TCSTS.TCSTATE u) = 7 then s1.upUnattached u else s1).detachPers u

/-- UPSTREAM_CRC_ERRORS (R374): 16 consecutive packets with a bad CRC. -/
def execUpstreamCrcErrors (u : Fin 4) (s : State) : Res :=
  doneIf (s.active && s.rd (UPS.STS.DEVSTATE u) != 0) s.fresh
    ((s.fresh.modUp u (fun x => { x with badCrc := 0 })).record (.ups u) 1)

end Sys2Proof.Machine
end

