-- ==== Sys2Proof/Machine/Tt.lean ====
section
/-! DEFINITION. Transaction translators (R171 to R184) and the Almanac (R185 to R189): split transactions, the periodic
pipeline, learning, and what an observed control transfer changes (R184, R188, R206, R225). -/

namespace Sys2Proof.Machine

/-- Interval between two microframe counts, modulo 16,384 (R186). -/
def mDiff (a b : Nat) : Nat := (a + 16384 - b) % 16384

/-- The TT of a port runs: the port is Enabled and its engine runs (R171, R16). -/
def State.ttRuns (s : State) (n : Nat) : Bool := s.seUp n && s.hub n == HS.enabled

/-- The port a split names, owned by the sender in state OWNED (R224). -/
def State.splitPort (s : State) (u i : Nat) : Option Nat :=
  if s.active && s.rd (UPS.STS.DEVSTATE u) == 4 && s.on (UPS.STS.HS u) then
    (match s.hubPort u i with
     | some n => if s.owns u n && s.hub n == HS.enabled then some n else none
     | none => none)
  else none

/-! ## Meteor conditions (R194, R195) -/

/-- The code of the first condition of R194 that fails, 0 for none. -/
def State.mtrBlock (s : State) (n : Nat) : Nat :=
  if s.rd (PRT.MTRCFG.MODE n) = 0 then 1
  else if s.restricted then 2
  else if 4 ≤ s.owner n ∨ !s.owned n then 3
  else if s.hub n ≠ HS.enabled ∨ s.partSusp n then 4
  else if s.on (PRT.QSTS.STOPPED n) then 5
  else 0

/-- The maximum packet size taken for a key (R188), 0 where unknown. -/
def State.sizeOf (s : State) (n : Nat) (k : Key) : Nat :=
  match (s.port n).sizes.find? (fun x => x.1 == k) with
  | some x => x.2
  | none => 0

/-- The conditions of R195 beside STABLE. -/
def State.armable (s : State) (n : Nat) (e : AlmEntry) : Bool :=
  !e.iso && e.key.dirIn && e.mps != 0 && decide (e.mps ≤ 64) && !(s.port n).readdr.contains e.key.addr &&
    !(s.port n).holds.any (fun h => h.1 == e.key.addr)

/-- Worst-case cost in full-speed byte times (R178). -/
def ttCost (low hub iso : Bool) (l : Nat) : Nat :=
  let v := (7 * l + 5) / 6
  if iso then 10 + v
  else if low then 8 * (12 + v) + (if hub then 12 else 0)
  else 12 + v

/-- The L of R178 for a periodic transaction. -/
def State.lenOf (s : State) (n : Nat) (r : PerRec) : Nat :=
  if !r.key.dirIn then r.bytes.length
  else
    let m := s.sizeOf n r.key
    if m ≠ 0 then m else if r.iso then 1023 else if r.low then 8 else 64

/-! ## The Almanac (R185 to R187) -/

/-- The entry of a key, with its index. -/
def State.almFind (s : State) (n : Nat) (k : Key) : Option (Nat × AlmEntry) :=
  (s.port n).alm.find? (fun e => e.2.st != 0 && e.2.key == k)

/-- An interval that R186 learns: 8 × 2^k microframes, k = 0 to 7. -/
def learnable (d : Nat) : Bool := (List.range 8).any (fun k => d == 8 * 2 ^ k)

/-- The index for a new key (R186, R187): the lowest free one, else the LEARNING entry with the oldest SSPLIT that holds no
DATA (R202). -/
def State.almSlot (s : State) (n m : Nat) : Option Nat :=
  match (List.range 16).find? (fun k => (s.almE n k).st == 0 && (s.almE n k).pfWire.isNone) with
  | some k => some k
  | none =>
    let c := (s.port n).alm.filter (fun e => e.2.st == 1 && !heldData e.2.held)
    match c with
    | [] => none
    | e :: es => some (es.foldl (fun a b => if mDiff m a.2.lastM < mDiff m b.2.lastM then b else a) e).1

/-- An SSPLIT reaches the Almanac (R186). -/
def State.almSee (s : State) (n m : Nat) (k : Key) (iso low hub : Bool) : State :=
  if !s.on (PRT.QCFG.ALMEN n) ∨ !s.ttRuns n then s
  else
    match s.almFind n k with
    | none =>
      (match s.almSlot n m with
       | none => s.bump (PRT.QSTS.ALMFULL n)
       | some i => s.setAlm n i { AlmEntry.free with st := 1, key := k, iso := iso, low := low, behindHub := hub,
                                                     lastM := m, mps := s.sizeOf n k })
    | some (i, e) =>
      if e.st = 1 then
        let d := mDiff m e.lastM
        if learnable d ∧ d = e.lastD then
          s.setAlm n i { e with st := 2, per := d, phase := m % d, lastM := m, lastD := d, stab := 0, miss := 0 }
        else s.setAlm n i { e with lastM := m, lastD := d }
      else if m % e.per = e.phase then
        let st := if e.st = 3 ∨ 4 ≤ e.stab + 1 then 3 else 2
        let arm := e.armed || (st == 3 && e.st == 2 && s.armable n e)
        s.setAlm n i { e with st := st, stab := min 15 (e.stab + 1), miss := 0, lastM := m, armed := arm }
      else s.setAlm n i { e with st := 1, stab := 0, lastM := m, lastD := 0, armed := false, rearm := none }

/-- Expected microframes of a period and phase below a count. -/
def expBelow (per phase x : Nat) : Nat := (x + per - 1 - phase) / per

/-- Misses of an entry between the last SOF `a` and this one, `d` microframes later (R186): expected microframes passed
with no hit. -/
def missesIn (e : AlmEntry) (a d : Nat) : Nat :=
  if e.per = 0 then 0
  else
    let k := expBelow e.per e.phase (a + d) - expBelow e.per e.phase a
    if mDiff e.lastM a < d ∧ e.lastM % e.per = e.phase then k - 1 else k

/-- An entry after its misses (R186, R196, R207): at 8 it is freed, and DATA held is stranded. -/
def State.almMiss (s : State) (n i k : Nat) : State :=
  let e := s.almE n i
  let miss := e.miss + k
  if k = 0 then s
  else if 8 ≤ miss then
    (if heldData e.held then
      (s.bump (PRT.MTRSTS.STRANDED n)).modPort n (fun p => { p with strand := e.key :: p.strand })
     else s).setAlm n i e.drop
  else s.setAlm n i { e with st := if e.st = 3 then 2 else e.st, stab := 0, miss := miss,
                             armed := e.armed && decide (miss < s.rd (PRT.MTRCFG.MISSLIM n)) }

/-- What an entry's slot holds at microframe `m` (R201): a NAK or STALL only up to the end of its own expected microframe. -/
def AlmEntry.slotAt (e : AlmEntry) (m : Nat) : Option Held :=
  if heldData e.held || e.held == some .err then e.held
  else match e.pfFor with
    | some x => if mDiff x m < 8 then e.held else none
    | none => e.held

/-- The prefetch window of an entry at the start of microframe `m` (R198): whether Meteor could have run throughout, and
NOFIT at the window's end. The mark of the prefetch made for an expected poll goes once that poll is past (R197). -/
def State.almWindow (s : State) (n i m : Nat) : State :=
  let e0 := s.almE n i
  let past := match e0.pfFor with
    | some x => decide (1 ≤ mDiff m x) && decide (mDiff m x < 8192) && (e0.held.isNone || heldData e0.held)
    | none => false
  let e := if past then { e0 with pfFor := none } else e0
  let s1 := if past then s.setAlm n i e else s
  if e.per = 0 ∨ !e.armed then s1
  else
    let lead := s.rd (PRT.MTRCFG.LEAD n)
    let d := (e.phase + e.per - m % e.per) % e.per
    let ok := s.mtrBlock n == 0 && (e.slotAt m).isNone && e.pfWire.isNone
    if d = lead then s1.setAlm n i { e with winOk := ok }
    else if 1 ≤ d ∧ d < lead then s1.setAlm n i { e with winOk := e.winOk && ok }
    else if d = 0 ∧ e.winOk ∧ e.pfFor ≠ some m then
      let t := s1.setAlm n i { e with winOk := false }
      if ok then t.bump (PRT.MTRSTS.NOFIT n) else t
    else s1

/-- The owner's SOF marks a microframe on a port (R173, R186): misses are counted only while SOF is sent. -/
def State.portSof (s : State) (n m : Nat) : State :=
  if !s.ttRuns n ∨ !(s.port n).sofOn then
    s.modPort n (fun p => { p with frameM := 16384, strand := [], hitData := 0, hitNak := 0 })
  else
    let a := (s.port n).frameM
    let ks := (s.port n).alm.map (·.1)
    let s0 := s.modPort n (fun p => { p with strand := [], hitData := 0, hitNak := 0 })
    let s1 := if a = 16384 then s0
      else s0.forEach ks (fun t i =>
        let e := t.almE n i
        if 2 ≤ e.st ∨ heldData e.held then t.almMiss n i (missesIn e a (mDiff m a)) else t)
    let s2 := s1.forEach ks (fun t i => t.almWindow n i m)
    s2.modPort n (fun p => { p with frameM := m })

/-- HOST_SOF (R173): the owner's SOF on its upstream link. -/
def execHostSof (u : Fin 4) (frame : BitVec 11) (uf : BitVec 3) (s : State) : Res :=
  let m := 8 * frame.toNat + uf.toNat
  doneIf (s.active && decide (2 ≤ s.rd (UPS.STS.DEVSTATE u)) && s.on (UPS.STS.HS u) && !s.on (UPS.STS.SUSP u)) s.fresh
    (((s.fresh.modUp u (fun x => { x with frameM := m })).forEach (s.ownedPorts u) (fun t n => t.portSof n m)))

/-- ALMANAC_LEARNING_TIMEOUT (R186, R202). -/
def execAlmanacLearningTimeout (n : Fin 48) (k : Fin 16) (s : State) : Res :=
  let e := s.almE n k
  doneIf (e.st == 1 && !heldData e.held) s.fresh (s.fresh.setAlm n k AlmEntry.free)

/-- FS_FRAME_START (R173, R180): the SOF is sent; periodic work of the previous frame that was not started is late, and
its records are freed. -/
def execFsFrameStart (n : Fin 48) (s : State) : Res :=
  let p := s.port n
  let f := p.frameM - p.frameM % 8
  let keep := fun (r : PerRec) => decide (mDiff r.y f < 8)
  let late := (p.per.filter (fun r => !keep r && r.st == .queued && !r.dead)).length
  doneIf (s.ttRuns n && p.sofOn && decide (p.frameM < 16384)) s.fresh
    (((s.fresh.emit (.sof n (f / 8))).bump (PRT.QSTS.LATECNT n) late).modPort n (fun p => { p with
      per := (p.per.filter (fun r => keep r || r.st == .wire)).map
        (fun r => if keep r then r else { r with dead := true }) }))

/-! ## What a completed control transfer changes -/

/-- The endpoint sizes of a configuration descriptor (R188): interrupt and isochronous endpoints. -/
def endpointSizes (adr : Nat) : Nat → List Byte → List (Key × Nat)
  | 0, _ => []
  | fuel + 1, bs =>
    let len := fieldAt bs 0 1
    if len < 2 ∨ bs.length < len then []
    else
      let rest := endpointSizes adr fuel (bs.drop len)
      let att := fieldAt bs 3 1 % 4
      if fieldAt bs 1 1 = 5 ∧ 7 ≤ len ∧ (att = 1 ∨ att = 3) then
        (⟨adr, fieldAt bs 2 1 % 16, decide (128 ≤ fieldAt bs 2 1)⟩, fieldAt bs 4 2 % 2048) :: rest
      else rest

/-- The sizes of a device taken over (R188); an entry above 64 bytes is disarmed (R196). -/
def State.takeSizes (s : State) (n : Nat) (l : List (Key × Nat)) : State :=
  s.modPort n (fun p => { p with
    sizes := l ++ p.sizes.filter (fun x => !l.any (fun y => y.1 == x.1)),
    alm := p.alm.map (fun e => match l.find? (fun y => y.1 == e.2.key) with
      | some y => (e.1, { e.2 with mps := y.2, armed := e.2.armed && decide (y.2 ≤ 64) })
      | none => e) })

/-- The speed of the device at address 0 of `u` (R225): as the hub that its last reset passed through reported it since, or
as its own port did. -/
def State.hubSpeed (s : State) (u : Nat) (own : Bool) : Bool :=
  match (s.up u).hubReset with
  | some h => h.2.2
  | none => own

/-- What the end of a control transfer with its status stage good changes: routing (R225), the Almanac and held slots
(R184, R188, R205, R206), relay slots (R22; those of a changed address go with its routing entry, R229). `u` is the
owner; `adr` the device's address in that transfer. -/
def State.ctlDone (s : State) (u n adr : Nat) (r : Setup) (got : List Byte) : State :=
  let a := r.wValue % 128
  if r.bmReq = 0 ∧ r.bReq = 5 then
    let s1 := (s.freeAddr n adr).modPort n (fun p => { p with
      sizes := p.sizes.filter (fun x => x.1.addr != adr && x.1.addr != a),
      readdr := if adr = 0 ∨ p.readdr.contains a then p.readdr else p.readdr ++ [a] })
    (match s1.rtNext u adr with
     | some (m, hs) =>
       let fast := if adr = 0 then s.hubSpeed u hs else hs
       (s1.rtQueue u a (some m) fast).rtQueue u adr none false
     | none => s1)
  else if (r.bmReq = 0 ∧ r.bReq = 9) ∨ (r.bmReq = 1 ∧ r.bReq = 11) then
    (s.freeAddr n adr).withdrawSlots n (fun x => x.key.addr == adr)
  else if r.bmReq = 2 ∧ r.bReq = 1 ∧ r.wValue = 0 then
    let k : Key := ⟨adr, r.wIndex % 16, decide (128 ≤ r.wIndex % 256)⟩
    let s1 := s.withdrawSlots n (fun x => x.key == k)
    (match s1.almFind n k with
     | some (i, _) => let t := s1.withdrawEntry n i; t.setAlm n i { t.almE n i with toggle := 0 }
     | none => s1)
  else if r.bmReq = 0x80 ∧ r.bReq = 6 ∧ r.wValue / 256 = 2 then s.takeSizes n (endpointSizes adr got.length got)
  else if r.bmReq = 0x23 ∧ r.bReq = 3 ∧ r.wValue = 4 then
    (s.rtQueue u 0 (some n) false).modUp u (fun x => { x with hubReset := some (adr, r.wIndex % 256, false) })
  else if r.bmReq = 0xA3 ∧ r.bReq = 0 then
    s.modUp u (fun x => { x with hubReset := x.hubReset.map (fun h =>
      if h.1 = adr ∧ h.2.1 = r.wIndex % 256 then (h.1, h.2.1, bitAt (leNat got) 10) else h) })
  else s

/-! ## Non-periodic splits (R174, R175) -/

/-- The non-periodic buffers in use. -/
def PortX.npLive (p : PortX) : List NpBuf := p.np.filter (fun b => !b.dead)

/-- A control hold begins (R203): the address's entries are disarmed and its transfer is observed. -/
def State.holdBegin (s : State) (n a ep m : Nat) (r : Setup) : State :=
  s.modPort n (fun p => { p with
    holds := (a, m) :: p.holds.filter (fun h => h.1 != a),
    ctls := ⟨a, ep, r, [], decide (r.bmReq < 128) || r.wLength == 0, m⟩ :: p.ctls.filter (fun c => c.addr != a),
    alm := p.alm.map (fun e => if e.2.key.addr = a then (e.1, { e.2 with armed := false, rearm := none }) else e) })

/-- A split for a held control endpoint is seen (R204). -/
def State.holdTouch (s : State) (n a ep m : Nat) : State :=
  if (s.port n).ctls.any (fun c => c.addr == a && c.ep == ep) then
    s.modPort n (fun p => { p with holds := p.holds.map (fun h => if h.1 = a then (a, m) else h) })
  else s

/-- Bytes that the token of a split may bring (R241). -/
def tokLen (tok : Sys2Proof.SplitTok) : Nat :=
  match tok with
  | .setup _ => 8
  | .out _ bytes => bytes.length
  | .inTok => 0

/-- The token is a SETUP. -/
def tokSetup (tok : Sys2Proof.SplitTok) : Bool :=
  match tok with
  | .setup _ => true
  | _ => false

/-- SSPLIT_NONPERIODIC (R174, R183, R203, R224, R219, R241): a payload that the ingress queue has no room for is NAKed. -/
def execSsplitNonperiodic (u : Fin 4) (i : BitVec 7) (adr : BitVec 7) (ep : BitVec 4) (tok : Sys2Proof.SplitTok)
    (low crcOk : Bool) (s : State) : Res :=
  let s := s.fresh
  done (match s.splitPort u i.toNat with
    | none => s.emit (.usb u .nothing)
    | some n =>
      let inn := match tok with
        | .inTok => true
        | _ => false
      let key : Key := ⟨adr.toNat, ep.toNat, inn⟩
      let p := s.port n
      let m := (s.up u).frameM
      let s := s.holdTouch n adr.toNat ep.toNat m
      if !inn && !crcOk then (s.bump (SWX.CNTA.BADTAIL u)).emit (.usb u .nothing)
      else if s.on (PRT.QSTS.STOPPED n) || p.npLive.any (fun b => b.key == key) || decide (4 ≤ p.npLive.length) ||
          !s.inRoom (48 + u) (tokLen tok) (tokSetup tok) then
        s.emit (.usb u .nak)
      else
        let buf : NpBuf := match tok with
          | .setup req => ⟨key, some (Setup.ofBits req), low, 0, (Setup.ofBits req).bytes, .queued, false⟩
          | .out tog bytes => ⟨key, none, low, tog.toNat, bytes, .queued, false⟩
          | .inTok => ⟨key, none, low, 0, [], .queued, false⟩
        let s1 := ((s.modPort n (fun p => { p with np := p.np ++ [buf] })).iqPass (48 + u) buf.bytes).emit
          (.usb u .ack)
        match tok with
        | .setup req => s1.holdBegin n adr.toNat ep.toNat m (Setup.ofBits req)
        | _ => s1)

/-- The transfer observed on a control endpoint goes on with an answered transaction of that endpoint (R184, R188, R204): DATA,
ACK or STALL as the answer of its status stage ends it, with its effects where it is good. A NAK or no answer leaves the status
stage to come (DEDUCED, log entry 112). -/
def State.ctlAnswer (s : State) (u n : Nat) (bf : NpBuf) (h : Held) : State :=
  match (s.port n).ctls.find? (fun c => c.addr == bf.key.addr && c.ep == bf.key.ep) with
  | none => s
  | some c =>
    let status := bf.setup.isNone && bf.key.dirIn == c.statusIn
    let fin := fun (t : State) => (t.holdEnd n c.addr).modPort n
      (fun p => { p with ctls := p.ctls.filter (fun x => x.addr != c.addr) })
    let good := if c.ep = 0 then s.ctlDone u n c.addr c.setup c.got else s
    match h with
    | .data _ bs =>
      if status then fin good
      else if bf.key.dirIn then
        s.modPort n (fun p =>
          { p with ctls := p.ctls.map (fun x => if x.addr = c.addr then { x with got := x.got ++ bs } else x) })
      else s
    | .ack => if status then fin good else s
    | .stall => if status then fin s else s
    | _ => s

/-- A handshake or DATA as answered to the host. -/
def Held.ans : Held → Ans
  | .data pid bs => .data pid bs
  | .ack => .ack
  | .nak => .nak
  | .stall => .stall
  | .noResp => .nothing
  | .err => .err

/-- CSPLIT_NONPERIODIC (R174). -/
def execCsplitNonperiodic (u : Fin 4) (i : BitVec 7) (adr : BitVec 7) (ep : BitVec 4) (dirIn : Bool) (s : State) : Res :=
  let s := s.fresh
  done (match s.splitPort u i.toNat with
    | none => s.emit (.usb u .nothing)
    | some n =>
      let key : Key := ⟨adr.toNat, ep.toNat, dirIn⟩
      let s := s.holdTouch n adr.toNat ep.toNat (s.up u).frameM
      match (s.port n).np.find? (fun b => b.key == key && !b.dead) with
      | none => s.emit (.usb u .nothing)
      | some bf =>
        match bf.st with
        | .done h =>
          let s1 := (s.modPort n (fun p => { p with np := p.np.filter (fun x => !(x.key == key && !x.dead)) })).emit
            (.usb u (match h with
              | .err => .nothing
              | _ => h.ans))
          s1.ctlAnswer u n bf h
        | _ => s.emit (.usb u .nyet))

/-- A transaction or prefetch is on the port's wire. -/
def PortX.busBusy (p : PortX) : Bool :=
  p.np.any (fun b => b.st == .wire) || p.per.any (fun r => r.st == .wire) || p.alm.any (fun e => e.2.pfWire.isSome)

/-- A queued periodic transaction is ready (R177): its microframe Y has begun. -/
def PortX.ready (p : PortX) (r : PerRec) : Bool :=
  r.st == .queued && !r.dead && decide (mDiff p.frameM r.y < 8) && decide (p.frameM < 16384)

/-- A transaction on the wire has ended: a StopTT that waited for it stops the TT (R183). -/
def State.wireFree (s : State) (n : Nat) : State :=
  if (s.port n).stopDue && !(s.port n).busBusy then
    ((s.raise (PRT.QSTS.STOPPED n)).mtrPause n).modPort n (fun p => { p with stopDue := false })
  else s

/-- StopTT (R183): at once, or at the end of the transaction on the wire. -/
def State.stopTt (s : State) (n : Nat) : State := (s.modPort n (fun p => { p with stopDue := true })).wireFree n

/-- A reply that failed (R219): whether a DATA with a bad tail was received at all is open, and it is counted where it was
(log entry 108). -/
def State.badIn (s : State) (r : Nat) : State := s.free.2.bump (SWX.CNTA.BADTAIL (cntIdx r)) (s.free.1 % 2)

/-- What a non-periodic buffer stores (R175). -/
def npHeld (dirIn : Bool) (d : Dev) : Held :=
  match d with
  | .data pid bs => if dirIn then .data pid bs else .noResp
  | .ack => if dirIn then .noResp else .ack
  | .nak => .nak
  | .stall => .stall
  | _ => .noResp

/-- The Almanac's toggle after a DATA that completed with ACK (R188); isochronous entries carry 0. -/
def State.almToggle (s : State) (n : Nat) (k : Key) (pid : Nat) : State :=
  match s.almFind n k with
  | some (i, e) => if e.iso then s else s.setAlm n i { e with toggle := 1 - pid % 2 }
  | none => s

/-- The outcome of a periodic record (R176): ERR on a device error. -/
def perHeld (r : PerRec) (d : Dev) : Held :=
  match d with
  | .data pid bs => if r.key.dirIn then .data pid bs else .err
  | .ack => if r.key.dirIn then .err else .ack
  | .nak => if r.iso then .err else .nak
  | .stall => if r.iso then .err else .stall
  | _ => .err

/-- An outcome whose first `k` bytes of DATA have been released to the host already (R177). -/
def Held.rest (h : Held) (k : Nat) : Held :=
  match h with
  | .data pid bs => .data pid (bs.drop k)
  | x => x

/-- TT_TRANSACTION_COMPLETE (R175, R177, R182, R183): the transaction on the wire ends; a DATA is ACKed to the device but for an
isochronous one; a result whose buffer was freed is discarded. -/
def execTtTransactionComplete (n : Fin 48) (d : Dev) (s : State) : Res :=
  let p := s.port n
  let s := s.fresh
  done (match p.np.find? (fun b => b.st == .wire) with
    | some bf =>
      let h := npHeld bf.key.dirIn d
      let s1 := match h with
        | .data _ bs => (s.emit (.deviceAck n)).iqPass n bs
        | _ => if bf.key.dirIn && d == Dev.bad then s.badIn (s.owner n) else s
      (s1.modPort n (fun p => { p with
        np := (p.np.filter (fun b => !(b.st == .wire && b.dead))).map
          (fun b => if b.st == .wire then { b with st := .done h } else b) })).wireFree n
    | none =>
      match p.per.find? (fun r => r.st == .wire) with
      | none => s
      | some r =>
        let h := perHeld r d
        let s1 := match h with
          | .data pid bs =>
            if r.iso then s.iqPass n bs
            else ((s.emit (.deviceAck n)).almToggle n r.key pid).iqPass n bs
          | .ack => s.almToggle n r.key r.pid
          | _ => if r.key.dirIn && d == Dev.bad then s.badIn (s.owner n) else s
        (s1.modPort n (fun p => { p with
          per := (p.per.filter (fun x => !(x.st == .wire && (x.dead || (x.iso && !x.key.dirIn))))).map
            (fun x => if x.st == .wire then { x with st := .done (h.rest x.got.length) } else x) })).wireFree n)

/-! ## Periodic splits (R176 to R180) -/

/-- The periodic records in use. -/
def PortX.perLive (p : PortX) : List PerRec := p.per.filter (fun r => !r.dead)

/-- Room of the periodic store in bytes (R172): the TT region without its buffers, held slots and records. -/
def State.perStore (s : State) (n : Nat) : Nat := 64 * s.rd (PKM.RGN.SIZE (53 + n)) - 2048

/-- A record and store space are available (R176). -/
def State.perRoom (s : State) (n : Nat) (r : PerRec) : Bool :=
  let p := s.port n
  decide (p.perLive.length < 16) && decide ((p.perLive.map (s.lenOf n)).sum + s.lenOf n r ≤ s.perStore n)

/-- SSPLIT_PERIODIC (R176, R183, R185, R200): Y is the next microframe; a poll of a full Meteor slot takes the held outcome,
one whose prefetch is on the wire takes over its outcome. -/
def execSsplitPeriodic (u : Fin 4) (i : BitVec 7) (adr : BitVec 7) (ep : BitVec 4) (dirIn iso low behindHub tog : Bool)
    (bytes : List Byte) (s : State) : Res :=
  let s := s.fresh
  done (match s.splitPort u i.toNat with
    | none => s
    | some n =>
      let key : Key := ⟨adr.toNat, ep.toNat, dirIn⟩
      let m := (s.up u).frameM
      let r : PerRec := ⟨key, iso, low, behindHub, (m + 1) % 16384, tog.toNat, bytes, [], .queued, false⟩
      let e := match s.almFind n key with
        | some x => x.2
        | none => AlmEntry.free
      let k := match s.almFind n key with
        | some x => x.1
        | none => 0
      let full := e.slotAt m
      let stopped := s.on (PRT.QSTS.STOPPED n)
      let room := s.perRoom n r
      let put := fun (t : State) (x : PerRec) =>
        (t.modPort n (fun p => { p with per := p.per ++ [x] })).iqPass (48 + u) x.bytes
      let see := fun (t : State) => t.almSee n m key iso low behindHub
      if stopped || !room then
        let t := if stopped then s.bump (PRT.QSTS.LATECNT n) else s.bump (PRT.QSTS.OVFCNT n)
        if full.isSome then t else see t
      else
        match full with
        | some h =>
          let t := (put s { r with st := .done h }).setAlm n k { e with held := none }
          see (match h with
            | .data _ _ => (t.bump (PRT.MTRCNT.DATAHIT n)).modPort n (fun p => { p with hitData := p.hitData + 1 })
            | .err => t
            | _ => (t.bump (PRT.MTRCNT.NAKHIT n)).modPort n (fun p => { p with hitNak := p.hitNak + 1 }))
        | none =>
          if e.pfWire.isSome && dirIn then
            see ((put s { r with st := .wire }).setAlm n k { e with polled := true })
          else if e.held.isSome then see ((put s r).setAlm n k { e with held := none })
          else see (put s r))

/-- The late check of the periodic pipeline (R179): late transactions at its head are abandoned, the first that fits is
put on the wire. -/
def State.pipe (s : State) (n t : Nat) : List PerRec → State
  | [] => s
  | r :: rs =>
    if t + ttCost r.low r.behindHub r.iso (s.lenOf n r) ≤ 1496 then
      (s.emit (if r.key.dirIn then .deviceIn n r.key else .device n r.key r.pid r.bytes)).modPort n (fun p => { p with
        per := p.per.map (fun x => if x = r then { x with st := .wire } else x) })
    else
      ((s.bump (PRT.QSTS.LATECNT n)).modPort n (fun p => { p with
        per := if r.iso && !r.key.dirIn then p.per.filter (fun x => x != r)
               else p.per.map (fun x => if x = r then { x with st := .done .err } else x) })).pipe n t rs

/-- PERIODIC_READY (R177, R179): the head of the pipeline is judged at byte time `t` with the bus free. -/
def execPeriodicReady (n : Fin 48) (t : Nat) (s : State) : Res :=
  let p := s.port n
  doneIf (s.ttRuns n && p.sofOn && !s.on (PRT.QSTS.STOPPED n) && !p.busBusy) s.fresh
    (s.fresh.pipe n t (p.per.filter p.ready))

/-- CSPLIT_PERIODIC (R176, R177): an isochronous IN is released in 188-byte pieces as its data arrives; `arrived` is what the
wire has brought beyond the pieces released so far. The record is freed with its final answer. -/
def execCsplitPeriodic (u : Fin 4) (i : BitVec 7) (adr : BitVec 7) (ep : BitVec 4) (tok : Sys2Proof.CsplitTok)
    (s : State) : Res :=
  let s := s.fresh
  done (match s.splitPort u i.toNat with
    | none => s.emit (.usb u .nothing)
    | some n =>
      let key : Key := ⟨adr.toNat, ep.toNat, tok.dirIn⟩
      match (s.port n).per.find? (fun r => r.key == key && !r.dead) with
      | none => s.emit (.usb u .err)
      | some r =>
        let freed := s.modPort n (fun p => { p with per := p.per.filter (fun x => x != r) })
        match r.st with
        | .done (.data pid bs) =>
          if r.iso && decide (188 < bs.length) then
            (s.modPort n (fun p => { p with
              per := p.per.map (fun x => if x = r then { x with st := .done (.data pid (bs.drop 188)) } else x) })).emit
              (.usb u (.mdata (bs.take 188)))
          else freed.emit (.usb u (.data (if r.iso then 0 else pid) bs))
        | .done .noResp => freed.emit (.usb u .err)
        | .done h => freed.emit (.usb u h.ans)
        | .wire =>
          if r.iso && tok.dirIn then
            (s.modPort n (fun p => { p with
              per := p.per.map (fun x => if x = r then { x with got := x.got ++ tok.arrived.take 188 } else x) })).emit
              (.usb u (.mdata (tok.arrived.take 188)))
          else s.emit (.usb u .nyet)
        | .queued => s.emit (.usb u (if r.iso && tok.dirIn then .mdata [] else .nyet)))

/-! ## TT requests and commands (R140, R181 to R183, R189) -/

/-- ClearTTBuffer on a port's TT (R181): wValue as USB 2.0 lays it out. -/
def State.clearTt (s : State) (n v : Nat) : State :=
  let key : Key := ⟨bitsOf v 4 7, v % 16, bitAt v 15⟩
  let ty := bitsOf v 11 2
  if (ty = 0 ∨ ty = 2) ∧ (s.port n).npLive.any (fun b => b.key == key) then
    let s1 := s.modPort n (fun p => { p with
      np := (p.np.filter (fun b => !(b.key == key && b.st != .wire))).map
        (fun b => if b.key == key then { b with dead := true } else b) })
    if (s.port n).ctls.any (fun c => c.addr == key.addr && c.ep == key.ep) then
      (s1.holdEnd n key.addr).modPort n (fun p => { p with ctls := p.ctls.filter (fun c => c.addr != key.addr) })
    else s1
  else s

/-- A TT request that alternate setting 0 gives another scope (R140): `own` acts on the named port, `all` in alternate 0. -/
def State.ttReq (s : State) (u i : Nat) (own : State → Nat → State) (all : State → State) : State :=
  s.hubReq u false (fun t =>
    match t.hubPort u i with
    | none => t.emit (.usb u .stall)
    | some n =>
      (if !t.on (UPS.STS.ALTSET u) then all t else if t.owns u n then own t n else t).emit (.usb u .ack))

/-- CLEAR_TT_BUFFER (R140, R181). -/
def execClearTtBuffer (u : Fin 4) (wValue : BitVec 16) (i : Byte) (s : State) : Res :=
  done (s.fresh.ttReq u i.toNat (fun t n => t.clearTt n wValue.toNat)
    (fun t => match t.route u (bitsOf wValue.toNat 4 7) with
      | some n => if t.owns u n then t.clearTt n wValue.toNat else t
      | none => t))

/-- RESET_TT (R140, R182). -/
def execResetTt (u : Fin 4) (i : Byte) (s : State) : Res :=
  done (s.fresh.ttReq u i.toNat (fun t n => t.ttReset n) (fun t => t.forEach (t.ownedPorts u) (fun x n => x.ttReset n)))

/-- STOP_TT (R140, R183). -/
def execStopTt (u : Fin 4) (i : Byte) (s : State) : Res :=
  done (s.fresh.portReq u i.toNat false (fun t n => t.stopTt n) (fun t _ => t))

/-- GET_TT_STATE (R140): STALL. -/
def execGetTtState (u : Fin 4) (_i : Byte) (s : State) : Res :=
  done (s.fresh.hubReq u false (fun t => t.emit (.usb u .stall)))

/-- What a committed ALMCLR, or a write of ALMEN with 0, does (R189): every entry is freed, held slots with them. -/
def State.almclrEffect (s : State) (n : Nat) : State := (s.withdrawAll n true).almClear n false

/-- What a committed write of ALMEN does (R189). -/
def State.almenEffect (s : State) (n : Nat) : State := if s.on (PRT.QCFG.ALMEN n) then s else s.almclrEffect n

end Sys2Proof.Machine
end

