-- ==== Sys2Proof/Machine/Meteor.lean ====
section
/-! DEFINITION. Meteor speculative prefetch (R191 to R209): the prefetch, its outcome, held slots, control holds. -/

namespace Sys2Proof.Machine

/-- Microframes from the present one to the next expected poll of an entry, 1 to its period (R197). -/
def AlmEntry.toPoll (e : AlmEntry) (m : Nat) : Nat :=
  let d := (e.phase + e.per - m % e.per) % e.per
  if d = 0 then e.per else d

/-- An entry may be prefetched at byte time `t` in microframe `m` (R197), the bus being free and nothing periodic ready. -/
def State.mayPrefetch (s : State) (n k t : Nat) : Bool :=
  let e := s.almE n k
  let m := (s.port n).frameM
  let d := e.toPoll m
  let c := ttCost e.low e.behindHub false e.mps
  e.armed && decide (2 ≤ e.st) && decide (0 < e.per) && decide (m < 16384) && decide (d ≤ s.rd (PRT.MTRCFG.LEAD n)) &&
    (e.slotAt m).isNone && e.pfWire.isNone && e.pfFor != some ((m + d) % 16384) &&
    decide (2 * (t + c) ≤ 375 * (m % 8 + 1)) && decide (t + c ≤ 1496)

/-- Entry `k` goes before `j` when both qualify (R197): the earliest expected poll, then the lowest index. -/
def State.goesFirst (s : State) (n k j : Nat) : Bool :=
  let m := (s.port n).frameM
  let a := (s.almE n k).toPoll m
  let c := (s.almE n j).toPoll m
  decide (a < c) || (a == c && decide (k ≤ j))

/-- TT_NONPERIODIC_START (R175, R177, R183) at byte time `t`: a prefetch that qualifies then goes first (R197). -/
def execTtNonperiodicStart (at_ : Sys2Proof.PortTime) (s : State) : Res :=
  let p := s.port at_.port
  doneIf (s.ttRuns at_.port && p.sofOn && !s.on (PRT.QSTS.STOPPED at_.port) && !p.busBusy && !p.per.any p.ready &&
      s.inRoom at_.port 64 false && !(s.mtrBlock at_.port == 0 && (List.range 16).any (fun j => s.mayPrefetch at_.port j at_.time))) s.fresh
    (match p.np.find? (fun b => b.st == .queued && !b.dead) with
     | none => s.fresh
     | some bf =>
       let s1 := s.fresh.emit (if bf.key.dirIn then .deviceIn at_.port bf.key
         else .device at_.port bf.key (if bf.setup.isSome then 0x2D else bf.pid) bf.bytes)
       s1.modPort at_.port (fun p => { p with np := p.np.map (fun b => if b.key == bf.key && !b.dead then
             { b with st := .wire } else b) }))

/-- PREFETCH_START (R197, R203, R178, R241). -/
def execPrefetchStart (n : Fin 48) (k : Fin 16) (t : Nat) (s : State) : Res :=
  let p := s.port n
  let e := s.almE n k
  doneIf (s.ttRuns n && p.sofOn && s.mtrBlock n == 0 && !p.busBusy && !p.per.any p.ready &&
    s.inRoom n e.mps false && s.mayPrefetch n k t &&
      (List.range 16).all (fun j => !s.mayPrefetch n j t || s.goesFirst n k j)) s.fresh
    ((s.fresh.setAlm n k { e with held := none, wd := false, pfWire := some (s.rd (PRT.MTRCFG.MODE n)), polled := false,
                                  pfFor := some ((p.frameM + e.toPoll p.frameM) % 16384) }).emit (.deviceIn n e.key))

/-- The outcome of a prefetch under a mode (R199): what is held, none where nothing is. -/
def prefetchHeld (mode mps : Nat) (d : Dev) : Option Held :=
  match d with
  | .data pid bs => if mode = 2 ∧ bs.length ≤ mps then some (.data pid bs) else none
  | .nak => some .nak
  | .stall => some .stall
  | _ => none

/-- The record that took over a prefetch gets its outcome (R200): a DATA that NAK-only mode leaves with the device lets the
record run in Y as an ordinary transaction; anything else that is not held is a device error. -/
def State.polledOutcome (s : State) (n : Nat) (key : Key) (mode : Nat) (h : Option Held) (d : Dev) : State :=
  let st := match h with
    | some x => TtSt.done x
    | none => (match d with
      | .data _ _ => if mode = 1 then TtSt.queued else TtSt.done .err
      | _ => TtSt.done .err)
  s.modPort n (fun p => { p with
    per := (p.per.filter (fun r => !(r.key == key && r.st == .wire && r.dead))).map
      (fun r => if r.key == key && r.st == .wire then { r with st := st } else r) })

/-- PREFETCH_OUTCOME (R199, R200, R196, R209): handled under the mode in force when the prefetch started; a DATA held, or
taken over by a poll, is ACKed and advances the toggle; a STALL disarms the entry. After a withdrawal the outcome is held and
withdrawn at once. -/
def execPrefetchOutcome (n : Fin 48) (k : Fin 16) (d : Dev) (s : State) : Res :=
  let e := s.almE n k
  let s := s.fresh
  done (match e.pfWire with
    | none => s
    | some mode =>
      let h := prefetchHeld mode e.mps d
      let tog := match h with
        | some (.data pid _) => 1 - pid % 2
        | _ => e.toggle
      let e1 := { e with pfWire := none, polled := false, wd := false, toggle := tog, armed := e.armed && h != some .stall }
      let s1 := match d with
        | .data _ bs => (if heldData h then s.emit (.deviceAck n) else s).iqPass n bs
        | _ => if d == Dev.bad then s.badIn (s.owner n) else s
      let e2 := if e.st = 0 then AlmEntry.free else e1
      if e.polled then ((s1.setAlm n k e2).polledOutcome n e.key mode h d).wireFree n
      else if e.wd then
        let s2 := (s1.setAlm n k e2).wireFree n
        if heldData h then s2.bump (PRT.MTRSTS.WITHDRAWN n) else s2
      else (s1.setAlm n k { e1 with held := h }).wireFree n)

/-- A microframe count lies in the past of another, or is it (R186). -/
def reached (m x : Nat) : Bool := decide (m < 16384) && decide (mDiff m x < 8192)

/-- HELD_HANDSHAKE_EXPIRE (R201): once the expected microframe of a held NAK or STALL has ended; DATA stays. -/
def execHeldHandshakeExpire (n : Fin 48) (k : Fin 16) (s : State) : Res :=
  let e := s.almE n k
  doneIf ((e.held == some .nak || e.held == some .stall) &&
      (match e.pfFor with
       | some x => reached (s.port n).frameM x && (s.port n).frameM != x
       | none => true)) s.fresh (s.fresh.setAlm n k { e with held := none })

/-- CONTROL_HOLD_TIMEOUT (R204): 256 microframes with no split abandon the transfer. -/
def execControlHoldTimeout (n : Fin 48) (adr : BitVec 7) (s : State) : Res :=
  let m := (s.port n).frameM
  doneIf ((s.port n).holds.any (fun h => h.1 == adr.toNat && reached m h.2 && decide (256 ≤ mDiff m h.2))) s.fresh
    ((s.fresh.holdEnd n adr.toNat).modPort n (fun p => { p with ctls := p.ctls.filter (fun c => c.addr != adr.toNat) }))

/-- METEOR_REARM (R204, R195): 4 × P microframes after the hold, where R195's other conditions still hold. -/
def execMeteorRearm (n : Fin 48) (k : Fin 16) (s : State) : Res :=
  let e := s.almE n k
  doneIf (e.rearm.any (reached (s.port n).frameM)) s.fresh
    (s.fresh.setAlm n k { e with rearm := none, armed := e.armed || (decide (2 ≤ e.st) && s.armable n e &&
      decide (e.miss < s.rd (PRT.MTRCFG.MISSLIM n))) })

end Sys2Proof.Machine
end

