-- ==== Sys2Proof/Machine/Switch.lean ====
section
/-! DEFINITION. The high-speed relay and the switch core (R20 to R22, R211 to R229) over packet memory (R237 to R248):
admission, ingress queues, cut-through, release, relay slots and isochronous relay. -/

namespace Sys2Proof.Machine

/-! ## Regions and room -/

/-- Free granules of output `k`'s own allotment, the SETUP reserve of a port apart (R216, R237). -/
def State.ownFree (s : State) (k : Nat) : Nat :=
  let size := s.rd (PKM.RGN.SIZE (outRegion k)) - (if k < 48 then 1 else if k = 52 then 256 else 0)
  size - ((s.sw.packets.filter (fun p => p.out == k && p.kind != .setup)).map (fun p => p.resv - p.fromPool)).sum

/-- Granules that output `k` may still borrow (R237); the Lodestar region never borrows. -/
def State.borrowable (s : State) (k : Nat) : Nat :=
  if k = 52 then 0
  else min (s.rd PKM.CTL.BORROWMAX - ((s.sw.packets.filter (fun p => p.out == k)).map (·.fromPool)).sum)
    (s.rd PKM.GCNT2.POOLFREE)

/-- Free granules of output `k` as R216 counts them (R237). -/
def State.outFree (s : State) (k : Nat) : Nat := s.ownFree k + s.borrowable k

/-- A packet of up to 1,024 bytes is admitted at output `k` (R216, R248). -/
def State.outAdmits (s : State) (k : Nat) : Bool :=
  if s.streaming (outRegion k) then decide (1024 ≤ s.pairRoom) else decide (16 ≤ s.outFree k)

/-- No room stays at output `k` for a further 1,024-byte packet once one is reserved (R216, R248). -/
def State.outNyet (s : State) (k : Nat) : Bool :=
  if s.streaming (outRegion k) then decide (s.pairRoom < 2048) else decide (s.outFree k < 32)

/-! ## Packets -/

/-- A packet of the switch. -/
def State.pkt (s : State) (id : Nat) : Option Pkt := s.sw.packets.find? (fun p => p.id == id)

/-- The state with a packet changed. -/
def State.modPkt (s : State) (id : Nat) (g : Pkt → Pkt) : State :=
  s.modSw (fun w => { w with packets := w.packets.map (fun p => if p.id = id then g p else p) })

/-- The relay slot of a key. -/
def State.slot (s : State) (n : Nat) (k : Key) : Option Slot := (s.port n).slots.find? (fun x => x.key == k)

/-- Slots in force on a port (R231): a lower SLOTLIM takes effect once no more are in use. -/
def State.slotLimit (s : State) (n : Nat) : Nat :=
  if (s.port n).slots.length ≤ s.rd SWX.CTL.SLOTLIM then s.rd SWX.CTL.SLOTLIM else (s.port n).slotLim

/-- What a committed SLOTLIM does (R231): a port that holds more slots keeps the old number for the time being. -/
def State.slotlimEffect (s : State) (old : Nat) : State :=
  s.forEach allPorts (fun t n =>
    if t.rd SWX.CTL.SLOTLIM < (t.port n).slots.length ∧ (t.port n).slots.length ≤ old then
      t.modPort n (fun p => { p with slotLim := old })
    else t)

/-- The slot of a key changed, assigned first where one is free (R220). -/
def State.modSlot (s : State) (n : Nat) (k : Key) (iso : Bool) (g : Slot → Slot) : State :=
  match s.slot n k with
  | some _ => s.modPort n (fun p => { p with slots := p.slots.map (fun x => if x.key = k then g x else x) })
  | none =>
    if (s.port n).slots.length < s.slotLimit n then
      s.modPort n (fun p => { p with slots := p.slots ++ [g ⟨k, none, false, iso, 0, 0⟩] })
    else s

/-- A packet is voided by an uncorrectable error, or as a device fault (R250, R241): a host OUT whose tail is not answered gets
no handshake, a relay slot that held it or waited for it is given no-response; `wire` tells that it was being sent, and it is
completed there with its CRC16 inverted. Of a packet that is still being received the tail is awaited (R251). -/
def State.voidPkt (s : State) (id : Nat) (wire : Bool) : State :=
  match s.pkt id with
  | none => s
  | some p =>
    if p.asking ∨ p.void then s
    else
      let s1 := if p.tail = .receiving then
          ((s.giveUp p).modPkt id (fun q =>
            { q with void := true, rdW := q.wrW, used := 0, resv := 0, fromPool := 0 })).fallSettle
        else s.dropPkt id
      if p.kind = .inData then
        let s2 := match s1.slot p.inp p.key with
          | some x => s1.modSlot p.inp p.key x.iso
              (fun y => { y with asked := false, held := if x.iso then none else some .noResp })
          | none => s1
        if wire then s2.emit (.badCrcEndUp p.side) else s2
      else if wire then s1.emit (.badCrcEnd p.out)
      else if p.tail = .receiving ∧ p.kind = .out then s1.emit (.usb p.side .nothing)
      else s1

/-- The producer writes the words of packet `p` that are in (R240): into its ingress queue, or into the pair; those of a voided
packet are read through. A producer that finds its queue full voids the packet and records PKM source 1 (R241). -/
def State.produce (s : State) (p : Pkt) : State :=
  let ws := (packWords p.bytes).drop p.wrW |>.take (p.written - p.wrW)
  let wrote := fun (t : State) => t.modPkt p.id (fun q => { q with wrW := p.written, rdW := if q.void then p.written else q.rdW })
  if p.pair = 2 then
    wrote (s.modSw (fun w => { w with fence := { w.fence with pairPos := w.fence.pairPos + 8 * ws.length } }))
  else if s.iqWords p.inp < s.iqHeld p.inp + ws.length then (s.voidPkt p.id false).record .pkm 1
  else
    let s1 := wrote (s.iqPush p.inp ws)
    if p.void then s1.iqPop p.inp ws.length else s1

/-- The generation of `u`'s table (R226). -/
def State.gen (s : State) (u : Nat) : Nat :=
  if u = 0 then s.rd SWX.GEN.GEN0 else if u = 1 then s.rd SWX.GEN.GEN1 else if u = 2 then s.rd SWX.GEN.GEN2
  else s.rd SWX.GEN.GEN3

/-- A packet begins: its reservation is taken (R216), first in the allotment, then in the pool (R237); in streaming
fall-back it is held in the pair (R247). Words already received are in the queue. -/
def State.begin (s : State) (inp out : Nat) (kind : PktKind) (key : Key) (pid age : Nat) (bs : List Byte) (t : Tail)
    (await : Bool) : State :=
  let u := if inp ≥ 48 then inp - 48 else out - 48
  let po := s.streaming (outRegion out)
  let pair := if po then 1 else if s.streaming inp && decide (inp < 52) then 2 else 0
  let resv := if po then 0 else if kind = .setup then 1 else 16
  let pool := if po ∨ kind = .setup then 0 else 16 - min 16 (s.ownFree out)
  let id := s.sw.nextId
  let p : Pkt := ⟨id, inp, out, s.gen u, kind, key, pid, bs, t, resv, pool, 0, false, 0, 0,
    if pair = 2 then 0 else s.rd (PKM.IQPTR.WPTR inp), await, false, 0, age, s.outNyet out, pair, s.sw.fence.pairPos, false⟩
  let s1 := s.modSw (fun w => { w with packets := w.packets ++ [p], nextId := id + 1 })
  let s2 := if pool = 0 then s1 else s1.setPool (s1.rd PKM.GCNT2.POOLFREE - pool)
  if await then s2 else s2.produce p

/-- A reservation is trimmed to the granules a packet uses (R216); borrowed ones return first. -/
def State.trim (s : State) (p : Pkt) : State :=
  let own := p.resv - p.fromPool
  let g := granules p.bytes.length
  if p.pair = 1 ∨ p.kind = .setup then s
  else
    let pool := g - min g own
    let s1 := s.modPkt p.id (fun q => { q with resv := g, fromPool := pool })
    if pool < p.fromPool then s1.setPool (s1.rd PKM.GCNT2.POOLFREE + (p.fromPool - pool)) else s1

/-- The pair of R214 is permitted now. -/
def State.pairOk (s : State) (inp out : Nat) : Bool :=
  if 48 ≤ inp then decide (out < 48) && s.owns (inp - 48) out
  else decide (48 ≤ out) && s.owns (out - 48) inp

/-- The destination check of a packet (R227). -/
def State.destOk (s : State) (p : Pkt) : Bool := s.pairOk p.inp p.out

/-! ## Relay slots (R220) -/

/-- The slot whose STALL or no-response a transaction on `k` is given (R21): on endpoint 0 either direction's. The sector engine
gives it (R16). -/
def State.stopSlot (s : State) (n : Nat) (k : Key) : Option Slot :=
  if !s.seUp n then none
  else (s.port n).slots.find? (fun x => (x.key == k || (k.ep == 0 && x.key == { k with dirIn := !k.dirIn })) &&
    (x.held == some .stall || x.held == some .noResp))

/-- A STALL or no-response is given to the host and its slot cleared (R21). -/
def State.giveStop (s : State) (u n : Nat) (x : Slot) : State :=
  ((s.modSlot n x.key x.iso (fun y => { y with held := none, idle := 0 })).emit
    (.usb u (if x.held = some .stall then .stall else .nothing))).modUp u
      (fun y => { y with xfers := y.xfers.filter (fun c => x.key.ep != 0 || c.1 != x.key.addr) })

/-- The port that non-split traffic of `u` for a device address goes to (R224): the personality's link is at high speed and
not suspended, and the port is an Enabled high-speed port (R163). -/
def State.relayPort (s : State) (u a : Nat) : Option Nat :=
  let d := s.rd (UPS.STS.DEVSTATE u)
  if s.active && decide (2 ≤ d) && decide (d ≤ 4) && s.on (UPS.STS.HS u) && !s.on (UPS.STS.SUSP u) then
    (match s.route u a with
     | some n => if s.owns u n && s.hub n == HS.enabled && s.on (PRT.HUBSTS.HIGHSPD n) then some n else none
     | none => none)
  else none

/-- Non-split traffic with a high-speed device (R21): no answer where R224 gives it no port. -/
def State.relay (s : State) (u a : Nat) (act : State → Nat → State) : State :=
  match s.relayPort u a with
  | none => s.emit (.usb u .nothing)
  | some n => act s n

/-- A NAK for admission, counted (R216). -/
def State.admNak (s : State) (u : Nat) : State := (s.bump (SWX.CNTB.ADMNAK u)).emit (.usb u .nak)

/-- A relay SETUP (R21, R216): always admitted at the output; the transfer is observed (R22, R225). DESIGN CHOICE (log entry
97): a SETUP on endpoint 0 whose slot holds a STALL or no-response is ACKed by its own row of R21, and the slot keeps that
outcome for the next IN or OUT. -/
def State.relaySetup (s : State) (u a ep : Nat) (r : Setup) (ok : Bool) : State :=
  s.relay u a (fun s n =>
    if !ok then ((s.iqThrough (48 + u) r.bytes).bump (SWX.CNTA.BADTAIL u)).emit (.usb u .nothing)
    else if !s.inRoom (48 + u) 8 true then s.emit (.usb u .nothing)
    else
      ((s.begin (48 + u) n .setup ⟨a, ep, false⟩ 0x2D 0 r.bytes .good false).emit (.usb u .ack)).modUp u (fun x => { x with
        xfers := (a, ⟨a, ep, r, [], decide (r.bmReq < 128) || r.wLength == 0, x.frameM⟩) :: x.xfers.filter (fun c => c.1 != a) }))

/-! ## Commands of the host -/

/-- A standard request to a personality's own address that has no row of its own (R134, R138), as USB 2.0 chapter 9 has it:
SetFeature and ClearFeature of the device and of the status-change endpoint, GetStatus of the interface and of an endpoint,
GetConfiguration and GetInterface. -/
def State.otherReq (s : State) (u : Nat) (r : Setup) : State :=
  s.stdReq u
    (fun t =>
      let d := t.rd (UPS.STS.DEVSTATE u)
      if r.bmReq = 0 ∧ (r.bReq = 1 ∨ r.bReq = 3) ∧ r.wValue = 1 then
        (if 3 ≤ d ∧ t.on (UPS.CTL.RWAKEOK u) then (t.flag (UPS.STS.RWAKEEN u) (r.bReq == 3)).ans u true else t.ans u false)
      else if r.bmReq = 2 ∧ (r.bReq = 1 ∨ r.bReq = 3) ∧ r.wValue = 0 ∧ r.wIndex = 0x81 ∧ d = 4 then
        (if r.bReq = 3 then (t.modUp u (fun x => { x with halted := true })).ans u true
         else (t.modUp u (fun x => { x with halted := false, sentTog := false, sentPorts := [] })).ans u true)
      else if r.bmReq = 0x81 ∧ r.bReq = 0 ∧ d = 4 ∧ r.wIndex = 0 then t.dataAns u (some [b 0, b 0]) r.wLength
      else if r.bmReq = 0x82 ∧ r.bReq = 0 ∧ 3 ≤ d ∧ r.wIndex % 128 = 0 then t.dataAns u (some [b 0, b 0]) r.wLength
      else if r.bmReq = 0x82 ∧ r.bReq = 0 ∧ d = 4 ∧ r.wIndex = 0x81 then
        t.dataAns u (some [b (t.up u).halted.toNat, b 0]) r.wLength
      else if r.bmReq = 0x80 ∧ r.bReq = 8 ∧ 3 ≤ d then t.dataAns u (some [b (if d = 4 then 1 else 0)]) r.wLength
      else if r.bmReq = 0x81 ∧ r.bReq = 10 ∧ d = 4 ∧ r.wIndex = 0 then
        t.dataAns u (some [b (t.rd (UPS.STS.ALTSET u))]) r.wLength
      else t.ans u false)
    (fun t =>
      let d := t.rescue.devstate
      if r.bmReq = 0x80 ∧ r.bReq = 8 ∧ 3 ≤ d then t.dataAns u (some [b (if d = 4 then 1 else 0)]) r.wLength
      else if r.bmReq = 0x81 ∧ r.bReq = 10 ∧ d = 4 ∧ r.wIndex = 0 then t.dataAns u (some [b 0]) r.wLength
      else if r.bmReq = 0x81 ∧ r.bReq = 0 ∧ d = 4 ∧ r.wIndex = 0 then t.dataAns u (some [b 0, b 0]) r.wLength
      else if r.bmReq = 0x82 ∧ r.bReq = 0 ∧ 3 ≤ d ∧ r.wIndex % 128 = 0 then t.dataAns u (some [b 0, b 0]) r.wLength
      else t.ans u false)

/-- A vendor request with another bRequest than those of R107, which have commands of their own: STALLed in every state of the
bus, and without effect. -/
def State.vendorOther (s : State) (u : Nat) (r : Setup) : State :=
  if r.bReq = 0x40 ∨ r.bReq = 0x41 ∨ r.bReq = 0x45 then s
  else if s.resc u then
    (if s.rescue.devstate = 0 then s else { s with rescue := { s.rescue with ctl := .none } }.ans u false)
  else if s.active ∧ !s.on (UPS.STS.SUSP u) ∧ s.rd (UPS.STS.DEVSTATE u) ≠ 0 then (s.newSetup u).ans u false
  else s

/-- A request to the personality's own address, by its request code (R134, R138, R107). -/
def State.ownSetup (s : State) (u : Nat) (r : Setup) : State :=
  if r.bmReq / 32 % 4 = 2 then s.vendorOther u r
  else if r.bmReq = 0 ∧ r.bReq = 5 then s.setAddr u (r.wValue % 128)
  else if r.bmReq = 0 ∧ r.bReq = 9 then s.setConfig u (r.wValue % 256)
  else if r.bmReq = 1 ∧ r.bReq = 11 then s.setIface u (r.wValue % 256)
  else if r.bmReq = 0x80 ∧ r.bReq = 6 then s.getDesc u r.wValue r.wLength
  else if r.bmReq = 0x80 ∧ r.bReq = 0 then s.getSts u r.wLength
  else if r.bmReq = 0 ∧ r.bReq = 3 ∧ r.wValue = 2 then s.testMode u (r.wIndex / 256)
  else s.otherReq u r

/-- HOST_SETUP (R21, R216, R241, R224); a SETUP for the personality's own address never enters the switch (R211). -/
def execHostSetup (u : Fin 4) (adr : BitVec 7) (ep : BitVec 4) (req : BitVec 64) (crcOk : Bool) (s : State) : Res :=
  let s := s.fresh
  let r := Setup.ofBits req
  done (if s.resc u then (if crcOk && adr.toNat == s.rescue.addr && ep.toNat == 0 then s.ownSetup u r
      else s.emit (.usb 4 .nothing))
    else if adr.toNat = s.rd (UPS.STS.ADDR u) ∧ s.rd (UPS.STS.DEVSTATE u) ≠ 0 then
      (if crcOk && ep.toNat == 0 then s.ownSetup u r else s.emit (.usb u .nothing))
    else s.relaySetup u adr.toNat ep.toNat r crcOk)

/-- A relay OUT (R21, R216, R241): admitted or NAKed; the answer of an admitted one is given at its tail. -/
def State.relayOut (s : State) (u a ep : Nat) (tog : Bool) (bs : List Byte) : State :=
  s.relay u a (fun s n =>
    let k : Key := ⟨a, ep, false⟩
    match s.stopSlot n k with
    | some x => s.giveStop u n x
    | none =>
      if s.outAdmits n && s.inRoom (48 + u) 1024 false then s.begin (48 + u) n .out k tog.toNat 0 bs .receiving false
      else s.admNak u)

/-- An OUT or PING to the personality's own address never enters the switch (R211): on endpoint 0 it belongs to the control
transfer in progress, and without one is STALLed; no other endpoint takes it (PRESUMED, USB 2.0; log entry 111). -/
def State.ownOut (s : State) (u ep : Nat) : State :=
  s.emit (.usb u (if ep ≠ 0 then .nothing else if (s.up u).ctl = .none then .stall else .ack))

/-- `a` is the personality's own USB address. -/
def State.ownAddr (s : State) (u a : Nat) : Bool := a == s.rd (UPS.STS.ADDR u) && s.on (UPS.STS.DEVSTATE u)

/-- HOST_OUT (R21). -/
def execHostOut (u : Fin 4) (adr : BitVec 7) (ep : BitVec 4) (tog : Bool) (bytes : List Byte) (s : State) : Res :=
  done (if s.ownAddr u adr.toNat then s.fresh.ownOut u ep.toNat else s.fresh.relayOut u adr.toNat ep.toNat tog bytes)

/-- HOST_PING (R21, R216). -/
def execHostPing (u : Fin 4) (adr : BitVec 7) (ep : BitVec 4) (s : State) : Res :=
  done (if s.ownAddr u adr.toNat then s.fresh.ownOut u ep.toNat else s.fresh.relay u adr.toNat (fun s n =>
    match s.stopSlot n ⟨adr.toNat, ep.toNat, false⟩ with
    | some x => s.giveStop u n x
    | none => if s.outAdmits n && s.inRoom (48 + u) 1024 false then s.emit (.usb u .ack) else s.admNak u))

/-- One IN is issued downstream where R217, R218 and R241 allow; the slot is marked asked and the reservation taken. -/
def State.askIn (s : State) (u n : Nat) (k : Key) (iso : Bool) : State :=
  match s.slot n k with
  | none => s
  | some x =>
    if x.held.isNone && !x.asked && s.seUp n && s.hub n == HS.enabled && s.owns u n &&
        s.outAdmits (48 + u) && s.inRoom n 1024 false then
      (((s.begin n (48 + u) .inData k 0 (s.up u).frameM [] .receiving true).modSlot n k iso
        (fun y => { y with asked := true, idle := 0 })).emit (.deviceIn n k))
    else s

/-- An answered IN on a control endpoint carries an observed transfer on; a status stage ends it with its effects (R22, R225). -/
def State.xferIn (s : State) (u n a ep : Nat) (bs : List Byte) : State :=
  match (s.up u).xfers.find? (fun c => c.1 == a && c.2.ep == ep) with
  | none => s
  | some (_, c) =>
    let rest := fun (x : UpX) => x.xfers.filter (fun y => y.1 != a)
    if c.statusIn then
      let t := s.modUp u (fun x => { x with xfers := rest x })
      if c.ep = 0 then t.ctlDone u n a c.setup c.got else t
    else s.modUp u (fun x => { x with xfers := (a, { c with got := c.got ++ bs }) :: rest x })

/-- A relay IN (R21, R217, R218, R220, R221); NAK while the engine of the relay slots is stopped (R16). -/
def State.relayIn (s : State) (u a ep : Nat) (acked : Bool) : State :=
  s.relay u a (fun s n =>
    let k : Key := ⟨a, ep, true⟩
    if !s.seUp n then s.emit (.usb u .nak) else
    match s.stopSlot n k with
    | some x => s.giveStop u n x
    | none =>
      let s1 := s.modSlot n k false id
      match s1.slot n k with
      | none => (s1.bump (SWX.CNTC.NOSLOT u)).emit (.usb u .nak)
      | some x =>
        match x.held with
        | some (.data pid bs) =>
          let s2 := s1.emit (.usb u (.data pid bs))
          if acked then
            let s3 := (s2.modSlot n k false (fun y => { y with held := none, idle := 0 })).dropHeld n k
            s3.xferIn u n a ep bs
          else s2
        | _ => (s1.emit (.usb u .nak)).askIn u n k false)

/-- HOST_IN (R21); on the personality's own address, the status-change endpoint (R143). -/
def execHostIn (u : Fin 4) (adr : BitVec 7) (ep : BitVec 4) (acked : Bool) (s : State) : Res :=
  if adr.toNat = s.rd (UPS.STS.ADDR u) ∧ s.rd (UPS.STS.DEVSTATE u) ≠ 0 then
    (if ep.toNat = 1 then
      (match execStatusChangeIn u s with
       | .next t => if acked && !(t.up u).sentPorts.isEmpty && t.outs.any (fun o => o != .usb u .nak) then
            (match execStatusChangeAck u t with
             | .next v => done { v with outs := t.outs }
             | r => r)
          else .next t
       | r => r)
     else done (s.fresh.emit (.usb u .nothing)))
  else done (s.fresh.relayIn u adr.toNat ep.toNat acked)

/-! ## Isochronous relay (R222) -/

/-- HOST_ISO_IN (R222): the held DATA, or a zero-length DATA0; one IN is issued downstream. -/
def execHostIsoIn (u : Fin 4) (adr : BitVec 7) (ep : BitVec 4) (s : State) : Res :=
  done (if s.ownAddr u adr.toNat then s.fresh.emit (.usb u .nothing) else s.fresh.relay u adr.toNat (fun s n =>
    let k : Key := ⟨adr.toNat, ep.toNat, true⟩
    if !s.seUp n then s.emit (.usb u (.data 0 [])) else
    let s1 := s.modSlot n k true (fun y => { y with iso := true })
    match s1.slot n k with
    | none => (s1.bump (SWX.CNTC.NOSLOT u)).emit (.usb u (.data 0 []))
    | some x =>
      let s2 := match x.held with
        | some (.data pid bs) =>
          (((s1.emit (.usb u (.data pid bs))).modSlot n k true (fun y => { y with held := none, idle := 0 })).dropHeld n k)
        | _ => s1.emit (.usb u (.data 0 []))
      s2.askIn u n k true))

/-- HOST_ISO_OUT (R222): relayed when admitted and good, otherwise voided and counted. -/
def execHostIsoOut (u : Fin 4) (adr : BitVec 7) (ep : BitVec 4) (pid : Fin 4) (bytes : List Byte) (crcOk : Bool)
    (s : State) : Res :=
  done (if s.ownAddr u adr.toNat then s.fresh.emit (.usb u .nothing) else s.fresh.relay u adr.toNat (fun s n =>
    if !(s.outAdmits n && s.inRoom (48 + u) 1024 false) then s.bump (SWX.CNTC.ISODROP u)
    else if !crcOk then ((s.iqThrough (48 + u) bytes).bump (SWX.CNTC.ISODROP u)).bump (SWX.CNTA.BADTAIL u)
    else
      let id := s.sw.nextId
      let s1 := s.begin (48 + u) n .isoOut ⟨adr.toNat, ep.toNat, false⟩ pid.val (s.up u).frameM bytes .good false
      match s1.pkt id with
      | some p => s1.trim p
      | none => s1))

/-- ISO_OUT_LATE_DISCARD (R222). -/
def execIsoOutLateDiscard (id : Nat) (s : State) : Res :=
  done (match s.pkt id with
    | none => s.fresh
    | some p =>
      if p.kind = .isoOut ∧ mDiff (s.up p.side).frameM p.age ≠ 0 then
        (s.fresh.dropPkt id).bump (SWX.CNTC.ISODROP (cntIdx p.side))
      else s.fresh)

/-- ISO_HELD_EXPIRE (R222). -/
def execIsoHeldExpire (n : Fin 48) (adr : BitVec 7) (ep : BitVec 4) (s : State) : Res :=
  let k : Key := ⟨adr.toNat, ep.toNat, true⟩
  done (match s.slot n k with
    | some x =>
      if x.iso && s.seUp n && heldData x.held then
        ((s.fresh.modSlot n k true (fun y => { y with held := none, idle := 0 })).dropHeld n k).bump
          (SWX.CNTC.ISODROP (cntIdx (s.owner n)))
      else s.fresh
    | none => s.fresh)

/-! ## Fabric (R212, R215, R239, R242) -/

/-- No older packet of the same input is still to be copied (R239). -/
def State.atHead (s : State) (p : Pkt) : Bool :=
  !s.sw.packets.any (fun q => q.inp == p.inp && decide (q.id < p.id) && !q.copied && !q.asking && !q.void)

/-- CUT_THROUGH_START (R242): at the threshold, or once the tail has arrived. -/
def execCutThroughStart (id : Nat) (s : State) : Res :=
  done (match s.pkt id with
    | none => s.fresh
    | some p =>
      if !p.started && !p.asking && s.atHead p && (p.tail != .receiving || decide (s.rd PKM.CTL.CUTTHR ≤ p.wrW)) then
        s.fresh.modPkt id (fun q => { q with started := true })
      else s.fresh)

/-- The bank of the pair that is written next may be filled (R247): every packet of the pair that began in it before has been
read. -/
def State.bankFree (s : State) (p : Pkt) : Bool :=
  p.pair != 1 || !s.sw.packets.any (fun q => q.id != p.id && q.pair == 1 && q.inPair p.pairRegion && decide (0 < q.rdW) &&
    decide (q.pairAt / 1024 + 2 ≤ s.sw.fence.pairPos / 1024))

/-- A packet has words that the fabric may copy (R242, R212). -/
def State.copyable (s : State) (p : Pkt) : Bool := p.started && decide (p.rdW < p.wrW) && s.bankFree p

/-- The input that the fabric serves next: the first after the last one served that has words to copy (R212). -/
def State.nextIn (s : State) : Option Nat :=
  ((List.range 53).map (fun i => (s.sw.lastIn + 1 + i) % 53)).find? (fun k =>
    s.sw.packets.any (fun q => q.inp == k && s.copyable q))

/-- One beat of a packet is copied (R212): up to two words leave the queue for the output entry, in packet memory or in the
pair, and a granule written first moves from free to queued (R238). -/
def State.copyBeat (s : State) (p : Pkt) : State :=
  let k := min 2 (p.wrW - p.rdW)
  let used := if p.pair = 1 then 0 else granules (min p.bytes.length (8 * (p.rdW + k)))
  let at_ := if p.pair = 1 ∧ p.rdW = 0 then s.sw.fence.pairPos else p.pairAt
  let s1 := s.modPkt p.id (fun x => { x with rdW := p.rdW + k, used := used, pairAt := at_ })
  let s2 := if p.pair = 2 then s1 else s1.iqPop p.inp k
  let d := used - p.used
  (((s2.wr PKM.GCNT0.FREE (s2.rd PKM.GCNT0.FREE - d)).wr PKM.GCNT0.QUEUED (s2.rd PKM.GCNT0.QUEUED + d)).modSw
    (fun w => { w with beats := w.beats + 1, lastIn := p.inp,
                       fence := if p.pair = 1 then { w.fence with pairPos := w.fence.pairPos + 8 * k } else w.fence })).fallSettle

/-- FABRIC_BEAT (R212, R214, R215): a beat towards an output that the pairs of R214 do not permit is not written; its packet
is voided, SWX source 0 recorded and source 5 raised. Inputs are served in their turn. -/
def execFabricBeat (id : Nat) (out : Fin 53) (s : State) : Res :=
  done (match s.pkt id with
    | none => s.fresh
    | some p =>
      if !s.copyable p || s.nextIn != some p.inp then s.fresh
      else if s.pairOk p.inp out then (if out.val = p.out then s.fresh.copyBeat p else s.fresh)
      else if out.val = p.out then s.fresh
      else (((s.fresh.voidPkt id false).edge 5).record .swx 0))

/-- A packet's tail fails, or its destination check at the tail (R219, R227, R240): its padded last word is written, and it is
voided; a relay IN with a bad tail places no-response in its slot, but for an isochronous one (R222). One already voided is
only counted (R251). -/
def State.voidTail (s : State) (p : Pkt) (crcOk : Bool) : State :=
  let s0 := (s.modPkt p.id (fun x => { x with tail := .bad })).produce { p with tail := .bad }
  let s1 := s0.bump (if crcOk then SWX.CNTA.STALE (cntIdx p.side) else SWX.CNTA.BADTAIL (cntIdx p.side))
  let s2 := s1.dropPkt p.id
  if p.void then s2
  else if p.kind = .inData then
    (match s2.slot p.inp p.key with
     | some x => s2.modSlot p.inp p.key x.iso (fun y =>
         { y with asked := false, held := if crcOk || x.iso then none else some .noResp })
     | none => s2)
  else s2.emit (.usb p.side .nothing)

/-- PACKET_TAIL (R219, R227, R216, R21, R240): the CRC16 and the destination are checked; a host OUT is answered, a device's
DATA is ACKed; the reservation is trimmed. -/
def execPacketTail (id : Nat) (crcOk : Bool) (s : State) : Res :=
  done (match s.pkt id with
    | none => s.fresh
    | some p =>
      if p.tail ≠ .receiving ∨ p.released then s.fresh
      else if p.void ∧ crcOk then ((s.fresh.modPkt id (fun x => { x with tail := .good })).produce
          { p with tail := .good }).dropPkt id
      else if !crcOk || !s.destOk p then s.fresh.voidTail p crcOk
      else
        let s1 := (((s.fresh.modPkt id (fun x => { x with tail := .good })).trim p).produce { p with tail := .good }).fallSettle
        if p.kind = .inData then
          (match s1.slot p.inp p.key with
           | some x => if x.iso then s1 else s1.emit (.deviceAck p.inp)
           | none => s1)
        else
          let s2 := if p.bytes.isEmpty then
              s1.modUp p.side (fun x => { x with xfers := x.xfers.filter (fun c =>
                c.1 != p.key.addr || c.2.ep != p.key.ep || c.2.statusIn) })
            else s1
          if p.nyet then (s2.bump (SWX.CNTB.ADMNAK (cntIdx p.side))).emit (.usb p.side .nyet) else s2.emit (.usb p.side .ack))

/-- PACKET_RELEASE (R219, R213, R227): a checked packet in its order goes to its wire, after a PING where one is due, or
into its relay slot. A port takes packets only while it is Enabled (R161, R163); the sector engine keeps the slots (R16). -/
def execPacketRelease (id : Nat) (s : State) : Res :=
  done (match s.pkt id with
    | none => s.fresh
    | some p =>
      let older := s.sw.packets.any (fun q => q.inp == p.inp && q.out == p.out && decide (q.id < p.id) && !q.released)
      let busy := p.kind != .inData && s.sw.packets.any (fun q => q.out == p.out && q.kind != .inData && q.released)
      let ready := if p.kind = .inData then s.seUp p.inp else s.hub p.out == HS.enabled
      if p.tail ≠ .good ∨ !p.copied ∨ p.released ∨ older ∨ busy then s.fresh
      else if !s.destOk p then
        let s1 := (s.fresh.dropPkt id).bump (SWX.CNTA.STALE (cntIdx p.side))
        (match s1.slot p.inp p.key with
         | some x => if p.kind = .inData then s1.modSlot p.inp p.key x.iso (fun y => { y with asked := false }) else s1
         | none => s1)
      else if !ready then s.fresh
      else
        match p.kind with
        | .inData =>
          (s.fresh.modPkt id (fun x => { x with released := true })).modSlot p.inp p.key false
            (fun y => { y with asked := false, errors := 0, idle := 0, held := some (.data p.pid p.bytes) })
        | .isoOut =>
          let d := mDiff (s.up p.side).frameM p.age
          if d = 0 then s.fresh
          else if d = 1 then (s.fresh.emit (.device p.out p.key p.pid p.bytes)).dropPkt id
          else (s.fresh.dropPkt id).bump (SWX.CNTC.ISODROP (cntIdx p.side))
        | _ =>
          let ping := p.kind == .out && (s.port p.out).pingKeys.contains p.key
          ((s.fresh.emit (if ping then .ping p.out p.key else .device p.out p.key p.pid p.bytes)).modPkt id
            (fun x => { x with released := true, pinging := ping })))

/-! ## The device's answers (R21) -/

/-- An endpoint needs a PING before its next OUT. -/
def State.needPing (s : State) (n : Nat) (k : Key) (b : Bool) : State :=
  s.modPort n (fun p => { p with pingKeys := p.pingKeys.filter (fun x => x != k) ++ (if b then [k] else []) })

/-- Three consecutive errors of a forwarded packet place no-response in the slot (R21). -/
def State.outError (s : State) (n : Nat) (p : Pkt) : State :=
  if p.errors + 1 < 3 then s.modPkt p.id (fun x => { x with released := false, pinging := false, errors := p.errors + 1 })
  else (s.dropPkt p.id).modSlot n p.key false (fun y => { y with held := some .noResp, idle := 0 })

/-- DOWNSTREAM_OUT_RESPONSE (R21): of the packet released on the port, or of the PING sent for it. -/
def execDownstreamOutResponse (n : Fin 48) (d : Dev) (s : State) : Res :=
  let s := s.fresh
  done (match s.sw.packets.find? (fun p => p.out == n.val && p.kind != .inData && p.released) with
    | none => s
    | some p =>
      let retry := fun (t : State) => t.modPkt p.id (fun x => { x with released := false, pinging := false, errors := 0 })
      match d with
      | .ack => if p.pinging then (retry s).needPing n p.key false else (s.dropPkt p.id).needPing n p.key false
      | .nyet =>
        if p.pinging || p.kind == .setup then s.outError n p else (s.dropPkt p.id).needPing n p.key true
      | .nak => if p.kind == .setup then retry s else (retry s).needPing n p.key true
      | .stall =>
        let s1 := (s.sw.packets.filter (fun q => q.out == n.val && q.kind == .out && q.key == p.key)).foldl
          (fun t q => t.dropPkt q.id) (s.dropPkt p.id)
        (s1.needPing n p.key false).modSlot n p.key false (fun y => { y with held := some .stall, idle := 0 })
      | _ => s.outError n p)

/-- The reservation of a relay IN that brought no data is returned (R218). -/
def State.inEmpty (s : State) (n : Nat) (p : Pkt) (g : Slot → Slot) : State :=
  (s.dropPkt p.id).modSlot n p.key false (fun y => g { y with asked := false, idle := 0 })

/-- DOWNSTREAM_IN_RESPONSE (R21, R218): DATA is received, its tail follows; NAK leaves the slot empty; a third consecutive
error places no-response. -/
def execDownstreamInResponse (n : Fin 48) (adr : BitVec 7) (ep : BitVec 4) (d : Dev) (s : State) : Res :=
  let s := s.fresh
  let k : Key := ⟨adr.toNat, ep.toNat, true⟩
  done (match s.sw.packets.find? (fun p => p.inp == n.val && p.kind == .inData && p.key == k &&
      p.tail == .receiving && p.released) with
    | none => s
    | some p =>
      match d with
      | .data pid bs =>
        (s.modPkt p.id (fun x => { x with pid := pid, bytes := bs, released := false })).produce
          { p with pid := pid, bytes := bs, released := false }
      | .nak => s.inEmpty n p (fun y => { y with errors := 0 })
      | .stall => s.inEmpty n p (fun y => { y with errors := 0, held := if y.iso then none else some .stall })
      | _ => s.inEmpty n p (fun y =>
          if y.iso then y
          else if y.errors + 1 < 3 then { y with errors := y.errors + 1 }
          else { y with errors := 0, held := some .noResp }))

/-- RELAY_SLOT_FREE (R220). -/
def execRelaySlotFree (n : Fin 48) (adr : BitVec 7) (ep : BitVec 4) (dirIn : Bool) (s : State) : Res :=
  let k : Key := ⟨adr.toNat, ep.toNat, dirIn⟩
  done (match s.slot n k with
    | some x =>
      if s.seUp n && x.held.isNone && !x.asked && decide (8 ≤ x.idle) &&
         !s.sw.packets.any (fun p => p.port == n && p.key == k) then
        s.fresh.modPort n (fun p => { p with slots := p.slots.filter (fun y => y.key != k) })
      else s.fresh
    | none => s.fresh)

/-- GRANULE_RETURN (R238): every in-flight granule is free again. -/
def execGranuleReturn (s : State) : Res :=
  let k := s.rd PKM.GCNT1.INFLIGHT
  done ((s.fresh.wr PKM.GCNT1.INFLIGHT 0).wr PKM.GCNT0.FREE (s.rd PKM.GCNT0.FREE + k))

end Sys2Proof.Machine
end

