-- ==== Sys2Proof/Machine/PacketMem.lean ====
section
/-! DEFINITION. Packet memory errors, fences, retirement and the region descriptors (R232 to R252). -/

namespace Sys2Proof.Machine

/-- The region that holds a granule; none for the free pool (R234). -/
def State.regionOf (s : State) (g : Nat) : Option Nat :=
  (List.range 155).find? (fun d => decide (s.rd (PKM.RGN.BASE d) ≤ g) &&
      decide (g < s.rd (PKM.RGN.BASE d) + s.rd (PKM.RGN.SIZE d)))

/-- The port whose region `d` is (R234). -/
def regionPort (d : Nat) : Option Nat :=
  if d < 48 then some d else if 53 ≤ d ∧ d < 101 then some (d - 53) else if 101 ≤ d ∧ d < 149 then some (d - 101) else none

/-- The memory note of a port's region (R250). -/
def State.pnote (s : State) (d : Option Nat) : State :=
  match d.bind regionPort with
  | some n => if n < 32 then s.orBits PKM.PNOTE0.P00_P31 (2 ^ n) else s.orBits PKM.PNOTE1.P32_P47 (2 ^ (n - 32))
  | none => s

/-- The fence record changed. -/
def State.modFence (s : State) (g : FenceX → FenceX) : State := s.modSw (fun w => { w with fence := g w.fence })

/-- FENCE.PEND follows the pending list. -/
def State.showPend (s : State) : State := s.wr PKM.FENCE.PEND s.sw.fence.pending.length

/-- A line with an error joins the pending list (R245): at its end, or at its head for an uncorrectable error. -/
def State.listLine (s : State) (line : Nat) (head : Bool) : State :=
  let f := s.sw.fence
  if f.active = some line then s
  else if f.pending.contains line then
    (if head then s.modFence (fun f => { f with pending := line :: f.pending.filter (· != line) }) else s)
  else if 16 ≤ f.pending.length then s.bump PKM.ECCCNT.NOFENCE
  else (s.modFence (fun f => { f with pending := if head then line :: f.pending else f.pending ++ [line] })).showPend

/-- CORRECTED_ERROR (R233, R245, R251). -/
def execCorrectedError (line : Fin 32768) (s : State) : Res :=
  done (((s.fresh.bump PKM.ECCCNT.CORR).edgeAtMeridian 425).listLine line false)

/-- Granules that a packet has written into its own allotment, or into borrowed ones (R237). -/
def Pkt.inOwn (p : Pkt) : Nat := min p.used (p.resv - p.fromPool)

/-- Granules that a packet has written into the pool. -/
def Pkt.inPool (p : Pkt) : Nat := p.used - p.inOwn

/-- The packet that holds part of a line of an output region, or of the pool (R238): which granules a packet uses is open
where the region holds some and is not full. -/
def State.lineHolder (s : State) (d : Option Nat) : Option Nat × State :=
  let ps : List Pkt := match d with
    | some d => s.sw.packets.filter (fun p => outRegion p.out == d && decide (0 < p.inOwn))
    | none => s.sw.packets.filter (fun p => decide (0 < p.inPool))
  let full := match d with
    | some d => decide (s.rd (PKM.RGN.SIZE d) ≤ (ps.map Pkt.inOwn).sum)
    | none => false
  if ps.isEmpty then (none, s)
  else ((ps[s.free.1 % (if full then ps.length else ps.length + 1)]?).map (·.id), s.free.2)

/-- Fall-back mode of a region (R247): 1 streaming, 2 overlay, 0 none. -/
def fallMode (d : Option Nat) : Nat :=
  match d with
  | some d => if d < 52 ∨ (101 ≤ d ∧ d < 153) then 1 else if d = 154 then 0 else 2
  | none => 0

/-- A granule leaves, or comes back to, the state Queued or Free (R238). -/
def State.granule (s : State) (queued back : Bool) : State :=
  let f := if queued then PKM.GCNT0.QUEUED else PKM.GCNT0.FREE
  s.wr f (if back then s.rd f + 1 else s.rd f - 1)

/-- FENCE_START (R245, R246, R247, R250): the line is copied into the fence buffer, and its region enters fall-back. -/
def execFenceStart (s : State) : Res :=
  let f := s.sw.fence
  done (match f.active, f.pending with
    | none, line :: rest =>
      if f.writeback || f.ending then s.fresh
      else
        let d := s.regionOf line
        let mode := fallMode d
        let whole := mode = 2 ∨ d.any (· < 52)
        let h := if whole then (none, s.fresh) else s.fresh.lineHolder d
        let q := decide whole || h.1.isSome
        let left := s.sw.packets.any (fun p => p.inPair (d.getD 155))
        let s1 := (h.2.modSw (fun w => { w with fence := { w.fence with buf := w.line line } })).modFence (fun f =>
          { f with pending := rest, active := some line, mode := mode, queued := q, region := d.getD 155, waiting := false,
                   holder := h.1, pairPos := if left then f.pairPos else 0 })
        let s2 := ((((s1.showPend.wr PKM.FENCE.LINE line).raise PKM.FENCE.ACTIVE).wr PKM.FENCE.RESULT 0).flag
          PKM.FENCE.FALLBACK (mode != 0)).raise PKM.GCNT1.FENCED
        let s3 := (s2.granule q false).pnote d
        if d.isNone ∧ !q then s3.setPool (s3.rd PKM.GCNT2.POOLFREE - 1) else s3
    | _, _ => s.fresh)

/-- A fence ends (R246, R247): the buffer has gone back into the line, or into its replacement; streaming fall-back is over for
new packets, and altogether once none is being written into the pair; an overlay is written back first. -/
def State.fenceEnd (s : State) (result : Nat) : State :=
  let f := s.sw.fence
  let s0 := s.modSw (fun w => ({ w with fence := { w.fence with active := none } }).putLine (f.active.getD 0) f.buf)
  let s1 := ((s0.wr PKM.FENCE.ACTIVE 0).wr PKM.FENCE.RESULT result).wr PKM.GCNT1.FENCED 0
  let s2 := s1.granule f.queued true
  let s3 := if f.region = 155 ∧ !f.queued then s2.setPool (s2.rd PKM.GCNT2.POOLFREE + 1) else s2
  let s4 := s3.modFence (fun f => { f with waiting := false, holder := none, buf := [] })
  if f.mode = 2 then s4.modFence (fun f => { f with writeback := true })
  else if f.mode = 1 then (s4.modFence (fun f => { f with ending := true })).fallSettle
  else s4

/-- The lowest-numbered unused spare line (R249). -/
def State.freeSpare (s : State) : Option Nat :=
  ((List.range (s.rd (PKM.RGN.SIZE 154))).map (· + s.rd (PKM.RGN.BASE 154))).find? (fun g =>
    !s.sw.fence.spares.contains g && s.sw.fence.active != some g)

/-- The failed line is retired onto replacement `g` (R249): the replacement leaves Free and takes the line's place. -/
def State.retire (s : State) (g : Nat) (spare : Bool) : State :=
  let line := s.sw.fence.active.getD 0
  let s1 := s.modFence (fun f => { f with map := (line, g) :: f.map.filter (fun m => m.1 != line),
                                          spares := g :: f.spares })
  let s2 := ((s1.wr PKM.GCNT1.RETIRED (s1.rd PKM.GCNT1.RETIRED + 1)).granule false false).edgeAtMeridian 426
  let s3 :=
    if spare then s2.wr PKM.GCNT2.SPAREUSED (s2.rd PKM.GCNT2.SPAREUSED + 1)
    else
      let t := s2.setPool (s2.rd PKM.GCNT2.POOLFREE - 1)
      if t.sw.poolRetired then t else (t.modSw (fun w => { w with poolRetired := true })).edgeAtMeridian 427
  s3.fenceEnd 2

/-- The granules of the pool that are no replacement yet, lowest first (R234, R249); `spares` holds those already used. -/
def State.poolLines (s : State) : List Nat :=
  (List.range 32768).filter (fun g => !s.sw.fence.spares.contains g && s.sw.fence.active != some g && (s.regionOf g).isNone)

/-- Granules of the pool that packets have borrowed (R237). -/
def State.poolLent (s : State) : Nat := (s.sw.packets.map Pkt.inPool).sum

/-- The lowest-numbered pool granule that is neither borrowed nor reserved (R249). Which of the pool's granules the packets
have borrowed is open: as many as are in use may lie below it. -/
def State.freePoolLine (s : State) : Option Nat × State :=
  if s.rd PKM.GCNT2.POOLFREE = 0 then (none, s) else (s.poolLines[s.free.1 % (s.poolLent + 1)]?, s.free.2)

/-- FENCE_TEST_COMPLETE (R249). -/
def execFenceTestComplete (pass : Bool) (s : State) : Res :=
  let f := s.sw.fence
  done (if f.active.isNone ∨ f.waiting then s.fresh
    else if pass then (s.fresh.bump PKM.LINECNT.TRANSIENT).fenceEnd 1
    else
      let s1 := s.fresh.bump PKM.LINECNT.LASTING
      match s1.freeSpare with
      | some g => s1.retire g true
      | none =>
        let x := s1.freePoolLine
        match x.1 with
        | some g => x.2.retire g false
        | none => ((x.2.wr PKM.FENCE.RESULT 3).modFence (fun f => { f with waiting := true })).condBegin .pkm 2)

/-- REPLACEMENT_AVAILABLE (R249). -/
def execReplacementAvailable (s : State) : Res :=
  done (if !s.sw.fence.waiting then s.fresh
    else
      let x := s.fresh.freePoolLine
      match x.1 with
      | some g => (x.2.condEnd .pkm 2).retire g false
      | none => s.fresh)

/-- OVERLAY_WRITEBACK_COMPLETE (R247). -/
def execOverlayWritebackComplete (s : State) : Res :=
  doneIf s.sw.fence.writeback s.fresh
    ((s.fresh.modSw (fun w => w.fence.slots.foldl (fun v x => v.putLine x.1 x.2)
      { w with fence := { w.fence with writeback := false, mode := 0, slots := [] } })).wr PKM.FENCE.FALLBACK 0)

/-! ## Region descriptors (R235, R236) -/

/-- A size that region `d` may have (R235). -/
def sizeLegal (d n : Nat) : Bool :=
  if d < 52 then [32, 64, 128, 256, 512, 1024].contains n || (decide (48 ≤ d) && n == 0)
  else if d = 52 then n == 0 || (decide (512 ≤ n) && decide (n ≤ 8192))
  else if d < 101 then decide (64 ≤ n) && decide (n ≤ 256)
  else if d < 149 then decide (17 ≤ n) && decide (n ≤ 4096)
  else n == 0 || (decide (32 ≤ n) && decide (n ≤ 8192))

/-- A descriptor value is legal (R235). -/
def State.rgnLegal (s : State) (d base n : Nat) : Bool :=
  sizeLegal d n && decide (base + n ≤ 32768) &&
    (List.range 155).all (fun j => j == d || n == 0 || s.rd (PKM.RGN.SIZE j) == 0 ||
      decide (base + n ≤ s.rd (PKM.RGN.BASE j)) || decide (s.rd (PKM.RGN.BASE j) + s.rd (PKM.RGN.SIZE j) ≤ base))

/-- The owner of region `d` is idle (R236). -/
def State.rgnIdle (s : State) (d : Nat) : Bool :=
  match regionPort d with
  | some n => s.hub n == HS.off && s.on (PRT.CTL.OOS n)
  | none =>
    if d = 52 then allPorts.all (fun n => s.owner n != 4)
    else s.rd (UPS.STS.DEVSTATE (if d < 52 then d - 48 else d - 149)) == 0

/-- The new extent is busy (R236): a line of it, or of the region itself, is fenced or pending; or it covers a borrowed
granule. Which granules of the pool are borrowed is open, unless the rest of the pool cannot hold them all. -/
def State.rgnBusy (s : State) (d base n : Nat) : Bool :=
  let f := s.sw.fence
  let lines := f.pending ++ f.active.toList
  let b0 := s.rd (PKM.RGN.BASE d)
  let n0 := s.rd (PKM.RGN.SIZE d)
  let pool := 32768 - ((List.range 155).map (fun j => s.rd (PKM.RGN.SIZE j))).sum
  let takes := n - (min (base + n) (b0 + n0) - max base b0)
  let lent := s.poolLent
  lines.any (fun g => (decide (base ≤ g) && decide (g < base + n)) || (decide (b0 ≤ g) && decide (g < b0 + n0))) ||
    (decide (0 < takes) && decide (0 < lent) && (decide (pool < takes + lent) || s.free.1 % 2 == 1))

/-- What a committed descriptor does (R236): what the region held is discarded; the pool gains or loses granules. -/
def State.rgnEffect (s : State) (d oldSize : Nat) : State :=
  let n := s.rd (PKM.RGN.SIZE d)
  let s1 := (s.sw.packets.filter (fun p => p.inp == d || outRegion p.out == d)).foldl (fun t p => t.dropPkt p.id) s
  let s2 := if 53 ≤ d ∧ d < 101 then s1.ttCut (d - 53) else s1
  let s3 := if d < 52 then
      (s2.wr (PKM.IQPTR.WPTR d) (s2.rd (PKM.IQPTR.WPTR d) % (2 * s2.iqWords d))).wr (PKM.IQPTR.RPTR d)
        (s2.rd (PKM.IQPTR.RPTR d) % (2 * s2.iqWords d))
    else s2
  let s4 := if d < 101 then
      (s3.wr PKM.GCNT0.QUEUED (s3.rd PKM.GCNT0.QUEUED + n - oldSize)).wr PKM.GCNT0.FREE (s3.rd PKM.GCNT0.FREE + oldSize - n)
    else s3
  s4.setPool (s4.rd PKM.GCNT2.POOLFREE + oldSize - n)

end Sys2Proof.Machine
end

