-- ==== Sys2Proof/Machine/Ownership.lean ====
section
/-! DEFINITION. Port ownership and handover (R255 to R266), and the routing tables' move to a new generation (R225 to
R229). -/

namespace Sys2Proof.Machine

/-! ## Routing generations -/

/-- The register of `u`'s generation. -/
def genField (u : Nat) : Field :=
  if u = 0 then SWX.GEN.GEN0 else if u = 1 then SWX.GEN.GEN1 else if u = 2 then SWX.GEN.GEN2 else SWX.GEN.GEN3

/-- One entry of `u`'s table takes its new value (R225); a relay slot of its address is withdrawn (R22, R229). -/
def State.rtSet (s : State) (u g : Nat) (c : Nat × Option Nat × Bool) : State :=
  let a := c.1
  let s1 := match s.route u a with
    | some n => s.withdrawSlots n (fun x => x.key.addr == a)
    | none => s
  let s2 := match c.2.1 with
    | some n => ((s1.wr (SWX.RT.PORT u a) n).raise (SWX.RT.VALID u a)).flag (SWX.RT.HSDEV u a) c.2.2
    | none => s1.wr (SWX.RT.VALID u a) 0
  s2.wr (SWX.RT.GEN u a) g

/-- The change alters its entry. -/
def State.rtAlters (s : State) (u : Nat) (c : Nat × Option Nat × Bool) : Bool :=
  match c.2.1 with
  | some n => s.route u c.1 != some n || s.on (SWX.RT.HSDEV u c.1) != c.2.2
  | none => s.on (SWX.RT.VALID u c.1)

/-- The pending changes of `u`'s table apply (R226): one advance of the generation in a Meridian, the later change of an
entry standing; packets that carry the new number are discarded (R228). -/
def State.rtApply (s : State) (u : Nat) : State :=
  let all := (s.up u).rtPending
  let last := (List.range 128).filterMap (fun a => all.reverse.find? (fun c => c.1 == a))
  let cs := last.filter (s.rtAlters u)
  let s1 := s.modUp u (fun x => { x with rtPending := [] })
  if cs.isEmpty then s1
  else
    let g := if (s.up u).rtAdv then s.gen u else (s.gen u + 1) % 16
    let s2 := if (s.up u).rtAdv then s1
      else (s1.dropStale (fun p => p.side == u && p.gen == g)).wr (genField u) g
    (cs.foldl (fun t c => t.rtSet u g c) s2).modUp u (fun x => { x with rtAdv := true })

/-! ## Requests (R256 to R259) -/

/-- A request for the port fails with E_BUSY (R257); one that a Meridian has sampled has begun its handover (R259). -/
def State.ownBusy (s : State) (n code : Nat) : Bool :=
  !s.owned n || (s.port n).reqSampled || (match (s.port n).request with
    | some (_, c) => decide (c ≤ code)
    | none => false)

/-- A request for the port fails with E_STATE (R257, R265). -/
def State.ownRefused (s : State) (n tgt : Nat) : Bool :=
  s.restricted || !(s.port n).armed || !s.boot.ownInForce || s.owner n == tgt ||
    (tgt == 4 && s.rd (PKM.RGN.SIZE 52) == 0)

/-- A target is out of range (R257). -/
def State.ownRange (s : State) (n tgt : Nat) : Bool := tgt == 5 || tgt == 6 || (decide (tgt < 4) && !s.inPartition tgt n)

/-- A request that passes is held until the next Meridian; one with a higher code is lost to it (R258). -/
def State.ownHold (s : State) (n tgt code : Nat) : State :=
  (if (s.port n).request.isSome then s.bump (PRT.OWNCNT.LOST n) else s).modPort n
    (fun p => { p with request := some (tgt, code) })

/-- A Meridian samples the held requests (R259). -/
def State.sampleRequests (s : State) : State :=
  s.forEach (allPorts.filter (fun n => s.owned n && (s.port n).request.isSome)) (fun t n =>
    t.modPort n (fun p => { p with reqSampled := true }))

/-! ## The handover (R260) -/

/-- The actions of M0 (R260): a port in Test goes to Disabled too, as R260 says (log entry 113); the indicator returns to
automatic (R167). -/
def State.toReleasing (s : State) (n tgt code : Nat) : State :=
  let s1 := (((s.wrVoted (PRT.OWNER.STATE n) 1).wr (PRT.OWNER.NEXT n) tgt).wr (PRT.OWNER.LASTBY n) code).wr
      (PRT.OWNER.LASTRES n) 0
  let s2 := ((s1.ldsRelease n).ttAndAlmanac n false true).relayReset n false
  let s3 := s2.dropStale (fun p => p.port == n && p.tail == .good)
  let s4 := if s.owner n < 4 then (s3.rtDropPort (s.owner n) n).rtApply (s.owner n) else s3
  let st := s4.hub n
  let s5 := if st = 4 ∨ st = 5 ∨ (8 ≤ st ∧ st ≤ 13) then
      (if st = 4 ∨ 9 ≤ st then s4.emit (.endSignal n) else s4).setHub n HS.disabled
    else s4
  s5.modPort n (fun p => { p with request := none, reqSampled := false, sofOn := false, kDriven := false,
                                   waking := false, chirped := false, indSel := 0, hubActs := [] })

/-- HANDOVER_RELEASING (R260, R264): at the Meridian that samples a held request (R259); with a restart or hard reset already
running, the actions of TRANSIT are taken with those of RELEASING. -/
def execHandoverReleasing (n : Fin 48) (s : State) : Res :=
  let p := s.port n
  done (match p.request with
    | none => s.fresh
    | some (tgt, code) =>
      if !s.owned n || !s.active || !p.reqSampled then s.fresh
      else
        let s1 := s.fresh.toReleasing n tgt code
        if p.restart || p.hr != .none || (s.sec (secOf n)).restarting then
          (s1.toTransit n).modPort n (fun p => { p with hoHold := true, hoEnded := false })
        else s1)

/-- HANDOVER_TRANSIT (R260, R262). -/
def execHandoverTransit (n : Fin 48) (s : State) : Res :=
  doneIf (s.active && s.rd (PRT.OWNER.STATE n) == 1) s.fresh (s.fresh.toTransit n)

/-- HANDOVER_CLAIMING (R260, R264): after a restart or hard reset that fell in the handover, from its end. -/
def execHandoverClaiming (n : Fin 48) (s : State) : Res :=
  let p := s.port n
  let st := s.rd (PRT.OWNER.STATE n)
  let tgt := s.rd (PRT.OWNER.NEXT n)
  doneIf (s.active && (if p.hoHold then p.hoEnded && (st == 2 || st == 3) else st == 2)) s.fresh
    (let s1 := ((s.fresh.wrVoted (PRT.OWNER.OWN n) tgt).wrVoted (PRT.OWNER.STATE n) 3).modPort n
        (fun p => { p with hoHold := false, hoEnded := p.hoHold })
     if tgt < 4 ∧ !s.on (UPS.CTL.PWRMODE tgt) then s1.setView tgt n { s1.view tgt n with pwr := true, pwrSeen := true } else s1)

/-- HANDOVER_OWNED (R260, R261, R263): the demand is evaluated afresh for the new owner. -/
def execHandoverOwned (n : Fin 48) (s : State) : Res :=
  let p := s.port n
  doneIf (s.active && s.rd (PRT.OWNER.STATE n) == 3 && !p.hoHold) s.fresh
    (let s1 := ((s.fresh.wrVoted (PRT.OWNER.STATE n) 0).wr (PRT.OWNER.NEXT n) 7).bump (PRT.OWNCNT.DONE n)
     let s2 := if p.hoEnded then s1.bump (PRT.OWNCNT.RSTHO n) else s1
     (s2.modPort n (fun p => { p with hoEnded := false, claimDue := s.owner n == 4 })).evalDemand n)

/-! ## Initial ownership (R265) -/

/-- The owner that the table in force gives a port (R265): 7 for an unarmed port, 0 for an armed one in restricted mode. -/
def State.initialOwner (s : State) (n : Nat) : Nat :=
  if !(s.port n).armed then 7
  else if s.restricted then 0
  else
    let o := (s.boot.ownTable[n]?).getD 7
    if o = 4 ∧ s.rd (PKM.RGN.SIZE 52) = 0 then 7 else o

/-- INITIAL_OWNERSHIP_APPLY (R265, R87): every port goes straight to OWNED; Lodestar claims its own (R283). -/
def execInitialOwnershipApply (s : State) : Res :=
  doneIf (s.active && s.boot.ownDue) s.fresh
    (let s1 := s.fresh.forEach allPorts (fun t n => (t.wrVoted (PRT.OWNER.OWN n) (s.initialOwner n)).wrVoted
        (PRT.OWNER.STATE n) 0)
     let s2 := { s1 with boot := { s1.boot with ownDue := false, ownInForce := true } }
     s2.forEach allPorts (fun t n =>
       (t.modPort n (fun p => { p with claimDue := s.initialOwner n == 4 })).evalDemand n))

end Sys2Proof.Machine
end

