-- ==== Sys2Proof/Machine/Lodestar.lean ====
section
/-! DEFINITION. Lodestar (R269 to R285): enumeration, check-in profiles and records, the heartbeat. -/

namespace Sys2Proof.Machine

/-- Lodestar runs (R269). -/
def State.ldsRun (s : State) : Bool :=
  s.active && s.on LDS.CTL.EN && s.rd (PKM.RGN.SIZE 52) != 0 && !s.restricted && s.runs 10

/-- A port that Lodestar owns and works on. -/
def State.ldsOwns (s : State) (n : Nat) : Bool := s.ldsRun && s.owns 4 n

/-! ## Profiles (R275 to R277) -/

/-- Bytes of profile `k`. -/
def State.profile (s : State) (k : Nat) : List Byte := (s.ldsProfiles.drop (16 + 1056 * k)).take 1056

/-- Record `i` of a profile. -/
def profRecord (p : List Byte) (i : Nat) : List Byte := (p.drop (32 + 32 * i)).take 32

/-- The lowest-numbered matching profile (R279). -/
def State.matchProfile (s : State) (vid pid bcd : Nat) : Option Nat :=
  (List.range (fieldAt s.ldsProfiles 0 1)).find? (fun k =>
    let p := s.profile k
    fieldAt p 0 2 == vid && (pid &&& fieldAt p 4 2) == (fieldAt p 2 2 &&& fieldAt p 4 2) &&
      decide (fieldAt p 6 2 ≤ bcd) && decide (bcd ≤ fieldAt p 8 2))

/-- The endpoint descriptor of an address in a configuration descriptor: attributes, maximum packet size, bInterval. -/
def findEndpoint (ep : Nat) : Nat → List Byte → Option (Nat × Nat × Nat)
  | 0, _ => none
  | fuel + 1, bs =>
    let len := fieldAt bs 0 1
    if len < 2 ∨ bs.length < len then none
    else if fieldAt bs 1 1 = 5 ∧ 7 ≤ len ∧ fieldAt bs 2 1 = ep then
      some (fieldAt bs 3 1 % 4, fieldAt bs 4 2 % 2048, fieldAt bs 6 1)
    else findEndpoint ep fuel (bs.drop len)

/-- The profile in use on a port. -/
def State.profOf (s : State) (n : Nat) : List Byte := s.profile (s.entry n).profile

/-- The heartbeat endpoint's descriptor in the configuration read. -/
def State.hbEndpoint (s : State) (n : Nat) : Option (Nat × Nat × Nat) :=
  let c := (s.port n).lds.cfgDesc
  findEndpoint (fieldAt (s.profOf n) 12 1) c.length c

/-- Exponent of the poll period 2^j ms (R276, R281). -/
def State.hbExp (s : State) (n : Nat) : Nat :=
  let k := fieldAt (s.profOf n) 13 1
  if k ≠ 0 then k - 1
  else
    let i := ((s.hbEndpoint n).getD (0, 0, 1)).2.2
    min 7 (Nat.log2 (max 1 i))

/-! ## Requests on the wire -/

/-- Lodestar's routing entry lets traffic to an address through (R271): address 0 in enumeration needs none. -/
def State.ldsRoute (s : State) (n adr : Nat) : Bool := adr == 0 || (s.port n).lds.route == 2

/-- A packet of Lodestar (R211, R271): it passes input 52, and its destination check drops and counts it where the routing
entry does not stand. -/
def State.ldsPacket (s : State) (n adr pid : Nat) (bs : List Byte) : State :=
  let s1 := s.iqPass 52 bs
  if s.ldsRoute n adr then s1.emit (.device n ⟨adr, 0, false⟩ pid bs) else s1.bump (SWX.CNTA.STALE 4)

/-- A control request of Lodestar to an address on port `n` (R273, R271). -/
def State.ldsSend (s : State) (n adr : Nat) (step : LdsStep) (r : Setup) (data : List Byte) : State :=
  let s1 := (s.ldsPacket n adr 0x2D r.bytes).modLds n (fun l => { l with step := step })
  if data.isEmpty then s1 else s1.ldsPacket n adr 1 data

/-- GET_DESCRIPTOR. -/
def State.ldsGet (s : State) (n adr : Nat) (step : LdsStep) (v idx len : Nat) : State :=
  s.ldsSend n adr step ⟨0x80, 6, v, idx, len⟩ []

/-- Enumeration ends with a result (R280). -/
def State.ldsStop (s : State) (n result : Nat) : State := s.ldsEnd n result 6

/-- Step 2 of R273: the port is reset. -/
def State.ldsReset (s : State) (n : Nat) : State := (s.startReset n).modLds n (fun l => { l.gone with step := .resetting })

/-- A step in 2 to 7 has failed (R274): from step 2 again, or STOPPED after the last attempt. -/
def State.ldsFail (s : State) (n : Nat) : State :=
  if (s.port n).lds.attempt < s.rd LDS.CTL.ENUMTRY then
    (s.modLds n (fun l => { l with attempt := l.attempt + 1 })).ldsReset n
  else (s.ldsStop n 3).bump LDS.CNT0.ENUMFAIL

/-- A malformed descriptor: too short, or of another type. -/
def badDesc (bs : List Byte) (len ty : Nat) : Bool := decide (bs.length < len) || fieldAt bs 1 1 != ty

/-! ## Check-in (R279) -/

/-- Records from `i` on: the next one is sent, or the check-in completes. -/
def State.ldsRecord (s : State) (n i : Nat) : State :=
  let p := s.profOf n
  if i < fieldAt p 11 1 then
    let r := profRecord p i
    let bm := fieldAt r 0 1
    let len := fieldAt r 6 2
    (s.modLds n (fun l => { l with recIdx := i })).ldsSend n (n + 1) .record
        ⟨bm, fieldAt r 1 1, fieldAt r 2 2, fieldAt r 4 2, len⟩
      (if bm < 128 then (r.drop 12).take len else [])
  else
    let s1 := s.setEntry n { s.entry n with hbUsed := fieldAt p 12 1 != 0 }
    (s1.ldsEnd n 1 4).modLds n (fun l => { l with misses := 0 })

/-- A record has failed with a result code (R279): it is skipped where OPTIONAL. -/
def State.ldsRecFail (s : State) (n code : Nat) : State :=
  let i := (s.port n).lds.recIdx
  if bitAt (fieldAt (profRecord (s.profOf n) i) 8 1) 0 then s.ldsRecord n (i + 1) else s.ldsStop n (code + i)

/-- A record has run (R277, R279). -/
def State.ldsRecDone (s : State) (n : Nat) (bs : List Byte) : State :=
  let i := (s.port n).lds.recIdx
  let r := profRecord (s.profOf n) i
  let cl := fieldAt r 9 1
  if bitAt (fieldAt r 8 1) 1 ∧ bs.take cl ≠ (r.drop 12).take cl then s.ldsRecFail n 0x80
  else if fieldAt r 10 1 = 0 then s.ldsRecord n (i + 1)
  else s.modLds n (fun l => { l with step := .recordDelay })

/-- SetConfiguration has completed (R279): the heartbeat endpoint is checked, then the records run. -/
def State.ldsConfigured (s : State) (n : Nat) : State :=
  let p := s.profOf n
  let c := fieldAt p 10 1
  let own := c = 0 ∨ c = fieldAt (s.port n).lds.cfgDesc 5 1
  if fieldAt p 12 1 = 0 then s.ldsRecord n 0
  else
    match s.hbEndpoint n with
    | some (att, mps, _) => if own ∧ att = 3 ∧ mps ≤ 64 then s.ldsRecord n 0 else s.ldsStop n 8
    | none => s.ldsStop n 8

/-- Step 8 of R273: the identity is published, and a profile matched (R279). -/
def State.ldsIdentity (s : State) (n : Nat) (serial : List Byte) : State :=
  let d := (s.port n).lds.devDesc
  let vid := fieldAt d 8 2
  let pid := fieldAt d 10 2
  let bcd := fieldAt d 12 2
  let e := { s.entry n with vid := vid, pid := pid, bcd := bcd, serial := serial, idValid := true,
                            speed := if s.on (PRT.HUBSTS.LOWSPD n) then 1 else 2 }
  match s.matchProfile vid pid bcd with
  | none => (s.setEntry n e).ldsStop n 2
  | some k =>
    let s1 := s.setEntry n { e with profile := k, state := 3 }
    let c := fieldAt (s1.profOf n) 10 1
    s1.ldsSend n (n + 1) .setConfig ⟨0, 9, if c = 0 then fieldAt (s.port n).lds.cfgDesc 5 1 else c, 0, 0⟩ []

/-- The stored characters of a string descriptor (R274). -/
def serialBytes : Nat → List Byte → List Byte
  | 0, _ => []
  | _, [] => []
  | _, [_] => []
  | k + 1, lo :: hi :: bs =>
    let c := lo.toNat + 256 * hi.toNat
    (if 0x20 ≤ c ∧ c ≤ 0x7E then lo else 0x3F) :: serialBytes k bs

/-- A control transfer has completed with IN data (R273). -/
def State.ldsData (s : State) (n : Nat) (bs : List Byte) : State :=
  let l := (s.port n).lds
  match l.step with
  | .devDesc8 =>
    let m := fieldAt bs 7 1
    if badDesc bs 8 1 ∨ !([8, 16, 32, 64].contains m) then s.ldsFail n
    else (s.modLds n (fun l => { l with mps0 := m })).ldsSend n 0 .setAddress ⟨0, 5, n + 1, 0, 0⟩ []
  | .devDesc18 =>
    if badDesc bs 18 1 then s.ldsFail n
    else if fieldAt bs 4 1 = 9 then s.ldsStop n 4
    else (s.modLds n (fun l => { l with devDesc := bs })).ldsGet n (n + 1) .cfg9 0x200 0 9
  | .cfg9 =>
    if badDesc bs 9 2 then s.ldsFail n
    else if 1024 < fieldAt bs 2 2 then (s.ldsStop n 3).bump LDS.CNT0.ENUMFAIL
    else (s.modLds n (fun l => { l with cfgDesc := bs })).ldsGet n (n + 1) .cfgAll 0x200 0 (fieldAt bs 2 2)
  | .cfgAll =>
    if badDesc bs (max 9 (fieldAt l.cfgDesc 2 2)) 2 then s.ldsFail n
    else
      ((s.modLds n (fun l => { l with cfgDesc := bs })).takeSizes n (endpointSizes (n + 1) bs.length bs)).ldsGet n
        (n + 1) .str0 0x300 0 255
  | .str0 =>
    if badDesc bs 4 3 then s.ldsFail n
    else
      let i := fieldAt l.devDesc 16 1
      if i = 0 then s.ldsIdentity n []
      else (s.modLds n (fun l => { l with lang := fieldAt bs 2 2 })).ldsGet n (n + 1) .strSerial (0x300 + i) (fieldAt bs 2 2) 255
  | .strSerial => if badDesc bs 2 3 then s.ldsFail n else s.ldsIdentity n (serialBytes 32 (bs.drop 2))
  | .record => s.ldsRecDone n bs
  | _ => s

/-- A control transfer without a data stage, or with an OUT one, has completed with ACK. -/
def State.ldsAck (s : State) (n : Nat) : State :=
  match (s.port n).lds.step with
  | .setAddress => s.modLds n (fun l => { l with step := .addrWait, route := 1 })
  | .setConfig => s.ldsConfigured n
  | .record => s.ldsRecDone n []
  | .clearHalt => s.modLds n (fun l => { l with step := .idle })
  | _ => s

/-- A control transfer has failed: by STALL, or by a time-out or errors. -/
def State.ldsBad (s : State) (n : Nat) (stall : Bool) : State :=
  match (s.port n).lds.step with
  | .devDesc8 => s.ldsFail n
  | .setAddress => s.ldsFail n
  | .devDesc18 => s.ldsFail n
  | .cfg9 => s.ldsFail n
  | .cfgAll => s.ldsFail n
  | .str0 => s.ldsFail n
  | .strSerial => s.ldsFail n
  | .setConfig => s.ldsStop n 5
  | .record => s.ldsRecFail n (if stall then 0x40 else 0x60)
  | .clearHalt => s.modLds n (fun l => { l with step := .idle })
  | _ => s

/-! ## Commands -/

/-- A queued port goes before another (R273): by connect time, then by number. -/
def State.ldsFirst (s : State) (n m : Nat) : Bool :=
  let a := (s.port n).lds.seq
  let c := (s.port m).lds.seq
  decide (a < c) || (a == c && decide (n ≤ m))

/-- Ports in ENUMERATING or CHECKING. -/
def State.ldsBusy (s : State) : Nat :=
  (allPorts.filter (fun n => (s.entry n).state == 2 || (s.entry n).state == 3)).length

/-- LDS_ENUM_START (R273). -/
def execLdsEnumStart (n : Fin 48) (s : State) : Res :=
  doneIf (s.ldsOwns n && (s.entry n).state == 1 && decide (s.ldsBusy < 8) &&
      allPorts.all (fun m => (s.entry m).state != 1 || s.ldsFirst n m)) s.fresh
    ((s.fresh.setEntry n { s.entry n with state := 2 }).modLds n (fun l => { l with step := .connectWait, attempt := 1 }))

/-- LDS_CONNECT_WAIT_END (R273): 100 ms of continuous connection. -/
def execLdsConnectWaitEnd (n : Fin 48) (s : State) : Res :=
  doneIf (s.ldsOwns n && (s.port n).lds.step == .connectWait && (s.hub n == HS.disabled || s.hub n == HS.enabled)) s.fresh
    (s.fresh.ldsReset n)

/-- LDS_ENUM_WAIT_END (R273): 10 ms after the reset, or 2 ms after SET_ADDRESS. -/
def execLdsEnumWaitEnd (n : Fin 48) (s : State) : Res :=
  done (if !s.ldsOwns n then s.fresh
    else match (s.port n).lds.step with
      | .resetWait => s.fresh.ldsGet n 0 .devDesc8 0x100 0 8
      | .addrWait => s.fresh.ldsGet n (n + 1) .devDesc18 0x100 0 18
      | _ => s.fresh)

/-- LDS_CONTROL_COMPLETE (R273, R274, R279). -/
def execLdsControlComplete (n : Fin 48) (d : Dev) (s : State) : Res :=
  done (if !s.ldsOwns n then s.fresh
    else match d with
      | .data _ bs => (s.fresh.iqPass n bs).ldsData n bs
      | .ack => s.fresh.ldsAck n
      | .stall => s.fresh.ldsBad n true
      | .bad => (s.fresh.badIn 4).ldsBad n false
      | _ => s.fresh)

/-- A control transfer of Lodestar is in progress. -/
def LdsStep.waits (x : LdsStep) : Bool :=
  x == .devDesc8 || x == .setAddress || x == .devDesc18 || x == .cfg9 || x == .cfgAll || x == .str0 || x == .strSerial ||
    x == .setConfig || x == .record || x == .clearHalt

/-- LDS_REQUEST_TIMEOUT (R274). -/
def execLdsRequestTimeout (n : Fin 48) (s : State) : Res :=
  doneIf (s.ldsOwns n && (s.port n).lds.step.waits) s.fresh ((s.fresh.bump LDS.CNT1.CTLTMO).ldsBad n false)

/-- LDS_RECORD_DELAY_END (R277). -/
def execLdsRecordDelayEnd (n : Fin 48) (s : State) : Res :=
  doneIf (s.ldsOwns n && (s.port n).lds.step == .recordDelay) s.fresh (s.fresh.ldsRecord n ((s.port n).lds.recIdx + 1))

/-! ## Heartbeat (R281) -/

/-- A period without DATA (R281). -/
def State.hbMiss (s : State) (n : Nat) : State :=
  let lim := fieldAt (s.profOf n) 14 1
  let m := (s.port n).lds.misses + 1
  let s1 := s.modLds n (fun l => { l with misses := m, polling := false })
  if lim ≠ 0 ∧ lim ≤ m ∧ (s.entry n).state = 4 then
    (s1.setEntry n { s.entry n with state := 5 }).edgeAtMeridian 431
  else s1

/-- A TT reset takes a poll with it: the period is one without DATA (R182, R281). A control transfer goes on by its retries. -/
def State.ldsPollLost (s : State) (n : Nat) : State := if (s.port n).lds.polling then s.hbMiss n else s

/-- LDS_HEARTBEAT_POLL (R281, R270): in microframe 0 of the port's frames, once. -/
def execLdsHeartbeatPoll (n : Fin 48) (behind : Bool) (s : State) : Res :=
  let e := s.entry n
  let c := s.rd SYS.MERIDIAN.COUNT
  let ep := fieldAt (s.profOf n) 12 1
  let t := 2 ^ s.hbExp n
  doneIf (s.ldsOwns n && (e.state == 4 || e.state == 5) && ep != 0 && c % 8 == 0 && c / 8 % 2048 % t == n.val % t &&
      s.hub n == HS.enabled && s.ldsRoute n (n + 1) && !(s.port n).lds.polling && (s.port n).lds.polledAt != s.now + 1) s.fresh
    (let s1 := s.fresh.modLds n (fun l => { l with polledAt := s.now + 1 })
     if behind then (s1.bump LDS.CNT0.HBDROP).hbMiss n
     else (s1.emit (.deviceIn n ⟨n + 1, ep % 16, true⟩)).modLds n (fun l => { l with polling := true }))

/-- LDS_HEARTBEAT_OUTCOME (R281). -/
def execLdsHeartbeatOutcome (n : Fin 48) (d : Dev) (s : State) : Res :=
  let e := s.entry n
  done (if !(s.ldsOwns n && (s.port n).lds.polling) then s.fresh
    else match d with
      | .data _ bs =>
        let t := ((s.fresh.emit (.deviceAck n)).iqPass n bs).clockUs
        (t.2.setEntry n { e with state := 4, hbRec := bs.take 64, tHeart := t.1, hbCnt := (e.hbCnt + 1) % 65536 }).modLds n
          (fun l => { l with misses := 0, polling := false })
      | .stall =>
        ((s.fresh.bump LDS.CNT1.HBSTALL).ldsSend n (n + 1) .clearHalt ⟨2, 1, 0, fieldAt (s.profOf n) 12 1, 0⟩ []).hbMiss n
      | .bad => (s.fresh.badIn 4).hbMiss n
      | _ => s.fresh.hbMiss n)

/-! ## Uncorrectable errors (R250, R251) -/

/-- What an uncorrectable error does where it was read (R250, R184, R209). Lodestar's word lost is an error of its transfer or
poll (DEDUCED, log entry 111). -/
def State.errAt (s : State) (a : Sys2Proof.ErrAt) : State :=
  match a with
  | .ingress id => s.voidPkt id false
  | .transmit id => s.voidPkt id true
  | .slot n k => (s.sw.packets.filter (fun p => p.kind == .inData && p.inp == n.val && p.key == k && !p.asking)).foldl
      (fun t p => t.voidPkt p.id true) s
  | .ttNp n k => s.modPort n (fun p => { p with
      np := p.np.map (fun x => if x.key = k ∧ !x.dead then { x with st := .done .noResp } else x) })
  | .ttPer n k => s.modPort n (fun p => { p with
      per := p.per.map (fun x => if x.key = k ∧ !x.dead then { x with st := .done .err } else x) })
  | .meteor n k => let e := s.almE n k; if heldData e.held then s.setAlm n k { e with held := some .err } else s
  | .hub u => s.emit (.badCrcEndUp u)
  | .lodestar n => if (s.port n).lds.polling then s.hbMiss n else s.ldsBad n false
  | .idle => s

/-- UNCORRECTABLE_ERROR (R250, R251): an error in a fall-back bank is followed by no fence. -/
def execUncorrectableError (line : Sys2Proof.ErrLine) (at_ : Sys2Proof.ErrAt) (s : State) : Res :=
  let s1 := ((s.fresh.errAt at_).bump PKM.ECCCNT.UNCORR).edge 4
  done (if line.bank then s1.pnote (some s.sw.fence.region)
    else (s1.listLine line.line true).pnote (s.regionOf line.line))

/-! ## SV returns (R284, R285) -/

/-- SV writes what the Roster could not take while it was stopped: Lodestar's ports are IDLE, and those it has left RELEASED. -/
def State.ldsReturn (s : State) : State :=
  s.forEach allPorts (fun t n =>
    let p := t.port n
    let t1 := t.modLds n (fun l => { l with relDue := false })
    if t.owner n = 4 then
      (if t.owned n && !p.claimDue then t1.setEntry n { t1.entry n with state := 9 } else t1)
    else if p.lds.relDue then t1.setEntry n { t1.entry n with state := 8 }
    else t1)

end Sys2Proof.Machine
end

