-- ==== Sys2Proof/Machine/Tables.lean ====
section
/-! DEFINITION. What the flash and the identity memories hold, read from their bytes: header records (R80, R81), the
manifest and its sections (R83 to R85), the compatibility manifest (R92), the tables of the image (R132, R275, R309,
R354), the quad identity (R321), journal records (R90). -/

namespace Sys2Proof.Machine

/-- A finding of a check: a reason of R90, and its argument, none where the spec gives no value. -/
abbrev Finding := Nat × Option Nat

/-! ## Header records (R80 to R82) -/

/-- A header record (R81). -/
structure Header where
  seq : Nat
  active : Nat
  stA : Nat
  stB : Nat
  lenA : Nat
  lenB : Nat
  deriving DecidableEq, Repr

/-- State of a slot in a header. -/
def Header.state (h : Header) (slot : Nat) : Nat := if slot = 0 then h.stA else h.stB

/-- Image length of a slot in a header. -/
def Header.len (h : Header) (slot : Nat) : Nat := if slot = 0 then h.lenA else h.lenB

/-- A valid header record in 256 bytes (R80, R81). DESIGN CHOICE (log entry 105): a record whose SEQ or LEN lies outside the
range R81 gives is taken as valid; R81 names an invalid record for STATE alone, and a header write counts SEQ on. -/
def readHeader (bs : List Byte) : Option Header :=
  let h : Header := ⟨fieldAt bs 4 4, fieldAt bs 8 1, fieldAt bs 9 1, fieldAt bs 10 1, fieldAt bs 12 4, fieldAt bs 16 4⟩
  if fieldAt bs 0 4 ≠ 0x48444C47 then none
  else if fieldAt bs 252 4 ≠ crc32 (bs.take 252) ∨ 1 < h.active ∨ 3 < h.stA ∨ 3 < h.stB ∨ h.state h.active ≠ 1 then none
  else some h

/-- The bytes of a header record. -/
def Header.bytes (h : Header) : List Byte :=
  let body := leBytes 4 0x48444C47 ++ leBytes 4 h.seq ++ leBytes 1 h.active ++ leBytes 1 h.stA ++ leBytes 1 h.stB ++ [0] ++
    leBytes 4 h.lenA ++ leBytes 4 h.lenB ++ List.replicate 232 0
  body ++ leBytes 4 (crc32 body)

/-- The valid header records with their pages, in page order. -/
def State.headers (s : State) : List (Nat × Header) :=
  (List.range 32).filterMap (fun p => (readHeader (s.flashBytes (256 * p) 256)).map (fun h => (p, h)))

/-- The header in force (R80). -/
def State.header (s : State) : Option (Nat × Header) :=
  s.headers.foldl (fun a h => match a with
    | some b => if b.2.seq < h.2.seq then some h else some b
    | none => some h) none

/-- A page of the flash is erased. -/
def State.erased (s : State) (a k : Nat) : Bool := (s.flashBytes a k).all (· == 0xFF)

/-- The BOOT registers show the header in force (R416). -/
def State.showHeader (s : State) (h : Header) : State :=
  (((s.wr BOOT.HEADER.ACTIVE h.active).wr BOOT.HEADER.STATEA h.stA).wr BOOT.HEADER.STATEB h.stB).wr BOOT.HDRSEQ.SEQ h.seq

/-- A header write (R80): the next erased page, in the other sector once this one is full; the cached digests are
invalidated (R100). -/
def State.writeHeader (s : State) (h : Header) : State :=
  let cur := s.header
  let sect := match cur with
    | some (p, _) => p / 16
    | none => 0
  let seq := match cur with
    | some (_, h0) => h0.seq + 1
    | none => 1
  let h1 := { h with seq := seq }
  let s1 := match ((List.range 16).map (16 * sect + ·)).find? (fun p => s.erased (256 * p) 256) with
    | some p => s.flashProgram (256 * p) h1.bytes
    | none => (s.flashErase (4096 * (1 - sect)) 4096).flashProgram (4096 * (1 - sect)) h1.bytes
  { s1.showHeader h1 with retain := { s1.retain with digests := none } }

/-- Flash address of a slot (R79). -/
def slotBase (slot : Nat) : Nat := if slot = 0 then 0x100000 else 0x500000

/-! ## Manifest (R83, R84) -/

/-- What a manifest says. -/
structure Manifest where
  format : Nat
  length : Nat
  rollback : Nat
  fitted : Nat
  build : Nat
  sects : List Sect
  deriving DecidableEq, Repr

/-- The longest section of a type (R84); none for a type not in the table. -/
def sectLimit (ty : Nat) : Option Nat :=
  if 1 ≤ ty ∧ ty ≤ 5 then some 98304
  else if ty = 0x10 then some 49152
  else if ty = 0x11 then some 16384
  else if ty = 0x12 then some 4096
  else if ty = 0x13 then some 65536
  else if ty = 0x14 then some 48
  else if ty = 0x15 then some 1024
  else if ty = 0x16 then some 16384
  else none

/-- The section types every image holds (R84). -/
def requiredTypes : List Nat := [1, 2, 3, 4, 5, 0x11, 0x12, 0x14, 0x15, 0x16]

/-- Section entry `i` of a manifest. -/
def readSect (bs : List Byte) (i : Nat) : Sect :=
  let e := (bs.drop (0x80 + 48 * i)).take 48
  ⟨fieldAt e 0 1, fieldAt e 4 4, fieldAt e 8 4, fieldAt e 12 4, fieldAt e 16 32⟩

/-- A section entry is well formed beside the ones before it (R84). -/
def sectOk (bs : List Byte) (len i : Nat) : Bool :=
  let e := readSect bs i
  let earlier := (List.range i).map (readSect bs)
  (match sectLimit e.typ with
   | some l => decide (e.length ≤ l)
   | none => false) && zeroAt bs (0x81 + 48 * i) 3 && e.offset % 4096 == 0 && decide (4096 ≤ e.offset) &&
    decide (e.offset + e.length ≤ len) &&
    earlier.all (fun f => f.typ != e.typ && (decide (f.offset + f.length ≤ e.offset) || decide (e.offset + e.length ≤ f.offset)))

/-- A manifest parsed against the length in the header (R83, R84). -/
def readManifest (bs : List Byte) (len : Nat) : Except Finding Manifest :=
  let n := fieldAt bs 0xD 1
  let fitted := fieldAt bs 0xE 2
  if fieldAt bs 0 4 ≠ 0x54534E43 then .error (2, some 0)
  else if fieldAt bs 4 2 ≠ 1 ∨ !zeroAt bs 6 2 ∨ fieldAt bs 8 4 ≠ len ∨ 63 < fieldAt bs 0xC 1 ∨ n = 0 ∨ 24 < n ∨ 4096 ≤ fitted ∨
      !zeroAt bs 0x14 0x2C ∨ !zeroAt bs 0x500 0xA80 ∨ !zeroAt bs 0xFC0 0x40 then .error (3, none)
  else
    match (List.range n).find? (fun i => !sectOk bs len i) with
    | some i => .error (3, some i)
    | none =>
      let es := (List.range n).map (readSect bs)
      if requiredTypes.all (fun t => es.any (fun e => e.typ == t)) then
        .ok ⟨fieldAt bs 4 2, fieldAt bs 8 4, fieldAt bs 0xC 1, fitted, fieldAt bs 0x10 4, es⟩
      else .error (3, none)

/-- The signature step (R85): key digest, rollback, signature. -/
def State.checkSignature (s : State) (bs : List Byte) : Option Finding :=
  let key := (bs.drop 0x40).take 64
  if Config.sha256 key ≠ Config.fusedKeyDigest then some (4, some 0)
  else if fieldAt bs 0xC 1 < s.fuses then some (5, some s.fuses)
  else if !Config.signatureOk key (Config.sha256 (bs.take 0xF80)) ((bs.drop 0xF80).take 64) then some (6, some 0)
  else none

/-- The entry of a type in a list of sections, with its index. -/
def findSect (es : List Sect) (ty : Nat) : Option (Nat × Sect) :=
  ((List.range es.length).zip es).find? (fun e => e.2.typ == ty)

/-- The bytes of a section of the image at `base`. -/
def State.sectBytes (s : State) (base : Nat) (e : Sect) : List Byte := s.flashBytes (base + e.offset) e.length

/-- The bytes of the section of a type; none where the image has none. -/
def State.typeBytes (s : State) (base : Nat) (es : List Sect) (ty : Nat) : Option (List Byte) :=
  (findSect es ty).map (fun e => s.sectBytes base e.2)

/-! ## Compatibility (R92) -/

/-- One entry of the compatibility manifest matches the combination. -/
def compatEntry (bs : List Byte) (format : Nat) (es : List Sect) (i : Nat) : Bool :=
  let e := (bs.drop (4 + 24 * i)).take 24
  fieldAt e 0 1 == Config.stepping % 256 && fieldAt e 1 1 == format &&
    (List.range 5).all (fun k => match findSect es (k + 1) with
      | some x => fieldAt e (4 + 4 * k) 4 == x.2.version
      | none => false)

/-- The compatibility check (R92, R87): malformed, or whether an entry matches. -/
def State.checkCompat (s : State) (base format : Nat) (es : List Sect) : Except Finding Bool :=
  match findSect es 0x15 with
  | none => .error (3, none)
  | some (i, e) =>
    let bs := s.sectBytes base e
    let n := fieldAt bs 0 1
    if n = 0 ∨ 32 < n ∨ !zeroAt bs 1 3 ∨ bs.length < 4 + 24 * n ∨
        !(List.range n).all (fun k => zeroAt bs (6 + 24 * k) 2) then .error (3, some i)
    else .ok ((List.range n).any (compatEntry bs format es))

/-! ## Tables of the image -/

/-- PD tables (R309). -/
def pdTableOk (bs : List Byte) : Bool :=
  let v := fieldAt bs 6 2
  bs.length == 256 && fieldAt bs 0 2 == 1 && zeroAt bs 12 244 && v != 0xFF00 && v != 0xFF01

/-- Budget tables (R354). -/
def budgetOk (bs : List Byte) : Bool :=
  bs.length == 256 && fieldAt bs 0 2 == 1 && zeroAt bs 2 2 && decide (fieldAt bs 4 4 ≤ 288000) && zeroAt bs 56 8 &&
    (List.range 12).all (fun q => decide (fieldAt bs (8 + 2 * q) 2 ≤ 24000) &&
      decide (fieldAt bs (32 + 2 * q) 2 ≤ fieldAt bs (8 + 2 * q) 2)) &&
    (List.range 48).all (fun n => decide (fieldAt bs (64 + 4 * n) 1 ≤ 7) && zeroAt bs (65 + 4 * n) 1 &&
      decide (250 ≤ fieldAt bs (66 + 4 * n) 2) && decide (fieldAt bs (66 + 4 * n) 2 ≤ 6000))

/-- One record of a Lodestar profile in use (R277, R278). -/
def ldsRecordOk (r : List Byte) : Bool :=
  let bm := fieldAt r 0 1
  let len := fieldAt r 6 2
  let flags := fieldAt r 8 1
  let cl := fieldAt r 9 1
  (if bm < 128 then decide (len ≤ 16) else decide (1 ≤ len) && decide (len ≤ 64)) && decide (flags < 4) &&
    (if bitAt flags 1 then decide (1 ≤ cl) && decide (cl ≤ 16) else cl == 0) && zeroAt r 11 1 && zeroAt r 28 4 &&
    !(bm / 32 % 4 == 0 && (fieldAt r 1 1 == 5 || fieldAt r 1 1 == 9)) &&
    (let used := if bm < 128 then len else cl; zeroAt r (12 + used) (16 - used))

/-- One Lodestar profile in use (R276, R278). -/
def ldsProfileOk (p : List Byte) : Bool :=
  let n := fieldAt p 11 1
  let ep := fieldAt p 12 1
  decide (n ≤ 32) && decide (fieldAt p 6 2 ≤ fieldAt p 8 2) && (ep == 0 || (decide (0x81 ≤ ep) && decide (ep ≤ 0x8F))) &&
    decide (fieldAt p 13 1 ≤ 8) && zeroAt p 15 17 && (List.range n).all (fun i => ldsRecordOk (profRecord p i)) &&
    zeroAt p (32 + 32 * n) (32 * (32 - n))

/-- The Lodestar section (R275, R278). -/
def ldsSectionOk (bs : List Byte) : Bool :=
  let n := fieldAt bs 0 1
  bs.length == 16912 && decide (n ≤ 16) && zeroAt bs 1 15 &&
    (List.range n).all (fun k => ldsProfileOk ((bs.drop (16 + 1056 * k)).take 1056)) &&
    zeroAt bs (16 + 1056 * n) (1056 * (16 - n))

/-- The initial ownership table (R84). -/
def ownTableOk (bs : List Byte) : Bool := bs.length == 48 && bs.all (fun c => decide (c.toNat ≤ 4) || c.toNat == 7)

/-- A string of a personality record (R132). -/
def strOk (bs : List Byte) : Bool :=
  let n := fieldAt bs 0 2
  decide (n ≤ 63) && zeroAt bs (2 + 2 * n) (126 - 2 * n)

/-- A personality record (R132, R133). -/
def persOk (r : List Byte) : Bool :=
  decide (fieldAt r 0 1 ≤ 1) && decide (fieldAt r 1 1 ≤ 1) && decide (fieldAt r 2 1 ≤ 1) && decide (1 ≤ fieldAt r 3 1) &&
    decide (fieldAt r 3 1 ≤ 16) && fieldAt r 16 1 != 0 && decide (fieldAt r 18 1 < 8) && zeroAt r 19 13 &&
    strOk ((r.drop 32).take 128) && strOk ((r.drop 160).take 128) && strOk ((r.drop 288).take 128) && zeroAt r 416 3680 &&
    (fieldAt r 0 1 == 0 || fieldAt r 4 6 != 0)

/-- The personality section (R133), beside the ownership table. -/
def persSectionOk (bs own : List Byte) : Bool :=
  bs.length == 16384 && (List.range 4).all (fun u => persOk ((bs.drop (4096 * u)).take 4096)) &&
    (List.range 48).all (fun n =>
      let o := fieldAt own n 1
      decide (4 ≤ o) || bitAt (fieldAt bs (4096 * o + 4) 6) n)

/-- What the content of a section must satisfy at step 0x06. -/
def contentOk (own : List Byte) (ty : Nat) (bs : List Byte) : Bool :=
  if ty = 0x11 then pdTableOk bs
  else if ty = 0x12 then budgetOk bs
  else if ty = 0x13 then ldsSectionOk bs
  else if ty = 0x14 then ownTableOk bs
  else if ty = 0x16 then persSectionOk bs own
  else true

/-- The checks of step 0x06 (R87, R84, R133, R278, R309, R354): digests, then the tables, in entry order. -/
def State.checkSections (s : State) (base : Nat) (es : List Sect) : Option Finding :=
  match es.find? (fun e => Config.sha256 (s.sectBytes base e) != e.digest) with
  | some e => some (7, some e.typ)
  | none =>
    let own := (s.typeBytes base es 0x14).getD []
    match ((List.range es.length).zip es).find? (fun e => !contentOk own e.2.typ (s.sectBytes base e.2)) with
    | some (i, _) => some (3, some i)
    | none => none

/-! ## Loading the tables (step 0x06) -/

/-- A string of a personality record as UTF-16 code units. -/
def readStr (bs : List Byte) : List Nat := (List.range (fieldAt bs 0 2)).map (fun i => fieldAt bs (2 + 2 * i) 2)

/-- One personality record loaded into UPS[u] (R133). -/
def State.loadPers (s : State) (u : Nat) (r : List Byte) : State :=
  let part := fieldAt r 4 6
  let fl := fieldAt r 18 1
  let s1 := ((((s.load (UPS.CTL.EN u) (fieldAt r 0 1)).load (UPS.CTL.PWRMODE u) (fieldAt r 1 1)).load (UPS.CTL.RWAKEOK u)
    (fl % 2)).load (UPS.CTL.CONNWAKE u) (fl / 2 % 2)).load (UPS.CTL.BINTERVAL u) (fieldAt r 3 1)
  let s2 := ((s1.load (UPS.TCCTL.ROLE u) (fieldAt r 2 1)).load (UPS.PART0.P00_P31 u) (part % 2 ^ 32)).load
    (UPS.PART1.P32_P47 u) (part / 2 ^ 32)
  let s3 := (((s2.load (UPS.HUBCFG.NBR u) ((List.range 48).filter (bitAt part)).length).load (UPS.HUBCFG.PWRON2PG u)
    (fieldAt r 16 1)).load (UPS.HUBCFG.CONTRCUR u) (fieldAt r 17 1)).load (UPS.HUBCFG.IND u) (fl / 4 % 2)
  s3.modUp u (fun x => { x with
    record := ⟨fieldAt r 10 2, fieldAt r 12 2, fieldAt r 14 2, readStr ((r.drop 32).take 128), readStr ((r.drop 160).take 128),
      readStr ((r.drop 288).take 128)⟩ })

/-- The budget tables loaded into PWR (R354). -/
def State.loadBudget (s : State) (bs : List Byte) : State :=
  let s1 := (s.load PWR.POOL.POOL (fieldAt bs 4 4)).forEach (List.range 12) (fun t q =>
    (t.load (PWR.QCAP.CAP q) (fieldAt bs (8 + 2 * q) 2)).load (PWR.QCAP.FAILCAP q) (fieldAt bs (32 + 2 * q) 2))
  s1.forEach allPorts (fun t n =>
    (t.load (PWR.PCFG.PRIO n) (fieldAt bs (64 + 4 * n) 1)).load (PWR.PCFG.PMAX n) (fieldAt bs (66 + 4 * n) 2))

/-- Every table of the image loaded (R84). -/
def State.loadTables (s : State) (base : Nat) (es : List Sect) : State :=
  let get := fun (ty : Nat) => (s.typeBytes base es ty).getD []
  let pers := get 0x16
  let pd := get 0x11
  let s1 := (s.forEach (List.range 4) (fun t u => t.loadPers u ((pers.drop (4096 * u)).take 4096))).loadBudget (get 0x12)
  let lds := get 0x13
  { s1.wr LDS.STS.NPROF (fieldAt lds 0 1) with
    pdTable := (fieldAt pd 2 2, fieldAt pd 4 2, fieldAt pd 6 2, fieldAt pd 8 4)
    ldsProfiles := lds
    boot := { s1.boot with ownTable := (get 0x14).map BitVec.toNat } }

/-! ## Quad identity (R321, R322) -/

/-- The port records of an identity memory. -/
def readPortIdent (bs : List Byte) (j : Nat) : PortIdent :=
  let r := (bs.drop (32 + 32 * j)).take 32
  let psoa := fieldAt r 2 2
  ⟨fieldAt r 0 2, if psoa = 0 then 8000 else psoa, fieldAt r 4 2, fieldAt r 6 2, fieldAt r 8 2, fieldAt r 10 2⟩

/-- A value within bounds. -/
def inRange (v lo hi : Nat) : Bool := decide (lo ≤ v) && decide (v ≤ hi)

/-- The byte offset of the first byte at fault in an identity memory (R322). -/
def identFault (bs : List Byte) : Option Nat :=
  let f := fieldAt bs
  let head : List (Nat × Bool) :=
    [(4, f 4 1 == 1), (6, inRange (f 6 2) 1000 5000), (24, inRange (f 24 2) 3000 4500), (26, inRange (f 26 2) 1000 10000)] ++
      (List.range 4).map (fun i => (28 + i, f (28 + i) 1 == 0))
  let port := fun (j : Nat) =>
    let o := 32 + 32 * j
    let v0 := f (o + 8) 2
    [(o, inRange (f o 2) 3000 15000), (o + 2, f (o + 2) 2 == 0 || inRange (f (o + 2) 2) 1000 30000),
      (o + 4, inRange (f (o + 4) 2) 10 2000), (o + 6, inRange (f (o + 6) 2) 1 60000), (o + 8, inRange v0 20600 24000),
      (o + 10, decide ((v0 - 5000) * 10 ≤ 61 * f (o + 10) 2))] ++
      (List.range 20).map (fun i => (o + 12 + i, f (o + 12 + i) 1 == 0))
  let tail := (List.range 92).map (fun i => (160 + i, f (160 + i) 1 == 0))
  ((head ++ (List.range 4).flatMap port ++ tail).find? (fun c => !c.2)).map (·.1)

/-- An identity memory's bytes read (R321, R322). -/
def readIdent (bs : List Byte) : Except Finding Ident :=
  if fieldAt bs 0 4 ≠ 0x51444C47 ∨ fieldAt bs 252 4 ≠ crc32 (bs.take 252) ∨ bs.length ≠ 256 then .error (2, some 0)
  else
    match identFault bs with
    | some o => .error (3, some o)
    | none => .ok ⟨fieldAt bs 5 1, fieldAt bs 6 2, (List.range 4).map (readPortIdent bs)⟩

/-- The identity of a read that got an answer or none (R87). -/
def readIdentMem (m : Option (List Byte)) : Except Finding Ident :=
  match m with
  | none => .error (1, some 0)
  | some bs => readIdent bs

/-- Quad `q`'s entry of the identity cache (R87). -/
def State.cacheEntry (s : State) (q : Nat) : Except Finding Ident := readIdent (s.flashBytes (0x2000 + 256 * q) 256)

/-- Bytes put at an offset of the identity cache sector, the rest kept: the sector is erased and programmed. -/
def State.cacheWrite (s : State) (ofs : Nat) (bs : List Byte) : State :=
  let old := s.flashBytes 0x2000 4096
  (s.flashErase 0x2000 4096).flashProgram 0x2000 (old.take ofs ++ bs ++ old.drop (ofs + bs.length))

/-- The stored PHY trim (R87): its value in the first four of 252 bytes, with a CRC-32. -/
def State.storedTrim (s : State) : Option Nat :=
  let bs := s.flashBytes 0x2C00 256
  if fieldAt bs 252 4 = crc32 (bs.take 252) then some (fieldAt bs 0 4) else none

/-- The 256 bytes of a stored trim. -/
def trimBytes (v : Nat) : List Byte :=
  let body := leBytes 4 v ++ List.replicate 248 0
  body ++ leBytes 4 (crc32 body)

/-! ## Journal ring (R90, R91) -/

/-- A journal record read from 32 bytes, none where its CRC fails. -/
def readJRec (bs : List Byte) : Option JRec :=
  if fieldAt bs 0 4 = 0xFFFFFFFF ∨ fieldAt bs 28 4 ≠ crc32 (bs.take 28) then none
  else some ⟨fieldAt bs 0 4, fieldAt bs 4 4, fieldAt bs 8 1, fieldAt bs 9 1, fieldAt bs 10 1, fieldAt bs 11 1, fieldAt bs 13 1,
    fieldAt bs 12 1, fieldAt bs 16 6⟩

/-- The record at ring position `p`. -/
def State.ringRec (s : State) (p : Nat) : Option JRec := readJRec (s.flashBytes (0x10000 + 32 * p) 32)

/-- The valid records of the ring, with their positions. -/
def State.ring (s : State) : List (Nat × JRec) :=
  (List.range 2048).filterMap (fun p => (s.ringRec p).map (fun r => (p, r)))

end Sys2Proof.Machine
end

