-- ==== Sys2Proof/Machine/BootOps.lean ====
section
/-! DEFINITION. Shared operations of boot and reset: failure memory (R88), the journal ring (R91), device-level resets
(R96, R97), rescue (R94, R95), the image update (R98, R99) and the requests of BOOT and SYS (R88, R95, R101, R415). -/

namespace Sys2Proof.Machine

/-! ## Failure memory -/

/-- BOOT.FAILMEM and BOOTCNT show what retention holds (R416). -/
def State.showBoot (s : State) : State :=
  let m := s.retain.failMem
  let s1 := ((s.wr BOOT.FAILMEM.SLOTA m).wr BOOT.FAILMEM.SLOTB (m / 2)).wr BOOT.FAILMEM.NVM (m / 4)
  let s2 := ((s1.wr BOOT.FAILMEM.QID (m / 8)).wr BOOT.FAILMEM.LINK (m / 2 ^ 15)).wr BOOT.FAILMEM.CAL (m / 2 ^ 19)
  (s2.wr BOOT.BOOTCNT.BOOTNO s.retain.bootNo).wr BOOT.BOOTCNT.CONSEC s.retain.consec

/-- Mark `k` of the failure memory is set (R88). -/
def State.marked (s : State) (k : Nat) : Bool := bitAt s.retain.failMem k

/-- Mark `k` is set. -/
def State.setMark (s : State) (k : Nat) : State :=
  { s with retain := { s.retain with failMem := withBit s.retain.failMem k true } }.showBoot

/-- The marks of `m` are cleared, with their runs (R88). -/
def State.clearMarks (s : State) (m : Nat) : State :=
  { s with retain := { s.retain with failMem := (List.range 20).foldl (fun a k => withBit a k (bitAt a k && !bitAt m k))
                                       s.retain.failMem
                                     runs := s.retain.runs.filter (fun e => !bitAt m e.1) } }.showBoot

/-- Runs at the end of a boot that reaches 0x0E: an alternative in use counts one, and the eighth clears its mark. -/
def stepRuns (marks alt : Nat) (runs : KMap Nat) : Nat × KMap Nat :=
  ((List.range 20).filter (fun k => 2 ≤ k)).foldl (fun a k =>
    if bitAt a.1 k && bitAt alt k then
      let c := KMap.get 0 a.2 k + 1
      if 8 ≤ c then (withBit a.1 k false, KMap.erase a.2 k) else (a.1, KMap.put 0 a.2 k c)
    else (a.1, KMap.erase a.2 k)) (marks, runs)

/-! ## Rebuilding from the ring (R88) -/

/-- What the ring's records say, taken one by one: marks, runs, count, alternatives in use in the boot so far, whether that
boot has reached 0x0E, and the target of an update that is open. -/
structure Rebuilt where
  marks : Nat
  runs : KMap Nat
  consec : Nat
  alt : Nat
  done : Bool
  opened : Option Nat
  deriving DecidableEq, Repr

/-- The failure-memory bit of a step instance, none for a step without one (R88). -/
def markOf (code inst slot : Nat) : Option Nat :=
  if code = 2 then some 2
  else if code = 8 then some (3 + inst)
  else if code = 9 then some (15 + inst)
  else if code = 0xA then some 19
  else if ((3 ≤ code ∧ code ≤ 7) ∨ code = 0xB) ∧ inst = 0xFF ∧ slot < 2 then some slot
  else none

/-- One record taken into the rebuilt state. -/
def Rebuilt.take (b : Rebuilt) (r : JRec) : Rebuilt :=
  let out := r.outcome % 4
  if r.code = 0x28 then
    let b1 := { b with runs := if b.done then b.runs else [], alt := 0, done := false }
    if r.arg = 6 then { b1 with consec := min 3 (b.consec + 1) }
    else if r.arg = 8 then { b1 with consec := 0, marks := 0, runs := [] }
    else b1
  else if r.code = 0x20 then { b with opened := some r.slot }
  else if r.code = 0x23 ∨ r.code = 0x24 then { b with opened := none }
  else if r.code = 0x27 then { b with marks := withBit (withBit b.marks 0 false) 1 false }
  else if r.code = 0xE then
    let x := stepRuns b.marks b.alt b.runs
    { b with marks := x.1, runs := x.2, consec := 0, done := true }
  else
    let m := if out = 1 ∧ r.reason = 0xC ∧ r.slot < 2 then withBit b.marks r.slot true else b.marks
    match markOf r.code r.inst r.slot with
    | none => { b with marks := m }
    | some k =>
      if out = 1 then { b with marks := withBit m k true }
      else if out = 3 ∧ (8 ≤ r.code ∧ r.code ≤ 0xA ∨ r.code = 2) then
        if bitAt b.marks k then { b with alt := withBit b.alt k true }
        else if r.code = 8 ∧ r.reason = 0 then b
        else { b with marks := withBit b.marks k true }
      else if out = 0 ∧ r.code = 8 then { b with marks := withBit b.marks k false }
      else b

/-- A list put in rising order of sequence number. -/
def insertRec (r : JRec) : List JRec → List JRec
  | [] => [r]
  | x :: xs => if r.seq < x.seq then r :: x :: xs else x :: insertRec r xs

/-- After a power-on reset, or where the boot state in retention is invalid, marks, runs, count, boot number and record
sequence come from the ring (R88). An update that the ring shows open whose target is ACTIVE has been committed (R99). -/
def State.rebuild (s : State) : State :=
  let rs := (s.ring.map (·.2)).foldl (fun l r => insertRec r l) []
  let b := rs.foldl Rebuilt.take ⟨0, [], 0, 0, true, none⟩
  let last := rs.getLast?
  let left := match b.opened, s.header with
    | some k, some (_, h) => h.state k != 1
    | some _, none => true
    | none, _ => false
  { s with
    retain := { s.retain with lost := false, failMem := b.marks, runs := b.runs, consec := b.consec,
                              bootNo := (last.map (·.bootno)).getD 0,
                              jseq := max s.retain.jseq ((last.map (·.seq)).getD 0) }
    boot := { s.boot with openUpdate := s.boot.openUpdate || left } }

/-- The flash answers: the ring position is found from the highest valid JSEQ (R91), and what retention holds beyond it is
written. -/
def State.flashOpen (s : State) : State :=
  let top := s.ring.foldl (fun (a : Option (Nat × JRec)) e => match a with
    | some x => if x.2.seq < e.2.seq then some e else some x
    | none => some e) none
  let b := match top with
    | some (p, r) => { s.boot with nvm := true, jPos := (p + 1) % 2048, jFlash := r.seq }
    | none => { s.boot with nvm := true, jPos := 0, jFlash := 0 }
  { s with boot := b }.ringFlush

/-! ## Device-level resets (R49, R96, R97) -/

/-- What a port keeps over a device-level reset: VBUS that has still to be discharged (R49). -/
def PortX.kept (p : PortX) : PortX := { PortX.reset with vbus := p.vbus, dsch := p.vbus }

/-- A boot attempt is under way: it has started and has not reached the end of step 0x0E (R88, R89). -/
def State.booting (s : State) : Bool := s.active && s.boot.started && s.boot.step != 0

/-- An update session is open, or one was when the last reset fell and no boot has journaled it yet (R90, R99); a COMMIT
whose header record has landed leaves nothing open. -/
def State.leftOpen (s : State) : Bool :=
  (s.boot.openUpdate && !s.boot.started) ||
    match s.upd with
    | some x => !x.landed
    | none => s.rd BOOT.UPDSTS.SESSION != 0

/-- A device-level reset with a cause: every register at its reset value, every port as R49 says, retention kept, the runs of
R88 broken by a boot that it ends; boot runs from step 0x01. An Eclipse wake keeps its owners, and runs an abbreviated
boot where the cached digests are valid (R100). -/
def State.devReset (s : State) (cause : Nat) : State :=
  let r := s.retain
  let r1 := { r with cause := cause, runs := if s.booting then [] else r.runs }
  let dsch := (allPorts.filter (fun n => (s.port n).gate || (s.port n).vbus)).map (fun n => Out.dsch n (s.port n).vbus)
  let t : State := { State.reset with
    retain := r1
    ports := s.ports.filterMap (fun e => if e.2.vbus then some (e.1, e.2.kept) else none)
    secs := s.secs.filterMap (fun e => if e.2.dieUp then some (e.1, { SecX.reset with dieUp := true }) else none)
    heldI2c := if cause = 9 then s.heldI2c else none
    flash := s.flash
    fuses := s.fuses
    low := s.low
    vbusU := s.vbusU
    resetN := s.resetN
    por := s.por
    vioDue := s.vioDue
    strapDue := s.strapDue
    vbusHigh := s.vbusHigh
    now := s.now
    freeCtr := s.freeCtr
    outs := s.outs ++ [.pinsReset] ++ dsch
    pending := s.pending
    boot := { BootX.reset with
      abbrev_ := cause == 9 && r.digests.isSome && r.sfdp
      openUpdate := s.leftOpen } }
  let u := ((t.wr SYS.STRAP.MODE (s.rd SYS.STRAP.MODE)).wr SYS.STRAP.ADR (s.rd SYS.STRAP.ADR)).wr SYS.STRAP.VIO33
    (s.rd SYS.STRAP.VIO33)
  let v := ((u.wr (FLT.RECOV.COUNT .sys) (s.rd (FLT.RECOV.COUNT .sys))).wr (FLT.RECOV.WINDOW .sys)
    (s.rd (FLT.RECOV.WINDOW .sys))).wr (FLT.RECOV.EVCNT .sys) (s.rd (FLT.RECOV.EVCNT .sys))
  v.wr BOOT.RSTCAUSE.CAUSE cause

/-- The core die is held in Reset (R60, R72): of two causes the lower stands (R97), and a power-on reset that has not ended
is the lowest. -/
def State.holdReset (s : State) (cause : Nat) : State :=
  let c := if s.vioDue then 1 else if s.phase == .held then min cause s.retain.cause else cause
  { s.devReset c with phase := .held }

/-- A supply is good. -/
def State.good (s : State) (x : Supply) : Bool := !s.low.contains x

/-- Upstream ports whose VBUS feeds Nightwatch's regulator (R24, R56). -/
def State.nwVbus (s : State) : List Nat := s.vbusU.filter (fun u => !s.vbusHigh.contains u)

/-- Nightwatch has a supply: VDD_NW or any Uu_VBUS (R24). -/
def State.nwUp (s : State) : Bool := s.good .vddNw || !s.nwVbus.isEmpty

/-- Every supply of the part. -/
def Supply.all : List Supply :=
  [.vddCore, .vddPhy, .vdd33Phy, .vddio, .vddNw] ++ (List.range 4).map (fun i => .vdd5 (Fin.ofNat 4 i)) ++
    (List.range 4).map (fun i => .vconnIn (Fin.ofNat 4 i))

/-- No supply is within its operating range and no Uu_VBUS is present (R46). -/
def State.dark (s : State) : Bool := Supply.all.all (fun x => !s.good x) && s.vbusU.isEmpty

/-- A part that is held is in Reset while any supply is there, and Unpowered otherwise (R46). -/
def State.settle (s : State) : State :=
  if s.phase = .held ∨ s.phase = .unpowered then { s with phase := if s.dark then .unpowered else .held } else s

/-- Every supply whose loss holds the core die in Reset is good (R60). -/
def State.coreGood (s : State) : Bool :=
  s.good .vddCore && s.good .vddPhy && s.good .vdd33Phy && s.good .vddio

/-- The strap pins are sampled (R52). -/
def State.sampleStraps (s : State) (strap : Nat) : State :=
  (s.wr SYS.STRAP.MODE (strap % 4)).wr SYS.STRAP.ADR (strap / 4)

/-- The failure memory, the count, the runs and the numbers are taken from the ring where retention holds none (R88). -/
def State.recall (s : State) : State := if s.retain.lost then s.rebuild else s

/-- Boot start (R90, R91, R88, R97): failure memory, boot number, event 0x28, and 0x24 for an update found open. -/
def State.bootStart (s : State) : State :=
  let s0 := s.recall
  let s1 := { s0 with retain := { s0.retain with bootNo := s0.retain.bootNo + 1 }, boot := { s0.boot with started := true } }
  let s2 := s1.showBoot.journal 0x28 0xFF 0 0xFF 0 s1.retain.cause
  if s2.boot.openUpdate then
    let s3 := s2.journal 0x24 0xFF 0 0xFF 0 0
    { s3 with boot := { s3.boot with openUpdate := false } }
  else s2

/-- The state with its boot started: State.reset stands at the very start of a boot. -/
def State.begun (s : State) : State := if s.boot.started then s else s.bootStart

/-- The held core die starts: flash release (R52), or boot at step 0x01. -/
def State.startBoot (s : State) : State :=
  if s.rd SYS.STRAP.MODE = 2 then { s with phase := .flashRelease } else { s with phase := .running }.bootStart

/-! ## Rescue (R94, R95) -/

/-- Rescue mode is entered: event 0x26, RSTCAUSE 0x07, the rescue port the lowest upstream port with VBUS. FAULT_N is low
(R48), and the flash is at hand. A boot that ends here does not reach 0x0E and breaks the runs (R88). -/
def State.enterRescue (s : State) (why : Nat) : State :=
  let u := (List.range 4).find? s.vbusU.contains
  let s0 := (if s.booting then { s with retain := { s.retain with runs := [] } } else s).recall
  let s1 := ((s0.wr BOOT.RSTCAUSE.CAUSE 7).wr SYS.MODE.MODE 3).wr BOOT.RESCUE.ENTRY why
  let s2 := { s1 with
    phase := .rescue
    rescue := { RescueX.reset with chosen := u.isSome, port := u.getD 0, fromUps := why == 3,
                                   devstate := if u.isSome then 1 else 0 }
    outs := s1.outs ++ [Out.faultN true] ++ (match u with
      | some k => [Out.pullup k true]
      | none => []) }
  let s3 := (s2.wr BOOT.RESCUE.PORT (u.getD 0)).raise SYS.FAULTPIN.PIN
  (if s3.boot.nvm then s3 else s3.flashOpen).journal 0x26 0xFF 0 0xFF 0 why

/-- VBUS on an upstream port in rescue: the first port on which it appears becomes the rescue port where none is chosen;
losing it on the rescue port takes the device off (R94). -/
def State.rescueVbus (s : State) (u : Nat) (present : Bool) : State :=
  if !s.rescue.chosen then
    if present then
      ({ s with rescue := { s.rescue with chosen := true, port := u, devstate := 1 } }.wr BOOT.RESCUE.PORT u).emit
        (.pullup u true)
    else s
  else if s.rescue.port = u then
    let t := ((s.mbxRelease 0).updAbort 4).emit (.pullup u present)
    { t with rescue := { t.rescue with devstate := if present then 1 else 0, addr := 0, ctl := .none } }
  else s

/-- BOOT.RESCUE.RSTREQ (R95): out of rescue with cause 0x08, the count, the failure memory and the cached digests cleared;
only where VDDIO is present. Where a supply still holds the core die, or power-on reset has not ended, boot waits (R59,
R60). -/
def State.rescueExit (s : State) : State :=
  if s.good .vddio then
    let s1 := { s with retain := { s.retain with consec := 0, failMem := 0, runs := [], digests := none } }
    let s2 := s1.devReset 8
    if s2.por ∨ !s2.coreGood then { s2 with por := true, phase := .held } else s2.startBoot
  else s

/-! ## Image update (R98, R99, R417) -/

/-- An update command is refused as busy (R98, R99): one runs, or the session is another requester's. -/
def State.updBusy (s : State) (code : Nat) : Bool :=
  s.on BOOT.UPDSTS.BUSY || (s.rd BOOT.UPDSTS.SESSION != 0 && s.rd BOOT.UPDSTS.OWNER != code)

/-- A command is refused in the present session state (R98). -/
def State.updState (s : State) (cmd slot : Nat) : Bool :=
  let se := s.rd BOOT.UPDSTS.SESSION
  match cmd with
  | 1 => se != 0 || (match s.header with
      | some (_, h) => h.state slot == 1
      | none => false)
  | 2 => se != 1
  | 3 => se == 0
  | 4 => se == 0
  | 5 => se != 2
  | _ => se == 0

/-- The 256 bytes of the page buffer. -/
def State.page (s : State) : List Byte := (List.range 64).flatMap (fun k => leBytes 4 (s.rd (BOOT.UPDDATA.DATA k)))

/-- What VERIFY finds on a slot (R98): the checks of steps 0x03 to 0x06; the reason with its argument, the result code of
R417, and whether the combination is untested. DESIGN CHOICE (log entry 104): an untested combination is no finding, so event
0x22 of a VERIFY that passes with one has reason 0 with OUTCOME OK; R90 gives DETAIL as steps 0x03 to 0x06, and step 0x05
gives reason 0x08 for it. -/
def State.verify (s : State) (slot len : Nat) : Option (Finding × Nat) × Bool :=
  let base := slotBase slot
  let man := s.flashBytes base 4096
  match readManifest man len with
  | .error f => (some (f, 4), false)
  | .ok m =>
    match s.checkSignature man with
    | some f => (some (f, 0x0A), false)
    | none =>
      match s.checkCompat base m.format m.sects with
      | .error f => (some (f, 0x0B), false)
      | .ok match_ =>
        match s.checkSections base m.sects with
        | some f => (some (f, if f.1 = 7 then 0x0A else 4), !match_)
        | none => (none, !match_)

/-- What runs the update commands is up (R16): the service engine, and in rescue the Warden (R95). -/
def State.svUp (s : State) : Bool := s.phase == .rescue || (s.active && s.runs 10)

/-- The service engine takes an accepted command up (R98, R417): what it does at once, and what it will report. -/
def State.updBegin (s : State) (x : UpdX) : State :=
  let y := { x with waiting := false }
  match x.cmd with
  | 1 => { s.journal 0x20 0xFF 0 x.slot 0 0 with upd := some y }
  | 2 => { s.flashErase (slotBase x.slot) 0x400000 with upd := some y }
  | 3 =>
    let a := slotBase x.slot + s.rd BOOT.UPDOFS.OFS
    let t := s.flashProgram a s.page
    { t with upd := some { y with result := if t.flashBytes a 256 = s.page then 0 else 6 } }
  | 4 =>
    (match s.verify x.slot x.len with
     | (some (f, c), _) => { s with upd := some { y with result := c, reason := f.1, arg := f.2 } }
     | (none, r) => { s with upd := some { y with restrict := r } })
  | _ => { s with upd := some y }

/-- A command accepted while the service engine did not run is taken up when it does (R16). -/
def State.updWake (s : State) : State :=
  match s.upd with
  | some x => if x.waiting && s.svUp then s.updBegin x else s
  | none => s

/-- An accepted update command starts (R98, R417): BUSY and the session's registers; the service engine does the rest. -/
def State.updStart (s : State) (cmd slot code : Nat) : State :=
  let tgt := if cmd = 1 then slot else s.rd BOOT.UPDSTS.TARGET
  let s1 := s.raise BOOT.UPDSTS.BUSY
  let s2 := if cmd = 1 then (s1.wr BOOT.UPDSTS.OWNER code).wr BOOT.UPDSTS.TARGET slot
    else if cmd = 3 then s1.wr BOOT.UPDSTS.SESSION 1 else s1
  { s2 with upd := some ⟨cmd, tgt, s.rd BOOT.UPDLEN.LEN, 0, 0, some 0, false, true, false⟩ }.updWake

/-- The header that OPEN writes: the target EMPTY (R98). -/
def State.openHeader (s : State) (slot : Nat) : Header :=
  match s.header with
  | some (_, h) => if slot = 0 then { h with stA := 0 } else { h with stB := 0 }
  | none => if slot = 0 then ⟨1, 1, 0, 1, 4096, 4096⟩ else ⟨1, 0, 1, 0, 4096, 4096⟩

/-- The header that COMMIT writes: the target ACTIVE with its length, the old slot PREVIOUS (R98). -/
def State.commitHeader (s : State) (slot len : Nat) : Header :=
  let h := match s.header with
    | some (_, h) => h
    | none => s.openHeader slot
  if slot = 0 then { h with active := 0, stA := 1, lenA := len, stB := 2 }
  else { h with active := 1, stB := 1, lenB := len, stA := 2 }

/-- A session ends: IDLE, no owner. -/
def State.updIdle (s : State) : State := (s.wr BOOT.UPDSTS.SESSION 0).wr BOOT.UPDSTS.OWNER 7

/-- A journal record whose argument the spec may leave open. -/
def State.journalOpen (s : State) (code inst outcome slot reason : Nat) (arg : Option Nat) : State :=
  match arg with
  | some a => s.journal code inst outcome slot reason a
  | none => (s.free).2.journal code inst outcome slot reason ((s.free).1 % 256)

/-- COMMIT's header record lands, and event 0x23 is still to come (R99). -/
def State.commitLand (s : State) (x : UpdX) : State :=
  { s.writeHeader (s.commitHeader x.slot s.boot.verLen) with upd := some { x with landed := true } }

/-- An update command finishes (R98, R417); BUSY stays while fuses are blown (R101). -/
def State.updDone (s : State) (x : UpdX) (readBack : Bool) : State :=
  let s0 := { s.flag BOOT.UPDSTS.BUSY s.fuseGoal.isSome with upd := none }
  match x.cmd with
  | 1 => ((s0.writeHeader (s0.openHeader x.slot)).wr BOOT.UPDSTS.SESSION 1).wr BOOT.UPDSTS.RESULT 0
  | 2 => (s0.journal 0x21 0xFF 0 x.slot 0 0).wr BOOT.UPDSTS.RESULT 0
  | 3 => s0.wr BOOT.UPDSTS.RESULT (if readBack then x.result else 6)
  | 4 =>
    let s1 := (s0.wr BOOT.UPDSTS.RESULT x.result).wr BOOT.UPDSTS.REASON x.reason
    let s2 := ((s1.wr BOOT.UPDSTS.SESSION (if x.result = 0 then 2 else 1)).flag BOOT.UPDSTS.RESTRICT x.restrict).journalOpen
      0x22 0xFF (if x.result = 0 then 0 else 1) x.slot x.reason x.arg
    { s2 with boot := { s2.boot with verLen := x.len } }
  | 5 => ((s0.journal 0x23 0xFF 0 x.slot 0 0).updIdle).wr BOOT.UPDSTS.RESULT 0
  | _ => s0.updIdle.wr BOOT.UPDSTS.RESULT 0

/-- UPDATE_COMMAND_COMPLETE (R417): the command in progress goes one stage on. A COMMIT has two: its header record lands, and
then event 0x23 is journaled (R99). -/
def execUpdateCommandComplete (readBack : Bool) (s : State) : Res :=
  done (match s.upd with
    | some x =>
      if x.waiting || !s.svUp then s.fresh
      else if x.cmd = 5 && !x.landed then s.fresh.commitLand x
      else s.fresh.updDone x readBack
    | none => s.fresh)

/-! ## Anti-rollback counter (R101) -/

/-- The counter cannot be advanced now (R101). -/
def State.rbState (s : State) : Bool :=
  s.boot.step != 0 || s.rd SYS.MODE.MODE != 1 || s.rd BOOT.HEADER.ACTIVE != s.boot.slot

/-- The value is outside the bounds (R101, R416). -/
def State.rbRange (s : State) (v : Nat) : Bool := decide (63 < v) || decide (v < s.fuses) || decide (s.boot.rollback < v)

/-- An accepted advance starts; there is nothing to blow where the counter already stands at the value. -/
def State.rbStart (s : State) (v : Nat) : State :=
  if v = s.fuses then s else { s.raise BOOT.UPDSTS.BUSY with fuseGoal := some v }

/-- FUSE_BLOW_COMPLETE (R101). -/
def execFuseBlowComplete (s : State) : Res :=
  done (match s.fuseGoal with
    | none => s.fresh
    | some v =>
      let s1 := { s.fresh with fuses := s.fuses + 1 }.wr BOOT.RBCTR.VALUE (s.fuses + 1)
      if s.fuses + 1 < v then s1
      else ({ s1 with fuseGoal := none }.flag BOOT.UPDSTS.BUSY s.upd.isSome).journal 0x25 0xFF 0 0xFF 0 v)

/-! ## Software full reset (R415) -/

/-- SOFTWARE_FULL_RESET (R415): 1 ms after the accepted request. -/
def execSoftwareFullReset (s : State) : Res :=
  doneIf s.resetDue s.fresh ((s.fresh.devReset 5).startBoot)

/-- BOOT_RETRY_RESET (R89): 10 ms after the failing step was journaled. -/
def execBootRetryReset (s : State) : Res :=
  doneIf (s.active && s.boot.retry) s.fresh
    ((({ s.fresh with retain := { s.retain with consec := min 3 (s.retain.consec + 1) } }).devReset 6).startBoot)

end Sys2Proof.Machine
end

