-- ==== Sys2Proof/Machine/Faults.lean ====
section
/-! DEFINITION. The interrupt controller's claims, completions and coalescing (R361 to R370), and the fault framework's
timers, restores, watchdogs and pin (R377 to R385). -/

namespace Sys2Proof.Machine

/-! ## Interrupt controller: what reads and writes do -/

/-- A claim of target `t` (R362): the source returned, and the state after. -/
def State.claim (s : State) (t : Nat) : Nat × State :=
  let i := s.top t
  if i = 0x3FF then (i, s.bump (ICU.TCNT.SPUR t))
  else (i, (((s.wr (ICU.SRC_STS.PEND i) 0).raise (ICU.SRC_STS.INSVC i)).wr (ICU.TSTAT.INSVC t) i).lineCheck t)

/-- A committed write of `v` to DONE[t] (R363); 0x200 to 0x3FE never get here. -/
def State.doneEffect (s : State) (t v : Nat) : State :=
  let i := s.rd (ICU.TSTAT.INSVC t)
  if v = 0x3FF then s
  else if v = i then
    let s1 := (s.wr (ICU.SRC_STS.INSVC i) 0).wr (ICU.TSTAT.INSVC t) 0x3FF
    if s1.on (ICU.TSTAT.ORDERR t) then (s1.wr (ICU.TSTAT.ORDERR t) 0).deliver t else s1.lineCheck t
  else
    let s1 := ((s.raise (ICU.TSTAT.ORDERR t)).bump (ICU.TCNT.ORDCNT t)).lineCheck t
    (s1.edge 3).record .icu 0

/-- What a committed write of SRC[i].CFG does, given the old enable and target (R361). -/
def State.cfgEffect (s : State) (i : Nat) (oldEn : Bool) (oldT : Nat) : State :=
  let t := s.rd (ICU.SRC_CFG.TGT i)
  let s1 := (s.lineCheck oldT).lineCheck t
  if !oldEn && s1.on (ICU.SRC_CFG.EN i) && s1.on (ICU.SRC_STS.PEND i) then s1.hold t i else s1

/-- What a committed write of TCTL[t] does to a target that is holding events (R365): delivery at once where the new count
is reached or the new time has passed. -/
def State.tctlEffect (s : State) (t : Nat) : State :=
  if s.rd (ICU.TSTAT.HELD t) = 0 then s
  else if s.rd (ICU.TCTL.CCOUNT t) ≤ s.rd (ICU.TSTAT.HELD t) then s.deliver t
  else
    match KMap.get none s.icuTimer t with
    | none => s
    | some m =>
      let e := s.elapsedUs m
      if s.rd (ICU.TCTL.CTIME t) ≤ e.1 then e.2.deliver t else e.2

/-- A 1 written to CLRPEND (R359). -/
def State.clrpendEffect (s : State) (i : Nat) : State :=
  if srcExists i then (s.wr (ICU.SRC_STS.PEND i) 0).lineCheck (s.rd (ICU.SRC_CFG.TGT i)) else s

/-- COALESCE_TIMEOUT (R365): the timer of a target holding events reaches CTIME. -/
def execCoalesceTimeout (t : Fin 13) (s : State) : Res :=
  doneIf (s.rd (ICU.TSTAT.HELD t) != 0 && (KMap.get none s.icuTimer t).isSome && !s.on (ICU.TSTAT.LINE t)) s.fresh
    (s.fresh.deliver t)

/-! ## Restore of a block (R378) -/

/-- Ports of a sector are armed at step 0x0D (R87): quad fitted with identity values in use, sector present, link trained. -/
def State.canArm (s : State) (n : Nat) : Bool :=
  bitAt s.boot.fitted (quadOf n) && (s.quad (quadOf n)).ident.isSome && s.on (SEC.STS.PRESENT (secOf n)) &&
    s.on (SEC.STS.LINK (secOf n))

/-- The ports of sector `i` armed or not (step 0x0D), FBI of each armed port at the code for 5 V (R318); SEC.STS.ARMED
shows whether any is. -/
def State.armSector (s : State) (i : Nat) : State :=
  let s1 := s.forEach (secPorts i) (fun t n =>
    let t1 := t.modPort n (fun p => { p with armed := s.canArm n })
    if s.canArm n then t1.fbiDrive n (t1.fbiCode n 0) else t1)
  s1.flag (SEC.STS.ARMED i) ((secPorts i).any s.canArm)

/-- Step 0x0D of one sector after its restore (R96, R378): journaled with INST, a handover that waited for it goes on (R264),
each port's demand evaluated. -/
def State.sectorArm (s : State) (i : Nat) : State :=
  let s1 := (s.armSector i).journal 0x0D i (if (secPorts i).all s.canArm then 0 else 3) s.boot.slot 0 0
  s1.forEach (secPorts i) (fun t n => (t.handoverRelease n).evalDemand n)

/-- A block restores (R378, R385): its action ends, and what the action held off comes back. -/
def State.restoreBlock (s : State) (b : FBlk) : State :=
  let s1 := s.modFlt b (fun x => { x with action := false, major := 0 })
  match b with
  | .prt n => s1.evalDemand n
  | .qd q =>
    let s2 := s1.modQuad q (fun x => { x with actionMark := false })
    let keep := (s2.quad q).failTrig
    s2.forEach (quadPorts q) (fun t n => if keep then t else (t.clearMark n).tryApply n)
  | .sec i => (secPorts i).foldl (fun t n => t.recordPresent (.prt n)) (s1.sectorArm i)
  | .ups u => (s1.modUp u (fun x => { x with blocked := false })).attachPers u
  | .icu => s1
  | _ => (s1.devReset 4).startBoot

/-- What the block itself can see of its self-test (R378, R385): no condition still present where the block has a test; a
sector's link trained and its die below 120 °C; the core die below 100 °C for SYS source 3. -/
def State.testPasses (s : State) (b : FBlk) (pass : Bool) : Bool :=
  match b with
  | .prt _ => pass && (s.flt b).present == 0
  | .qd _ => pass && (s.flt b).present == 0
  | .sec i => pass && (s.flt b).present == 0 && s.on (SEC.STS.LINK i) && decide (signed 12 (s.rd (SEC.TJDIE.TJ i)) < 480)
  | .sys => !bitAt (s.flt b).present 3 || (pass && decide (signed 12 (s.rd SYS.TJCORE.TJ) < 400))
  | _ => true

/-- A passed test restores the block and counts a recovery (R380). -/
def State.recover (s : State) (b : FBlk) : State :=
  ((s.wr (FLT.FLTTIMERS.STATE b) 0).countRecovery b).restoreBlock b

/-- QUIET_END (R380): the quiet period of a block ends and its self-test runs. -/
def execQuietEnd (b : Fin 74) (pass : Bool) (s : State) : Res :=
  let k := FBlk.ofIdx b
  doneIf (s.rd (FLT.FLTTIMERS.STATE k) == 2) s.fresh
    (if s.testPasses k pass then s.fresh.recover k
     else ((s.fresh.wr (FLT.FLTTIMERS.STATE k) 4).raise (FLT.RECOV.LATCHED k)).raise (FLT.RECOV.LASTING k))

/-- A 1 written to FLTACK.CLRLATCH (R381). -/
def State.clrlatchEffect (s : State) (b : FBlk) (pass : Bool) : State :=
  if s.rd (FLT.FLTTIMERS.STATE b) ≠ 4 then s
  else if s.testPasses b pass then
    (((s.wr (FLT.RECOV.LATCHED b) 0).wr (FLT.RECOV.WINDOW b) 0).wr (FLT.RECOV.LASTING b) 0).recover b
  else s.raise (FLT.RECOV.LASTING b)

/-- A 1 written to FLTACK.ACK (R377): it stops a running grace timer, and no action follows for what was recorded. -/
def State.ackEffect (s : State) (b : FBlk) : State :=
  if s.rd (FLT.FLTTIMERS.STATE b) = 1 then
    (s.wr (FLT.FLTTIMERS.STATE b) 0).modFlt b (fun x => { x with major := 0 })
  else s

/-- GRACE_EXPIRE (R377): the action for a major fault nobody acknowledged; source 1 of a port counts as lasting (R380). -/
def execGraceExpire (b : Fin 74) (s : State) : Res :=
  let k := FBlk.ofIdx b
  let m := (s.flt k).major
  let src := match k with
    | .prt _ => if bitAt m 1 then 1 else ((List.range 16).find? (bitAt m)).getD 0
    | _ => ((List.range 16).find? (bitAt m)).getD 0
  doneIf (s.rd (FLT.FLTTIMERS.STATE k) == 1) s.fresh (s.fresh.takeAction k src 2)

/-- RECOVERY_WINDOW_EXPIRE (R381): a recovery is 60 s old. -/
def execRecoveryWindowExpire (b : Fin 74) (s : State) : Res :=
  let f := FLT.RECOV.WINDOW (FBlk.ofIdx b)
  doneIf (s.rd f != 0) s.fresh (s.fresh.wr f (s.rd f - 1))

/-! ## Watchdogs, die temperature, the pin -/

/-- ENGINE_WATCHDOG_MISS (R383): source 1 and a restart of the engine; a second miss within 1 s of that restart is
escalated. -/
def execEngineWatchdogMiss (e : Fin 11) (s : State) : Res :=
  let last := (s.missed.find? (fun m => m.1 == e.val)).map (·.2)
  doneIf (s.active && !s.safe && s.runs e) s.fresh
    (let x := match last with
      | some m => s.fresh.elapsedUs m
      | none => (1000001, s.fresh)
     if x.1 ≤ 1000000 then
       let s1 := { x.2 with missed := x.2.missed.filter (fun m => m.1 != e.val) }
       if e.val < 4 then s1.record (.sec e) 4
       else if e.val < 8 then s1.record (.sec (e - 4)) 4
       else s1.record .sys 0
     else
       let s1 := (x.2.edge 1).engineStop e
       { s1 with missed := (e.val, s1.now) :: s1.missed.filter (fun m => m.1 != e.val) })

/-- WARDEN_TIMER_EXPIRE (R383): Nightwatch's timer on the Warden performs a watchdog reset. -/
def execWardenTimerExpire (s : State) : Res :=
  doneIf (s.active || s.phase == .rescue) s.fresh ((s.fresh.devReset 4).startBoot)

/-- CORE_DIE_OVERTEMP (R76, R374): a critical device fault, SYS source 3, wherever the core die runs. -/
def execCoreDieOvertemp (s : State) : Res :=
  doneIf (s.active || s.phase == .dusk || s.phase == .rescue) s.fresh ((s.fresh.edge 6).condBegin .sys 3)

/-- FAULT_N_WIDTH_END (R384): the pin follows FORCE. -/
def execFaultNWidthEnd (s : State) : Res :=
  doneIf s.faultWidth s.fresh
    (let s1 := { s.fresh with faultWidth := false }
     if s1.on SYS.FAULTPIN.FORCE then s1 else (s1.wr SYS.FAULTPIN.PIN 0).emit (.faultN false))

/-- What a committed write of FAULTPIN does to the pin (R384): during WIDTH nothing yet. -/
def State.faultpinEffect (s : State) : State :=
  if s.faultWidth then s
  else (s.wr SYS.FAULTPIN.PIN (s.rd SYS.FAULTPIN.FORCE)).emit (.faultN (s.on SYS.FAULTPIN.FORCE))

/-- CLK_NW_OUT_OF_RANGE (R374): NW source 0. -/
def execClkNwOutOfRange (s : State) : Res :=
  doneIf s.active s.fresh (s.fresh.record .nw 0)

/-- CLK_NW_CALIBRATE (R391): once per second in Active the interval's clock is measured; the model keeps no clock error, so
nothing that is seen changes. -/
def execClkNwCalibrate (s : State) : Res := done s.fresh

/-- RETENTION_PARITY_ERROR (R388): NW source 1, and the area that holds the word is invalid. -/
def execRetentionParityError (area : RetArea) (s : State) : Res :=
  done (
    let s0 := s.fresh.record .nw 1
    let r := s0.retain
    match area with
    | .journal i => { s0 with retain := { r with journal := r.journal.eraseIdx i } }
    | .identity q => { s0 with retain := { r with idents := KMap.erase r.idents q } }
    | .trim => { s0 with retain := { r with phyTrim := none } }
    | .digests => { s0 with retain := { r with digests := none } }
    | .flashParams => { s0 with retain := { r with sfdp := false, compat := none } }
    | .bootState => s0.rebuild.showBoot
    | .energy q => { s0 with retain := { r with energy := KMap.erase r.energy q } }
    | .eclipse => { s0 with retain := { r with owners := [] } })

end Sys2Proof.Machine
end

