-- ==== Sys2Proof/Machine/Supply.lean ====
section
/-! DEFINITION. Supplies, resets by pin and power (R46 to R61, R72), the sector links (R14, R15), engine returns (R18) and
Uu_VBUS (R94, R138). -/

namespace Sys2Proof.Machine

/-! ## Sector links -/

/-- LINK_FRAME_CRC_FAIL (R14): the frame is sent again and never acted on; RETX counts it. -/
def execLinkFrameCrcFail (i : Fin 4) (s : State) : Res :=
  doneIf (s.active && s.on (SEC.STS.LINK i)) s.fresh (s.fresh.bump (SEC.LINKCNT.RETX i))

/-- A link loses lock (R15): the core die retrains it, and the port die goes into autonomous hold. -/
def State.linkLost (s : State) (i : Nat) : State :=
  ((((s.wr (SEC.STS.LINK i) 0).raise (SEC.STS.HOLD i)).bump (SEC.LINKCNT.RETRAIN i)).orBits (SEC.EVT.EVENTS i) 1).modSec i
    (fun x => { x with lost := true, late := false })

/-- LINK_LOCK_LOST (R15). -/
def execLinkLockLost (i : Fin 4) (s : State) : Res :=
  doneIf (s.active && s.on (SEC.STS.LINK i)) s.fresh (s.fresh.linkLost i)

/-- A port after its link is back (R15, R47): what waited for it is done — the demand, error recovery, the gate of a port
marked off, CC and FBI of a die that had lost its supply, Rp and the limit — and then the stored messages are delivered and
a partner that waits for VBUS goes on. -/
def State.linkBack (s : State) (n : Nat) : State :=
  let s1 := s.evalDemand n
  let s2 := if (s1.port n).errDue then (s1.modPort n (fun p => { p with errDue := false })).errorRecovery n else s1
  let s3 := if s2.rd (PWR.PALLOW.SHED n) = 2 ∧ (s2.port n).gate then s2.powerCut n else s2
  let p := s3.port n
  let s4 := if p.armed ∧ !p.fbiOn then s3.fbiDrive n (s3.fbiCode n 0) else s3
  let s5 := if p.demand ∧ !p.restart ∧ s4.tc n = 0 ∧ !s4.safe then s4.ccOn n else s4
  let s6 := (s5.rpSettle n).rpFollow n
  ((((if p.gate then s6.setIset n else s6).hresetRun n).deliverStored n).tryApply n)

/-- LINK_RESTORED (R15, R411): the rate follows REDUCED, and every port of the sector goes on. -/
def execLinkRestored (i : Fin 4) (s : State) : Res :=
  doneIf (s.active && (s.sec i).lost && (s.sec i).dieUp) s.fresh
    (let s1 := ((s.fresh.raise (SEC.STS.LINK i)).wr (SEC.STS.HOLD i) 0).modSec i
        (fun x => { x with lost := false, late := false })
     let red := s1.rd (SEC.CTL.REDUCED i)
     let s2 := ((s1.wr (SEC.STS.RATE i) red).orBits (SEC.EVT.EVENTS i) (2 + 4 * red)).condEnd (.sec i) 0
     s2.forEach (secPorts i) (fun t n => t.linkBack n))

/-- LINK_RESTORE_TIMEOUT (R15, R374): not restored within 20 ms. -/
def execLinkRestoreTimeout (i : Fin 4) (s : State) : Res :=
  doneIf (s.active && (s.sec i).lost && !(s.sec i).late) s.fresh
    ((s.fresh.modSec i (fun x => { x with late := true })).condBegin (.sec i) 0)

/-! ## Reset pin and power-on -/

/-- All supplies of Nightwatch are gone (R24): power-on reset; retention is lost, and the VDDIO mode and the straps are to be
taken anew (R52, R58). -/
def State.powerLost (s : State) : State :=
  let s1 := { s.devReset 1 with retain := Retain.reset, phase := .held, por := true, vioDue := true, strapDue := true }
  let s2 := { s1 with boot := { s1.boot with openUpdate := false } }
  ((((s2.wr (FLT.RECOV.COUNT .sys) 0).wr (FLT.RECOV.WINDOW .sys) 0).wr (FLT.RECOV.EVCNT .sys) 0).wr BOOT.RSTCAUSE.CAUSE
    1).settle

/-- RESET_N_ASSERT (R49, R50, R72): ignored while VDDIO is absent. -/
def execResetNAssert (s : State) : Res :=
  done (let s1 := { s.fresh with resetN := true }
        if s.good .vddio then s1.holdReset 2 else s1)

/-- RESET_N_RELEASE (R52, R72): straps are sampled and boot begins, once no supply holds the part. -/
def execResetNRelease (strap : BitVec 5) (s : State) : Res :=
  let s1 := { s.fresh with resetN := false }
  done (if s.resetN ∧ s.good .vddio ∧ s.phase = .held then
          (let s2 := { s1.sampleStraps strap.toNat with strapDue := false }
           if s.por then s2 else s2.startBoot)
        else s1)

/-- POWER_ON_RESET_END (R52, R58, R59, R60): the supplies have been good for 1 ms. After a power-on reset the VDDIO mode is
chosen and, with RESET_N not driven low, the straps are sampled; with RESET_N low the part stays in Reset, and in rescue it
stays in rescue (R50). -/
def execPowerOnResetEnd (strap : BitVec 5) (vio33 : Bool) (s : State) : Res :=
  doneIf ((s.phase == .held || s.phase == .unpowered || s.phase == .rescue) && s.por && s.coreGood && s.good .vddNw) s.fresh
    (let s1 := { s.fresh with por := false, vioDue := false, strapDue := false }
     let s2 := if s.vioDue then s1.flag SYS.STRAP.VIO33 vio33 else s1
     let s3 := if s.strapDue ∧ !s.resetN then s2.sampleStraps strap.toNat else s2
     if s.phase = .rescue then s3
     else if s.resetN then { s3 with phase := .held }
     else s3.startBoot)

/-- PORT_DIE_POR_END (R59): the port die waits in the Reset column until its link trains. -/
def execPortDiePorEnd (i : Fin 4) (s : State) : Res :=
  doneIf (s.good (.vdd5 i)) s.fresh (s.fresh.modSec i (fun x => { x with dieUp := true }))

/-! ## Supplies -/

/-- The R49 actions of a port die on one port as VDD5 falls (R60, R157): gate, VCONN and SBU off, CC open, FBI high
impedance, discharge; the hub state is Disconnected while the demand lasts (R154). -/
def State.portDieOff (s : State) (n : Nat) : State :=
  let s1 := ((((s.dropPower n).fbiHiZ n).clearMark n).discharge n)
  let s2 := if (s1.port n).demand then s1.vbusLoss n else s1
  s2.modPort n (fun p => { p with stored := [], errDue := false, detachDue := false })

/-- The port die of a sector takes the R49 actions on its 12 ports as VDD5 falls, and its link is down (R60). -/
def State.dieDown (s : State) (i : Nat) : State :=
  let s1 := (s.modSec i (fun x => { x with dieUp := false })).forEach (secPorts i) (fun t n => t.portDieOff n)
  let s2 := if s1.on (SEC.STS.LINK i) then (s1.linkLost i).wr (SEC.STS.HOLD i) 0 else s1
  (s2.orBits (SEC.EVT.EVENTS i) 16).condBegin (.sec i) 2

/-- The reaction to a low core supply (R60): held in Reset; with VDDIO absent and a Uu_VBUS that feeds Nightwatch, rescue
(R50, R94). Rescue from Uu_VBUS goes on, and power-on reset of the core die has to end anew. -/
def State.coreLow (s : State) (x : Supply) : State :=
  if s.phase = .rescue ∧ s.rescue.fromUps then { s with por := true }
  else
    let s1 := { s.holdReset 3 with por := true }
    if x = .vddio ∧ !s.nwVbus.isEmpty then s1.enterRescue 3 else s1.settle

/-- SUPPLY_LOW (R60, R61): a supply has stayed below its falling threshold for 2 µs. -/
def execSupplyLow (x : Supply) (s : State) : Res :=
  doneIf (s.good x) s.fresh
    (let s1 := { s.fresh with low := s.low ++ [x] }
     let runs := s.active || s.phase == .dusk
     let s2 := if runs then s1.edge 0 else s1
     match x with
     | .vddCore => s1.coreLow x
     | .vddPhy => s1.coreLow x
     | .vdd33Phy => s1.coreLow x
     | .vddio => s1.coreLow x
     | .vddNw => if s.nwVbus.isEmpty then s1.powerLost else s2
     | .vdd5 i => if runs then s2.dieDown i else (s2.modSec i (fun y => { y with dieUp := false })).settle
     | .vconnIn i =>
       if runs then
         (((s2.forEach (secPorts i) (fun t n => t.vconnOff n)).wr (SEC.STS.VCONNOK i) 0).orBits (SEC.EVT.EVENTS i) 32)
       else s2.settle)

/-- SUPPLY_RESTORED (R60, R50): a supply is above its rising threshold again; where VDDIO comes back in rescue with RESET_N
low, the part is held in Reset. -/
def execSupplyRestored (x : Supply) (s : State) : Res :=
  doneIf (!s.good x) s.fresh
    (let s1 := { s.fresh with low := s.low.filter (· != x) }
     match x with
     | .vconnIn i => if s.active ∨ s.phase = .dusk then s1.raise (SEC.STS.VCONNOK i) else s1.settle
     | .vdd5 i => (s1.condEnd (.sec i) 2).settle
     | .vddio => if s.phase = .rescue ∧ s.resetN then s1.holdReset 2 else s1.settle
     | _ => s1.settle)

/-- UPSTREAM_VBUS_CHANGE (R138, R94, R24): the personality follows it while the part runs; in rescue it may choose the
rescue port; with VDDIO absent its appearance enters rescue; losing the last supply of Nightwatch is a power-on reset. -/
def execUpstreamVbusChange (u : Fin 4) (present : Bool) (s : State) : Res :=
  doneIf (s.vbusU.contains u.val != present) s.fresh
    (let s1 := { s.fresh with vbusU := if present then s.vbusU ++ [u.val] else s.vbusU.filter (· != u.val)
                              vbusHigh := s.vbusHigh.filter (· != u.val) }
     if !s1.nwUp then s1.powerLost
     else
       match s.phase with
       | .running => s1.vbusChange u present
       | .rescue => s1.rescueVbus u present
       | .held => if present ∧ !s.good .vddio then s1.enterRescue 3 else s1
       | .unpowered => if present ∧ !s.good .vddio then s1.enterRescue 3 else s1.settle
       | .flashRelease => s1
       | .dusk => s1
       | .eclipse => s1)

/-- UPSTREAM_VBUS_OVERVOLTAGE (R56, R374): Uu_VBUS above 6.0 V is still sensed but cut from Nightwatch's regulator until it
changes; recorded while the part runs. With no other supply of Nightwatch a power-on reset follows (R24). -/
def execUpstreamVbusOvervoltage (u : Fin 4) (s : State) : Res :=
  let s1 := { s.fresh with vbusHigh := if s.vbusHigh.contains u.val then s.vbusHigh else s.vbusHigh ++ [u.val] }
  done (if s.nwUp && !s1.nwUp then s1.powerLost
    else if s.active then s1.record (.ups u) 0 else s1)

/-! ## Engines -/

/-- PE1 runs again (R18, R332): a trip that fell meanwhile has its wait started, full length where it counts anew. -/
def State.pe1Return (s : State) : State :=
  s.forEach allPorts (fun t n =>
    let p := t.port n
    if p.waitDue then
      t.modPort n (fun p => { p with waitDue := false, waitAnew := false, waitRun := p.selfTest == .none && !p.latched,
                                     waitAt := if p.waitAnew then t.now else p.waitAt })
    else t)

/-- ENGINE_RESTART_COMPLETE (R16, R18, R383): the engine runs again, and what waited for it goes on; the books of PE0 are
rebuilt by PE0_REBUILD. -/
def execEngineRestartComplete (e : Fin 11) (s : State) : Res :=
  let sect := if e.val < 8 then (s.sec (e.val % 4)).restarting else false
  doneIf (s.active && !s.safe && s.boot.step == 0 && !s.runs e && !sect) s.fresh
    (let s1 := s.fresh.engineRun e
     if e.val = 9 then s1.pe1Return.forEach allPorts (fun t n => t.tryApply n)
     else if 4 ≤ e.val ∧ e.val < 8 then
       s1.forEach (secPorts (e.val - 4)) (fun t n => ((t.hresetRun n).deliverStored n).tryApply n)
     else if e.val < 4 then s1.forEach (secPorts e.val) (fun t n => t.hubReplay n)
     else if e.val = 10 then s1.updWake.ldsReturn
     else s1)

end Sys2Proof.Machine
end

