-- ==== Sys2Proof/Machine/Operands.lean ====
section
/-! DEFINITION. Operand forms of the register interface: the address space with its alias region and compatibility window
(R121, R128), the reach of a requester (R102, R103, R129), blocks that are off (R120, R390), and the value a word reads
(R26, R27, R114, R122). -/

namespace Sys2Proof.Machine

/-! ## Addresses -/

/-- What a 24-bit byte address names: a native word (one bit of it through its alias), or a word of the Galuc 1604 window:
its CHIPID, PORTINT, or one it does not implement. -/
inductive Place where
  | word (a : Nat) (bit : Option Nat)
  | winWord (a : Nat) (port : Option Nat)
  | chipId | portInt
  | unlisted (port : Option Nat)
  deriving DecidableEq, Repr

/-- Offsets of PRT[n] that the window maps (R128). -/
def winOffsets : List Nat := [0x00, 0x04, 0x08, 0x10, 0x14, 0x20, 0x24, 0x40, 0x44, 0x48, 0x50, 0x54]

/-- A word of the compatibility window (R128). DESIGN CHOICE (log entry 103): the whole 0x100 stride of a port counts as its
port block for R129, the unlisted offsets 0x98 to 0xFF too, so that a U0 without the port gets E_OWNER there. -/
def windowPlace (w : Nat) : Place :=
  if w = 0 then .chipId
  else if w = 4 then .winWord 0x8 none
  else if w = 8 then .winWord 0xC none
  else if w = 0xC then .winWord 0x10 none
  else if w = 0x10 then .portInt
  else if w < 0x1000 ∨ 0x2000 ≤ w then .unlisted none
  else
    let n := (w - 0x1000) / 0x100
    let o := (w - 0x1000) % 0x100
    if winOffsets.contains o then .winWord (0x10000 + 0x400 * n + o) (some n)
    else if 0x80 ≤ o ∧ o ≤ 0x94 then .winWord (0x10000 + 0x400 * n + 0x100 + (o - 0x80)) (some n)
    else .unlisted (some n)

/-- What an aligned address names (R121, R128, R405). -/
def placeOf (a : Nat) : Place :=
  if a < 0x400000 then .word a none
  else if a < 0x800000 then .word (4 * ((a - 0x400000) / 4 / 32)) (some ((a - 0x400000) / 4 % 32))
  else windowPlace (a - 0x800000)

/-- Words whose alias has a side effect beyond its own bit (R122). -/
def aliasBarred (a : Nat) : Bool :=
  a == 0x24 || (decide (0x5000 ≤ a) && decide (a < 0x5340) && (a % 0x40 == 0 || a % 0x40 == 4)) ||
    (decide (0x8000 ≤ a) && decide (a < 0x8100) && a % 0x20 == 0x1C)

/-! ## Reach (R102, R103, R129) -/

/-- Bit of ACCMASK for a block (R103, R405). -/
def maskBit (b : Blk) : Option Nat :=
  match b with
  | .sys => some 0
  | .boot => some 1
  | .nw => some 2
  | .icu => some 3
  | .pwr => some 4
  | .pkm => some 5
  | .swx => some 6
  | .ups _ => some 7
  | .sec _ => some 8
  | .qd _ => some 9
  | .lds => some 10
  | .mbx _ => none
  | .mbxBulk => none
  | .prt _ => none

/-- Personality `u` has mask bit `b` for a read or a write. -/
def State.permits (s : State) (u b : Nat) (wr : Bool) : Bool :=
  if wr then bitAt (s.rd (UPS.ACCMASK.WR u)) b else bitAt (s.rd (UPS.ACCMASK.RD u)) b

/-- Mailbox `m` belongs to requester `r` (R102). -/
def ownMbx (r : Requester) (m : Nat) : Bool :=
  match r with
  | .pers u => m == u.val
  | .rescue => m == 0
  | .spi => m == 4 || m == 5
  | .i2c => m == 6 || m == 7
  | .records => false
  | .service => false

/-- Requester `r` reaches a native word at `a`. A word in no block is denied to the rescue personality alone. -/
def State.reaches (s : State) (r : Requester) (a : Nat) (wr : Bool) : Bool :=
  match blockOf a with
  | none => r != .rescue && r != .service
  | some (.mbx m, _) => ownMbx r m
  | some (.mbxBulk, _) => r != .records && r != .service
  | some (b, off) =>
    match r with
    | .spi => true
    | .i2c => true
    | .records => b != .boot && !(match b with
        | .prt _ => off == 0xC
        | _ => false)
    | .rescue => b == .boot || (b == .sys && !wr)
    | .service => (match b with
        | .prt _ => off == 0xC
        | _ => false)
    | .pers u =>
      match b with
      | .ups v => v == u.val || s.permits u 7 wr
      | .prt n => s.owns u n
      | _ => (match maskBit b with
        | some k => s.permits u k wr
        | none => true)

/-- Requester `r` reaches the window, and the port block concerned (R129). -/
def State.reachesWin (s : State) (r : Requester) (port : Option Nat) (wr : Bool) : Bool :=
  match r with
  | .spi => true
  | .i2c => true
  | .pers u => u.val == 0 && s.permits 0 11 wr && (match port with
      | some n => s.owns 0 n
      | none => true)
  | .rescue => false
  | .records => false
  | .service => false

/-- A place is within reach. -/
def State.inReach (s : State) (r : Requester) (p : Place) (wr : Bool) : Bool :=
  match p with
  | .word a bit => s.reaches r a wr && !(bit.isSome && r == .records)
  | .winWord _ port => s.reachesWin r port wr
  | .chipId => s.reachesWin r none wr
  | .portInt => s.reachesWin r none wr
  | .unlisted port => s.reachesWin r port wr

/-! ## Blocks that are off (R120, R390) -/

/-- A sector was marked absent at step 0x01. -/
def State.absent (s : State) (i : Nat) : Bool := s.boot.step != 1 && !s.on (SEC.STS.PRESENT i)

/-- The block of a native word is off: PRT and QD of an absent sector, and in Dusk ICU, SWX, PKM and BOOT. -/
def State.isOff (s : State) (a : Nat) : Bool :=
  match blockOf a with
  | some (.prt n, _) => s.absent (secOf n)
  | some (.qd q, _) => s.absent (q / 3)
  | some (.icu, _) => s.phase == .dusk
  | some (.swx, _) => s.phase == .dusk
  | some (.pkm, _) => s.phase == .dusk
  | some (.boot, _) => s.phase == .dusk
  | _ => false

/-! ## Values -/

/-- FSUM words (R372): bit per block with FLTSTS not 0, in the order given. -/
def State.fsum (s : State) (l : List FBlk) : Nat := boolsNat (l.map (fun b => s.on (FLT.FLTSTS.SRC b)))

/-- The idle interval in ms (R391). -/
def State.idleMs (s : State) : Nat := s.rd NW.IDLE.TIME * 2 ^ s.rd NW.STS.BACKOFF

/-- The part is idle (R391). -/
def State.idle (s : State) : Bool :=
  s.active && s.on NW.CTL.SLEEPEN && s.boot.step == 0 &&
    (List.range 4).all (fun u => !s.on (UPS.CTL.EN u) || s.rd (UPS.STS.DEVSTATE u) == 0 || s.on (UPS.STS.SUSP u)) &&
    (!s.on NW.CTL.LDSHOLD || (s.ownedPorts 4).all (fun n =>
      let st := (s.port n).lds.entry.state
      st != 4 && st != 5))

/-- REMAIN in 10 ms units: the interval less the time since the timer restarted, CLK_NW being within 2 % (R391); where in
those bounds it lies is open. -/
def State.remain (s : State) : Nat :=
  if !s.idle then s.idleMs / 10
  else
    let e := (s.now - s.idleAt) / 8
    let lo := (s.idleMs - (e + e / 50 + 1)) / 10
    let hi := (s.idleMs - (e - e / 50)) / 10
    lo + (s.free).1 % (hi - lo + 1)

/-- The value a field reads: its published or live value, and those derived at the read. -/
def State.fieldValue (s : State) (f : Field) : Nat :=
  if f.pub then s.rdPub f
  else if 0x5000 ≤ f.addr ∧ f.addr < 0x5340 ∧ f.addr % 0x40 = 0xC ∧ f.lo = 10 then s.top ((f.addr - 0x5000) / 0x40)
  else if f = ICU.WATCHN.N then ((List.range 512).filter (fun i => s.on (ICU.SRC_CFG.NWW i))).length
  else if f = ICU.FSUM0.P00_P31 then s.fsum ((List.range 32).map .prt)
  else if f = ICU.FSUM1.P32_P47 then s.fsum ((List.range 16).map (fun k => .prt (32 + k)))
  else if f = ICU.FSUM1.QD then s.fsum ((List.range 12).map .qd)
  else if f = ICU.FSUM2.SEC then s.fsum ((List.range 4).map .sec)
  else if f = ICU.FSUM2.UPS then s.fsum ((List.range 4).map .ups)
  else if f = ICU.FSUM2.BLK then s.fsum [.pkm, .swx, .pwr, .sys, .icu, .nw]
  else if f = NW.STS.IDLEOK then s.idle.toNat
  else if f = NW.STS.REMAIN then s.remain
  else if f.acc = .w1p then 0
  else s.rd f

/-- The value of the fields of a word, as a 32-bit number. -/
def packFields (fs : List Field) (val : Field → Nat) : Nat := (fs.map (fun f => val f % 2 ^ f.width * 2 ^ f.lo)).sum

/-- PORTINT of the window (R128). -/
def State.portInt (s : State) : Nat :=
  boolsNat ((List.range 16).map (fun n => (List.range 6).any (fun k =>
    s.on (ICU.SRC_STS.PEND (64 + 6 * n + k)) && s.on (ICU.SRC_CFG.EN (64 + 6 * n + k)))))

/-- The mailbox data word at a native address: mailbox and index. -/
def mbxData (a : Nat) : Option (Nat × Nat) :=
  if 0x8000 ≤ a ∧ a < 0x8100 ∧ 0x10 ≤ a % 0x20 then some ((a - 0x8000) / 0x20, (a % 0x20 - 0x10) / 4) else none

/-- DATAi of a mailbox: word i of the part that PART names (R123). -/
def State.mbxWord (s : State) (m i : Nat) : Nat := ((s.mb m).words[4 * s.rd (MBX.CTRL.PART m) + i]?).getD 0

/-- The value of a native word, without any effect of the read. -/
def State.wordValue (s : State) (a : Nat) : Nat :=
  match mbxData a with
  | some (m, i) => s.mbxWord m i
  | none => packFields (wordFields a) s.fieldValue

/-! ## What a read clears (R30, R112, R122) -/

/-- What reading `v` from an RC field leaves of a value `cur` of it. -/
def rcLeft (f : Field) (v cur : Nat) : Nat :=
  match f.acc with
  | .rcFlags => cur &&& (2 ^ f.width - 1 - v)
  | .rcCount => if cur = 2 ^ f.width - 1 ∧ v = cur then 0 else cur - v
  | .rcOther => if cur = v then 0 else cur
  | _ => cur

/-- An RC field is cleared by a read that returned `v`: its live value, and the copy that later reads of the same Meridian
are served from. -/
def State.rcClear (s : State) (f : Field) (v : Nat) : State :=
  if f.acc = .rcFlags ∨ f.acc = .rcCount ∨ f.acc = .rcOther then
    { s with regs := Store.set s.regs f (rcLeft f v (s.rd f)), shadow := Store.set s.shadow f (rcLeft f v (s.rdPub f)) }
  else s

/-- Conditions still present whose FLTSTS bits a read has cleared are recorded again (R376). -/
def State.recordAgain (s : State) (a v : Nat) : State :=
  match FBlk.all.find? (fun b => b.base == a) with
  | none => s
  | some b =>
    let ks := (List.range 16).filter (fun k => bitAt (s.flt b).present k && bitAt v k)
    let byP := ([3, 2, 1, 0].map (fun x => ks.filter (fun k => s.rd (FLT.FLTSEV.SEV b k) == x))).flatten
    s.forEach byP (fun t k => t.record b k)

/-- One bit of an RC field is cleared by a read through its alias that returned 1 (R122). -/
def State.rcClearBit (s : State) (b : Nat) (f : Field) : State :=
  if (f.acc = .rcFlags ∨ f.acc = .rcCount ∨ f.acc = .rcOther) ∧ f.lo ≤ b ∧ b < f.lo + f.width then
    { s with regs := Store.set s.regs f (withBit (s.rd f) (b - f.lo) false)
             shadow := Store.set s.shadow f (withBit (s.rdPub f) (b - f.lo) false) }
  else s

/-- The RC fields of a native word are cleared as a read that returned `w` clears them; through an alias one bit only. -/
def State.readClear (s : State) (a w : Nat) (bit : Option Nat) : State :=
  match bit with
  | none => ((wordFields a).foldl (fun (t : State) f => t.rcClear f (bitsOf w f.lo f.width)) s).recordAgain a w
  | some b =>
    if bitAt w b then ((wordFields a).foldl (fun (t : State) f => t.rcClearBit b f) s).recordAgain a (2 ^ b) else s

/-! ## Reading one word (R113, R114) -/

/-- The result code of reading a place: reach, the window, blocks off, mailbox data that is not valid. DESIGN CHOICE (log entry
102): PORTINT answers with the kept bits in Dusk, though the ICU that holds them is off; R128 gives it no block of its own. -/
def State.readCode (s : State) (r : Requester) (p : Place) : Nat :=
  if !s.inReach r p false then 7
  else
    match p with
    | .unlisted _ => 2
    | .word a bit =>
      if s.isOff a then 1
      else if (mbxData a).any (fun x => !s.on (MBX.CTRL.VALID x.1)) then 6
      else if bit.isSome && aliasBarred a then 9
      else 0
    | .winWord a _ => if s.isOff a then 1 else 0
    | .chipId => 0
    | .portInt => 0

/-- Target of a claim register (R371). -/
def claimTarget (a : Nat) : Option Nat :=
  if 0x5000 ≤ a ∧ a < 0x5340 ∧ a % 0x40 = 0 then some ((a - 0x5000) / 0x40) else none

/-- One word is sampled: its value and code, and the state with the claim that sampling makes (R362). An open value used is
counted. -/
def State.sample (s : State) (r : Requester) (p : Place) : Nat × Nat × State :=
  let c := s.readCode r p
  if c ≠ 0 then (0, c, s)
  else
    match p with
    | .chipId => (0x16044812, 0, s)
    | .portInt => (s.portInt, 0, s)
    | .unlisted _ => (0, 2, s)
    | .winWord a _ => (s.wordValue a, 0, s)
    | .word a (some b) => (s.wordValue a / 2 ^ b % 2, 0, s)
    | .word a none =>
      match claimTarget a with
      | some t => ((s.claim t).1, 0, (s.claim t).2)
      | none => (s.wordValue a, 0, if a = 0x2008 then (s.free).2 else s)

/-- Parts of the value a selector captures (R124). -/
def selParts (code : Nat) : Nat :=
  if code = 1 then 1 else if code = 2 then 2 else if code = 3 then 192 else if code = 4 then 384
  else if code = 5 then 8 else if code = 6 then 16 else 0

/-- What completing the read of a word does: RC fields cleared (R112), and a read of DATA3 advances PART (R123). -/
def State.readDone (s : State) (p : Place) (w : Nat) : State :=
  match p with
  | .word a bit =>
    (match mbxData a with
     | some (m, i) =>
       if i = 3 ∧ s.on (MBX.CTRL.VALID m) then
         s.wr (MBX.CTRL.PART m) ((s.rd (MBX.CTRL.PART m) + 1) % selParts (s.rd (MBX.SEL.CODE m)))
       else s
     | none => s.readClear a (match bit with
         | some b => w * 2 ^ b
         | none => w) bit)
  | .winWord a _ => s.readClear a w none
  | .chipId => s
  | .portInt => s
  | .unlisted _ => s

end Sys2Proof.Machine
end

