-- ==== Sys2Proof/Machine/Mailbox.lean ====
section
/-! DEFINITION. The mailboxes (R123 to R127): what each selector captures, and how a capture runs. -/

namespace Sys2Proof.Machine

/-! ## Selectors (R124) -/

/-- An index is in a selector's range. -/
def selIndexOk (code idx : Nat) : Bool :=
  if code = 1 then decide (idx < 12)
  else if code = 2 then decide (idx < 2048)
  else if code = 3 ∨ code = 4 then idx == 0
  else if code = 5 then decide (idx < 48)
  else if code = 6 then decide (idx ≤ 12)
  else true

/-- The selector uses the bulk buffer (R126). -/
def selBulk (code : Nat) : Bool := code == 3 || code == 4

/-- The selector is captured at the next Meridian (R125). -/
def selMeridian (code : Nat) : Bool := code == 1 || code == 3 || code == 4 || code == 5

/-- The requester has the reach the selector needs (R123, R124). -/
def State.selReach (s : State) (r : Requester) (code : Nat) : Bool :=
  let b := if code = 1 then some 9 else if code = 2 ∨ code = 6 then some 1 else if code = 4 ∨ code = 5 then some 10 else none
  match r with
  | .spi => true
  | .i2c => true
  | .records => false
  | .service => false
  | .rescue => b == none || b == some 1
  | .pers u => (match b with
    | some k => s.permits u k false
    | none => true)

/-! ## Captured values -/

/-- A byte list as 32-bit words, little-endian. -/
def toWords (bs : List Byte) : List Nat := (List.range ((bs.length + 3) / 4)).map (fun i => fieldAt bs (4 * i) 4)

/-- A byte list cut or filled with 0 to a length. -/
def padTo (k : Nat) (bs : List Byte) : List Byte := bs.take k ++ List.replicate (k - bs.length) 0

/-- The 128 bytes of a Roster entry (R282). -/
def RosterEntry.bytes (e : RosterEntry) : List Byte :=
  let flags := boolsNat [e.speed == 1, e.speed == 2, e.idValid, e.hbUsed]
  leBytes 1 e.state ++ leBytes 1 e.result ++ leBytes 1 e.profile ++ leBytes 1 flags ++ leBytes 2 e.vid ++ leBytes 2 e.pid ++
    leBytes 2 e.bcd ++ leBytes 1 e.serial.length ++ leBytes 1 e.hbRec.length ++ leBytes 6 e.tAttach ++ leBytes 6 e.tCheckin ++
    leBytes 6 e.tHeart ++ leBytes 2 e.hbCnt ++ padTo 32 e.serial ++ padTo 64 e.hbRec

/-- Offsets of the words of the port-state snapshot, in order (R124). -/
def snapOffsets : List Nat :=
  [0x00, 0x04, 0x08, 0x0C, 0x10, 0x14, 0x20, 0x24, 0x28, 0x2C, 0x44, 0x48, 0x4C, 0x50, 0x54, 0xC0]

/-- A port is in the reach of a mailbox's requester, by the published ownership (R124). -/
def State.snapReach (s : State) (req n : Nat) : Bool :=
  if req = 5 ∨ req = 6 then true
  else if req < 4 then s.rdPub (PRT.OWNER.STATE n) == 0 && s.rdPub (PRT.OWNER.OWN n) == req
  else false

/-- The words of port `n` in the snapshot; 0 outside the reach. DESIGN CHOICE (log entry 101): a port whose block is off, its
sector being absent, is captured as 0 too; R124 names the reach alone. -/
def State.snapPort (s : State) (req n : Nat) : List Nat :=
  if s.snapReach req n && !s.absent (secOf n) then snapOffsets.map (fun o => s.wordValue (0x10000 + 0x400 * n + o))
  else List.replicate 16 0

/-- A quad's energy in mJ, modulo 2^48 (R337). -/
def State.energyMj (s : State) (q : Nat) : Nat := KMap.get 0 s.retain.energy q / 1000000 % 2 ^ 48

/-- What a selector captures from the shadow of a Meridian. -/
def State.capMeridian (s : State) (req code idx : Nat) : List Nat :=
  if code = 1 then
    let e := s.energyMj idx
    [e % 2 ^ 32, e / 2 ^ 32, s.rd SYS.MERIDIAN.COUNT, 0]
  else if code = 3 then allPorts.flatMap (s.snapPort req)
  else if code = 4 then allPorts.flatMap (fun n => toWords (s.port n).lds.entry.bytes)
  else toWords (s.port idx).lds.entry.bytes

/-- What a journal or identity selector captures: its words, the code it ends with, whether it reads the flash (R125). -/
def State.capAtOnce (s : State) (code idx : Nat) : List Nat × Nat × Bool :=
  if code = 2 then
    let seq := s.retain.jseq - idx
    if s.retain.jseq ≤ idx then ([], 4, true)
    else
      match s.retain.journal.find? (fun r => r.seq == seq) with
      | some r => (toWords r.bytes, 0, false)
      | none =>
        match (s.ring.map (·.2)).find? (fun r => r.seq == seq) with
        | some r => (toWords r.bytes, 0, true)
        | none => ([], 4, true)
  else
    let bs := s.flashBytes (0x2000 + 256 * idx) 256
    if fieldAt bs 252 4 = crc32 (bs.take 252) then (toWords bs, 0, true) else ([], 6, true)

/-! ## Writes of SEL and CTRL -/

/-- A mailbox lets go of the bulk buffer. -/
def State.bulkRelease (s : State) (m : Nat) : State :=
  if s.on MBX.BULK.HELD && s.rd MBX.BULK.HOLDER == m then (s.wr MBX.BULK.HELD 0).wr MBX.BULK.HOLDER 0 else s

/-- What a committed write of SEL does (R123, R126). -/
def State.selEffect (s : State) (m : Nat) : State :=
  (((s.bulkRelease m).wr (MBX.CTRL.VALID m) 0).wr (MBX.CTRL.ERR m) 0).wr (MBX.CTRL.PART m) 0

/-- What a committed GO does (R123, R126). -/
def State.goEffect (s : State) (m code : Nat) : State :=
  let s1 := ((s.raise (MBX.CTRL.BUSY m)).wr (MBX.CTRL.VALID m) 0).wr (MBX.CTRL.ERR m) 0
  let s2 := s1.modMb m (fun _ => { MbxX.reset with due := true, req := code })
  if selBulk (s.rd (MBX.SEL.CODE m)) then (s2.raise MBX.BULK.HELD).wr MBX.BULK.HOLDER m else s2

/-! ## The capture (R125) -/

/-- At a Meridian the values of the captures that wait for it are taken from its shadow. -/
def State.mbxTake (s : State) : State :=
  s.forEach (List.range 8) (fun t m =>
    let x := t.mb m
    let code := t.rd (MBX.SEL.CODE m)
    if x.due && selMeridian code then
      t.modMb m (fun x => { x with taken := true, words := t.capMeridian x.req code (t.rd (MBX.SEL.INDEX m)) })
    else t)

/-- MBX_CAPTURE_START (R125): the capture sets PART to 0. -/
def execMbxCaptureStart (m : Fin 8) (s : State) : Res :=
  let x := s.mb m
  let code := s.rd (MBX.SEL.CODE m)
  doneIf (x.due && (x.taken || !selMeridian code)) s.fresh
    (let s1 := s.fresh.wr (MBX.CTRL.PART m) 0
     if selMeridian code then s1.modMb m (fun x => { x with due := false, taken := false, running := true })
     else
       let c := s.capAtOnce code (s.rd (MBX.SEL.INDEX m))
       s1.modMb m (fun x => { x with due := false, running := true, words := c.1, err := c.2.1, fromFlash := c.2.2 }))

/-- MBX_CAPTURE_COMPLETE (R123, R125): BUSY falls, and VALID or ERR is set. -/
def execMbxCaptureComplete (m : Fin 8) (flashOk : Bool) (s : State) : Res :=
  let x := s.mb m
  doneIf x.running s.fresh
    (let s1 := (s.fresh.wr (MBX.CTRL.BUSY m) 0).modMb m (fun x => { x with running := false })
     if x.fromFlash && !flashOk then s1.wr (MBX.CTRL.ERR m) 6
     else if x.err ≠ 0 then s1.wr (MBX.CTRL.ERR m) x.err
     else s1.raise (MBX.CTRL.VALID m))

/-- BULK_BUFFER_TIMEOUT (R126): 1 s after VALID of the holder was set. -/
def execBulkBufferTimeout (s : State) : Res :=
  let m := s.rd MBX.BULK.HOLDER
  doneIf (s.on MBX.BULK.HELD && s.on (MBX.CTRL.VALID m)) s.fresh ((s.fresh.bulkRelease m).wr (MBX.CTRL.VALID m) 0)

end Sys2Proof.Machine
end

