-- ==== Sys2Proof/Machine/RegWrites.lean ====
section
/-! DEFINITION. Register writes: how a word is judged (R113 to R118, and the conditions each chapter gives its fields), what
a committed word does, and how a write frame is served (R114, R116, R121, R122, R390). -/

namespace Sys2Proof.Machine

/-! ## Parts of a written word -/

/-- The value a written word gives a field. -/
def inWord (v : Nat) (f : Field) : Nat := bitsOf v f.lo f.width

/-- A field that a write can change. -/
def Field.writable (f : Field) : Bool := f.acc == .rw || f.acc == .rwl || f.acc == .trv

/-- A field that a lock freezes (R118). -/
def Field.lockable (f : Field) : Bool := f.acc == .rwl || f.acc == .trv

/-- The write changes a field (R113). -/
def State.changes (s : State) (v : Nat) (f : Field) : Bool := f.writable && inWord v f != s.rd f

/-- The write changes a field to a value for which `bad` holds. -/
def State.changesTo (s : State) (v : Nat) (f : Field) (bad : Nat → Bool) : Bool := s.changes v f && bad (inWord v f)

/-- A W1P field is written 1. -/
def pulses (v : Nat) (f : Field) : Bool := inWord v f != 0

/-- A value outside an interval. -/
def outside (lo hi v : Nat) : Bool := decide (v < lo) || decide (hi < v)

/-- A code where a condition holds. -/
def codeIf (b : Bool) (c : Nat) : List Nat := if b then [c] else []

/-! ## Locks (R118) -/

/-- The LOCK field of a block, by the state at the start of the frame (R116, R419). -/
def lockOf (b : Blk) : Option Field :=
  match b with
  | .nw => some NW.CTL.LOCK
  | .icu => some ICU.CTL.LOCK
  | .pwr => some PWR.CTL.LOCK
  | .pkm => some PKM.CTL.LOCK
  | .swx => some SWX.CTL.LOCK
  | .ups u => some (UPS.CTL.LOCK u)
  | .sec i => some (SEC.CTL.LOCK i)
  | .qd q => some (QD.CTL.LOCK q)
  | .prt n => some (PRT.CTL.LOCK n)
  | .lds => some LDS.CTL.LOCK
  | .sys => none
  | .boot => none
  | .mbx _ => none
  | .mbxBulk => none

/-- The RWL and TRV fields of a block are frozen. -/
def State.frozen (s : State) (b : Blk) : Bool :=
  s.on SYS.LOCK.ALL || (match lockOf b with
    | some f => s.on f
    | none => false)

/-! ## What each block's words refuse

Codes of R9: 4 E_RANGE, 6 E_NOTVALID, 7 E_OWNER, 8 E_BUSY, 9 E_STATE. `free` says that the restricted-mode limits do not
apply (register records, R93). -/

/-- SYS (R414, R415). -/
def State.judgeSys (s : State) (off v : Nat) : List Nat :=
  if off = 0x24 then codeIf (pulses v SYS.RESETREQ.GO && inWord v SYS.RESETREQ.KEY != 0xA5C3) 4
  else if off = 0x2C then codeIf (s.changesTo v SYS.FAULTPIN.WIDTH (outside 1 1000)) 4
  else []

/-- BOOT (R95, R98, R101, R416, R417). -/
def State.judgeBoot (s : State) (r : Requester) (off v : Nat) : List Nat :=
  if off = 0x10 then codeIf (pulses v BOOT.RESCUE.RSTREQ && s.phase != .rescue) 9
  else if off = 0x20 then
    let cmd := inWord v BOOT.UPDCMD.CMD
    let len := s.rd BOOT.UPDLEN.LEN
    if cmd = 0 then []
    else codeIf (s.updBusy r.code) 8 ++ codeIf (cmd != 7 && s.updState cmd (inWord v BOOT.UPDCMD.SLOT)) 9 ++
      codeIf (cmd == 7 || (cmd == 4 && outside 4096 4194304 len)) 4
  else if off = 0x24 then
    codeIf (s.on BOOT.UPDSTS.BUSY) 8 ++ codeIf (s.changesTo v BOOT.UPDOFS.OFS (fun x => x % 256 != 0)) 4
  else if off = 0x30 then
    codeIf (s.on BOOT.UPDSTS.BUSY) 8 ++ codeIf s.rbState 9 ++ codeIf (s.rbRange (inWord v BOOT.RBCTR.VALUE)) 4
  else if 0x200 ≤ off ∧ off < 0x300 then codeIf (s.on BOOT.UPDSTS.BUSY) 8
  else []

/-- NW (R404). -/
def State.judgeNw (s : State) (off v : Nat) : List Nat :=
  if off = 4 then codeIf (s.changesTo v NW.IDLE.TIME (outside 1 600000)) 4 else []

/-- ICU (R361, R363, R368, R372). -/
def State.judgeIcu (s : State) (off v : Nat) : List Nat :=
  if off < 0x1000 then
    if off % 8 = 0 then
      let i := off / 8
      codeIf (s.changes v (ICU.SRC_CFG.TGT i) && s.on (ICU.SRC_STS.INSVC i)) 9 ++
        codeIf (s.changesTo v (ICU.SRC_CFG.TGT i) (outside 0 12) ||
          (s.changesTo v (ICU.SRC_CFG.NWW i) (· == 1) && decide (64 ≤ s.fieldValue ICU.WATCHN.N))) 4
    else []
  else
    let t := (off - 0x1000) / 0x40
    if off % 0x40 = 4 ∧ t < 13 then codeIf (outside 0 0x1FF (inWord v (ICU.DONE.SRC t)) && inWord v (ICU.DONE.SRC t) != 0x3FF) 4
    else if off % 0x40 = 8 ∧ t < 13 then
      codeIf (s.changesTo v (ICU.TCTL.CCOUNT t) (· == 0) || s.changesTo v (ICU.TCTL.CTIME t) (· == 0)) 4
    else []

/-- MBX (R123, R124, R126, R418). -/
def State.judgeMbx (s : State) (r : Requester) (m off v : Nat) : List Nat :=
  if off = 0 then
    let code := inWord v (MBX.SEL.CODE m)
    let moved := s.changes v (MBX.SEL.CODE m) || s.changes v (MBX.SEL.INDEX m)
    codeIf (s.on (MBX.CTRL.BUSY m)) 8 ++
      codeIf (s.changesTo v (MBX.SEL.CODE m) (outside 1 6) || (moved && !selIndexOk code (inWord v (MBX.SEL.INDEX m)))) 4
  else if off = 4 then
    let code := s.rd (MBX.SEL.CODE m)
    if pulses v (MBX.CTRL.GO m) then
      codeIf (!s.selReach r code) 7 ++ codeIf (s.on (MBX.CTRL.BUSY m) ||
        (selBulk code && s.on MBX.BULK.HELD && s.rd MBX.BULK.HOLDER != m)) 8 ++ codeIf (code == 0) 9
    else codeIf (s.changesTo v (MBX.CTRL.PART m) (fun x => decide (selParts code ≤ x))) 4
  else []

/-- PWR (R356). -/
def State.judgePwr (s : State) (off v : Nat) : List Nat :=
  if off = 0 then codeIf (s.changesTo v PWR.CTL.READV (outside 1 100)) 4
  else if off = 4 then codeIf (s.changesTo v PWR.POOL.POOL (outside 0 288000)) 4
  else if 0x40 ≤ off ∧ off < 0x70 then
    let q := (off - 0x40) / 4
    codeIf (s.changesTo v (PWR.QCAP.CAP q) (outside 0 24000) ||
      s.changesTo v (PWR.QCAP.FAILCAP q) (outside 0 (inWord v (PWR.QCAP.CAP q)))) 4
  else if 0x200 ≤ off ∧ off < 0x2C0 then codeIf (s.changesTo v (PWR.PCFG.PMAX ((off - 0x200) / 4)) (outside 250 6000)) 4
  else []

/-- PKM (R235, R236, R254). -/
def State.judgePkm (s : State) (off v : Nat) : List Nat :=
  if off = 0 then codeIf (s.changesTo v PKM.CTL.CUTTHR (outside 1 128)) 4
  else if off = 4 then codeIf (s.changesTo v PKM.FREEMARK.LOW (outside 0 32768)) 4
  else if 0x400 ≤ off ∧ off < 0x664 then
    let d := (off - 0x400) / 4
    let b := inWord v (PKM.RGN.BASE d)
    let n := inWord v (PKM.RGN.SIZE d)
    if s.changes v (PKM.RGN.BASE d) || s.changes v (PKM.RGN.SIZE d) then
      codeIf (s.rgnBusy d b n) 8 ++ codeIf (!s.rgnIdle d) 9 ++ codeIf (!s.rgnLegal d b n) 4
    else []
  else []

/-- SWX (R231). -/
def State.judgeSwx (s : State) (off v : Nat) : List Nat :=
  if off = 0 then codeIf (s.changesTo v SWX.CTL.SLOTLIM (outside 16 64)) 4 else []

/-- UPS[u] (R93, R152, R236, R316). -/
def State.judgeUps (s : State) (free : Bool) (u off v : Nat) : List Nat :=
  let pull := s.on (UPS.STS.PULLUP u)
  if off = 0 then
    let en := inWord v (UPS.CTL.EN u) == 1
    codeIf ((pull && (s.changes v (UPS.CTL.PWRMODE u) || s.changes v (UPS.CTL.RWAKEOK u) || s.changes v (UPS.CTL.BINTERVAL u))) ||
      (en && u != 0 && s.restricted && !free) ||
      (en && (s.rd (PKM.RGN.SIZE (48 + u)) == 0 || s.rd (PKM.RGN.SIZE (149 + u)) == 0))) 9 ++
      codeIf (s.changesTo v (UPS.CTL.BINTERVAL u) (outside 1 16)) 4
  else if off = 0x44 then codeIf (pull && s.changes v (UPS.TCCTL.ROLE u)) 9
  else []

/-- QD[q] (R339). -/
def State.judgeQd (s : State) (q off v : Nat) : List Nat :=
  if off = 0x10 then
    codeIf (s.changesTo v (QD.VWARN.LEVEL q) (outside (max 170 (s.rd (QD.VFAIL.LEVEL q) + 5)) 280)) 4
  else if off = 0x14 then
    codeIf (s.changesTo v (QD.VFAIL.LEVEL q) (fun x => outside 160 275 x || decide (s.rd (QD.VWARN.LEVEL q) < x + 5))) 4
  else if off = 0x20 then codeIf (s.changesTo v (QD.CTL.TBRDWARN q) (outside 50 125)) 4
  else []

/-- The RSENSE that bounds ILIM of a port in µΩ (R324). -/
def State.rsense (s : State) (n : Nat) : Nat :=
  match (s.quad (quadOf n)).ident with
  | some i => ((i.ports[n % 4]?).map (·.rsense)).getD 15000
  | none => 15000

/-- PRT[n]: the control words of the port (R93, R170, R257, R316, R324, R334, R339, R210). -/
def State.judgePrt (s : State) (r : Requester) (free locked : Bool) (n off v : Nat) : List Nat :=
  let lim := s.restricted && !free
  if off = 0x8 then
    codeIf (s.changesTo v (PRT.CTL.INDMODE n) (· == 3) || s.changesTo v (PRT.CTL.INDSW n) (· == 3)) 4
  else if off = 0xC then
    let tgt := inWord v (PRT.OWNER.REQTO n)
    if pulses v (PRT.OWNER.GO n) then
      codeIf (s.ownBusy n r.code) 8 ++ codeIf locked 3 ++ codeIf (s.ownRefused n tgt) 9 ++
        codeIf (s.ownRange n tgt) 4
    else codeIf (s.changesTo v (PRT.OWNER.REQTO n) (fun x => x == 5 || x == 6)) 4
  else if off = 0x14 then
    codeIf (lim && s.changesTo v (PRT.TCCTL.RPDEF n) (· != 1)) 9 ++
      codeIf (s.changesTo v (PRT.TCCTL.DSROLE n) (2 ≤ ·) || s.changesTo v (PRT.TCCTL.RPDEF n) (· == 3)) 4
  else if off = 0x24 then
    let cmds := [PRT.PDCTL.RESEND n, PRT.PDCTL.HRESET n, PRT.PDCTL.VCSWAP n, PRT.PDCTL.SOPPDISC n].filter (pulses v)
    let soft := pulses v (PRT.PDCTL.RESEND n) || pulses v (PRT.PDCTL.VCSWAP n) || pulses v (PRT.PDCTL.SOPPDISC n)
    codeIf (decide (1 < cmds.length) || (!cmds.isEmpty && s.pdBusy n)) 8 ++
      codeIf ((soft && !s.on (PRT.PDSTS.EXPLICIT n)) ||
        (pulses v (PRT.PDCTL.HRESET n) && s.tc n != 6 && s.tc n != 7) ||
        (lim && (s.changesTo v (PRT.PDCTL.VMAX n) (· != 0) || s.changesTo v (PRT.PDCTL.IMAX n) (150 < ·)))) 9 ++
      codeIf (s.changesTo v (PRT.PDCTL.IMAX n) (outside 50 300)) 4
  else if off = 0x40 then
    let arm := pulses v (PRT.FUSCFG.REARM n)
    codeIf (arm && (s.port n).selfTest != .none) 8 ++ codeIf (arm && !s.runs 9) 9 ++
      codeIf (s.changesTo v (PRT.FUSCFG.ILIM n) (fun x => outside 10 600 x || decide (7000000 < x * s.rsense n)) ||
        s.changesTo v (PRT.FUSCFG.FTIME n) (outside 5 500) || s.changesTo v (PRT.FUSCFG.RWAIT n) (· == 0) ||
        s.changesTo v (PRT.FUSCFG.PGQ n) (· == 0)) 4
  else if off = 0xC4 then
    codeIf (lim && s.changesTo v (PRT.MTRCFG.MODE n) (· != 0)) 9 ++
      codeIf (s.changesTo v (PRT.MTRCFG.MODE n) (· == 3) || s.changesTo v (PRT.MTRCFG.LEAD n) (· == 0) ||
        s.changesTo v (PRT.MTRCFG.MISSLIM n) (outside 1 8)) 4
  else []

/-- LDS (R269, R288). -/
def State.judgeLds (s : State) (free : Bool) (off v : Nat) : List Nat :=
  if off = 0 then
    codeIf (s.restricted && !free && inWord v LDS.CTL.EN == 1) 9 ++
      codeIf (s.changesTo v LDS.CTL.ENUMTRY (· == 0) || s.changesTo v LDS.CTL.REQTMO (· < 5)) 4
  else []

/-- Fault sources that exist in a block, and those whose severity is fixed (R374). -/
def FBlk.sources : FBlk → Nat
  | .prt _ => 5 | .qd _ => 3 | .sec _ => 5 | .ups _ => 2 | .pkm => 3 | .swx => 1 | .pwr => 2 | .icu => 1 | .nw => 2 | .sys => 4

/-- A source's severity is fixed (R374). -/
def FBlk.fixed (b : FBlk) (k : Nat) : Bool :=
  match b with
  | .pkm => k == 0
  | .swx => k == 0
  | .pwr => k == 0
  | .sys => k == 3
  | _ => false

/-- The fault words of a block (R374, R386). -/
def State.judgeFault (s : State) (b : FBlk) (i v : Nat) : List Nat :=
  if i = 1 then
    codeIf ((List.range 16).any (fun k => s.changesTo v (FLT.FLTSEV.SEV b k)
      (fun x => b.fixed k || (decide (b.sources ≤ k) && x != 0)))) 4
  else if i = 4 then
    codeIf (s.changesTo v (FLT.FLTTIMERS.GRACE b) (· == 0) || s.changesTo v (FLT.FLTTIMERS.QUIET b) (· == 0)) 4
  else []

/-- The fault block and the number of a fault word at a native address. -/
def faultWord (a : Nat) : Option (FBlk × Nat) :=
  (FBlk.all.find? (fun b => decide (b.base ≤ a) && decide (a < b.base + 24))).map (fun b => (b, (a - b.base) / 4))

/-- What the block of a word refuses of it beyond encodings that are reserved. -/
def State.judgeBlock (s lk : State) (r : Requester) (a v : Nat) : List Nat :=
  let free := r == .records
  match faultWord a with
  | some (b, i) => s.judgeFault b i v
  | none =>
    match blockOf a with
    | some (.sys, o) => s.judgeSys o v
    | some (.boot, o) => s.judgeBoot r o v
    | some (.nw, o) => s.judgeNw o v
    | some (.icu, o) => s.judgeIcu o v
    | some (.mbx m, o) => s.judgeMbx r m o v
    | some (.mbxBulk, _) => []
    | some (.pwr, o) => s.judgePwr o v
    | some (.pkm, o) => s.judgePkm o v
    | some (.swx, o) => s.judgeSwx o v
    | some (.ups u, o) => s.judgeUps free u o v
    | some (.sec _, _) => []
    | some (.qd q, o) => s.judgeQd q o v
    | some (.prt n, o) => s.judgePrt r free (lk.frozen (.prt n)) n o v
    | some (.lds, o) => s.judgeLds free o v
    | none => []

/-- Descriptors 153 and 154 are RO (R235). -/
def readOnlyWord (a : Nat) : Bool := a == 0xA664 || a == 0xA668

/-- A W1P command of a block that refuses them in Dusk (R390). -/
def State.duskBarred (s : State) (a v : Nat) : Bool :=
  s.phase == .dusk && ((wordFields a).any (fun f => f.acc == .w1p && pulses v f)) && (match blockOf a with
    | some (.prt _, _) => true
    | some (.qd _, _) => true
    | some (.sec _, _) => true
    | some (.ups _, _) => true
    | some (.pwr, _) => true
    | some (.lds, _) => true
    | _ => false)

/-- All the codes a native word written `v` meets (R113, R115, R118, R120); `lk` is the state at the start of the frame. A
word without fields ignores its write; of an RO word the RSV bits alone are judged. -/
def State.wordCodes (s lk : State) (r : Requester) (a v : Nat) : List Nat :=
  let fs := wordFields a
  let known := packFields fs (fun f => 2 ^ f.width - 1)
  if fs.isEmpty then codeIf (s.isOff a) 1
  else if readOnlyWord a then codeIf (s.isOff a) 1 ++ codeIf (v &&& known != v) 4
  else
    let lock := match blockOf a with
      | some (b, _) => lk.frozen b && fs.any (fun f => f.lockable && s.changes v f)
      | none => false
    codeIf (s.isOff a || s.duskBarred a v) 1 ++ codeIf lock 3 ++ codeIf (v &&& known != v) 4 ++ s.judgeBlock lk r a v

/-- The order of the checks (R113). -/
def checkOrder : List Nat := [7, 2, 1, 6, 8, 3, 9, 4]

/-- The first check that fails. -/
def firstCode (l : List Nat) : Nat := (checkOrder.find? l.contains).getD 0

/-- The word that an alias write stands for (R121, R122): one bit changed, the others at their value; W1P bits are 0 but the
one written. -/
def State.aliasWord (s : State) (a b v : Nat) : Nat :=
  withBit (packFields (wordFields a) (fun f => if f.acc = .w1p then 0 else s.rd f)) b (v % 2 == 1)

/-- The native word that a place's write reaches, and the value written to it. -/
def State.target (s : State) (p : Place) (v : Nat) : Option (Nat × Nat) :=
  match p with
  | .word a none => some (a, v)
  | .word a (some b) => some (a, s.aliasWord a b v)
  | .winWord a _ => some (a, v)
  | .chipId => none
  | .portInt => none
  | .unlisted _ => none

/-- The result code of writing `v` to a place (R113, R121, R122). -/
def State.writeCode (s lk : State) (r : Requester) (p : Place) (v : Nat) : Nat :=
  if !s.inReach r p true then 7
  else
    match p with
    | .unlisted _ => 2
    | .chipId => 0
    | .portInt => 0
    | .winWord a _ => firstCode (s.wordCodes lk r a v)
    | .word a none => firstCode (s.wordCodes lk r a v)
    | .word a (some b) =>
      firstCode (codeIf (s.isOff a) 1 ++ codeIf (aliasBarred a) 9 ++ codeIf (decide (1 < v)) 4 ++
        s.wordCodes lk r a (s.aliasWord a b v))

/-! ## What a committed word does -/

/-- The word's RW, RWL and TRV fields take their values; all three copies of a TRV field agree (R119). -/
def State.storeWord (s : State) (a v : Nat) : State :=
  if readOnlyWord a then s
  else (wordFields a).foldl (fun (t : State) f =>
    if f.writable then
      { t.wr f (inWord v f) with copies := if f.acc = .trv then KMap.erase t.copies f.key else t.copies }
    else t) s

/-- What a committed PDCTL word does (R299, R300, R304, R305, R313, R318). -/
def State.pdctlEffect (s : State) (n v old : Nat) : State :=
  let s1 := if inWord old (PRT.PDCTL.PDEN n) ≠ s.rd (PRT.PDCTL.PDEN n) then s.pdenEffect n else s
  let moved := inWord old (PRT.PDCTL.VMAX n) ≠ s.rd (PRT.PDCTL.VMAX n) ∨ inWord old (PRT.PDCTL.IMAX n) ≠ s.rd (PRT.PDCTL.IMAX n)
  let s2 := if moved then s1.readvertise n false else s1
  if pulses v (PRT.PDCTL.RESEND n) then s2.queueAms n .resend
  else if pulses v (PRT.PDCTL.HRESET n) then
    if s2.pcUp n then s2.hardReset n true
    else s2.modPort n (fun p => { p with ams := if p.ams.contains .hreset then p.ams else p.ams ++ [.hreset] })
  else if pulses v (PRT.PDCTL.VCSWAP n) then s2.queueAms n .vcSwap
  else if pulses v (PRT.PDCTL.SOPPDISC n) then s2.queueAms n .sopDisc
  else s2

/-- What a committed word of PRT[n] does; `old` is the value before. -/
def State.prtEffect (s : State) (r : Requester) (n off v old : Nat) : State :=
  if off = 0x8 then
    let s1 := if inWord old (PRT.CTL.OOS n) ≠ s.rd (PRT.CTL.OOS n) then s.evalDemand n else s
    if pulses v (PRT.CTL.PRSTRT n) then s1.prstrtEffect n else s1
  else if off = 0xC then
    if pulses v (PRT.OWNER.GO n) then s.ownHold n (s.rd (PRT.OWNER.REQTO n)) r.code else s
  else if off = 0x14 then ((if inWord old (PRT.TCCTL.DSROLE n) ≠ s.rd (PRT.TCCTL.DSROLE n) then
      s.dsroleEffect n else s).rpFollow n)
  else if off = 0x24 then s.pdctlEffect n v old
  else if off = 0x2C then if pulses v (PRT.ALTMUX.KICK n) then s.kickEffect n else s
  else if off = 0x40 then
    let s1 := if (s.port n).gate then s.setIset n else s
    if pulses v (PRT.FUSCFG.REARM n) then s1.rearmEffect n else s1
  else if off = 0x60 then
    let s1 := if inWord old (PRT.QCFG.ALMEN n) ≠ s.rd (PRT.QCFG.ALMEN n) then s.almenEffect n else s
    let s2 := if pulses v (PRT.QCFG.ALMCLR n) then s1.almclrEffect n else s1
    if pulses v (PRT.QCFG.TTRST n) then (s2.ttReset n).ldsPollLost n else s2
  else if off = 0xC4 then if s.on (PRT.MTRCFG.MODE n) then s else s.mtrPause n
  else s

/-- What a committed word of ICU does. -/
def State.icuEffect (s : State) (off v old : Nat) : State :=
  if off < 0x1000 then
    let i := off / 8
    if off % 8 = 0 then s.cfgEffect i (inWord old (ICU.SRC_CFG.EN i) == 1) (inWord old (ICU.SRC_CFG.TGT i))
    else if pulses v (ICU.SRC_STS.CLRPEND i) then s.clrpendEffect i else s
  else if off = 0x1800 then if pulses v ICU.CTL.SWTRIG then s.edge 511 else s
  else
    let t := (off - 0x1000) / 0x40
    if off % 0x40 = 4 then s.doneEffect t (inWord v (ICU.DONE.SRC t))
    else if off % 0x40 = 8 then
      let s1 := s.tctlEffect t
      if pulses v (ICU.TCTL.TRST t) then s1.targetReset t else s1
    else s

/-- What a committed word of BOOT does. RBCTR reads the fused counter again. DESIGN CHOICE (log entry 99): an alias write to a
bit of UPDCMD is a write of the word with its other bits as they read, so while CMD still reads the last code that command is
issued again; R122 does not list the word among those whose alias does nothing. -/
def State.bootEffect (s : State) (r : Requester) (off v : Nat) : State :=
  if off = 0x8 then s.clearMarks (inWord v BOOT.FAILCLR.MARK)
  else if off = 0x10 then if pulses v BOOT.RESCUE.RSTREQ then s.rescueExit else s
  else if off = 0x20 then
    if inWord v BOOT.UPDCMD.CMD = 0 then s
    else s.updStart (inWord v BOOT.UPDCMD.CMD) (inWord v BOOT.UPDCMD.SLOT) r.code
  else if off = 0x30 then (s.wr BOOT.RBCTR.VALUE s.fuses).rbStart (inWord v BOOT.RBCTR.VALUE)
  else s

/-- What a committed word does beyond storing its fields (R31). `old` is the word before; `test` the outcome of a fault
block's self-test where the command brings one (R381), else it is open. -/
def State.wordEffect (s : State) (r : Requester) (a v old : Nat) (test : Option Bool) : State :=
  match faultWord a with
  | some (b, i) =>
    if i = 3 then
      let s1 := if pulses v (FLT.FLTACK.ACK b) then s.ackEffect b else s
      if pulses v (FLT.FLTACK.CLRLATCH b) then
        (match test with
         | some p => s1.clrlatchEffect b p
         | none => (s1.free).2.clrlatchEffect b ((s1.free).1 % 2 == 1))
      else s1
    else s
  | none =>
    match blockOf a with
    | some (.sys, o) =>
      if o = 0x24 then if pulses v SYS.RESETREQ.GO then { s with resetDue := true } else s
      else if o = 0x2C ∧ inWord old SYS.FAULTPIN.FORCE ≠ s.rd SYS.FAULTPIN.FORCE then s.faultpinEffect
      else s
    | some (.boot, o) => s.bootEffect r o v
    | some (.nw, o) => if o = 4 then { s.wr NW.STS.BACKOFF 0 with idleAt := if s.sleep.running then s.idleAt else s.now } else s
    | some (.icu, o) => s.icuEffect o v old
    | some (.mbx m, o) =>
      if o = 0 then s.selEffect m
      else if o = 4 then
        if pulses v (MBX.CTRL.GO m) then
          (s.wr (MBX.CTRL.PART m) (inWord old (MBX.CTRL.PART m))).goEffect m r.code
        else s
      else s
    | some (.mbxBulk, _) => s
    | some (.pwr, o) =>
      if o = 4 then s.poolEffect
      else if 0x40 ≤ o ∧ o < 0x70 then s.qcapEffect ((o - 0x40) / 4)
      else if 0x200 ≤ o ∧ o < 0x2C0 then s.pcfgEffect ((o - 0x200) / 4)
      else s
    | some (.pkm, o) =>
      if 0x400 ≤ o ∧ o < 0x664 ∧ v ≠ old then
        s.rgnEffect ((o - 0x400) / 4) (inWord old (PKM.RGN.SIZE ((o - 0x400) / 4)))
      else s
    | some (.swx, o) => if o = 0 then s.slotlimEffect (inWord old SWX.CTL.SLOTLIM) else s
    | some (.ups u, o) =>
      if o = 0 then
        let s1 := if inWord old (UPS.CTL.EN u) ≠ s.rd (UPS.CTL.EN u) then s.enEffect u else s
        if inWord old (UPS.CTL.PWRMODE u) ≠ s.rd (UPS.CTL.PWRMODE u) then
          s1.forEach (s1.ownedPorts u) (fun t n => t.evalDemand n)
        else s1
      else if o = 0x44 then s.upRoleEffect u
      else s
    | some (.sec _, _) => s
    | some (.qd q, o) =>
      if o = 0x20 ∧ inWord old (QD.CTL.FBICAP q) ≠ s.rd (QD.CTL.FBICAP q) then s.fbicapEffect q else s
    | some (.prt n, o) => s.prtEffect r n o v old
    | some (.lds, _) => s
    | none => s

/-- A native word's present value as a write sees it: live, W1P bits 0. -/
def State.liveWord (s : State) (a : Nat) : Nat := packFields (wordFields a) (fun f => if f.acc = .w1p then 0 else s.rd f)

/-- One word committed: stored, then its effect; in Dusk the effect of a word outside NW, SYS and MBX waits for the return
(R390). -/
def State.commitWord (s : State) (r : Requester) (a v : Nat) (test : Option Bool) : State :=
  let old := s.liveWord a
  let s1 := s.storeWord a v
  let now_ := match blockOf a with
    | some (.nw, _) => true
    | some (.sys, _) => true
    | some (.mbx _, _) => true
    | _ => false
  if s.phase = .dusk ∧ !now_ then
    if s.duskDue.any (fun e => e.1 == a) then s1 else { s1 with duskDue := s1.duskDue ++ [(a, old)] }
  else s1.wordEffect r a v old test

/-! ## Frames (R110, R114, R116, R120) -/

/-- A write frame judged and committed on a copy, word by word: its code, whether it met an off block, and the copy. -/
def State.writeWords (s lk : State) (r : Requester) (a : Nat) (test : Option Bool) : List Nat → Nat × Bool × State
  | [] => (0, false, s)
  | v :: vs =>
    let p := placeOf a
    let c := s.writeCode lk r p v
    let t := if c = 0 then (match s.target p v with
        | some (w, x) => s.commitWord r w x test
        | none => s) else s
    let rest := t.writeWords lk r (a + 4) test vs
    (if c ≠ 0 then c else rest.1, c == 1 || rest.2.1, rest.2.2)

/-- A result other than E_OK is recorded in SYS.LASTERR (R114). -/
def State.lastErr (s : State) (r : Requester) (c : Nat) : State :=
  if c = 0 then s else (s.wr SYS.LASTERR.CODE c).wr SYS.LASTERR.REQ r.code

/-- A frame that met an off block is counted (R120). -/
def State.metOff (s : State) (off : Bool) : State := if off then s.bump SYS.OFFCNT.COUNT else s

/-- The code of an address and a count of words (R110). DESIGN CHOICE (log entry 100): a frame that is misaligned and runs over
the end is E_PART; R110 gives no order of its two codes. -/
def frameCode (a k : Nat) : Nat := if a % 4 ≠ 0 then 5 else if 0x1000000 < a + 4 * k then 4 else 0

/-- A write frame: all of it is committed, or nothing (R114). The code is answered with the state. -/
def State.writeFrame (s : State) (r : Requester) (a : Nat) (vs : List Nat) (test : Option Bool) : Nat × State :=
  let c := frameCode a vs.length
  if c ≠ 0 then (c, s.lastErr r c)
  else
    let x := s.writeWords s r a test vs
    if x.1 = 0 then (0, x.2.2) else (x.1, (s.metOff x.2.1).lastErr r x.1)

/-- The words of a read frame sampled in order: values, codes, and the state with its claims. -/
def State.sampleWords (s : State) (r : Requester) (a : Nat) : Nat → List (Nat × Nat) × State
  | 0 => ([], s)
  | k + 1 =>
    let x := s.sample r (placeOf a)
    let rest := x.2.2.sampleWords r (a + 4) k
    ((x.1, x.2.1) :: rest.1, rest.2)

/-- Words that have been returned are cleared, each good one as R30 says. -/
def State.clearWords (s : State) (a : Nat) : List (Nat × Nat) → State
  | [] => s
  | (w, c) :: l => (if c = 0 then s.readDone (placeOf a) w else s).clearWords (a + 4) l

/-- One word after another is sampled and cleared as it shifts out (R112, R123): the values and codes, and the state. -/
def State.shiftWords (s : State) (r : Requester) (a : Nat) : Nat → List (Nat × Nat) × State
  | 0 => ([], s)
  | k + 1 =>
    let x := s.sample r (placeOf a)
    let t := if x.2.1 = 0 then x.2.2.readDone (placeOf a) x.1 else x.2.2
    let rest := t.shiftWords r (a + 4) k
    ((x.1, x.2.1) :: rest.1, rest.2)

/-- The code of a read frame: that of its lowest-addressed failing word (R114). -/
def readFrameCode (l : List (Nat × Nat)) : Nat := ((l.map (·.2)).find? (· != 0)).getD 0

/-- The bytes of words in ascending address order (R104). -/
def wordBytes (l : List Nat) : List Byte := l.flatMap (leBytes 4)

/-! ## Commands that are one write by a requester -/

/-- Requester `r` can make an access now: a personality or the rescue personality in Address or Configured (R107), SPI and
I2C while the part is Active or in Dusk (R48), records at step 0x07. -/
def State.canSend (s : State) (r : Requester) : Bool :=
  match r with
  | .pers u => s.active && !s.on (UPS.STS.SUSP u) && (s.rd (UPS.STS.DEVSTATE u) == 3 || s.rd (UPS.STS.DEVSTATE u) == 4)
  | .rescue => s.phase == .rescue && decide (3 ≤ s.rescue.devstate)
  | .spi => s.active || s.phase == .dusk
  | .i2c => s.active || s.phase == .dusk
  | .records => s.active && s.boot.step == 7
  | .service => s.active && s.runs 10

/-- The result of the requester's last completed request is kept (R104, R106, R107), and a frame restarts the idle timer
(R391). -/
def State.setResult (s : State) (r : Requester) (c : Nat) : State :=
  match r with
  | .pers u => s.modUp u (fun x => { x with lastSts := c })
  | .rescue => { s with rescue := { s.rescue with lastSts := c } }
  | .spi => { s with lastSpi := c, idleAt := s.now }
  | .i2c => { s with lastI2c := c, idleAt := s.now }
  | .records => s
  | .service => s

/-- A one-word write frame by requester `r`. -/
def State.write1 (s : State) (r : Requester) (a v : Nat) (test : Option Bool) : Res :=
  let x := s.fresh.writeFrame r a [v] test
  doneIf (s.canSend r) s.fresh (x.2.setResult r x.1)

/-- RESCUE_RSTREQ (R95). -/
def execRescueRstreq (r : Requester) (w : Word) (s : State) : Res := s.write1 r 0x1010 w.toNat none
/-- FAILCLR (R88). -/
def execFailclr (r : Requester) (w : Word) (s : State) : Res := s.write1 r 0x1008 w.toNat none
/-- UPDCMD_OPEN (R98). -/
def execUpdcmdOpen (r : Requester) (slot : Bool) (s : State) : Res := s.write1 r 0x1020 (1 + 8 * slot.toNat) none
/-- UPDCMD_ERASE (R98). -/
def execUpdcmdErase (r : Requester) (s : State) : Res := s.write1 r 0x1020 2 none
/-- UPDCMD_PROGRAM (R98). -/
def execUpdcmdProgram (r : Requester) (s : State) : Res := s.write1 r 0x1020 3 none
/-- UPDCMD_VERIFY (R98). -/
def execUpdcmdVerify (r : Requester) (s : State) : Res := s.write1 r 0x1020 4 none
/-- UPDCMD_COMMIT (R98). -/
def execUpdcmdCommit (r : Requester) (s : State) : Res := s.write1 r 0x1020 5 none
/-- UPDCMD_ABORT (R98). -/
def execUpdcmdAbort (r : Requester) (s : State) : Res := s.write1 r 0x1020 6 none
/-- RBCTR_WRITE (R101). -/
def execRbctrWrite (r : Requester) (w : Word) (s : State) : Res := s.write1 r 0x1030 w.toNat none
/-- RESETREQ (R415). -/
def execResetreq (r : Requester) (w : Word) (s : State) : Res := s.write1 r 0x24 w.toNat none
/-- REGISTER_WRITE (R114): any word of the address space. -/
def execRegisterWrite (r : Requester) (addr : BitVec 24) (w : Word) (s : State) : Res := s.write1 r addr.toNat w.toNat none
/-- BIT_ALIAS_WRITE (R121, R122): the address is taken into the alias region. -/
def execBitAliasWrite (r : Requester) (addr : BitVec 24) (w : Word) (s : State) : Res :=
  s.write1 r (0x400000 + addr.toNat % 0x400000) w.toNat none
/-- MBX_SEL_WRITE (R123). -/
def execMbxSelWrite (r : Requester) (m : Fin 8) (w : Word) (s : State) : Res := s.write1 r (0x8000 + 0x20 * m) w.toNat none
/-- MBX_GO (R123): CTRL written with GO. -/
def execMbxGo (r : Requester) (m : Fin 8) (w : Word) (s : State) : Res :=
  s.write1 r (0x8004 + 0x20 * m) (withBit w.toNat 0 true) none
/-- MBX_PART_WRITE (R123): CTRL written without GO. -/
def execMbxPartWrite (r : Requester) (m : Fin 8) (w : Word) (s : State) : Res :=
  s.write1 r (0x8004 + 0x20 * m) (withBit w.toNat 0 false) none
/-- PERSONALITY_EN_WRITE (R138). -/
def execPersonalityEnWrite (r : Requester) (u : Fin 4) (w : Word) (s : State) : Res :=
  s.write1 r (0xC000 + 0x400 * u) w.toNat none
/-- RGN_WRITE (R235, R236). -/
def execRgnWrite (r : Requester) (d : Fin 155) (w : Word) (s : State) : Res := s.write1 r (0xA400 + 4 * d) w.toNat none
/-- OWNER_GO (R256, R257): OWNER written with GO. -/
def execOwnerGo (r : Requester) (n : Fin 48) (w : Word) (s : State) : Res :=
  s.write1 r (0x1000C + 0x400 * n) (withBit w.toNat 11 true) none
/-- PRSTRT (R165): CTL written with PRSTRT. -/
def execPrstrt (r : Requester) (n : Fin 48) (w : Word) (s : State) : Res :=
  s.write1 r (0x10008 + 0x400 * n) (withBit w.toNat 0 true) none
/-- OOS_WRITE (R166). -/
def execOosWrite (r : Requester) (n : Fin 48) (w : Word) (s : State) : Res := s.write1 r (0x10008 + 0x400 * n) w.toNat none
/-- REARM (R334): FUSCFG written with REARM. -/
def execRearm (r : Requester) (n : Fin 48) (w : Word) (s : State) : Res :=
  s.write1 r (0x10040 + 0x400 * n) (withBit w.toNat 29 true) none
/-- FBICAP_WRITE (R318). -/
def execFbicapWrite (r : Requester) (q : Fin 12) (w : Word) (s : State) : Res := s.write1 r (0xE020 + 0x200 * q) w.toNat none
/-- PDCTL_RESEND (R300). -/
def execPdctlResend (r : Requester) (n : Fin 48) (w : Word) (s : State) : Res :=
  s.write1 r (0x10024 + 0x400 * n) (withBit w.toNat 16 true) none
/-- PDCTL_HRESET (R302). -/
def execPdctlHreset (r : Requester) (n : Fin 48) (w : Word) (s : State) : Res :=
  s.write1 r (0x10024 + 0x400 * n) (withBit w.toNat 17 true) none
/-- PDCTL_VCSWAP (R305). -/
def execPdctlVcswap (r : Requester) (n : Fin 48) (w : Word) (s : State) : Res :=
  s.write1 r (0x10024 + 0x400 * n) (withBit w.toNat 18 true) none
/-- PDCTL_SOPPDISC (R304). -/
def execPdctlSoppdisc (r : Requester) (n : Fin 48) (w : Word) (s : State) : Res :=
  s.write1 r (0x10024 + 0x400 * n) (withBit w.toNat 19 true) none
/-- PDEN_WRITE (R318). -/
def execPdenWrite (r : Requester) (n : Fin 48) (w : Word) (s : State) : Res := s.write1 r (0x10024 + 0x400 * n) w.toNat none
/-- ALTMUX_KICK (R312). -/
def execAltmuxKick (r : Requester) (n : Fin 48) (w : Word) (s : State) : Res :=
  s.write1 r (0x1002C + 0x400 * n) (withBit w.toNat 1 true) none
/-- POOL_WRITE (R342). -/
def execPoolWrite (r : Requester) (w : Word) (s : State) : Res := s.write1 r 0x9004 w.toNat none
/-- QCAP_WRITE (R342). -/
def execQcapWrite (r : Requester) (q : Fin 12) (w : Word) (s : State) : Res := s.write1 r (0x9040 + 4 * q) w.toNat none
/-- PCFG_WRITE (R351). -/
def execPcfgWrite (r : Requester) (n : Fin 48) (w : Word) (s : State) : Res := s.write1 r (0x9200 + 4 * n) w.toNat none
/-- TTRST (R182). -/
def execTtrst (r : Requester) (n : Fin 48) (w : Word) (s : State) : Res :=
  s.write1 r (0x10060 + 0x400 * n) (withBit w.toNat 2 true) none
/-- ALMCLR (R189). -/
def execAlmclr (r : Requester) (n : Fin 48) (w : Word) (s : State) : Res :=
  s.write1 r (0x10060 + 0x400 * n) (withBit w.toNat 1 true) none
/-- ALMEN_WRITE (R189). -/
def execAlmenWrite (r : Requester) (n : Fin 48) (w : Word) (s : State) : Res := s.write1 r (0x10060 + 0x400 * n) w.toNat none
/-- ICU_DONE (R363). -/
def execIcuDone (r : Requester) (t : Fin 13) (w : Word) (s : State) : Res := s.write1 r (0x5004 + 0x40 * t) w.toNat none
/-- TRST (R370). -/
def execTrst (r : Requester) (t : Fin 13) (w : Word) (s : State) : Res :=
  s.write1 r (0x5008 + 0x40 * t) (withBit w.toNat 8 true) none
/-- CLRPEND (R359). -/
def execClrpend (r : Requester) (i : Fin 512) (w : Word) (s : State) : Res :=
  s.write1 r (0x4004 + 8 * i) (withBit w.toNat 4 true) none
/-- SWTRIG (R357). -/
def execSwtrig (r : Requester) (w : Word) (s : State) : Res := s.write1 r 0x5800 (withBit w.toNat 0 true) none
/-- SRC_CFG_WRITE (R361). -/
def execSrcCfgWrite (r : Requester) (i : Fin 512) (w : Word) (s : State) : Res := s.write1 r (0x4000 + 8 * i) w.toNat none
/-- TCTL_WRITE (R365). -/
def execTctlWrite (r : Requester) (t : Fin 13) (w : Word) (s : State) : Res := s.write1 r (0x5008 + 0x40 * t) w.toNat none
/-- FLTACK_ACK (R377). -/
def execFltackAck (r : Requester) (b : Fin 74) (w : Word) (s : State) : Res :=
  s.write1 r ((FBlk.ofIdx b).base + 12) (withBit w.toNat 0 true) none
/-- CLRLATCH (R381): the outcome of the self-test comes from the hardware. -/
def execClrlatch (r : Requester) (b : Fin 74) (w : Word) (pass : Bool) (s : State) : Res :=
  s.write1 r ((FBlk.ofIdx b).base + 12) (withBit w.toNat 1 true) (some pass)

/-! ## One-word reads -/

/-- A one-word read frame by requester `r`, complete. -/
def State.read1 (s : State) (r : Requester) (a : Nat) : Res :=
  let x := s.fresh.shiftWords r a 1
  let c := readFrameCode x.1
  doneIf (s.canSend r) s.fresh
    ((((x.2.metOff (c == 1)).lastErr r c).setResult r c).emit (.tokel (wordBytes (x.1.map (·.1)) ++ leBytes 1 c)))

/-- ICU_CLAIM (R362). -/
def execIcuClaim (r : Requester) (t : Fin 13) (s : State) : Res := s.read1 r (0x5000 + 0x40 * t)

/-- MBX_DATA3_READ (R123). -/
def execMbxData3Read (r : Requester) (m : Fin 8) (s : State) : Res := s.read1 r (0x801C + 0x20 * m)

/-! ## Voted fields (R119) -/

/-- The per-bit majority of three copies. -/
def majority (a b c : Nat) : Nat := (a &&& b) ||| (a &&& c) ||| (b &&& c)

/-- OWN and STATE of a port's OWNER word: held in three copies though they are RO (R255, R268). -/
def ownVoted (f : Field) : Bool :=
  decide (0x10000 ≤ f.addr) && decide (f.addr < 0x1C000) && f.addr % 0x400 == 0xC && (f.lo == 0 || f.lo == 16)

/-- The voted field at a word address and low bit (R119, R255). -/
def trvField (a lo : Nat) : Option Field := (wordFields a).find? (fun f => (f.acc == .trv || ownVoted f) && f.lo == lo)

/-- The copies of a field: all at its live value where none differs. -/
def State.copiesOf (s : State) (f : Field) : Nat × Nat × Nat :=
  match s.copies.find? (fun e => e.1 == f.key) with
  | some (_, c) => c
  | none => (s.rd f, s.rd f, s.rd f)

/-- VOTE_DISAGREE (R119, R374): one copy takes another value; compared wherever the core die runs. -/
def execVoteDisagree (addr : BitVec 24) (lo : Fin 32) (copy : Fin 3) (v : Word) (s : State) : Res :=
  match trvField addr.toNat lo with
  | none => done s.fresh
  | some f =>
    let x := v.toNat % 2 ^ f.width
    let c := s.copiesOf f
    let d := if copy.val = 0 then (x, c.2.1, c.2.2) else if copy.val = 1 then (c.1, x, c.2.2) else (c.1, c.2.1, x)
    let m := majority d.1 d.2.1 d.2.2
    doneIf (d != c && (s.active || s.phase == .dusk || s.phase == .rescue)) s.fresh
      (let old := s.liveWord addr.toNat
       let rest := KMap.erase s.copies f.key
       let same := d.1 == d.2.1 && d.2.1 == d.2.2
       let s1 := { s.fresh.wr f m with copies := if same then rest else KMap.insert rest f.key d }
       let s2 := if m ≠ s.rd f then s1.wordEffect .records addr.toNat (s1.liveWord addr.toNat) old none else s1
       if same then s2
       else
         let s3 := ((s2.edge 2).bump SYS.VOTECNT.COUNT).record .sys 1
         match s3.fixedAt.find? (fun e => e.1 == f.key) with
         | some (_, t) =>
           let e := s3.elapsedUs (t - 1)
           if e.1 ≤ 1000 then e.2.record .sys 2 else e.2
         | none => s3)

/-- VOTE_REWRITE (R119): the Warden writes the majority into the minority copy. -/
def execVoteRewrite (addr : BitVec 24) (lo : Fin 32) (s : State) : Res :=
  match trvField addr.toNat lo with
  | none => done s.fresh
  | some f =>
    doneIf (s.copies.any (fun e => e.1 == f.key)) s.fresh
      { s.fresh with copies := KMap.erase s.copies f.key
                     fixedAt := KMap.put 0 s.fixedAt f.key (s.now + 1) }

end Sys2Proof.Machine
end

