-- ==== Sys2Proof/Machine/Tokel.lean ====
section
/-! DEFINITION. Tokel frames on SPI (R104, R105), I2C (R106, R398) and EP0 (R107, R108), with the frame CRC (R109), short
frames (R111) and the moments at which reads clear (R112). -/

namespace Sys2Proof.Machine

/-! ## SPI and I2C frames -/

/-- The requester of a wire. -/
def wire (onI2c : Bool) : Requester := if onI2c then .i2c else .spi

/-- CRC is enabled for the wire (R109). -/
def State.crcOn (s : State) (onI2c : Bool) : Bool := if onI2c then s.on SYS.TKCFG.I2CCRC else s.on SYS.TKCFG.SPICRC

/-- The address in a frame's header, most significant byte first. -/
def hdrAddr (bs : List Byte) : Nat := fieldAt bs 1 1 * 0x10000 + fieldAt bs 2 1 * 0x100 + fieldAt bs 3 1

/-- Words of a frame: CNT + 1. -/
def hdrCount (bs : List Byte) : Nat := fieldAt bs 4 1 + 1

/-- The last result of a wire (R104, R106). -/
def State.lastResult (s : State) (onI2c : Bool) : Nat := if onI2c then s.lastI2c else s.lastSpi

/-- The bytes of the target's answer that the host clocks: what it sends, then 0xFF (R104, R106). -/
def clockOut (bs : List Byte) (k : Nat) : List Byte := (bs ++ List.replicate k 0xFF).take k

/-- What a read frame finds: its code, its data bytes, and the state with the RC fields of the words that began to shift out
cleared (R112). DESIGN CHOICE (log entry 98): a frame refused whole sends 0x00 data bytes with the GCRC of them; the spec gives
its code alone. -/
def State.readData (s : State) (r : Requester) (a n bad : Nat) : Nat × List Byte × State :=
  if bad ≠ 0 then (bad, wordBytes (List.replicate n 0), s)
  else
    let x := s.shiftWords r a n
    (readFrameCode x.1, wordBytes (x.1.map (·.1)), x.2.metOff (x.1.any (fun e => e.2 == 1)))

/-- The answer of a 0xA5 frame, of which the host clocks `clocked` bytes after the command: the last result, then 0xFF for each
further byte (R104, R106). -/
def State.wireStatus (s : State) (onI2c : Bool) (clocked : Nat) : State :=
  { s with idleAt := s.now }.emit
    (.tokel ((if onI2c then [] else [0]) ++ clockOut (leBytes 1 (s.lastResult onI2c)) clocked))

/-- A read frame on a wire: header bytes from CMD to CNT or HCRC, and the number of bytes clocked after TA or the repeated
start. A header that is not complete is no frame (R111); an HCRC that does not check reads nothing (R109). DEDUCED (log entry
98): the frame completes, with its result, as STS shifts out. A frame whose command is 0xA5 is a status frame, read past STS. -/
def State.wireRead (s : State) (onI2c : Bool) (hdr : List Byte) (clocked : Nat) : State :=
  let crc := s.crcOn onI2c
  let need := if crc then 6 else 5
  let r := wire onI2c
  if fieldAt hdr 0 1 = 0xA5 then s.wireStatus onI2c (if onI2c then clocked else hdr.length - 1 + clocked)
  else if hdr.length < need ∨ fieldAt hdr 0 1 ≠ 0xA1 then
    if onI2c then s.emit (.tokel (List.replicate clocked 0xFF)) else s
  else
    let lead := if onI2c then [] else List.replicate (need + 1) (0 : Byte)
    let k := hdrCount hdr
    let bad := if crc ∧ fieldAt hdr 5 1 ≠ crc8 (hdr.take 5) then 5 else frameCode (hdrAddr hdr) k
    let n := min k ((clocked + 3) / 4)
    let x := s.readData r (hdrAddr hdr) n bad
    let tail := (if crc then leBytes 1 (crc8 x.2.1) else []) ++ leBytes 1 x.1
    let s1 := if 4 * k + crc.toNat < clocked then (x.2.2.lastErr r x.1).setResult r x.1 else x.2.2
    s1.emit (.tokel (lead ++ clockOut (if n < k then x.2.1 else x.2.1 ++ tail) clocked))

/-- The complete 32-bit words of a byte list, at most `k`. -/
def wordsOf (bs : List Byte) (k : Nat) : List Nat := (List.range (min k (bs.length / 4))).map (fun i => fieldAt bs (4 * i) 4)

/-- A write frame on a wire, whole or short (R105, R106, R109, R111): every byte the host sends, on SPI with TA, STS and what
follows; there one byte of the answer goes with each. DESIGN CHOICE (log entry 100): a short frame that brought no complete
word is E_PART even where its address runs over the end; R110 and R111 give no order. -/
def State.wireWrite (s : State) (onI2c : Bool) (bytes : List Byte) : State :=
  let crc := s.crcOn onI2c
  let r := wire onI2c
  if bytes.length < 5 ∨ fieldAt bytes 0 1 ≠ 0xA2 then s
  else
    let k := hdrCount bytes
    let full := 5 + 4 * k
    let short := decide (bytes.length < full) || (crc && decide (bytes.length < full + 1))
    let vs := wordsOf (bytes.drop 5) k
    let x : Nat × State :=
      if crc ∧ (short ∨ fieldAt bytes full 1 ≠ crc8 (bytes.take full)) then (5, s.lastErr r 5)
      else if short then
        if vs.isEmpty then (5, s.lastErr r 5)
        else if frameCode (hdrAddr bytes) k ≠ 0 then (frameCode (hdrAddr bytes) k, s.lastErr r (frameCode (hdrAddr bytes) k))
        else
          let y := s.writeFrame r (hdrAddr bytes) vs none
          if y.1 = 0 then (5, y.2.lastErr r 5) else y
      else s.writeFrame r (hdrAddr bytes) vs none
    let s1 := x.2.setResult r x.1
    if onI2c then s1
    else s1.emit (.tokel (clockOut (List.replicate (full + crc.toNat + 1) 0 ++ leBytes 1 x.1) bytes.length))

/-- SPI answers while the part is Active or in Dusk (R48). -/
def State.mgmtUp (s : State) : Bool := s.active || s.phase == .dusk

/-- SPI_READ (R104, R112). -/
def execSpiRead (hdr : List Byte) (clocked : Nat) (s : State) : Res :=
  doneIf s.mgmtUp s.fresh (s.fresh.wireRead false hdr clocked)

/-- SPI_WRITE (R104, R105). -/
def execSpiWrite (bytes : List Byte) (s : State) : Res := doneIf s.mgmtUp s.fresh (s.fresh.wireWrite false bytes)

/-- SPI_STATUS (R104). -/
def execSpiStatus (s : State) : Res := doneIf s.mgmtUp s.fresh (s.fresh.wireStatus false 1)

/-- A frame with an unknown command (R105): the rest of it is ignored, and E_RANGE recorded. -/
def State.wireUnknown (s : State) (onI2c : Bool) : State :=
  ({ s with idleAt := s.now }.lastErr (wire onI2c) 4).emit (.tokel [0xFF])

/-- The I2C target's address (R53). -/
def State.i2cAddr (s : State) : Nat := 0x38 + s.rd SYS.STRAP.ADR

/-- An I2C transfer is served (R106). -/
def State.serveI2c (s : State) (f : I2cFrame) : State :=
  match f with
  | .read hdr clocked => s.wireRead true hdr clocked
  | .write bytes => s.wireWrite true bytes
  | .status => s.wireStatus true 1
  | .unknown _ => s.wireUnknown true

/-! ## Vendor requests (R107, R108) -/

/-- The requester behind upstream index 0 to 4. -/
def vendorOf (u : Fin 5) : Requester := if h : u.val < 4 then .pers ⟨u.val, h⟩ else .rescue

/-- The address of a vendor request. -/
def vendorAddr (wValue wIndex : Nat) : Nat := wIndex % 256 * 0x10000 + wValue

/-- A request keeps to the table of R107: its bmRequestType, wIndex[15:8] 0, a length that is a multiple of 4 up to 1,024. -/
def vendorOk (bm want wIndex wLength : Nat) : Bool :=
  bm == want && wIndex / 256 == 0 && wLength % 4 == 0 && decide (4 ≤ wLength) && decide (wLength ≤ 1024)

/-- A SETUP of a vendor request ends what was in progress on EP0 (R144). -/
def State.vendorSetup (s : State) (u : Fin 5) : State :=
  if u.val < 4 then s.ctlAbort u else { s with rescue := { s.rescue with ctl := .none } }

/-- A request reaches EP0: not while the personality is suspended or off the bus; in Attached it is there to be STALLed. -/
def State.vendorSeen (s : State) (u : Fin 5) : Bool :=
  if u.val < 4 then s.active && !s.on (UPS.STS.SUSP u) && decide (1 ≤ s.rd (UPS.STS.DEVSTATE u))
  else s.phase == .rescue && decide (1 ≤ s.rescue.devstate)

/-- What an accepted request answers, else a STALL. -/
def State.vendorRun (s : State) (u : Fin 5) (ok : Bool) (t : State) : Res :=
  let base := s.fresh.vendorSetup u
  if !s.vendorSeen u then done s.fresh
  else if ok && s.canSend (vendorOf u) then done t
  else done (base.emit (.usb u .stall))

/-- VENDOR_READ (R107, R108, R112): words sampled at Setup; cleared, and the request completed, at the status stage. -/
def execVendorRead (u : Fin 5) (bm : Byte) (wValue wIndex wLength : BitVec 16) (status : Bool) (s : State) : Res :=
  let base := s.fresh.vendorSetup u
  let r := vendorOf u
  let a := vendorAddr wValue.toNat wIndex.toNat
  let k := wLength.toNat / 4
  let fc := frameCode a k
  s.vendorRun u (vendorOk bm.toNat 0xC0 wIndex.toNat wLength.toNat)
    (if fc ≠ 0 then (((base.lastErr r fc).setResult r fc).emit (.usb u .stall))
     else
       let x := base.sampleWords r a k
       let c := readFrameCode x.1
       let s1 := x.2.metOff (x.1.any (fun e => e.2 == 1))
       if c ≠ 0 then ((s1.lastErr r c).setResult r c).emit (.usb u .stall)
       else
         let s2 := s1.emit (.usb u (.data 1 (wordBytes (x.1.map (·.1)))))
         if status then (s2.clearWords a x.1).setResult r 0 else s2)

/-- VENDOR_WRITE (R107, R108): staged until its data stage is whole, then judged and committed as one frame. -/
def execVendorWrite (u : Fin 5) (bm : Byte) (wValue wIndex wLength : BitVec 16) (bytes : List Byte) (complete : Bool)
    (s : State) : Res :=
  let base := s.fresh.vendorSetup u
  let r := vendorOf u
  let a := vendorAddr wValue.toNat wIndex.toNat
  s.vendorRun u (vendorOk bm.toNat 0x40 wIndex.toNat wLength.toNat)
    (if !complete ∨ bytes.length ≠ wLength.toNat then
       (if u.val < 4 then
          (base.raise (UPS.STS.STAGED u)).modUp u (fun x => { x with ctl := .vendorWrite a bytes })
        else { base with rescue := { base.rescue with ctl := .vendorWrite a bytes } })
     else
       let y := base.writeFrame r a (wordsOf bytes (wLength.toNat / 4)) none
       (y.2.setResult r y.1).emit (.usb u (if y.1 = 0 then .ack else .stall)))

/-- VENDOR_STATUS (R107): the STS of the last completed request. -/
def execVendorStatus (u : Fin 5) (bm : Byte) (wValue wIndex wLength : BitVec 16) (s : State) : Res :=
  let base := s.fresh.vendorSetup u
  let last := if u.val < 4 then (s.up u).lastSts else s.rescue.lastSts
  s.vendorRun u (bm.toNat == 0xC0 && wValue.toNat == 0 && wIndex.toNat == 0 && wLength.toNat == 1)
    (base.emit (.usb u (.data 1 (leBytes 1 last))))

end Sys2Proof.Machine
end

