-- ==== Sys2Proof/Machine/Nightwatch.lean ====
section
/-! DEFINITION. Nightwatch (R387 to R402): the sleep handshake, Dusk and Eclipse, the wake events, the return, and the
quad energy counts that go on in Dusk (R337). -/

namespace Sys2Proof.Machine

/-! ## The Eclipse test (R392) -/

/-- Port `n` lets the part enter Eclipse. -/
def State.portDark (s : State) (n : Nat) : Bool :=
  let p := s.port n
  !p.gate && !p.vbus && decide (s.tc n ≤ 1) && !p.waitRun && !p.waitDue && !p.thermHold && !p.latched

/-- The conditions of R392 beside ECLEN; NW.STS.ECLOK shows them at each Meridian. -/
def State.eclipseOk (s : State) : Bool :=
  s.vbusU.isEmpty && allPorts.all s.portDark && FBlk.all.all (fun b => !s.on (FLT.RECOV.LATCHED b)) &&
    s.rd BOOT.UPDSTS.SESSION == 0

/-! ## Refusals (R394) -/

/-- A port keeps its sector engine from stopping: a transient hub state, TT work, or a prefetch on the wire. -/
def State.seBusy (s : State) (n : Nat) : Bool :=
  let h := s.hub n
  let p := s.port n
  h == 2 || h == 4 || decide (9 ≤ h) || !p.np.isEmpty || !p.per.isEmpty || p.alm.any (fun e => e.2.pfWire.isSome)

/-- A port keeps its policy core from stopping: TCSTATE 2, 3, 5 or 9, a PD sequence, a ramp, a PDCTL command. -/
def State.pcBusy (s : State) (n : Nat) : Bool :=
  let t := s.tc n
  let p := s.port n
  t == 2 || t == 3 || t == 5 || t == 9 || p.inSequence || p.transRun || !p.ams.isEmpty || p.discovering || p.hr != .none ||
    p.ramp || s.pdBusy n

/-- Block `k` in the order of R393 refuses to stop (R394). -/
def State.refuses (s : State) (k : Nat) : Bool :=
  if k = 0 then
    (List.range 13).any (fun t => s.on (ICU.TSTAT.HELD t)) ||
      (List.range 512).any (fun i => s.on (ICU.SRC_STS.PEND i) && s.on (ICU.SRC_CFG.EN i) && s.on (ICU.SRC_CFG.NWW i)) ||
      FBlk.all.any (fun b => s.on (FLT.FLTTIMERS.STATE b) && s.rd (FLT.FLTTIMERS.STATE b) != 4)
  else if k = 1 then
    allPorts.any (fun n => !s.owned n || (s.port n).request.isSome) ||
      s.sw.packets.any (fun p => p.tail == .receiving || (p.started && !p.copied))
  else if k = 2 then
    s.sw.fence.active.isSome || !s.sw.fence.pending.isEmpty || s.sw.fence.mode != 0 || s.on PKM.GCNT1.INFLIGHT
  else if k < 7 then (secPorts (k - 3)).any s.seBusy
  else if k < 11 then (secPorts (k - 7)).any s.pcBusy
  else if k = 11 then
    s.shedDue || allPorts.any (fun n => s.on (PWR.PALLOW.WAIT n) || (s.port n).ask) ||
      s.rd PWR.TOTCOM.COMMIT != s.rd PWR.TOTCON.CONTRACT
  else if k = 12 then
    allPorts.any (fun n =>
      let p := s.port n
      p.selfTest != .none || p.waitRun || p.waitDue || p.thermHold || decide (400 ≤ signed 12 (s.rd (PRT.TJEST.TJ n))))
  else if k = 13 then
    (s.ownedPorts 4).any (fun n => (s.entry n).busy) || s.on BOOT.UPDSTS.BUSY || decide (s.boot.jFlash < s.retain.jseq)
  else
    let u := k - 14
    let d := s.rd (UPS.STS.DEVSTATE u)
    (decide (1 ≤ d) && decide (d ≤ 4) && !s.on (UPS.STS.SUSP u)) || d == 5 || s.on (UPS.STS.STAGED u) ||
      !(s.up u).wakers.isEmpty || (s.up u).hostResume

/-- The ICU that refuses over held events delivers them all, so that HELD is 0 on every target (R367). -/
def State.icuFlush (s : State) : State :=
  s.forEach ((List.range 13).filter (fun t => s.on (ICU.TSTAT.HELD t))) (fun a t =>
    let b := (a.deliver t).wr (ICU.TSTAT.HELD t) 0
    { b with icuTimer := KMap.put none b.icuTimer t none })

/-! ## The end of an attempt (R395, R397) -/

/-- An attempt ends without entry: recorded and published with source 436, and the timer starts again. -/
def State.sleepAbort (s : State) (block : Nat) (tmo : Bool) : State :=
  let s1 := ((s.wr NW.ABORT.BLOCK block).flag NW.ABORT.TMO tmo).flag NW.ABORT.TARGET s.sleep.eclipse
  let s2 := ((s1.bump NW.ABORT.COUNT).wr NW.STS.STATE 0).edgeAtMeridian 436
  { s2 with sleep := SleepX.reset, idleAt := s2.now }

/-- A refusal by block `k` (R395): BACKOFF advances, and from 8 returns to 0. -/
def State.sleepRefuse (s : State) (k : Nat) (tmo : Bool) : State :=
  let b := s.rd NW.STS.BACKOFF
  (s.sleepAbort k tmo).wr NW.STS.BACKOFF (if b = 8 then 0 else b + 1)

/-- Dusk is entered (R389): engines keep their state; Lodestar's ports have no SOF any more (R285). -/
def State.enterDusk (s : State) : State :=
  let s1 := ((s.wr NW.STS.STATE 2).wr NW.STS.BACKOFF 0).bump NW.CNT.DUSKCNT
  { s1.forEach allPorts (fun t n => t.modPort n (fun p => { p with frameM := 16384, sofOn := false })) with
    sleep := SleepX.reset, phase := .dusk }

/-- Eclipse is entered (R389, R387): the pins take their Eclipse states (R48), with Rp at the default current on CC and no
toggling, and the ownership table in force is kept. -/
def State.enterEclipse (s : State) : State :=
  let s0 := (s.emit .pinsEclipse).forEach allPorts (fun t n =>
    ((t.fbiHiZ n).wr (PRT.TCSTS.RPADV n) 0).modPort n (fun p => { p with presRd := false }))
  let s1 := ((s0.wr NW.STS.STATE 2).wr NW.STS.BACKOFF 0).bump NW.CNT.ECLCNT
  { s1 with sleep := SleepX.reset, phase := .eclipse, retain := { s1.retain with owners := allPorts.map s.owner } }

/-! ## The commands of the handshake -/

/-- IDLE_TIMER_EXPIRE (R391, R392): the interval runs out while the part is idle, and the handshake begins. -/
def execIdleTimerExpire (s : State) : Res :=
  doneIf (s.idle && !s.sleep.running) s.fresh
    { s.fresh.wr NW.STS.STATE 1 with sleep := ⟨true, s.on NW.CTL.ECLEN && s.eclipseOk, 0, false⟩ }

/-- SLEEP_BLOCK_ANSWER (R392 to R395): the next block in order answers. It agrees and stops, or refuses; an Eclipse
condition that no longer holds ends the attempt; the last agreement enters the target state. -/
def execSleepBlockAnswer (s : State) : Res :=
  let k := s.sleep.next
  doneIf s.sleep.running s.fresh
    (if s.refuses k then (if k = 0 then s.fresh.icuFlush else s.fresh).sleepRefuse k false
     else if s.sleep.eclipse ∧ !s.eclipseOk then s.fresh.sleepAbort 18 false
     else if k < 17 then { s.fresh with sleep := { s.sleep with next := k + 1 } }
     else if s.sleep.eclipse then s.fresh.enterEclipse
     else s.fresh.enterDusk)

/-- SLEEP_ANSWER_TIMEOUT (R393): no answer within 50 µs counts as a refusal. -/
def execSleepAnswerTimeout (s : State) : Res :=
  doneIf s.sleep.running s.fresh (s.fresh.sleepRefuse s.sleep.next true)

/-! ## Wake events (R396 to R398) -/

/-- A wake event: recorded as the first of the present Dusk or Eclipse, and the return begins; during the handshake a wake
during entry; in Active nothing. -/
def State.wakeEvent (s : State) (cause src detail : Nat) : State :=
  if s.sleep.running then s.sleepAbort 18 false
  else if (s.phase == .dusk || s.phase == .eclipse) && !s.sleep.woken then
    let s1 := (s.raise NW.WAKE.VALID).wr NW.WAKE.FROM (if s.phase = .dusk then 1 else 2)
    let s2 := ((s1.wr NW.WAKE.CAUSE cause).wr NW.WAKE.SRC src).wr NW.WAKE.DETAIL detail
    { s2.wr NW.STS.STATE 3 with sleep := { s2.sleep with woken := true } }
  else s

/-- FIXED_WAKE_EVENT (R396): in Eclipse only Uu_VBUS is left. -/
def execFixedWakeEvent (ev : Sys2Proof.FixedWake) (s : State) : Res :=
  let lit := s.phase != .eclipse
  match ev with
  | .upstreamLine u => doneIf (lit && s.on (UPS.STS.SUSP u)) s.fresh (s.fresh.wakeEvent 4 0x3FF u)
  | .downstream n => doneIf (lit && decide (s.owner n ≤ 4)) s.fresh (s.fresh.wakeEvent 5 0x3FF n)
  | .portDie n => doneIf lit s.fresh (s.fresh.wakeEvent 6 0x3FF n)
  | .uVbus u => done (s.fresh.wakeEvent 7 0x3FF u)

/-- WATCHED_SOURCE_WAKE (R397, R368): in Eclipse only CC attach and detach are left. -/
def execWatchedSourceWake (i : Fin 512) (s : State) : Res :=
  let cc := decide (64 ≤ i.val) && decide (i.val < 352) && (i.val - 64) % 6 == 3
  doneIf (s.on (ICU.SRC_CFG.EN i) && s.on (ICU.SRC_CFG.NWW i) && (s.phase != .eclipse || cc)) s.fresh
    (s.fresh.wakeEvent 1 i 0x3F)

/-- WAKE_N_ASSERT (R397). -/
def execWakeNAssert (s : State) : Res := done (s.fresh.wakeEvent 2 0x3FF 0x3F)

/-- I2C_ADDRESS_MATCH (R398): with I2CWAKE the address is acknowledged, SCL held and the part woken; without it the address
is not acknowledged in Eclipse. -/
def execI2cAddressMatch (adr : BitVec 7) (s : State) : Res :=
  doneIf (adr.toNat == 0x38 + s.rd SYS.STRAP.ADR) s.fresh
    (if s.on NW.CTL.I2CWAKE then s.fresh.wakeEvent 3 0x3FF 0x3F
     else if s.phase = .eclipse then s.fresh.emit .i2cNack
     else s.fresh)

/-! ## I2C frames (R106, R398) -/

/-- An I2C transfer at the target's address (R398): with I2CWAKE in Dusk or Eclipse SCL is held, the part is woken and the frame
served afterwards; in Eclipse without it the address is not acknowledged. -/
def State.i2cFrame (s : State) (f : I2cFrame) : State :=
  if s.mgmtUp && !(s.phase == .dusk && s.on NW.CTL.I2CWAKE) then s.serveI2c f
  else if (s.phase == .dusk || s.phase == .eclipse) && s.on NW.CTL.I2CWAKE then
    { s.wakeEvent 3 0x3FF 0x3F with heldI2c := some f }
  else s.emit .i2cNack

/-- An I2C transfer meets the target only at its address; elsewhere it is not acknowledged. -/
def State.onI2c (s : State) (adr : Nat) (f : I2cFrame) : Res :=
  done (if adr = s.i2cAddr then s.fresh.i2cFrame f else s.fresh.emit .i2cNack)

/-- I2C_READ (R106). -/
def execI2cRead (adr : BitVec 7) (hdr : List Byte) (clocked : Nat) (s : State) : Res := s.onI2c adr.toNat (.read hdr clocked)

/-- I2C_WRITE (R106). -/
def execI2cWrite (adr : BitVec 7) (bytes : List Byte) (s : State) : Res := s.onI2c adr.toNat (.write bytes)

/-- I2C_STATUS (R106). -/
def execI2cStatus (adr : BitVec 7) (s : State) : Res := s.onI2c adr.toNat .status

/-- SHORT_FRAME (R111): a write frame that ends early. -/
def execShortFrame (onI2c : Bool) (bytes : List Byte) (s : State) : Res :=
  if onI2c then s.onI2c s.i2cAddr (.write bytes) else doneIf s.mgmtUp s.fresh (s.fresh.wireWrite false bytes)

/-- SPI_UNKNOWN_COMMAND (R105). -/
def execSpiUnknownCommand (onI2c : Bool) (cmd : Byte) (s : State) : Res :=
  if cmd = 0xA1 ∨ cmd = 0xA2 ∨ cmd = 0xA5 then done s.fresh
  else if onI2c then s.onI2c s.i2cAddr (.unknown cmd)
  else doneIf s.mgmtUp s.fresh (s.fresh.wireUnknown false)

/-- The part is awake: the transfer that waited is served (R398). -/
def State.releaseI2c (s : State) : State :=
  match s.heldI2c with
  | some f => { s with heldI2c := none }.serveI2c f
  | none => s

/-! ## The return -/

/-- The effects of the words written in Dusk begin (R390). -/
def State.runDue (s : State) : State :=
  s.duskDue.foldl (fun (t : State) e => t.wordEffect .spi e.1 (t.liveWord e.1) e.2 none) { s with duskDue := [] }

/-- Lodestar resumes an Enabled port it owns (R285). -/
def State.ldsWake (s : State) (n : Nat) : State :=
  if s.owns 4 n && s.hub n == HS.enabled then s.driveK n else s

/-- A port after Dusk (R396, R285): a detach goes on, stored messages are delivered, Lodestar resumes its devices. -/
def State.portBack (s : State) (n : Nat) : State :=
  let s1 := if (s.port n).detachDue then (s.modPort n (fun p => { p with detachDue := false })).detach n else s
  (if (s1.sec (secOf n)).lost then s1 else s1.deliverStored n).ldsWake n

/-- Each personality sees Uu_VBUS as it is. -/
def State.vbusSync (s : State) : State :=
  s.forEach (List.range 4) (fun t u =>
    if t.vbusU.contains u != t.on (UPS.STS.VBUS u) then t.vbusChange u (t.vbusU.contains u) else t)

/-- After a wake by signalling on Uu of a suspended personality, the host's resume goes on (R401): K is driven on its enabled
ports (R148), and EVT.RESUME is shown at the first Meridian.
DEDUCED (log entry 31): the worked example of the sleep chapter. -/
def State.resumeBack (s : State) (u : Nat) : State :=
  if s.rd NW.WAKE.CAUSE = 4 ∧ s.rd NW.WAKE.DETAIL = u ∧ s.on (UPS.STS.SUSP u) then
    ((s.raise (UPS.EVT.RESUME u)).modUp u (fun x => { x with hostResume := true, resumeSeen := true })).partResume u
  else s

/-- DUSK_RETURN_COMPLETE (R399): Active again after `ms` of Dusk. Source 437 follows at the first Meridian. -/
def execDuskReturnComplete (ms : BitVec 32) (s : State) : Res :=
  doneIf (s.phase == .dusk && s.sleep.woken) s.fresh
    (let s1 := { (s.fresh.wr NW.STS.STATE 0).wr NW.DUSKTIME.MS (s.rd NW.DUSKTIME.MS + ms.toNat) with
        phase := .running, sleep := SleepX.reset, idleAt := s.now, boot := { s.boot with us := s.boot.us + 1000 * ms.toNat } }
     ((s1.runDue.forEach allPorts (fun t n => t.portBack n)).vbusSync.forEach (List.range 4)
      (fun t u => t.resumeBack u)).releaseI2c.edgeAtMeridian 437)

/-- ECLIPSE_WAKE (R400): a device-level reset with cause 0x09; NW.WAKE is kept. -/
def execEclipseWake (s : State) : Res :=
  doneIf (s.phase == .eclipse && s.sleep.woken) s.fresh
    (let keep := [NW.WAKE.VALID, NW.WAKE.FROM, NW.WAKE.CAUSE, NW.WAKE.SRC, NW.WAKE.DETAIL]
     (keep.foldl (fun (t : State) f => t.wr f (s.rd f)) (s.fresh.devReset 9)).startBoot)

/-! ## Energy (R337) -/

/-- ENERGY_COUNT_TICK (R337): 125 µs of V × I, in Active and in Dusk; VIN is in 8 mV and IIN in mA, so their product is
in nJ. -/
def execEnergyCountTick (q : Fin 12) (s : State) : Res :=
  let i := q.val / 3
  doneIf ((s.active || s.phase == .dusk) && (s.sec i).dieUp && s.good (.vdd5 (Fin.ofNat 4 i))) s.fresh
    { s.fresh with retain := { s.retain with
        energy := KMap.put 0 s.retain.energy q ((KMap.get 0 s.retain.energy q + s.rd (QD.VIN.VIN q) * s.rd (QD.IIN.IIN q)) %
          (1000000 * 2 ^ 48)) } }

end Sys2Proof.Machine
end

