-- ==== Sys2Proof/Machine/Meridian.lean ====
section
/-! DEFINITION. The Meridian (R25 to R32): measurements, what PE0, PE1 and the port dies do at each Meridian, the status
that is derived then, publication into the shadow, the hub views (R141) and the interrupt sources that follow (R358). -/

namespace Sys2Proof.Machine

/-! ## Measurements (R26, R76, R330, R336) -/

/-- A die temperature and its peak (R411): the peak restarts from the next published value after a read. -/
def State.setTj (s : State) (tj peak : Field) (v : Nat) : State :=
  let p := s.rd peak
  (s.wr tj v).wr peak (if p = 0 ∨ signed 12 p < signed 12 v then v else p)

/-- The port die of sector `i` answers the Meridian marker: it runs and its link is not lost. -/
def State.dieAnswers (s : State) (i : Nat) : Bool := (s.sec i).dieUp && !(s.sec i).lost

/-- One port's measurements (R26). -/
def State.takePort (s : State) (n : Nat) (m : PortSample) : State :=
  if !s.dieAnswers (secOf n) then s
  else
    let s1 := ((s.wr (PRT.VBUSMEAS.VBUS n) m.vbus.toNat).wr (PRT.IBUSMEAS.IBUS n) m.ibus.toNat).wr (PRT.VCONN.IMEAS n)
      m.vconnMa.toNat
    let s2 := (s1.flag (PRT.FUSSTS.FOLD n) (m.fold && s1.on (PRT.FUSSTS.LIMIT n))).wr (PRT.FUSSTS.FTFILL n) m.ftFill
    let t := 160 * volts (s.port n).target * 5
    let inw := decide (19 * t ≤ 100 * m.vbus.toNat)
        && decide (100 * m.vbus.toNat ≤ (if (s.port n).target = 0 then 22 else 21) * t)
    s2.modPort n (fun p => { p with inWindow := p.inWindow || (!p.ramp && inw) })

/-- Board temperature of a quad in 0.125 °C units: 105 °C while the NTC is out of range (R330). -/
def State.board (s : State) (q : Nat) : Int :=
  if s.on (QD.STS.NTCFLT q) then 840 else signed 11 (s.rd (QD.TBRD.TBRD q))

/-- HOT with its hysteresis (QD.STS). -/
def State.quadHot (s : State) (q : Nat) : State :=
  let t := signed 11 (s.rd (QD.TBRD.TBRD q))
  let w : Int := 8 * s.rd (QD.CTL.TBRDWARN q)
  if w < t ∧ !s.on (QD.STS.HOT q) then (s.raise (QD.STS.HOT q)).raise (QD.EVT.HOT q)
  else if t ≤ w - 16 then s.wr (QD.STS.HOT q) 0
  else s

/-- NTCFLT and QD source 1 follow the NTC (R330, R374). -/
def State.quadNtc (s : State) (q : Nat) (bad : Bool) : State :=
  if bad ∧ !s.on (QD.STS.NTCFLT q) then ((s.raise (QD.STS.NTCFLT q)).raise (QD.EVT.NTCFLT q)).condBegin (.qd q) 1
  else if !bad ∧ s.on (QD.STS.NTCFLT q) then (s.wr (QD.STS.NTCFLT q) 0).condEnd (.qd q) 1
  else s

/-- Over-power of a quad is counted in Meridians; its condition ends below the limit (R374). -/
def State.quadOver (s : State) (q : Nat) : State :=
  if 25 * s.rd (PWR.QCAP.CAP q) < 2 * s.rd (QD.PIN.PIN q) then s.modQuad q (fun x => { x with overM := min 80 (x.overM + 1) })
  else (s.modQuad q (fun x => { x with overM := 0 })).condEnd (.qd q) 2

/-- One quad's measurements (R336). -/
def State.takeQuad (s : State) (q : Nat) (m : QuadSample) : State :=
  if !s.dieAnswers (q / 3) then s
  else
    let p := min (2 ^ 22 - 1) (8 * m.vin.toNat * m.iin.toNat / 1000)
    let s1 := (((s.wr (QD.VIN.VIN q) m.vin.toNat).wr (QD.IIN.IIN q) m.iin.toNat).wr (QD.PIN.PIN q) p).wr (QD.TBRD.TBRD q)
      m.tbrd.toNat
    ((s1.quadNtc q m.ntcBad).quadHot q).quadOver q

/-- A port die below 120 °C ends its over-temperature (R76); its ports may be supplied again. -/
def State.dieCool (s : State) (i : Nat) : State :=
  if (s.sec i).hot && decide (signed 12 (s.rd (SEC.TJDIE.TJ i)) < 480) then
    ((s.modSec i (fun x => { x with hot := false })).condEnd (.sec i) 1).forEach (secPorts i) (fun t n => t.tryApply n)
  else s

/-- One port die's temperature. -/
def State.takeDie (s : State) (i : Nat) (v : Nat) : State :=
  if s.dieAnswers i then (s.setTj (SEC.TJDIE.TJ i) (SEC.TJDIE.PEAK i) v).dieCool i else s

/-- The core die's temperature; SYS source 3 ends below 100 °C (R385). -/
def State.takeCore (s : State) (v : Nat) : State :=
  let s1 := s.setTj SYS.TJCORE.TJ SYS.TJCORE.PEAK v
  if signed 12 v < 400 then s1.condEnd .sys 3 else s1

/-- The sample set of a Meridian. -/
def State.takeSamples (s : State) (m : Samples) : State :=
  let s1 := m.ports.foldl (fun (t : State) e => t.takePort e.1 e.2) s
  let s2 := m.quads.foldl (fun (t : State) e => t.takeQuad e.1 e.2) s1
  (m.tjDie.foldl (fun (t : State) e => t.takeDie e.1 e.2.toNat) s2).takeCore m.tjCore.toNat

/-! ## PE1: the thermal model (R330) -/

/-- P_FET of a port in µW: drop times current while the gate is on; a port with no new sample keeps its last value. -/
def State.pFet (s : State) (m : Samples) (n : Nat) : Nat :=
  if !(s.port n).gate then 0
  else
    match m.ports.find? (fun e => e.1.val == n) with
    | some e => e.2.drop.toNat * e.2.ibus.toNat
    | none => 1000 * s.rd (PRT.TJEST.PFET n)

/-- ΔT after 125 µs in 10^-12 °C, from P in µW, R_th in 0.1 °C/W and τ in ms. -/
def nextDt (dT p rth tau : Nat) : Nat := (((dT : Int) + ((p * rth * 100000 : Nat) - (dT : Int)) / (8 * tau : Nat))).toNat

/-- TJEST in 0.25 °C units from the board in 0.125 °C units and ΔT. -/
def tjOf (board : Int) (dT : Nat) : Int := max (-2048) (min 2047 ((board * 125000000000 + dT) / 250000000000))

/-- PE1 updates one port's estimate: TWARN, the thermal trip, the end of a thermal hold. -/
def State.thermal (s : State) (m : Samples) (n : Nat) : State :=
  match (s.quad (quadOf n)).ident.bind (fun i => i.ports[n % 4]?) with
  | none => s
  | some r =>
    let p := s.pFet m n
    let d := nextDt (s.port n).dT p r.rth r.tau
    let old := signed 12 (s.rd (PRT.TJEST.TJ n))
    let new := tjOf (s.board (quadOf n)) d
    let s1 := ((s.modPort n (fun x => { x with dT := d })).wr (PRT.TJEST.TJ n) (unsigned 12 new)).wr (PRT.TJEST.PFET n)
      (min 65535 (p / 1000))
    let s2 := if old ≤ 500 ∧ 500 < new then s1.raise (PRT.FUSEVT.TWARN n) else s1
    if 580 ≤ new ∧ (s.port n).gate then s2.trip n 3
    else if (s.port n).thermHold ∧ new ≤ 500 then
      ((s2.modPort n (fun x => { x with thermHold := false })).raise (PRT.FUSEVT.TREL n)).tryApply n
    else s2

/-- The model of every port, while PE1 runs. -/
def State.thermalAll (s : State) (m : Samples) : State :=
  if s.runs 9 then s.forEach allPorts (fun t n => t.thermal m n) else s

/-! ## The port dies: FBI trim (R319) -/

/-- A target's code with the trim, offset by 64 steps, within the DAC's 12 bits (R65, R319). -/
def State.trimmed (s : State) (n code trim : Nat) : Nat := min 4095 (s.fbiCode n code + trim - 64)

/-- The FBI code in force: the target's with the trim; while a ramp runs it lies between the codes of the old and the new
target, and where is open; 0 while the output is high impedance (DESIGN CHOICE, log entry 93). -/
def State.showFbi (s : State) (n : Nat) : State :=
  let p := s.port n
  if !p.fbiOn then s.wr (PRT.VBUSMEAS.FBICODE n) 0
  else if s.cutOff n ∨ (s.quad (quadOf n)).ident.isNone then s
  else if p.ramp then
    let a := s.fbiCode n p.oldTarget
    let b := s.fbiCode n p.target
    (s.free).2.wr (PRT.VBUSMEAS.FBICODE n) (min a b + (s.free).1 % (max a b - min a b + 1))
  else s.wr (PRT.VBUSMEAS.FBICODE n) (s.trimmed n p.target p.trim)

/-- One step of trim towards the target, within ±64 steps; a higher code lowers the output. In autonomous hold the setting
is kept (R15). -/
def State.trimStep (s : State) (n : Nat) : State :=
  let p := s.port n
  if p.trimRun && !p.ramp && p.gate && !s.cutOff n then
    let t := 160 * volts p.target
    let v := s.rd (PRT.VBUSMEAS.VBUS n)
    let k := if 200 * v < 199 * t then p.trim - 1 else if 201 * t < 200 * v then min 128 (p.trim + 1) else p.trim
    let s1 := s.modPort n (fun x =>
      { x with trim := k, trimAtLimit := if k = 0 ∨ k = 128 then min 100 (x.trimAtLimit + 1) else 0 })
    if k = p.trim then s1 else s1.emit (.fbi n (s.trimmed n p.target k))
  else s

/-! ## Status derived at the Meridian -/

/-- FUSSTS.STATE (R339): the first that holds. -/
def PortX.fuseState (p : PortX) (pg : Bool) : Nat :=
  if p.latched then 6
  else if p.selfTest != .none then 3
  else if p.waitRun then 4
  else if p.thermHold then 5
  else if pg then 2
  else if p.gate then 1
  else 0

/-- FUSSTS.WAIT in half seconds. -/
def State.waitLeft (s : State) (n : Nat) : Nat :=
  let p := s.port n
  if p.waitRun then min 120 (p.waitLen - (s.now - p.waitAt) / 4000) else 0

/-- A Meteor slot shows in MTRMAP.HELD (R210). -/
def heldShown (h : Option Held) : Bool :=
  match h with
  | some (.data _ _) => true
  | some .nak => true
  | some .stall => true
  | _ => false

/-- The status of one port that follows from its hidden state. -/
def State.showPort (s : State) (n : Nat) : State :=
  let p := s.port n
  let s1 := (s.wr (PRT.FUSSTS.STATE n) (p.fuseState (s.on (PRT.FUSSTS.PG n)))).wr (PRT.FUSSTS.WAIT n) (s.waitLeft n)
  let s2 := (s1.wr (PRT.QSTS.PBUSY n) ((p.per.filter (fun r => !r.dead)).length + p.lds.polling.toNat)).wr (PRT.QSTS.NPBUSY n)
    ((p.np.filter (fun b => !b.dead)).length + p.lds.step.waits.toNat)
  let bits := fun (g : AlmEntry → Bool) => ((p.alm.filter (fun e => g e.2)).map (fun e => 2 ^ e.1)).sum
  let s3 := ((s2.wr (PRT.MTRMAP.ARMED n) (bits (fun e => e.armed))).wr (PRT.MTRMAP.HELD n)
    (bits (fun e => heldShown e.held))).wr (PRT.MTRSTS.BLOCK n) (s.mtrBlock n)
  let man := decide (s.owner n < 4) && s.on (UPS.HUBCFG.IND (s.owner n)) && s.rd (PRT.CTL.INDMODE n) == 0 && p.indSel != 0
  let s4 := s3.flag (PRT.HUBSTS.INDMAN n) man
  let s5 := if s.hub n = HS.test then s4 else s4.wr (PRT.HUBSTS.TESTSEL n) 0
  (if p.armed && !p.gate then s5.setIset n else s5).showFbi n

/-- MPSCLS of a maximum packet size (R190). -/
def mpsClass (mps : Nat) : Nat :=
  if mps = 0 then 0 else ((List.range 7).find? (fun k => decide (mps ≤ 2 ^ (k + 4)))).getD 6 + 1

/-- One Almanac entry in its ALM word: period and phase are valid once learned, before that they are open. -/
def State.showAlm (s : State) (n : Nat) (e : Nat × AlmEntry) : State :=
  let a := e.2
  let k := e.1
  let s1 := ((((s.wr (PRT.ALM.STATE n k) a.st).flag (PRT.ALM.TYPE n k) a.iso).flag (PRT.ALM.DIR n k) a.key.dirIn).wr
    (PRT.ALM.ADDR n k) a.key.addr).wr (PRT.ALM.EP n k) a.key.ep
  let s2 := (s1.wr (PRT.ALM.MPSCLS n k) (mpsClass a.mps)).wr (PRT.ALM.TOGGLE n k) a.toggle
  if 2 ≤ a.st then (s2.wr (PRT.ALM.PERIOD n k) (Nat.log2 (a.per / 8))).wr (PRT.ALM.PHASE n k) a.phase
  else ((s2.free).2.wr (PRT.ALM.PERIOD n k) ((s2.free).1 % 8)).wr (PRT.ALM.PHASE n k) ((s2.free).1 / 8)

/-- A key of the store lies in an ALM word of PRT[n]. -/
def almKey (k : Nat) : Bool :=
  let a := k / 32
  decide (0x10000 ≤ a) && decide (a < 0x1C000) && decide (0x80 ≤ a % 0x400) && decide (a % 0x400 < 0xC0)

/-- Every Almanac in its words; a FREE entry shows 0. -/
def State.showAlms (s : State) : State :=
  let s1 := { s with regs := s.regs.filter (fun e => !almKey e.1) }
  s1.forEach allPorts (fun t n => (t.port n).alm.foldl (fun a e => if e.2.st = 0 then a else a.showAlm n e) t)

/-- PWR.STS, LDS.STS, FREESTS.BELOW, SWX.LOAD and ECLOK. -/
def State.showBlocks (s : State) : State :=
  let s1 := (s.wr PWR.STS.SHEDQ (boolsNat ((List.range 12).map (fun q =>
      decide (s.kQuad q > s.rd (PWR.QCAP.CAP q)) || (s.quad q).failTrig)))).flag
    PWR.STS.POOLSHED (decide (s.kAll > s.rd PWR.POOL.POOL))
  let s2 := (s1.wr PWR.STS.NWAIT (allPorts.filter (fun n => s.on (PWR.PALLOW.WAIT n))).length).flag LDS.STS.RUN s.ldsRun
  let s3 := (s2.wr LDS.STS.NOWNED (s.ownedPorts 4).length).wr LDS.STS.NBUSY s.ldsBusy
  let s4 := (s3.flag PKM.FREESTS.BELOW (decide (s.rd PKM.GCNT2.POOLFREE < s.rd PKM.FREEMARK.LOW))).wr SWX.LOAD.BEATS
    (min 65535 s.sw.beats)
  (s4.flag NW.STS.ECLOK s.eclipseOk).modSw (fun w => { w with beats := 0 })

/-- A snapshot whose five granule counts do not sum to 32,768 (R34), or with TOTCOM below TOTCON (R341), is a device
fault. -/
def State.snapFaults (s : State) : State :=
  let sum := s.rd PKM.GCNT0.FREE + s.rd PKM.GCNT0.QUEUED + s.rd PKM.GCNT1.INFLIGHT + s.rd PKM.GCNT1.FENCED +
    s.rd PKM.GCNT1.RETIRED
  let s1 := if sum = 32768 then s else s.record .pkm 0
  if s.rd PWR.TOTCOM.COMMIT < s.rd PWR.TOTCON.CONTRACT then s1.record .pwr 0 else s1

/-! ## Lodestar at the Meridian (R269, R270, R285) -/

/-- Lodestar stops: transfers are abandoned; while SV runs, the entries show IDLE. -/
def State.ldsHalt (s : State) (n : Nat) : State :=
  let s1 := s.modPort n (fun p => { p with sofOn := false, lds := p.lds.halt })
  if s.runs 10 then s1.setEntry n { s1.entry n with state := 9 } else s1

/-- A port Lodestar owns with a device, or without one, begins its entry (R285). -/
def State.ldsBegin (s : State) (n : Nat) : State :=
  if s.on (PRT.HUBSTS.CONNECTION n) then s.ldsConnect n s.boot.us
  else s.setEntry n { RosterEntry.vacant with state := if s.ldsRan then 0 else 9 }

/-- Lodestar starts to run: a connected device is a new attach; an empty port's entry leaves IDLE.
DESIGN CHOICE (log entry 106): R283 does not name the state of such a port; it shows DETACHED where the entry keeps a device's
data, and VACANT where it keeps none. -/
def State.ldsStart (s : State) (n : Nat) : State :=
  let e := s.entry n
  if s.on (PRT.HUBSTS.CONNECTION n) then s.ldsConnect n s.boot.us
  else if e.state = 9 then s.setEntry n { e with state := if e.idValid ∨ e.tAttach ≠ 0 then 7 else 0 }
  else s

/-- Lodestar starts or stops, its routing entries become valid, it begins the entries of ports it has claimed while SV runs,
and gives its frame count to its ports. -/
def State.ldsMeridian (s : State) : State :=
  let run := s.ldsRun
  let mine := s.ownedPorts 4
  let s1 := { s with ldsRan := run }.forEach (allPorts.filter (fun n => (s.port n).lds.route == 1)) (fun t n =>
    t.modLds n (fun l => { l with route := 2 }))
  let s2 := if run && !s.ldsRan then s1.forEach (mine.filter (fun n => !(s.port n).claimDue)) (fun t n => t.ldsStart n)
    else if !run && s.ldsRan then s1.forEach mine (fun t n => t.ldsHalt n)
    else s1
  let s3 := s2.forEach (mine.filter (fun n => (s.port n).claimDue && s.runs 10)) (fun t n =>
    (t.modPort n (fun p => { p with claimDue := false })).ldsBegin n)
  if run then s3.forEach mine (fun t n => t.portSof n (s.rd SYS.MERIDIAN.COUNT % 16384)) else s3

/-! ## Ports shown anew after a bus reset (R145) -/

/-- In mode none a device still attached is connected anew. -/
def State.showAgain (s : State) (n : Nat) : State :=
  let s1 := s.modPort n (fun p => { p with restartDev := false })
  if s.hub n = HS.disconnected ∧ !(s.port n).restart then
    ((s1.raise (PRT.HUBSTS.CONNECTION n)).setHub n HS.disabled).hubEvt n 0
  else s1

/-- The ports of personality `u` after its bus reset. -/
def State.showUps (s : State) (u : Nat) : State :=
  if (s.up u).showAfter then
    (s.forEach ((s.ownedPorts u).filter (fun n => (s.port n).restartDev && !(s.port n).restart))
        (fun t n => t.showAgain n)).modUp u
      (fun x => { x with showAfter := false })
  else s

/-! ## Publication, hub views, sources -/

/-- An indicator frame is sent for a sector whose indicators have changed (R168). -/
def State.ledMeridian (s : State) (i : Nat) : State :=
  if s.on (SEC.STS.LINK i) && (s.sec i).ledSent != (secPorts i).map s.indicator then s.sendLed i else s

/-- Personality `u` owned port `n` in state OWNED in a shadow. -/
def pubOwns (m : Store) (u n : Nat) : Bool := Store.get m (PRT.OWNER.STATE n) == 0 && Store.get m (PRT.OWNER.OWN n) == u

/-- The status bits that a hub view takes from the published port (R141). -/
def State.pubView (s : State) (n : Nat) (v : View) : View :=
  let on := fun (f : Field) => s.rdPub f != 0
  { v with
    conn := on (PRT.HUBSTS.CONNECTION n), en := on (PRT.HUBSTS.ENABLE n), susp := on (PRT.HUBSTS.SUSPEND n)
    oc := on (PRT.HUBSTS.OVERCUR n), rst := on (PRT.HUBSTS.RESET n), low := on (PRT.HUBSTS.LOWSPD n)
    high := on (PRT.HUBSTS.HIGHSPD n), test := on (PRT.HUBSTS.TEST n), ind := on (PRT.HUBSTS.INDMAN n)
    pwrSeen := v.pwr }

/-- A view with nothing attached (R131): PORT_POWER and the change bits stay. -/
def View.none_ (v : View) : View :=
  { View.zero with
    pwr := v.pwr, pwrSeen := v.pwr, cConn := v.cConn, cEn := v.cEn, cSusp := v.cSusp, cOc := v.cOc, cRst := v.cRst,
    fresh := v.fresh }

/-- The personality is attached to a full-speed host (R137): a bus reset has ended without high speed. -/
def State.atFs (s : State) (u : Nat) : Bool := decide (2 ≤ s.rd (UPS.STS.DEVSTATE u)) && !s.on (UPS.STS.HS u)

/-- The engine that produces the status word of a key (R16): the sector engine's hub, Almanac and Meteor words of a port, the
policy core's Type-C, PD, VCONN and console words, PE0's PWR, PE1's e-fuse words and QD, SV's LDS. DEDUCED (log entry 95): the
words are those that R16 names, and the counters beside them. -/
def engineOf (k : Nat) : Option Nat :=
  let a := k / 32
  if 0x10000 ≤ a ∧ a < 0x1C000 then
    let n := (a - 0x10000) / 0x400
    let o := a % 0x400
    if o = 0 ∨ o = 4 ∨ o = 0x64 ∨ (0x80 ≤ o ∧ o < 0xD0) then some (secOf n)
    else if o = 0x10 ∨ o = 0x1C ∨ o = 0x20 ∨ o = 0x28 ∨ o = 0x2C ∨ o = 0x30 then some (4 + secOf n)
    else if o = 0x44 ∨ o = 0x48 ∨ o = 0x4C then some 9
    else none
  else if 0x9000 ≤ a ∧ a < 0xA000 then some 8
  else if 0xE000 ≤ a ∧ a < 0x10000 then some 9
  else if 0x20000 ≤ a ∧ a < 0x21000 then some 10
  else none

/-- An engine has stopped after boot: its status keeps its last published value (R17). A sector in its restart shows its
image values (R96). -/
def State.keeps (s : State) (e : Nat) : Bool :=
  s.boot.step == 0 && !s.runs e && !(decide (e < 8) && (s.sec (e % 4)).restarting)

/-- The published value of a key stays as it is (R17). -/
def State.keptKey (s : State) (k : Nat) : Bool :=
  match engineOf k with
  | some e => s.keeps e
  | none => false

/-- The shadow that a publication leaves (R26): the live registers, but for the words of stopped engines (R17). -/
def State.nextShadow (s : State) : Store :=
  if (List.range 11).any s.keeps then
    (s.shadow.filter (fun e => s.keptKey e.1)).foldl (fun m e => KMap.insert m e.1 e.2) (s.regs.filter (fun e => !s.keptKey e.1))
  else s.regs

/-- The events of a port that this publication gives to the views: none while the sector engine keeps its status. -/
def State.pubChg (s : State) (n : Nat) : Nat := if s.keeps (secOf n) then 0 else (s.port n).chg

/-- The hub view of one partition port at a Meridian (R141, R142, R131, R262, R263): it takes the published state and the
events of an owned port; a change of ownership latches the connection change alone. At full speed every port is shown with
nothing attached (R137). -/
def State.viewStep (s : State) (old : Store) (u n : Nat) : State :=
  let v := s.view u n
  let was := pubOwns old u n
  if s.atFs u then s.setView u n v.none_
  else if pubOwns s.shadow u n then
    let w := s.pubView n v
    s.setView u n (if was then w.addChange (s.pubChg n) else w.addChange w.conn.toNat)
  else s.setView u n (if was then v.none_.addChange v.conn.toNat else v.none_)

/-- Bits of a field that are 1 in the new shadow and were 0 in the old. -/
def newBits (old new : Store) (f : Field) : Bool :=
  (List.range f.width).any (fun k => bitAt (Store.get new f) k && !bitAt (Store.get old f) k)

/-- Each source published at the Meridian (R357), with the fields whose new bits are its event. -/
def pubSources : List (Nat × List Field) :=
  (List.range 12).flatMap (fun q =>
    [(16 + 4 * q, [QD.EVT.FAILIN q]), (17 + 4 * q, [QD.EVT.WARNIN q, QD.EVT.WARNOUT q]),
     (18 + 4 * q, [QD.EVT.NTCFLT q, QD.EVT.HOT q]), (19 + 4 * q, [QD.EVT.IDDIFF q, QD.EVT.IDFAIL q])]) ++
  allPorts.flatMap (fun n =>
    [(64 + 6 * n, [PRT.FUSEVT.TRIP n, PRT.FUSEVT.HSHORT n, PRT.FUSEVT.OVERLOAD n, PRT.FUSEVT.OV n, PRT.FUSEVT.VFAULT n,
       PRT.FUSEVT.SENSEFLT n, PRT.FUSEVT.LATCHED n, PRT.FUSEVT.REARMED n, PRT.FUSEVT.PGON n, PRT.FUSEVT.PGOFF n,
       PRT.FUSEVT.LIMITIN n, PRT.FUSEVT.QUALRST n, PRT.FUSEVT.CLEAN n]),
     (65 + 6 * n, [PRT.FUSEVT.THERMAL n, PRT.FUSEVT.TWARN n, PRT.FUSEVT.TREL n]), (66 + 6 * n, [PRT.PDSTS.EVT n]),
     (67 + 6 * n, [PRT.TCEVT.ATTACH n, PRT.TCEVT.DETACH n, PRT.TCEVT.FOREIGN n, PRT.TCEVT.ACCESS n, PRT.TCEVT.ERRREC n,
       PRT.TCEVT.WETIN n, PRT.TCEVT.WETOUT n, PRT.TCEVT.OOS n, PRT.TCEVT.CCOV n]),
     (68 + 6 * n, [PRT.HUBCHG.C_CONNECTION n, PRT.HUBCHG.C_ENABLE n, PRT.HUBCHG.C_SUSPEND n, PRT.HUBCHG.C_OVERCUR n,
       PRT.HUBCHG.C_RESET n])]) ++
  (List.range 4).flatMap (fun u =>
    [(384 + 8 * u, [UPS.EVT.BUSRST u]), (385 + 8 * u, [UPS.EVT.SUSPEND u]), (386 + 8 * u, [UPS.EVT.RESUME u]),
     (387 + 8 * u, [UPS.EVT.CONFIG u]), (388 + 8 * u, [UPS.EVT.CTLABORT u]), (389 + 8 * u, [UPS.EVT.RWAKE u]),
     (390 + 8 * u, [UPS.EVT.VBUSCHG u]), (391 + 8 * u, [UPS.EVT.FSCONN u])]) ++
  [(429, [LDS.CHG0.P00_P31, LDS.CHG1.P32_P47]), (432, [PWR.EVT.SHEDIN, PWR.EVT.SHEDOUT]), (433, [PWR.EVT.WAIT]),
   (434, [PWR.EVT.IGNHR]), (435, [PWR.EVT.REBUILD])]

/-- Sources of one bit of a field: packet notices (R252) and sector events (R357). -/
def bitSources : List (Nat × Field × Nat) :=
  allPorts.map (fun n => if n < 32 then (69 + 6 * n, PKM.PNOTE0.P00_P31, n) else (69 + 6 * n, PKM.PNOTE1.P32_P47, n - 32)) ++
  (List.range 4).flatMap (fun i => (List.range 8).map (fun k => (352 + 8 * i + k, SEC.EVT.EVENTS i, k)))

/-- The sources whose events a publication shows (R358, R267). -/
def firedSources (old new : Store) : List Nat :=
  ((pubSources.filter (fun e => e.2.any (newBits old new))).map (·.1)) ++
  ((bitSources.filter (fun e => bitAt (Store.get new e.2.1) e.2.2 && !bitAt (Store.get old e.2.1) e.2.2)).map (·.1)) ++
  (if allPorts.any (fun n => Store.get new (PRT.OWNER.STATE n) != Store.get old (PRT.OWNER.STATE n) ||
      Store.get new (PRT.OWNER.LASTBY n) != Store.get old (PRT.OWNER.LASTBY n)) then [428] else [])

/-- HUBCHG shows every event since the last Meridian, also one whose bit a read has cleared after it (R30, R142). -/
def State.showChanges (s : State) (n : Nat) : State :=
  (([PRT.HUBCHG.C_CONNECTION n, PRT.HUBCHG.C_ENABLE n, PRT.HUBCHG.C_SUSPEND n, PRT.HUBCHG.C_OVERCUR n,
    PRT.HUBCHG.C_RESET n].zipIdx).filter (fun e => bitAt (s.port n).chg e.2)).foldl (fun t e => t.raise e.1) s

/-- Publication (R26): the shadow takes the live registers; hub views and interrupt sources follow. -/
def State.publish (s0 : State) : State :=
  let old := s0.shadow
  let s := s0.forEach allPorts (fun t n => if t.pubChg n = 0 then t else t.showChanges n)
  let s1 := { s with shadow := s.nextShadow }
  let s2 := s1.forEach (List.range 4) (fun t u => t.forEach (t.partition u) (fun a n => a.viewStep old u n))
  let s3 := s2.forEach allPorts (fun t n => if t.pubChg n = 0 then t else t.modPort n (fun p => { p with chg := 0 }))
  let due := firedSources old s3.shadow ++ s3.edgeDue
  ({ s3 with edgeDue := [] }).forEach ((List.range 512).filter due.contains) (fun t i => t.edge i)

/-- Relay slots that stand empty grow older (R220). -/
def State.ageSlots (s : State) (n : Nat) : State :=
  if (s.port n).slots.isEmpty then s
  else s.modPort n (fun p => { p with slots := p.slots.map (fun x =>
    if x.held.isNone && !x.asked && !s.sw.packets.any (fun q => q.port == n && q.key == x.key) then { x with idle := x.idle + 1 }
    else { x with idle := 0 }) })

/-- The routing tables move to their new generations (R226). -/
def State.routeMeridian (s : State) : State :=
  s.forEach (List.range 4) (fun t u =>
    let t1 := if (t.up u).rtAdv then t.modUp u (fun x => { x with rtAdv := false }) else t
    if (t1.up u).rtPending.isEmpty then t1 else t1.rtApply u)

/-- Time: one Meridian (R25, R90). -/
def State.tick (s : State) : State :=
  { s.wr SYS.MERIDIAN.COUNT (s.rd SYS.MERIDIAN.COUNT + 1) with now := s.now + 1, boot := { s.boot with us := s.boot.us + 125 } }

/-- A Meridian while the part runs. -/
def State.meridianRun (s : State) (m : Samples) : State :=
  let s1 := (s.tick.takeSamples m).thermalAll m
  let s2 := s1.forEach allPorts (fun t n => (t.trimStep n).ageSlots n)
  let s3 := ((s2.sampleRequests.serveWaiting).recomputeAllowances).routeMeridian
  let s4 := (s3.forEach (List.range 4) (fun t u => t.showUps u)).ldsMeridian
  let s5 := (s4.forEach allPorts (fun t n => t.showPort n)).showAlms
  let s6 := (s5.showBlocks.forEach (List.range 4) (fun t i => t.ledMeridian i)).snapFaults
  let s7 := s6.publish.mbxTake
  if s7.idle then s7 else { s7 with idleAt := s7.now }

/-- MERIDIAN (R25, R26): while the part runs; in rescue the count, SYS.TJCORE and the shadow go on. In Dusk and Eclipse none
occurs (R32). -/
def execMeridian (smp : Samples) (s : State) : Res :=
  done (match s.phase with
    | .running => s.fresh.meridianRun smp
    | .rescue => (s.fresh.tick.setTj SYS.TJCORE.TJ SYS.TJCORE.PEAK smp.tjCore.toNat).publish
    | _ => s.fresh)

end Sys2Proof.Machine
end

