-- ==== Sys2Proof/Machine/Boot.lean ====
section
/-! DEFINITION. The boot steps (R87), abbreviated boot (R100), fallback (R82), restricted mode (R93), register records
(R86), the steps of a sector restart (R96) and the reread of an identity memory (R87, R322). -/

namespace Sys2Proof.Machine

/-- What a step or a step instance found: OUTCOME (0 OK, 1 FAIL, 2 SKIPPED, 3 ALTERED), reason and argument of R90; none
where the spec names no reason or argument. -/
structure StepOut where
  out : Nat
  reason : Option Nat
  arg : Option Nat
  deriving DecidableEq, Repr

/-- OK. -/
def StepOut.ok : StepOut := ⟨0, some 0, some 0⟩
/-- SKIPPED. -/
def StepOut.skipped : StepOut := ⟨2, some 0, some 0⟩
/-- ALTERED with a reason. -/
def StepOut.altered (reason : Nat) : StepOut := ⟨3, some reason, some 0⟩
/-- FAIL with a finding. -/
def StepOut.fail (f : Finding) : StepOut := ⟨1, some f.1, f.2⟩
/-- FAIL for which R90 lists no reason. -/
def StepOut.failOpen : StepOut := ⟨1, none, none⟩

/-! ## Records and the way on -/

/-- The record of a step, or of one instance of it: SLOT is the booted slot from step 0x03 on. -/
def State.stepRec (s : State) (code inst : Nat) (x : StepOut) : State :=
  let slot := if code < 3 then 0xFF else s.boot.slot
  match x.reason with
  | some r => s.journalOpen code inst x.out slot r x.arg
  | none => (s.free).2.journalOpen code inst x.out slot ((s.free).1 % 256) x.arg

/-- The next step. -/
def State.toStep (s : State) (k : Nat) : State := { s with boot := { s.boot with step := k, inst := 0 } }

/-- A step done, and the next one. -/
def State.stepDone (s : State) (x : StepOut) : State :=
  (s.stepRec s.boot.step 0xFF x).toStep (s.boot.step + 1)

/-- A FAIL of a Mandatory step: its record, the marks of R88, and the boot-retry reset to come (R89). -/
def State.stepFail (s : State) (x : StepOut) : State :=
  let s1 := s.stepRec s.boot.step 0xFF x
  let s2 := match markOf s.boot.step 0xFF s.boot.slot with
    | some k => s1.setMark k
    | none => s1
  { s2 with boot := { s2.boot with retry := true } }

/-- An alternative method in use in this boot (R88). -/
def State.usesAlt (s : State) (k : Nat) : State := { s with boot := { s.boot with altUsed := withBit s.boot.altUsed k true } }

/-! ## Steps 0x01 and 0x02 -/

/-- 0x01, supply check; the upstream receptacles present Rd (R295). -/
def State.step1 (s : State) : State :=
  let s2 := ((s.wr SYS.ID.STEP Config.stepping).flag SYS.MODE.ABBREV s.boot.abbrev_).forEach (List.range 4) (fun t i =>
    let t1 := ((t.flag (SEC.STS.PRESENT i) (t.good (.vdd5 (Fin.ofNat 4 i)))).flag (SEC.STS.VCONNOK i)
      (t.good (.vconnIn (Fin.ofNat 4 i)))).flag (UPS.STS.VBUS i) (t.vbusU.contains i)
    if t1.rd (UPS.TCSTS.TCSTATE i) = 0 then t1.upUnattached i else t1)
  let whole := (List.range 4).all (fun i => s2.on (SEC.STS.PRESENT i)) && s2.rd SYS.STRAP.MODE != 3
  s2.stepDone (if whole then .ok else .altered 0)

/-- The slot booted (R82), and whether it is a fallback. -/
def State.chooseSlot (s : State) (h : Header) : Nat × Bool :=
  let a := h.active
  let b := 1 - a
  if s.marked a && h.state b == 2 && !s.marked b then (b, true) else (a, false)

/-- 0x02, NVM probe: in forced rescue neither the marks nor the count are acted on (R52). -/
def State.step2 (s : State) (ok : Bool) : State :=
  let forced := s.rd SYS.STRAP.MODE == 1 || s.rd SYS.STRAP.MODE == 3
  let due := decide (3 ≤ s.retain.consec)
  let alt := s.marked 2 && !forced
  let s1 := if ok then s.flashOpen else s
  let s2 := match (if ok then s1.header else none) with
    | some (_, h) =>
      let c := if forced then (h.active, false) else s1.chooseSlot h
      let t := (((s1.showHeader h).wr SYS.MODE.SLOT c.1).flag SYS.MODE.FALLBACK c.2)
      let t1 := { t with boot := { t.boot with slot := c.1, fallback := c.2, length := h.len c.1 },
                         retain := { t.retain with sfdp := true } }
      (if alt then t1.usesAlt 2 else t1).stepDone (if alt then .altered 0 else .ok)
    | none => s1.stepFail (if ok then .failOpen else .fail (1, some 0))
  if forced then s2.enterRescue 2 else if due then s2.enterRescue 1 else s2

/-! ## Steps 0x03 to 0x06 -/

/-- The booted image's base and its manifest's bytes. -/
def State.bootBase (s : State) : Nat := slotBase s.boot.slot

/-- 0x03, manifest. -/
def State.step3 (s : State) : State :=
  let bs := s.flashBytes s.bootBase 4096
  match readManifest bs s.boot.length with
  | .error f => s.stepFail (.fail f)
  | .ok m =>
    { s with boot := { s.boot with manifest := m.sects, rollback := m.rollback, fitted := m.fitted, build := m.build,
                                   manDigest := Config.sha256 bs } }.stepDone .ok

/-- An abbreviated boot turns into a full one (R100): from step 0x01, in the same boot number. -/
def State.fullInstead (s : State) : State :=
  { s with boot := { BootX.reset with started := true, us := s.boot.us, nvm := s.boot.nvm, jPos := s.boot.jPos,
                                      jFlash := s.boot.jFlash } }.wr SYS.MODE.ABBREV 0

/-- 0x04, signature. -/
def State.step4 (s : State) : State :=
  let s1 := s.wr BOOT.RBCTR.VALUE s.fuses
  if s.boot.abbrev_ then
    (if (s.retain.digests.map (·.manifest)) = some s.boot.manDigest then s1.stepDone .ok else s1.fullInstead)
  else
    match s.checkSignature (s.flashBytes s.bootBase 4096) with
    | some f => s1.stepFail (.fail f)
    | none => s1.stepDone .ok

/-- The combination was tested or not: restricted mode (R93), and the result kept. -/
def State.combination (s : State) (restrict : Bool) : State :=
  { s with boot := { s.boot with restricted := restrict }
           retain := { s.retain with compat := some restrict } }.stepDone (if restrict then .altered 8 else .ok)

/-- 0x05, compatibility. -/
def State.step5 (s : State) : State :=
  match (if s.boot.abbrev_ then s.retain.compat else none) with
  | some r => s.combination r
  | none =>
    match s.checkCompat s.bootBase 1 s.boot.manifest with
    | .error f => s.stepFail (.fail f)
    | .ok listed => s.combination (!listed)

/-- 0x06, engine load: the tables of the image, and the service engine started. -/
def State.step6 (s : State) (sramOk : Bool) : State :=
  match s.checkSections s.bootBase s.boot.manifest with
  | some f => s.stepFail (.fail f)
  | none =>
    if sramOk then ((s.loadTables s.bootBase s.boot.manifest).engineRun 10).updWake.stepDone .ok
    else s.stepFail .failOpen

/-! ## Step 0x07 -/

/-- A register record (R86). -/
structure RegRecord where
  addr : Nat
  value : Nat
  mask : Nat
  deriving DecidableEq, Repr

/-- The records of a section. -/
def readRecords (bs : List Byte) : List RegRecord :=
  (List.range (bs.length / 12)).map (fun i => ⟨fieldAt bs (12 * i) 4, fieldAt bs (12 * i + 4) 4, fieldAt bs (12 * i + 8) 4⟩)

/-- A record obeys R86. -/
def RegRecord.legal (r : RegRecord) : Bool :=
  decide (r.addr < 0x400000) && r.addr % 4 == 0 && !(decide (0x1000 ≤ r.addr) && decide (r.addr < 0x2000)) && r.mask != 0

/-- One record applied: the result code, and the state. -/
def State.applyRecord (s : State) (r : RegRecord) : Nat × State :=
  if !r.legal then (4, s)
  else if r.mask = 0xFFFFFFFF then s.writeFrame .records r.addr [r.value] none
  else
    let x := s.shiftWords .records r.addr 1
    let c := readFrameCode x.1
    let old := ((x.1.head?).map (·.1)).getD 0
    if c = 0 then x.2.writeFrame .records r.addr [(old &&& (0xFFFFFFFF - r.mask)) ||| (r.value &&& r.mask)] none
    else (c, x.2)

/-- The records from index `i` on: none where all applied, else the index and the result code. -/
def State.applyRecords (s : State) : Nat → List RegRecord → Option (Nat × Nat) × State
  | _, [] => (none, s)
  | i, r :: rs =>
    let x := s.applyRecord r
    if x.1 = 0 then x.2.applyRecords (i + 1) rs else (some (i, x.1), x.2)

/-- The limits of restricted mode (R93, R130). -/
def State.restrictNow (s : State) : State :=
  let s1 := (((s.wr (UPS.CTL.EN 1) 0).wr (UPS.CTL.EN 2) 0).wr (UPS.CTL.EN 3) 0).wr LDS.CTL.EN 0
  let s2 := ((s1.wr (UPS.PART0.P00_P31 0) 0xFFFFFFFF).wr (UPS.PART1.P32_P47 0) 0xFFFF).wr (UPS.HUBCFG.NBR 0) 48
  s2.forEach allPorts (fun t n =>
    (((t.wr (PRT.PDCTL.VMAX n) 0).wr (PRT.PDCTL.IMAX n) 150).wr (PRT.TCCTL.RPDEF n) 1).wr (PRT.MTRCFG.MODE n) 0)

/-- Software can write a field: its value at the end of step 0x07 is its image value. -/
def Field.control (f : Field) : Bool := f.acc == .rw || f.acc == .rwl || f.acc == .trv

/-- The image values (R96): the control fields as step 0x07 leaves them. -/
def State.takeImage (s : State) : State :=
  { s with image := s.regs.filter (fun e => (wordFields (e.1 / 32)).any (fun f => f.key == e.1 && f.control)) }

/-- 0x07, register records; a rejected record is journaled with its result code, and its index in the next record. -/
def State.step7 (s : State) : State :=
  let x := s.applyRecords 0 (readRecords ((s.typeBytes s.bootBase s.boot.manifest 0x10).getD []))
  match x.1 with
  | some (i, c) =>
    let s1 := x.2.stepFail ⟨1, some 9, some c⟩
    s1.stepRec 7 (i / 256) ⟨1, some 0xA, some (i % 256)⟩
  | none => ((if s.boot.restricted then x.2.restrictNow else x.2).takeImage).stepDone .ok

/-! ## Step 0x08 -/

/-- The identity values in use for a quad and where they came from (R321, R322): 0 unfitted, 1 memory, 2 cache, 3 none. -/
def State.useIdent (s : State) (q src : Nat) (i : Option Ident) : State :=
  let s1 := s.wr (QD.STS.IDSRC q) src
  let s2 := match i with
    | some d => (s1.wr (QD.ID.RSHUNT q) d.rshunt).wr (QD.ID.BOARDREV q) d.boardrev
    | none => (s1.wr (QD.ID.RSHUNT q) 0).wr (QD.ID.BOARDREV q) 0
  let s3 := s2.modQuad q (fun x => { x with ident := i })
  { s3 with retain := { s3.retain with idents := KMap.put none s3.retain.idents q i } }

/-- No identity values in use: the quad's ports are not armed and the quad fault is recorded (R87, R374). -/
def State.noIdent (s : State) (q : Nat) : State := (s.useIdent q 3 none).record (.qd q) 0

/-- A read of the memory that failed: QD.EVT.IDFAIL (R339). -/
def State.identFail (s : State) (q : Nat) : State := s.raise (QD.EVT.IDFAIL q)

/-- A good read of the memory: in use, and the cache entry rewritten where it differs (R87). -/
def State.identRead (s : State) (q : Nat) (bs : List Byte) (d : Ident) : State :=
  let s1 := s.useIdent q 1 (some d)
  if s1.flashBytes (0x2000 + 256 * q) 256 = bs then s1 else s1.cacheWrite (256 * q) bs

/-- Reads the memory of quad `q` as the normal method, with its mark clear. -/
def State.identNormal (s : State) (q : Nat) (mem : Option (List Byte)) : StepOut × State :=
  match readIdentMem mem with
  | .ok d => (.ok, s.identRead q (mem.getD []) d)
  | .error f =>
    let s1 := (s.identFail q).setMark (3 + q)
    match s.cacheEntry q with
    | .ok d => (⟨3, some f.1, f.2⟩, s1.useIdent q 2 (some d))
    | .error _ => (.fail f, s1.noIdent q)

/-- With its mark set: the cache, reread after 0x0E; where the entry is not valid, the memory (R87). -/
def State.identMarked (s : State) (q : Nat) (mem : Option (List Byte)) : StepOut × State :=
  match s.cacheEntry q with
  | .ok d => (.altered 0, ((s.useIdent q 2 (some d)).usesAlt (3 + q)).modQuad q (fun x => { x with reread := true }))
  | .error _ =>
    match readIdentMem mem with
    | .ok d => (.ok, (s.clearMarks (2 ^ (3 + q))).identRead q (mem.getD []) d)
    | .error f => (.fail f, (s.identFail q).noIdent q)

/-- ILIM of the quad's ports lowered to the highest legal value under the RSENSE in use (R322, R324); whether any was. -/
def State.lowerIlim (s : State) (q : Nat) : Bool × State :=
  let bad := (quadPorts q).filter (fun n => decide (7000000 < s.rd (PRT.FUSCFG.ILIM n) * s.rsense n))
  (!bad.isEmpty, s.forEach bad (fun t n =>
    { t.load (PRT.FUSCFG.ILIM n) (7000000 / s.rsense n) with copies := KMap.erase t.copies (PRT.FUSCFG.ILIM n).key }))

/-- 0x08 for one quad: `quick` in an abbreviated boot. -/
def State.identStep (s : State) (q : Nat) (quick : Bool) (mem : Option (List Byte)) : StepOut × State :=
  if !bitAt s.boot.fitted q then (.skipped, s.useIdent q 0 none)
  else if !s.on (SEC.STS.PRESENT (q / 3)) then (.skipped, s.useIdent q 3 none)
  else
    let x := match (if quick then KMap.get none s.retain.idents q else none) with
      | some d => (StepOut.skipped, s.useIdent q (if s.marked (3 + q) then 2 else 1) (some d))
      | none => if s.marked (3 + q) then s.identMarked q mem else s.identNormal q mem
    let y := x.2.lowerIlim q
    (if y.1 && x.1.out != 3 then .altered 0 else x.1, y.2)

/-- The next instance of a step with `k` of them, or the next step. -/
def State.nextInst (s : State) (k : Nat) : State :=
  if s.boot.inst + 1 < k then { s with boot := { s.boot with inst := s.boot.inst + 1 } } else s.toStep (s.boot.step + 1)

/-- 0x08, quad identity: one instance. -/
def State.step8 (s : State) (mem : Option (List Byte)) : State :=
  let x := s.identStep s.boot.inst s.boot.abbrev_ mem
  (x.2.stepRec 8 s.boot.inst x.1).nextInst 12

/-! ## Steps 0x09 to 0x0D -/

/-- The link of sector `i` is trained at a rate (R411); the conditions of a lost link and of a failed training end
(R374, R380). -/
def State.linkUp (s : State) (i red : Nat) : State :=
  let s1 := ((((s.raise (SEC.STS.LINK i)).wr (SEC.STS.RATE i) red).wr (SEC.STS.HOLD i) 0).condEnd (.sec i) 3).condEnd (.sec i) 0
  (if red = 1 then s1.orBits (SEC.EVT.EVENTS i) 4 else s1).modSec i (fun x => { x with lost := false, late := false })

/-- The link could not be trained: a major sector fault (R87, R374). -/
def State.linkDead (s : State) (i : Nat) : State := (s.wr (SEC.STS.LINK i) 0).condBegin (.sec i) 3

/-- 0x09 for one sector. -/
def State.linkStep (s : State) (i : Nat) (full reduced : Bool) : StepOut × State :=
  if !s.on (SEC.STS.PRESENT i) then (.skipped, s)
  else if s.on (SEC.CTL.REDUCED i) then
    (if reduced then (⟨0, some 0xD, some 0⟩, s.linkUp i 1) else (.failOpen, (s.setMark (15 + i)).linkDead i))
  else if s.marked (15 + i) then
    (if reduced then (.altered 0xD, (s.linkUp i 1).usesAlt (15 + i)) else (.failOpen, s.linkDead i))
  else if full then (.ok, s.linkUp i 0)
  else if reduced then (.altered 0xD, (s.setMark (15 + i)).linkUp i 1)
  else (.failOpen, (s.setMark (15 + i)).linkDead i)

/-- 0x09, sector link training: one instance. -/
def State.step9 (s : State) (full reduced : Bool) : State :=
  let x := s.linkStep s.boot.inst full reduced
  (x.2.stepRec 9 s.boot.inst x.1).nextInst 4

/-- 0x0A, PHY calibration: the trim in use is kept; a stored one, else the factory's, where it is not measured. -/
def State.stepA (s : State) (ok : Bool) (trim : Nat) : State :=
  let stored := { s with retain := { s.retain with phyTrim := s.storedTrim } }
  if s.boot.abbrev_ then s.stepDone .skipped
  else if s.marked 19 then (stored.usesAlt 19).stepDone (.altered 0)
  else if ok then
    ({ s with retain := { s.retain with phyTrim := some (trim % 2 ^ 32) } }.cacheWrite 0xC00 (trimBytes trim)).stepDone .ok
  else (stored.setMark 19).stepDone (.altered 0)

/-- 0x0B, policy start: every engine has reported ready. -/
def State.stepB (s : State) : State := (s.forEach (List.range 10) (fun t e => t.engineRun e)).stepDone .ok

/-- 0x0C, upstream attach: one record per upstream port. -/
def State.stepC (s : State) : State :=
  (s.forEach (List.range 4) (fun t u =>
    let t1 := t.attachPers u
    t1.stepRec 0x0C u (if t1.on (UPS.STS.PULLUP u) then .ok else .skipped))).toStep 0x0D

/-- 0x0D, port arming: the initial ownership table applies at the next Meridian; after an Eclipse wake the owners at its
entry (R96). An entry of 4 without a Lodestar region is recorded as ALTERED too (R265). -/
def State.stepD (s : State) : State :=
  let s1 := s.forEach (List.range 4) (fun t i => t.armSector i)
  let table := if s.retain.cause = 9 ∧ !s.retain.owners.isEmpty then s.retain.owners else s1.boot.ownTable
  let barred := !s.restricted && s.rd (PKM.RGN.SIZE 52) == 0 && table.contains 4
  { s1 with boot := { s1.boot with ownDue := true, ownTable := table } }.stepDone
    (if allPorts.all s1.canArm && !barred then .ok else .altered 0)

/-! ## Step 0x0E -/

/-- The header of a fallback boot (R82): the booted slot ACTIVE, the other BAD. -/
def Header.fallback (h : Header) (b : Nat) : Header :=
  { h with active := b, stA := if b = 0 then 1 else 3, stB := if b = 0 then 3 else 1 }

/-- The fallback header, event 0x27, and the slot marks cleared. -/
def State.fallbackWrite (s : State) : State :=
  match s.header with
  | some (_, h) => ((s.writeHeader (h.fallback s.boot.slot)).journal 0x27 0xFF 0 s.boot.slot 0 0).clearMarks 3
  | none => s

/-- 0x0E, complete: the count cleared, the runs of R88, the digests of a full boot (R100). An I2C transfer that woke the part
from Eclipse is served now (R398). -/
def State.stepE (s : State) : State :=
  let x := stepRuns s.retain.failMem s.boot.altUsed s.retain.runs
  let s1 := { s with retain := { s.retain with consec := 0, failMem := x.1, runs := x.2 } }.showBoot
  let s2 := s1.stepRec 0x0E 0xFF .ok
  let s3 := if s.boot.fallback then s2.fallbackWrite else s2
  let s4 := if s.boot.abbrev_ then s3
    else { s3 with retain := { s3.retain with digests := some ⟨s.boot.manDigest, s.boot.manifest⟩ } }
  ((s4.wr SYS.MODE.MODE (if s.boot.restricted then 2 else 1)).toStep 0).releaseI2c

/-! ## The commands -/

/-- BOOT_STEP_COMPLETE (R87): the step in progress, or its instance, finishes. -/
def execBootStepComplete (rep : Sys2Proof.StepReport) (s : State) : Res :=
  let t := s.fresh.begun
  doneIf (s.active && s.boot.step != 0 && !s.boot.retry) s.fresh
    (match s.boot.step with
     | 1 => t.step1
     | 2 => t.step2 rep.nvmOk
     | 3 => t.step3
     | 4 => t.step4
     | 5 => t.step5
     | 6 => t.step6 rep.sramOk
     | 7 => t.step7
     | 8 => t.step8 rep.mem
     | 9 => t.step9 rep.linkFull rep.linkReduced
     | 0xA => t.stepA rep.calOk rep.trim
     | 0xB => t.stepB
     | 0xC => t.stepC
     | 0xD => t.stepD
     | _ => t.stepE)

/-- ENGINE_READY_TIMEOUT (R87): an engine released at 0x0B is not ready within 50 ms; one engine is restarted once, and
then the step FAILs. -/
def execEngineReadyTimeout (e : Fin 11) (s : State) : Res :=
  doneIf (s.active && s.boot.step == 0xB && !s.boot.retry && decide (e.val < 10)) s.fresh
    (if s.boot.restarted.isEmpty then { s.fresh with boot := { s.boot with restarted := [e.val] } }
     else s.fresh.stepFail (.fail (0xB, some e.val)))

/-- BOOT_TIMEOUT (R89): the step in progress FAILs with TIMEOUT, as Mandatory and Slot whatever its columns. -/
def execBootTimeout (s : State) : Res :=
  let k := s.boot.step
  doneIf (s.active && k != 0 && !s.boot.retry) s.fresh
    (let inst := if k = 8 ∨ k = 9 then s.boot.inst else 0xFF
     let s1 := s.fresh.begun.stepRec k inst (.fail (0xC, some 0))
     let s2 := match markOf k inst s.boot.slot with
       | some m => s1.setMark m
       | none => s1
     let s3 := if 3 ≤ k then s2.setMark s.boot.slot else s2
     { s3 with boot := { s3.boot with retry := true } })

/-- IDENTITY_REREAD_COMPLETE (R87, R322): after 0x0E the memory of a quad that used its cache is read again; the values in
use do not change. -/
def execIdentityRereadComplete (q : Fin 12) (mem : Option (List Byte)) (s : State) : Res :=
  doneIf (s.active && s.boot.step == 0 && (s.quad q).reread) s.fresh
    (let s1 := s.fresh.modQuad q (fun x => { x with reread := false })
     match readIdentMem mem with
     | .ok _ =>
       if s.flashBytes (0x2000 + 256 * q.val) 256 = mem.getD [] then s1
       else (s1.raise (QD.STS.IDDIFF q)).raise (QD.EVT.IDDIFF q)
     | .error _ => s1.identFail q)

/-- The section digests that a sector restart checks against (R96): those held in retention, else the booted manifest's. -/
def State.restartSects (s : State) : List Sect :=
  match s.retain.digests with
  | some d => d.sects
  | none => s.boot.manifest

/-- 0x06 of a sector restart: the SE and PC firmware of the slot booted last. -/
def State.restartLoad (s : State) (sramOk : Bool) : StepOut :=
  let es := s.restartSects.filter (fun e => e.typ == 1 || e.typ == 2)
  match es.find? (fun e => Config.sha256 (s.sectBytes s.bootBase e) != e.digest) with
  | some e => .fail (7, some e.typ)
  | none => if sramOk then .ok else .failOpen

/-- SECTOR_RESTART_COMPLETE (R96): steps 0x06, 0x08, 0x09 and 0x0B for the sector, journaled with INST; step 0x0D waits for
the restore (R378). -/
def execSectorRestartComplete (i : Fin 4) (rep : Sys2Proof.SectorReport) (s : State) : Res :=
  doneIf (s.active && !s.safe && (s.sec i).restarting) s.fresh
    (let load := s.restartLoad rep.sramOk
     let s1 := s.fresh.stepRec 6 i load
     let s2 := s1.forEach (List.range 3) (fun t k =>
       let q := 3 * i.val + k
       let mem := (rep.mems.find? (fun m => m.1.val == k)).map (·.2)
       let x := t.identStep q false mem
       x.2.stepRec 8 q x.1)
     let x := s2.linkStep i rep.linkFull rep.linkReduced
     let s3 := x.2.stepRec 9 i x.1
     let up := rep.ready && load.out == 0
     let s4 := s3.stepRec 0xB i (if up then .ok else .fail (0xB, some i.val))
     let s5 := if up then (s4.engineRun i).engineRun (4 + i) else s4
     (s5.modSec i (fun y => { y with restarting := false })).orBits (SEC.EVT.EVENTS i) 64)

end Sys2Proof.Machine
end

