-- ==== Sys2Proof/Machine/Dispatch.lean ====
section
/-! DEFINITION. One arm per command: a direct call of its meaning. -/

namespace Sys2Proof.Machine

/-- The effect of a command on everything but the queue. -/
def exec (i : Instr) (s : State) : Host.Outcome State Fault Refusal :=
  match i with
  | .meridian smp => Sys2Proof.Machine.execMeridian smp s
  | .linkFrameCrcFail sect => Sys2Proof.Machine.execLinkFrameCrcFail sect s
  | .linkLockLost sect => Sys2Proof.Machine.execLinkLockLost sect s
  | .linkRestored sect => Sys2Proof.Machine.execLinkRestored sect s
  | .linkRestoreTimeout sect => Sys2Proof.Machine.execLinkRestoreTimeout sect s
  | .resetNAssert => Sys2Proof.Machine.execResetNAssert s
  | .resetNRelease strap => Sys2Proof.Machine.execResetNRelease strap s
  | .powerOnResetEnd strap vio33 => Sys2Proof.Machine.execPowerOnResetEnd strap vio33 s
  | .portDiePorEnd sect => Sys2Proof.Machine.execPortDiePorEnd sect s
  | .supplyLow x => Sys2Proof.Machine.execSupplyLow x s
  | .upstreamVbusChange u present => Sys2Proof.Machine.execUpstreamVbusChange u present s
  | .coreDieOvertemp => Sys2Proof.Machine.execCoreDieOvertemp s
  | .portDieOvertemp sect => Sys2Proof.Machine.execPortDieOvertemp sect s
  | .bootStepComplete rep => Sys2Proof.Machine.execBootStepComplete rep s
  | .engineReadyTimeout e => Sys2Proof.Machine.execEngineReadyTimeout e s
  | .bootTimeout => Sys2Proof.Machine.execBootTimeout s
  | .bootRetryReset => Sys2Proof.Machine.execBootRetryReset s
  | .identityRereadComplete q mem => Sys2Proof.Machine.execIdentityRereadComplete q mem s
  | .rescueRstreq r w => Sys2Proof.Machine.execRescueRstreq r w s
  | .failclr r w => Sys2Proof.Machine.execFailclr r w s
  | .updcmdOpen r slot => Sys2Proof.Machine.execUpdcmdOpen r slot s
  | .updcmdErase r => Sys2Proof.Machine.execUpdcmdErase r s
  | .updcmdProgram r => Sys2Proof.Machine.execUpdcmdProgram r s
  | .updcmdVerify r => Sys2Proof.Machine.execUpdcmdVerify r s
  | .updcmdCommit r => Sys2Proof.Machine.execUpdcmdCommit r s
  | .updcmdAbort r => Sys2Proof.Machine.execUpdcmdAbort r s
  | .updateCommandComplete readBack => Sys2Proof.Machine.execUpdateCommandComplete readBack s
  | .rbctrWrite r w => Sys2Proof.Machine.execRbctrWrite r w s
  | .fuseBlowComplete => Sys2Proof.Machine.execFuseBlowComplete s
  | .resetreq r w => Sys2Proof.Machine.execResetreq r w s
  | .softwareFullReset => Sys2Proof.Machine.execSoftwareFullReset s
  | .spiRead hdr clocked => Sys2Proof.Machine.execSpiRead hdr clocked s
  | .spiWrite bytes => Sys2Proof.Machine.execSpiWrite bytes s
  | .spiStatus => Sys2Proof.Machine.execSpiStatus s
  | .spiUnknownCommand onI2c cmd => Sys2Proof.Machine.execSpiUnknownCommand onI2c cmd s
  | .shortFrame onI2c bytes => Sys2Proof.Machine.execShortFrame onI2c bytes s
  | .i2cRead adr hdr clocked => Sys2Proof.Machine.execI2cRead adr hdr clocked s
  | .i2cWrite adr bytes => Sys2Proof.Machine.execI2cWrite adr bytes s
  | .i2cStatus adr => Sys2Proof.Machine.execI2cStatus adr s
  | .vendorRead u bm wValue wIndex wLength status => Sys2Proof.Machine.execVendorRead u bm wValue wIndex wLength status s
  | .vendorWrite u bm wValue wIndex wLength bytes complete => Sys2Proof.Machine.execVendorWrite u bm wValue wIndex wLength bytes complete s
  | .vendorStatus u bm wValue wIndex wLength => Sys2Proof.Machine.execVendorStatus u bm wValue wIndex wLength s
  | .registerWrite r addr w => Sys2Proof.Machine.execRegisterWrite r addr w s
  | .bitAliasWrite r addr w => Sys2Proof.Machine.execBitAliasWrite r addr w s
  | .voteDisagree addr lo copy v => Sys2Proof.Machine.execVoteDisagree addr lo copy v s
  | .voteRewrite addr lo => Sys2Proof.Machine.execVoteRewrite addr lo s
  | .mbxSelWrite r m w => Sys2Proof.Machine.execMbxSelWrite r m w s
  | .mbxGo r m w => Sys2Proof.Machine.execMbxGo r m w s
  | .mbxPartWrite r m w => Sys2Proof.Machine.execMbxPartWrite r m w s
  | .mbxData3Read r m => Sys2Proof.Machine.execMbxData3Read r m s
  | .mbxCaptureStart m => Sys2Proof.Machine.execMbxCaptureStart m s
  | .mbxCaptureComplete m flashOk => Sys2Proof.Machine.execMbxCaptureComplete m flashOk s
  | .bulkBufferTimeout => Sys2Proof.Machine.execBulkBufferTimeout s
  | .busReset u hs => Sys2Proof.Machine.execBusReset u hs s
  | .personalityEnWrite r u w => Sys2Proof.Machine.execPersonalityEnWrite r u w s
  | .setAddress u adr => Sys2Proof.Machine.execSetAddress u adr s
  | .setConfiguration u cfg => Sys2Proof.Machine.execSetConfiguration u cfg s
  | .setInterface u alt => Sys2Proof.Machine.execSetInterface u alt s
  | .getDescriptor u wValue wIndex wLength => Sys2Proof.Machine.execGetDescriptor u wValue wIndex wLength s
  | .getStatus u => Sys2Proof.Machine.execGetStatus u s
  | .setFeatureTestMode u sel => Sys2Proof.Machine.execSetFeatureTestMode u sel s
  | .newSetupAbort u => Sys2Proof.Machine.execNewSetupAbort u s
  | .getHubStatus u => Sys2Proof.Machine.execGetHubStatus u s
  | .clearHubFeature u sel => Sys2Proof.Machine.execClearHubFeature u sel s
  | .setHubFeature u sel => Sys2Proof.Machine.execSetHubFeature u sel s
  | .getPortStatus u j => Sys2Proof.Machine.execGetPortStatus u j s
  | .setPortFeaturePortReset u j => Sys2Proof.Machine.execSetPortFeaturePortReset u j s
  | .setPortFeaturePortSuspend u j => Sys2Proof.Machine.execSetPortFeaturePortSuspend u j s
  | .setPortFeaturePortTest u j sel => Sys2Proof.Machine.execSetPortFeaturePortTest u j sel s
  | .setPortFeaturePortIndicator u j sel => Sys2Proof.Machine.execSetPortFeaturePortIndicator u j sel s
  | .setPortFeaturePortEnable u j => Sys2Proof.Machine.execSetPortFeaturePortEnable u j s
  | .setPortFeaturePortPower u j => Sys2Proof.Machine.execSetPortFeaturePortPower u j s
  | .clearPortFeaturePortPower u j => Sys2Proof.Machine.execClearPortFeaturePortPower u j s
  | .clearPortFeaturePortEnable u j => Sys2Proof.Machine.execClearPortFeaturePortEnable u j s
  | .clearPortFeaturePortSuspend u j => Sys2Proof.Machine.execClearPortFeaturePortSuspend u j s
  | .clearPortFeaturePortIndicator u j => Sys2Proof.Machine.execClearPortFeaturePortIndicator u j s
  | .clearPortFeatureChange u j c => Sys2Proof.Machine.execClearPortFeatureChange u j c s
  | .clearTtBuffer u wValue j => Sys2Proof.Machine.execClearTtBuffer u wValue j s
  | .resetTt u j => Sys2Proof.Machine.execResetTt u j s
  | .stopTt u j => Sys2Proof.Machine.execStopTt u j s
  | .getTtState u j => Sys2Proof.Machine.execGetTtState u j s
  | .getHubDescriptor u wLength => Sys2Proof.Machine.execGetHubDescriptor u wLength s
  | .setHubDescriptor u => Sys2Proof.Machine.execSetHubDescriptor u s
  | .statusChangeIn u => Sys2Proof.Machine.execStatusChangeIn u s
  | .statusChangeAck u => Sys2Proof.Machine.execStatusChangeAck u s
  | .suspend u => Sys2Proof.Machine.execSuspend u s
  | .wakeQualify n ev => Sys2Proof.Machine.execWakeQualify n ev s
  | .upstreamKStart u => Sys2Proof.Machine.execUpstreamKStart u s
  | .upstreamKEnd u => Sys2Proof.Machine.execUpstreamKEnd u s
  | .hostResume u => Sys2Proof.Machine.execHostResume u s
  | .resumeEop u => Sys2Proof.Machine.execResumeEop u s
  | .hostSof u frame uf => Sys2Proof.Machine.execHostSof u frame uf s
  | .fsFrameStart n => Sys2Proof.Machine.execFsFrameStart n s
  | .almanacLearningTimeout n k => Sys2Proof.Machine.execAlmanacLearningTimeout n k s
  | .hostSetup u adr ep req crcOk => Sys2Proof.Machine.execHostSetup u adr ep req crcOk s
  | .hostOut u adr ep tog bytes => Sys2Proof.Machine.execHostOut u adr ep tog bytes s
  | .hostPing u adr ep => Sys2Proof.Machine.execHostPing u adr ep s
  | .hostIn u adr ep acked => Sys2Proof.Machine.execHostIn u adr ep acked s
  | .downstreamOutResponse n d => Sys2Proof.Machine.execDownstreamOutResponse n d s
  | .downstreamInResponse n adr ep d => Sys2Proof.Machine.execDownstreamInResponse n adr ep d s
  | .relaySlotFree n adr ep dirIn => Sys2Proof.Machine.execRelaySlotFree n adr ep dirIn s
  | .hostIsoIn u adr ep => Sys2Proof.Machine.execHostIsoIn u adr ep s
  | .hostIsoOut u adr ep pid bytes crcOk => Sys2Proof.Machine.execHostIsoOut u adr ep pid bytes crcOk s
  | .isoOutLateDiscard id => Sys2Proof.Machine.execIsoOutLateDiscard id s
  | .isoHeldExpire n adr ep => Sys2Proof.Machine.execIsoHeldExpire n adr ep s
  | .cutThroughStart id => Sys2Proof.Machine.execCutThroughStart id s
  | .fabricBeat id out => Sys2Proof.Machine.execFabricBeat id out s
  | .packetTail id crcOk => Sys2Proof.Machine.execPacketTail id crcOk s
  | .packetRelease id => Sys2Proof.Machine.execPacketRelease id s
  | .granuleReturn => Sys2Proof.Machine.execGranuleReturn s
  | .correctedError line => Sys2Proof.Machine.execCorrectedError line s
  | .uncorrectableError line at_ => Sys2Proof.Machine.execUncorrectableError line at_ s
  | .fenceStart => Sys2Proof.Machine.execFenceStart s
  | .fenceTestComplete pass => Sys2Proof.Machine.execFenceTestComplete pass s
  | .replacementAvailable => Sys2Proof.Machine.execReplacementAvailable s
  | .overlayWritebackComplete => Sys2Proof.Machine.execOverlayWritebackComplete s
  | .rgnWrite r d w => Sys2Proof.Machine.execRgnWrite r d w s
  | .ownerGo r n w => Sys2Proof.Machine.execOwnerGo r n w s
  | .handoverReleasing n => Sys2Proof.Machine.execHandoverReleasing n s
  | .handoverTransit n => Sys2Proof.Machine.execHandoverTransit n s
  | .handoverClaiming n => Sys2Proof.Machine.execHandoverClaiming n s
  | .handoverOwned n => Sys2Proof.Machine.execHandoverOwned n s
  | .initialOwnershipApply => Sys2Proof.Machine.execInitialOwnershipApply s
  | .prstrt r n w => Sys2Proof.Machine.execPrstrt r n w s
  | .portRestartEnd n => Sys2Proof.Machine.execPortRestartEnd n s
  | .oosWrite r n w => Sys2Proof.Machine.execOosWrite r n w s
  | .vbusDischarged n => Sys2Proof.Machine.execVbusDischarged n s
  | .usbConnect n low => Sys2Proof.Machine.execUsbConnect n low s
  | .usbDisconnect n => Sys2Proof.Machine.execUsbDisconnect n s
  | .deviceChirp n => Sys2Proof.Machine.execDeviceChirp n s
  | .portResetEnd n => Sys2Proof.Machine.execPortResetEnd n s
  | .portBabble n => Sys2Proof.Machine.execPortBabble n s
  | .disablingComplete n => Sys2Proof.Machine.execDisablingComplete n s
  | .deviceResumeK n => Sys2Proof.Machine.execDeviceResumeK n s
  | .resumeDriveEnd n => Sys2Proof.Machine.execResumeDriveEnd n s
  | .sendEorComplete n => Sys2Proof.Machine.execSendEorComplete n s
  | .ledFrameRefresh sect => Sys2Proof.Machine.execLedFrameRefresh sect s
  | .ccAttachSeen n sight => Sys2Proof.Machine.execCcAttachSeen n sight s
  | .ccDebounceExpire n => Sys2Proof.Machine.execCcDebounceExpire n s
  | .ccTerminationLost n => Sys2Proof.Machine.execCcTerminationLost n s
  | .drpToggle n => Sys2Proof.Machine.execDrpToggle n s
  | .drpTryExpire n => Sys2Proof.Machine.execDrpTryExpire n s
  | .tryCcDebounceExpire n cc2 far => Sys2Proof.Machine.execTryCcDebounceExpire n cc2 far s
  | .tryTimeout n => Sys2Proof.Machine.execTryTimeout n s
  | .srcDisconnect n => Sys2Proof.Machine.execSrcDisconnect n s
  | .sinkVbusLost n => Sys2Proof.Machine.execSinkVbusLost n s
  | .ccOvervoltage n => Sys2Proof.Machine.execCcOvervoltage n s
  | .errorRecoveryEnd n => Sys2Proof.Machine.execErrorRecoveryEnd n s
  | .moistureCheckComplete n leak => Sys2Proof.Machine.execMoistureCheckComplete n leak s
  | .wetRetest n => Sys2Proof.Machine.execWetRetest n s
  | .budgetRequest n raise => Sys2Proof.Machine.execBudgetRequest n raise s
  | .gateFullyOn n => Sys2Proof.Machine.execGateFullyOn n s
  | .powerGood n => Sys2Proof.Machine.execPowerGood n s
  | .powerGoodFall n => Sys2Proof.Machine.execPowerGoodFall n s
  | .limitEngage n => Sys2Proof.Machine.execLimitEngage n s
  | .limitRelease n => Sys2Proof.Machine.execLimitRelease n s
  | .hardShort n => Sys2Proof.Machine.execHardShort n s
  | .overvoltageTrip n => Sys2Proof.Machine.execOvervoltageTrip n s
  | .overloadTrip n => Sys2Proof.Machine.execOverloadTrip n s
  | .voltageTrip n => Sys2Proof.Machine.execVoltageTrip n s
  | .selfTestStart n => Sys2Proof.Machine.execSelfTestStart n s
  | .selfTestComplete n pass => Sys2Proof.Machine.execSelfTestComplete n pass s
  | .retryWaitEnd n => Sys2Proof.Machine.execRetryWaitEnd n s
  | .cleanPowerGood n => Sys2Proof.Machine.execCleanPowerGood n s
  | .rearm r n w => Sys2Proof.Machine.execRearm r n w s
  | .fbicapWrite r q w => Sys2Proof.Machine.execFbicapWrite r q w s
  | .srcTransitionExpire n => Sys2Proof.Machine.execSrcTransitionExpire n s
  | .rampEnd n => Sys2Proof.Machine.execRampEnd n s
  | .psRdySend n => Sys2Proof.Machine.execPsRdySend n s
  | .sourceCapabilitiesSend n => Sys2Proof.Machine.execSourceCapabilitiesSend n s
  | .request n rev req => Sys2Proof.Machine.execRequest n rev req s
  | .getSourceCap n => Sys2Proof.Machine.execGetSourceCap n s
  | .softReset n => Sys2Proof.Machine.execSoftReset n s
  | .prSwap n => Sys2Proof.Machine.execPrSwap n s
  | .vconnSwap n => Sys2Proof.Machine.execVconnSwap n s
  | .vconnSwapAccept n => Sys2Proof.Machine.execVconnSwapAccept n s
  | .getStatusPd n => Sys2Proof.Machine.execGetStatusPd n s
  | .unsupportedMessage n unstructuredVdm => Sys2Proof.Machine.execUnsupportedMessage n unstructuredVdm s
  | .sourceCapabilitiesReceived n => Sys2Proof.Machine.execSourceCapabilitiesReceived n s
  | .hardResetReceived n => Sys2Proof.Machine.execHardResetReceived n s
  | .psHardResetExpire n => Sys2Proof.Machine.execPsHardResetExpire n s
  | .srcRecoverExpire n => Sys2Proof.Machine.execSrcRecoverExpire n s
  | .senderResponseTimeout n => Sys2Proof.Machine.execSenderResponseTimeout n s
  | .sinkTxExpire n => Sys2Proof.Machine.execSinkTxExpire n s
  | .discoverIdentity n => Sys2Proof.Machine.execDiscoverIdentity n s
  | .discoverSvids n => Sys2Proof.Machine.execDiscoverSvids n s
  | .discoverModes n svid => Sys2Proof.Machine.execDiscoverModes n svid s
  | .enterMode n svid pos => Sys2Proof.Machine.execEnterMode n svid pos s
  | .exitMode n svid => Sys2Proof.Machine.execExitMode n svid s
  | .otherVdm n cmd => Sys2Proof.Machine.execOtherVdm n cmd s
  | .pdctlResend r n w => Sys2Proof.Machine.execPdctlResend r n w s
  | .pdctlHreset r n w => Sys2Proof.Machine.execPdctlHreset r n w s
  | .pdctlVcswap r n w => Sys2Proof.Machine.execPdctlVcswap r n w s
  | .pdctlSoppdisc r n w => Sys2Proof.Machine.execPdctlSoppdisc r n w s
  | .pdenWrite r n w => Sys2Proof.Machine.execPdenWrite r n w s
  | .altmuxKick r n w => Sys2Proof.Machine.execAltmuxKick r n w s
  | .vconnOvercurrent n => Sys2Proof.Machine.execVconnOvercurrent n s
  | .quadWarnEnter q => Sys2Proof.Machine.execQuadWarnEnter q s
  | .quadWarnExit q => Sys2Proof.Machine.execQuadWarnExit q s
  | .quadFailEnter q => Sys2Proof.Machine.execQuadFailEnter q s
  | .quadFailExit q => Sys2Proof.Machine.execQuadFailExit q s
  | .shedStart => Sys2Proof.Machine.execShedStart s
  | .failShedTimeout q => Sys2Proof.Machine.execFailShedTimeout q s
  | .poolWrite r w => Sys2Proof.Machine.execPoolWrite r w s
  | .qcapWrite r q w => Sys2Proof.Machine.execQcapWrite r q w s
  | .pcfgWrite r n w => Sys2Proof.Machine.execPcfgWrite r n w s
  | .readvExpire n => Sys2Proof.Machine.execReadvExpire n s
  | .pe0Rebuild => Sys2Proof.Machine.execPe0Rebuild s
  | .engineRestartComplete e => Sys2Proof.Machine.execEngineRestartComplete e s
  | .ssplitNonperiodic u j adr ep tok low crcOk => Sys2Proof.Machine.execSsplitNonperiodic u j adr ep tok low crcOk s
  | .csplitNonperiodic u j adr ep dirIn => Sys2Proof.Machine.execCsplitNonperiodic u j adr ep dirIn s
  | .ssplitPeriodic u i2 adr ep dirIn iso low behindHub tog bytes => Sys2Proof.Machine.execSsplitPeriodic u i2 adr ep dirIn iso low behindHub tog bytes s
  | .csplitPeriodic u j adr ep tok => Sys2Proof.Machine.execCsplitPeriodic u j adr ep tok s
  | .ttNonperiodicStart at_ => Sys2Proof.Machine.execTtNonperiodicStart at_ s
  | .ttTransactionComplete n d => Sys2Proof.Machine.execTtTransactionComplete n d s
  | .periodicReady n t => Sys2Proof.Machine.execPeriodicReady n t s
  | .ttrst r n w => Sys2Proof.Machine.execTtrst r n w s
  | .almclr r n w => Sys2Proof.Machine.execAlmclr r n w s
  | .almenWrite r n w => Sys2Proof.Machine.execAlmenWrite r n w s
  | .prefetchStart n k t => Sys2Proof.Machine.execPrefetchStart n k t s
  | .prefetchOutcome n k d => Sys2Proof.Machine.execPrefetchOutcome n k d s
  | .heldHandshakeExpire n k => Sys2Proof.Machine.execHeldHandshakeExpire n k s
  | .controlHoldTimeout n adr => Sys2Proof.Machine.execControlHoldTimeout n adr s
  | .meteorRearm n k => Sys2Proof.Machine.execMeteorRearm n k s
  | .ldsEnumStart n => Sys2Proof.Machine.execLdsEnumStart n s
  | .ldsConnectWaitEnd n => Sys2Proof.Machine.execLdsConnectWaitEnd n s
  | .ldsControlComplete n d => Sys2Proof.Machine.execLdsControlComplete n d s
  | .ldsRequestTimeout n => Sys2Proof.Machine.execLdsRequestTimeout n s
  | .ldsRecordDelayEnd n => Sys2Proof.Machine.execLdsRecordDelayEnd n s
  | .ldsHeartbeatPoll n behind => Sys2Proof.Machine.execLdsHeartbeatPoll n behind s
  | .ldsHeartbeatOutcome n d => Sys2Proof.Machine.execLdsHeartbeatOutcome n d s
  | .coalesceTimeout t => Sys2Proof.Machine.execCoalesceTimeout t s
  | .icuClaim r t => Sys2Proof.Machine.execIcuClaim r t s
  | .icuDone r t w => Sys2Proof.Machine.execIcuDone r t w s
  | .trst r t w => Sys2Proof.Machine.execTrst r t w s
  | .clrpend r j w => Sys2Proof.Machine.execClrpend r j w s
  | .swtrig r w => Sys2Proof.Machine.execSwtrig r w s
  | .srcCfgWrite r j w => Sys2Proof.Machine.execSrcCfgWrite r j w s
  | .tctlWrite r t w => Sys2Proof.Machine.execTctlWrite r t w s
  | .graceExpire b => Sys2Proof.Machine.execGraceExpire b s
  | .fltackAck r b w => Sys2Proof.Machine.execFltackAck r b w s
  | .sectorRestartComplete sect rep => Sys2Proof.Machine.execSectorRestartComplete sect rep s
  | .quietEnd b pass => Sys2Proof.Machine.execQuietEnd b pass s
  | .clrlatch r b w pass => Sys2Proof.Machine.execClrlatch r b w pass s
  | .recoveryWindowExpire b => Sys2Proof.Machine.execRecoveryWindowExpire b s
  | .quadOverpower q => Sys2Proof.Machine.execQuadOverpower q s
  | .fbiTrimLimit n => Sys2Proof.Machine.execFbiTrimLimit n s
  | .upstreamCrcErrors u => Sys2Proof.Machine.execUpstreamCrcErrors u s
  | .engineWatchdogMiss e => Sys2Proof.Machine.execEngineWatchdogMiss e s
  | .wardenTimerExpire => Sys2Proof.Machine.execWardenTimerExpire s
  | .faultNWidthEnd => Sys2Proof.Machine.execFaultNWidthEnd s
  | .clkNwOutOfRange => Sys2Proof.Machine.execClkNwOutOfRange s
  | .retentionParityError area => Sys2Proof.Machine.execRetentionParityError area s
  | .clkNwCalibrate => Sys2Proof.Machine.execClkNwCalibrate s
  | .idleTimerExpire => Sys2Proof.Machine.execIdleTimerExpire s
  | .sleepBlockAnswer => Sys2Proof.Machine.execSleepBlockAnswer s
  | .sleepAnswerTimeout => Sys2Proof.Machine.execSleepAnswerTimeout s
  | .fixedWakeEvent ev => Sys2Proof.Machine.execFixedWakeEvent ev s
  | .watchedSourceWake j => Sys2Proof.Machine.execWatchedSourceWake j s
  | .wakeNAssert => Sys2Proof.Machine.execWakeNAssert s
  | .i2cAddressMatch adr => Sys2Proof.Machine.execI2cAddressMatch adr s
  | .duskReturnComplete ms => Sys2Proof.Machine.execDuskReturnComplete ms s
  | .eclipseWake => Sys2Proof.Machine.execEclipseWake s
  | .supplyRestored x => Sys2Proof.Machine.execSupplyRestored x s
  | .upstreamVbusOvervoltage u => Sys2Proof.Machine.execUpstreamVbusOvervoltage u s
  | .energyCountTick q => Sys2Proof.Machine.execEnergyCountTick q s
  | .ldsEnumWaitEnd n => Sys2Proof.Machine.execLdsEnumWaitEnd n s
  | .pdMessageFailed n toCable => Sys2Proof.Machine.execPdMessageFailed n toCable s
  | .psRdyReceived n => Sys2Proof.Machine.execPsRdyReceived n s
  | .cableIdentityResponse n amps5 => Sys2Proof.Machine.execCableIdentityResponse n amps5 s

end Sys2Proof.Machine
end

