-- ==== Sys2Proof/Safety.lean ====
section
/-! DEFINITION. What counts as a well-kept state and what claims are said in: the canonical form of every map of the
state, the words for "this command completes with this effect", what a command leaves alone, and the shared words of
the statements. -/

namespace Sys2Proof.Machine

/-- The keys of a map rise strictly: each is listed once, at its place. -/
def KMap.rising {α : Type} (m : KMap α) : Prop := m.Pairwise (fun a b => a.1 < b.1)

/-- The flash in its canonical form (R79): addresses strictly rising, no entry equal to the erased byte 0xFF. -/
def Memory.wf (m : List Host.Cell) : Bool := KMap.wf 0xFF m

/-- What holds of every state that the block can be brought to from a state in which it holds: each register store
lists a field once, each map of hidden records is in its canonical form, the flash is in its canonical form, and
retention holds at most the 256 newest journal records (R91). -/
structure WellKept (s : State) : Prop where
  regs : KMap.rising s.regs
  shadow : KMap.rising s.shadow
  image : KMap.rising s.image
  copies : KMap.rising s.copies
  ports : KMap.wf PortX.reset s.ports = true
  ups : KMap.wf UpX.reset s.ups = true
  secs : KMap.wf SecX.reset s.secs = true
  quads : KMap.wf QuadX.reset s.quads = true
  faults : KMap.wf FaultX.reset s.faults = true
  mbx : KMap.wf MbxX.reset s.mbx = true
  icuTimer : KMap.wf none s.icuTimer = true
  fixedAt : KMap.wf 0 s.fixedAt = true
  flash : Memory.wf s.flash = true
  journal : s.retain.journal.length ≤ 256

/-- Command `c` completes at `s`: a next state is answered, and `P` holds of it. -/
def Completes (c : Sys2Proof.Instr) (s : State) (P : State → Prop) : Prop := ∃ t, exec c s = .next t ∧ P t

/-- A part of the state that a command can change or leave alone: a register field by its key, the hidden record of a
port, personality, sector, quad, fault block (by its index) or mailbox, and each other field of the state but the
queue of waiting commands. -/
inductive Part where
  | field (key : Nat) | port (n : Nat) | up (u : Nat) | sec (i : Nat) | quad (q : Nat) | flt (i : Nat) | mb (m : Nat)
  | shadow | image | copies | sw | boot | retain | rescue | sleep | upd | fuseGoal | fuses | phase | safe | stopped
  | missed | now | icuTimer | faultWidth | resetDue | low | vbusU | resetN | por | vioDue | strapDue | vbusHigh | idleAt | fixedAt | duskDue
  | lastSpi | lastI2c | heldI2c | edgeDue | poolTrig | shedDue | ldsSeq | ldsRan | ldsProfiles | pdTable | flash | freeCtr
  | outs
  deriving DecidableEq, Repr

/-- A part is the same in two states: a register field reads the same live, a record or field is equal. -/
def Part.same (s t : State) : Part → Prop
  | .field k => ∀ g : Field, g.key = k → t.rd g = s.rd g
  | .port n => t.port n = s.port n
  | .up u => t.up u = s.up u
  | .sec i => t.sec i = s.sec i
  | .quad q => t.quad q = s.quad q
  | .flt i => KMap.get FaultX.reset t.faults i = KMap.get FaultX.reset s.faults i
  | .mb m => t.mb m = s.mb m
  | .shadow => t.shadow = s.shadow
  | .image => t.image = s.image
  | .copies => t.copies = s.copies
  | .sw => t.sw = s.sw
  | .boot => t.boot = s.boot
  | .retain => t.retain = s.retain
  | .rescue => t.rescue = s.rescue
  | .sleep => t.sleep = s.sleep
  | .upd => t.upd = s.upd
  | .fuseGoal => t.fuseGoal = s.fuseGoal
  | .fuses => t.fuses = s.fuses
  | .phase => t.phase = s.phase
  | .safe => t.safe = s.safe
  | .stopped => t.stopped = s.stopped
  | .missed => t.missed = s.missed
  | .now => t.now = s.now
  | .icuTimer => t.icuTimer = s.icuTimer
  | .faultWidth => t.faultWidth = s.faultWidth
  | .resetDue => t.resetDue = s.resetDue
  | .low => t.low = s.low
  | .vbusU => t.vbusU = s.vbusU
  | .resetN => t.resetN = s.resetN
  | .por => t.por = s.por
  | .vioDue => t.vioDue = s.vioDue
  | .strapDue => t.strapDue = s.strapDue
  | .vbusHigh => t.vbusHigh = s.vbusHigh
  | .idleAt => t.idleAt = s.idleAt
  | .fixedAt => t.fixedAt = s.fixedAt
  | .duskDue => t.duskDue = s.duskDue
  | .lastSpi => t.lastSpi = s.lastSpi
  | .lastI2c => t.lastI2c = s.lastI2c
  | .heldI2c => t.heldI2c = s.heldI2c
  | .edgeDue => t.edgeDue = s.edgeDue
  | .poolTrig => t.poolTrig = s.poolTrig
  | .shedDue => t.shedDue = s.shedDue
  | .ldsSeq => t.ldsSeq = s.ldsSeq
  | .ldsRan => t.ldsRan = s.ldsRan
  | .ldsProfiles => t.ldsProfiles = s.ldsProfiles
  | .pdTable => t.pdTable = s.pdTable
  | .flash => t.flash = s.flash
  | .freeCtr => t.freeCtr = s.freeCtr
  | .outs => t.outs = s.outs

/-- Where a command may write: one part, a part for every index, the fields of a list for every index, a field of
every fault block, or a field at every pair of indices. -/
inductive Spot where
  | one (p : Part)
  | all (f : Nat → Part)
  | any (l : Nat → List Field)
  | blks (f : FBlk → Field)
  | tab (f : Nat → Nat → Field)

/-- The part belongs to the spot. -/
def Spot.has : Spot → Part → Prop
  | .one p, q => q = p
  | .all f, q => ∃ i, q = f i
  | .any l, q => ∃ i, ∃ f ∈ l i, q = .field f.key
  | .blks f, q => ∃ b, q = .field (f b).key
  | .tab f, q => ∃ i j, q = .field (f i j).key

/-- One register field. -/
def Spot.reg (f : Field) : Spot := .one (.field f.key)

/-- A register field at every index. -/
def Spot.regs (f : Nat → Field) : Spot := .all (fun i => .field (f i).key)

/-- From `s` to `t` nothing changes but the spots of a list: every other register field reads as before, every other
record and field of the state is as before. -/
def ChangesOnly (l : List Spot) (s t : State) : Prop := ∀ p : Part, (∀ x ∈ l, ¬ x.has p) → p.same s t

/-- A trip of port `n` with cause `c` of R326: charged once, shown, the gate off, the sense self-test due. -/
def Tripped (n c : Nat) (s t : State) : Prop :=
  t.rd (PRT.FUSSTS.TRIPS n) = min 8 (s.rd (PRT.FUSSTS.TRIPS n) + 1) ∧ t.rd (PRT.FUSSTS.CAUSE n) = c ∧
    t.rd (PRT.FUSEVT.TRIP n) = 1 ∧ t.rd (PRT.HUBSTS.OVERCUR n) = 1 ∧ t.rd (PRT.FUSSTS.PG n) = 0 ∧
    t.rd (PRT.FUSSTS.GATEON n) = 0 ∧ (t.port n).gate = false ∧ (t.port n).selfTest = .due

/-- Hub port `j` of personality `u`, Configured, is port `n`, and the personality owns it in state OWNED (R130, R255).
-/
def HubPortOf (u j n : Nat) (s : State) : Prop :=
  s.rd (UPS.STS.DEVSTATE u) = 4 ∧ s.hubPort u j = some n ∧ s.owns u n = true

/-- A device-level reset with a cause (R96, R97): boot begins at step 0x01, flash release first where the straps ask
for it (R52). -/
def RestartsBoot (cause : Nat) (s t : State) : Prop :=
  t.rd BOOT.RSTCAUSE.CAUSE = cause ∧ t.retain.cause = cause ∧ t.boot.step = 1 ∧
    t.rd SYS.STRAP.MODE = s.rd SYS.STRAP.MODE % 4 ∧
    t.phase = if s.rd SYS.STRAP.MODE % 4 = 2 then .flashRelease else .running

/-- A count goes up by one and stays at its largest value. -/
def CountsUp (f : Field) (s t : State) : Prop := t.rd f = min (2 ^ f.width - 1) (s.rd f + 1)

/-- Requester `r` can send, and a one-word write of `v` at byte address `a` meets no refusal: its code is E_OK (R9,
R113). -/
def Accepts (r : Requester) (a v : Nat) (s : State) : Prop :=
  s.canSend r = true ∧ a % 4 = 0 ∧ a < 0x1000000 ∧ s.fresh.writeCode s.fresh r (placeOf a) v = 0

/-- The last result that requester `r` can read is E_OK (R104, R106, R107); register records and the service engine
read none. -/
def ResultOk (r : Requester) (t : State) : Prop :=
  match r with
  | .pers u => (t.up u).lastSts = 0
  | .rescue => t.rescue.lastSts = 0
  | .spi => t.lastSpi = 0
  | .i2c => t.lastI2c = 0
  | .service => True
  | .records => True

/-- In Dusk or Eclipse, with no wake event recorded yet (R397). -/
def AsleepUnwoken (s : State) : Prop := (s.phase = .dusk ∨ s.phase = .eclipse) ∧ s.sleep.running = false ∧
    s.sleep.woken = false

/-- A wake event is recorded with its cause, source and detail, and the return begins (R396, R397). -/
def WokenBy (cause src detail : Nat) (s t : State) : Prop :=
  t.rd NW.WAKE.VALID = 1 ∧ t.rd NW.WAKE.CAUSE = cause ∧ t.rd NW.WAKE.SRC = src ∧ t.rd NW.WAKE.DETAIL = detail ∧
    t.rd NW.WAKE.FROM = (if s.phase = .dusk then 1 else 2) ∧ t.rd NW.STS.STATE = 3 ∧ t.sleep.woken = true

/-- The policy core of port `n`'s sector runs, with the sector link up, in Active. -/
def PolicyUp (n : Nat) (s : State) : Prop :=
  s.phase = .running ∧ s.runs (4 + secOf n) = true ∧ (s.sec (secOf n)).lost = false

/-- Port `n` is a source that may receive a message (R297): attached as source, PD enabled, its policy core up, no
hard reset and no power transition in progress. -/
def SourceReady (n : Nat) (s : State) : Prop :=
  PolicyUp n s ∧ s.rd (PRT.PDCTL.PDEN n) = 1 ∧ s.tc n = 6 ∧ (s.port n).hr = .none ∧ (s.port n).accepted = none

/-- A word `v` written at native address `a` changes no stored field: it only gives commands (R31). -/
def OnlyPulses (a v : Nat) (s : State) : Prop := ∀ f ∈ wordFields a, f.writable = true → inWord v f = s.rd f

/-- A command that is one write by a requester: who writes, the address, the word (R114). -/
def writeOf (c : Sys2Proof.Instr) : Option (Requester × Nat × Nat) :=
  match c with
  | .rescueRstreq r w => some (r, 0x1010, w.toNat)
  | .failclr r w => some (r, 0x1008, w.toNat)
  | .updcmdOpen r slot => some (r, 0x1020, 1 + 8 * slot.toNat)
  | .updcmdErase r => some (r, 0x1020, 2)
  | .updcmdProgram r => some (r, 0x1020, 3)
  | .updcmdVerify r => some (r, 0x1020, 4)
  | .updcmdCommit r => some (r, 0x1020, 5)
  | .updcmdAbort r => some (r, 0x1020, 6)
  | .rbctrWrite r w => some (r, 0x1030, w.toNat)
  | .resetreq r w => some (r, 0x24, w.toNat)
  | .registerWrite r addr w => some (r, addr.toNat, w.toNat)
  | .bitAliasWrite r addr w => some (r, 0x400000 + addr.toNat % 0x400000, w.toNat)
  | .mbxSelWrite r m w => some (r, 0x8000 + 0x20 * m, w.toNat)
  | .mbxGo r m w => some (r, 0x8004 + 0x20 * m, withBit w.toNat 0 true)
  | .mbxPartWrite r m w => some (r, 0x8004 + 0x20 * m, withBit w.toNat 0 false)
  | .personalityEnWrite r u w => some (r, 0xC000 + 0x400 * u, w.toNat)
  | .rgnWrite r d w => some (r, 0xA400 + 4 * d, w.toNat)
  | .ownerGo r n w => some (r, 0x1000C + 0x400 * n, withBit w.toNat 11 true)
  | .prstrt r n w => some (r, 0x10008 + 0x400 * n, withBit w.toNat 0 true)
  | .oosWrite r n w => some (r, 0x10008 + 0x400 * n, w.toNat)
  | .rearm r n w => some (r, 0x10040 + 0x400 * n, withBit w.toNat 29 true)
  | .fbicapWrite r q w => some (r, 0xE020 + 0x200 * q, w.toNat)
  | .pdctlResend r n w => some (r, 0x10024 + 0x400 * n, withBit w.toNat 16 true)
  | .pdctlHreset r n w => some (r, 0x10024 + 0x400 * n, withBit w.toNat 17 true)
  | .pdctlVcswap r n w => some (r, 0x10024 + 0x400 * n, withBit w.toNat 18 true)
  | .pdctlSoppdisc r n w => some (r, 0x10024 + 0x400 * n, withBit w.toNat 19 true)
  | .pdenWrite r n w => some (r, 0x10024 + 0x400 * n, w.toNat)
  | .altmuxKick r n w => some (r, 0x1002C + 0x400 * n, withBit w.toNat 1 true)
  | .poolWrite r w => some (r, 0x9004, w.toNat)
  | .qcapWrite r q w => some (r, 0x9040 + 4 * q, w.toNat)
  | .pcfgWrite r n w => some (r, 0x9200 + 4 * n, w.toNat)
  | .ttrst r n w => some (r, 0x10060 + 0x400 * n, withBit w.toNat 2 true)
  | .almclr r n w => some (r, 0x10060 + 0x400 * n, withBit w.toNat 1 true)
  | .almenWrite r n w => some (r, 0x10060 + 0x400 * n, w.toNat)
  | .icuDone r t w => some (r, 0x5004 + 0x40 * t, w.toNat)
  | .trst r t w => some (r, 0x5008 + 0x40 * t, withBit w.toNat 8 true)
  | .clrpend r i w => some (r, 0x4004 + 8 * i, withBit w.toNat 4 true)
  | .swtrig r w => some (r, 0x5800, withBit w.toNat 0 true)
  | .srcCfgWrite r i w => some (r, 0x4000 + 8 * i, w.toNat)
  | .tctlWrite r t w => some (r, 0x5008 + 0x40 * t, w.toNat)
  | .fltackAck r b w => some (r, ((FBlk.ofIdx b).base + 12), withBit w.toNat 0 true)
  | .clrlatch r b w _ => some (r, ((FBlk.ofIdx b).base + 12), withBit w.toNat 1 true)
  | _ => none

/-- The result of requester `r`'s last frame or request is code `c` (R104, R106, R107); register records and the
service engine read none. -/
def ResultIs (r : Requester) (c : Nat) (t : State) : Prop :=
  match r with
  | .pers u => (t.up u).lastSts = c
  | .rescue => t.rescue.lastSts = c
  | .spi => t.lastSpi = c
  | .i2c => t.lastI2c = c
  | .service => True
  | .records => True

/-- What a frame by requester `r` that is refused may change: what it answers, its result, the idle timer that every
SPI or I2C frame restarts (R391), and SYS.LASTERR (R114). -/
def rejectSpots (r : Requester) : List Spot :=
  [.one .outs, .reg SYS.LASTERR.CODE, .reg SYS.LASTERR.REQ] ++
    (match r with
     | .pers u => [.one (.up u)]
     | .rescue => [.one .rescue]
     | .spi => [.one .lastSpi, .one .idleAt]
     | .i2c => [.one .lastI2c, .one .idleAt]
     | .service => []
     | .records => [])

/-- A frame by requester `r` completes with code `c`: its result and SYS.LASTERR take the code, and beside the spots
of `l` nothing is read or written (R114). -/
def Rejects (r : Requester) (c : Nat) (l : List Spot) (s t : State) : Prop :=
  ResultIs r c t ∧ t.rd SYS.LASTERR.CODE = c ∧ t.rd SYS.LASTERR.REQ = r.code ∧ ChangesOnly (rejectSpots r ++ l) s t

/-- The code of R110 for an address and a count of words: E_PART where A[1:0] is not 0, E_RANGE where the last word
lies above 0xFFFFFC. -/
def BadFrame (a k c : Nat) : Prop := (a % 4 ≠ 0 ∧ c = 5) ∨ (a % 4 = 0 ∧ 1 ≤ k ∧ 0xFFFFFC < a + 4 * (k - 1) ∧ c = 4)

/-- The handshake ends as a wake during entry (R395, R397): ABORT.BLOCK 18, Active again, NW.WAKE as it was. -/
def EndsEntry (s t : State) : Prop :=
  t.rd NW.ABORT.BLOCK = 18 ∧ t.rd NW.STS.STATE = 0 ∧ t.sleep.running = false ∧ t.phase = s.phase ∧
    t.rd NW.WAKE.VALID = s.rd NW.WAKE.VALID ∧ t.rd NW.WAKE.CAUSE = s.rd NW.WAKE.CAUSE ∧ t.rd NW.WAKE.SRC = s.rd
        NW.WAKE.SRC ∧
    t.rd NW.WAKE.DETAIL = s.rd NW.WAKE.DETAIL ∧ t.rd NW.WAKE.FROM = s.rd NW.WAKE.FROM

/-- `k` steps of the block. -/
def steps : Nat → State → State
  | 0, s => s
  | k + 1, s => match step s with
    | .next t => steps k t
    | .fault _ => s
    | .refused _ => s

/-! ## Where commands may write -/

/-- One register field of each of a list, at index `n`. -/
def Spot.at (fs : List (Nat → Field)) (n : Nat) : List Spot := fs.map (fun f => Spot.reg (f n))

/-- The fields of a list, at every index. -/
def Spot.each (fs : List (Nat → Field)) : List Spot := fs.map Spot.regs

/-- HUBSTS fields that follow a port's hub state (R161, R170). -/
def hubFields : List (Nat → Field) := [PRT.HUBSTS.STATE, PRT.HUBSTS.ENABLE, PRT.HUBSTS.SUSPEND, PRT.HUBSTS.RESET,
    PRT.HUBSTS.TEST]

/-- HUBCHG of a port (R142). -/
def chgFields : List (Nat → Field) := [PRT.HUBCHG.C_CONNECTION, PRT.HUBCHG.C_ENABLE, PRT.HUBCHG.C_SUSPEND,
    PRT.HUBCHG.C_OVERCUR, PRT.HUBCHG.C_RESET]

/-- The Roster summary of a port (R282, R288). -/
def rosterFields : List (Nat → Field) := [LDS.RSUM.STATE, LDS.RSUM.RESULT, LDS.RSUM.PROFILE, LDS.RSUM.IDVALID,
    LDS.RSUM.HBUSED]

/-- What a port's loss of demand or of its partner may write in its registers (R154 to R157). -/
def downFields : List (Nat → Field) :=
  [PRT.ALTMUX.ACTIVE, PRT.ALTMUX.QBUSY, PRT.ALTMUX.QHOLD, PRT.FUSEVT.PGOFF, PRT.FUSSTS.FOLD, PRT.FUSSTS.GATEON,
      PRT.FUSSTS.LIMIT, PRT.FUSSTS.PG, PRT.HUBSTS.CONNECTION, PRT.HUBSTS.HIGHSPD, PRT.HUBSTS.LOWSPD,
      PRT.MTRCNT.DATAHIT, PRT.MTRCNT.NAKHIT, PRT.MTRSTS.STRANDED, PRT.MTRSTS.WITHDRAWN, PRT.PDSTS.ALTMODE,
      PRT.PDSTS.EVT, PRT.PDSTS.EXPLICIT, PRT.PDSTS.OBJPOS, PRT.PDSTS.OPCURR, PRT.PDSTS.PWRROLE, PRT.PDSTS.VCSRC,
      PRT.PDSTS.VSEL, PRT.QSTS.STOPPED, PRT.TCEVT.WETOUT, PRT.TCSTS.MOISTOK, PRT.TCSTS.ORIENT, PRT.TCSTS.TCSTATE,
      PRT.TCSTS.WET, PRT.TCSTS.WETGND, PRT.TCSTS.WETPIN, PRT.TCSTS.WETVBUS, PRT.VCONN.ON, PWR.PALLOW.SHED,
      PWR.PALLOW.WAIT, PWR.PBOOK.COMMIT, PWR.PBOOK.CONTRACT]

/-- EP0 of a personality (R140, R144): the answer, its hidden record, and an aborted transfer's traces. -/
def ep0Spots (u : Nat) : List Spot := [.one .outs, .one (.up u), .reg (UPS.CNT0.ABORTCNT u), .reg (UPS.EVT.CTLABORT u),
    .reg (UPS.STS.STAGED u)]

/-- Packets that leave the switch (R237 to R244). -/
def poolSpots : List Spot := [.one .edgeDue, .one .outs, .one .sw, .reg PKM.FENCE.FALLBACK, .reg PKM.FREESTS.WAS, .reg
    PKM.GCNT0.FREE, .reg PKM.GCNT0.QUEUED, .reg PKM.GCNT1.INFLIGHT, .reg PKM.GCNT2.POOLFREE, .regs PKM.IQPTR.RPTR]

/-- The sums of the power books (R341). -/
def bookSpots : List Spot := [.regs PWR.QBOOK.COMMIT, .regs PWR.QBOOK.CONTRACT, .reg PWR.TOTCOM.COMMIT, .reg
    PWR.TOTCON.CONTRACT]

/-- A wake event or the end of the handshake (R396, R397). -/
def wakeSpots : List Spot := [.one .edgeDue, .one .idleAt, .one .outs, .one .sleep, .reg NW.ABORT.BLOCK, .reg
    NW.ABORT.COUNT, .reg NW.ABORT.TARGET, .reg NW.ABORT.TMO, .reg NW.STS.STATE, .reg NW.WAKE.CAUSE, .reg
    NW.WAKE.DETAIL, .reg NW.WAKE.FROM, .reg NW.WAKE.SRC, .reg NW.WAKE.VALID]

/-- A PD message that the policy core of port `n` takes up (R297, R340). -/
def pdSpots (n : Nat) : List Spot := [.one .copies, .one .edgeDue, .one .outs, .all .port, .one .sw, .reg
    LDS.CHG0.P00_P31, .reg LDS.CHG1.P32_P47, .reg (LDS.RSUM.HBUSED n), .reg (LDS.RSUM.IDVALID n), .reg
    (LDS.RSUM.PROFILE n), .reg (LDS.RSUM.RESULT n), .reg (LDS.RSUM.STATE n), .reg PKM.FENCE.FALLBACK, .reg
    PKM.FREESTS.WAS, .reg PKM.GCNT0.FREE, .reg PKM.GCNT0.QUEUED, .reg PKM.GCNT1.INFLIGHT, .reg PKM.GCNT2.POOLFREE,
    .regs PKM.IQPTR.RPTR, .reg (PRT.ALTMUX.ACTIVE n), .reg (PRT.ALTMUX.NAKCNT n), .regs PRT.ALTMUX.QBUSY, .regs
    PRT.ALTMUX.QHOLD, .reg (PRT.IBUSMEAS.ISET n), .reg (PRT.OWNER.OWN n), .reg (PRT.OWNER.STATE n), .reg
    (PRT.PDCNT.HRRCVD n), .reg (PRT.PDCNT.HRSENT n), .reg (PRT.PDCNT.REJECTS n), .reg (PRT.PDSTS.ALTMODE n), .reg
    (PRT.PDSTS.CABLE n), .reg (PRT.PDSTS.EVT n), .reg (PRT.PDSTS.EXPLICIT n), .reg (PRT.PDSTS.OBJPOS n), .reg
    (PRT.PDSTS.OPCURR n), .reg (PRT.PDSTS.REV n), .reg (PRT.PDSTS.VCSRC n), .reg (PRT.PDSTS.VSEL n), .reg
    (PRT.TCSTS.RPADV n), .reg (PRT.VCONN.ON n), .reg (PRT.VCONN.PIN n), .reg (PRT.VCONN.SWAPCNT n), .reg
    PWR.CNT.REJECTS, .reg (PWR.PBOOK.COMMIT n), .reg (PWR.PBOOK.CONTRACT n), .regs PWR.QBOOK.COMMIT, .regs
    PWR.QBOOK.CONTRACT, .reg PWR.TOTCOM.COMMIT, .reg PWR.TOTCON.CONTRACT, .regs SWX.CNTA.STALE]

/-- What a committed PDCTL word of port `n` does (R299 to R305, R318): up to an error recovery. -/
def pdctlSpots (n : Nat) : List Spot :=
  [poolSpots, Spot.at hubFields n, Spot.at chgFields n, Spot.at rosterFields n, bookSpots, [.one .copies, .one
      .freeCtr, .all .port, .all .up, .reg LDS.CHG0.P00_P31, .reg LDS.CHG1.P32_P47, .reg (PRT.ALTMUX.ACTIVE n), .regs
      PRT.ALTMUX.QBUSY, .regs PRT.ALTMUX.QHOLD, .reg (PRT.FUSEVT.PGOFF n), .reg (PRT.FUSSTS.FOLD n), .reg
      (PRT.FUSSTS.GATEON n), .reg (PRT.FUSSTS.LIMIT n), .reg (PRT.FUSSTS.PG n), .reg (PRT.HUBSTS.CONNECTION n), .reg
      (PRT.HUBSTS.HIGHSPD n), .reg (PRT.HUBSTS.LOWSPD n), .reg (PRT.IBUSMEAS.ISET n), .reg (PRT.MTRCNT.DATAHIT n), .reg
      (PRT.MTRCNT.NAKHIT n), .reg (PRT.MTRSTS.STRANDED n), .reg (PRT.MTRSTS.WITHDRAWN n), .reg (PRT.OWNER.OWN n), .reg
      (PRT.OWNER.STATE n), .reg (PRT.PDCNT.HRRCVD n), .reg (PRT.PDCNT.HRSENT n), .reg (PRT.PDSTS.ALTMODE n), .reg
      (PRT.PDSTS.EVT n), .reg (PRT.PDSTS.EXPLICIT n), .reg (PRT.PDSTS.OBJPOS n), .reg (PRT.PDSTS.OPCURR n), .reg
      (PRT.PDSTS.PWRROLE n), .reg (PRT.PDSTS.VCSRC n), .reg (PRT.PDSTS.VSEL n), .reg (PRT.QSTS.STOPPED n), .reg
      (PRT.TCEVT.ERRREC n), .reg (PRT.TCEVT.WETOUT n), .reg (PRT.TCSTS.MOISTOK n), .reg (PRT.TCSTS.ORIENT n), .reg
      (PRT.TCSTS.RPADV n), .reg (PRT.TCSTS.TCSTATE n), .reg (PRT.TCSTS.WET n), .reg (PRT.TCSTS.WETGND n), .reg
      (PRT.TCSTS.WETPIN n), .reg (PRT.TCSTS.WETVBUS n), .reg (PRT.VCONN.ON n), .reg (PWR.PALLOW.SHED n), .reg
      (PWR.PALLOW.WAIT n), .reg (PWR.PBOOK.COMMIT n), .reg (PWR.PBOOK.CONTRACT n), .regs SWX.CNTA.STALE, .regs
      SWX.CNTB.RLYWD]].flatten

/-- What a one-word write by requester `r` at address `a` may change before its word's own effect: the word's fields,
the copies of a voted field, the words that wait in Dusk, and what a refusal may change (R31, R114, R119, R390). -/
def writeSpots (r : Requester) (a : Nat) : List Spot :=
  rejectSpots r ++ [.reg SYS.OFFCNT.COUNT, .one .copies, .one .duskDue] ++ (wordFields a).map Spot.reg

/-- Fields of a quad that a sector restart returns to image values (R96). -/
def quadImage (q : Nat) : List Field := 
  [0x0, 0x4, 0x8, 0xC, 0x10, 0x14, 0x18, 0x1C, 0x20, 0x24].flatMap (QD.fields q)

/-- Fields of a sector that a sector restart returns to image values (R96). -/
def secImage (i : Nat) : List Field := [0x0, 0x4, 0x8, 0xC, 0x10].flatMap (SEC.fields i)

/-- What recording a fault may write, its action included (R376 to R384): the fault registers, interrupts, the
journal, and whatever the restart of a sector or the safe state writes. -/
def faultSpots : List Spot :=
  [poolSpots, Spot.each downFields, Spot.each hubFields, Spot.each chgFields, Spot.each rosterFields, bookSpots, [.one
      .boot, .one .copies, .one .faultWidth, .one .flash, .all .flt, .one .freeCtr, .one .icuTimer, .any
      portImageFields, .any quadImage, .any secImage, .all .mb, .all .port, .all .quad, .one .retain, .one .safe, .all
      .sec, .one .stopped, .all .up, .one .upd, .reg BOOT.JSEQ.JSEQ, .reg BOOT.UPDSTS.BUSY, .reg BOOT.UPDSTS.OWNER,
      .reg BOOT.UPDSTS.SESSION, .blks FLT.FLTFIRST.MER, .blks FLT.FLTFIRST.SEV, .blks FLT.FLTFIRST.SRC, .blks
      FLT.FLTFIRST.VALID, .blks FLT.FLTSTS.SRC, .blks FLT.FLTTIMERS.STATE, .blks FLT.RECOV.COUNT, .blks
      FLT.RECOV.EVCNT, .blks FLT.RECOV.LASTING, .blks FLT.RECOV.LATCHED, .blks FLT.RECOV.WINDOW, .regs
      ICU.SRC_STS.INSVC, .regs ICU.SRC_STS.LOST, .regs ICU.SRC_STS.LOSTCNT, .regs ICU.SRC_STS.PEND, .regs
      ICU.TSTAT.HELD, .regs ICU.TSTAT.INSVC, .regs ICU.TSTAT.LINE, .regs ICU.TSTAT.ORDERR, .reg LDS.CHG0.P00_P31, .reg
      LDS.CHG1.P32_P47, .reg MBX.BULK.HELD, .reg MBX.BULK.HOLDER, .regs MBX.CTRL.BUSY, .regs MBX.CTRL.VALID, .regs
      PKM.IQPTR.WPTR, .regs PRT.FUSSTS.FTFILL, .regs PRT.HUBSTS.OVERCUR, .regs PRT.HUBSTS.POWER, .regs PRT.OWNER.OWN,
      .regs PRT.OWNER.STATE, .regs PRT.TCEVT.OOS, .regs PRT.TCSTS.OOS, .regs PRT.TCSTS.RPADV, .regs SEC.EVT.EVENTS,
      .regs SEC.STS.PCRUN, .regs SEC.STS.PRESENT, .regs SEC.STS.SERUN, .regs SEC.STS.VCONNOK, .regs SWX.CNTA.STALE,
      .regs SWX.CNTB.RLYWD, .reg SYS.FAULTPIN.FORCE, .reg SYS.FAULTPIN.PIN, .regs UPS.CNT0.ABORTCNT, .regs
      UPS.EVT.CTLABORT, .regs UPS.STS.ADDR, .regs UPS.STS.ALTSET, .regs UPS.STS.DEVSTATE, .regs UPS.STS.HS, .regs
      UPS.STS.PULLUP, .regs UPS.STS.RWAKEEN, .regs UPS.STS.STAGED, .regs UPS.STS.SUSP]].flatten

/-- What a trip of port `n` may write (R327), but for the event bit of its cause. -/
def tripSpots (n : Nat) : List Spot :=
  [poolSpots, Spot.at hubFields n, Spot.at chgFields n, Spot.at rosterFields n, bookSpots, [.one .freeCtr, .all .port,
      .all .up, .reg LDS.CHG0.P00_P31, .reg LDS.CHG1.P32_P47, .reg (PRT.ALTMUX.ACTIVE n), .regs PRT.ALTMUX.QBUSY, .regs
      PRT.ALTMUX.QHOLD, .reg (PRT.FUSEVT.PGOFF n), .reg (PRT.FUSEVT.TRIP n), .reg (PRT.FUSEVT.TRIPCNT n), .reg
      (PRT.FUSSTS.CAUSE n), .reg (PRT.FUSSTS.FOLD n), .reg (PRT.FUSSTS.FTFILL n), .reg (PRT.FUSSTS.GATEON n), .reg
      (PRT.FUSSTS.LIMIT n), .reg (PRT.FUSSTS.PG n), .reg (PRT.FUSSTS.TRIPS n), .reg (PRT.HUBSTS.CONNECTION n), .reg
      (PRT.HUBSTS.HIGHSPD n), .reg (PRT.HUBSTS.LOWSPD n), .reg (PRT.HUBSTS.OVERCUR n), .reg (PRT.MTRCNT.DATAHIT n),
      .reg (PRT.MTRCNT.NAKHIT n), .reg (PRT.MTRSTS.STRANDED n), .reg (PRT.MTRSTS.WITHDRAWN n), .reg (PRT.PDSTS.ALTMODE
      n), .reg (PRT.PDSTS.EVT n), .reg (PRT.PDSTS.EXPLICIT n), .reg (PRT.PDSTS.OBJPOS n), .reg (PRT.PDSTS.OPCURR n),
      .reg (PRT.PDSTS.VCSRC n), .reg (PRT.PDSTS.VSEL n), .reg (PRT.QSTS.STOPPED n), .reg (PRT.TCSTS.RPADV n), .reg
      (PRT.TCSTS.TCSTATE n), .reg (PRT.VCONN.ON n), .reg (PWR.PALLOW.WAIT n), .reg (PWR.PBOOK.COMMIT n), .reg
      (PWR.PBOOK.CONTRACT n), .regs SWX.CNTA.STALE, .regs SWX.CNTB.RLYWD]].flatten

/-- Of the command's next state nothing differs but the spots of the lists. -/
def Frame (c : Sys2Proof.Instr) (l : List (List Spot)) : Prop := ∀ s t, exec c s = .next t → ChangesOnly l.flatten s t

end Sys2Proof.Machine
end

