-- ==== Sys2Proof/Certificates/Slice0/Obligations.lean ====
section
/-! DEFINITION. The statements for the provers: whole-machine rules, register interface, completion of every command by
family, and frames. -/

open Sys2Proof Sys2Proof.Machine

/-- A step of a state with command c at the front of its queue is the meaning of c on the state with the rest of the
queue; with nothing waiting the block idles, which is the model's choice (DESIGN CHOICE, log entry 2). -/
def Obligations.StepRunsFrontCommand : Prop := ∀ (c : Instr) (rest : List Instr) (s : State),
  (step { s with pending := c :: rest } = exec c { s with pending := rest }) ∧
  (step { s with pending := [] } = .next { s with pending := [] })

/-- Every command takes a next state in every state, never a fault or a refusal, and leaves the queue of waiting
commands as it is. -/
def Obligations.CommandsAnswerAndKeepTheQueue : Prop := ∀ (c : Instr) (s : State),
  ∃ t, exec c s = .next t ∧ t.pending = s.pending

/-- From every state, after k steps exactly the first k waiting commands have been taken, each run on the state that
the ones before it left, until none waits (the queue is the model's own, log entry 2). -/
def Obligations.QueueDrainsInOrder : Prop := ∀ (s : State),
  (∀ k ≤ s.pending.length, (steps k s).pending = s.pending.drop k) ∧
  (∀ k c, s.pending[k]? = some c → exec c { steps k s with pending := s.pending.drop (k + 1) } = .next (steps (k + 1)
      s))

/-- From every well-kept state a step leaves a well-kept state: each register field is listed once, each map of
records and the flash are in canonical form, and retention holds at most 256 journal records (R79, R91). -/
def Obligations.StepsKeepStatesWellKept : Prop := ∀ (s : State) (t : State),
  WellKept s → step s = .next t → WellKept t

/-- After a power-on reset every register field holds its reset value, live and published, boot is at step 0x01, no
engine runs, no port is armed or owned, ILIM is 3.85 A and RETRY 3, the five granule counts sum to 32,768, and the
state is well kept (R34, R87, R324, R332). -/
def Obligations.ResetStateHolds : Prop :=
  (WellKept State.reset) ∧
  (State.reset.pending = []) ∧
  (∀ f : Field, State.reset.rd f = f.reset ∧ State.reset.rdPub f = f.reset) ∧
  (State.reset.boot.step = 1 ∧ State.reset.phase = .running ∧ State.reset.safe = false) ∧
  (∀ n, State.reset.port n = PortX.reset ∧ State.reset.rd (PRT.OWNER.OWN n) = 7 ∧ State.reset.rd (PRT.FUSCFG.ILIM n)
      = 385 ∧ State.reset.rd (PRT.FUSCFG.RETRY n) = 3 ∧ State.reset.rd (PRT.HUBSTS.STATE n) = 0) ∧
  (∀ e < 11, State.reset.runs e = false) ∧
  (State.reset.rd PKM.GCNT0.FREE + State.reset.rd PKM.GCNT0.QUEUED + State.reset.rd PKM.GCNT1.INFLIGHT +
      State.reset.rd PKM.GCNT1.FENCED + State.reset.rd PKM.GCNT1.RETIRED = 32768)

/-- The fused anti-rollback counter never falls, and rises by one at the end of a blow alone; RESET_N, the supplies
and the upstream VBUS levels change by their own events alone (R49, R60, R101, R138). -/
def Obligations.FusesAndPinsFollowTheirCommands : Prop := ∀ (c : Instr) (s : State) (t : State), exec c s = .next t →
  (s.fuses ≤ t.fuses ∧ t.fuses ≤ s.fuses + 1) ∧
  (t.fuses ≠ s.fuses → c = .fuseBlowComplete) ∧
  (t.resetN ≠ s.resetN → c = .resetNAssert ∨ ∃ x, c = .resetNRelease x) ∧
  (t.low ≠ s.low → ∃ x, c = .supplyLow x ∨ c = .supplyRestored x) ∧
  (t.vbusU ≠ s.vbusU → ∃ u b, c = .upstreamVbusChange u b) ∧
  (t.vbusHigh ≠ s.vbusHigh → ∃ u, c = .upstreamVbusOvervoltage u ∨ ∃ b, c = .upstreamVbusChange u b)

/-- Of the commands that are one write by a requester, each that meets a refusal completes with that code as its
result and in SYS.LASTERR with the requester's code, and nothing else changes but the count of frames that met an off
block (R110, R113, R114, R120). -/
def Obligations.RefusedWritesStoreNothing : Prop := ∀ (c : Instr) (r : Requester) (a : Nat) (v : Nat) (s : State),
    writeOf c = some (r, a, v) → s.canSend r = true →
  (if a % 4 = 0 then s.fresh.writeCode s.fresh r (placeOf a) v else 5) ≠ 0 → Completes c s (fun t => Rejects r (if a
      % 4 = 0 then s.fresh.writeCode s.fresh r (placeOf a) v else 5) [.reg SYS.OFFCNT.COUNT] s t)

/-- While SYS.LOCK.ALL or the block's own LOCK is set, a write that would change an RWL or TRV field of the block and
meets no earlier check of R113 is refused with E_LOCK, and nothing is stored (R113, R114, R118). -/
def Obligations.FrozenFieldsStand : Prop := ∀ (r : Requester) (addr : BitVec 24) (w : Word) (b : Blk) (o : Nat) (f :
    Field) (s : State), s.phase = .running → s.canSend r = true → addr.toNat % 4 = 0 → addr.toNat < 0x400000 →
  s.inReach r (.word addr.toNat none) true = true → s.isOff addr.toNat = false → readOnlyWord addr.toNat = false →
      blockOf addr.toNat = some (b, o) → s.frozen b = true → f ∈ wordFields addr.toNat → (f.acc = .rwl ∨ f.acc =
      .trv) → inWord w.toNat f ≠ s.rd f → 8 ∉ s.judgeBlock s.fresh r addr.toNat w.toNat → Completes (.registerWrite r
      addr w) s (fun t => Rejects r 3 [] s t)

/-- Every frame and vendor request is made of whole 32-bit words; one whose address has A[1:0] not 0 completes with
E_PART, one whose last word would lie above 0xFFFFFC with E_RANGE, on SPI, I2C and EP0 alike, and nothing is read or
written (R110). -/
def Obligations.UnalignedAndOverlongFramesDoNothing : Prop := ∀ (bs : List Byte) (adr : BitVec 7) (k : Nat) (c : Nat)
    (r : Requester) (addr : BitVec 24) (w : Word) (u : Fin 5) (v : BitVec 16) (i : BitVec 16) (len : BitVec 16)
    (status : Bool) (s : State),
  (s.mgmtUp = true → fieldAt bs 0 1 = 0xA2 → 5 + 4 * (fieldAt bs 4 1 + 1) + (if s.crcOn false then 1 else 0) ≤
      bs.length → (s.crcOn false = true → fieldAt bs (5 + 4 * (fieldAt bs 4 1 + 1)) 1 = crc8 (bs.take (5 + 4 *
      (fieldAt bs 4 1 + 1)))) → BadFrame (fieldAt bs 1 1 * 0x10000 + fieldAt bs 2 1 * 0x100 + fieldAt bs 3 1)
      (fieldAt bs 4 1 + 1) c → Completes (.spiWrite bs) s (fun t => Rejects .spi c [] s t)) ∧
  (adr.toNat = s.i2cAddr → (s.phase = .running ∨ s.on NW.CTL.I2CWAKE = false) → s.mgmtUp = true → fieldAt bs 0 1 =
      0xA2 → 5 + 4 * (fieldAt bs 4 1 + 1) + (if s.crcOn true then 1 else 0) ≤ bs.length → (s.crcOn true = true →
      fieldAt bs (5 + 4 * (fieldAt bs 4 1 + 1)) 1 = crc8 (bs.take (5 + 4 * (fieldAt bs 4 1 + 1)))) → BadFrame
      (fieldAt bs 1 1 * 0x10000 + fieldAt bs 2 1 * 0x100 + fieldAt bs 3 1) (fieldAt bs 4 1 + 1) c → Completes
      (.i2cWrite adr bs) s (fun t => Rejects .i2c c [] s t)) ∧
  (s.mgmtUp = true → fieldAt bs 0 1 = 0xA1 → (if s.crcOn false then 6 else 5) ≤ bs.length → (s.crcOn false = true →
      fieldAt bs (5) 1 = crc8 (bs.take (5))) → 4 * (fieldAt bs 4 1 + 1) + (if s.crcOn false then 1 else 0) < k →
      BadFrame (fieldAt bs 1 1 * 0x10000 + fieldAt bs 2 1 * 0x100 + fieldAt bs 3 1) (fieldAt bs 4 1 + 1) c →
      Completes (.spiRead bs k) s (fun t => Rejects .spi c [] s t)) ∧
  (adr.toNat = s.i2cAddr → (s.phase = .running ∨ s.on NW.CTL.I2CWAKE = false) → s.mgmtUp = true → fieldAt bs 0 1 =
      0xA1 → (if s.crcOn true then 6 else 5) ≤ bs.length → (s.crcOn true = true → fieldAt bs (5) 1 = crc8 (bs.take
      (5))) → 4 * (fieldAt bs 4 1 + 1) + (if s.crcOn true then 1 else 0) < k → BadFrame (fieldAt bs 1 1 * 0x10000 +
      fieldAt bs 2 1 * 0x100 + fieldAt bs 3 1) (fieldAt bs 4 1 + 1) c → Completes (.i2cRead adr bs k) s (fun t =>
      Rejects .i2c c [] s t)) ∧
  (s.vendorSeen u = true → s.canSend (vendorOf u) = true → i.toNat < 256 → 4 ≤ len.toNat → len.toNat ≤ 1024 →
      len.toNat % 4 = 0 → BadFrame (i.toNat % 256 * 0x10000 + v.toNat) (len.toNat / 4) c → Completes (.vendorRead u
      0xC0 v i len status) s (fun t => Rejects (vendorOf u) c [.one (.up u), .one .rescue, .reg (UPS.CNT0.ABORTCNT
      u), .reg (UPS.EVT.CTLABORT u), .reg (UPS.STS.STAGED u)] s t ∧ Out.usb u .stall ∈ t.outs)) ∧
  (s.vendorSeen u = true → s.canSend (vendorOf u) = true → i.toNat < 256 → 4 ≤ len.toNat → len.toNat ≤ 1024 →
      len.toNat % 4 = 0 → BadFrame (i.toNat % 256 * 0x10000 + v.toNat) (len.toNat / 4) c → bs.length = len.toNat →
      Completes (.vendorWrite u 0x40 v i len bs true) s (fun t => Rejects (vendorOf u) c [.one (.up u), .one .rescue,
      .reg (UPS.CNT0.ABORTCNT u), .reg (UPS.EVT.CTLABORT u), .reg (UPS.STS.STAGED u)] s t ∧ Out.usb u .stall ∈
      t.outs)) ∧
  (s.canSend r = true → BadFrame addr.toNat 1 c → Completes (.registerWrite r addr w) s (fun t => Rejects r c [] s t))

/-- A write of FUSCFG that changes ILIM alone, by a requester that reaches it, is refused with E_RANGE where ILIM in
10 mA units lies outside 10 to 600 or ILIM × RSENSE would exceed 70 mV (7,000,000 in units of 10 mA × 1 µΩ), and
stored otherwise; RSENSE is the identified quad's, else 15 mΩ; the default of 3.85 A is legal for every allowed
resistor, and at 15 mΩ 4.66 A is the highest legal value (R324). -/
def Obligations.CurrentLimitIsBounded : Prop := ∀ (r : Requester) (n : Fin 48) (addr : BitVec 24) (w : Word) (id :
    Ident) (p : PortIdent) (s : State),
  (s.phase = .running → s.canSend r = true → addr.toNat = 0x10040 + 0x400 * n.val → s.inReach r (.word addr.toNat
      none) true = true → s.isOff addr.toNat = false → s.frozen (.prt n) = false → (∀ f ∈ wordFields addr.toNat, f ≠
      (PRT.FUSCFG.ILIM n) → (f.writable = true → inWord w.toNat f = s.rd f) ∧ (f.acc = .w1p → inWord w.toNat f = 0))
      → w.toNat &&& packFields (wordFields addr.toNat) (fun f => 2 ^ f.width - 1) = w.toNat → inWord w.toNat
      (PRT.FUSCFG.ILIM n) ≠ s.rd (PRT.FUSCFG.ILIM n) → (inWord w.toNat (PRT.FUSCFG.ILIM n) < 10 ∨ 600 < inWord
      w.toNat (PRT.FUSCFG.ILIM n) ∨ 7000000 < inWord w.toNat (PRT.FUSCFG.ILIM n) * s.rsense n) → Completes
      (.registerWrite r addr w) s (fun t => Rejects r 4 [] s t)) ∧
  (s.phase = .running → s.canSend r = true → addr.toNat = 0x10040 + 0x400 * n.val → s.inReach r (.word addr.toNat
      none) true = true → s.isOff addr.toNat = false → s.frozen (.prt n) = false → (∀ f ∈ wordFields addr.toNat, f ≠
      (PRT.FUSCFG.ILIM n) → (f.writable = true → inWord w.toNat f = s.rd f) ∧ (f.acc = .w1p → inWord w.toNat f = 0))
      → w.toNat &&& packFields (wordFields addr.toNat) (fun f => 2 ^ f.width - 1) = w.toNat → 10 ≤ inWord w.toNat
      (PRT.FUSCFG.ILIM n) → inWord w.toNat (PRT.FUSCFG.ILIM n) ≤ 600 → inWord w.toNat (PRT.FUSCFG.ILIM n) * s.rsense
      n ≤ 7000000 → Completes (.registerWrite r addr w) s (fun t => ResultIs r 0 t ∧ t.rd (PRT.FUSCFG.ILIM n) =
      inWord w.toNat (PRT.FUSCFG.ILIM n))) ∧
  ((s.quad (quadOf n)).ident = some id → id.ports[n.val % 4]? = some p → s.rsense n = p.rsense) ∧
  ((s.quad (quadOf n)).ident = none → s.rsense n = 15000) ∧
  (∀ x ≤ 15000, 385 * x ≤ 7000000) ∧
  (466 * 15000 ≤ 7000000 ∧ 7000000 < 467 * 15000) ∧
  (State.reset.rd (PRT.FUSCFG.ILIM n) = 385)

/-- In Dusk or Eclipse a watched source, WAKE_N and the I2C address match wake the part with causes 1, 2 and 3; an
event of R396 or R397 during the handshake ends it as a wake during entry, with ABORT.BLOCK 18, and leaves NW.WAKE as
it was (R397). -/
def Obligations.WakesDuringEntryAreHandledInActive : Prop := ∀ (i : Fin 512) (u : Fin 4) (n : Fin 48) (adr : BitVec
    7) (s : State),
  (AsleepUnwoken s → s.rd (ICU.SRC_CFG.EN i) = 1 → s.rd (ICU.SRC_CFG.NWW i) = 1 → (s.phase = .eclipse → 64 ≤ i.val ∧
      i.val < 352 ∧ (i.val - 64) % 6 = 3) → Completes (.watchedSourceWake i) s (fun t => WokenBy 1 i 0x3F s t)) ∧
  (AsleepUnwoken s → Completes .wakeNAssert s (fun t => WokenBy 2 0x3FF 0x3F s t)) ∧
  (AsleepUnwoken s → s.rd NW.CTL.I2CWAKE = 1 → adr.toNat = 0x38 + s.rd SYS.STRAP.ADR → Completes (.i2cAddressMatch
      adr) s (fun t => WokenBy 3 0x3FF 0x3F s t)) ∧
  (s.phase = .running → s.sleep.running = true → s.rd (ICU.SRC_CFG.EN i) = 1 → s.rd (ICU.SRC_CFG.NWW i) = 1 →
      Completes (.watchedSourceWake i) s (fun t => EndsEntry s t)) ∧
  (s.phase = .running → s.sleep.running = true → Completes .wakeNAssert s (fun t => EndsEntry s t)) ∧
  (s.phase = .running → s.sleep.running = true → s.rd NW.CTL.I2CWAKE = 1 → adr.toNat = 0x38 + s.rd SYS.STRAP.ADR →
      Completes (.i2cAddressMatch adr) s (fun t => EndsEntry s t)) ∧
  (s.phase = .running → s.sleep.running = true → s.rd (UPS.STS.SUSP u) = 1 → Completes (.fixedWakeEvent
      (.upstreamLine u)) s (fun t => EndsEntry s t)) ∧
  (s.phase = .running → s.sleep.running = true → s.owner n ≤ 4 → Completes (.fixedWakeEvent (.downstream n)) s (fun t
      => EndsEntry s t)) ∧
  (s.phase = .running → s.sleep.running = true → Completes (.fixedWakeEvent (.portDie n)) s (fun t => EndsEntry s t))
      ∧
  (s.phase = .running → s.sleep.running = true → Completes (.fixedWakeEvent (.uVbus u)) s (fun t => EndsEntry s t))

/-- What the gate, power-good, limit, self-test, retry and discharge events of a port leave (R325 to R334, R345). -/
def Obligations.FuseEventsComplete : Prop := ∀ (n : Fin 48) (s : State),
  ((s.port n).gate = true → s.rd (PRT.FUSSTS.GATEON n) = 0 → Completes (.gateFullyOn n) s (fun t => t.rd
      (PRT.FUSSTS.GATEON n) = 1 ∧ (t.port n).qual = (s.rd (PRT.FUSSTS.LIMIT n) == 0))) ∧
  ((s.port n).gate = true → (s.port n).qual = true → s.rd (PRT.FUSSTS.GATEON n) = 1 → s.rd (PRT.FUSSTS.LIMIT n) = 0 →
      s.rd (PRT.FUSSTS.PG n) = 0 → Completes (.powerGood n) s (fun t => t.rd (PRT.FUSSTS.PG n) = 1 ∧ t.rd
      (PRT.FUSEVT.PGON n) = 1 ∧ t.rd (PRT.HUBSTS.OVERCUR n) = 0 ∧ (t.port n).qual = false ∧ (t.port n).cleanRun =
      true)) ∧
  (s.rd (PRT.FUSSTS.PG n) = 1 → Completes (.powerGoodFall n) s (fun t => t.rd (PRT.FUSSTS.PG n) = 0 ∧ t.rd
      (PRT.FUSEVT.PGOFF n) = 1 ∧ (t.port n).cleanRun = false)) ∧
  ((s.port n).gate = true → s.rd (PRT.FUSSTS.LIMIT n) = 0 → Completes (.limitEngage n) s (fun t => t.rd
      (PRT.FUSSTS.LIMIT n) = 1 ∧ t.rd (PRT.FUSEVT.LIMITIN n) = 1 ∧ (t.port n).qual = false)) ∧
  (s.rd (PRT.FUSSTS.LIMIT n) = 1 → Completes (.limitRelease n) s (fun t => t.rd (PRT.FUSSTS.LIMIT n) = 0 ∧ t.rd
      (PRT.FUSSTS.FOLD n) = 0 ∧ (t.port n).qual = (s.rd (PRT.FUSSTS.GATEON n) != 0 && s.rd (PRT.FUSSTS.PG n) == 0))) ∧
  ((s.port n).selfTest = .due → Completes (.selfTestStart n) s (fun t => (t.port n).selfTest = .running)) ∧
  ((s.port n).selfTest = .running → s.rd (PRT.FUSSTS.TRIPS n) ≤ s.rd (PRT.FUSCFG.RETRY n) → Completes
      (.selfTestComplete n true) s (fun t => (t.port n).selfTest = .none ∧ (t.port n).waitLen = min 120 (s.rd
      (PRT.FUSCFG.RWAIT n) * 2 ^ (s.rd (PRT.FUSSTS.TRIPS n) - 1)))) ∧
  ((s.port n).selfTest = .running → Completes (.selfTestComplete n false) s (fun t => (t.port n).selfTest = .none ∧
      t.rd (PRT.FUSSTS.SENSE n) = 1 ∧ t.rd (PRT.FUSEVT.LATCHED n) = 1 ∧ (t.port n).latched = true)) ∧
  ((s.port n).waitRun = true → s.runs 9 = true → Completes (.retryWaitEnd n) s (fun t => (t.port n).waitRun = false))
      ∧
  (s.rd (PRT.FUSSTS.PG n) = 1 → (s.port n).cleanRun = true → s.rd (PRT.FUSSTS.TRIPS n) ≠ 0 → s.runs 9 = true →
      Completes (.cleanPowerGood n) s (fun t => t.rd (PRT.FUSSTS.TRIPS n) = 0 ∧ t.rd (PRT.FUSEVT.CLEAN n) = 1)) ∧
  ((s.port n).ramp = true → Completes (.rampEnd n) s (fun t => (t.port n).ramp = false ∧ (t.port n).trimRun = true)) ∧
  ((s.port n).dsch = true → (s.port n).gate = false → Completes (.vbusDischarged n) s (fun t => (t.port n).vbus =
      false ∧ (t.port n).dsch = false ∧ (s.runs 8 = true → t.rd (PWR.PBOOK.COMMIT n) = 0)))

/-- Each trip is charged once, shows its cause, sets PORT_OVER_CURRENT, turns the gate off and makes the self-test due
(R326, R327, R331, R157). -/
def Obligations.TripsComplete : Prop := ∀ (n : Fin 48) (s : State), (s.port n).gate = true →
  Completes (.hardShort n) s (fun t => Tripped n 2 s t) ∧
  Completes (.overvoltageTrip n) s (fun t => Tripped n 4 s t) ∧
  Completes (.voltageTrip n) s (fun t => Tripped n 5 s t) ∧
  (s.rd (PRT.FUSSTS.LIMIT n) = 1 → Completes (.overloadTrip n) s (fun t => Tripped n 1 s t))

/-- The hub-level requests of R140 and R135 to a Configured personality, with what each answers. -/
def Obligations.HubRequestsComplete : Prop := ∀ (u : Fin 4) (j : Byte) (sel : BitVec 16) (len : BitVec 16) (n : Nat)
    (s : State), s.rd (UPS.STS.DEVSTATE u) = 4 →
  Completes (.getHubStatus u) s (fun t => t.outs = [.usb u (.data 1 [0, 0, 0, 0])]) ∧
  Completes (.clearHubFeature u sel) s (fun t => t.outs = [.usb u (if sel.toNat ≤ 1 then .ack else .stall)]) ∧
  Completes (.setHubFeature u sel) s (fun t => t.outs = [.usb u .stall]) ∧
  Completes (.setHubDescriptor u) s (fun t => t.outs = [.usb u .stall]) ∧
  Completes (.getTtState u j) s (fun t => t.outs = [.usb u .stall]) ∧
  Completes (.getHubDescriptor u len) s (fun t => t.outs = [.usb u (.data 1 ((s.hubDesc u).take len.toNat))]) ∧
  (s.hubPort u j.toNat = some n → Completes (.getPortStatus u j) s (fun t => t.outs = [.usb u (.data 1 (leBytes 2
      ((s.view u n).status (s.rd (UPS.CTL.PWRMODE u) != 0)) ++ leBytes 2 (s.view u n).change))]))

/-- Each port request to an owned hub port has its effect and is acknowledged (R140, R141, R139, R161, R167). -/
def Obligations.HubPortFeaturesComplete : Prop := ∀ (u : Fin 4) (j : Byte) (sel : Byte) (c : Fin 5) (n : Nat) (s :
    State), HubPortOf u j.toNat n s →
  (s.seUp n = true → (s.hub n = HS.disabled ∨ s.hub n = HS.enabled ∨ s.hub n = HS.suspended) → Completes
      (.setPortFeaturePortReset u j) s (fun t => t.hub n = HS.resetting ∧ (t.port n).chirped = false ∧ (t.port
      n).sofOn = false ∧ Out.se0 n ∈ t.outs ∧ Out.usb u .ack ∈ t.outs ∧ (s.rd (UPS.STS.HS u) = 1 → (t.view u n).rst =
      true))) ∧
  (s.seUp n = true → s.hub n = HS.enabled → Completes (.setPortFeaturePortSuspend u j) s (fun t => t.hub n =
      HS.suspended ∧ (t.port n).sofOn = false ∧ (s.rd (UPS.STS.HS u) = 1 → (t.view u n).susp = true) ∧ t.outs = [.usb
      u .ack])) ∧
  (1 ≤ sel.toNat → sel.toNat ≤ 5 → s.seUp n = true → (s.hub n = HS.disabled ∨ s.hub n = HS.suspended ∨ s.hub n =
      HS.disconnected) → Completes (.setPortFeaturePortTest u j sel) s (fun t => t.hub n = HS.test ∧ t.rd
      (PRT.HUBSTS.TESTSEL n) = sel.toNat ∧ t.outs = [.testMode n sel.toNat, .usb u .ack])) ∧
  (sel.toNat ≤ 3 → s.rd (UPS.HUBCFG.IND u) = 1 → s.rd (PRT.CTL.INDMODE n) = 0 → Completes
      (.setPortFeaturePortIndicator u j sel) s (fun t => (t.port n).indSel = sel.toNat ∧ t.outs = [.usb u .ack])) ∧
  Completes (.setPortFeaturePortEnable u j) s (fun t => t.outs = [.usb u .stall]) ∧
  (s.rd (UPS.CTL.PWRMODE u) = 0 → Completes (.setPortFeaturePortPower u j) s (fun t => (t.view u n).pwr = true ∧
      Out.usb u .ack ∈ t.outs)) ∧
  (s.rd (UPS.CTL.PWRMODE u) = 0 → Completes (.clearPortFeaturePortPower u j) s (fun t => (t.view u n).pwr = false ∧
      Out.usb u .ack ∈ t.outs)) ∧
  (s.seUp n = true → s.hub n = HS.enabled → Completes (.clearPortFeaturePortEnable u j) s (fun t => t.hub n =
      HS.disabling ∧ (t.port n).sofOn = false ∧ t.outs = [.usb u .ack])) ∧
  (s.seUp n = true → s.hub n = HS.suspended → Completes (.clearPortFeaturePortSuspend u j) s (fun t => t.hub n =
      HS.resuming ∧ t.outs = [.kDrive n, .usb u .ack])) ∧
  Completes (.clearPortFeaturePortIndicator u j) s (fun t => (t.port n).indSel = 0 ∧ t.outs = [.usb u .ack]) ∧
  Completes (.clearPortFeatureChange u j c) s (fun t => t.view u n = (s.view u n).clearChange c ∧ t.outs = [.usb u
      .ack])

/-- Bus reset and the standard requests to a running personality (R134, R136, R138, R144, R145). -/
def Obligations.UpstreamRequestsComplete : Prop := ∀ (u : Fin 4) (hs : Bool) (adr : BitVec 7) (v : BitVec 16) (i :
    BitVec 16) (len : BitVec 16) (bs : List Byte) (sel : Byte) (a : Nat) (s : State), s.phase = .running →
  (1 ≤ s.rd (UPS.STS.DEVSTATE u) → s.rd (UPS.STS.DEVSTATE u) ≤ 4 → Completes (.busReset u hs) s (fun t => t.rd
      (UPS.STS.DEVSTATE u) = 2 ∧ t.rd (UPS.STS.ADDR u) = 0 ∧ t.rd (UPS.STS.HS u) = hs.toNat ∧ t.rd (UPS.STS.SUSP u) =
      0 ∧ t.rd (UPS.STS.RWAKEEN u) = 0 ∧ t.rd (UPS.EVT.BUSRST u) = 1)) ∧
  ((s.rd (UPS.STS.DEVSTATE u) = 2 ∨ s.rd (UPS.STS.DEVSTATE u) = 3) → Completes (.setAddress u adr) s (fun t => t.rd
      (UPS.STS.ADDR u) = adr.toNat ∧ t.rd (UPS.STS.DEVSTATE u) = (if adr.toNat = 0 then 2 else 3) ∧ t.outs = [.usb u
      .ack])) ∧
  (s.rd (UPS.STS.DEVSTATE u) = 3 → Completes (.setConfiguration u 1) s (fun t => t.rd (UPS.STS.DEVSTATE u) = 4 ∧ t.rd
      (UPS.STS.ALTSET u) = 0 ∧ t.rd (UPS.EVT.CONFIG u) = 1 ∧ t.outs = [.usb u .ack])) ∧
  (s.rd (UPS.STS.DEVSTATE u) = 4 → s.rd (UPS.STS.HS u) = 1 → s.rd (UPS.STS.ALTSET u) = 0 → Completes (.setInterface u
      1) s (fun t => t.rd (UPS.STS.ALTSET u) = 1 ∧ t.rd (UPS.EVT.CONFIG u) = 1 ∧ Out.usb u .ack ∈ t.outs)) ∧
  (2 ≤ s.rd (UPS.STS.DEVSTATE u) → s.rd (UPS.STS.DEVSTATE u) ≤ 4 → s.descriptor u (v.toNat / 256) (v.toNat % 256) =
      some bs → Completes (.getDescriptor u v i len) s (fun t => t.outs = [.usb u (.data 1 (bs.take len.toNat))])) ∧
  (2 ≤ s.rd (UPS.STS.DEVSTATE u) → s.rd (UPS.STS.DEVSTATE u) ≤ 4 → Completes (.getStatus u) s (fun t => t.outs =
      [.usb u (.data 1 [BitVec.ofNat 8 (1 + 2 * s.rd (UPS.STS.RWAKEEN u)), 0])])) ∧
  (s.rd (UPS.STS.DEVSTATE u) ≠ 0 → 1 ≤ sel.toNat → sel.toNat ≤ 5 → Completes (.setFeatureTestMode u sel) s (fun t =>
      t.rd (UPS.STS.DEVSTATE u) = 5 ∧ t.outs = [.usb u .ack, .upTestMode u sel.toNat])) ∧
  (s.rd (UPS.STS.DEVSTATE u) = 4 → (s.up u).ctl = .vendorWrite a bs → Completes (.newSetupAbort u) s (fun t => t.rd
      (UPS.EVT.CTLABORT u) = 1 ∧ t.rd (UPS.STS.STAGED u) = 0 ∧ (t.up u).ctl = .request))

/-- The status-change endpoint, suspend, remote wake and resume of a personality (R143, R146 to R149). -/
def Obligations.StatusChangeAndSuspendComplete : Prop := ∀ (u : Fin 4) (n : Fin 48) (s : State), s.phase = .running →
  (s.rd (UPS.STS.DEVSTATE u) = 4 → (s.up u).halted = false → (s.partition u).any (fun k => (s.view u k).fresh) = true
      → Completes (.statusChangeIn u) s (fun t => t.outs = [.usb u (.data (s.up u).sentTog.toNat (s.changeMap u))] ∧
      (t.up u).sentPorts = s.changedPorts u)) ∧
  (s.rd (UPS.STS.DEVSTATE u) = 4 → (s.up u).halted = false → (s.partition u).any (fun k => (s.view u k).fresh) =
      false → Completes (.statusChangeIn u) s (fun t => t.outs = [.usb u .nak])) ∧
  (s.rd (UPS.STS.DEVSTATE u) = 4 → (s.up u).halted = true → Completes (.statusChangeIn u) s (fun t => t.outs = [.usb
      u .stall])) ∧
  ((s.up u).sentPorts ≠ [] → Completes (.statusChangeAck u) s (fun t => (t.up u).sentPorts = [] ∧ (t.up u).sentTog =
      (!(s.up u).sentTog) ∧ ∀ k ∈ (s.up u).sentPorts, (t.view u k).fresh = false)) ∧
  (s.rd (UPS.STS.DEVSTATE u) = 4 → s.rd (UPS.STS.SUSP u) = 0 → Completes (.suspend u) s (fun t => t.rd (UPS.STS.SUSP
      u) = 1 ∧ t.rd (UPS.EVT.SUSPEND u) = 1 ∧ ∀ k ∈ s.ownedPorts u, (t.port k).sofOn = false)) ∧
  (s.rd (UPS.STS.SUSP u) = 1 → s.seUp n = true → s.owner n = u → s.owned n = true → s.hub n = HS.enabled → s.rd
      (UPS.STS.RWAKEEN u) = 1 → Completes (.wakeQualify n .k) s (fun t => n.val ∈ (t.up u).wakers ∧ (t.port n).waking
      = true)) ∧
  (s.rd (UPS.STS.SUSP u) = 1 → s.seUp n = true → s.owner n = u → s.owned n = true → s.hub n = HS.enabled → s.rd
      (UPS.STS.RWAKEEN u) = 0 → Completes (.wakeQualify n .k) s (fun t => CountsUp (UPS.CNT1.IGNWAKE u) s t)) ∧
  (s.rd (UPS.STS.SUSP u) = 1 → (s.up u).wakers ≠ [] → (s.up u).hostResume = false → (s.up u).kStarted = false →
      Completes (.upstreamKStart u) s (fun t => (t.up u).kStarted = true ∧ t.outs = [.upK u])) ∧
  (s.rd (UPS.STS.SUSP u) = 1 → (s.up u).wakers ≠ [] → (s.up u).hostResume = false → (s.up u).kStarted = false →
      Completes (.hostResume u) s (fun t => (t.up u).hostResume = true ∧ t.rd (UPS.WAKESRC.COLL u) = 1)) ∧
  (s.rd (UPS.STS.SUSP u) = 1 → (s.up u).kStarted = true → Completes (.upstreamKEnd u) s (fun t => (t.up u).kStarted =
      false ∧ (t.up u).hostResume = true ∧ Out.upRelease u ∈ t.outs)) ∧
  (s.rd (UPS.STS.SUSP u) = 1 → (s.up u).hostResume = true → Completes (.resumeEop u) s (fun t => t.rd (UPS.STS.SUSP
      u) = 0 ∧ (t.up u).wakers = [] ∧ (t.up u).hostResume = false ∧ ((s.up u).resumeSeen = false → t.rd
      (UPS.EVT.RESUME u) = 1) ∧ ((s.up u).wakers ≠ [] → t.rd (UPS.EVT.RWAKE u) = 1)))

/-- What the line events of a downstream port leave (R161 to R163, R165, R168, R272). -/
def Obligations.HubPortEventsComplete : Prop := ∀ (n : Fin 48) (i : Fin 4) (low : Bool) (s : State),
  (s.seUp n = true → s.hub n = HS.disconnected → s.tc n ≠ 7 → (s.port n).restart = false → Completes (.usbConnect n
      low) s (fun t => t.hub n = HS.disabled ∧ t.rd (PRT.HUBSTS.CONNECTION n) = 1 ∧ t.rd (PRT.HUBSTS.LOWSPD n) =
      low.toNat ∧ t.rd (PRT.HUBCHG.C_CONNECTION n) = 1)) ∧
  (s.seUp n = true → s.hub n = HS.enabled → (s.port n).restart = false → Completes (.usbDisconnect n) s (fun t =>
      t.hub n = HS.disconnected ∧ t.rd (PRT.HUBSTS.CONNECTION n) = 0 ∧ t.rd (PRT.HUBCHG.C_CONNECTION n) = 1)) ∧
  (s.seUp n = true → s.hub n = HS.resetting → s.rd (PRT.HUBSTS.LOWSPD n) = 0 → s.rd (PRT.CTL.FSONLY n) = 0 → s.owner
      n ≠ 4 → Completes (.deviceChirp n) s (fun t => (t.port n).chirped = true ∧ t.outs = [.chirpPairs n])) ∧
  (s.seUp n = true → s.hub n = HS.resetting → Completes (.portResetEnd n) s (fun t => t.hub n = HS.enabled ∧ t.rd
      (PRT.HUBSTS.HIGHSPD n) = (s.port n).chirped.toNat ∧ t.rd (PRT.HUBCHG.C_RESET n) = 1 ∧ t.outs = [.endSignal n]))
      ∧
  (s.seUp n = true → s.hub n = HS.enabled → Completes (.portBabble n) s (fun t => t.hub n = HS.disabled ∧ t.rd
      (PRT.HUBCHG.C_ENABLE n) = 1 ∧ (t.port n).sofOn = false)) ∧
  (s.seUp n = true → s.hub n = HS.disabling → Completes (.disablingComplete n) s (fun t => t.hub n = HS.disabled)) ∧
  (s.seUp n = true → s.hub n = HS.suspended → s.partSusp n = false → Completes (.deviceResumeK n) s (fun t => t.hub n
      = HS.resuming ∧ t.outs = [.kDrive n])) ∧
  (s.seUp n = true → s.hub n = HS.resuming → Completes (.resumeDriveEnd n) s (fun t => t.hub n = HS.sendEor ∧ t.outs
      = [.eor n])) ∧
  (s.seUp n = true → s.hub n = HS.sendEor → Completes (.sendEorComplete n) s (fun t => t.hub n = HS.enabled ∧ t.rd
      (PRT.HUBCHG.C_SUSPEND n) = 1 ∧ (t.port n).sofOn = true)) ∧
  (s.seUp n = true → (s.port n).restart = true → Completes (.portRestartEnd n) s (fun t => (t.port n).restart =
      false)) ∧
  (s.phase = .running → s.rd (SEC.STS.LINK i) = 1 → Completes (.ledFrameRefresh i) s (fun t => Out.led i (s.ledFrame
      i) ∈ t.outs))

/-- Attach, debounce, role, moisture and detach events of a downstream port's Type-C machine (R291 to R293, R158 to
R160). -/
def Obligations.TypeCEventsComplete : Prop := ∀ (n : Fin 48) (cc2 : Bool) (ra : Bool) (cur : Fin 3) (leak : LeakSet)
    (s : State),
  (s.tc n = 1 → (s.port n).demand = true → (s.port n).restart = false → (s.port n).presRd = false → Completes
      (.ccAttachSeen (n.castLE (by decide)) (.rd cc2 ra)) s (fun t => t.tc n = 2 ∧ t.rd (PRT.TCSTS.ORIENT n) = (if
      cc2 then 2 else 1) ∧ (t.port n).path = .source ∧ (t.port n).ra = ra)) ∧
  (PolicyUp n s → s.tc n = 2 → (s.port n).path = .source → Completes (.ccDebounceExpire (n.castLE (by decide))) s
      (fun t => t.tc n = 3 ∧ t.rd (PRT.TCEVT.ATTACH n) = 1)) ∧
  (s.tc n = 2 → Completes (.ccTerminationLost (n.castLE (by decide))) s (fun t => t.tc n = 1 ∧ t.rd (PRT.TCSTS.ORIENT
      n) = 0)) ∧
  (s.tc n = 1 → s.rd (PRT.TCCTL.DSROLE n) = 0 → Completes (.drpToggle (n.castLE (by decide))) s (fun t => (t.port
      n).presRd = (!(s.port n).presRd))) ∧
  (PolicyUp n s → s.tc n = 5 → (s.port n).tryWait = false → s.rd (PRT.TCCTL.DSROLE n) = 0 → Completes (.drpTryExpire
      (n.castLE (by decide))) s (fun t => (t.port n).tryWait = true ∧ (t.port n).presRd = true)) ∧
  (PolicyUp n s → s.tc n = 5 → (s.port n).tryWait = false → s.rd (PRT.TCCTL.DSROLE n) ≠ 0 → Completes (.drpTryExpire
      (n.castLE (by decide))) s (fun t => t.tc n = 1 ∧ t.rd (PRT.TCSTS.ORIENT n) = 0)) ∧
  (PolicyUp n s → s.tc n = 5 → (s.port n).tryWait = false → Completes (.tryCcDebounceExpire (n.castLE (by decide))
      cc2 ⟨ra, cur⟩) s (fun t => t.tc n = 3 ∧ t.rd (PRT.TCSTS.ORIENT n) = (if cc2 then 2 else 1))) ∧
  (PolicyUp n s → s.tc n = 5 → (s.port n).tryWait = true → Completes (.tryTimeout (n.castLE (by decide))) s (fun t =>
      t.tc n = 1 ∧ t.rd (PRT.TCSTS.ORIENT n) = 0)) ∧
  (s.tc n = 6 → s.phase = .running → Completes (.srcDisconnect (n.castLE (by decide))) s (fun t => t.tc n = 1 ∧ t.rd
      (PRT.TCEVT.DETACH n) = 1 ∧ (t.port n).gate = false)) ∧
  (s.tc n = 7 → Completes (.sinkVbusLost n) s (fun t => t.tc n = 1 ∧ t.rd (PRT.PDSTS.PWRROLE n) = 0)) ∧
  (1 ≤ s.tc n → s.tc n ≤ 8 → Completes (.ccOvervoltage n) s (fun t => t.tc n = 9 ∧ t.rd (PRT.TCEVT.CCOV n) = 1 ∧ t.rd
      (PRT.TCEVT.ERRREC n) = 1)) ∧
  (PolicyUp n s → s.tc n = 9 → Completes (.errorRecoveryEnd n) s (fun t => t.tc n = 1 ∧ t.outs = [.cc n true])) ∧
  (PolicyUp n s → (s.port n).checking = true → (s.tc n = 3 ∨ s.tc n = 4) → (∀ x ∈ measured leak (s.rd
      (PRT.TCSTS.ORIENT n)) (s.port n).ra, moistThreshold n ≤ x.2.2) → Completes (.moistureCheckComplete n leak) s
      (fun t => t.tc n = 3 ∧ t.rd (PRT.TCSTS.MOISTOK n) = 1 ∧ t.rd (PRT.TCSTS.WET n) = 0 ∧ (t.port n).ask = true)) ∧
  (PolicyUp n s → (s.port n).checking = true → (s.tc n = 3 ∨ s.tc n = 4) → (∃ x ∈ measured leak (s.rd
      (PRT.TCSTS.ORIENT n)) (s.port n).ra, x.2.2 < moistThreshold n) → Completes (.moistureCheckComplete n leak) s
      (fun t => t.tc n = 4 ∧ t.rd (PRT.TCSTS.WET n) = 1 ∧ t.rd (PRT.TCSTS.MOISTOK n) = 0)) ∧
  (PolicyUp n s → s.tc n = 4 → Completes (.wetRetest n) s (fun t => (t.port n).checking = true))

/-- The same commands on an upstream receptacle, number 48 + u (R289, R290, R294). -/
def Obligations.UpstreamTypeCCompletes : Prop := ∀ (u : Fin 4) (cc2 : Bool) (ra : Bool) (cur : Fin 3) (s : State),
    s.phase = .running →
  (s.rd (UPS.TCSTS.TCSTATE u) ≤ 1 → (s.up u).presRp = false → Completes (.ccAttachSeen (Fin.natAdd 48 u) (.rp cc2
      cur)) s (fun t => t.rd (UPS.TCSTS.TCSTATE u) = 2 ∧ t.rd (UPS.TCSTS.ORIENT u) = (if cc2 then 2 else 1) ∧ t.rd
      (UPS.TCSTS.RPSEEN u) = cur.val + 1)) ∧
  (s.rd (UPS.TCSTS.TCSTATE u) = 2 → (s.up u).path = .sink → s.rd (UPS.STS.VBUS u) = 1 → Completes (.ccDebounceExpire
      (Fin.natAdd 48 u)) s (fun t => t.rd (UPS.TCSTS.TCSTATE u) = 7)) ∧
  (s.rd (UPS.TCSTS.TCSTATE u) = 2 → Completes (.ccTerminationLost (Fin.natAdd 48 u)) s (fun t => t.rd
      (UPS.TCSTS.TCSTATE u) = 1)) ∧
  (s.rd (UPS.TCCTL.ROLE u) = 1 → s.rd (UPS.TCSTS.TCSTATE u) = 1 → s.boot.step = 0 → Completes (.drpToggle (Fin.natAdd
      48 u)) s (fun t => (t.up u).presRp = (!(s.up u).presRp))) ∧
  (s.rd (UPS.TCSTS.TCSTATE u) = 5 → (s.up u).tryWait = false → Completes (.drpTryExpire (Fin.natAdd 48 u)) s (fun t
      => (t.up u).tryWait = true)) ∧
  (s.rd (UPS.TCSTS.TCSTATE u) = 5 → (s.up u).tryWait = false → s.rd (UPS.STS.VBUS u) = 1 → Completes
      (.tryCcDebounceExpire (Fin.natAdd 48 u) cc2 ⟨ra, cur⟩) s (fun t => t.rd (UPS.TCSTS.TCSTATE u) = 7 ∧ t.rd
      (UPS.TCSTS.RPSEEN u) = cur.val + 1)) ∧
  (s.rd (UPS.TCSTS.TCSTATE u) = 5 → (s.up u).tryWait = true → Completes (.tryTimeout (Fin.natAdd 48 u)) s (fun t =>
      t.rd (UPS.TCSTS.TCSTATE u) = 1)) ∧
  (s.rd (UPS.TCSTS.TCSTATE u) = 6 → Completes (.srcDisconnect (Fin.natAdd 48 u)) s (fun t => t.rd (UPS.TCSTS.TCSTATE
      u) = 1))

/-- What a bad link frame, a lost lock, a restored link, a link late by 20 ms and a port die that leaves its power-on
reset leave (R14, R15, R59, R374, R411). -/
def Obligations.LinkAndDieEventsComplete : Prop := ∀ (i : Fin 4) (s : State), s.active = true →
  (s.rd (SEC.STS.LINK i) = 1 → Completes (.linkFrameCrcFail i) s (fun t => CountsUp (SEC.LINKCNT.RETX i) s t)) ∧
  (s.rd (SEC.STS.LINK i) = 1 → Completes (.linkLockLost i) s (fun t => t.rd (SEC.STS.LINK i) = 0 ∧ t.rd (SEC.STS.HOLD
      i) = 1 ∧ CountsUp (SEC.LINKCNT.RETRAIN i) s t ∧ bitAt (t.rd (SEC.EVT.EVENTS i)) 0 = true ∧ (t.sec i).lost =
      true ∧ (t.sec i).late = false)) ∧
  ((s.sec i).lost = true → (s.sec i).dieUp = true → Completes (.linkRestored i) s (fun t => t.rd (SEC.STS.LINK i) = 1
      ∧ t.rd (SEC.STS.HOLD i) = 0 ∧ t.rd (SEC.STS.RATE i) = s.rd (SEC.CTL.REDUCED i) % 2 ∧ (t.sec i).lost = false)) ∧
  ((s.sec i).lost = true → (s.sec i).late = false → Completes (.linkRestoreTimeout i) s (fun t => bitAt (t.rd
      (FLT.FLTSTS.SRC (.sec i))) 0 = true ∧ (s.rd (FLT.FLTSEV.SEV (.sec i) 0) ≠ 3 → (t.sec i).late = true))) ∧
  (s.good (.vdd5 i) = true → Completes (.portDiePorEnd i) s (fun t => (t.sec i).dieUp = true))

/-- RESET_N low holds the part in Reset with its cause, its release and the end of the power-on reset sample the
straps that are due and start boot or the flash release; in rescue the power-on reset ends and rescue goes on (R49,
R50, R52, R58, R59, R72, R97). -/
def Obligations.PinAndPowerResetsComplete : Prop := ∀ (strap : BitVec 5) (vio33 : Bool) (s : State),
  (s.good .vddio = true → Completes (.resetNAssert) s (fun t => t.phase = .held ∧ t.resetN = true ∧ t.rd
      BOOT.RSTCAUSE.CAUSE = (if s.vioDue then 1 else if s.phase = .held then min 2 s.retain.cause else 2) % 2 ^
      BOOT.RSTCAUSE.CAUSE.width)) ∧
  (s.resetN = true → s.good .vddio = true → s.phase = .held → s.por = false → Completes (.resetNRelease strap) s (fun
      t => t.resetN = false ∧ t.rd SYS.STRAP.MODE = strap.toNat % 4 ∧ t.rd SYS.STRAP.ADR = strap.toNat / 4 ∧ t.phase
      = (if strap.toNat % 4 = 2 then .flashRelease else .running))) ∧
  ((s.phase = .held ∨ s.phase = .unpowered) → s.por = true → s.coreGood = true → s.good .vddNw = true → s.resetN =
      false → Completes (.powerOnResetEnd strap vio33) s (fun t => t.por = false ∧ (s.strapDue = true → t.rd
      SYS.STRAP.MODE = strap.toNat % 4 ∧ t.rd SYS.STRAP.ADR = strap.toNat / 4) ∧ (s.vioDue = true → t.rd
      SYS.STRAP.VIO33 = vio33.toNat) ∧ t.phase = (if t.rd SYS.STRAP.MODE = 2 then .flashRelease else .running))) ∧
  (s.phase = .rescue → s.por = true → s.coreGood = true → s.good .vddNw = true → Completes (.powerOnResetEnd strap
      vio33) s (fun t => t.phase = .rescue ∧ t.por = false ∧ (s.vioDue = true → t.rd SYS.STRAP.VIO33 = vio33.toNat)))

/-- The watchdog reset, the software full reset, the boot-retry reset and the return from Eclipse restart boot at step
0x01 with their cause (R89, R97, R383, R400, R415). -/
def Obligations.InternalResetsComplete : Prop := ∀ (s : State),
  ((s.phase = .running ∨ s.phase = .rescue) → Completes (.wardenTimerExpire) s (fun t => RestartsBoot 4 s t)) ∧
  (s.resetDue = true → Completes (.softwareFullReset) s (fun t => RestartsBoot 5 s t ∧ t.resetDue = false)) ∧
  (s.phase = .running → s.boot.retry = true → s.retain.lost = false → Completes (.bootRetryReset) s (fun t =>
      RestartsBoot 6 s t ∧ t.retain.consec = min 3 (s.retain.consec + 1))) ∧
  (s.phase = .eclipse → s.sleep.woken = true → Completes (.eclipseWake) s (fun t => RestartsBoot 9 s t ∧ t.rd
      NW.WAKE.CAUSE = s.rd NW.WAKE.CAUSE % 2 ^ NW.WAKE.CAUSE.width ∧ t.rd NW.WAKE.SRC = s.rd NW.WAKE.SRC % 2 ^
      NW.WAKE.SRC.width ∧ t.rd NW.WAKE.DETAIL = s.rd NW.WAKE.DETAIL % 2 ^ NW.WAKE.DETAIL.width))

/-- A supply that falls is low and a core supply then holds the part in Reset with cause 0x03, a supply that returns
is good, and Uu_VBUS is followed (R24, R60, R61, R94, R138). -/
def Obligations.SupplyEventsComplete : Prop := ∀ (x : Supply) (u : Fin 4) (present : Bool) (s : State),
  (s.good x = true → Completes (.supplyLow x) s (fun t => x ∈ t.low)) ∧
  (s.good x = true → (x = .vddCore ∨ x = .vddPhy ∨ x = .vdd33Phy) → s.phase = .running → s.vioDue = false → Completes
      (.supplyLow x) s (fun t => t.phase = .held ∧ t.por = true ∧ t.rd BOOT.RSTCAUSE.CAUSE = 3)) ∧
  (s.good x = false → Completes (.supplyRestored x) s (fun t => t.good x = true)) ∧
  (s.vbusU.contains u.val ≠ present → Completes (.upstreamVbusChange u present) s (fun t => t.vbusU.contains u.val =
      present))

/-- The boot steps that cannot fail go on to the next step, step 0x0E ends the boot in normal or restricted mode, the
timeouts of boot make a boot retry due, and the reread of an identity memory and the initial ownership table follow
(R87, R89, R93, R265, R339). -/
def Obligations.BootStepsComplete : Prop := ∀ (rep : StepReport) (e : Fin 11) (q : Fin 12) (mem : Option (List Byte))
    (s : State), s.phase = .running → s.boot.retry = false →
  (s.boot.step = 1 → Completes (.bootStepComplete rep) s (fun t => t.boot.step = 2)) ∧
  (s.boot.step = 8 → s.boot.inst < 11 → Completes (.bootStepComplete rep) s (fun t => t.boot.step = 8 ∧ t.boot.inst =
      s.boot.inst + 1)) ∧
  (s.boot.step = 0xA → Completes (.bootStepComplete rep) s (fun t => t.boot.step = 0xB)) ∧
  (s.boot.step = 0xB → Completes (.bootStepComplete rep) s (fun t => t.boot.step = 0xC ∧ ∀ k : Fin 10, t.runs k =
      true)) ∧
  (s.boot.step = 0xC → Completes (.bootStepComplete rep) s (fun t => t.boot.step = 0xD)) ∧
  (s.boot.step = 0xD → Completes (.bootStepComplete rep) s (fun t => t.boot.step = 0xE ∧ t.boot.ownDue = true)) ∧
  (s.boot.step = 0xE → Completes (.bootStepComplete rep) s (fun t => t.boot.step = 0 ∧ t.retain.consec = 0 ∧ t.rd
      SYS.MODE.MODE = (if s.boot.restricted then 2 else 1))) ∧
  (s.boot.step = 0xB → e.val < 10 → s.boot.restarted = [] → Completes (.engineReadyTimeout e) s (fun t =>
      t.boot.restarted = [e.val] ∧ t.boot.retry = false)) ∧
  (s.boot.step = 0xB → e.val < 10 → s.boot.restarted ≠ [] → Completes (.engineReadyTimeout e) s (fun t =>
      t.boot.retry = true)) ∧
  (s.boot.step ≠ 0 → Completes (.bootTimeout) s (fun t => t.boot.retry = true)) ∧
  (s.boot.step = 0 → (s.quad q).reread = true → Completes (.identityRereadComplete q mem) s (fun t => (t.quad
      q).reread = false ∧ (mem = none → t.rd (QD.EVT.IDFAIL q) = 1))) ∧
  (s.boot.ownDue = true → Completes (.initialOwnershipApply) s (fun t => t.boot.ownDue = false ∧ t.boot.ownInForce =
      true ∧ ∀ n : Fin 48, t.rd (PRT.OWNER.OWN n) = s.initialOwner n % 8 ∧ t.rd (PRT.OWNER.STATE n) = 0))

/-- The boot steps of a sector restart end with both its engines running where they load and are ready, and an engine
restarted alone runs again (R16, R18, R96, R383). -/
def Obligations.EngineReturnsComplete : Prop := ∀ (i : Fin 4) (e : Fin 11) (rep : SectorReport) (s : State), s.phase
    = .running → s.safe = false →
  ((s.sec i).restarting = true → Completes (.sectorRestartComplete i rep) s (fun t => (t.sec i).restarting = false ∧
      bitAt (t.rd (SEC.EVT.EVENTS i)) 6 = true ∧ (rep.ready = true → (s.restartLoad rep.sramOk).out = 0 → t.runs i =
      true ∧ t.runs (4 + i) = true))) ∧
  (s.boot.step = 0 → s.runs e = false → (e.val < 8 → (s.sec (e.val % 4)).restarting = false) → Completes
      (.engineRestartComplete e) s (fun t => t.runs e = true))

/-- The header record of a COMMIT lands before its end; an update command that ends leaves the session as R98 says
and, with no fuse being blown, clears BUSY; a fuse blown advances the anti-rollback counter by one, and the last one
clears BUSY where no update command runs (R98, R101, R417). -/
def Obligations.UpdateAndFuseCompletionsComplete : Prop := ∀ (x : UpdX) (v : Nat) (rb : Bool) (s : State),
  (s.upd = some x → x.waiting = false → s.svUp = true → (x.cmd ≠ 5 ∨ x.landed = true) → Completes
      (.updateCommandComplete rb) s (fun t => t.upd = none ∧ t.rd BOOT.UPDSTS.BUSY = s.fuseGoal.isSome.toNat ∧ (x.cmd
      = 1 → t.rd BOOT.UPDSTS.SESSION = 1) ∧ (x.cmd = 4 → t.rd BOOT.UPDSTS.SESSION = (if x.result = 0 then 2 else 1))
      ∧ (x.cmd = 5 → t.rd BOOT.UPDSTS.SESSION = 0 ∧ t.rd BOOT.UPDSTS.OWNER = 7) ∧ (x.cmd = 6 → t.rd
      BOOT.UPDSTS.SESSION = 0 ∧ t.rd BOOT.UPDSTS.OWNER = 7))) ∧
  (s.upd = some x → x.waiting = false → s.svUp = true → x.cmd = 5 → x.landed = false → Completes
      (.updateCommandComplete rb) s (fun t => t.upd = some { x with landed := true } ∧ t.rd BOOT.UPDSTS.BUSY = s.rd
      BOOT.UPDSTS.BUSY ∧ t.rd BOOT.UPDSTS.SESSION = s.rd BOOT.UPDSTS.SESSION)) ∧
  (s.fuseGoal = some v → Completes (.fuseBlowComplete) s (fun t => t.fuses = s.fuses + 1 ∧ t.rd BOOT.RBCTR.VALUE =
      (s.fuses + 1) % 2 ^ BOOT.RBCTR.VALUE.width ∧ (v ≤ s.fuses + 1 → t.fuseGoal = none ∧ t.rd BOOT.UPDSTS.BUSY =
      s.upd.isSome.toNat)))

/-- An accepted request of rescue exit, failure-memory clear, image update, anti-rollback advance or software reset
has the effect its rule gives and the result E_OK (R88, R95, R98, R101, R415). -/
def Obligations.BootWritesComplete : Prop := ∀ (r : Requester) (w : Word) (slot : Bool) (s : State),
  (Accepts r 0x1010 w.toNat s → w.toNat % 2 = 1 → s.coreGood = true → s.por = false → Completes (.rescueRstreq r w) s
      (fun t => RestartsBoot 8 s t ∧ t.retain.consec = 0 ∧ t.retain.failMem = 0 ∧ t.retain.digests = none)) ∧
  (Accepts r 0x1008 w.toNat s → Completes (.failclr r w) s (fun t => ResultOk r t ∧ ∀ k : Fin 20, bitAt
      t.retain.failMem k = (bitAt s.retain.failMem k && !bitAt w.toNat k))) ∧
  (Accepts r 0x1020 (1 + 8 * slot.toNat) s → Completes (.updcmdOpen r slot) s (fun t => ResultOk r t ∧ t.rd
      BOOT.UPDSTS.BUSY = 1 ∧ t.upd.map (·.cmd) = some 1 ∧ t.rd BOOT.UPDSTS.OWNER = r.code ∧ t.rd BOOT.UPDSTS.TARGET =
      slot.toNat)) ∧
  (Accepts r 0x1020 2 s → Completes (.updcmdErase r) s (fun t => ResultOk r t ∧ t.rd BOOT.UPDSTS.BUSY = 1 ∧ t.upd.map
      (·.cmd) = some 2)) ∧
  (Accepts r 0x1020 3 s → Completes (.updcmdProgram r) s (fun t => ResultOk r t ∧ t.rd BOOT.UPDSTS.BUSY = 1 ∧
      t.upd.map (·.cmd) = some 3 ∧ t.rd BOOT.UPDSTS.SESSION = 1)) ∧
  (Accepts r 0x1020 4 s → Completes (.updcmdVerify r) s (fun t => ResultOk r t ∧ t.rd BOOT.UPDSTS.BUSY = 1 ∧
      t.upd.map (·.cmd) = some 4)) ∧
  (Accepts r 0x1020 5 s → Completes (.updcmdCommit r) s (fun t => ResultOk r t ∧ t.rd BOOT.UPDSTS.BUSY = 1 ∧
      t.upd.map (·.cmd) = some 5)) ∧
  (Accepts r 0x1020 6 s → Completes (.updcmdAbort r) s (fun t => ResultOk r t ∧ t.rd BOOT.UPDSTS.BUSY = 1 ∧ t.upd.map
      (·.cmd) = some 6)) ∧
  (Accepts r 0x1030 w.toNat s → inWord w.toNat BOOT.RBCTR.VALUE ≠ s.fuses → Completes (.rbctrWrite r w) s (fun t =>
      ResultOk r t ∧ t.rd BOOT.UPDSTS.BUSY = 1 ∧ t.fuseGoal = some (w.toNat % 128))) ∧
  (Accepts r 0x24 w.toNat s → w.toNat % 2 = 1 → Completes (.resetreq r w) s (fun t => ResultOk r t ∧ t.resetDue =
      true))

/-- The idle timer starts the handshake, each block that agrees passes it on and the last one brings Dusk or Eclipse;
a refusal or an answer that does not come ends the attempt and is recorded (R389, R391 to R395). -/
def Obligations.SleepHandshakeCompletes : Prop := ∀ (s : State),
  (s.idle = true → s.sleep.running = false → Completes (.idleTimerExpire) s (fun t => t.rd NW.STS.STATE = 1 ∧
      t.sleep.running = true ∧ t.sleep.next = 0)) ∧
  (s.sleep.running = true → s.refuses s.sleep.next = false → (s.sleep.eclipse = true → s.eclipseOk = true) →
      s.sleep.next < 17 → Completes (.sleepBlockAnswer) s (fun t => t.sleep.next = s.sleep.next + 1 ∧ t.sleep.running
      = true)) ∧
  (s.sleep.running = true → s.refuses s.sleep.next = false → (s.sleep.eclipse = true → s.eclipseOk = true) →
      s.sleep.next = 17 → Completes (.sleepBlockAnswer) s (fun t => t.phase = (if s.sleep.eclipse then .eclipse else
      .dusk) ∧ t.rd NW.STS.STATE = 2 ∧ t.rd NW.STS.BACKOFF = 0)) ∧
  (s.sleep.running = true → s.refuses s.sleep.next = true → s.sleep.next ≤ 17 → Completes (.sleepBlockAnswer) s (fun
      t => t.rd NW.STS.STATE = 0 ∧ t.sleep.running = false ∧ t.rd NW.ABORT.BLOCK = s.sleep.next ∧ t.rd NW.ABORT.TMO =
      0)) ∧
  (s.sleep.running = true → s.sleep.next ≤ 17 → Completes (.sleepAnswerTimeout) s (fun t => t.rd NW.STS.STATE = 0 ∧
      t.sleep.running = false ∧ t.rd NW.ABORT.BLOCK = s.sleep.next ∧ t.rd NW.ABORT.TMO = 1))

/-- The first wake event of Dusk or Eclipse is recorded with its cause and begins the return, and the return from Dusk
makes the part Active again (R368, R390, R396 to R399). -/
def Obligations.WakesAndReturnComplete : Prop := ∀ (i : Fin 512) (u : Fin 4) (n : Fin 48) (adr : BitVec 7) (ms :
    BitVec 32) (s : State),
  (AsleepUnwoken s → Completes (.wakeNAssert) s (fun t => WokenBy 2 0x3FF 0x3F s t)) ∧
  (AsleepUnwoken s → Completes (.fixedWakeEvent (.uVbus u)) s (fun t => WokenBy 7 0x3FF u s t)) ∧
  (AsleepUnwoken s → s.phase = .dusk → s.rd (UPS.STS.SUSP u) = 1 → Completes (.fixedWakeEvent (.upstreamLine u)) s
      (fun t => WokenBy 4 0x3FF u s t)) ∧
  (AsleepUnwoken s → s.phase = .dusk → s.owner n ≤ 4 → Completes (.fixedWakeEvent (.downstream n)) s (fun t =>
      WokenBy 5 0x3FF n s t)) ∧
  (AsleepUnwoken s → s.phase = .dusk → Completes (.fixedWakeEvent (.portDie n)) s (fun t => WokenBy 6 0x3FF n s t)) ∧
  (AsleepUnwoken s → s.rd (ICU.SRC_CFG.EN i) = 1 → s.rd (ICU.SRC_CFG.NWW i) = 1 → (s.phase = .eclipse → 64 ≤ i.val ∧
      i.val < 352 ∧ (i.val - 64) % 6 = 3) → Completes (.watchedSourceWake i) s (fun t => WokenBy 1 i 0x3F s t)) ∧
  (AsleepUnwoken s → s.rd NW.CTL.I2CWAKE = 1 → adr.toNat = 0x38 + s.rd SYS.STRAP.ADR → Completes (.i2cAddressMatch
      adr) s (fun t => WokenBy 3 0x3FF 0x3F s t)) ∧
  (s.phase = .dusk → s.sleep.woken = true → Completes (.duskReturnComplete ms) s (fun t => t.phase = .running ∧ t.rd
      NW.STS.STATE = 0 ∧ t.sleep = SleepX.reset ∧ t.duskDue = []))

/-- SEL, GO, PART and DATA3 accesses that are accepted, the capture from its start to VALID, and the release of the
bulk buffer (R123 to R126). -/
def Obligations.MailboxCommandsComplete : Prop := ∀ (r : Requester) (m : Fin 8) (w : Word) (ok : Bool) (s : State),
  (Accepts r (0x8000 + 0x20 * m) w.toNat s → Completes (.mbxSelWrite r m w) s (fun t => ResultOk r t ∧ t.rd
      (MBX.SEL.CODE m) = inWord w.toNat (MBX.SEL.CODE m) ∧ t.rd (MBX.SEL.INDEX m) = inWord w.toNat (MBX.SEL.INDEX m)
      ∧ t.rd (MBX.CTRL.VALID m) = 0 ∧ t.rd (MBX.CTRL.ERR m) = 0 ∧ t.rd (MBX.CTRL.PART m) = 0)) ∧
  (Accepts r (0x8004 + 0x20 * m) (withBit w.toNat 0 true) s → Completes (.mbxGo r m w) s (fun t => ResultOk r t ∧
      t.rd (MBX.CTRL.BUSY m) = 1 ∧ t.rd (MBX.CTRL.VALID m) = 0 ∧ (t.mb m).due = true ∧ (t.mb m).req = r.code ∧
      (selBulk (s.rd (MBX.SEL.CODE m)) = true → t.rd MBX.BULK.HELD = 1 ∧ t.rd MBX.BULK.HOLDER = m))) ∧
  (Accepts r (0x8004 + 0x20 * m) (withBit w.toNat 0 false) s → Completes (.mbxPartWrite r m w) s (fun t => ResultOk r
      t ∧ t.rd (MBX.CTRL.PART m) = inWord w.toNat (MBX.CTRL.PART m))) ∧
  (s.canSend r = true → s.readCode r (.word (0x801C + 0x20 * m) none) = 0 → Completes (.mbxData3Read r m) s (fun t =>
      ResultOk r t ∧ t.outs = [.tokel (leBytes 4 (s.mbxWord m 3) ++ [0])] ∧ t.rd (MBX.CTRL.PART m) = (s.rd
      (MBX.CTRL.PART m) + 1) % selParts (s.rd (MBX.SEL.CODE m)) % 2 ^ (MBX.CTRL.PART m).width)) ∧
  ((s.mb m).due = true → ((s.mb m).taken = true ∨ selMeridian (s.rd (MBX.SEL.CODE m)) = false) → Completes
      (.mbxCaptureStart m) s (fun t => (t.mb m).running = true ∧ (t.mb m).due = false ∧ t.rd (MBX.CTRL.PART m) = 0)) ∧
  ((s.mb m).running = true → Completes (.mbxCaptureComplete m ok) s (fun t => t.rd (MBX.CTRL.BUSY m) = 0 ∧ (t.mb
      m).running = false ∧ ((s.mb m).err = 0 → ((s.mb m).fromFlash = true → ok = true) → t.rd (MBX.CTRL.VALID m) =
      1))) ∧
  (s.rd MBX.BULK.HELD = 1 → s.rd MBX.BULK.HOLDER = m → s.rd (MBX.CTRL.VALID m) = 1 → Completes (.bulkBufferTimeout) s
      (fun t => t.rd MBX.BULK.HELD = 0 ∧ t.rd (MBX.CTRL.VALID m) = 0))

/-- Status, read, write, unknown and short frames on SPI and I2C without frame CRC, one word each and with the bytes
clocked beyond them: what is answered, what is stored, and the last result; with I2CWAKE in Dusk an I2C transfer waits
for the wake (R104 to R106, R111, R114, R398). -/
def Obligations.WireFramesComplete : Prop := ∀ (onI2c : Bool) (adr : BitVec 7) (a : Byte) (b : Byte) (c : Byte) (cmd
    : Byte) (w : Word) (k : Nat) (more : List Byte) (s : State), (s.phase = .running ∨ s.phase = .dusk) →
  Completes (.spiStatus) s (fun t => t.outs = [.tokel (0 :: leBytes 1 s.lastSpi)]) ∧
  Completes (.spiRead [0xA5] (k + 1)) s (fun t => t.outs = [.tokel (0 :: leBytes 1 s.lastSpi ++ List.replicate k
      0xFF)]) ∧
  (adr.toNat = s.i2cAddr → (s.phase = .running ∨ s.on NW.CTL.I2CWAKE = false) → Completes (.i2cStatus adr) s (fun t
      => t.outs = [.tokel (leBytes 1 s.lastI2c)])) ∧
  (adr.toNat = s.i2cAddr → (s.phase = .running ∨ s.on NW.CTL.I2CWAKE = false) → Completes (.i2cRead adr [0xA5] (k +
      1)) s (fun t => t.outs = [.tokel (leBytes 1 s.lastI2c ++ List.replicate k 0xFF)])) ∧
  (cmd ≠ 0xA1 → cmd ≠ 0xA2 → cmd ≠ 0xA5 → (onI2c = false ∨ s.phase = .running ∨ s.on NW.CTL.I2CWAKE = false) →
      Completes (.spiUnknownCommand onI2c cmd) s (fun t => t.rd SYS.LASTERR.CODE = 4 ∧ t.rd SYS.LASTERR.REQ = (wire
      onI2c).code ∧ t.outs = [.tokel [0xFF]])) ∧
  (s.rd SYS.TKCFG.SPICRC = 0 → 5 ≤ k → (a.toNat * 0x10000 + b.toNat * 0x100 + c.toNat) < 0x400000 → (a.toNat *
      0x10000 + b.toNat * 0x100 + c.toNat) % 4 = 0 → s.readCode .spi (.word (a.toNat * 0x10000 + b.toNat * 0x100 +
      c.toNat) none) = 0 → Completes (.spiRead [0xA1, a, b, c, 0] k) s (fun t => t.lastSpi = 0 ∧ t.outs = [.tokel
      (List.replicate 6 0 ++ leBytes 4 ((s.fresh.sample .spi (.word (a.toNat * 0x10000 + b.toNat * 0x100 + c.toNat)
      none)).1) ++ [0] ++ List.replicate (k - 5) 0xFF)])) ∧
  (adr.toNat = s.i2cAddr → (s.phase = .running ∨ s.on NW.CTL.I2CWAKE = false) → s.rd SYS.TKCFG.I2CCRC = 0 → 5 ≤ k →
      (a.toNat * 0x10000 + b.toNat * 0x100 + c.toNat) < 0x400000 → (a.toNat * 0x10000 + b.toNat * 0x100 + c.toNat) %
      4 = 0 → s.readCode .i2c (.word (a.toNat * 0x10000 + b.toNat * 0x100 + c.toNat) none) = 0 → Completes (.i2cRead
      adr [0xA1, a, b, c, 0] k) s (fun t => t.lastI2c = 0 ∧ t.outs = [.tokel (leBytes 4 ((s.fresh.sample .i2c (.word
      (a.toNat * 0x10000 + b.toNat * 0x100 + c.toNat) none)).1) ++ [0] ++ List.replicate (k - 5) 0xFF)])) ∧
  (s.rd SYS.TKCFG.SPICRC = 0 → Accepts .spi (a.toNat * 0x10000 + b.toNat * 0x100 + c.toNat) w.toNat s → (a.toNat *
      0x10000 + b.toNat * 0x100 + c.toNat) < 0x400000 → Completes (.spiWrite ([0xA2, a, b, c, 0] ++ leBytes 4 w.toNat
      ++ more)) s (fun t => t.lastSpi = 0 ∧ t.regs = (s.fresh.commitWord .spi (a.toNat * 0x10000 + b.toNat * 0x100 +
      c.toNat) w.toNat none).regs ∧ Out.tokel (clockOut (List.replicate 11 0) (9 + more.length)) ∈ t.outs)) ∧
  (adr.toNat = s.i2cAddr → (s.phase = .running ∨ s.on NW.CTL.I2CWAKE = false) → s.rd SYS.TKCFG.I2CCRC = 0 → Accepts
      .i2c (a.toNat * 0x10000 + b.toNat * 0x100 + c.toNat) w.toNat s → (a.toNat * 0x10000 + b.toNat * 0x100 +
      c.toNat) < 0x400000 → Completes (.i2cWrite adr ([0xA2, a, b, c, 0] ++ leBytes 4 w.toNat ++ more)) s (fun t =>
      t.lastI2c = 0 ∧ t.regs = (s.fresh.commitWord .i2c (a.toNat * 0x10000 + b.toNat * 0x100 + c.toNat) w.toNat
      none).regs)) ∧
  (s.crcOn onI2c = false → (onI2c = false ∨ s.phase = .running ∨ s.on NW.CTL.I2CWAKE = false) → Accepts (wire onI2c)
      (a.toNat * 0x10000 + b.toNat * 0x100 + c.toNat) w.toNat s → (a.toNat * 0x10000 + b.toNat * 0x100 + c.toNat) <
      0x3FFFFC → Completes (.shortFrame onI2c ([0xA2, a, b, c, 1] ++ leBytes 4 w.toNat)) s (fun t => t.lastResult
      onI2c = 5 ∧ t.regs = ((s.fresh.commitWord (wire onI2c) (a.toNat * 0x10000 + b.toNat * 0x100 + c.toNat) w.toNat
      none).lastErr (wire onI2c) 5).regs)) ∧
  (adr.toNat = s.i2cAddr → s.phase = .dusk → s.on NW.CTL.I2CWAKE = true → Completes (.i2cRead adr more k) s (fun t =>
      t.heldI2c = some (.read more k))) ∧
  (adr.toNat = s.i2cAddr → s.phase = .dusk → s.on NW.CTL.I2CWAKE = true → Completes (.i2cWrite adr more) s (fun t =>
      t.heldI2c = some (.write more))) ∧
  (adr.toNat = s.i2cAddr → s.phase = .dusk → s.on NW.CTL.I2CWAKE = true → Completes (.i2cStatus adr) s (fun t =>
      t.heldI2c = some .status))

/-- A vendor read, write and status of one word to a personality or the rescue personality that is addressed: the data
answered, the word stored, the acknowledgement and the result kept (R107, R108, R114). -/
def Obligations.VendorRequestsComplete : Prop := ∀ (u : Fin 5) (v : BitVec 16) (i : BitVec 16) (w : Word) (s :
    State), s.vendorSeen u = true → s.canSend (vendorOf u) = true → i.toNat < 256 → vendorAddr v.toNat i.toNat <
    0x400000 → vendorAddr v.toNat i.toNat % 4 = 0 →
  ((s.fresh.vendorSetup u).readCode (vendorOf u) (.word (vendorAddr v.toNat i.toNat) none) = 0 → Completes
      (.vendorRead u 0xC0 v i 4 true) s (fun t => ResultOk (vendorOf u) t ∧ t.outs = [.usb u (.data 1 (leBytes 4
      ((s.fresh.vendorSetup u).sample (vendorOf u) (.word (vendorAddr v.toNat i.toNat) none)).1))])) ∧
  ((s.fresh.vendorSetup u).writeCode (s.fresh.vendorSetup u) (vendorOf u) (.word (vendorAddr v.toNat i.toNat) none)
      w.toNat = 0 → Completes (.vendorWrite u 0x40 v i 4 (leBytes 4 w.toNat) true) s (fun t => ResultOk (vendorOf u)
      t ∧ t.regs = ((s.fresh.vendorSetup u).commitWord (vendorOf u) (vendorAddr v.toNat i.toNat) w.toNat none).regs ∧
      Out.usb u .ack ∈ t.outs)) ∧
  (v = 0 → i = 0 → Completes (.vendorStatus u 0xC0 v i 1) s (fun t => t.outs = [.usb u (.data 1 (leBytes 1 (if u.val
      < 4 then (s.up u).lastSts else s.rescue.lastSts)))]))

/-- An accepted write of a native word or of one bit through its alias stores and takes effect with the result E_OK;
one copy of a voted field that differs leaves the majority in force and is counted, and the rewrite makes the copies
agree (R114, R119, R121, R122). -/
def Obligations.RegisterWritesComplete : Prop := ∀ (r : Requester) (addr : BitVec 24) (w : Word) (wa : Nat) (b : Nat)
    (f : Field) (lo : Fin 32) (copy : Fin 3) (s : State),
  (Accepts r addr.toNat w.toNat s → addr.toNat < 0x400000 → Completes (.registerWrite r addr w) s (fun t => ResultOk
      r t ∧ t.regs = (s.fresh.commitWord r addr.toNat w.toNat none).regs)) ∧
  (Accepts r (0x400000 + addr.toNat % 0x400000) w.toNat s → placeOf (0x400000 + addr.toNat % 0x400000) = .word wa
      (some b) → Completes (.bitAliasWrite r addr w) s (fun t => ResultOk r t ∧ t.regs = (s.fresh.commitWord r wa
      (s.aliasWord wa b w.toNat) none).regs)) ∧
  ((s.phase = .running ∨ s.phase = .dusk) → trvField addr.toNat lo = some f → s.copies.find? (fun e => e.1 == f.key)
      = none → s.fixedAt.find? (fun e => e.1 == f.key) = none → w.toNat % 2 ^ f.width ≠ s.rd f → s.rd (FLT.FLTSEV.SEV
      .sys 1) ≠ 3 → Completes (.voteDisagree addr lo copy w) s (fun t => t.rd f = s.rd f % 2 ^ f.width ∧ t.copies.any
      (fun e => e.1 == f.key) = true ∧ CountsUp SYS.VOTECNT.COUNT s t ∧ bitAt (t.rd (FLT.FLTSTS.SRC .sys)) 1 = true))
      ∧
  (trvField addr.toNat lo = some f → s.copies.any (fun e => e.1 == f.key) = true → Completes (.voteRewrite addr lo) s
      (fun t => t.copies.any (fun e => e.1 == f.key) = false ∧ t.rd f = s.rd f))

/-- What a source port that is ready answers to each message, and a Request that is valid and fits is accepted with
its power committed (R297, R299, R302, R308, R342, R344). -/
def Obligations.PdMessagesComplete : Prop := ∀ (n : Fin 48) (rev : Fin 4) (req : PdReq) (uv : Bool) (s : State),
    SourceReady n s →
  (s.runs 8 = true → reqValid (s.port n).offer req = true → (reqPower (s.port n).offer req ≤ s.kOf n ∨ s.heldBack n =
      false ∧ s.fits n (reqPower (s.port n).offer req - s.kOf n) = true) → Completes (.request n rev req) s (fun t =>
      t.outs = [.pd n .accept] ∧ (t.port n).accepted = some req ∧ (t.port n).transRun = true ∧ t.kOf n = max (s.kOf
      n) (reqPower (s.port n).offer req) % 2 ^ (PWR.PBOOK.COMMIT n).width ∧ (rev.val ≠ 0 → t.rd (PRT.PDSTS.REV n) =
      rev.val))) ∧
  (s.runs 8 = true → reqValid (s.port n).offer req = true → (reqPower (s.port n).offer req ≤ s.kOf n ∨ s.heldBack n =
      false ∧ s.fits n (reqPower (s.port n).offer req - s.kOf n) = true) → Completes (.budgetRequest n (some req)) s
      (fun t => t.outs = [.pd n .accept] ∧ (t.port n).accepted = some req ∧ (t.port n).transRun = true)) ∧
  (s.runs 8 = true → reqValid (s.port n).offer req = false → Completes (.request n rev req) s (fun t => t.outs = [.pd
      n .reject] ∧ CountsUp (PRT.PDCNT.REJECTS n) s t ∧ (t.port n).accepted = none)) ∧
  Completes (.getSourceCap n) s (fun t => t.outs = [.pd n (.srcCaps .sent (s.pdos n (s.rd (PWR.PALLOW.ALLOW n))))] ∧
      (t.port n).awaitReq = true) ∧
  Completes (.softReset n) s (fun t => t.outs = [.pd n .accept, .pd n (.srcCaps .sent (s.pdos n (s.rd
      (PWR.PALLOW.ALLOW n))))] ∧ (t.port n).awaitReq = true) ∧
  Completes (.prSwap n) s (fun t => t.outs = [.pd n .reject]) ∧
  (s.rd (PRT.PDSTS.REV n) ≥ 2 → Completes (.getStatusPd n) s (fun t => t.outs = [.pd n (if s.on (QD.STS.WARN (quadOf
      n)) then .status 0 2 else .status 2 0)])) ∧
  ((uv = false ∨ s.rd (PRT.PDSTS.REV n) ≠ 1) → Completes (.unsupportedMessage n uv) s (fun t => t.outs = [.pd n (if
      s.rd (PRT.PDSTS.REV n) = 1 then .reject else .notSupported)])) ∧
  Completes (.sourceCapabilitiesReceived n) s (fun t => t.outs = [.pd n (if s.rd (PRT.PDSTS.REV n) = 1 then .reject
      else .notSupported)]) ∧
  Completes (.hardResetReceived n) s (fun t => (t.port n).hr = .waitPs ∧ CountsUp (PRT.PDCNT.HRRCVD n) s t ∧ t.rd
      (PRT.PDSTS.EXPLICIT n) = 0)

/-- The two directions of a VCONN swap, the answer or silence of the cable, and VCONN switched off by its over-current
(R304 to R307, R374). -/
def Obligations.VconnAndCableComplete : Prop := ∀ (n : Fin 48) (amps5 : Bool) (s : State),
  (SourceReady n s → s.rd (PRT.PDSTS.VCSRC n) = 1 → Completes (.vconnSwap n) s (fun t => t.outs = [.pd n .accept] ∧
      (t.port n).swap = .leaving)) ∧
  (SourceReady n s → s.rd (PRT.PDSTS.VCSRC n) = 0 → s.mayVconn n = true → Completes (.vconnSwap n) s (fun t => t.outs
      = [.pd n .accept, .vconn n true, .pd n .psRdy] ∧ t.rd (PRT.VCONN.ON n) = 1 ∧ t.rd (PRT.PDSTS.VCSRC n) = 1 ∧
      CountsUp (PRT.VCONN.SWAPCNT n) s t)) ∧
  (SourceReady n s → s.rd (PRT.PDSTS.VCSRC n) = 1 → (s.port n).swap = .sent → Completes (.vconnSwapAccept n) s (fun t
      => (t.port n).swap = .leaving)) ∧
  (SourceReady n s → s.rd (PRT.PDSTS.VCSRC n) = 0 → (s.port n).swap = .sent → Completes (.vconnSwapAccept n) s (fun t
      => t.rd (PRT.VCONN.ON n) = 1 ∧ t.rd (PRT.PDSTS.VCSRC n) = 1 ∧ (t.port n).swap = .none ∧ Out.pd n .psRdy ∈
      t.outs)) ∧
  (SourceReady n s → (s.port n).swap = .leaving → Completes (.psRdyReceived n) s (fun t => t.rd (PRT.VCONN.ON n) = 0
      ∧ t.rd (PRT.PDSTS.VCSRC n) = 0 ∧ (t.port n).swap = .none ∧ CountsUp (PRT.VCONN.SWAPCNT n) s t)) ∧
  (SourceReady n s → (s.port n).discovering = true → Completes (.cableIdentityResponse n amps5) s (fun t => t.rd
      (PRT.PDSTS.CABLE n) = (if amps5 then 2 else 1) ∧ (t.port n).discovering = false)) ∧
  (PolicyUp n s → (s.port n).discovering = true → Completes (.pdMessageFailed n true) s (fun t => t.rd
      (PRT.PDSTS.CABLE n) = 3 ∧ (t.port n).discovering = false)) ∧
  (s.rd (PRT.VCONN.ON n) = 1 → Completes (.vconnOvercurrent n) s (fun t => t.rd (PRT.VCONN.ON n) = 0 ∧ t.rd
      (PRT.PDSTS.VCSRC n) = 0 ∧ CountsUp (PRT.VCONN.OCCNT n) s t ∧ bitAt (t.rd (FLT.FLTSTS.SRC (.prt n))) 4 = true))

/-- The answers to Discover Identity, SVIDs and Modes, Enter and Exit Mode and other VDM commands in an explicit
revision 3.x contract (R309 to R312). -/
def Obligations.StructuredVdmsComplete : Prop := ∀ (n : Fin 48) (svid : BitVec 16) (cmd : BitVec 5) (s : State),
    SourceReady n s → s.vdmOk n = true →
  Completes (.discoverIdentity n) s (fun t => t.outs = [.pd n (.vdmAck 1 s.identityVdos)]) ∧
  Completes (.discoverSvids n) s (fun t => t.outs = [.pd n (if s.consvid = 0 then .vdmNak 2 else .vdmAck 2 [s.consvid
      * 65536])]) ∧
  Completes (.discoverModes n svid) s (fun t => t.outs = [.pd n (if s.consvid ≠ 0 ∧ svid.toNat = s.consvid then
      .vdmAck 3 [s.pdTable.2.2.2] else .vdmNak 3)]) ∧
  (svid.toNat = s.consvid → s.consvid ≠ 0 → s.rd (PRT.ALTMUX.ALLOW n) = 1 → (∀ m ∈ quadPorts (quadOf n), s.rd
      (PRT.ALTMUX.ACTIVE m) = 0) → Completes (.enterMode n svid 1) s (fun t => t.outs = [.pd n (.vdmAck 4 []), .sbu n
      true] ∧ t.rd (PRT.ALTMUX.ACTIVE n) = 1 ∧ t.rd (PRT.PDSTS.ALTMODE n) = 1)) ∧
  (svid.toNat ≠ s.consvid → Completes (.enterMode n svid 1) s (fun t => t.outs = [.pd n (.vdmNak 4)] ∧ CountsUp
      (PRT.ALTMUX.NAKCNT n) s t)) ∧
  (svid.toNat = s.consvid → s.consvid ≠ 0 → s.rd (PRT.ALTMUX.ACTIVE n) = 1 → Completes (.exitMode n svid) s (fun t =>
      t.outs = [.sbu n false, .pd n (.vdmAck 5 [])] ∧ t.rd (PRT.ALTMUX.ACTIVE n) = 0 ∧ t.rd (PRT.PDSTS.ALTMODE n) =
      0)) ∧
  Completes (.otherVdm n cmd) s (fun t => t.outs = [.pd n (.vdmNak cmd.toNat)])

/-- The supply's transition to an accepted voltage, PS_RDY, Source_Capabilities, an unanswered message, the steps of a
hard reset, the own sequences, and the request for vSafe5V (R23, R298 to R302, R344, R350). -/
def Obligations.PdTimersComplete : Prop := ∀ (n : Fin 48) (r : PdReq) (s : State), PolicyUp n s →
  ((s.port n).transRun = true → (s.port n).accepted = some r → Completes (.srcTransitionExpire n) s (fun t => (t.port
      n).transRun = false ∧ (t.port n).target = (((s.port n).offer[r.obj - 1]?).map (·.1)).getD 0)) ∧
  ((s.port n).accepted = some r → (s.port n).transRun = false → (s.port n).ramp = false → (s.port n).inWindow = true
      → s.rd (PRT.FUSSTS.PG n) = 1 → s.tc n = 6 → Completes (.psRdySend n) s (fun t => Out.pd n .psRdy ∈ t.outs ∧
      t.rd (PRT.PDSTS.EXPLICIT n) = 1 ∧ t.rd (PRT.PDSTS.OBJPOS n) = r.obj % 2 ^ (PRT.PDSTS.OBJPOS n).width ∧ t.rd
      (PRT.PDSTS.VSEL n) = (s.port n).target % 2 ^ (PRT.PDSTS.VSEL n).width ∧ t.rd (PRT.PDSTS.OPCURR n) = r.cur % 2 ^
      (PRT.PDSTS.OPCURR n).width ∧ (t.port n).accepted = none)) ∧
  ((s.port n).capsDue = true → s.rd (PRT.FUSSTS.PG n) = 1 → s.rd (PRT.PDCTL.PDEN n) = 1 → s.tc n = 6 → (s.port
      n).capsCount < 50 → Completes (.sourceCapabilitiesSend n) s (fun t => t.outs = [.pd n (.srcCaps .sent (s.pdos n
      (s.rd (PWR.PALLOW.ALLOW n))))] ∧ (t.port n).awaitReq = true ∧ (t.port n).capsCount = (s.port n).capsCount + 1))
      ∧
  ((s.port n).awaitReq = true → s.rd (PRT.PDSTS.EXPLICIT n) = 1 → s.tc n = 6 → (s.port n).hr = .none → Completes
      (.senderResponseTimeout n) s (fun t => (t.port n).hr = .waitPs ∧ Out.pd n .hardReset ∈ t.outs ∧ t.rd
      PWR.EVT.IGNHR = 1 ∧ CountsUp PWR.CNT.IGNHR s t)) ∧
  (s.rd (PRT.PDSTS.EXPLICIT n) = 1 → s.tc n = 6 → (s.port n).hr = .none → Completes (.pdMessageFailed n false) s (fun
      t => (t.port n).hr = .waitPs ∧ Out.pd n .hardReset ∈ t.outs)) ∧
  ((s.port n).hr = .waitPs → Completes (.psHardResetExpire n) s (fun t => t.tc n = 3 ∧ (t.port n).gate = false ∧
      (t.port n).hr = (if (s.port n).vbus then .discharge else .recover))) ∧
  ((s.port n).hr = .recover → Completes (.srcRecoverExpire n) s (fun t => (t.port n).hr = .none)) ∧
  ((s.port n).sinkTx = true → (s.port n).inSequence = false → s.tc n = 6 → (s.port n).ams = [.alert] → Completes
      (.sinkTxExpire n) s (fun t => t.outs = [.pd n .alert] ∧ (t.port n).ams = [] ∧ (t.port n).sinkTx = false ∧
      CountsUp (PRT.PDCNT.ALERTS n) s t)) ∧
  ((s.port n).ask = true → s.mayPower n = true → s.tc n = 3 → s.runs 8 = true → s.rd (PWR.PALLOW.WAIT n) = 0 →
      s.heldBack n = false → s.fits n (s.v5Amount n - s.kOf n) = true → Completes (.budgetRequest n none) s (fun t =>
      t.tc n = 6 ∧ (t.port n).gate = true ∧ (t.port n).ask = false ∧ t.rd (PRT.PDSTS.PWRROLE n) = 1 ∧ Out.gate n true
      false ∈ t.outs)) ∧
  ((s.port n).ask = true → s.mayPower n = true → s.tc n = 3 → s.runs 8 = true → s.rd (PWR.PALLOW.WAIT n) = 0 → s.fits
      n (s.v5Amount n - s.kOf n) = false → Completes (.budgetRequest n none) s (fun t => t.rd (PWR.PALLOW.WAIT n) = 1
      ∧ t.rd PWR.EVT.WAIT = 1 ∧ t.tc n = 3))

/-- Accepted writes of the PD commands, of PDEN, of KICK, of REARM and of FBICAP have their effect and the result E_OK
(R300, R302, R304, R305, R312, R313, R318, R334). -/
def Obligations.PdWritesComplete : Prop := ∀ (r : Requester) (n : Fin 48) (q : Fin 12) (w : Word) (s : State),
    s.phase = .running →
  (Accepts r (0x10024 + 0x400 * n) (withBit w.toNat 16 true) s → OnlyPulses (0x10024 + 0x400 * n) (withBit w.toNat 16
      true) s → Completes (.pdctlResend r n w) s (fun t => ResultOk r t ∧ Ams.resend ∈ (t.port n).ams)) ∧
  (Accepts r (0x10024 + 0x400 * n) (withBit w.toNat 17 true) s → OnlyPulses (0x10024 + 0x400 * n) (withBit w.toNat 17
      true) s → PolicyUp n s → s.tc n = 6 → (s.port n).hr = .none → Completes (.pdctlHreset r n w) s (fun t =>
      ResultOk r t ∧ (t.port n).hr = .waitPs ∧ Out.pd n .hardReset ∈ t.outs)) ∧
  (Accepts r (0x10024 + 0x400 * n) (withBit w.toNat 18 true) s → OnlyPulses (0x10024 + 0x400 * n) (withBit w.toNat 18
      true) s → Completes (.pdctlVcswap r n w) s (fun t => ResultOk r t ∧ Ams.vcSwap ∈ (t.port n).ams)) ∧
  (Accepts r (0x10024 + 0x400 * n) (withBit w.toNat 19 true) s → OnlyPulses (0x10024 + 0x400 * n) (withBit w.toNat 19
      true) s → Completes (.pdctlSoppdisc r n w) s (fun t => ResultOk r t ∧ Ams.sopDisc ∈ (t.port n).ams)) ∧
  (Accepts r (0x10024 + 0x400 * n) w.toNat s → Completes (.pdenWrite r n w) s (fun t => ResultOk r t ∧ t.rd
      (PRT.PDCTL.PDEN n) = inWord w.toNat (PRT.PDCTL.PDEN n))) ∧
  (Accepts r (0x1002C + 0x400 * n) (withBit w.toNat 1 true) s → s.rd (PRT.ALTMUX.ACTIVE n) = 1 → Completes
      (.altmuxKick r n w) s (fun t => ResultOk r t ∧ t.rd (PRT.ALTMUX.ACTIVE n) = 0 ∧ Ams.attention ∈ (t.port n).ams
      ∧ Out.sbu n false ∈ t.outs)) ∧
  (Accepts r (0x10040 + 0x400 * n) (withBit w.toNat 29 true) s → OnlyPulses (0x10040 + 0x400 * n) (withBit w.toNat 29
      true) s → s.rd (PRT.FUSSTS.TRIPS n) ≠ 0 → Completes (.rearm r n w) s (fun t => ResultOk r t ∧ t.rd
      (PRT.FUSSTS.TRIPS n) = 0 ∧ t.rd (PRT.FUSEVT.REARMED n) = 1 ∧ (t.port n).latched = false ∧ (t.port n).selfTest =
      .rearm)) ∧
  (Accepts r (0xE020 + 0x200 * q) w.toNat s → Completes (.fbicapWrite r q w) s (fun t => ResultOk r t ∧ t.rd
      (QD.CTL.FBICAP q) = inWord w.toNat (QD.CTL.FBICAP q)))

/-- Warn and Fail entry and exit of a quad, the shed walk and its timeout, the pacing of offers, the rebuilt books and
quad over-power (R336, R343, R346 to R349, R352, R374). -/
def Obligations.QuadAndBudgetEventsComplete : Prop := ∀ (q : Fin 12) (n : Fin 48) (s : State),
  ((s.phase = .running ∨ s.phase = .dusk) → s.rd (QD.STS.WARN q) = 0 → Completes (.quadWarnEnter q) s (fun t => t.rd
      (QD.STS.WARN q) = 1 ∧ t.rd (QD.STS.WARNWAS q) = 1 ∧ t.rd (QD.EVT.WARNIN q) = 1)) ∧
  ((s.phase = .running ∨ s.phase = .dusk) → s.rd (QD.STS.WARN q) = 1 → Completes (.quadWarnExit q) s (fun t => t.rd
      (QD.STS.WARN q) = 0 ∧ t.rd (QD.EVT.WARNOUT q) = 1)) ∧
  ((s.phase = .running ∨ s.phase = .dusk) → s.rd (QD.STS.FAIL q) = 0 → Completes (.quadFailEnter q) s (fun t => t.rd
      (QD.STS.FAIL q) = 1 ∧ t.rd (QD.STS.FAILWAS q) = 1 ∧ t.rd (QD.EVT.FAILIN q) = 1 ∧ (t.quad q).failTrig = true ∧
      (s.runs 8 = true → t.shedDue = true ∧ (t.quad q).failNew = true))) ∧
  ((s.phase = .running ∨ s.phase = .dusk) → s.rd (QD.STS.FAIL q) = 1 → Completes (.quadFailExit q) s (fun t => t.rd
      (QD.STS.FAIL q) = 0 ∧ t.rd (QD.EVT.FAILOUT q) = 1 ∧ (t.quad q).failTrig = false)) ∧
  (s.shedDue = true → s.runs 8 = true → Completes (.shedStart) s (fun t => t.shedDue = false ∧ t.rd PWR.EVT.SHEDIN =
      1)) ∧
  (s.phase = .running → (s.quad q).failNew = true → Completes (.failShedTimeout q) s (fun t => (t.quad q).failNew =
      false ∧ bitAt (t.rd (FLT.FLTSTS.SRC .pwr)) 1 = true)) ∧
  ((s.port n).readvRun = true → (s.port n).readvDue = false → Completes (.readvExpire n) s (fun t => (t.port
      n).readvRun = false)) ∧
  (s.runs 8 = true → Completes (.pe0Rebuild) s (fun t => t.rd PWR.EVT.REBUILD = 1 ∧ t.rd (PWR.PBOOK.CONTRACT n) =
      s.supplyPower n % 2 ^ (PWR.PBOOK.CONTRACT n).width ∧ t.rd (PWR.PBOOK.COMMIT n) = s.rebuiltK n % 2 ^
      (PWR.PBOOK.COMMIT n).width)) ∧
  (s.phase = .running → 80 ≤ (s.quad q).overM → Completes (.quadOverpower q) s (fun t => bitAt (t.rd (FLT.FLTSTS.SRC
      (.qd q))) 2 = true))

/-- Accepted writes of POOL, QCAP and PCFG take their values with the result E_OK, and a cap below what is committed
makes shedding due (R341, R342, R351). -/
def Obligations.BudgetWritesComplete : Prop := ∀ (r : Requester) (q : Fin 12) (n : Fin 48) (w : Word) (s : State),
    s.phase = .running →
  (Accepts r 0x9004 w.toNat s → Completes (.poolWrite r w) s (fun t => ResultOk r t ∧ t.rd PWR.POOL.POOL = inWord
      w.toNat PWR.POOL.POOL ∧ (s.runs 8 = true → inWord w.toNat PWR.POOL.POOL < s.kAll → t.poolTrig = true ∧
      t.shedDue = true))) ∧
  (Accepts r (0x9040 + 4 * q) w.toNat s → Completes (.qcapWrite r q w) s (fun t => ResultOk r t ∧ t.rd (PWR.QCAP.CAP
      q) = inWord w.toNat (PWR.QCAP.CAP q) ∧ t.rd (PWR.QCAP.FAILCAP q) = inWord w.toNat (PWR.QCAP.FAILCAP q) ∧
      (s.runs 8 = true → inWord w.toNat (PWR.QCAP.CAP q) < s.kQuad q → (t.quad q).capTrig = true ∧ t.shedDue =
      true))) ∧
  (Accepts r (0x9200 + 4 * n) w.toNat s → Completes (.pcfgWrite r n w) s (fun t => ResultOk r t ∧ t.rd (PWR.PCFG.PMAX
      n) = inWord w.toNat (PWR.PCFG.PMAX n) ∧ t.rd (PWR.PCFG.PRIO n) = inWord w.toNat (PWR.PCFG.PRIO n)))

/-- Delivery at the coalescing time, a claim and its completion, target reset, pending clear, the software source, and
the writes of CFG and TCTL (R357, R359, R361 to R363, R365, R370). -/
def Obligations.InterruptCommandsComplete : Prop := ∀ (r : Requester) (tg : Fin 13) (i : Fin 512) (w : Word) (s :
    State), s.phase = .running →
  (s.rd (ICU.TSTAT.HELD tg) ≠ 0 → (KMap.get none s.icuTimer tg).isSome = true → s.rd (ICU.TSTAT.LINE tg) = 0 → s.rd
      (ICU.TSTAT.ORDERR tg) = 0 → Completes (.coalesceTimeout tg) s (fun t => t.rd (ICU.TSTAT.HELD tg) = 0 ∧ t.rd
      (ICU.TSTAT.LINE tg) = (s.lowest tg).isSome.toNat ∧ KMap.get none t.icuTimer tg = none)) ∧
  (s.canSend r = true → s.readCode r (.word (0x5000 + 0x40 * tg) none) = 0 → s.rd (ICU.TSTAT.INSVC tg) = 0x3FF →
      s.lowest tg = some i.val → Completes (.icuClaim r tg) s (fun t => t.outs = [.tokel (leBytes 4 i ++ [0])] ∧ t.rd
      (ICU.TSTAT.INSVC tg) = i ∧ t.rd (ICU.SRC_STS.PEND i) = 0 ∧ t.rd (ICU.SRC_STS.INSVC i) = 1)) ∧
  (Accepts r (0x5004 + 0x40 * tg) w.toNat s → inWord w.toNat (ICU.DONE.SRC tg) = i → s.rd (ICU.TSTAT.INSVC tg) = i →
      Completes (.icuDone r tg w) s (fun t => ResultOk r t ∧ t.rd (ICU.TSTAT.INSVC tg) = 0x3FF ∧ t.rd
      (ICU.SRC_STS.INSVC i) = 0 ∧ t.rd (ICU.TSTAT.ORDERR tg) = 0)) ∧
  (Accepts r (0x5008 + 0x40 * tg) (withBit w.toNat 8 true) s → Completes (.trst r tg w) s (fun t => ResultOk r t ∧
      t.rd (ICU.TSTAT.INSVC tg) = 0x3FF ∧ t.rd (ICU.TSTAT.ORDERR tg) = 0)) ∧
  (Accepts r (0x4004 + 8 * i) (withBit w.toNat 4 true) s → srcExists i = true → Completes (.clrpend r i w) s (fun t
      => ResultOk r t ∧ t.rd (ICU.SRC_STS.PEND i) = 0)) ∧
  (Accepts r 0x5800 (withBit w.toNat 0 true) s → s.rd (ICU.SRC_STS.INSVC 511) = 0 → s.rd (ICU.SRC_STS.PEND 511) = 0 →
      Completes (.swtrig r w) s (fun t => ResultOk r t ∧ t.rd (ICU.SRC_STS.PEND 511) = 1)) ∧
  (Accepts r (0x4000 + 8 * i) w.toNat s → Completes (.srcCfgWrite r i w) s (fun t => ResultOk r t ∧ t.rd
      (ICU.SRC_CFG.EN i) = inWord w.toNat (ICU.SRC_CFG.EN i) ∧ t.rd (ICU.SRC_CFG.TGT i) = inWord w.toNat
      (ICU.SRC_CFG.TGT i) ∧ t.rd (ICU.SRC_CFG.NWW i) = inWord w.toNat (ICU.SRC_CFG.NWW i))) ∧
  (Accepts r (0x5008 + 0x40 * tg) w.toNat s → Completes (.tctlWrite r tg w) s (fun t => ResultOk r t ∧ t.rd
      (ICU.TCTL.CCOUNT tg) = inWord w.toNat (ICU.TCTL.CCOUNT tg) ∧ t.rd (ICU.TCTL.CTIME tg) = inWord w.toNat
      (ICU.TCTL.CTIME tg)))

/-- The grace timer's end takes the action, an acknowledge stops it, the quiet period's end and a cleared latch
restore the block or latch it, and a recovery ages out of the window (R377, R378, R380, R381). -/
def Obligations.FaultTimersComplete : Prop := ∀ (r : Requester) (b : Fin 74) (w : Word) (pass : Bool) (s : State),
    s.phase = .running →
  (s.rd (FLT.FLTTIMERS.STATE (FBlk.ofIdx b)) = 1 → (s.flt (FBlk.ofIdx b)).action = false → b.val ≠ 71 → Completes
      (.graceExpire b) s (fun t => (t.flt (FBlk.ofIdx b)).action = true ∧ t.rd (FLT.FLTTIMERS.STATE (FBlk.ofIdx b)) =
      (if 3 ≤ s.rd (FLT.RECOV.WINDOW (FBlk.ofIdx b)) ∨ b.val < 48 ∧ bitAt (s.flt (FBlk.ofIdx b)).major 1 = true then
      4 else 2))) ∧
  (Accepts r ((FBlk.ofIdx b).base + 12) (withBit w.toNat 0 true) s → s.rd (FLT.FLTTIMERS.STATE (FBlk.ofIdx b)) = 1 →
      Completes (.fltackAck r b w) s (fun t => ResultOk r t ∧ t.rd (FLT.FLTTIMERS.STATE (FBlk.ofIdx b)) = 0)) ∧
  (s.rd (FLT.FLTTIMERS.STATE (FBlk.ofIdx b)) = 2 → s.testPasses (FBlk.ofIdx b) pass = true → (b.val < 68 ∨ b.val =
      71) → Completes (.quietEnd b pass) s (fun t => t.rd (FLT.FLTTIMERS.STATE (FBlk.ofIdx b)) = 0 ∧ (t.flt
      (FBlk.ofIdx b)).action = false ∧ CountsUp (FLT.RECOV.COUNT (FBlk.ofIdx b)) s t)) ∧
  (s.rd (FLT.FLTTIMERS.STATE (FBlk.ofIdx b)) = 2 → s.testPasses (FBlk.ofIdx b) pass = true → ¬ (b.val < 68 ∨ b.val =
      71) → Completes (.quietEnd b pass) s (fun t => RestartsBoot 4 s t)) ∧
  (s.rd (FLT.FLTTIMERS.STATE (FBlk.ofIdx b)) = 2 → s.testPasses (FBlk.ofIdx b) pass = false → Completes (.quietEnd b
      pass) s (fun t => t.rd (FLT.FLTTIMERS.STATE (FBlk.ofIdx b)) = 4 ∧ t.rd (FLT.RECOV.LATCHED (FBlk.ofIdx b)) = 1 ∧
      t.rd (FLT.RECOV.LASTING (FBlk.ofIdx b)) = 1)) ∧
  (Accepts r ((FBlk.ofIdx b).base + 12) (withBit w.toNat 1 true) s → s.rd (FLT.FLTTIMERS.STATE (FBlk.ofIdx b)) = 4 →
      s.testPasses (FBlk.ofIdx b) pass = true → (b.val < 68 ∨ b.val = 71) → Completes (.clrlatch r b w pass) s (fun t
      => ResultOk r t ∧ t.rd (FLT.FLTTIMERS.STATE (FBlk.ofIdx b)) = 0 ∧ t.rd (FLT.RECOV.LATCHED (FBlk.ofIdx b)) = 0 ∧
      (t.flt (FBlk.ofIdx b)).action = false)) ∧
  (s.rd (FLT.RECOV.WINDOW (FBlk.ofIdx b)) ≠ 0 → Completes (.recoveryWindowExpire b) s (fun t => t.rd
      (FLT.RECOV.WINDOW (FBlk.ofIdx b)) = (s.rd (FLT.RECOV.WINDOW (FBlk.ofIdx b)) - 1) % 2 ^ (FLT.RECOV.WINDOW
      (FBlk.ofIdx b)).width))

/-- Each fault condition records its source, with what it switches off, and a watchdog miss stops its engine (R76,
R320, R374, R379, R383, R384, R388). -/
def Obligations.FaultConditionsComplete : Prop := ∀ (n : Fin 48) (u : Fin 4) (i : Fin 4) (e : Fin 11) (area :
    RetArea) (s : State),
  (s.phase = .running → (s.port n).gate = true → 100 ≤ (s.port n).trimAtLimit → Completes (.fbiTrimLimit n) s (fun t
      => bitAt (t.rd (FLT.FLTSTS.SRC (.prt n))) 3 = true)) ∧
  (s.phase = .running → s.rd (UPS.STS.DEVSTATE u) ≠ 0 → Completes (.upstreamCrcErrors u) s (fun t => bitAt (t.rd
      (FLT.FLTSTS.SRC (.ups u))) 1 = true)) ∧
  (s.phase = .running → Completes (.upstreamVbusOvervoltage u) s (fun t => bitAt (t.rd (FLT.FLTSTS.SRC (.ups u))) 0 =
      true)) ∧
  (s.phase = .running → Completes (.clkNwOutOfRange) s (fun t => bitAt (t.rd (FLT.FLTSTS.SRC .nw)) 0 = true)) ∧
  Completes (.retentionParityError area) s (fun t => bitAt (t.rd (FLT.FLTSTS.SRC .nw)) 1 = true ∧ (area = .trim →
      t.retain.phyTrim = none) ∧ (area = .digests → t.retain.digests = none) ∧ (area = .flashParams → t.retain.sfdp =
      false ∧ t.retain.compat = none) ∧ (area = .eclipse → t.retain.owners = [])) ∧
  (s.phase = .running → Completes (.coreDieOvertemp) s (fun t => bitAt (t.rd (FLT.FLTSTS.SRC .sys)) 3 = true ∧
      (s.safe = false → s.rd (FLT.FLTSEV.SEV .sys 3) = 3 → (s.flt .sys).action = false → t.safe = true))) ∧
  ((s.sec i).dieUp = true → Completes (.portDieOvertemp i) s (fun t => bitAt (t.rd (FLT.FLTSTS.SRC (.sec i))) 1 =
      true ∧ (t.sec i).hot = true ∧ ∀ k ∈ secPorts i, (t.port k).gate = false)) ∧
  (s.phase = .running → s.safe = false → s.runs e = true → s.missed.find? (fun m => m.1 == e.val) = none → Completes
      (.engineWatchdogMiss e) s (fun t => t.runs e = false ∧ t.missed.any (fun m => m.1 == e.val) = true)) ∧
  (s.faultWidth = true → s.rd SYS.FAULTPIN.FORCE = 0 → Completes (.faultNWidthEnd) s (fun t => t.faultWidth = false ∧
      t.rd SYS.FAULTPIN.PIN = 0 ∧ t.outs = [.faultN false]))

/-- ClearTTBuffer, ResetTT and StopTT in alternate setting 1, and the commands TTRST, ALMCLR and ALMEN 0 (R140, R181
to R183, R189). -/
def Obligations.TtCommandsComplete : Prop := ∀ (u : Fin 4) (j : Byte) (w : BitVec 16) (r : Requester) (x : Word) (n :
    Fin 48) (s : State),
  (HubPortOf u j.toNat n s → s.rd (UPS.STS.ALTSET u) = 1 → (bitsOf w.toNat 11 2 = 0 ∨ bitsOf w.toNat 11 2 = 2) →
      Completes (.clearTtBuffer u w j) s (fun t => (∀ b ∈ (t.port n).npLive, b.key ≠ (⟨bitsOf w.toNat 4 7, w.toNat %
      16, bitAt w.toNat 15⟩ : Key)) ∧ t.outs = [.usb u .ack])) ∧
  (HubPortOf u j.toNat n s → s.rd (UPS.STS.ALTSET u) = 1 → Completes (.resetTt u j) s (fun t => (t.port n).npLive =
      [] ∧ (t.port n).perLive = [] ∧ (t.port n).ctls = [] ∧ t.rd (PRT.QSTS.STOPPED n) = 0 ∧ t.outs = [.usb u .ack])) ∧
  (HubPortOf u j.toNat n s → (s.port n).busBusy = false → Completes (.stopTt u j) s (fun t => t.rd (PRT.QSTS.STOPPED
      n) = 1 ∧ t.outs = [.usb u .ack])) ∧
  (HubPortOf u j.toNat n s → (s.port n).busBusy = true → Completes (.stopTt u j) s (fun t => (t.port n).stopDue =
      true ∧ t.rd (PRT.QSTS.STOPPED n) = s.rd (PRT.QSTS.STOPPED n) ∧ t.outs = [.usb u .ack])) ∧
  (s.phase = .running → Accepts r (0x10060 + 0x400 * n) (withBit x.toNat 2 true) s → Completes (.ttrst r n x) s (fun
      t => ResultOk r t ∧ (t.port n).npLive = [] ∧ (t.port n).perLive = [] ∧ t.rd (PRT.QSTS.STOPPED n) = 0)) ∧
  (s.phase = .running → Accepts r (0x10060 + 0x400 * n) (withBit x.toNat 1 true) s → Completes (.almclr r n x) s (fun
      t => ResultOk r t ∧ ∀ e ∈ (t.port n).alm, e.2.st = 0)) ∧
  (s.phase = .running → s.rd (PRT.QCFG.ALMEN n) = 1 → inWord x.toNat (PRT.QCFG.ALMEN n) = 0 → Accepts r (0x10060 +
      0x400 * n) x.toNat s → Completes (.almenWrite r n x) s (fun t => ResultOk r t ∧ t.rd (PRT.QCFG.ALMEN n) = 0 ∧ ∀
      e ∈ (t.port n).alm, e.2.st = 0))

/-- SOF, the full-speed frame, learning timeout, a prefetch and its outcome, held handshakes, control holds and the
re-arm (R173, R180, R186, R197 to R204). -/
def Obligations.FramesAndAlmanacComplete : Prop := ∀ (u : Fin 4) (frame : BitVec 11) (uf : BitVec 3) (n : Fin 48) (k
    : Fin 16) (bt : Nat) (mode : Nat) (d : Dev) (adr : BitVec 7) (s : State),
  (s.phase = .running → 2 ≤ s.rd (UPS.STS.DEVSTATE u) → s.rd (UPS.STS.HS u) = 1 → s.rd (UPS.STS.SUSP u) = 0 →
      Completes (.hostSof u frame uf) s (fun t => (t.up u).frameM = 8 * frame.toNat + uf.toNat)) ∧
  (s.ttRuns n = true → (s.port n).sofOn = true → (s.port n).frameM < 16384 → Completes (.fsFrameStart n) s (fun t =>
      t.outs = [.sof n ((s.port n).frameM / 8)] ∧ ∀ r ∈ (t.port n).perLive, mDiff r.y ((s.port n).frameM - (s.port
      n).frameM % 8) < 8)) ∧
  ((s.almE n k).st = 1 → heldData (s.almE n k).held = false → Completes (.almanacLearningTimeout n k) s (fun t =>
      t.almE n k = AlmEntry.free)) ∧
  (s.ttRuns n = true → (s.port n).sofOn = true → s.mtrBlock n = 0 → (s.port n).busBusy = false → (s.port n).per.any
      (s.port n).ready = false → s.inRoom n (s.almE n k).mps false = true → s.mayPrefetch n k bt = true → (∀ i ∈
      List.range 16, s.mayPrefetch n i bt = true → s.goesFirst n k i = true) → Completes (.prefetchStart n k bt) s
      (fun t => t.outs = [.deviceIn n (s.almE n k).key] ∧ (t.almE n k).pfWire = some (s.rd (PRT.MTRCFG.MODE n)))) ∧
  ((s.almE n k).pfWire = some mode → (s.almE n k).polled = false → (s.almE n k).wd = false → Completes
      (.prefetchOutcome n k d) s (fun t => (t.almE n k).held = prefetchHeld mode (s.almE n k).mps d ∧ (t.almE n
      k).pfWire = none ∧ (heldData (prefetchHeld mode (s.almE n k).mps d) = true → t.outs = [.deviceAck n]))) ∧
  (((s.almE n k).held = some .nak ∨ (s.almE n k).held = some .stall) → (s.almE n k).pfFor.all (fun x => reached
      (s.port n).frameM x && (s.port n).frameM != x) = true → Completes (.heldHandshakeExpire n k) s (fun t =>
      (t.almE n k).held = none)) ∧
  ((s.port n).holds.any (fun x => x.1 == adr.toNat && reached (s.port n).frameM x.2 && decide (256 ≤ mDiff (s.port
      n).frameM x.2)) = true → Completes (.controlHoldTimeout n adr) s (fun t => (t.port n).holds.any (fun x => x.1
      == adr.toNat) = false ∧ (t.port n).ctls.any (fun x => x.addr == adr.toNat) = false)) ∧
  ((s.almE n k).rearm.any (reached (s.port n).frameM) = true → 2 ≤ (s.almE n k).st → s.armable n (s.almE n k) = true
      → (s.almE n k).miss < s.rd (PRT.MTRCFG.MISSLIM n) → Completes (.meteorRearm n k) s (fun t => (t.almE n k).rearm
      = none ∧ (t.almE n k).armed = true))

/-- A start-split takes a free buffer or record of the port's translator, and a complete-split of a done one takes its
outcome to the host (R174, R176, R177, R203, R224). -/
def Obligations.SplitTransactionsComplete : Prop := ∀ (u : Fin 4) (i : BitVec 7) (adr : BitVec 7) (ep : BitVec 4) (d
    : Bool) (iso : Bool) (low : Bool) (hub : Bool) (tog : Bool) (crcOk : Bool) (bs : List Byte) (req : BitVec 64) (n
    : Fin 48) (bf : NpBuf) (o : Held) (pid : Nat) (rc : PerRec) (s : State), s.splitPort u i.toNat = some n.val →
  (s.rd (PRT.QSTS.STOPPED n) = 0 → s.inRoom (48 + u) (tokLen .inTok) (tokSetup .inTok) = true → (∀ b ∈ (s.port
      n).npLive, b.key ≠ (⟨adr.toNat, ep.toNat, true⟩ : Key)) → (s.port n).npLive.length < 4 → Completes
      (.ssplitNonperiodic u i adr ep .inTok low crcOk) s (fun t => t.outs = [.usb u .ack] ∧ ∃ b ∈ (t.port n).np,
      b.key = (⟨adr.toNat, ep.toNat, true⟩ : Key) ∧ b.st = .queued ∧ b.dead = false)) ∧
  (s.rd (PRT.QSTS.STOPPED n) = 0 → s.inRoom (48 + u) (tokLen (.out tog bs)) (tokSetup (.out tog bs)) = true → (∀ b ∈
      (s.port n).npLive, b.key ≠ (⟨adr.toNat, ep.toNat, false⟩ : Key)) → (s.port n).npLive.length < 4 → Completes
      (.ssplitNonperiodic u i adr ep (.out tog bs) low true) s (fun t => t.outs = [.usb u .ack] ∧ ∃ b ∈ (t.port
      n).np, b.key = (⟨adr.toNat, ep.toNat, false⟩ : Key) ∧ b.st = .queued ∧ b.dead = false)) ∧
  (s.rd (PRT.QSTS.STOPPED n) = 0 → s.inRoom (48 + u) (tokLen (.setup req)) (tokSetup (.setup req)) = true → (∀ b ∈
      (s.port n).npLive, b.key ≠ (⟨adr.toNat, ep.toNat, false⟩ : Key)) → (s.port n).npLive.length < 4 → Completes
      (.ssplitNonperiodic u i adr ep (.setup req) low true) s (fun t => t.outs = [.usb u .ack] ∧ ∃ b ∈ (t.port n).np,
      b.key = (⟨adr.toNat, ep.toNat, false⟩ : Key) ∧ b.st = .queued ∧ b.dead = false ∧ (t.port n).holds.any (fun x =>
      x.1 == adr.toNat) = true)) ∧
  ((s.port n).np.find? (fun b => b.key == (⟨adr.toNat, ep.toNat, d⟩ : Key) && !b.dead) = some bf → bf.st = .done o →
      Completes (.csplitNonperiodic u i adr ep d) s (fun t => t.outs = [.usb u (if o = .err then .nothing else
      o.ans)] ∧ ∀ b ∈ (t.port n).npLive, b.key ≠ (⟨adr.toNat, ep.toNat, d⟩ : Key))) ∧
  (s.rd (PRT.QSTS.STOPPED n) = 0 → s.perRoom n (⟨⟨adr.toNat, ep.toNat, d⟩, iso, low, hub, ((s.up u).frameM + 1) %
      16384, tog.toNat, bs, [], .queued, false⟩ : PerRec) = true → (∀ e ∈ (s.port n).alm, e.2.key = (⟨adr.toNat,
      ep.toNat, d⟩ : Key) → e.2.held = none ∧ e.2.pfWire = none) → Completes (.ssplitPeriodic u i adr ep d iso low
      hub tog bs) s (fun t => (⟨⟨adr.toNat, ep.toNat, d⟩, iso, low, hub, ((s.up u).frameM + 1) % 16384, tog.toNat,
      bs, [], .queued, false⟩ : PerRec) ∈ (t.port n).per)) ∧
  ((s.port n).per.find? (fun r => r.key == (⟨adr.toNat, ep.toNat, d⟩ : Key) && !r.dead) = some rc → rc.st = .done
      (.data pid bs) → (rc.iso = true → bs.length ≤ 188) → Completes (.csplitPeriodic u i adr ep ⟨d, bs⟩) s (fun t =>
      t.outs = [.usb u (.data (if rc.iso then 0 else pid) bs)] ∧ rc ∉ (t.port n).per)) ∧
  ((s.port n).per.find? (fun r => r.key == (⟨adr.toNat, ep.toNat, d⟩ : Key) && !r.dead) = some rc → rc.st = .done
      (.data pid bs) → rc.iso = true → 188 < bs.length → Completes (.csplitPeriodic u i adr ep ⟨d, []⟩) s (fun t =>
      t.outs = [.usb u (.mdata (bs.take 188))] ∧ ∃ x ∈ (t.port n).per, x.key = rc.key ∧ x.st = .done (.data pid
      (bs.drop 188)))) ∧
  ((s.port n).per.find? (fun r => r.key == (⟨adr.toNat, ep.toNat, d⟩ : Key) && !r.dead) = some rc → rc.st = .wire →
      rc.iso = true → d = true → Completes (.csplitPeriodic u i adr ep ⟨d, bs⟩) s (fun t => t.outs = [.usb u (.mdata
      (bs.take 188))]))

/-- The oldest waiting non-periodic transaction goes to the wire where the bus is free, a periodic one where it fits
before the late limit, and what the device does is stored (R175, R177 to R179). -/
def Obligations.TtBusComplete : Prop := ∀ (n : Fin 48) (bf : NpBuf) (rc : PerRec) (rs : List PerRec) (bt : Nat) (d :
    Dev) (s : State),
  (s.ttRuns n = true → (s.port n).sofOn = true → s.rd (PRT.QSTS.STOPPED n) = 0 → (s.port n).busBusy = false → (s.port
      n).per.any (s.port n).ready = false → s.inRoom n 64 false = true → (s.mtrBlock n == 0 && (List.range 16).any
      (fun j => s.mayPrefetch n j bt)) = false → (s.port n).np.find? (fun b => b.st == .queued && !b.dead) = some bf
      → Completes (.ttNonperiodicStart ⟨n, bt⟩) s (fun t => t.outs = [if bf.key.dirIn then .deviceIn n bf.key else
      .device n bf.key (if bf.setup.isSome then 0x2D else bf.pid) bf.bytes] ∧ ∃ b ∈ (t.port n).np, b.key = bf.key ∧
      b.st = .wire)) ∧
  ((s.port n).np.find? (fun b => b.st == .wire) = some bf → bf.dead = false → Completes (.ttTransactionComplete n d)
      s (fun t => ∃ b ∈ (t.port n).np, b.key = bf.key ∧ b.st = .done (npHeld bf.key.dirIn d))) ∧
  (s.ttRuns n = true → (s.port n).sofOn = true → s.rd (PRT.QSTS.STOPPED n) = 0 → (s.port n).busBusy = false → (s.port
      n).per.filter (s.port n).ready = rc :: rs → bt + ttCost rc.low rc.behindHub rc.iso (s.lenOf n rc) ≤ 1496 →
      Completes (.periodicReady n bt) s (fun t => t.outs = [if rc.key.dirIn then .deviceIn n rc.key else .device n
      rc.key rc.pid rc.bytes] ∧ ∃ x ∈ (t.port n).per, x.key = rc.key ∧ x.st = .wire))

/-- SETUP, OUT, PING, IN and isochronous traffic of a host with a routed high-speed device: admitted where there is
room, NAKed or dropped and counted where there is none, a held DATA given (R21, R216, R221, R222, R224). -/
def Obligations.RelayCommandsComplete : Prop := ∀ (u : Fin 4) (adr : BitVec 7) (ep : BitVec 4) (tog : Bool) (acked :
    Bool) (dp : Fin 4) (req : BitVec 64) (bs : List Byte) (n : Fin 48) (x : Slot) (pid : Nat) (s : State), s.phase =
    .running → s.rd (UPS.STS.ADDR u) ≠ adr.toNat → s.relayPort u adr.toNat = some n.val →
  (s.inRoom (48 + u) 8 true = true → Completes (.hostSetup u adr ep req true) s (fun t => t.outs = [.usb u .ack] ∧ ∃
      q ∈ t.sw.packets, q.inp = 48 + u ∧ q.out = n ∧ q.kind = .setup ∧ q.key = (⟨adr.toNat, ep.toNat, false⟩ : Key) ∧
      q.bytes = (Setup.ofBits req).bytes)) ∧
  (s.stopSlot n (⟨adr.toNat, ep.toNat, false⟩ : Key) = none → s.outAdmits n = true → s.inRoom (48 + u) 1024 false =
      true → bs.length ≤ 1024 → Completes (.hostOut u adr ep tog bs) s (fun t => t.outs = [] ∧ ∃ q ∈ t.sw.packets,
      q.inp = 48 + u ∧ q.out = n ∧ q.kind = .out ∧ q.key = (⟨adr.toNat, ep.toNat, false⟩ : Key) ∧ q.tail = .receiving
      ∧ q.bytes = bs)) ∧
  (s.stopSlot n (⟨adr.toNat, ep.toNat, false⟩ : Key) = none → (s.outAdmits n = false ∨ s.inRoom (48 + u) 1024 false =
      false) → Completes (.hostOut u adr ep tog bs) s (fun t => t.outs = [.usb u .nak] ∧ CountsUp (SWX.CNTB.ADMNAK u)
      s t)) ∧
  (s.stopSlot n (⟨adr.toNat, ep.toNat, false⟩ : Key) = none → s.outAdmits n = true → s.inRoom (48 + u) 1024 false =
      true → Completes (.hostPing u adr ep) s (fun t => t.outs = [.usb u .ack])) ∧
  (s.stopSlot n (⟨adr.toNat, ep.toNat, false⟩ : Key) = none → (s.outAdmits n = false ∨ s.inRoom (48 + u) 1024 false =
      false) → Completes (.hostPing u adr ep) s (fun t => t.outs = [.usb u .nak] ∧ CountsUp (SWX.CNTB.ADMNAK u) s t))
      ∧
  (s.seUp n = true → s.stopSlot n (⟨adr.toNat, ep.toNat, true⟩ : Key) = none → s.slot n (⟨adr.toNat, ep.toNat, true⟩
      : Key) = some x → x.held = some (.data pid bs) → Completes (.hostIn u adr ep acked) s (fun t => t.outs = [.usb
      u (.data pid bs)] ∧ (acked = true → ∀ y ∈ (t.port n).slots, y.key = (⟨adr.toNat, ep.toNat, true⟩ : Key) →
      y.held = none))) ∧
  (s.seUp n = true → s.slot n (⟨adr.toNat, ep.toNat, true⟩ : Key) = some x → x.held = some (.data pid bs) → Completes
      (.hostIsoIn u adr ep) s (fun t => t.outs.head? = some (.usb u (.data pid bs)))) ∧
  (s.outAdmits n = true → s.inRoom (48 + u) 1024 false = true → bs.length ≤ 1024 → Completes (.hostIsoOut u adr ep dp
      bs true) s (fun t => t.outs = [] ∧ ∃ q ∈ t.sw.packets, q.out = n ∧ q.kind = .isoOut ∧ q.key = (⟨adr.toNat,
      ep.toNat, false⟩ : Key) ∧ q.pid = dp ∧ q.bytes = bs)) ∧
  ((s.outAdmits n = false ∨ s.inRoom (48 + u) 1024 false = false) → Completes (.hostIsoOut u adr ep dp bs true) s
      (fun t => t.outs = [] ∧ t.sw = s.sw ∧ CountsUp (SWX.CNTC.ISODROP u) s t))

/-- Cut-through, a fabric beat in the input's turn, a packet's tail and its release, the discard of a late isochronous
OUT, and a beat towards an output that R214 does not permit (R212 to R215, R219, R222, R242). -/
def Obligations.FabricCommandsComplete : Prop := ∀ (id : Nat) (out : Fin 53) (p : Pkt) (x : Slot) (s : State), s.pkt
    id = some p →
  (p.kind = .isoOut → mDiff (s.up p.side).frameM p.age ≠ 0 → Completes (.isoOutLateDiscard id) s (fun t => (∀ q ∈
      t.sw.packets, q.id ≠ id) ∧ CountsUp (SWX.CNTC.ISODROP (cntIdx p.side)) s t)) ∧
  (p.started = false → p.asking = false → s.atHead p = true → (p.tail ≠ .receiving ∨ s.rd PKM.CTL.CUTTHR ≤ p.wrW) →
      Completes (.cutThroughStart id) s (fun t => ∃ q ∈ t.sw.packets, q.id = id ∧ q.started = true)) ∧
  (s.copyable p = true → s.nextIn = some p.inp → s.pairOk p.inp out = true → p.out = out → Completes (.fabricBeat id
      out) s (fun t => t.sw.beats = s.sw.beats + 1 ∧ t.sw.lastIn = p.inp ∧ ∃ q ∈ t.sw.packets, q.id = id ∧ q.rdW =
      p.rdW + min 2 (p.wrW - p.rdW))) ∧
  (s.copyable p = true → s.nextIn = some p.inp → s.pairOk p.inp out = false → p.out ≠ out → Completes (.fabricBeat id
      out) s (fun t => bitAt (t.rd (FLT.FLTSTS.SRC .swx)) 0 = true)) ∧
  (p.tail = .receiving → p.released = false → p.void = false → s.destOk p = true → s.iqHeld p.inp + ((p.bytes.length
      + 7) / 8 - p.wrW) ≤ s.iqWords p.inp → p.kind = .out → p.nyet = false → Completes (.packetTail id true) s (fun t
      => t.outs = [.usb p.side .ack] ∧ ∃ q ∈ t.sw.packets, q.id = id ∧ q.tail = .good)) ∧
  (p.tail = .receiving → p.released = false → p.void = false → s.destOk p = true → s.iqHeld p.inp + ((p.bytes.length
      + 7) / 8 - p.wrW) ≤ s.iqWords p.inp → p.kind = .inData → s.slot p.inp p.key = some x → x.iso = false →
      Completes (.packetTail id true) s (fun t => t.outs = [.deviceAck p.inp] ∧ ∃ q ∈ t.sw.packets, q.id = id ∧
      q.tail = .good)) ∧
  (p.tail = .receiving → p.released = false → Completes (.packetTail id false) s (fun t => (∀ q ∈ t.sw.packets, q.id
      ≠ id) ∧ CountsUp (SWX.CNTA.BADTAIL (cntIdx p.side)) s t)) ∧
  (p.tail = .good → p.copied = true → p.released = false → (s.sw.packets.any (fun q => q.inp == p.inp && q.out ==
      p.out && decide (q.id < p.id) && !q.released)) = false → s.destOk p = true → s.seUp p.inp = true → p.kind =
      .inData → s.slot p.inp p.key = some x → Completes (.packetRelease id) s (fun t => ∃ y ∈ (t.port p.inp).slots,
      y.key = p.key ∧ y.held = some (.data p.pid p.bytes) ∧ y.asked = false)) ∧
  (p.tail = .good → p.copied = true → p.released = false → (s.sw.packets.any (fun q => q.inp == p.inp && q.out ==
      p.out && decide (q.id < p.id) && !q.released)) = false → s.destOk p = true → (s.sw.packets.any (fun q => q.out
      == p.out && q.kind != .inData && q.released)) = false → s.hub p.out = HS.enabled → (p.kind = .setup ∨ p.kind =
      .out ∧ (s.port p.out).pingKeys.contains p.key = false) → Completes (.packetRelease id) s (fun t => t.outs =
      [.device p.out p.key p.pid p.bytes] ∧ ∃ q ∈ t.sw.packets, q.id = id ∧ q.released = true)) ∧
  (p.tail = .good → p.copied = true → p.released = false → (s.sw.packets.any (fun q => q.inp == p.inp && q.out ==
      p.out && decide (q.id < p.id) && !q.released)) = false → s.destOk p = true → (s.sw.packets.any (fun q => q.out
      == p.out && q.kind != .inData && q.released)) = false → s.hub p.out = HS.enabled → p.kind = .isoOut → mDiff
      (s.up p.side).frameM p.age = 1 → Completes (.packetRelease id) s (fun t => t.outs = [.device p.out p.key p.pid
      p.bytes] ∧ ∀ q ∈ t.sw.packets, q.id ≠ id))

/-- A device's ACK frees the packet, its DATA is received, a NAK returns the reservation, held isochronous data and
idle slots are given up, and in-flight granules come back (R21, R218, R220, R222, R238). -/
def Obligations.RelayAnswersComplete : Prop := ∀ (n : Fin 48) (adr : BitVec 7) (ep : BitVec 4) (d : Bool) (pid : Nat)
    (bs : List Byte) (p : Pkt) (x : Slot) (s : State),
  (s.sw.packets.find? (fun q => q.out == n.val && q.kind != .inData && q.released) = some p → p.pinging = false →
      Completes (.downstreamOutResponse n .ack) s (fun t => ∀ q ∈ t.sw.packets, q.id ≠ p.id)) ∧
  (s.sw.packets.find? (fun q => q.inp == n.val && q.kind == .inData && q.key == (⟨adr.toNat, ep.toNat, true⟩ : Key)
      && q.tail == .receiving && q.released) = some p → s.iqHeld n + bs.length / 8 ≤ s.iqWords n → Completes
      (.downstreamInResponse n adr ep (.data pid bs)) s (fun t => ∃ q ∈ t.sw.packets, q.id = p.id ∧ q.pid = pid ∧
      q.bytes = bs ∧ q.released = false)) ∧
  (s.sw.packets.find? (fun q => q.inp == n.val && q.kind == .inData && q.key == (⟨adr.toNat, ep.toNat, true⟩ : Key)
      && q.tail == .receiving && q.released) = some p → Completes (.downstreamInResponse n adr ep .nak) s (fun t => ∀
      q ∈ t.sw.packets, q.id ≠ p.id)) ∧
  (s.seUp n = true → s.slot n (⟨adr.toNat, ep.toNat, true⟩ : Key) = some x → x.iso = true → heldData x.held = true →
      Completes (.isoHeldExpire n adr ep) s (fun t => (∀ y ∈ (t.port n).slots, y.key = (⟨adr.toNat, ep.toNat, true⟩ :
      Key) → y.held = none) ∧ CountsUp (SWX.CNTC.ISODROP (cntIdx (s.owner n))) s t)) ∧
  (s.seUp n = true → s.slot n (⟨adr.toNat, ep.toNat, d⟩ : Key) = some x → x.held = none → x.asked = false → 8 ≤
      x.idle → s.sw.packets.any (fun q => q.port == n && q.key == (⟨adr.toNat, ep.toNat, d⟩ : Key)) = false →
      Completes (.relaySlotFree n adr ep d) s (fun t => ∀ y ∈ (t.port n).slots, y.key ≠ (⟨adr.toNat, ep.toNat, d⟩ :
      Key))) ∧
  Completes (.granuleReturn) s (fun t => t.rd PKM.GCNT1.INFLIGHT = 0 ∧ t.rd PKM.GCNT0.FREE = (s.rd PKM.GCNT0.FREE +
      s.rd PKM.GCNT1.INFLIGHT) % 2 ^ PKM.GCNT0.FREE.width)

/-- Corrected and uncorrectable errors are counted and list their line, a fence takes the first pending line and ends
in a transient result or a retirement, an overlay is written back, a descriptor takes its value (R233, R235, R236,
R245 to R249, R251). -/
def Obligations.PacketMemoryCommandsComplete : Prop := ∀ (line : Fin 32768) (bank : Bool) (at_ : ErrAt) (rest : List
    Nat) (r : Requester) (d : Fin 155) (w : Word) (l : Nat) (g : Nat) (s : State),
  Completes (.correctedError line) s (fun t => CountsUp PKM.ECCCNT.CORR s t) ∧
  (s.sw.fence.active ≠ some line.val → s.sw.fence.pending.contains line.val = false → s.sw.fence.pending.length < 16
      → Completes (.correctedError line) s (fun t => t.sw.fence.pending = s.sw.fence.pending ++ [line.val])) ∧
  Completes (.uncorrectableError ⟨line, bank⟩ at_) s (fun t => CountsUp PKM.ECCCNT.UNCORR s t) ∧
  (s.sw.fence.active ≠ some line.val → s.sw.fence.pending.length < 16 → Completes (.uncorrectableError ⟨line, false⟩
      .idle) s (fun t => t.sw.fence.pending.head? = some line.val)) ∧
  Completes (.uncorrectableError ⟨line, true⟩ .idle) s (fun t => t.sw.fence.pending = s.sw.fence.pending) ∧
  (s.sw.fence.active = none → s.sw.fence.pending = l :: rest → s.sw.fence.writeback = false → s.sw.fence.ending =
      false → Completes (.fenceStart) s (fun t => t.sw.fence.active = some l ∧ t.sw.fence.buf = s.sw.line l ∧
      t.sw.fence.pending = rest ∧ t.rd PKM.FENCE.ACTIVE = 1 ∧ t.rd PKM.FENCE.LINE = l % 2 ^ 15 ∧ t.rd
      PKM.FENCE.RESULT = 0 ∧ t.rd PKM.GCNT1.FENCED = 1 ∧ t.rd PKM.FENCE.FALLBACK = (if fallMode (s.regionOf l) = 0
      then 0 else 1))) ∧
  (s.sw.fence.active = some l → s.sw.fence.waiting = false → Completes (.fenceTestComplete true) s (fun t =>
      t.sw.fence.active = none ∧ t.rd PKM.FENCE.ACTIVE = 0 ∧ t.rd PKM.FENCE.RESULT = 1 ∧ t.rd PKM.GCNT1.FENCED = 0 ∧
      CountsUp PKM.LINECNT.TRANSIENT s t)) ∧
  (s.sw.fence.active = some l → s.sw.fence.waiting = false → s.freeSpare = some g → Completes (.fenceTestComplete
      false) s (fun t => t.sw.fence.active = none ∧ t.rd PKM.FENCE.RESULT = 2 ∧ (l, g) ∈ t.sw.fence.map ∧ t.rd
      PKM.GCNT1.RETIRED = (s.rd PKM.GCNT1.RETIRED + 1) % 2 ^ 16 ∧ t.rd PKM.GCNT2.SPAREUSED = (s.rd
      PKM.GCNT2.SPAREUSED + 1) % 2 ^ 9 ∧ CountsUp PKM.LINECNT.LASTING s t)) ∧
  (s.sw.fence.active = some l → s.sw.fence.waiting = true → s.rd PKM.GCNT2.POOLFREE ≠ 0 →
      (s.poolLines[s.poolLent]?).isSome = true → Completes (.replacementAvailable) s (fun t => t.sw.fence.active =
      none ∧ t.sw.fence.waiting = false ∧ t.rd PKM.FENCE.RESULT = 2 ∧ ∃ m ∈ t.sw.fence.map, m.1 = l ∧ s.regionOf m.2
      = none)) ∧
  (s.sw.fence.writeback = true → Completes (.overlayWritebackComplete) s (fun t => t.sw.fence.writeback = false ∧
      t.sw.fence.mode = 0 ∧ t.rd PKM.FENCE.FALLBACK = 0)) ∧
  (s.phase = .running → Accepts r (0xA400 + 4 * d) w.toNat s → Completes (.rgnWrite r d w) s (fun t => ResultOk r t ∧
      t.rd (PKM.RGN.BASE d) = inWord w.toNat (PKM.RGN.BASE d) ∧ t.rd (PKM.RGN.SIZE d) = inWord w.toNat (PKM.RGN.SIZE
      d)))

/-- A request is held, the handover goes through RELEASING, TRANSIT, CLAIMING and OWNED, and the writes of PRSTRT, OOS
and EN take effect (R138, R165, R166, R256 to R260, R264). -/
def Obligations.OwnershipCommandsComplete : Prop := ∀ (r : Requester) (n : Fin 48) (u : Fin 4) (w : Word) (tgt : Nat)
    (c : Nat) (s : State), s.phase = .running →
  (Accepts r (0x1000C + 0x400 * n) (withBit w.toNat 11 true) s → Completes (.ownerGo r n w) s (fun t => ResultOk r t
      ∧ (t.port n).request = some (inWord (withBit w.toNat 11 true) (PRT.OWNER.REQTO n), r.code))) ∧
  ((s.port n).request = some (tgt, c) → (s.port n).reqSampled = true → s.owned n = true → (s.port n).restart = false
      → (s.port n).hr = .none → (s.sec (secOf n)).restarting = false → Completes (.handoverReleasing n) s (fun t =>
      t.rd (PRT.OWNER.STATE n) = 1 ∧ t.rd (PRT.OWNER.NEXT n) = tgt % 8 ∧ t.rd (PRT.OWNER.LASTBY n) = c % 8 ∧ t.rd
      (PRT.OWNER.LASTRES n) = 0 ∧ t.owner n = s.owner n ∧ (t.port n).request = none)) ∧
  ((s.port n).request = some (tgt, c) → (s.port n).reqSampled = true → s.owned n = true → ((s.port n).restart = true
      ∨ (s.port n).hr ≠ .none ∨ (s.sec (secOf n)).restarting = true) → Completes (.handoverReleasing n) s (fun t =>
      t.rd (PRT.OWNER.STATE n) = 2 ∧ t.owner n = 7 ∧ t.rd (PRT.OWNER.NEXT n) = tgt % 8 ∧ (t.port n).request = none)) ∧
  (s.rd (PRT.OWNER.STATE n) = 1 → Completes (.handoverTransit n) s (fun t => t.rd (PRT.OWNER.STATE n) = 2 ∧ t.owner n
      = 7)) ∧
  (s.rd (PRT.OWNER.STATE n) = 2 → (s.port n).hoHold = false → Completes (.handoverClaiming n) s (fun t => t.rd
      (PRT.OWNER.STATE n) = 3 ∧ t.owner n = s.rd (PRT.OWNER.NEXT n) % 8)) ∧
  ((s.rd (PRT.OWNER.STATE n) = 2 ∨ s.rd (PRT.OWNER.STATE n) = 3) → (s.port n).hoHold = true → (s.port n).hoEnded =
      true → Completes (.handoverClaiming n) s (fun t => t.rd (PRT.OWNER.STATE n) = 3 ∧ t.owner n = s.rd
      (PRT.OWNER.NEXT n) % 8 ∧ (t.port n).hoHold = false)) ∧
  (s.rd (PRT.OWNER.STATE n) = 3 → (s.port n).hoHold = false → Completes (.handoverOwned n) s (fun t => t.rd
      (PRT.OWNER.STATE n) = 0 ∧ t.rd (PRT.OWNER.NEXT n) = 7 ∧ t.owner n = s.owner n ∧ CountsUp (PRT.OWNCNT.DONE n) s
      t)) ∧
  (Accepts r (0x10008 + 0x400 * n) (withBit w.toNat 0 true) s → Completes (.prstrt r n w) s (fun t => ResultOk r t ∧
      (t.port n).restart = true ∧ t.hub n = HS.off)) ∧
  (Accepts r (0x10008 + 0x400 * n) w.toNat s → bitAt w.toNat 0 = false → Completes (.oosWrite r n w) s (fun t =>
      ResultOk r t ∧ t.rd (PRT.CTL.OOS n) = inWord w.toNat (PRT.CTL.OOS n))) ∧
  (Accepts r (0xC000 + 0x400 * u) w.toNat s → Completes (.personalityEnWrite r u w) s (fun t => ResultOk r t ∧ t.rd
      (UPS.CTL.EN u) = inWord w.toNat (UPS.CTL.EN u)))

/-- Enumeration from its start to the address, a request timeout, the records and the heartbeat (R273, R274, R277,
R279, R281). -/
def Obligations.LodestarCommandsComplete : Prop := ∀ (n : Fin 48) (pid : Nat) (bs : List Byte) (s : State), s.ldsOwns
    n = true →
  ((s.entry n).state = 1 → s.ldsBusy < 8 → (∀ m ∈ allPorts, (s.entry m).state = 1 → s.ldsFirst n m = true) →
      Completes (.ldsEnumStart n) s (fun t => (t.entry n).state = 2 ∧ t.rd (LDS.RSUM.STATE n) = 2 ∧ (t.port
      n).lds.step = .connectWait ∧ (t.port n).lds.attempt = 1)) ∧
  ((s.port n).lds.step = .connectWait → (s.hub n = HS.disabled ∨ s.hub n = HS.enabled) → Completes
      (.ldsConnectWaitEnd n) s (fun t => t.hub n = HS.resetting ∧ (t.port n).lds.step = .resetting ∧ Out.se0 n ∈
      t.outs)) ∧
  ((s.port n).lds.step = .resetWait → Completes (.ldsEnumWaitEnd n) s (fun t => t.outs = [.device n ⟨0, 0, false⟩
      0x2D [0x80, 6, 0, 1, 0, 0, 8, 0]] ∧ (t.port n).lds.step = .devDesc8)) ∧
  ((s.port n).lds.step = .addrWait → (s.port n).lds.route = 2 → Completes (.ldsEnumWaitEnd n) s (fun t => t.outs =
      [.device n ⟨n + 1, 0, false⟩ 0x2D [0x80, 6, 0, 1, 0, 0, 18, 0]] ∧ (t.port n).lds.step = .devDesc18)) ∧
  ((s.port n).lds.step = .devDesc8 → badDesc bs 8 1 = false → (fieldAt bs 7 1 = 8 ∨ fieldAt bs 7 1 = 16 ∨ fieldAt bs
      7 1 = 32 ∨ fieldAt bs 7 1 = 64) → Completes (.ldsControlComplete n (.data pid bs)) s (fun t => (t.port
      n).lds.step = .setAddress ∧ (t.port n).lds.mps0 = fieldAt bs 7 1 ∧ t.outs = [.device n ⟨0, 0, false⟩ 0x2D
      (Setup.bytes ⟨0, 5, n + 1, 0, 0⟩)])) ∧
  ((s.port n).lds.step = .setAddress → Completes (.ldsControlComplete n .ack) s (fun t => (t.port n).lds.step =
      .addrWait ∧ (t.port n).lds.route = 1 ∧ t.outs = [])) ∧
  ((s.port n).lds.step = .devDesc8 → (s.port n).lds.attempt < s.rd LDS.CTL.ENUMTRY → Completes (.ldsRequestTimeout n)
      s (fun t => CountsUp LDS.CNT1.CTLTMO s t ∧ (t.port n).lds.attempt = (s.port n).lds.attempt + 1 ∧ (t.port
      n).lds.step = .resetting ∧ t.hub n = HS.resetting)) ∧
  ((s.port n).lds.step = .recordDelay → (s.port n).lds.recIdx + 1 < fieldAt (s.profOf n) 11 1 → Completes
      (.ldsRecordDelayEnd n) s (fun t => (t.port n).lds.step = .record ∧ (t.port n).lds.recIdx = (s.port
      n).lds.recIdx + 1)) ∧
  ((s.port n).lds.step = .recordDelay → fieldAt (s.profOf n) 11 1 ≤ (s.port n).lds.recIdx + 1 → Completes
      (.ldsRecordDelayEnd n) s (fun t => (t.entry n).state = 4 ∧ (t.entry n).result = 1 ∧ (t.port n).lds.step =
      .idle)) ∧
  (((s.entry n).state = 4 ∨ (s.entry n).state = 5) → fieldAt (s.profOf n) 12 1 ≠ 0 → s.rd SYS.MERIDIAN.COUNT % 8 = 0
      → s.rd SYS.MERIDIAN.COUNT / 8 % 2048 % 2 ^ s.hbExp n = n.val % 2 ^ s.hbExp n → s.hub n = HS.enabled → (s.port
      n).lds.route = 2 → (s.port n).lds.polling = false → (s.port n).lds.polledAt ≠ s.now + 1 → Completes
      (.ldsHeartbeatPoll n false) s (fun t => (t.port n).lds.polledAt = s.now + 1 ∧ t.outs = [.deviceIn n ⟨n + 1,
      fieldAt (s.profOf n) 12 1 % 16, true⟩] ∧ (t.port n).lds.polling = true)) ∧
  ((s.port n).lds.polling = true → Completes (.ldsHeartbeatOutcome n (.data pid bs)) s (fun t => (t.entry n).state =
      4 ∧ (t.entry n).hbRec = bs.take 64 ∧ (t.entry n).hbCnt = ((s.entry n).hbCnt + 1) % 65536 ∧ (t.port
      n).lds.misses = 0 ∧ (t.port n).lds.polling = false ∧ t.outs = [.deviceAck n]))

/-- A count of 125 µs adds the product of a quad's input voltage and current to its energy, in Active and in Dusk; the
calibration of CLK_NW changes nothing that is seen (R337, R391); a Meridian in Active counts and publishes: outside
the ICU and the mailboxes every field of the shadow equals its live value at its end; in rescue the count goes on
(R25, R26). -/
def Obligations.MeridianEnergyAndCalibrationComplete : Prop := ∀ (m : Samples) (q : Fin 12) (s : State),
  ((s.phase = .running ∨ s.phase = .dusk) → (s.sec (q.val / 3)).dieUp = true → s.good (.vdd5 (Fin.ofNat 4 (q.val /
      3))) = true → Completes (.energyCountTick q) s (fun t => KMap.get 0 t.retain.energy q = (KMap.get 0
      s.retain.energy q + s.rd (QD.VIN.VIN q) * s.rd (QD.IIN.IIN q)) % (1000000 * 2 ^ 48))) ∧
  Completes (.clkNwCalibrate) s (fun t => t = s.fresh) ∧
  (s.phase = .running → Completes (.meridian m) s (fun t => t.now = s.now + 1)) ∧
  (s.phase = .running → (List.range 11).all s.runs = true → Completes (.meridian m) s (fun t => ∀ f : Field, f.lo <
      32 → f.addr < 0x4000 ∨ 0x9000 ≤ f.addr → t.rdPub f = t.rd f)) ∧
  (s.phase = .rescue → Completes (.meridian m) s (fun t => t.now = s.now + 1 ∧ t.rd SYS.MERIDIAN.COUNT = (s.rd
      SYS.MERIDIAN.COUNT + 1) % 2 ^ 32))

/-- Each command named here, in every state, changes nothing but what stands beside it: every other register field
reads live as before, every other hidden record, the published shadow, the flash, the fuses and every other part of
the state but the queue are as before. A field named at every index may change at any of its ports or tables. -/
def Obligations.FramesOfRequests : Prop :=
  (Frame .spiStatus [[.one .idleAt, .one .outs]]) ∧
  (∀ (u : Fin 5) (bm : Byte) (wValue wIndex wLength : BitVec 16), Frame (.vendorStatus u bm wValue wIndex wLength)
      [ep0Spots u, [.one .rescue]]) ∧
  (∀ (u : Fin 4), Frame (.statusChangeAck u) [[.one .outs, .one (.up u)]]) ∧
  (∀ (u : Fin 4), Frame (.statusChangeIn u) [[.one .outs, .one (.up u)]]) ∧
  (∀ (u : Fin 4), Frame (.getHubStatus u) [ep0Spots u]) ∧
  (∀ (u : Fin 4) (sel : BitVec 16), Frame (.clearHubFeature u sel) [ep0Spots u]) ∧
  (∀ (u : Fin 4) (sel : BitVec 16), Frame (.setHubFeature u sel) [ep0Spots u]) ∧
  (∀ (u : Fin 4), Frame (.setHubDescriptor u) [ep0Spots u]) ∧
  (∀ (u : Fin 4) (i : Byte), Frame (.getPortStatus u i) [ep0Spots u]) ∧
  (∀ (u : Fin 4) (i : Byte), Frame (.setPortFeaturePortReset u i) [poolSpots, Spot.each hubFields, [.all .port, .all
      .up, .regs PRT.HUBSTS.HIGHSPD, .regs PRT.HUBSTS.TESTSEL, .regs PRT.MTRCNT.DATAHIT, .regs PRT.MTRCNT.NAKHIT,
      .regs PRT.MTRSTS.STRANDED, .regs PRT.MTRSTS.WITHDRAWN, .regs PRT.QSTS.STOPPED, .regs SWX.CNTA.STALE, .regs
      SWX.CNTB.RLYWD, .reg (UPS.CNT0.ABORTCNT u), .reg (UPS.EVT.CTLABORT u), .reg (UPS.STS.STAGED u)]]) ∧
  (∀ (u : Fin 4) (i : Byte), Frame (.setPortFeaturePortSuspend u i) [poolSpots, Spot.each hubFields, [.all .port,
      .all .up, .regs PRT.HUBSTS.HIGHSPD, .regs PRT.HUBSTS.TESTSEL, .regs PRT.MTRCNT.DATAHIT, .regs
      PRT.MTRCNT.NAKHIT, .regs PRT.MTRSTS.STRANDED, .regs PRT.MTRSTS.WITHDRAWN, .regs PRT.QSTS.STOPPED, .regs
      SWX.CNTA.STALE, .regs SWX.CNTB.RLYWD, .reg (UPS.CNT0.ABORTCNT u), .reg (UPS.EVT.CTLABORT u), .reg
      (UPS.STS.STAGED u)]]) ∧
  (∀ (u : Fin 4) (i sel : Byte), Frame (.setPortFeaturePortTest u i sel) [poolSpots, Spot.each hubFields, [.all
      .port, .all .up, .regs PRT.HUBSTS.HIGHSPD, .regs PRT.HUBSTS.TESTSEL, .regs PRT.MTRCNT.DATAHIT, .regs
      PRT.MTRCNT.NAKHIT, .regs PRT.MTRSTS.STRANDED, .regs PRT.MTRSTS.WITHDRAWN, .regs PRT.QSTS.STOPPED, .regs
      SWX.CNTA.STALE, .regs SWX.CNTB.RLYWD, .reg (UPS.CNT0.ABORTCNT u), .reg (UPS.EVT.CTLABORT u), .reg
      (UPS.STS.STAGED u)]]) ∧
  (∀ (u : Fin 4) (i sel : Byte), Frame (.setPortFeaturePortIndicator u i sel) [ep0Spots u, [.all .port]]) ∧
  (∀ (u : Fin 4) (i : Byte), Frame (.setPortFeaturePortEnable u i) [ep0Spots u]) ∧
  (∀ (u : Fin 4) (i : Byte), Frame (.setPortFeaturePortPower u i) [poolSpots, Spot.each downFields, Spot.each
      hubFields, Spot.each rosterFields, bookSpots, [.one .freeCtr, .all .port, .all .up, .reg LDS.CHG0.P00_P31, .reg
      LDS.CHG1.P32_P47, .regs PRT.HUBSTS.POWER, .regs PRT.TCEVT.OOS, .regs PRT.TCSTS.OOS, .regs PRT.TCSTS.RPADV,
      .regs SWX.CNTA.STALE, .regs SWX.CNTB.RLYWD, .reg (UPS.CNT0.ABORTCNT u), .reg (UPS.EVT.CTLABORT u), .reg
      (UPS.STS.STAGED u)]]) ∧
  (∀ (u : Fin 4) (i : Byte), Frame (.clearPortFeaturePortPower u i) [poolSpots, Spot.each downFields, Spot.each
      hubFields, Spot.each rosterFields, bookSpots, [.one .freeCtr, .all .port, .all .up, .reg LDS.CHG0.P00_P31, .reg
      LDS.CHG1.P32_P47, .regs PRT.HUBSTS.POWER, .regs PRT.TCEVT.OOS, .regs PRT.TCSTS.OOS, .regs PRT.TCSTS.RPADV,
      .regs SWX.CNTA.STALE, .regs SWX.CNTB.RLYWD, .reg (UPS.CNT0.ABORTCNT u), .reg (UPS.EVT.CTLABORT u), .reg
      (UPS.STS.STAGED u)]]) ∧
  (∀ (u : Fin 4) (i : Byte), Frame (.clearPortFeaturePortEnable u i) [poolSpots, Spot.each hubFields, [.all .port,
      .all .up, .regs PRT.HUBSTS.HIGHSPD, .regs PRT.HUBSTS.TESTSEL, .regs PRT.MTRCNT.DATAHIT, .regs
      PRT.MTRCNT.NAKHIT, .regs PRT.MTRSTS.STRANDED, .regs PRT.MTRSTS.WITHDRAWN, .regs PRT.QSTS.STOPPED, .regs
      SWX.CNTA.STALE, .regs SWX.CNTB.RLYWD, .reg (UPS.CNT0.ABORTCNT u), .reg (UPS.EVT.CTLABORT u), .reg
      (UPS.STS.STAGED u)]]) ∧
  (∀ (u : Fin 4) (i : Byte), Frame (.clearPortFeaturePortSuspend u i) [poolSpots, Spot.each hubFields, [.all .port,
      .all .up, .regs PRT.HUBSTS.HIGHSPD, .regs PRT.HUBSTS.TESTSEL, .regs PRT.MTRCNT.DATAHIT, .regs
      PRT.MTRCNT.NAKHIT, .regs PRT.MTRSTS.STRANDED, .regs PRT.MTRSTS.WITHDRAWN, .regs PRT.QSTS.STOPPED, .regs
      SWX.CNTA.STALE, .regs SWX.CNTB.RLYWD, .reg (UPS.CNT0.ABORTCNT u), .reg (UPS.EVT.CTLABORT u), .reg
      (UPS.STS.STAGED u)]]) ∧
  (∀ (u : Fin 4) (i : Byte), Frame (.clearPortFeaturePortIndicator u i) [ep0Spots u, [.all .port]]) ∧
  (∀ (u : Fin 4) (i : Byte) (c : Fin 5), Frame (.clearPortFeatureChange u i c) [ep0Spots u]) ∧
  (∀ (n : Fin 48) (low : Bool), Frame (.usbConnect n low) [Spot.at hubFields n, Spot.at chgFields n, Spot.at
      rosterFields n, [.one .freeCtr, .one .ldsSeq, .one .outs, .one (.port n), .reg LDS.CHG0.P00_P31, .reg
      LDS.CHG1.P32_P47, .reg (PRT.HUBSTS.CONNECTION n), .reg (PRT.HUBSTS.LOWSPD n)]]) ∧
  (∀ (n : Fin 48), Frame (.usbDisconnect n) [poolSpots, Spot.at hubFields n, Spot.at chgFields n, Spot.at
      rosterFields n, [.one .freeCtr, .all .port, .all .up, .reg LDS.CHG0.P00_P31, .reg LDS.CHG1.P32_P47, .reg
      (PRT.HUBSTS.CONNECTION n), .reg (PRT.HUBSTS.HIGHSPD n), .reg (PRT.HUBSTS.LOWSPD n), .reg (PRT.MTRCNT.DATAHIT
      n), .reg (PRT.MTRCNT.NAKHIT n), .reg (PRT.MTRSTS.STRANDED n), .reg (PRT.MTRSTS.WITHDRAWN n), .reg
      (PRT.QSTS.STOPPED n), .regs SWX.CNTA.STALE, .regs SWX.CNTB.RLYWD]]) ∧
  (∀ (n : Fin 48), Frame (.deviceChirp n) [[.one .outs, .one (.port n)]]) ∧
  (∀ (n : Fin 48), Frame (.portResetEnd n) [Spot.at hubFields n, Spot.at chgFields n, [.one .outs, .one (.port n),
      .all .up, .reg (PRT.HUBSTS.HIGHSPD n)]]) ∧
  (∀ (n : Fin 48), Frame (.portBabble n) [Spot.at hubFields n, Spot.at chgFields n, [.one .outs, .one (.port n)]]) ∧
  (∀ (n : Fin 48), Frame (.disablingComplete n) [Spot.at hubFields n, [.one .outs, .one (.port n)]]) ∧
  (∀ (n : Fin 48), Frame (.deviceResumeK n) [Spot.at hubFields n, [.one .outs]]) ∧
  (∀ (n : Fin 48), Frame (.resumeDriveEnd n) [Spot.at hubFields n, [.one .outs, .one (.port n)]]) ∧
  (∀ (n : Fin 48), Frame (.sendEorComplete n) [Spot.at hubFields n, Spot.at chgFields n, [.one .outs, .one (.port
      n)]]) ∧
  (∀ (i : Fin 4), Frame (.ledFrameRefresh i) [[.one .outs, .one (.sec i), .regs PRT.HUBSTS.INDSHOWN]]) ∧
  (∀ (u : Fin 4) (hs : Bool), Frame (.busReset u hs) [poolSpots, Spot.each downFields, Spot.each hubFields, Spot.each
      rosterFields, bookSpots, [.one .freeCtr, .one (.mb 0), .one (.mb u), .all .port, .one .rescue, .all .up, .one
      .upd, .reg BOOT.UPDSTS.BUSY, .reg BOOT.UPDSTS.OWNER, .reg BOOT.UPDSTS.SESSION, .reg LDS.CHG0.P00_P31, .reg
      LDS.CHG1.P32_P47, .reg MBX.BULK.HELD, .reg MBX.BULK.HOLDER, .reg (MBX.CTRL.BUSY 0), .reg (MBX.CTRL.BUSY u),
      .reg (MBX.CTRL.VALID 0), .reg (MBX.CTRL.VALID u), .regs PRT.HUBSTS.POWER, .regs PRT.TCEVT.OOS, .regs
      PRT.TCSTS.OOS, .regs PRT.TCSTS.RPADV, .regs SWX.CNTA.STALE, .regs SWX.CNTB.RLYWD, .reg (UPS.CNT0.ABORTCNT u),
      .reg (UPS.CNT0.BUSRSTCNT u), .reg (UPS.EVT.BUSRST u), .reg (UPS.EVT.CTLABORT u), .reg (UPS.EVT.FSCONN u), .reg
      (UPS.STS.ADDR u), .reg (UPS.STS.ALTSET u), .reg (UPS.STS.DEVSTATE u), .reg (UPS.STS.HS u), .reg
      (UPS.STS.RWAKEEN u), .reg (UPS.STS.STAGED u), .reg (UPS.STS.SUSP u)]]) ∧
  (∀ (u : Fin 4) (adr : BitVec 7), Frame (.setAddress u adr) [ep0Spots u, [.one .rescue, .reg (UPS.STS.ADDR u), .reg
      (UPS.STS.DEVSTATE u)]]) ∧
  (∀ (u : Fin 4) (cfg : Byte), Frame (.setConfiguration u cfg) [poolSpots, Spot.each downFields, Spot.each hubFields,
      Spot.each rosterFields, bookSpots, [.one .freeCtr, .all .port, .one .rescue, .all .up, .reg LDS.CHG0.P00_P31,
      .reg LDS.CHG1.P32_P47, .regs PRT.HUBSTS.POWER, .regs PRT.TCEVT.OOS, .regs PRT.TCSTS.OOS, .regs PRT.TCSTS.RPADV,
      .regs SWX.CNTA.STALE, .regs SWX.CNTB.RLYWD, .reg (UPS.CNT0.ABORTCNT u), .reg (UPS.EVT.CONFIG u), .reg
      (UPS.EVT.CTLABORT u), .reg (UPS.STS.ALTSET u), .reg (UPS.STS.DEVSTATE u), .reg (UPS.STS.STAGED u)]]) ∧
  (∀ (u : Fin 4) (alt : Byte), Frame (.setInterface u alt) [ep0Spots u, [.all .port, .one .rescue, .regs
      PRT.QSTS.STOPPED, .reg (UPS.EVT.CONFIG u), .reg (UPS.STS.ALTSET u)]]) ∧
  (∀ (u : Fin 4), Frame (.getStatus u) [ep0Spots u, [.one .rescue]]) ∧
  (∀ (u : Fin 4) (sel : Byte), Frame (.setFeatureTestMode u sel) [ep0Spots u, [.one .rescue, .reg (UPS.STS.DEVSTATE
      u)]]) ∧
  (∀ (u : Fin 4), Frame (.newSetupAbort u) [ep0Spots u]) ∧
  (∀ (u : Fin 4) (wLength : BitVec 16), Frame (.getHubDescriptor u wLength) [ep0Spots u]) ∧
  (∀ (u : Fin 4), Frame (.suspend u) [[.one .outs, .all .port, .reg (UPS.EVT.SUSPEND u), .reg (UPS.STS.SUSP u)]]) ∧
  (∀ (n : Fin 48) (ev : Sys2Proof.WakeEv), Frame (.wakeQualify n ev) [Spot.each hubFields, [.one .outs, .all .port,
      .all .up, .regs UPS.CNT1.IGNWAKE, .regs UPS.WAKESRC.HUBPORT, .regs UPS.WAKESRC.PHYS, .regs UPS.WAKESRC.VALID]])
      ∧
  (∀ (u : Fin 4), Frame (.upstreamKStart u) [[.one .outs, .one (.up u)]]) ∧
  (∀ (u : Fin 4), Frame (.upstreamKEnd u) [Spot.each hubFields, [.one .outs, .all .port, .one (.up u)]]) ∧
  (∀ (u : Fin 4), Frame (.hostResume u) [Spot.each hubFields, [.one .outs, .all .port, .one (.up u), .reg
      (UPS.WAKESRC.COLL u)]]) ∧
  (∀ (u : Fin 4), Frame (.resumeEop u) [Spot.each hubFields, Spot.each chgFields, [.one .outs, .all .port, .one (.up
      u), .reg (UPS.CNT1.RWAKECNT u), .reg (UPS.EVT.RESUME u), .reg (UPS.EVT.RWAKE u), .reg (UPS.STS.SUSP u)]]) ∧
  (∀ (r : Requester) (w : Word), Frame (.poolWrite r w) [writeSpots r 0x9004, bookSpots, [.one .poolTrig, .all .port,
      .all .quad, .one .shedDue, .regs PRT.IBUSMEAS.ISET, .regs PRT.TCSTS.LEAKMIN, .regs PRT.TCSTS.MOISTOK, .regs
      PRT.TCSTS.RPADV, .reg PWR.EVT.SHEDOUT, .regs PWR.PALLOW.SHED, .regs PWR.PBOOK.COMMIT, .regs
      PWR.PBOOK.CONTRACT]]) ∧
  (∀ (r : Requester) (q : Fin 12) (w : Word), Frame (.qcapWrite r q w) [writeSpots r (0x9040 + 4 * q), bookSpots,
      [.all .port, .all .quad, .one .shedDue, .regs PRT.IBUSMEAS.ISET, .regs PRT.TCSTS.LEAKMIN, .regs
      PRT.TCSTS.MOISTOK, .regs PRT.TCSTS.RPADV, .reg PWR.EVT.SHEDOUT, .regs PWR.PALLOW.SHED, .regs PWR.PBOOK.COMMIT,
      .regs PWR.PBOOK.CONTRACT]]) ∧
  (∀ (r : Requester) (n : Fin 48) (w : Word), Frame (.pcfgWrite r n w) [writeSpots r (0x9200 + 4 * n), bookSpots,
      [.one (.port n), .reg (PRT.IBUSMEAS.ISET n), .reg (PRT.TCSTS.RPADV n), .reg PWR.EVT.SHEDIN, .reg
      (PWR.PALLOW.ALLOW n), .reg (PWR.PALLOW.SHED n), .reg (PWR.PBOOK.COMMIT n), .reg (PWR.PBOOK.CONTRACT n)]]) ∧
  (∀ (r : Requester) (d : Fin 155) (w : Word), Frame (.rgnWrite r d w) [writeSpots r (0xA400 + 4 * d), [.one
      .edgeDue, .one (.port (d - 53)), .one .sw, .reg PKM.FENCE.FALLBACK, .reg PKM.FREESTS.WAS, .reg PKM.GCNT0.FREE,
      .reg PKM.GCNT0.QUEUED, .reg PKM.GCNT1.INFLIGHT, .reg PKM.GCNT2.POOLFREE, .regs PKM.IQPTR.RPTR, .reg
      (PKM.IQPTR.WPTR d), .reg (PRT.QSTS.STOPPED (d - 53))]]) ∧
  (∀ (r : Requester) (n : Fin 48) (w : Word), Frame (.ownerGo r n w) [writeSpots r (0x1000C + 0x400 * n), [.one
      (.port n), .reg (PRT.OWNCNT.LOST n)]]) ∧
  (∀ (r : Requester) (n : Fin 48) (w : Word), Frame (.pdctlResend r n w) [writeSpots r (0x10024 + 0x400 * n),
      pdctlSpots n]) ∧
  (∀ (r : Requester) (n : Fin 48) (w : Word), Frame (.pdctlHreset r n w) [writeSpots r (0x10024 + 0x400 * n),
      pdctlSpots n]) ∧
  (∀ (r : Requester) (n : Fin 48) (w : Word), Frame (.pdctlVcswap r n w) [writeSpots r (0x10024 + 0x400 * n),
      pdctlSpots n]) ∧
  (∀ (r : Requester) (n : Fin 48) (w : Word), Frame (.pdctlSoppdisc r n w) [writeSpots r (0x10024 + 0x400 * n),
      pdctlSpots n]) ∧
  (∀ (r : Requester) (n : Fin 48) (w : Word), Frame (.pdenWrite r n w) [writeSpots r (0x10024 + 0x400 * n),
      pdctlSpots n]) ∧
  (∀ (r : Requester) (n : Fin 48) (w : Word), Frame (.altmuxKick r n w) [writeSpots r (0x1002C + 0x400 * n), [.one
      .outs, .one (.port n), .reg (PRT.ALTMUX.ACTIVE n), .regs PRT.ALTMUX.QBUSY, .regs PRT.ALTMUX.QHOLD, .reg
      (PRT.PDSTS.ALTMODE n), .reg (PRT.PDSTS.EVT n), .reg (PRT.TCSTS.RPADV n)]]) ∧
  (∀ (r : Requester) (n : Fin 48) (w : Word), Frame (.rearm r n w) [writeSpots r (0x10040 + 0x400 * n), [.one (.port
      n), .reg (PRT.FUSEVT.REARMED n), .reg (PRT.FUSSTS.SENSE n), .reg (PRT.FUSSTS.TRIPS n), .reg (PRT.HUBSTS.OVERCUR
      n), .reg (PRT.IBUSMEAS.ISET n)]]) ∧
  (∀ (r : Requester) (n : Fin 48) (w : Word), Frame (.ttrst r n w) [writeSpots r (0x10060 + 0x400 * n), [.one (.port
      n), .reg (PRT.MTRSTS.STRANDED n), .reg (PRT.MTRSTS.WITHDRAWN n), .reg (PRT.QSTS.STOPPED n)]]) ∧
  (∀ (r : Requester) (n : Fin 48) (w : Word), Frame (.almclr r n w) [writeSpots r (0x10060 + 0x400 * n), [.one (.port
      n), .reg (PRT.MTRSTS.STRANDED n), .reg (PRT.MTRSTS.WITHDRAWN n), .reg (PRT.QSTS.STOPPED n)]]) ∧
  (∀ (r : Requester) (n : Fin 48) (w : Word), Frame (.almenWrite r n w) [writeSpots r (0x10060 + 0x400 * n), [.one
      (.port n), .reg (PRT.MTRSTS.STRANDED n), .reg (PRT.MTRSTS.WITHDRAWN n), .reg (PRT.QSTS.STOPPED n)]]) ∧
  (∀ (r : Requester) (q : Fin 12) (w : Word), Frame (.fbicapWrite r q w) [writeSpots r (0xE020 + 0x200 * q),
      poolSpots, Spot.each downFields, Spot.each hubFields, Spot.each chgFields, Spot.each rosterFields, bookSpots,
      [.one .freeCtr, .all .port, .all .up, .reg LDS.CHG0.P00_P31, .reg LDS.CHG1.P32_P47, .regs PRT.TCEVT.ERRREC,
      .regs PRT.TCSTS.RPADV, .regs SWX.CNTA.STALE, .regs SWX.CNTB.RLYWD]]) ∧
  (∀ (r : Requester) (u : Fin 4) (w : Word), Frame (.personalityEnWrite r u w) [writeSpots r (0xC000 + 0x400 * u),
      poolSpots, Spot.each downFields, Spot.each hubFields, Spot.each rosterFields, bookSpots, [.one .freeCtr, .one
      (.mb u), .all .port, .all .up, .one .upd, .reg BOOT.UPDSTS.BUSY, .reg BOOT.UPDSTS.OWNER, .reg
      BOOT.UPDSTS.SESSION, .reg LDS.CHG0.P00_P31, .reg LDS.CHG1.P32_P47, .reg MBX.BULK.HELD, .reg MBX.BULK.HOLDER,
      .reg (MBX.CTRL.BUSY u), .reg (MBX.CTRL.VALID u), .regs PRT.HUBSTS.POWER, .regs PRT.TCEVT.OOS, .regs
      PRT.TCSTS.OOS, .regs PRT.TCSTS.RPADV, .regs SWX.CNTA.STALE, .regs SWX.CNTB.RLYWD, .reg (UPS.CNT0.ABORTCNT u),
      .reg (UPS.EVT.CTLABORT u), .reg (UPS.STS.ADDR u), .reg (UPS.STS.ALTSET u), .reg (UPS.STS.DEVSTATE u), .reg
      (UPS.STS.HS u), .reg (UPS.STS.PULLUP u), .reg (UPS.STS.RWAKEEN u), .reg (UPS.STS.STAGED u), .reg (UPS.STS.SUSP
      u)]]) ∧
  (∀ (r : Requester) (i : Fin 512) (w : Word), Frame (.clrpend r i w) [writeSpots r (0x4004 + 8 * i), [.reg
      (ICU.SRC_STS.PEND i), .regs ICU.TSTAT.LINE]]) ∧
  (∀ (r : Requester) (i : Fin 512) (w : Word), Frame (.srcCfgWrite r i w) [writeSpots r (0x4000 + 8 * i), [.one
      .icuTimer, .regs ICU.TSTAT.HELD, .regs ICU.TSTAT.LINE]]) ∧
  (∀ (r : Requester) (w : Word), Frame (.swtrig r w) [writeSpots r 0x5800, [.one .icuTimer, .reg (ICU.SRC_STS.LOST
      511), .reg (ICU.SRC_STS.LOSTCNT 511), .reg (ICU.SRC_STS.PEND 511), .regs ICU.TSTAT.HELD, .regs
      ICU.TSTAT.LINE]]) ∧
  (∀ (r : Requester) (t : Fin 13) (w : Word), Frame (.tctlWrite r t w) [writeSpots r (0x5008 + 0x40 * t), [.one
      .freeCtr, .one .icuTimer, .regs ICU.SRC_STS.INSVC, .reg (ICU.TSTAT.HELD t), .reg (ICU.TSTAT.INSVC t), .reg
      (ICU.TSTAT.LINE t), .reg (ICU.TSTAT.ORDERR t)]]) ∧
  (∀ (r : Requester) (t : Fin 13) (w : Word), Frame (.trst r t w) [writeSpots r (0x5008 + 0x40 * t), [.one .freeCtr,
      .one .icuTimer, .regs ICU.SRC_STS.INSVC, .reg (ICU.TSTAT.HELD t), .reg (ICU.TSTAT.INSVC t), .reg
      (ICU.TSTAT.LINE t), .reg (ICU.TSTAT.ORDERR t)]]) ∧
  (∀ (r : Requester) (m : Fin 8) (w : Word), Frame (.mbxSelWrite r m w) [writeSpots r (0x8000 + 0x20 * m), [.reg
      MBX.BULK.HELD, .reg MBX.BULK.HOLDER, .reg (MBX.CTRL.ERR m), .reg (MBX.CTRL.PART m), .reg (MBX.CTRL.VALID m)]]) ∧
  (∀ (r : Requester) (m : Fin 8) (w : Word), Frame (.mbxGo r m w) [writeSpots r (0x8004 + 0x20 * m), [.one (.mb m),
      .reg MBX.BULK.HELD, .reg MBX.BULK.HOLDER, .reg (MBX.CTRL.BUSY m), .reg (MBX.CTRL.ERR m), .reg (MBX.CTRL.VALID
      m)]]) ∧
  (∀ (r : Requester) (m : Fin 8) (w : Word), Frame (.mbxPartWrite r m w) [writeSpots r (0x8004 + 0x20 * m)]) ∧
  (∀ (r : Requester) (w : Word), Frame (.resetreq r w) [writeSpots r 0x24, [.one .resetDue]]) ∧
  (∀ (r : Requester) (w : Word), Frame (.rbctrWrite r w) [writeSpots r 0x1030, [.one .fuseGoal, .reg
      BOOT.UPDSTS.BUSY]]) ∧
  (∀ (r : Requester) (w : Word), Frame (.failclr r w) [writeSpots r 0x1008, [.one .retain, .reg BOOT.BOOTCNT.BOOTNO,
      .reg BOOT.BOOTCNT.CONSEC, .reg BOOT.FAILMEM.CAL, .reg BOOT.FAILMEM.LINK, .reg BOOT.FAILMEM.NVM, .reg
      BOOT.FAILMEM.QID, .reg BOOT.FAILMEM.SLOTA, .reg BOOT.FAILMEM.SLOTB]]) ∧
  (∀ (adr : BitVec 7), Frame (.i2cStatus adr) [wakeSpots, [.one .heldI2c]]) ∧
  (∀ (adr : BitVec 7) (s t : State), s.phase = .running → exec (.i2cStatus adr) s = .next t → ChangesOnly [.one
      .idleAt, .one .outs] s t) ∧
  (∀ (onI2c : Bool) (cmd : Byte), Frame (.spiUnknownCommand onI2c cmd) [wakeSpots, [.one .heldI2c, .reg
      SYS.LASTERR.CODE, .reg SYS.LASTERR.REQ]]) ∧
  (∀ (onI2c : Bool) (cmd : Byte) (s t : State), s.phase = .running → exec (.spiUnknownCommand onI2c cmd) s = .next t
      → ChangesOnly [.one .idleAt, .one .outs, .reg SYS.LASTERR.CODE, .reg SYS.LASTERR.REQ] s t)

/-- Each command named here, in every state, changes nothing but what stands beside it: every other register field
reads live as before, every other hidden record, the published shadow, the flash, the fuses and every other part of
the state but the queue are as before. A field named at every index may change at any of its ports or tables. -/
def Obligations.FramesOfPorts : Prop :=
  (∀ (n : Fin 48), Frame (.gateFullyOn n) [[.one .outs, .one (.port n), .reg (PRT.FUSSTS.GATEON n)]]) ∧
  (∀ (n : Fin 48), Frame (.powerGood n) [bookSpots, [.one .outs, .one (.port n), .reg (PRT.FUSEVT.PGON n), .reg
      (PRT.FUSSTS.PG n), .reg (PRT.HUBSTS.OVERCUR n), .reg (PWR.PBOOK.COMMIT n), .reg (PWR.PBOOK.CONTRACT n)]]) ∧
  (∀ (n : Fin 48), Frame (.powerGoodFall n) [[.one .outs, .one (.port n), .reg (PRT.FUSEVT.PGOFF n), .reg
      (PRT.FUSSTS.PG n)]]) ∧
  (∀ (n : Fin 48), Frame (.limitEngage n) [[.one .outs, .one (.port n), .reg (PRT.FUSEVT.LIMITIN n), .reg
      (PRT.FUSEVT.QUALRST n), .reg (PRT.FUSSTS.LIMIT n)]]) ∧
  (∀ (n : Fin 48), Frame (.limitRelease n) [[.one .outs, .one (.port n), .reg (PRT.FUSSTS.FOLD n), .reg
      (PRT.FUSSTS.LIMIT n)]]) ∧
  (∀ (n : Fin 48), Frame (.selfTestStart n) [[.one .outs, .one (.port n)]]) ∧
  (∀ (n : Fin 48), Frame (.retryWaitEnd n) [[.one .outs, .one (.port n), .reg (PRT.TCSTS.LEAKMIN n), .reg
      (PRT.TCSTS.MOISTOK n)]]) ∧
  (∀ (n : Fin 48), Frame (.cleanPowerGood n) [[.one .outs, .one (.port n), .reg (PRT.FUSEVT.CLEAN n), .reg
      (PRT.FUSSTS.TRIPS n)]]) ∧
  (∀ (n : Fin 48), Frame (.rampEnd n) [[.one .outs, .one (.port n)]]) ∧
  (∀ (n : Fin 48), Frame (.srcTransitionExpire n) [[.one .outs, .one (.port n), .reg (PRT.IBUSMEAS.ISET n)]]) ∧
  (∀ (n : Fin 48), Frame (.psRdySend n) [bookSpots, [.one .outs, .one (.port n), .reg (PRT.IBUSMEAS.ISET n), .reg
      (PRT.PDSTS.EVT n), .reg (PRT.PDSTS.EXPLICIT n), .reg (PRT.PDSTS.OBJPOS n), .reg (PRT.PDSTS.OPCURR n), .reg
      (PRT.PDSTS.VSEL n), .reg (PRT.TCSTS.RPADV n), .reg (PWR.PBOOK.COMMIT n), .reg (PWR.PBOOK.CONTRACT n)]]) ∧
  (∀ (n : Fin 48), Frame (.sinkTxExpire n) [poolSpots, Spot.at rosterFields n, bookSpots, [.one .copies, .all .port,
      .reg LDS.CHG0.P00_P31, .reg LDS.CHG1.P32_P47, .reg (PRT.ALTMUX.ACTIVE n), .regs PRT.ALTMUX.QBUSY, .regs
      PRT.ALTMUX.QHOLD, .reg (PRT.IBUSMEAS.ISET n), .reg (PRT.OWNER.OWN n), .reg (PRT.OWNER.STATE n), .reg
      (PRT.PDCNT.ALERTS n), .reg (PRT.PDCNT.HRRCVD n), .reg (PRT.PDCNT.HRSENT n), .reg (PRT.PDSTS.ALTMODE n), .reg
      (PRT.PDSTS.EVT n), .reg (PRT.PDSTS.EXPLICIT n), .reg (PRT.PDSTS.OBJPOS n), .reg (PRT.PDSTS.OPCURR n), .reg
      (PRT.PDSTS.VCSRC n), .reg (PRT.PDSTS.VSEL n), .reg (PRT.TCSTS.RPADV n), .reg (PRT.VCONN.ON n), .reg
      (PWR.PBOOK.COMMIT n), .reg (PWR.PBOOK.CONTRACT n), .regs SWX.CNTA.STALE]]) ∧
  (∀ (n : Fin 48) (rev : Fin 4) (req : PdReq), Frame (.request n rev req) [pdSpots n]) ∧
  (∀ (n : Fin 48), Frame (.getSourceCap n) [pdSpots n]) ∧
  (∀ (n : Fin 48), Frame (.softReset n) [pdSpots n]) ∧
  (∀ (n : Fin 48), Frame (.prSwap n) [pdSpots n]) ∧
  (∀ (n : Fin 48), Frame (.vconnSwap n) [pdSpots n]) ∧
  (∀ (n : Fin 48), Frame (.vconnSwapAccept n) [pdSpots n]) ∧
  (∀ (n : Fin 48), Frame (.psRdyReceived n) [pdSpots n]) ∧
  (∀ (n : Fin 48), Frame (.getStatusPd n) [pdSpots n]) ∧
  (∀ (n : Fin 48) (unstructuredVdm : Bool), Frame (.unsupportedMessage n unstructuredVdm) [pdSpots n]) ∧
  (∀ (n : Fin 48), Frame (.sourceCapabilitiesReceived n) [pdSpots n]) ∧
  (∀ (n : Fin 48), Frame (.hardResetReceived n) [pdSpots n]) ∧
  (∀ (n : Fin 48), Frame (.discoverIdentity n) [pdSpots n]) ∧
  (∀ (n : Fin 48), Frame (.discoverSvids n) [pdSpots n]) ∧
  (∀ (n : Fin 48) (svid : BitVec 16), Frame (.discoverModes n svid) [pdSpots n]) ∧
  (∀ (n : Fin 48) (svid : BitVec 16) (pos : BitVec 3), Frame (.enterMode n svid pos) [pdSpots n]) ∧
  (∀ (n : Fin 48) (svid : BitVec 16), Frame (.exitMode n svid) [pdSpots n]) ∧
  (∀ (n : Fin 48) (cmd : BitVec 5), Frame (.otherVdm n cmd) [pdSpots n]) ∧
  (∀ (n : Fin 48) (amps5 : Bool), Frame (.cableIdentityResponse n amps5) [pdSpots n]) ∧
  (∀ (n : Fin 48), Frame (.sourceCapabilitiesSend n) [[.one .outs, .one (.port n)]]) ∧
  (∀ (n : Fin 48), Frame (.senderResponseTimeout n) [pdctlSpots n, [.reg PWR.CNT.IGNHR, .reg PWR.EVT.IGNHR]]) ∧
  (∀ (n : Fin 48) (toCable : Bool), Frame (.pdMessageFailed n toCable) [poolSpots, Spot.at rosterFields n, bookSpots,
      [.one .copies, .all .port, .reg LDS.CHG0.P00_P31, .reg LDS.CHG1.P32_P47, .reg (PRT.ALTMUX.ACTIVE n), .regs
      PRT.ALTMUX.QBUSY, .regs PRT.ALTMUX.QHOLD, .reg (PRT.IBUSMEAS.ISET n), .reg (PRT.OWNER.OWN n), .reg
      (PRT.OWNER.STATE n), .reg (PRT.PDCNT.HRRCVD n), .reg (PRT.PDCNT.HRSENT n), .reg (PRT.PDSTS.ALTMODE n), .reg
      (PRT.PDSTS.CABLE n), .reg (PRT.PDSTS.EVT n), .reg (PRT.PDSTS.EXPLICIT n), .reg (PRT.PDSTS.OBJPOS n), .reg
      (PRT.PDSTS.OPCURR n), .reg (PRT.PDSTS.VCSRC n), .reg (PRT.PDSTS.VSEL n), .reg (PRT.TCSTS.RPADV n), .reg
      (PRT.VCONN.ON n), .reg (PWR.PBOOK.COMMIT n), .reg (PWR.PBOOK.CONTRACT n), .regs SWX.CNTA.STALE]]) ∧
  (∀ (n : Fin 48) (raise : Option PdReq), Frame (.budgetRequest n raise) [pdSpots n, [.reg (PRT.PDSTS.PWRROLE n),
      .reg (PRT.TCSTS.TCSTATE n), .reg PWR.EVT.WAIT, .reg (PWR.PALLOW.WAIT n)]]) ∧
  (∀ (n : Fin 52) (sight : Sys2Proof.CcSight), Frame (.ccAttachSeen n sight) [[.one .outs, .one (.port n), .all .up,
      .reg (PRT.TCSTS.ORIENT n), .reg (PRT.TCSTS.TCSTATE n), .regs UPS.TCSTS.ORIENT, .regs UPS.TCSTS.RPSEEN, .regs
      UPS.TCSTS.TCSTATE]]) ∧
  (∀ (n : Fin 52), Frame (.ccDebounceExpire n) [[.one .outs, .one (.port n), .all .up, .reg (PRT.PDSTS.PWRROLE n),
      .reg (PRT.TCEVT.ACCESS n), .reg (PRT.TCEVT.ATTACH n), .reg (PRT.TCEVT.FOREIGN n), .reg (PRT.TCSTS.LEAKMIN n),
      .reg (PRT.TCSTS.MOISTOK n), .reg (PRT.TCSTS.ORIENT n), .reg (PRT.TCSTS.TCSTATE n), .regs UPS.TCSTS.TCSTATE]]) ∧
  (∀ (n : Fin 52), Frame (.ccTerminationLost n) [[.one .outs, .all .up, .reg (PRT.TCSTS.ORIENT n), .reg
      (PRT.TCSTS.TCSTATE n), .regs UPS.TCSTS.NOSRC, .regs UPS.TCSTS.ORIENT, .regs UPS.TCSTS.RPSEEN, .regs
      UPS.TCSTS.TCSTATE]]) ∧
  (∀ (n : Fin 52), Frame (.drpToggle n) [[.one .outs, .one (.port n), .all .up]]) ∧
  (∀ (n : Fin 52), Frame (.drpTryExpire n) [[.one .outs, .one (.port n), .all .up, .reg (PRT.TCSTS.ORIENT n), .reg
      (PRT.TCSTS.TCSTATE n)]]) ∧
  (∀ (n : Fin 52) (cc2 : Bool) (far : Sys2Proof.FarEnd), Frame (.tryCcDebounceExpire n cc2 far) [[.one .outs, .one
      (.port n), .all .up, .reg (PRT.TCEVT.ATTACH n), .reg (PRT.TCSTS.LEAKMIN n), .reg (PRT.TCSTS.MOISTOK n), .reg
      (PRT.TCSTS.ORIENT n), .reg (PRT.TCSTS.TCSTATE n), .regs UPS.TCSTS.NOSRC, .regs UPS.TCSTS.ORIENT, .regs
      UPS.TCSTS.RPSEEN, .regs UPS.TCSTS.TCSTATE]]) ∧
  (∀ (n : Fin 52), Frame (.tryTimeout n) [[.one .outs, .one (.port n), .all .up, .reg (PRT.TCSTS.ORIENT n), .reg
      (PRT.TCSTS.TCSTATE n), .regs UPS.TCSTS.NOSRC, .regs UPS.TCSTS.ORIENT, .regs UPS.TCSTS.RPSEEN, .regs
      UPS.TCSTS.TCSTATE]]) ∧
  (∀ (n : Fin 52), Frame (.srcDisconnect n) [poolSpots, Spot.at hubFields n, Spot.at chgFields n, Spot.at
      rosterFields n, bookSpots, [.one .freeCtr, .all .port, .all .up, .reg LDS.CHG0.P00_P31, .reg LDS.CHG1.P32_P47,
      .reg (PRT.ALTMUX.ACTIVE n), .regs PRT.ALTMUX.QBUSY, .regs PRT.ALTMUX.QHOLD, .reg (PRT.FUSEVT.PGOFF n), .reg
      (PRT.FUSSTS.FOLD n), .reg (PRT.FUSSTS.GATEON n), .reg (PRT.FUSSTS.LIMIT n), .reg (PRT.FUSSTS.PG n), .reg
      (PRT.HUBSTS.CONNECTION n), .reg (PRT.HUBSTS.HIGHSPD n), .reg (PRT.HUBSTS.LOWSPD n), .reg (PRT.MTRCNT.DATAHIT
      n), .reg (PRT.MTRCNT.NAKHIT n), .reg (PRT.MTRSTS.STRANDED n), .reg (PRT.MTRSTS.WITHDRAWN n), .reg
      (PRT.PDSTS.ALTMODE n), .reg (PRT.PDSTS.CABLE n), .reg (PRT.PDSTS.EVT n), .reg (PRT.PDSTS.EXPLICIT n), .reg
      (PRT.PDSTS.OBJPOS n), .reg (PRT.PDSTS.OPCURR n), .reg (PRT.PDSTS.PWRROLE n), .reg (PRT.PDSTS.REV n), .reg
      (PRT.PDSTS.VCSRC n), .reg (PRT.PDSTS.VSEL n), .reg (PRT.QSTS.STOPPED n), .reg (PRT.TCEVT.DETACH n), .reg
      (PRT.TCEVT.WETOUT n), .reg (PRT.TCSTS.MOISTOK n), .reg (PRT.TCSTS.ORIENT n), .reg (PRT.TCSTS.RPADV n), .reg
      (PRT.TCSTS.TCSTATE n), .reg (PRT.TCSTS.WET n), .reg (PRT.TCSTS.WETGND n), .reg (PRT.TCSTS.WETPIN n), .reg
      (PRT.TCSTS.WETVBUS n), .reg (PRT.VCONN.ON n), .reg (PWR.PALLOW.SHED n), .reg (PWR.PALLOW.WAIT n), .reg
      (PWR.PBOOK.COMMIT n), .reg (PWR.PBOOK.CONTRACT n), .regs SWX.CNTA.STALE, .regs SWX.CNTB.RLYWD, .regs
      UPS.TCSTS.NOSRC, .regs UPS.TCSTS.ORIENT, .regs UPS.TCSTS.RPSEEN, .regs UPS.TCSTS.TCSTATE]]) ∧
  (∀ (n : Fin 48), Frame (.sinkVbusLost n) [[.one .outs, .one (.port n), .reg (PRT.PDSTS.PWRROLE n), .reg
      (PRT.TCSTS.ORIENT n), .reg (PRT.TCSTS.TCSTATE n)]]) ∧
  (∀ (n : Fin 48), Frame (.ccOvervoltage n) [poolSpots, Spot.at hubFields n, Spot.at chgFields n, Spot.at
      rosterFields n, bookSpots, [.one .freeCtr, .all .port, .all .up, .reg LDS.CHG0.P00_P31, .reg LDS.CHG1.P32_P47,
      .reg (PRT.ALTMUX.ACTIVE n), .regs PRT.ALTMUX.QBUSY, .regs PRT.ALTMUX.QHOLD, .reg (PRT.FUSEVT.PGOFF n), .reg
      (PRT.FUSSTS.FOLD n), .reg (PRT.FUSSTS.GATEON n), .reg (PRT.FUSSTS.LIMIT n), .reg (PRT.FUSSTS.PG n), .reg
      (PRT.HUBSTS.CONNECTION n), .reg (PRT.HUBSTS.HIGHSPD n), .reg (PRT.HUBSTS.LOWSPD n), .reg (PRT.MTRCNT.DATAHIT
      n), .reg (PRT.MTRCNT.NAKHIT n), .reg (PRT.MTRSTS.STRANDED n), .reg (PRT.MTRSTS.WITHDRAWN n), .reg
      (PRT.PDSTS.ALTMODE n), .reg (PRT.PDSTS.EVT n), .reg (PRT.PDSTS.EXPLICIT n), .reg (PRT.PDSTS.OBJPOS n), .reg
      (PRT.PDSTS.OPCURR n), .reg (PRT.PDSTS.PWRROLE n), .reg (PRT.PDSTS.VCSRC n), .reg (PRT.PDSTS.VSEL n), .reg
      (PRT.QSTS.STOPPED n), .reg (PRT.TCEVT.CCOV n), .reg (PRT.TCEVT.ERRREC n), .reg (PRT.TCEVT.WETOUT n), .reg
      (PRT.TCSTS.MOISTOK n), .reg (PRT.TCSTS.ORIENT n), .reg (PRT.TCSTS.TCSTATE n), .reg (PRT.TCSTS.WET n), .reg
      (PRT.TCSTS.WETGND n), .reg (PRT.TCSTS.WETPIN n), .reg (PRT.TCSTS.WETVBUS n), .reg (PRT.VCONN.ON n), .reg
      (PWR.PALLOW.SHED n), .reg (PWR.PALLOW.WAIT n), .reg (PWR.PBOOK.COMMIT n), .reg (PWR.PBOOK.CONTRACT n), .regs
      SWX.CNTA.STALE, .regs SWX.CNTB.RLYWD]]) ∧
  (∀ (n : Fin 48), Frame (.errorRecoveryEnd n) [[.one .outs, .one (.port n), .reg (PRT.TCSTS.RPADV n), .reg
      (PRT.TCSTS.TCSTATE n)]]) ∧
  (∀ (n : Fin 48) (leak : Sys2Proof.LeakSet), Frame (.moistureCheckComplete n leak) [[.one .outs, .one (.port n),
      .reg (PRT.TCEVT.WETIN n), .reg (PRT.TCEVT.WETOUT n), .reg (PRT.TCSTS.LEAKMIN n), .reg (PRT.TCSTS.MOISTOK n),
      .reg (PRT.TCSTS.TCSTATE n), .reg (PRT.TCSTS.WET n), .reg (PRT.TCSTS.WETGND n), .reg (PRT.TCSTS.WETPIN n), .reg
      (PRT.TCSTS.WETVBUS n)]]) ∧
  (∀ (n : Fin 48), Frame (.wetRetest n) [[.one .outs, .one (.port n)]])

/-- Each command named here, in every state, changes nothing but what stands beside it: every other register field
reads live as before, every other hidden record, the published shadow, the flash, the fuses and every other part of
the state but the queue are as before. A field named at every index may change at any of its ports or tables. -/
def Obligations.FramesOfTransfers : Prop :=
  (∀ (u : Fin 4) (adr : BitVec 7) (ep : BitVec 4), Frame (.hostPing u adr ep) [[.one .outs, .all .port, .one (.up u),
      .reg (SWX.CNTB.ADMNAK u)]]) ∧
  (∀ (id : Nat), Frame (.isoOutLateDiscard id) [poolSpots, [.regs SWX.CNTC.ISODROP]]) ∧
  (∀ (n : Fin 48) (adr : BitVec 7) (ep : BitVec 4), Frame (.isoHeldExpire n adr ep) [poolSpots, [.one (.port n),
      .regs SWX.CNTC.ISODROP]]) ∧
  (∀ (id : Nat), Frame (.cutThroughStart id) [[.one .outs, .one .sw]]) ∧
  (∀ (id : Nat), Frame (.packetRelease id) [poolSpots, [.all .port, .regs SWX.CNTA.STALE, .regs SWX.CNTC.ISODROP]]) ∧
  (∀ (n : Fin 48) (d : Dev), Frame (.downstreamOutResponse n d) [poolSpots, [.one (.port n)]]) ∧
  (∀ (n : Fin 48) (adr : BitVec 7) (ep : BitVec 4) (dirIn : Bool), Frame (.relaySlotFree n adr ep dirIn) [[.one
      .outs, .one (.port n)]]) ∧
  (Frame .granuleReturn [[.one .outs, .reg PKM.GCNT0.FREE, .reg PKM.GCNT1.INFLIGHT]]) ∧
  (∀ (u : Fin 4) (frame : BitVec 11) (uf : BitVec 3), Frame (.hostSof u frame uf) [[.one .outs, .all .port, .one (.up
      u), .regs PRT.MTRSTS.NOFIT, .regs PRT.MTRSTS.STRANDED]]) ∧
  (∀ (n : Fin 48) (k : Fin 16), Frame (.almanacLearningTimeout n k) [[.one .outs, .one (.port n)]]) ∧
  (∀ (n : Fin 48), Frame (.fsFrameStart n) [[.one .outs, .one (.port n), .reg (PRT.QSTS.LATECNT n)]]) ∧
  (∀ (u : Fin 4) (i : BitVec 7) (adr : BitVec 7) (ep : BitVec 4) (tok : Sys2Proof.SplitTok) (low crcOk : Bool), Frame
      (.ssplitNonperiodic u i adr ep tok low crcOk) [[.one .outs, .all .port, .one .sw, .reg (PKM.IQPTR.RPTR (48 +
      u)), .reg (PKM.IQPTR.WPTR (48 + u)), .reg (SWX.CNTA.BADTAIL u)]]) ∧
  (∀ (u : Fin 4) (i : BitVec 7) (adr : BitVec 7) (ep : BitVec 4) (dirIn : Bool), Frame (.csplitNonperiodic u i adr ep
      dirIn) [poolSpots, [.all .port, .one (.up u), .regs PRT.MTRSTS.STRANDED, .regs PRT.MTRSTS.WITHDRAWN, .regs
      SWX.CNTB.RLYWD]]) ∧
  (∀ (n : Fin 48) (d : Dev), Frame (.ttTransactionComplete n d) [[.one .freeCtr, .one .outs, .one (.port n), .one
      .sw, .reg (PKM.IQPTR.RPTR n), .reg (PKM.IQPTR.WPTR n), .reg (PRT.QSTS.STOPPED n), .regs SWX.CNTA.BADTAIL]]) ∧
  (∀ (u : Fin 4) (i : BitVec 7) (adr : BitVec 7) (ep : BitVec 4) (dirIn iso low behindHub tog : Bool) (bytes : List
      Byte), Frame (.ssplitPeriodic u i adr ep dirIn iso low behindHub tog bytes) [[.one .outs, .all .port, .one .sw,
      .reg (PKM.IQPTR.RPTR (48 + u)), .reg (PKM.IQPTR.WPTR (48 + u)), .regs PRT.MTRCNT.DATAHIT, .regs
      PRT.MTRCNT.NAKHIT, .regs PRT.QSTS.ALMFULL, .regs PRT.QSTS.LATECNT, .regs PRT.QSTS.OVFCNT]]) ∧
  (∀ (n : Fin 48) (t : Nat), Frame (.periodicReady n t) [[.one .outs, .one (.port n), .reg (PRT.QSTS.LATECNT n)]]) ∧
  (∀ (u : Fin 4) (i : BitVec 7) (adr : BitVec 7) (ep : BitVec 4) (tok : Sys2Proof.CsplitTok), Frame (.csplitPeriodic
      u i adr ep tok) [[.one .outs, .all .port]]) ∧
  (∀ (u : Fin 4) (wValue : BitVec 16) (i : Byte), Frame (.clearTtBuffer u wValue i) [ep0Spots u, [.all .port]]) ∧
  (∀ (u : Fin 4) (i : Byte), Frame (.resetTt u i) [ep0Spots u, [.all .port, .regs PRT.QSTS.STOPPED]]) ∧
  (∀ (u : Fin 4) (i : Byte), Frame (.stopTt u i) [ep0Spots u, [.all .port, .regs PRT.QSTS.STOPPED]]) ∧
  (∀ (u : Fin 4) (i : Byte), Frame (.getTtState u i) [ep0Spots u]) ∧
  (∀ (at_ : Sys2Proof.PortTime), Frame (.ttNonperiodicStart at_) [[.one .outs, .one (.port at_.port)]]) ∧
  (∀ (n : Fin 48) (k : Fin 16) (t : Nat), Frame (.prefetchStart n k t) [[.one .outs, .one (.port n)]]) ∧
  (∀ (n : Fin 48) (k : Fin 16) (d : Dev), Frame (.prefetchOutcome n k d) [[.one .freeCtr, .one .outs, .one (.port n),
      .one .sw, .reg (PKM.IQPTR.RPTR n), .reg (PKM.IQPTR.WPTR n), .reg (PRT.MTRSTS.WITHDRAWN n), .reg
      (PRT.QSTS.STOPPED n), .regs SWX.CNTA.BADTAIL]]) ∧
  (∀ (n : Fin 48) (k : Fin 16), Frame (.heldHandshakeExpire n k) [[.one .outs, .one (.port n)]]) ∧
  (∀ (n : Fin 48) (adr : BitVec 7), Frame (.controlHoldTimeout n adr) [[.one .outs, .one (.port n)]]) ∧
  (∀ (n : Fin 48) (k : Fin 16), Frame (.meteorRearm n k) [[.one .outs, .one (.port n)]]) ∧
  (∀ (line : Fin 32768), Frame (.correctedError line) [[.one .edgeDue, .one .outs, .one .sw, .reg PKM.ECCCNT.CORR,
      .reg PKM.ECCCNT.NOFENCE, .reg PKM.FENCE.PEND]]) ∧
  (Frame .overlayWritebackComplete [[.one .outs, .one .sw, .reg PKM.FENCE.FALLBACK]]) ∧
  (∀ (n : Fin 48), Frame (.ldsEnumStart n) [Spot.at rosterFields n, [.one .outs, .one (.port n), .reg
      LDS.CHG0.P00_P31, .reg LDS.CHG1.P32_P47]]) ∧
  (∀ (n : Fin 48), Frame (.ldsConnectWaitEnd n) [poolSpots, Spot.at hubFields n, [.all .port, .all .up, .reg
      (PRT.HUBSTS.HIGHSPD n), .reg (PRT.MTRCNT.DATAHIT n), .reg (PRT.MTRCNT.NAKHIT n), .reg (PRT.MTRSTS.STRANDED n),
      .reg (PRT.MTRSTS.WITHDRAWN n), .reg (PRT.QSTS.STOPPED n), .regs SWX.CNTA.STALE, .regs SWX.CNTB.RLYWD]]) ∧
  (∀ (n : Fin 48), Frame (.ldsEnumWaitEnd n) [[.one .outs, .one (.port n), .one .sw, .reg (PKM.IQPTR.RPTR 52), .reg
      (PKM.IQPTR.WPTR 52), .reg (SWX.CNTA.STALE 4)]]) ∧
  (∀ (n : Fin 48) (behind : Bool), Frame (.ldsHeartbeatPoll n behind) [Spot.at rosterFields n, [.one .edgeDue, .one
      .outs, .one (.port n), .reg LDS.CHG0.P00_P31, .reg LDS.CHG1.P32_P47, .reg LDS.CNT0.HBDROP]]) ∧
  (∀ (n : Fin 48) (d : Dev), Frame (.ldsHeartbeatOutcome n d) [Spot.at rosterFields n, [.one .edgeDue, .one .freeCtr,
      .one .outs, .one (.port n), .one .sw, .reg LDS.CHG0.P00_P31, .reg LDS.CHG1.P32_P47, .reg LDS.CNT1.HBSTALL, .reg
      (PKM.IQPTR.RPTR 52), .reg (PKM.IQPTR.RPTR n), .reg (PKM.IQPTR.WPTR 52), .reg (PKM.IQPTR.WPTR n), .reg
      (SWX.CNTA.BADTAIL (cntIdx 4)), .reg (SWX.CNTA.STALE 4)]]) ∧
  (∀ (n : Fin 48), Frame (.handoverTransit n) [poolSpots, Spot.at rosterFields n, [.one .copies, .all .port, .reg
      LDS.CHG0.P00_P31, .reg LDS.CHG1.P32_P47, .reg (PRT.OWNER.OWN n), .reg (PRT.OWNER.STATE n), .regs
      SWX.CNTA.STALE]]) ∧
  (∀ (n : Fin 48), Frame (.handoverClaiming n) [[.one .copies, .one .outs, .one (.port n), .all .up, .reg
      (PRT.OWNER.OWN n), .reg (PRT.OWNER.STATE n)]]) ∧
  (∀ (n : Fin 48), Frame (.handoverOwned n) [poolSpots, Spot.at hubFields n, Spot.at rosterFields n, bookSpots, [.one
      .copies, .one .freeCtr, .all .port, .all .up, .reg LDS.CHG0.P00_P31, .reg LDS.CHG1.P32_P47, .reg
      (PRT.ALTMUX.ACTIVE n), .regs PRT.ALTMUX.QBUSY, .regs PRT.ALTMUX.QHOLD, .reg (PRT.FUSEVT.PGOFF n), .reg
      (PRT.FUSSTS.FOLD n), .reg (PRT.FUSSTS.GATEON n), .reg (PRT.FUSSTS.LIMIT n), .reg (PRT.FUSSTS.PG n), .reg
      (PRT.HUBSTS.CONNECTION n), .reg (PRT.HUBSTS.HIGHSPD n), .reg (PRT.HUBSTS.LOWSPD n), .reg (PRT.HUBSTS.POWER n),
      .reg (PRT.MTRCNT.DATAHIT n), .reg (PRT.MTRCNT.NAKHIT n), .reg (PRT.MTRSTS.STRANDED n), .reg
      (PRT.MTRSTS.WITHDRAWN n), .reg (PRT.OWNCNT.DONE n), .reg (PRT.OWNCNT.RSTHO n), .reg (PRT.OWNER.NEXT n), .reg
      (PRT.OWNER.STATE n), .reg (PRT.PDSTS.ALTMODE n), .reg (PRT.PDSTS.EVT n), .reg (PRT.PDSTS.EXPLICIT n), .reg
      (PRT.PDSTS.OBJPOS n), .reg (PRT.PDSTS.OPCURR n), .reg (PRT.PDSTS.PWRROLE n), .reg (PRT.PDSTS.VCSRC n), .reg
      (PRT.PDSTS.VSEL n), .reg (PRT.QSTS.STOPPED n), .reg (PRT.TCEVT.OOS n), .reg (PRT.TCEVT.WETOUT n), .reg
      (PRT.TCSTS.MOISTOK n), .reg (PRT.TCSTS.OOS n), .reg (PRT.TCSTS.ORIENT n), .reg (PRT.TCSTS.RPADV n), .reg
      (PRT.TCSTS.TCSTATE n), .reg (PRT.TCSTS.WET n), .reg (PRT.TCSTS.WETGND n), .reg (PRT.TCSTS.WETPIN n), .reg
      (PRT.TCSTS.WETVBUS n), .reg (PRT.VCONN.ON n), .reg (PWR.PALLOW.SHED n), .reg (PWR.PALLOW.WAIT n), .reg
      (PWR.PBOOK.COMMIT n), .reg (PWR.PBOOK.CONTRACT n), .regs SWX.CNTA.STALE, .regs SWX.CNTB.RLYWD]]) ∧
  (Frame .initialOwnershipApply [poolSpots, Spot.each downFields, Spot.each hubFields, Spot.each rosterFields,
      bookSpots, [.one .boot, .one .copies, .one .freeCtr, .all .port, .all .up, .reg LDS.CHG0.P00_P31, .reg
      LDS.CHG1.P32_P47, .regs PRT.HUBSTS.POWER, .regs PRT.OWNER.OWN, .regs PRT.OWNER.STATE, .regs PRT.TCEVT.OOS,
      .regs PRT.TCSTS.OOS, .regs PRT.TCSTS.RPADV, .regs SWX.CNTA.STALE, .regs SWX.CNTB.RLYWD]])

/-- Each command named here, in every state, changes nothing but what stands beside it: every other register field
reads live as before, every other hidden record, the published shadow, the flash, the fuses and every other part of
the state but the queue are as before. A field named at every index may change at any of its ports or tables. -/
def Obligations.FramesOfTheSystem : Prop :=
  (Frame .shedStart [poolSpots, Spot.each hubFields, Spot.each chgFields, Spot.each rosterFields, bookSpots, [.one
      .freeCtr, .all .port, .all .quad, .one .shedDue, .all .up, .reg LDS.CHG0.P00_P31, .reg LDS.CHG1.P32_P47, .regs
      PRT.ALTMUX.ACTIVE, .regs PRT.ALTMUX.QBUSY, .regs PRT.ALTMUX.QHOLD, .regs PRT.FUSEVT.PGOFF, .regs
      PRT.FUSSTS.FOLD, .regs PRT.FUSSTS.FTFILL, .regs PRT.FUSSTS.GATEON, .regs PRT.FUSSTS.LIMIT, .regs PRT.FUSSTS.PG,
      .regs PRT.HUBSTS.CONNECTION, .regs PRT.HUBSTS.HIGHSPD, .regs PRT.HUBSTS.LOWSPD, .regs PRT.IBUSMEAS.ISET, .regs
      PRT.MTRCNT.DATAHIT, .regs PRT.MTRCNT.NAKHIT, .regs PRT.MTRSTS.STRANDED, .regs PRT.MTRSTS.WITHDRAWN, .regs
      PRT.PDSTS.ALTMODE, .regs PRT.PDSTS.EVT, .regs PRT.PDSTS.EXPLICIT, .regs PRT.PDSTS.OBJPOS, .regs
      PRT.PDSTS.OPCURR, .regs PRT.PDSTS.VCSRC, .regs PRT.PDSTS.VSEL, .regs PRT.QSTS.STOPPED, .regs PRT.TCSTS.RPADV,
      .regs PRT.TCSTS.TCSTATE, .regs PRT.VCONN.ON, .reg PWR.EVT.SHEDIN, .regs PWR.PALLOW.ALLOW, .regs
      PWR.PALLOW.SHED, .regs PWR.PALLOW.WAIT, .regs PWR.PBOOK.COMMIT, .regs PWR.PBOOK.CONTRACT, .regs SWX.CNTA.STALE,
      .regs SWX.CNTB.RLYWD]]) ∧
  (∀ (n : Fin 48), Frame (.readvExpire n) [[.one .outs, .one (.port n), .reg (PRT.TCSTS.RPADV n)]]) ∧
  (Frame .pe0Rebuild [bookSpots, [.one .outs, .all .port, .all .quad, .regs PRT.IBUSMEAS.ISET, .regs
      PRT.TCSTS.LEAKMIN, .regs PRT.TCSTS.MOISTOK, .regs PRT.TCSTS.RPADV, .reg PWR.EVT.REBUILD, .reg PWR.EVT.SHEDIN,
      .regs PWR.PALLOW.ALLOW, .regs PWR.PALLOW.SHED, .regs PWR.PBOOK.COMMIT, .regs PWR.PBOOK.CONTRACT]]) ∧
  (∀ (q : Fin 12), Frame (.quadWarnEnter q) [[.one .outs, .all .port, .regs PRT.TCSTS.RPADV, .reg (QD.EVT.WARNIN q),
      .reg (QD.STS.WARN q), .reg (QD.STS.WARNWAS q)]]) ∧
  (∀ (q : Fin 12), Frame (.quadWarnExit q) [[.one .outs, .all .port, .regs PRT.TCSTS.RPADV, .reg (QD.EVT.WARNOUT q),
      .reg (QD.STS.WARN q)]]) ∧
  (∀ (q : Fin 12), Frame (.quadFailExit q) [bookSpots, [.one .outs, .all .port, .all .quad, .one .shedDue, .regs
      PRT.IBUSMEAS.ISET, .regs PRT.TCSTS.LEAKMIN, .regs PRT.TCSTS.MOISTOK, .regs PRT.TCSTS.RPADV, .reg
      PWR.EVT.SHEDOUT, .regs PWR.PALLOW.SHED, .regs PWR.PBOOK.COMMIT, .regs PWR.PBOOK.CONTRACT, .reg (QD.EVT.FAILOUT
      q), .reg (QD.STS.FAIL q)]]) ∧
  (∀ (t : Fin 13), Frame (.coalesceTimeout t) [[.one .icuTimer, .one .outs, .reg (ICU.TSTAT.HELD t), .reg
      (ICU.TSTAT.LINE t)]]) ∧
  (Frame .faultNWidthEnd [[.one .faultWidth, .one .outs, .reg SYS.FAULTPIN.PIN]]) ∧
  (Frame .clkNwCalibrate [[.one .outs]]) ∧
  (∀ (addr : BitVec 24) (lo : Fin 32), Frame (.voteRewrite addr lo) [[.one .copies, .one .fixedAt, .one .outs]]) ∧
  (Frame .idleTimerExpire [[.one .outs, .one .sleep, .reg NW.STS.STATE]]) ∧
  (Frame .sleepBlockAnswer [[.one .edgeDue, .one .icuTimer, .one .idleAt, .one .outs, .one .phase, .all .port, .one
      .retain, .one .sleep, .regs ICU.TSTAT.HELD, .regs ICU.TSTAT.LINE, .reg NW.ABORT.BLOCK, .reg NW.ABORT.COUNT,
      .reg NW.ABORT.TARGET, .reg NW.ABORT.TMO, .reg NW.CNT.DUSKCNT, .reg NW.CNT.ECLCNT, .reg NW.STS.BACKOFF, .reg
      NW.STS.STATE, .regs PRT.TCSTS.RPADV]]) ∧
  (Frame .sleepAnswerTimeout [[.one .edgeDue, .one .idleAt, .one .outs, .one .sleep, .reg NW.ABORT.BLOCK, .reg
      NW.ABORT.COUNT, .reg NW.ABORT.TARGET, .reg NW.ABORT.TMO, .reg NW.STS.BACKOFF, .reg NW.STS.STATE]]) ∧
  (∀ (ev : Sys2Proof.FixedWake), Frame (.fixedWakeEvent ev) [wakeSpots]) ∧
  (∀ (i : Fin 512), Frame (.watchedSourceWake i) [wakeSpots]) ∧
  (Frame .wakeNAssert [wakeSpots]) ∧
  (∀ (adr : BitVec 7), Frame (.i2cAddressMatch adr) [wakeSpots]) ∧
  (∀ (q : Fin 12), Frame (.energyCountTick q) [[.one .outs, .one .retain]]) ∧
  (∀ (q : Fin 12) (mem : Option (List Byte)), Frame (.identityRereadComplete q mem) [[.one .outs, .one (.quad q),
      .reg (QD.EVT.IDDIFF q), .reg (QD.EVT.IDFAIL q), .reg (QD.STS.IDDIFF q)]]) ∧
  (∀ (m : Fin 8) (flashOk : Bool), Frame (.mbxCaptureComplete m flashOk) [[.one (.mb m), .one .outs, .reg
      (MBX.CTRL.BUSY m), .reg (MBX.CTRL.ERR m), .reg (MBX.CTRL.VALID m)]]) ∧
  (Frame .bulkBufferTimeout [[.one .outs, .reg MBX.BULK.HELD, .reg MBX.BULK.HOLDER, .regs MBX.CTRL.VALID]]) ∧
  (∀ (i : Fin 4), Frame (.linkFrameCrcFail i) [[.one .outs, .reg (SEC.LINKCNT.RETX i)]]) ∧
  (∀ (i : Fin 4), Frame (.linkLockLost i) [[.one .outs, .one (.sec i), .reg (SEC.EVT.EVENTS i), .reg
      (SEC.LINKCNT.RETRAIN i), .reg (SEC.STS.HOLD i), .reg (SEC.STS.LINK i)]]) ∧
  (∀ (i : Fin 4), Frame (.linkRestored i) [poolSpots, Spot.each downFields, Spot.each hubFields, Spot.each chgFields,
      Spot.each rosterFields, bookSpots, [.one .copies, .all .flt, .one .freeCtr, .all .port, .one (.sec i), .all
      .up, .reg LDS.CHG0.P00_P31, .reg LDS.CHG1.P32_P47, .regs PRT.ALTMUX.NAKCNT, .regs PRT.FUSSTS.FTFILL, .regs
      PRT.HUBSTS.POWER, .regs PRT.IBUSMEAS.ISET, .regs PRT.OWNER.OWN, .regs PRT.OWNER.STATE, .regs PRT.PDCNT.HRRCVD,
      .regs PRT.PDCNT.HRSENT, .regs PRT.PDCNT.REJECTS, .regs PRT.PDSTS.CABLE, .regs PRT.PDSTS.REV, .regs
      PRT.TCEVT.ERRREC, .regs PRT.TCEVT.OOS, .regs PRT.TCSTS.LEAKMIN, .regs PRT.TCSTS.OOS, .regs PRT.TCSTS.RPADV,
      .regs PRT.VCONN.PIN, .regs PRT.VCONN.SWAPCNT, .reg PWR.CNT.REJECTS, .reg (SEC.EVT.EVENTS i), .reg (SEC.STS.HOLD
      i), .reg (SEC.STS.LINK i), .reg (SEC.STS.RATE i), .regs SWX.CNTA.STALE, .regs SWX.CNTB.RLYWD]]) ∧
  (∀ (i : Fin 4), Frame (.portDiePorEnd i) [[.one .outs, .one (.sec i)]]) ∧
  (∀ (x : Supply), x ≠ .vddio → Frame (.supplyRestored x) [[.all .flt, .one .low, .one .outs, .one .phase, .regs
      SEC.STS.VCONNOK]]) ∧
  (∀ (s t : State), s.phase ≠ .rescue → exec (.supplyRestored .vddio) s = .next t → ChangesOnly [.one .low, .one
      .outs, .one .phase] s t)

/-- Each command named here, in every state, changes nothing but what stands beside it: every other register field
reads live as before, every other hidden record and every other part of the state but the queue are as before. A
command that can record a fault may bring about the action of that fault (R378), so it may also write what stands in
faultSpots. -/
def Obligations.FramesOfFaultsAndTrips : Prop :=
  (∀ (q : Fin 12), Frame (.quadFailEnter q) [faultSpots, [.one .shedDue, .reg (QD.EVT.FAILIN q), .reg (QD.STS.FAIL
      q), .reg (QD.STS.FAILWAS q)]]) ∧
  (∀ (q : Fin 12), Frame (.failShedTimeout q) [faultSpots]) ∧
  (∀ (q : Fin 12), Frame (.quadOverpower q) [faultSpots]) ∧
  (∀ (b : Fin 74), Frame (.graceExpire b) [faultSpots]) ∧
  (∀ (b : Fin 74), Frame (.recoveryWindowExpire b) [[.one .outs, .reg (FLT.RECOV.WINDOW (FBlk.ofIdx b))]]) ∧
  (∀ (e : Fin 11), Frame (.engineWatchdogMiss e) [faultSpots, [.one .missed]]) ∧
  (Frame .coreDieOvertemp [faultSpots]) ∧
  (Frame .clkNwOutOfRange [faultSpots]) ∧
  (∀ (area : RetArea), Frame (.retentionParityError area) [faultSpots, [.reg BOOT.BOOTCNT.BOOTNO, .reg
      BOOT.BOOTCNT.CONSEC, .reg BOOT.FAILMEM.CAL, .reg BOOT.FAILMEM.LINK, .reg BOOT.FAILMEM.NVM, .reg
      BOOT.FAILMEM.QID, .reg BOOT.FAILMEM.SLOTA, .reg BOOT.FAILMEM.SLOTB]]) ∧
  (∀ (n : Fin 48), Frame (.hardShort n) [tripSpots n, [.reg (causeBit n 2)]]) ∧
  (∀ (n : Fin 48), Frame (.overvoltageTrip n) [tripSpots n, [.reg (causeBit n 4)]]) ∧
  (∀ (n : Fin 48), Frame (.overloadTrip n) [tripSpots n, [.reg (causeBit n 1)]]) ∧
  (∀ (n : Fin 48), Frame (.voltageTrip n) [tripSpots n, [.reg (causeBit n 5)]]) ∧
  (∀ (n : Fin 48) (pass : Bool), Frame (.selfTestComplete n pass) [faultSpots, [.reg (PRT.FUSEVT.LATCHED n), .reg
      (PRT.FUSEVT.SENSEFLT n), .reg (PRT.FUSSTS.SENSE n), .reg (PRT.TCSTS.LEAKMIN n)]]) ∧
  (∀ (n : Fin 48), Frame (.vbusDischarged n) [poolSpots, Spot.at hubFields n, Spot.at chgFields n, Spot.at
      rosterFields n, bookSpots, [.one .freeCtr, .all .port, .all .up, .reg LDS.CHG0.P00_P31, .reg LDS.CHG1.P32_P47,
      .reg (PRT.HUBSTS.CONNECTION n), .reg (PRT.HUBSTS.HIGHSPD n), .reg (PRT.HUBSTS.LOWSPD n), .reg
      (PRT.MTRCNT.DATAHIT n), .reg (PRT.MTRCNT.NAKHIT n), .reg (PRT.MTRSTS.STRANDED n), .reg (PRT.MTRSTS.WITHDRAWN
      n), .reg (PRT.QSTS.STOPPED n), .reg (PRT.TCSTS.LEAKMIN n), .reg (PRT.TCSTS.MOISTOK n), .reg (PWR.PBOOK.COMMIT
      n), .regs SWX.CNTA.STALE, .regs SWX.CNTB.RLYWD]]) ∧
  (∀ (n : Fin 48), Frame (.fbiTrimLimit n) [faultSpots]) ∧
  (∀ (i : Fin 4), Frame (.portDieOvertemp i) [faultSpots]) ∧
  (∀ (u : Fin 4) (adr : BitVec 7) (ep : BitVec 4) (req : BitVec 64) (crcOk : Bool), Frame (.hostSetup u adr ep req
      crcOk) [faultSpots, [.one .rescue, .reg (SWX.CNTA.BADTAIL u), .reg (UPS.EVT.CONFIG u)]]) ∧
  (∀ (u : Fin 4) (adr : BitVec 7) (ep : BitVec 4) (tog : Bool) (bytes : List Byte), Frame (.hostOut u adr ep tog
      bytes) [faultSpots, [.reg (SWX.CNTB.ADMNAK u)]]) ∧
  (∀ (u : Fin 4) (adr : BitVec 7) (ep : BitVec 4) (acked : Bool), Frame (.hostIn u adr ep acked) [faultSpots, [.reg
      (SWX.CNTC.NOSLOT u)]]) ∧
  (∀ (u : Fin 4) (adr : BitVec 7) (ep : BitVec 4), Frame (.hostIsoIn u adr ep) [faultSpots, [.reg (SWX.CNTC.NOSLOT
      u)]]) ∧
  (∀ (u : Fin 4) (adr : BitVec 7) (ep : BitVec 4) (pid : Fin 4) (bytes : List Byte) (crcOk : Bool), Frame
      (.hostIsoOut u adr ep pid bytes crcOk) [faultSpots, [.reg (SWX.CNTA.BADTAIL u), .reg (SWX.CNTC.ISODROP u)]]) ∧
  (∀ (id : Nat) (out : Fin 53), Frame (.fabricBeat id out) [faultSpots]) ∧
  (∀ (id : Nat) (crcOk : Bool), Frame (.packetTail id crcOk) [faultSpots, [.regs SWX.CNTA.BADTAIL, .regs
      SWX.CNTB.ADMNAK]]) ∧
  (∀ (n : Fin 48) (adr : BitVec 7) (ep : BitVec 4) (d : Dev), Frame (.downstreamInResponse n adr ep d) [faultSpots]) ∧
  (∀ (n : Fin 48), Frame (.psHardResetExpire n) [poolSpots, Spot.at hubFields n, Spot.at chgFields n, Spot.at
      rosterFields n, bookSpots, [.one .freeCtr, .all .port, .all .up, .reg LDS.CHG0.P00_P31, .reg LDS.CHG1.P32_P47,
      .reg (PRT.FUSEVT.PGOFF n), .reg (PRT.FUSSTS.FOLD n), .reg (PRT.FUSSTS.GATEON n), .reg (PRT.FUSSTS.LIMIT n),
      .reg (PRT.FUSSTS.PG n), .reg (PRT.HUBSTS.CONNECTION n), .reg (PRT.HUBSTS.HIGHSPD n), .reg (PRT.HUBSTS.LOWSPD
      n), .reg (PRT.MTRCNT.DATAHIT n), .reg (PRT.MTRCNT.NAKHIT n), .reg (PRT.MTRSTS.STRANDED n), .reg
      (PRT.MTRSTS.WITHDRAWN n), .reg (PRT.PDSTS.VCSRC n), .reg (PRT.QSTS.STOPPED n), .reg (PRT.TCSTS.TCSTATE n), .reg
      (PRT.VCONN.ON n), .reg (PWR.PBOOK.COMMIT n), .reg (PWR.PBOOK.CONTRACT n), .regs SWX.CNTA.STALE, .regs
      SWX.CNTB.RLYWD]]) ∧
  (∀ (n : Fin 48), Frame (.srcRecoverExpire n) [[.one .outs, .one (.port n), .reg (PRT.TCSTS.LEAKMIN n), .reg
      (PRT.TCSTS.MOISTOK n)]]) ∧
  (∀ (n : Fin 48), Frame (.vconnOvercurrent n) [faultSpots, [.reg (PRT.IBUSMEAS.ISET n), .reg (PRT.VCONN.OCCNT n)]]) ∧
  (Frame .fenceStart [[.one .edgeDue, .one .freeCtr, .one .outs, .one .sw, .reg PKM.FENCE.ACTIVE, .reg
      PKM.FENCE.FALLBACK, .reg PKM.FENCE.LINE, .reg PKM.FENCE.PEND, .reg PKM.FENCE.RESULT, .reg PKM.FREESTS.WAS, .reg
      PKM.GCNT0.FREE, .reg PKM.GCNT0.QUEUED, .reg PKM.GCNT1.FENCED, .reg PKM.GCNT2.POOLFREE, .reg PKM.PNOTE0.P00_P31,
      .reg PKM.PNOTE1.P32_P47]]) ∧
  (∀ (pass : Bool), Frame (.fenceTestComplete pass) [faultSpots, [.reg PKM.FENCE.ACTIVE, .reg PKM.FENCE.RESULT, .reg
      PKM.GCNT1.FENCED, .reg PKM.GCNT1.RETIRED, .reg PKM.GCNT2.SPAREUSED, .reg PKM.LINECNT.LASTING, .reg
      PKM.LINECNT.TRANSIENT]]) ∧
  (Frame .replacementAvailable [[.one .edgeDue, .all .flt, .one .freeCtr, .one .outs, .one .sw, .reg
      PKM.FENCE.ACTIVE, .reg PKM.FENCE.FALLBACK, .reg PKM.FENCE.RESULT, .reg PKM.FREESTS.WAS, .reg PKM.GCNT0.FREE,
      .reg PKM.GCNT0.QUEUED, .reg PKM.GCNT1.FENCED, .reg PKM.GCNT1.RETIRED, .reg PKM.GCNT2.POOLFREE, .reg
      PKM.GCNT2.SPAREUSED]]) ∧
  (∀ (e : Fin 11), Frame (.engineReadyTimeout e) [[.one .boot, .one .flash, .one .freeCtr, .one .outs, .one .retain,
      .reg BOOT.BOOTCNT.BOOTNO, .reg BOOT.BOOTCNT.CONSEC, .reg BOOT.FAILMEM.CAL, .reg BOOT.FAILMEM.LINK, .reg
      BOOT.FAILMEM.NVM, .reg BOOT.FAILMEM.QID, .reg BOOT.FAILMEM.SLOTA, .reg BOOT.FAILMEM.SLOTB, .reg
      BOOT.JSEQ.JSEQ]]) ∧
  (Frame .bootTimeout [[.one .boot, .one .flash, .one .freeCtr, .one .outs, .one .retain, .reg BOOT.BOOTCNT.BOOTNO,
      .reg BOOT.BOOTCNT.CONSEC, .reg BOOT.FAILMEM.CAL, .reg BOOT.FAILMEM.LINK, .reg BOOT.FAILMEM.NVM, .reg
      BOOT.FAILMEM.QID, .reg BOOT.FAILMEM.SLOTA, .reg BOOT.FAILMEM.SLOTB, .reg BOOT.JSEQ.JSEQ]]) ∧
  (∀ (i : Fin 4) (rep : Sys2Proof.SectorReport), Frame (.sectorRestartComplete i rep) [faultSpots, [.one .image, .reg
      BOOT.BOOTCNT.BOOTNO, .reg BOOT.BOOTCNT.CONSEC, .reg BOOT.FAILMEM.CAL, .reg BOOT.FAILMEM.LINK, .reg
      BOOT.FAILMEM.NVM, .reg BOOT.FAILMEM.QID, .reg BOOT.FAILMEM.SLOTA, .reg BOOT.FAILMEM.SLOTB, .regs
      PRT.FUSCFG.ILIM, .regs QD.EVT.IDFAIL, .regs QD.ID.BOARDREV, .regs QD.ID.RSHUNT, .regs QD.STS.IDSRC, .reg
      (SEC.STS.HOLD i), .reg (SEC.STS.LINK i), .reg (SEC.STS.RATE i)]]) ∧
  (∀ (readBack : Bool), Frame (.updateCommandComplete readBack) [[.one .boot, .one .flash, .one .freeCtr, .one .outs,
      .one .retain, .one .upd, .reg BOOT.HDRSEQ.SEQ, .reg BOOT.HEADER.ACTIVE, .reg BOOT.HEADER.STATEA, .reg
      BOOT.HEADER.STATEB, .reg BOOT.JSEQ.JSEQ, .reg BOOT.UPDSTS.BUSY, .reg BOOT.UPDSTS.OWNER, .reg
      BOOT.UPDSTS.REASON, .reg BOOT.UPDSTS.RESTRICT, .reg BOOT.UPDSTS.RESULT, .reg BOOT.UPDSTS.SESSION]]) ∧
  (Frame .fuseBlowComplete [[.one .boot, .one .flash, .one .freeCtr, .one .fuseGoal, .one .fuses, .one .outs, .one
      .retain, .reg BOOT.JSEQ.JSEQ, .reg BOOT.RBCTR.VALUE, .reg BOOT.UPDSTS.BUSY]]) ∧
  (∀ (n : Fin 48) (d : Dev), Frame (.ldsControlComplete n d) [poolSpots, Spot.at hubFields n, Spot.at rosterFields n,
      [.one .freeCtr, .all .port, .all .up, .reg LDS.CHG0.P00_P31, .reg LDS.CHG1.P32_P47, .reg LDS.CNT0.ENUMFAIL,
      .reg (PKM.IQPTR.WPTR 52), .reg (PKM.IQPTR.WPTR n), .reg (PRT.HUBSTS.HIGHSPD n), .reg (PRT.MTRCNT.DATAHIT n),
      .reg (PRT.MTRCNT.NAKHIT n), .reg (PRT.MTRSTS.STRANDED n), .reg (PRT.MTRSTS.WITHDRAWN n), .reg (PRT.QSTS.STOPPED
      n), .reg (SWX.CNTA.BADTAIL (cntIdx 4)), .regs SWX.CNTA.STALE, .regs SWX.CNTB.RLYWD]]) ∧
  (∀ (n : Fin 48), Frame (.ldsRequestTimeout n) [poolSpots, Spot.at hubFields n, Spot.at rosterFields n, [.one
      .freeCtr, .all .port, .all .up, .reg LDS.CHG0.P00_P31, .reg LDS.CHG1.P32_P47, .reg LDS.CNT0.ENUMFAIL, .reg
      LDS.CNT1.CTLTMO, .reg (PKM.IQPTR.WPTR 52), .reg (PRT.HUBSTS.HIGHSPD n), .reg (PRT.MTRCNT.DATAHIT n), .reg
      (PRT.MTRCNT.NAKHIT n), .reg (PRT.MTRSTS.STRANDED n), .reg (PRT.MTRSTS.WITHDRAWN n), .reg (PRT.QSTS.STOPPED n),
      .regs SWX.CNTA.STALE, .regs SWX.CNTB.RLYWD]]) ∧
  (∀ (n : Fin 48), Frame (.ldsRecordDelayEnd n) [Spot.at rosterFields n, [.one .edgeDue, .one .freeCtr, .one .outs,
      .one (.port n), .one .sw, .reg LDS.CHG0.P00_P31, .reg LDS.CHG1.P32_P47, .reg (PKM.IQPTR.RPTR 52), .reg
      (PKM.IQPTR.WPTR 52), .reg (SWX.CNTA.STALE 4)]]) ∧
  (∀ (line : Sys2Proof.ErrLine) (at_ : Sys2Proof.ErrAt), Frame (.uncorrectableError line at_) [poolSpots, Spot.each
      hubFields, Spot.each rosterFields, [.one .freeCtr, .one .icuTimer, .all .port, .all .up, .reg (ICU.SRC_STS.LOST
      4), .reg (ICU.SRC_STS.LOSTCNT 4), .reg (ICU.SRC_STS.PEND 4), .regs ICU.TSTAT.HELD, .regs ICU.TSTAT.LINE, .reg
      LDS.CHG0.P00_P31, .reg LDS.CHG1.P32_P47, .reg LDS.CNT0.ENUMFAIL, .reg PKM.ECCCNT.NOFENCE, .reg
      PKM.ECCCNT.UNCORR, .reg PKM.FENCE.PEND, .reg (PKM.IQPTR.WPTR 52), .reg PKM.PNOTE0.P00_P31, .reg
      PKM.PNOTE1.P32_P47, .regs PRT.HUBSTS.HIGHSPD, .regs PRT.MTRCNT.DATAHIT, .regs PRT.MTRCNT.NAKHIT, .regs
      PRT.MTRSTS.STRANDED, .regs PRT.MTRSTS.WITHDRAWN, .regs PRT.QSTS.STOPPED, .regs SWX.CNTA.STALE, .regs
      SWX.CNTB.RLYWD]]) ∧
  (∀ (n : Fin 48), Frame (.portRestartEnd n) [poolSpots, Spot.at hubFields n, Spot.at rosterFields n, bookSpots,
      [.one .copies, .one .freeCtr, .any (fun _ => portImageFields n), .all .port, .all .up, .reg LDS.CHG0.P00_P31,
      .reg LDS.CHG1.P32_P47, .reg (PRT.ALTMUX.ACTIVE n), .regs PRT.ALTMUX.QBUSY, .regs PRT.ALTMUX.QHOLD, .reg
      (PRT.FUSEVT.PGOFF n), .reg (PRT.FUSSTS.FOLD n), .reg (PRT.FUSSTS.GATEON n), .reg (PRT.FUSSTS.LIMIT n), .reg
      (PRT.FUSSTS.PG n), .reg (PRT.HUBSTS.CONNECTION n), .reg (PRT.HUBSTS.HIGHSPD n), .reg (PRT.HUBSTS.LOWSPD n),
      .reg (PRT.HUBSTS.OVERCUR n), .reg (PRT.HUBSTS.POWER n), .reg (PRT.MTRCNT.DATAHIT n), .reg (PRT.MTRCNT.NAKHIT
      n), .reg (PRT.MTRSTS.STRANDED n), .reg (PRT.MTRSTS.WITHDRAWN n), .reg (PRT.PDSTS.ALTMODE n), .reg
      (PRT.PDSTS.EVT n), .reg (PRT.PDSTS.EXPLICIT n), .reg (PRT.PDSTS.OBJPOS n), .reg (PRT.PDSTS.OPCURR n), .reg
      (PRT.PDSTS.PWRROLE n), .reg (PRT.PDSTS.VCSRC n), .reg (PRT.PDSTS.VSEL n), .reg (PRT.QSTS.STOPPED n), .reg
      (PRT.TCEVT.OOS n), .reg (PRT.TCEVT.WETOUT n), .reg (PRT.TCSTS.MOISTOK n), .reg (PRT.TCSTS.OOS n), .reg
      (PRT.TCSTS.ORIENT n), .reg (PRT.TCSTS.RPADV n), .reg (PRT.TCSTS.TCSTATE n), .reg (PRT.TCSTS.WET n), .reg
      (PRT.TCSTS.WETGND n), .reg (PRT.TCSTS.WETPIN n), .reg (PRT.TCSTS.WETVBUS n), .reg (PRT.VCONN.ON n), .reg
      (PWR.PALLOW.SHED n), .reg (PWR.PALLOW.WAIT n), .reg (PWR.PBOOK.COMMIT n), .reg (PWR.PBOOK.CONTRACT n), .regs
      SWX.CNTA.STALE, .regs SWX.CNTB.RLYWD]]) ∧
  (∀ (m : Fin 8), Frame (.mbxCaptureStart m) [[.one (.mb m), .one .outs, .reg (MBX.CTRL.PART m)]]) ∧
  (∀ (i : Fin 4), Frame (.linkRestoreTimeout i) [faultSpots]) ∧
  (∀ (strap : BitVec 5), Frame (.resetNRelease strap) [[.one .boot, .one .flash, .one .freeCtr, .one .outs, .one
      .phase, .one .resetN, .one .retain, .one .strapDue, .reg BOOT.BOOTCNT.BOOTNO, .reg BOOT.BOOTCNT.CONSEC, .reg
      BOOT.FAILMEM.CAL, .reg BOOT.FAILMEM.LINK, .reg BOOT.FAILMEM.NVM, .reg BOOT.FAILMEM.QID, .reg
      BOOT.FAILMEM.SLOTA, .reg BOOT.FAILMEM.SLOTB, .reg BOOT.JSEQ.JSEQ, .reg SYS.STRAP.ADR, .reg SYS.STRAP.MODE]]) ∧
  (∀ (strap : BitVec 5) (vio33 : Bool), Frame (.powerOnResetEnd strap vio33) [[.one .boot, .one .flash, .one
      .freeCtr, .one .outs, .one .phase, .one .por, .one .retain, .one .strapDue, .one .vioDue, .reg
      BOOT.BOOTCNT.BOOTNO, .reg BOOT.BOOTCNT.CONSEC, .reg BOOT.FAILMEM.CAL, .reg BOOT.FAILMEM.LINK, .reg
      BOOT.FAILMEM.NVM, .reg BOOT.FAILMEM.QID, .reg BOOT.FAILMEM.SLOTA, .reg BOOT.FAILMEM.SLOTB, .reg BOOT.JSEQ.JSEQ,
      .reg SYS.STRAP.ADR, .reg SYS.STRAP.MODE, .reg SYS.STRAP.VIO33]]) ∧
  (∀ (e : Fin 11), Frame (.engineRestartComplete e) [poolSpots, Spot.each hubFields, Spot.each rosterFields,
      bookSpots, [.one .boot, .one .copies, .one .flash, .one .freeCtr, .all .port, .one .retain, .one .stopped, .all
      .up, .one .upd, .reg BOOT.JSEQ.JSEQ, .reg LDS.CHG0.P00_P31, .reg LDS.CHG1.P32_P47, .regs PRT.ALTMUX.ACTIVE,
      .regs PRT.ALTMUX.NAKCNT, .regs PRT.ALTMUX.QBUSY, .regs PRT.ALTMUX.QHOLD, .regs PRT.HUBSTS.HIGHSPD, .regs
      PRT.HUBSTS.TESTSEL, .regs PRT.IBUSMEAS.ISET, .regs PRT.MTRCNT.DATAHIT, .regs PRT.MTRCNT.NAKHIT, .regs
      PRT.MTRSTS.STRANDED, .regs PRT.MTRSTS.WITHDRAWN, .regs PRT.OWNER.OWN, .regs PRT.OWNER.STATE, .regs
      PRT.PDCNT.HRRCVD, .regs PRT.PDCNT.HRSENT, .regs PRT.PDCNT.REJECTS, .regs PRT.PDSTS.ALTMODE, .regs
      PRT.PDSTS.CABLE, .regs PRT.PDSTS.EVT, .regs PRT.PDSTS.EXPLICIT, .regs PRT.PDSTS.OBJPOS, .regs PRT.PDSTS.OPCURR,
      .regs PRT.PDSTS.REV, .regs PRT.PDSTS.VCSRC, .regs PRT.PDSTS.VSEL, .regs PRT.QSTS.STOPPED, .regs
      PRT.TCSTS.LEAKMIN, .regs PRT.TCSTS.MOISTOK, .regs PRT.TCSTS.RPADV, .regs PRT.VCONN.ON, .regs PRT.VCONN.PIN,
      .regs PRT.VCONN.SWAPCNT, .reg PWR.CNT.REJECTS, .regs PWR.PBOOK.COMMIT, .regs PWR.PBOOK.CONTRACT, .reg
      (SEC.STS.PCRUN (e - 4)), .reg (SEC.STS.SERUN e), .regs SWX.CNTA.STALE, .regs SWX.CNTB.RLYWD]]) ∧
  (∀ (u : Fin 4) (wValue wIndex wLength : BitVec 16), Frame (.getDescriptor u wValue wIndex wLength) [ep0Spots u,
      [.one .rescue]]) ∧
  (∀ (u : Fin 4), Frame (.upstreamCrcErrors u) [faultSpots]) ∧
  (∀ (n : Fin 48), Frame (.handoverReleasing n) [poolSpots, Spot.at hubFields n, Spot.at rosterFields n, [.one
      .copies, .one .freeCtr, .all .port, .all .up, .reg LDS.CHG0.P00_P31, .reg LDS.CHG1.P32_P47, .reg
      (PRT.MTRCNT.DATAHIT n), .reg (PRT.MTRCNT.NAKHIT n), .reg (PRT.MTRSTS.STRANDED n), .reg (PRT.MTRSTS.WITHDRAWN
      n), .reg (PRT.OWNER.LASTBY n), .reg (PRT.OWNER.LASTRES n), .reg (PRT.OWNER.NEXT n), .reg (PRT.OWNER.OWN n),
      .reg (PRT.OWNER.STATE n), .reg (PRT.QSTS.STOPPED n), .regs SWX.CNTA.STALE, .regs SWX.CNTB.RLYWD, .reg
      SWX.GEN.GEN0, .reg SWX.GEN.GEN1, .reg SWX.GEN.GEN2, .reg SWX.GEN.GEN3, .tab SWX.RT.GEN, .tab SWX.RT.HSDEV, .tab
      SWX.RT.PORT, .tab SWX.RT.VALID]]) ∧
  (∀ (r : Requester) (n : Fin 48) (w : Word), Frame (.prstrt r n w) [writeSpots r (0x10008 + 0x400 * n), faultSpots])
      ∧
  (∀ (r : Requester) (n : Fin 48) (w : Word), Frame (.oosWrite r n w) [writeSpots r (0x10008 + 0x400 * n),
      faultSpots]) ∧
  (∀ (r : Requester) (t : Fin 13) (w : Word), Frame (.icuDone r t w) [writeSpots r (0x5004 + 0x40 * t), faultSpots,
      [.reg (ICU.TCNT.ORDCNT t)]]) ∧
  (∀ (r : Requester) (slot : Bool), Frame (.updcmdOpen r slot) [writeSpots r 0x1020, [.one .boot, .one .flash, .one
      .freeCtr, .one .outs, .one .retain, .one .upd, .reg BOOT.JSEQ.JSEQ, .reg BOOT.UPDSTS.BUSY, .reg
      BOOT.UPDSTS.OWNER, .reg BOOT.UPDSTS.TARGET]]) ∧
  (∀ (r : Requester), Frame (.updcmdErase r) [writeSpots r 0x1020, [.one .flash, .one .outs, .one .upd, .reg
      BOOT.UPDSTS.BUSY]]) ∧
  (∀ (r : Requester), Frame (.updcmdProgram r) [writeSpots r 0x1020, [.one .flash, .one .outs, .one .upd, .reg
      BOOT.UPDSTS.BUSY, .reg BOOT.UPDSTS.SESSION]]) ∧
  (∀ (r : Requester), Frame (.updcmdVerify r) [writeSpots r 0x1020, [.one .upd, .reg BOOT.UPDSTS.BUSY]]) ∧
  (∀ (r : Requester), Frame (.updcmdCommit r) [writeSpots r 0x1020, [.one .upd, .reg BOOT.UPDSTS.BUSY]]) ∧
  (∀ (r : Requester), Frame (.updcmdAbort r) [writeSpots r 0x1020, [.one .upd, .reg BOOT.UPDSTS.BUSY]]) ∧
  (∀ (r : Requester) (b : Fin 74) (w : Word), bitAt w.toNat 1 = false → Frame (.fltackAck r b w) [writeSpots r
      ((FBlk.ofIdx b).base + 12), [.one (.flt (FBlk.ofIdx b).idx), .reg (FLT.FLTTIMERS.STATE (FBlk.ofIdx b))]]) ∧
  (∀ (r : Requester) (t : Fin 13), Frame (.icuClaim r t) [rejectSpots r, [.reg SYS.OFFCNT.COUNT, .regs
      ICU.SRC_STS.INSVC, .regs ICU.SRC_STS.PEND, .reg (ICU.TCNT.SPUR t), .reg (ICU.TSTAT.INSVC t), .reg
      (ICU.TSTAT.LINE t)]]) ∧
  (∀ (r : Requester) (m : Fin 8), Frame (.mbxData3Read r m) [rejectSpots r, [.reg SYS.OFFCNT.COUNT, .reg
      (MBX.CTRL.PART m)]]) ∧
  (∀ (u : Fin 4) (s t : State), s.good .vddNw = true → exec (.upstreamVbusOvervoltage u) s = .next t → ChangesOnly
      ([.one .vbusHigh] :: [faultSpots]).flatten s t)
end

