-- ==== Sys2Proof/Laws/Maps.lean ====
section
/-! SUPPORT. Laws of the sparse maps: what a map reads after a put, and that put, erase and insert keep the canonical
form. -/

namespace Sys2Proof.Machine

theorem KMap.mem_erase {α : Type} {m : KMap α} {k : Nat} {e : Nat × α} :
    e ∈ KMap.erase m k ↔ e ∈ m ∧ e.1 ≠ k := by
  induction m with
  | nil => simp [KMap.erase]
  | cons a m ih =>
    obtain ⟨j, v⟩ := a
    by_cases h : j = k
    · simp only [KMap.erase, h, if_true, ih, List.mem_cons]
      constructor
      · exact fun ⟨x, y⟩ => ⟨.inr x, y⟩
      · rintro ⟨rfl | x, y⟩
        · exact absurd rfl y
        · exact ⟨x, y⟩
    · simp only [KMap.erase, h, if_false, ih, List.mem_cons]
      constructor
      · rintro (rfl | ⟨x, y⟩)
        · exact ⟨.inl rfl, h⟩
        · exact ⟨.inr x, y⟩
      · rintro ⟨rfl | x, y⟩
        · exact .inl rfl
        · exact .inr ⟨x, y⟩

theorem KMap.mem_insert {α : Type} {m : KMap α} {k : Nat} {v : α} {e : Nat × α} :
    e ∈ KMap.insert m k v ↔ e = (k, v) ∨ e ∈ m := by
  induction m with
  | nil => simp [KMap.insert]
  | cons a m ih =>
    obtain ⟨j, w⟩ := a
    by_cases h : k < j
    · simp [KMap.insert, h]
    · simp only [KMap.insert, h, if_false, List.mem_cons, ih]
      tauto

theorem KMap.get_erase_self {α : Type} (d : α) (m : KMap α) (k : Nat) : KMap.get d (KMap.erase m k) k = d := by
  induction m with
  | nil => rfl
  | cons a m ih =>
    obtain ⟨j, v⟩ := a
    by_cases h : j = k <;> simp [KMap.erase, KMap.get, h, ih]

theorem KMap.get_erase_ne {α : Type} (d : α) (m : KMap α) {j k : Nat} (h : j ≠ k) :
    KMap.get d (KMap.erase m k) j = KMap.get d m j := by
  induction m with
  | nil => rfl
  | cons a m ih =>
    obtain ⟨i, v⟩ := a
    by_cases hk : i = k
    · have hj : ¬i = j := fun e => h (e.symm.trans hk)
      rw [KMap.erase, if_pos hk, ih, KMap.get, if_neg hj]
    · rw [KMap.erase, if_neg hk, KMap.get, KMap.get, ih]

theorem KMap.get_insert_ne {α : Type} (d : α) (m : KMap α) {j k : Nat} (v : α) (h : j ≠ k) :
    KMap.get d (KMap.insert m k v) j = KMap.get d m j := by
  induction m with
  | nil => simp [KMap.insert, KMap.get, h.symm]
  | cons a m ih =>
    obtain ⟨i, w⟩ := a
    by_cases hi : k < i
    · simp [KMap.insert, hi, KMap.get, h.symm]
    · simp [KMap.insert, hi, KMap.get, ih]

theorem KMap.get_insert_self {α : Type} (d : α) (m : KMap α) (k : Nat) (v : α) (h : ∀ e ∈ m, e.1 ≠ k) :
    KMap.get d (KMap.insert m k v) k = v := by
  induction m with
  | nil => simp [KMap.insert, KMap.get]
  | cons a m ih =>
    obtain ⟨i, w⟩ := a
    by_cases hi : k < i
    · simp [KMap.insert, hi, KMap.get]
    · have hne : ¬i = k := h (i, w) (by simp)
      rw [KMap.insert, if_neg hi, KMap.get, if_neg hne]
      exact ih (fun e he => h e (by simp [he]))

/-- Read after write at the same key. -/
theorem KMap.get_put_self {α : Type} [DecidableEq α] (d : α) (m : KMap α) (k : Nat) (v : α) :
    KMap.get d (KMap.put d m k v) k = v := by
  unfold KMap.put
  by_cases h : v = d
  · rw [if_pos h, KMap.get_erase_self, h]
  · rw [if_neg h]
    exact KMap.get_insert_self d _ k v (fun e he => (KMap.mem_erase.mp he).2)

/-- A write leaves every other key alone, whatever default the reader has. -/
theorem KMap.get_put_ne {α : Type} [DecidableEq α] (d d' : α) (m : KMap α) {j k : Nat} (v : α) (h : j ≠ k) :
    KMap.get d' (KMap.put d m k v) j = KMap.get d' m j := by
  unfold KMap.put
  by_cases hv : v = d
  · rw [if_pos hv, KMap.get_erase_ne d' m h]
  · rw [if_neg hv, KMap.get_insert_ne d' _ v h, KMap.get_erase_ne d' m h]

theorem KMap.erase_sublist {α : Type} (m : KMap α) (k : Nat) : (KMap.erase m k).Sublist m := by
  induction m with
  | nil => exact List.Sublist.refl _
  | cons a m ih =>
    obtain ⟨j, v⟩ := a
    by_cases h : j = k
    · simpa [KMap.erase, h] using ih.cons (k, v)
    · simpa [KMap.erase, h] using ih.cons_cons (j, v)

theorem KMap.rising_erase {α : Type} {m : KMap α} (h : KMap.rising m) (k : Nat) : KMap.rising (KMap.erase m k) :=
  List.Pairwise.sublist (KMap.erase_sublist m k) h

theorem KMap.rising_insert {α : Type} {m : KMap α} (h : KMap.rising m) (k : Nat) (v : α) (hk : ∀ e ∈ m, e.1 ≠ k) :
    KMap.rising (KMap.insert m k v) := by
  induction m with
  | nil => simp [KMap.insert, KMap.rising]
  | cons a m ih =>
    obtain ⟨j, w⟩ := a
    obtain ⟨hj, hm⟩ := List.pairwise_cons.mp h
    by_cases hlt : k < j
    · simp only [KMap.insert, hlt, if_true]
      refine List.pairwise_cons.mpr ⟨?_, h⟩
      intro e he
      rcases List.mem_cons.mp he with rfl | he
      · exact hlt
      · exact lt_trans hlt (hj e he)
    · simp only [KMap.insert, hlt, if_false]
      have hne : ¬j = k := hk (j, w) (by simp)
      refine List.pairwise_cons.mpr ⟨?_, ih hm (fun e he => hk e (by simp [he]))⟩
      intro e he
      rcases KMap.mem_insert.mp he with rfl | he
      · exact lt_of_le_of_ne (Nat.le_of_not_lt hlt) hne
      · exact hj e he

theorem KMap.rising_put {α : Type} [DecidableEq α] {m : KMap α} (h : KMap.rising m) (d : α) (k : Nat) (v : α) :
    KMap.rising (KMap.put d m k v) := by
  unfold KMap.put
  split
  · exact KMap.rising_erase h k
  · exact KMap.rising_insert (KMap.rising_erase h k) k v (fun e he => (KMap.mem_erase.mp he).2)

theorem KMap.wf_iff {α : Type} [DecidableEq α] {d : α} {m : KMap α} :
    KMap.wf d m = true ↔ KMap.rising m ∧ ∀ e ∈ m, e.2 ≠ d := by
  simp [KMap.wf, KMap.rising]

/-- A put keeps the canonical form. -/
theorem KMap.wf_put {α : Type} [DecidableEq α] {d : α} {m : KMap α} (h : KMap.wf d m = true) (k : Nat) (v : α) :
    KMap.wf d (KMap.put d m k v) = true := by
  rw [KMap.wf_iff] at h ⊢
  refine ⟨KMap.rising_put h.1 d k v, ?_⟩
  intro e he
  unfold KMap.put at he
  split at he
  · exact h.2 e (KMap.mem_erase.mp he).1
  · rcases KMap.mem_insert.mp he with rfl | he
    · assumption
    · exact h.2 e (KMap.mem_erase.mp he).1

theorem KMap.rising_filter {α : Type} {m : KMap α} (h : KMap.rising m) (p : Nat × α → Bool) :
    KMap.rising (m.filter p) := List.Pairwise.sublist List.filter_sublist h

/-- The entries of one rising map put into another that has none of its keys. -/
theorem KMap.rising_merge {α : Type} (l : KMap α) : ∀ {m : KMap α}, KMap.rising m → KMap.rising l →
    (∀ e ∈ m, ∀ f ∈ l, e.1 ≠ f.1) → KMap.rising (l.foldl (fun m e => KMap.insert m e.1 e.2) m) := by
  induction l with
  | nil => exact fun h _ _ => h
  | cons a l ih =>
    intro m h hl hd
    obtain ⟨ha, hl⟩ := List.pairwise_cons.mp hl
    refine ih (KMap.rising_insert h a.1 a.2 (fun e he => hd e he a (by simp))) hl ?_
    intro e he f hf
    rcases KMap.mem_insert.mp he with rfl | he
    · exact (ha f hf).ne
    · exact hd e he f (by simp [hf])

theorem KMap.wf_filter {α : Type} [DecidableEq α] {d : α} {m : KMap α} (h : KMap.wf d m = true) (p : Nat × α → Bool) :
    KMap.wf d (m.filter p) = true := by
  rw [KMap.wf_iff] at h ⊢
  exact ⟨KMap.rising_filter h.1 p, fun e he => h.2 e (List.mem_filter.mp he).1⟩

/-- A map that keeps some entries under their keys, each changed to a value that is not the default, is canonical. -/
theorem KMap.wf_filterMap {α : Type} [DecidableEq α] {d : α} {m : KMap α} (h : KMap.wf d m = true)
    (g : Nat × α → Option (Nat × α)) (hk : ∀ e f, g e = some f → f.1 = e.1 ∧ f.2 ≠ d) :
    KMap.wf d (m.filterMap g) = true := by
  rw [KMap.wf_iff] at h ⊢
  refine ⟨List.Pairwise.filterMap g ?_ h.1, ?_⟩
  · intro a b hab a' ha b' hb
    rw [(hk a a' ha).1, (hk b b' hb).1]
    exact hab
  · intro e he
    obtain ⟨a, _, ha⟩ := List.mem_filterMap.mp he
    exact (hk a e ha).2

/-- Erasing a range of the flash keeps its canonical form. -/
theorem Memory.wf_filter {m : List Host.Cell} (h : Memory.wf m = true) (p : Host.Cell → Bool) :
    Memory.wf (m.filter p) = true := KMap.wf_filter h p

/-- Programming the flash keeps its canonical form. -/
theorem Memory.wf_program (bs : List Byte) : ∀ (m : List Host.Cell) (a : Nat), Memory.wf m = true →
    Memory.wf (programBytes m a bs) = true := by
  induction bs with
  | nil => exact fun m a h => h
  | cons b bs ih => exact fun m a h => ih _ _ (KMap.wf_put h a _)

end Sys2Proof.Machine
end

