-- ==== Sys2Proof/Laws/State.lean ====
section
/-! SUPPORT. Laws of the named state updates: one lemma per field per update, what a register and a hidden record read as
after a write, and the derived writes as plain ones. -/

namespace Sys2Proof.Machine

/-! ## Fields that an update leaves alone -/
@[simp] theorem State.wr_shadow (s : State) (f : Field) (v : Nat) : (s.wr f v).shadow = s.shadow := rfl
@[simp] theorem State.wr_image (s : State) (f : Field) (v : Nat) : (s.wr f v).image = s.image := rfl
@[simp] theorem State.wr_copies (s : State) (f : Field) (v : Nat) : (s.wr f v).copies = s.copies := rfl
@[simp] theorem State.wr_ports (s : State) (f : Field) (v : Nat) : (s.wr f v).ports = s.ports := rfl
@[simp] theorem State.wr_ups (s : State) (f : Field) (v : Nat) : (s.wr f v).ups = s.ups := rfl
@[simp] theorem State.wr_secs (s : State) (f : Field) (v : Nat) : (s.wr f v).secs = s.secs := rfl
@[simp] theorem State.wr_quads (s : State) (f : Field) (v : Nat) : (s.wr f v).quads = s.quads := rfl
@[simp] theorem State.wr_faults (s : State) (f : Field) (v : Nat) : (s.wr f v).faults = s.faults := rfl
@[simp] theorem State.wr_mbx (s : State) (f : Field) (v : Nat) : (s.wr f v).mbx = s.mbx := rfl
@[simp] theorem State.wr_sw (s : State) (f : Field) (v : Nat) : (s.wr f v).sw = s.sw := rfl
@[simp] theorem State.wr_boot (s : State) (f : Field) (v : Nat) : (s.wr f v).boot = s.boot := rfl
@[simp] theorem State.wr_retain (s : State) (f : Field) (v : Nat) : (s.wr f v).retain = s.retain := rfl
@[simp] theorem State.wr_rescue (s : State) (f : Field) (v : Nat) : (s.wr f v).rescue = s.rescue := rfl
@[simp] theorem State.wr_sleep (s : State) (f : Field) (v : Nat) : (s.wr f v).sleep = s.sleep := rfl
@[simp] theorem State.wr_upd (s : State) (f : Field) (v : Nat) : (s.wr f v).upd = s.upd := rfl
@[simp] theorem State.wr_fuseGoal (s : State) (f : Field) (v : Nat) : (s.wr f v).fuseGoal = s.fuseGoal := rfl
@[simp] theorem State.wr_fuses (s : State) (f : Field) (v : Nat) : (s.wr f v).fuses = s.fuses := rfl
@[simp] theorem State.wr_phase (s : State) (f : Field) (v : Nat) : (s.wr f v).phase = s.phase := rfl
@[simp] theorem State.wr_safe (s : State) (f : Field) (v : Nat) : (s.wr f v).safe = s.safe := rfl
@[simp] theorem State.wr_stopped (s : State) (f : Field) (v : Nat) : (s.wr f v).stopped = s.stopped := rfl
@[simp] theorem State.wr_missed (s : State) (f : Field) (v : Nat) : (s.wr f v).missed = s.missed := rfl
@[simp] theorem State.wr_now (s : State) (f : Field) (v : Nat) : (s.wr f v).now = s.now := rfl
@[simp] theorem State.wr_icuTimer (s : State) (f : Field) (v : Nat) : (s.wr f v).icuTimer = s.icuTimer := rfl
@[simp] theorem State.wr_faultWidth (s : State) (f : Field) (v : Nat) : (s.wr f v).faultWidth = s.faultWidth := rfl
@[simp] theorem State.wr_resetDue (s : State) (f : Field) (v : Nat) : (s.wr f v).resetDue = s.resetDue := rfl
@[simp] theorem State.wr_low (s : State) (f : Field) (v : Nat) : (s.wr f v).low = s.low := rfl
@[simp] theorem State.wr_vbusU (s : State) (f : Field) (v : Nat) : (s.wr f v).vbusU = s.vbusU := rfl
@[simp] theorem State.wr_resetN (s : State) (f : Field) (v : Nat) : (s.wr f v).resetN = s.resetN := rfl
@[simp] theorem State.wr_por (s : State) (f : Field) (v : Nat) : (s.wr f v).por = s.por := rfl
@[simp] theorem State.wr_vioDue (s : State) (f : Field) (v : Nat) : (s.wr f v).vioDue = s.vioDue := rfl
@[simp] theorem State.wr_strapDue (s : State) (f : Field) (v : Nat) : (s.wr f v).strapDue = s.strapDue := rfl
@[simp] theorem State.wr_vbusHigh (s : State) (f : Field) (v : Nat) : (s.wr f v).vbusHigh = s.vbusHigh := rfl
@[simp] theorem State.wr_idleAt (s : State) (f : Field) (v : Nat) : (s.wr f v).idleAt = s.idleAt := rfl
@[simp] theorem State.wr_fixedAt (s : State) (f : Field) (v : Nat) : (s.wr f v).fixedAt = s.fixedAt := rfl
@[simp] theorem State.wr_duskDue (s : State) (f : Field) (v : Nat) : (s.wr f v).duskDue = s.duskDue := rfl
@[simp] theorem State.wr_lastSpi (s : State) (f : Field) (v : Nat) : (s.wr f v).lastSpi = s.lastSpi := rfl
@[simp] theorem State.wr_lastI2c (s : State) (f : Field) (v : Nat) : (s.wr f v).lastI2c = s.lastI2c := rfl
@[simp] theorem State.wr_heldI2c (s : State) (f : Field) (v : Nat) : (s.wr f v).heldI2c = s.heldI2c := rfl
@[simp] theorem State.wr_edgeDue (s : State) (f : Field) (v : Nat) : (s.wr f v).edgeDue = s.edgeDue := rfl
@[simp] theorem State.wr_poolTrig (s : State) (f : Field) (v : Nat) : (s.wr f v).poolTrig = s.poolTrig := rfl
@[simp] theorem State.wr_shedDue (s : State) (f : Field) (v : Nat) : (s.wr f v).shedDue = s.shedDue := rfl
@[simp] theorem State.wr_ldsSeq (s : State) (f : Field) (v : Nat) : (s.wr f v).ldsSeq = s.ldsSeq := rfl
@[simp] theorem State.wr_ldsRan (s : State) (f : Field) (v : Nat) : (s.wr f v).ldsRan = s.ldsRan := rfl
@[simp] theorem State.wr_ldsProfiles (s : State) (f : Field) (v : Nat) : (s.wr f v).ldsProfiles = s.ldsProfiles := rfl
@[simp] theorem State.wr_pdTable (s : State) (f : Field) (v : Nat) : (s.wr f v).pdTable = s.pdTable := rfl
@[simp] theorem State.wr_flash (s : State) (f : Field) (v : Nat) : (s.wr f v).flash = s.flash := rfl
@[simp] theorem State.wr_freeCtr (s : State) (f : Field) (v : Nat) : (s.wr f v).freeCtr = s.freeCtr := rfl
@[simp] theorem State.wr_outs (s : State) (f : Field) (v : Nat) : (s.wr f v).outs = s.outs := rfl
@[simp] theorem State.wr_pending (s : State) (f : Field) (v : Nat) : (s.wr f v).pending = s.pending := rfl

@[simp] theorem State.load_shadow (s : State) (f : Field) (v : Nat) : (s.load f v).shadow = s.shadow := rfl
@[simp] theorem State.load_copies (s : State) (f : Field) (v : Nat) : (s.load f v).copies = s.copies := rfl
@[simp] theorem State.load_ports (s : State) (f : Field) (v : Nat) : (s.load f v).ports = s.ports := rfl
@[simp] theorem State.load_ups (s : State) (f : Field) (v : Nat) : (s.load f v).ups = s.ups := rfl
@[simp] theorem State.load_secs (s : State) (f : Field) (v : Nat) : (s.load f v).secs = s.secs := rfl
@[simp] theorem State.load_quads (s : State) (f : Field) (v : Nat) : (s.load f v).quads = s.quads := rfl
@[simp] theorem State.load_faults (s : State) (f : Field) (v : Nat) : (s.load f v).faults = s.faults := rfl
@[simp] theorem State.load_mbx (s : State) (f : Field) (v : Nat) : (s.load f v).mbx = s.mbx := rfl
@[simp] theorem State.load_sw (s : State) (f : Field) (v : Nat) : (s.load f v).sw = s.sw := rfl
@[simp] theorem State.load_boot (s : State) (f : Field) (v : Nat) : (s.load f v).boot = s.boot := rfl
@[simp] theorem State.load_retain (s : State) (f : Field) (v : Nat) : (s.load f v).retain = s.retain := rfl
@[simp] theorem State.load_rescue (s : State) (f : Field) (v : Nat) : (s.load f v).rescue = s.rescue := rfl
@[simp] theorem State.load_sleep (s : State) (f : Field) (v : Nat) : (s.load f v).sleep = s.sleep := rfl
@[simp] theorem State.load_upd (s : State) (f : Field) (v : Nat) : (s.load f v).upd = s.upd := rfl
@[simp] theorem State.load_fuseGoal (s : State) (f : Field) (v : Nat) : (s.load f v).fuseGoal = s.fuseGoal := rfl
@[simp] theorem State.load_fuses (s : State) (f : Field) (v : Nat) : (s.load f v).fuses = s.fuses := rfl
@[simp] theorem State.load_phase (s : State) (f : Field) (v : Nat) : (s.load f v).phase = s.phase := rfl
@[simp] theorem State.load_safe (s : State) (f : Field) (v : Nat) : (s.load f v).safe = s.safe := rfl
@[simp] theorem State.load_stopped (s : State) (f : Field) (v : Nat) : (s.load f v).stopped = s.stopped := rfl
@[simp] theorem State.load_missed (s : State) (f : Field) (v : Nat) : (s.load f v).missed = s.missed := rfl
@[simp] theorem State.load_now (s : State) (f : Field) (v : Nat) : (s.load f v).now = s.now := rfl
@[simp] theorem State.load_icuTimer (s : State) (f : Field) (v : Nat) : (s.load f v).icuTimer = s.icuTimer := rfl
@[simp] theorem State.load_faultWidth (s : State) (f : Field) (v : Nat) : (s.load f v).faultWidth = s.faultWidth := rfl
@[simp] theorem State.load_resetDue (s : State) (f : Field) (v : Nat) : (s.load f v).resetDue = s.resetDue := rfl
@[simp] theorem State.load_low (s : State) (f : Field) (v : Nat) : (s.load f v).low = s.low := rfl
@[simp] theorem State.load_vbusU (s : State) (f : Field) (v : Nat) : (s.load f v).vbusU = s.vbusU := rfl
@[simp] theorem State.load_resetN (s : State) (f : Field) (v : Nat) : (s.load f v).resetN = s.resetN := rfl
@[simp] theorem State.load_por (s : State) (f : Field) (v : Nat) : (s.load f v).por = s.por := rfl
@[simp] theorem State.load_vioDue (s : State) (f : Field) (v : Nat) : (s.load f v).vioDue = s.vioDue := rfl
@[simp] theorem State.load_strapDue (s : State) (f : Field) (v : Nat) : (s.load f v).strapDue = s.strapDue := rfl
@[simp] theorem State.load_vbusHigh (s : State) (f : Field) (v : Nat) : (s.load f v).vbusHigh = s.vbusHigh := rfl
@[simp] theorem State.load_idleAt (s : State) (f : Field) (v : Nat) : (s.load f v).idleAt = s.idleAt := rfl
@[simp] theorem State.load_fixedAt (s : State) (f : Field) (v : Nat) : (s.load f v).fixedAt = s.fixedAt := rfl
@[simp] theorem State.load_duskDue (s : State) (f : Field) (v : Nat) : (s.load f v).duskDue = s.duskDue := rfl
@[simp] theorem State.load_lastSpi (s : State) (f : Field) (v : Nat) : (s.load f v).lastSpi = s.lastSpi := rfl
@[simp] theorem State.load_lastI2c (s : State) (f : Field) (v : Nat) : (s.load f v).lastI2c = s.lastI2c := rfl
@[simp] theorem State.load_heldI2c (s : State) (f : Field) (v : Nat) : (s.load f v).heldI2c = s.heldI2c := rfl
@[simp] theorem State.load_edgeDue (s : State) (f : Field) (v : Nat) : (s.load f v).edgeDue = s.edgeDue := rfl
@[simp] theorem State.load_poolTrig (s : State) (f : Field) (v : Nat) : (s.load f v).poolTrig = s.poolTrig := rfl
@[simp] theorem State.load_shedDue (s : State) (f : Field) (v : Nat) : (s.load f v).shedDue = s.shedDue := rfl
@[simp] theorem State.load_ldsSeq (s : State) (f : Field) (v : Nat) : (s.load f v).ldsSeq = s.ldsSeq := rfl
@[simp] theorem State.load_ldsRan (s : State) (f : Field) (v : Nat) : (s.load f v).ldsRan = s.ldsRan := rfl
@[simp] theorem State.load_ldsProfiles (s : State) (f : Field) (v : Nat) : (s.load f v).ldsProfiles = s.ldsProfiles := rfl
@[simp] theorem State.load_pdTable (s : State) (f : Field) (v : Nat) : (s.load f v).pdTable = s.pdTable := rfl
@[simp] theorem State.load_flash (s : State) (f : Field) (v : Nat) : (s.load f v).flash = s.flash := rfl
@[simp] theorem State.load_freeCtr (s : State) (f : Field) (v : Nat) : (s.load f v).freeCtr = s.freeCtr := rfl
@[simp] theorem State.load_outs (s : State) (f : Field) (v : Nat) : (s.load f v).outs = s.outs := rfl
@[simp] theorem State.load_pending (s : State) (f : Field) (v : Nat) : (s.load f v).pending = s.pending := rfl

@[simp] theorem State.modPort_regs (s : State) (n : Nat) (g : PortX → PortX) : (s.modPort n g).regs = s.regs := rfl
@[simp] theorem State.modPort_shadow (s : State) (n : Nat) (g : PortX → PortX) : (s.modPort n g).shadow = s.shadow := rfl
@[simp] theorem State.modPort_image (s : State) (n : Nat) (g : PortX → PortX) : (s.modPort n g).image = s.image := rfl
@[simp] theorem State.modPort_copies (s : State) (n : Nat) (g : PortX → PortX) : (s.modPort n g).copies = s.copies := rfl
@[simp] theorem State.modPort_ups (s : State) (n : Nat) (g : PortX → PortX) : (s.modPort n g).ups = s.ups := rfl
@[simp] theorem State.modPort_secs (s : State) (n : Nat) (g : PortX → PortX) : (s.modPort n g).secs = s.secs := rfl
@[simp] theorem State.modPort_quads (s : State) (n : Nat) (g : PortX → PortX) : (s.modPort n g).quads = s.quads := rfl
@[simp] theorem State.modPort_faults (s : State) (n : Nat) (g : PortX → PortX) : (s.modPort n g).faults = s.faults := rfl
@[simp] theorem State.modPort_mbx (s : State) (n : Nat) (g : PortX → PortX) : (s.modPort n g).mbx = s.mbx := rfl
@[simp] theorem State.modPort_sw (s : State) (n : Nat) (g : PortX → PortX) : (s.modPort n g).sw = s.sw := rfl
@[simp] theorem State.modPort_boot (s : State) (n : Nat) (g : PortX → PortX) : (s.modPort n g).boot = s.boot := rfl
@[simp] theorem State.modPort_retain (s : State) (n : Nat) (g : PortX → PortX) : (s.modPort n g).retain = s.retain := rfl
@[simp] theorem State.modPort_rescue (s : State) (n : Nat) (g : PortX → PortX) : (s.modPort n g).rescue = s.rescue := rfl
@[simp] theorem State.modPort_sleep (s : State) (n : Nat) (g : PortX → PortX) : (s.modPort n g).sleep = s.sleep := rfl
@[simp] theorem State.modPort_upd (s : State) (n : Nat) (g : PortX → PortX) : (s.modPort n g).upd = s.upd := rfl
@[simp] theorem State.modPort_fuseGoal (s : State) (n : Nat) (g : PortX → PortX) : (s.modPort n g).fuseGoal = s.fuseGoal := rfl
@[simp] theorem State.modPort_fuses (s : State) (n : Nat) (g : PortX → PortX) : (s.modPort n g).fuses = s.fuses := rfl
@[simp] theorem State.modPort_phase (s : State) (n : Nat) (g : PortX → PortX) : (s.modPort n g).phase = s.phase := rfl
@[simp] theorem State.modPort_safe (s : State) (n : Nat) (g : PortX → PortX) : (s.modPort n g).safe = s.safe := rfl
@[simp] theorem State.modPort_stopped (s : State) (n : Nat) (g : PortX → PortX) : (s.modPort n g).stopped = s.stopped := rfl
@[simp] theorem State.modPort_missed (s : State) (n : Nat) (g : PortX → PortX) : (s.modPort n g).missed = s.missed := rfl
@[simp] theorem State.modPort_now (s : State) (n : Nat) (g : PortX → PortX) : (s.modPort n g).now = s.now := rfl
@[simp] theorem State.modPort_icuTimer (s : State) (n : Nat) (g : PortX → PortX) : (s.modPort n g).icuTimer = s.icuTimer := rfl
@[simp] theorem State.modPort_faultWidth (s : State) (n : Nat) (g : PortX → PortX) : (s.modPort n g).faultWidth = s.faultWidth := rfl
@[simp] theorem State.modPort_resetDue (s : State) (n : Nat) (g : PortX → PortX) : (s.modPort n g).resetDue = s.resetDue := rfl
@[simp] theorem State.modPort_low (s : State) (n : Nat) (g : PortX → PortX) : (s.modPort n g).low = s.low := rfl
@[simp] theorem State.modPort_vbusU (s : State) (n : Nat) (g : PortX → PortX) : (s.modPort n g).vbusU = s.vbusU := rfl
@[simp] theorem State.modPort_resetN (s : State) (n : Nat) (g : PortX → PortX) : (s.modPort n g).resetN = s.resetN := rfl
@[simp] theorem State.modPort_por (s : State) (n : Nat) (g : PortX → PortX) : (s.modPort n g).por = s.por := rfl
@[simp] theorem State.modPort_vioDue (s : State) (n : Nat) (g : PortX → PortX) : (s.modPort n g).vioDue = s.vioDue := rfl
@[simp] theorem State.modPort_strapDue (s : State) (n : Nat) (g : PortX → PortX) : (s.modPort n g).strapDue = s.strapDue := rfl
@[simp] theorem State.modPort_vbusHigh (s : State) (n : Nat) (g : PortX → PortX) : (s.modPort n g).vbusHigh = s.vbusHigh := rfl
@[simp] theorem State.modPort_idleAt (s : State) (n : Nat) (g : PortX → PortX) : (s.modPort n g).idleAt = s.idleAt := rfl
@[simp] theorem State.modPort_fixedAt (s : State) (n : Nat) (g : PortX → PortX) : (s.modPort n g).fixedAt = s.fixedAt := rfl
@[simp] theorem State.modPort_duskDue (s : State) (n : Nat) (g : PortX → PortX) : (s.modPort n g).duskDue = s.duskDue := rfl
@[simp] theorem State.modPort_lastSpi (s : State) (n : Nat) (g : PortX → PortX) : (s.modPort n g).lastSpi = s.lastSpi := rfl
@[simp] theorem State.modPort_lastI2c (s : State) (n : Nat) (g : PortX → PortX) : (s.modPort n g).lastI2c = s.lastI2c := rfl
@[simp] theorem State.modPort_heldI2c (s : State) (n : Nat) (g : PortX → PortX) : (s.modPort n g).heldI2c = s.heldI2c := rfl
@[simp] theorem State.modPort_edgeDue (s : State) (n : Nat) (g : PortX → PortX) : (s.modPort n g).edgeDue = s.edgeDue := rfl
@[simp] theorem State.modPort_poolTrig (s : State) (n : Nat) (g : PortX → PortX) : (s.modPort n g).poolTrig = s.poolTrig := rfl
@[simp] theorem State.modPort_shedDue (s : State) (n : Nat) (g : PortX → PortX) : (s.modPort n g).shedDue = s.shedDue := rfl
@[simp] theorem State.modPort_ldsSeq (s : State) (n : Nat) (g : PortX → PortX) : (s.modPort n g).ldsSeq = s.ldsSeq := rfl
@[simp] theorem State.modPort_ldsRan (s : State) (n : Nat) (g : PortX → PortX) : (s.modPort n g).ldsRan = s.ldsRan := rfl
@[simp] theorem State.modPort_ldsProfiles (s : State) (n : Nat) (g : PortX → PortX) : (s.modPort n g).ldsProfiles = s.ldsProfiles := rfl
@[simp] theorem State.modPort_pdTable (s : State) (n : Nat) (g : PortX → PortX) : (s.modPort n g).pdTable = s.pdTable := rfl
@[simp] theorem State.modPort_flash (s : State) (n : Nat) (g : PortX → PortX) : (s.modPort n g).flash = s.flash := rfl
@[simp] theorem State.modPort_freeCtr (s : State) (n : Nat) (g : PortX → PortX) : (s.modPort n g).freeCtr = s.freeCtr := rfl
@[simp] theorem State.modPort_outs (s : State) (n : Nat) (g : PortX → PortX) : (s.modPort n g).outs = s.outs := rfl
@[simp] theorem State.modPort_pending (s : State) (n : Nat) (g : PortX → PortX) : (s.modPort n g).pending = s.pending := rfl

@[simp] theorem State.modUp_regs (s : State) (u : Nat) (g : UpX → UpX) : (s.modUp u g).regs = s.regs := rfl
@[simp] theorem State.modUp_shadow (s : State) (u : Nat) (g : UpX → UpX) : (s.modUp u g).shadow = s.shadow := rfl
@[simp] theorem State.modUp_image (s : State) (u : Nat) (g : UpX → UpX) : (s.modUp u g).image = s.image := rfl
@[simp] theorem State.modUp_copies (s : State) (u : Nat) (g : UpX → UpX) : (s.modUp u g).copies = s.copies := rfl
@[simp] theorem State.modUp_ports (s : State) (u : Nat) (g : UpX → UpX) : (s.modUp u g).ports = s.ports := rfl
@[simp] theorem State.modUp_secs (s : State) (u : Nat) (g : UpX → UpX) : (s.modUp u g).secs = s.secs := rfl
@[simp] theorem State.modUp_quads (s : State) (u : Nat) (g : UpX → UpX) : (s.modUp u g).quads = s.quads := rfl
@[simp] theorem State.modUp_faults (s : State) (u : Nat) (g : UpX → UpX) : (s.modUp u g).faults = s.faults := rfl
@[simp] theorem State.modUp_mbx (s : State) (u : Nat) (g : UpX → UpX) : (s.modUp u g).mbx = s.mbx := rfl
@[simp] theorem State.modUp_sw (s : State) (u : Nat) (g : UpX → UpX) : (s.modUp u g).sw = s.sw := rfl
@[simp] theorem State.modUp_boot (s : State) (u : Nat) (g : UpX → UpX) : (s.modUp u g).boot = s.boot := rfl
@[simp] theorem State.modUp_retain (s : State) (u : Nat) (g : UpX → UpX) : (s.modUp u g).retain = s.retain := rfl
@[simp] theorem State.modUp_rescue (s : State) (u : Nat) (g : UpX → UpX) : (s.modUp u g).rescue = s.rescue := rfl
@[simp] theorem State.modUp_sleep (s : State) (u : Nat) (g : UpX → UpX) : (s.modUp u g).sleep = s.sleep := rfl
@[simp] theorem State.modUp_upd (s : State) (u : Nat) (g : UpX → UpX) : (s.modUp u g).upd = s.upd := rfl
@[simp] theorem State.modUp_fuseGoal (s : State) (u : Nat) (g : UpX → UpX) : (s.modUp u g).fuseGoal = s.fuseGoal := rfl
@[simp] theorem State.modUp_fuses (s : State) (u : Nat) (g : UpX → UpX) : (s.modUp u g).fuses = s.fuses := rfl
@[simp] theorem State.modUp_phase (s : State) (u : Nat) (g : UpX → UpX) : (s.modUp u g).phase = s.phase := rfl
@[simp] theorem State.modUp_safe (s : State) (u : Nat) (g : UpX → UpX) : (s.modUp u g).safe = s.safe := rfl
@[simp] theorem State.modUp_stopped (s : State) (u : Nat) (g : UpX → UpX) : (s.modUp u g).stopped = s.stopped := rfl
@[simp] theorem State.modUp_missed (s : State) (u : Nat) (g : UpX → UpX) : (s.modUp u g).missed = s.missed := rfl
@[simp] theorem State.modUp_now (s : State) (u : Nat) (g : UpX → UpX) : (s.modUp u g).now = s.now := rfl
@[simp] theorem State.modUp_icuTimer (s : State) (u : Nat) (g : UpX → UpX) : (s.modUp u g).icuTimer = s.icuTimer := rfl
@[simp] theorem State.modUp_faultWidth (s : State) (u : Nat) (g : UpX → UpX) : (s.modUp u g).faultWidth = s.faultWidth := rfl
@[simp] theorem State.modUp_resetDue (s : State) (u : Nat) (g : UpX → UpX) : (s.modUp u g).resetDue = s.resetDue := rfl
@[simp] theorem State.modUp_low (s : State) (u : Nat) (g : UpX → UpX) : (s.modUp u g).low = s.low := rfl
@[simp] theorem State.modUp_vbusU (s : State) (u : Nat) (g : UpX → UpX) : (s.modUp u g).vbusU = s.vbusU := rfl
@[simp] theorem State.modUp_resetN (s : State) (u : Nat) (g : UpX → UpX) : (s.modUp u g).resetN = s.resetN := rfl
@[simp] theorem State.modUp_por (s : State) (u : Nat) (g : UpX → UpX) : (s.modUp u g).por = s.por := rfl
@[simp] theorem State.modUp_vioDue (s : State) (u : Nat) (g : UpX → UpX) : (s.modUp u g).vioDue = s.vioDue := rfl
@[simp] theorem State.modUp_strapDue (s : State) (u : Nat) (g : UpX → UpX) : (s.modUp u g).strapDue = s.strapDue := rfl
@[simp] theorem State.modUp_vbusHigh (s : State) (u : Nat) (g : UpX → UpX) : (s.modUp u g).vbusHigh = s.vbusHigh := rfl
@[simp] theorem State.modUp_idleAt (s : State) (u : Nat) (g : UpX → UpX) : (s.modUp u g).idleAt = s.idleAt := rfl
@[simp] theorem State.modUp_fixedAt (s : State) (u : Nat) (g : UpX → UpX) : (s.modUp u g).fixedAt = s.fixedAt := rfl
@[simp] theorem State.modUp_duskDue (s : State) (u : Nat) (g : UpX → UpX) : (s.modUp u g).duskDue = s.duskDue := rfl
@[simp] theorem State.modUp_lastSpi (s : State) (u : Nat) (g : UpX → UpX) : (s.modUp u g).lastSpi = s.lastSpi := rfl
@[simp] theorem State.modUp_lastI2c (s : State) (u : Nat) (g : UpX → UpX) : (s.modUp u g).lastI2c = s.lastI2c := rfl
@[simp] theorem State.modUp_heldI2c (s : State) (u : Nat) (g : UpX → UpX) : (s.modUp u g).heldI2c = s.heldI2c := rfl
@[simp] theorem State.modUp_edgeDue (s : State) (u : Nat) (g : UpX → UpX) : (s.modUp u g).edgeDue = s.edgeDue := rfl
@[simp] theorem State.modUp_poolTrig (s : State) (u : Nat) (g : UpX → UpX) : (s.modUp u g).poolTrig = s.poolTrig := rfl
@[simp] theorem State.modUp_shedDue (s : State) (u : Nat) (g : UpX → UpX) : (s.modUp u g).shedDue = s.shedDue := rfl
@[simp] theorem State.modUp_ldsSeq (s : State) (u : Nat) (g : UpX → UpX) : (s.modUp u g).ldsSeq = s.ldsSeq := rfl
@[simp] theorem State.modUp_ldsRan (s : State) (u : Nat) (g : UpX → UpX) : (s.modUp u g).ldsRan = s.ldsRan := rfl
@[simp] theorem State.modUp_ldsProfiles (s : State) (u : Nat) (g : UpX → UpX) : (s.modUp u g).ldsProfiles = s.ldsProfiles := rfl
@[simp] theorem State.modUp_pdTable (s : State) (u : Nat) (g : UpX → UpX) : (s.modUp u g).pdTable = s.pdTable := rfl
@[simp] theorem State.modUp_flash (s : State) (u : Nat) (g : UpX → UpX) : (s.modUp u g).flash = s.flash := rfl
@[simp] theorem State.modUp_freeCtr (s : State) (u : Nat) (g : UpX → UpX) : (s.modUp u g).freeCtr = s.freeCtr := rfl
@[simp] theorem State.modUp_outs (s : State) (u : Nat) (g : UpX → UpX) : (s.modUp u g).outs = s.outs := rfl
@[simp] theorem State.modUp_pending (s : State) (u : Nat) (g : UpX → UpX) : (s.modUp u g).pending = s.pending := rfl

@[simp] theorem State.modSec_regs (s : State) (i : Nat) (g : SecX → SecX) : (s.modSec i g).regs = s.regs := rfl
@[simp] theorem State.modSec_shadow (s : State) (i : Nat) (g : SecX → SecX) : (s.modSec i g).shadow = s.shadow := rfl
@[simp] theorem State.modSec_image (s : State) (i : Nat) (g : SecX → SecX) : (s.modSec i g).image = s.image := rfl
@[simp] theorem State.modSec_copies (s : State) (i : Nat) (g : SecX → SecX) : (s.modSec i g).copies = s.copies := rfl
@[simp] theorem State.modSec_ports (s : State) (i : Nat) (g : SecX → SecX) : (s.modSec i g).ports = s.ports := rfl
@[simp] theorem State.modSec_ups (s : State) (i : Nat) (g : SecX → SecX) : (s.modSec i g).ups = s.ups := rfl
@[simp] theorem State.modSec_quads (s : State) (i : Nat) (g : SecX → SecX) : (s.modSec i g).quads = s.quads := rfl
@[simp] theorem State.modSec_faults (s : State) (i : Nat) (g : SecX → SecX) : (s.modSec i g).faults = s.faults := rfl
@[simp] theorem State.modSec_mbx (s : State) (i : Nat) (g : SecX → SecX) : (s.modSec i g).mbx = s.mbx := rfl
@[simp] theorem State.modSec_sw (s : State) (i : Nat) (g : SecX → SecX) : (s.modSec i g).sw = s.sw := rfl
@[simp] theorem State.modSec_boot (s : State) (i : Nat) (g : SecX → SecX) : (s.modSec i g).boot = s.boot := rfl
@[simp] theorem State.modSec_retain (s : State) (i : Nat) (g : SecX → SecX) : (s.modSec i g).retain = s.retain := rfl
@[simp] theorem State.modSec_rescue (s : State) (i : Nat) (g : SecX → SecX) : (s.modSec i g).rescue = s.rescue := rfl
@[simp] theorem State.modSec_sleep (s : State) (i : Nat) (g : SecX → SecX) : (s.modSec i g).sleep = s.sleep := rfl
@[simp] theorem State.modSec_upd (s : State) (i : Nat) (g : SecX → SecX) : (s.modSec i g).upd = s.upd := rfl
@[simp] theorem State.modSec_fuseGoal (s : State) (i : Nat) (g : SecX → SecX) : (s.modSec i g).fuseGoal = s.fuseGoal := rfl
@[simp] theorem State.modSec_fuses (s : State) (i : Nat) (g : SecX → SecX) : (s.modSec i g).fuses = s.fuses := rfl
@[simp] theorem State.modSec_phase (s : State) (i : Nat) (g : SecX → SecX) : (s.modSec i g).phase = s.phase := rfl
@[simp] theorem State.modSec_safe (s : State) (i : Nat) (g : SecX → SecX) : (s.modSec i g).safe = s.safe := rfl
@[simp] theorem State.modSec_stopped (s : State) (i : Nat) (g : SecX → SecX) : (s.modSec i g).stopped = s.stopped := rfl
@[simp] theorem State.modSec_missed (s : State) (i : Nat) (g : SecX → SecX) : (s.modSec i g).missed = s.missed := rfl
@[simp] theorem State.modSec_now (s : State) (i : Nat) (g : SecX → SecX) : (s.modSec i g).now = s.now := rfl
@[simp] theorem State.modSec_icuTimer (s : State) (i : Nat) (g : SecX → SecX) : (s.modSec i g).icuTimer = s.icuTimer := rfl
@[simp] theorem State.modSec_faultWidth (s : State) (i : Nat) (g : SecX → SecX) : (s.modSec i g).faultWidth = s.faultWidth := rfl
@[simp] theorem State.modSec_resetDue (s : State) (i : Nat) (g : SecX → SecX) : (s.modSec i g).resetDue = s.resetDue := rfl
@[simp] theorem State.modSec_low (s : State) (i : Nat) (g : SecX → SecX) : (s.modSec i g).low = s.low := rfl
@[simp] theorem State.modSec_vbusU (s : State) (i : Nat) (g : SecX → SecX) : (s.modSec i g).vbusU = s.vbusU := rfl
@[simp] theorem State.modSec_resetN (s : State) (i : Nat) (g : SecX → SecX) : (s.modSec i g).resetN = s.resetN := rfl
@[simp] theorem State.modSec_por (s : State) (i : Nat) (g : SecX → SecX) : (s.modSec i g).por = s.por := rfl
@[simp] theorem State.modSec_vioDue (s : State) (i : Nat) (g : SecX → SecX) : (s.modSec i g).vioDue = s.vioDue := rfl
@[simp] theorem State.modSec_strapDue (s : State) (i : Nat) (g : SecX → SecX) : (s.modSec i g).strapDue = s.strapDue := rfl
@[simp] theorem State.modSec_vbusHigh (s : State) (i : Nat) (g : SecX → SecX) : (s.modSec i g).vbusHigh = s.vbusHigh := rfl
@[simp] theorem State.modSec_idleAt (s : State) (i : Nat) (g : SecX → SecX) : (s.modSec i g).idleAt = s.idleAt := rfl
@[simp] theorem State.modSec_fixedAt (s : State) (i : Nat) (g : SecX → SecX) : (s.modSec i g).fixedAt = s.fixedAt := rfl
@[simp] theorem State.modSec_duskDue (s : State) (i : Nat) (g : SecX → SecX) : (s.modSec i g).duskDue = s.duskDue := rfl
@[simp] theorem State.modSec_lastSpi (s : State) (i : Nat) (g : SecX → SecX) : (s.modSec i g).lastSpi = s.lastSpi := rfl
@[simp] theorem State.modSec_lastI2c (s : State) (i : Nat) (g : SecX → SecX) : (s.modSec i g).lastI2c = s.lastI2c := rfl
@[simp] theorem State.modSec_heldI2c (s : State) (i : Nat) (g : SecX → SecX) : (s.modSec i g).heldI2c = s.heldI2c := rfl
@[simp] theorem State.modSec_edgeDue (s : State) (i : Nat) (g : SecX → SecX) : (s.modSec i g).edgeDue = s.edgeDue := rfl
@[simp] theorem State.modSec_poolTrig (s : State) (i : Nat) (g : SecX → SecX) : (s.modSec i g).poolTrig = s.poolTrig := rfl
@[simp] theorem State.modSec_shedDue (s : State) (i : Nat) (g : SecX → SecX) : (s.modSec i g).shedDue = s.shedDue := rfl
@[simp] theorem State.modSec_ldsSeq (s : State) (i : Nat) (g : SecX → SecX) : (s.modSec i g).ldsSeq = s.ldsSeq := rfl
@[simp] theorem State.modSec_ldsRan (s : State) (i : Nat) (g : SecX → SecX) : (s.modSec i g).ldsRan = s.ldsRan := rfl
@[simp] theorem State.modSec_ldsProfiles (s : State) (i : Nat) (g : SecX → SecX) : (s.modSec i g).ldsProfiles = s.ldsProfiles := rfl
@[simp] theorem State.modSec_pdTable (s : State) (i : Nat) (g : SecX → SecX) : (s.modSec i g).pdTable = s.pdTable := rfl
@[simp] theorem State.modSec_flash (s : State) (i : Nat) (g : SecX → SecX) : (s.modSec i g).flash = s.flash := rfl
@[simp] theorem State.modSec_freeCtr (s : State) (i : Nat) (g : SecX → SecX) : (s.modSec i g).freeCtr = s.freeCtr := rfl
@[simp] theorem State.modSec_outs (s : State) (i : Nat) (g : SecX → SecX) : (s.modSec i g).outs = s.outs := rfl
@[simp] theorem State.modSec_pending (s : State) (i : Nat) (g : SecX → SecX) : (s.modSec i g).pending = s.pending := rfl

@[simp] theorem State.modQuad_regs (s : State) (q : Nat) (g : QuadX → QuadX) : (s.modQuad q g).regs = s.regs := rfl
@[simp] theorem State.modQuad_shadow (s : State) (q : Nat) (g : QuadX → QuadX) : (s.modQuad q g).shadow = s.shadow := rfl
@[simp] theorem State.modQuad_image (s : State) (q : Nat) (g : QuadX → QuadX) : (s.modQuad q g).image = s.image := rfl
@[simp] theorem State.modQuad_copies (s : State) (q : Nat) (g : QuadX → QuadX) : (s.modQuad q g).copies = s.copies := rfl
@[simp] theorem State.modQuad_ports (s : State) (q : Nat) (g : QuadX → QuadX) : (s.modQuad q g).ports = s.ports := rfl
@[simp] theorem State.modQuad_ups (s : State) (q : Nat) (g : QuadX → QuadX) : (s.modQuad q g).ups = s.ups := rfl
@[simp] theorem State.modQuad_secs (s : State) (q : Nat) (g : QuadX → QuadX) : (s.modQuad q g).secs = s.secs := rfl
@[simp] theorem State.modQuad_faults (s : State) (q : Nat) (g : QuadX → QuadX) : (s.modQuad q g).faults = s.faults := rfl
@[simp] theorem State.modQuad_mbx (s : State) (q : Nat) (g : QuadX → QuadX) : (s.modQuad q g).mbx = s.mbx := rfl
@[simp] theorem State.modQuad_sw (s : State) (q : Nat) (g : QuadX → QuadX) : (s.modQuad q g).sw = s.sw := rfl
@[simp] theorem State.modQuad_boot (s : State) (q : Nat) (g : QuadX → QuadX) : (s.modQuad q g).boot = s.boot := rfl
@[simp] theorem State.modQuad_retain (s : State) (q : Nat) (g : QuadX → QuadX) : (s.modQuad q g).retain = s.retain := rfl
@[simp] theorem State.modQuad_rescue (s : State) (q : Nat) (g : QuadX → QuadX) : (s.modQuad q g).rescue = s.rescue := rfl
@[simp] theorem State.modQuad_sleep (s : State) (q : Nat) (g : QuadX → QuadX) : (s.modQuad q g).sleep = s.sleep := rfl
@[simp] theorem State.modQuad_upd (s : State) (q : Nat) (g : QuadX → QuadX) : (s.modQuad q g).upd = s.upd := rfl
@[simp] theorem State.modQuad_fuseGoal (s : State) (q : Nat) (g : QuadX → QuadX) : (s.modQuad q g).fuseGoal = s.fuseGoal := rfl
@[simp] theorem State.modQuad_fuses (s : State) (q : Nat) (g : QuadX → QuadX) : (s.modQuad q g).fuses = s.fuses := rfl
@[simp] theorem State.modQuad_phase (s : State) (q : Nat) (g : QuadX → QuadX) : (s.modQuad q g).phase = s.phase := rfl
@[simp] theorem State.modQuad_safe (s : State) (q : Nat) (g : QuadX → QuadX) : (s.modQuad q g).safe = s.safe := rfl
@[simp] theorem State.modQuad_stopped (s : State) (q : Nat) (g : QuadX → QuadX) : (s.modQuad q g).stopped = s.stopped := rfl
@[simp] theorem State.modQuad_missed (s : State) (q : Nat) (g : QuadX → QuadX) : (s.modQuad q g).missed = s.missed := rfl
@[simp] theorem State.modQuad_now (s : State) (q : Nat) (g : QuadX → QuadX) : (s.modQuad q g).now = s.now := rfl
@[simp] theorem State.modQuad_icuTimer (s : State) (q : Nat) (g : QuadX → QuadX) : (s.modQuad q g).icuTimer = s.icuTimer := rfl
@[simp] theorem State.modQuad_faultWidth (s : State) (q : Nat) (g : QuadX → QuadX) : (s.modQuad q g).faultWidth = s.faultWidth := rfl
@[simp] theorem State.modQuad_resetDue (s : State) (q : Nat) (g : QuadX → QuadX) : (s.modQuad q g).resetDue = s.resetDue := rfl
@[simp] theorem State.modQuad_low (s : State) (q : Nat) (g : QuadX → QuadX) : (s.modQuad q g).low = s.low := rfl
@[simp] theorem State.modQuad_vbusU (s : State) (q : Nat) (g : QuadX → QuadX) : (s.modQuad q g).vbusU = s.vbusU := rfl
@[simp] theorem State.modQuad_resetN (s : State) (q : Nat) (g : QuadX → QuadX) : (s.modQuad q g).resetN = s.resetN := rfl
@[simp] theorem State.modQuad_por (s : State) (q : Nat) (g : QuadX → QuadX) : (s.modQuad q g).por = s.por := rfl
@[simp] theorem State.modQuad_vioDue (s : State) (q : Nat) (g : QuadX → QuadX) : (s.modQuad q g).vioDue = s.vioDue := rfl
@[simp] theorem State.modQuad_strapDue (s : State) (q : Nat) (g : QuadX → QuadX) : (s.modQuad q g).strapDue = s.strapDue := rfl
@[simp] theorem State.modQuad_vbusHigh (s : State) (q : Nat) (g : QuadX → QuadX) : (s.modQuad q g).vbusHigh = s.vbusHigh := rfl
@[simp] theorem State.modQuad_idleAt (s : State) (q : Nat) (g : QuadX → QuadX) : (s.modQuad q g).idleAt = s.idleAt := rfl
@[simp] theorem State.modQuad_fixedAt (s : State) (q : Nat) (g : QuadX → QuadX) : (s.modQuad q g).fixedAt = s.fixedAt := rfl
@[simp] theorem State.modQuad_duskDue (s : State) (q : Nat) (g : QuadX → QuadX) : (s.modQuad q g).duskDue = s.duskDue := rfl
@[simp] theorem State.modQuad_lastSpi (s : State) (q : Nat) (g : QuadX → QuadX) : (s.modQuad q g).lastSpi = s.lastSpi := rfl
@[simp] theorem State.modQuad_lastI2c (s : State) (q : Nat) (g : QuadX → QuadX) : (s.modQuad q g).lastI2c = s.lastI2c := rfl
@[simp] theorem State.modQuad_heldI2c (s : State) (q : Nat) (g : QuadX → QuadX) : (s.modQuad q g).heldI2c = s.heldI2c := rfl
@[simp] theorem State.modQuad_edgeDue (s : State) (q : Nat) (g : QuadX → QuadX) : (s.modQuad q g).edgeDue = s.edgeDue := rfl
@[simp] theorem State.modQuad_poolTrig (s : State) (q : Nat) (g : QuadX → QuadX) : (s.modQuad q g).poolTrig = s.poolTrig := rfl
@[simp] theorem State.modQuad_shedDue (s : State) (q : Nat) (g : QuadX → QuadX) : (s.modQuad q g).shedDue = s.shedDue := rfl
@[simp] theorem State.modQuad_ldsSeq (s : State) (q : Nat) (g : QuadX → QuadX) : (s.modQuad q g).ldsSeq = s.ldsSeq := rfl
@[simp] theorem State.modQuad_ldsRan (s : State) (q : Nat) (g : QuadX → QuadX) : (s.modQuad q g).ldsRan = s.ldsRan := rfl
@[simp] theorem State.modQuad_ldsProfiles (s : State) (q : Nat) (g : QuadX → QuadX) : (s.modQuad q g).ldsProfiles = s.ldsProfiles := rfl
@[simp] theorem State.modQuad_pdTable (s : State) (q : Nat) (g : QuadX → QuadX) : (s.modQuad q g).pdTable = s.pdTable := rfl
@[simp] theorem State.modQuad_flash (s : State) (q : Nat) (g : QuadX → QuadX) : (s.modQuad q g).flash = s.flash := rfl
@[simp] theorem State.modQuad_freeCtr (s : State) (q : Nat) (g : QuadX → QuadX) : (s.modQuad q g).freeCtr = s.freeCtr := rfl
@[simp] theorem State.modQuad_outs (s : State) (q : Nat) (g : QuadX → QuadX) : (s.modQuad q g).outs = s.outs := rfl
@[simp] theorem State.modQuad_pending (s : State) (q : Nat) (g : QuadX → QuadX) : (s.modQuad q g).pending = s.pending := rfl

@[simp] theorem State.modMb_regs (s : State) (m : Nat) (g : MbxX → MbxX) : (s.modMb m g).regs = s.regs := rfl
@[simp] theorem State.modMb_shadow (s : State) (m : Nat) (g : MbxX → MbxX) : (s.modMb m g).shadow = s.shadow := rfl
@[simp] theorem State.modMb_image (s : State) (m : Nat) (g : MbxX → MbxX) : (s.modMb m g).image = s.image := rfl
@[simp] theorem State.modMb_copies (s : State) (m : Nat) (g : MbxX → MbxX) : (s.modMb m g).copies = s.copies := rfl
@[simp] theorem State.modMb_ports (s : State) (m : Nat) (g : MbxX → MbxX) : (s.modMb m g).ports = s.ports := rfl
@[simp] theorem State.modMb_ups (s : State) (m : Nat) (g : MbxX → MbxX) : (s.modMb m g).ups = s.ups := rfl
@[simp] theorem State.modMb_secs (s : State) (m : Nat) (g : MbxX → MbxX) : (s.modMb m g).secs = s.secs := rfl
@[simp] theorem State.modMb_quads (s : State) (m : Nat) (g : MbxX → MbxX) : (s.modMb m g).quads = s.quads := rfl
@[simp] theorem State.modMb_faults (s : State) (m : Nat) (g : MbxX → MbxX) : (s.modMb m g).faults = s.faults := rfl
@[simp] theorem State.modMb_sw (s : State) (m : Nat) (g : MbxX → MbxX) : (s.modMb m g).sw = s.sw := rfl
@[simp] theorem State.modMb_boot (s : State) (m : Nat) (g : MbxX → MbxX) : (s.modMb m g).boot = s.boot := rfl
@[simp] theorem State.modMb_retain (s : State) (m : Nat) (g : MbxX → MbxX) : (s.modMb m g).retain = s.retain := rfl
@[simp] theorem State.modMb_rescue (s : State) (m : Nat) (g : MbxX → MbxX) : (s.modMb m g).rescue = s.rescue := rfl
@[simp] theorem State.modMb_sleep (s : State) (m : Nat) (g : MbxX → MbxX) : (s.modMb m g).sleep = s.sleep := rfl
@[simp] theorem State.modMb_upd (s : State) (m : Nat) (g : MbxX → MbxX) : (s.modMb m g).upd = s.upd := rfl
@[simp] theorem State.modMb_fuseGoal (s : State) (m : Nat) (g : MbxX → MbxX) : (s.modMb m g).fuseGoal = s.fuseGoal := rfl
@[simp] theorem State.modMb_fuses (s : State) (m : Nat) (g : MbxX → MbxX) : (s.modMb m g).fuses = s.fuses := rfl
@[simp] theorem State.modMb_phase (s : State) (m : Nat) (g : MbxX → MbxX) : (s.modMb m g).phase = s.phase := rfl
@[simp] theorem State.modMb_safe (s : State) (m : Nat) (g : MbxX → MbxX) : (s.modMb m g).safe = s.safe := rfl
@[simp] theorem State.modMb_stopped (s : State) (m : Nat) (g : MbxX → MbxX) : (s.modMb m g).stopped = s.stopped := rfl
@[simp] theorem State.modMb_missed (s : State) (m : Nat) (g : MbxX → MbxX) : (s.modMb m g).missed = s.missed := rfl
@[simp] theorem State.modMb_now (s : State) (m : Nat) (g : MbxX → MbxX) : (s.modMb m g).now = s.now := rfl
@[simp] theorem State.modMb_icuTimer (s : State) (m : Nat) (g : MbxX → MbxX) : (s.modMb m g).icuTimer = s.icuTimer := rfl
@[simp] theorem State.modMb_faultWidth (s : State) (m : Nat) (g : MbxX → MbxX) : (s.modMb m g).faultWidth = s.faultWidth := rfl
@[simp] theorem State.modMb_resetDue (s : State) (m : Nat) (g : MbxX → MbxX) : (s.modMb m g).resetDue = s.resetDue := rfl
@[simp] theorem State.modMb_low (s : State) (m : Nat) (g : MbxX → MbxX) : (s.modMb m g).low = s.low := rfl
@[simp] theorem State.modMb_vbusU (s : State) (m : Nat) (g : MbxX → MbxX) : (s.modMb m g).vbusU = s.vbusU := rfl
@[simp] theorem State.modMb_resetN (s : State) (m : Nat) (g : MbxX → MbxX) : (s.modMb m g).resetN = s.resetN := rfl
@[simp] theorem State.modMb_por (s : State) (m : Nat) (g : MbxX → MbxX) : (s.modMb m g).por = s.por := rfl
@[simp] theorem State.modMb_vioDue (s : State) (m : Nat) (g : MbxX → MbxX) : (s.modMb m g).vioDue = s.vioDue := rfl
@[simp] theorem State.modMb_strapDue (s : State) (m : Nat) (g : MbxX → MbxX) : (s.modMb m g).strapDue = s.strapDue := rfl
@[simp] theorem State.modMb_vbusHigh (s : State) (m : Nat) (g : MbxX → MbxX) : (s.modMb m g).vbusHigh = s.vbusHigh := rfl
@[simp] theorem State.modMb_idleAt (s : State) (m : Nat) (g : MbxX → MbxX) : (s.modMb m g).idleAt = s.idleAt := rfl
@[simp] theorem State.modMb_fixedAt (s : State) (m : Nat) (g : MbxX → MbxX) : (s.modMb m g).fixedAt = s.fixedAt := rfl
@[simp] theorem State.modMb_duskDue (s : State) (m : Nat) (g : MbxX → MbxX) : (s.modMb m g).duskDue = s.duskDue := rfl
@[simp] theorem State.modMb_lastSpi (s : State) (m : Nat) (g : MbxX → MbxX) : (s.modMb m g).lastSpi = s.lastSpi := rfl
@[simp] theorem State.modMb_lastI2c (s : State) (m : Nat) (g : MbxX → MbxX) : (s.modMb m g).lastI2c = s.lastI2c := rfl
@[simp] theorem State.modMb_heldI2c (s : State) (m : Nat) (g : MbxX → MbxX) : (s.modMb m g).heldI2c = s.heldI2c := rfl
@[simp] theorem State.modMb_edgeDue (s : State) (m : Nat) (g : MbxX → MbxX) : (s.modMb m g).edgeDue = s.edgeDue := rfl
@[simp] theorem State.modMb_poolTrig (s : State) (m : Nat) (g : MbxX → MbxX) : (s.modMb m g).poolTrig = s.poolTrig := rfl
@[simp] theorem State.modMb_shedDue (s : State) (m : Nat) (g : MbxX → MbxX) : (s.modMb m g).shedDue = s.shedDue := rfl
@[simp] theorem State.modMb_ldsSeq (s : State) (m : Nat) (g : MbxX → MbxX) : (s.modMb m g).ldsSeq = s.ldsSeq := rfl
@[simp] theorem State.modMb_ldsRan (s : State) (m : Nat) (g : MbxX → MbxX) : (s.modMb m g).ldsRan = s.ldsRan := rfl
@[simp] theorem State.modMb_ldsProfiles (s : State) (m : Nat) (g : MbxX → MbxX) : (s.modMb m g).ldsProfiles = s.ldsProfiles := rfl
@[simp] theorem State.modMb_pdTable (s : State) (m : Nat) (g : MbxX → MbxX) : (s.modMb m g).pdTable = s.pdTable := rfl
@[simp] theorem State.modMb_flash (s : State) (m : Nat) (g : MbxX → MbxX) : (s.modMb m g).flash = s.flash := rfl
@[simp] theorem State.modMb_freeCtr (s : State) (m : Nat) (g : MbxX → MbxX) : (s.modMb m g).freeCtr = s.freeCtr := rfl
@[simp] theorem State.modMb_outs (s : State) (m : Nat) (g : MbxX → MbxX) : (s.modMb m g).outs = s.outs := rfl
@[simp] theorem State.modMb_pending (s : State) (m : Nat) (g : MbxX → MbxX) : (s.modMb m g).pending = s.pending := rfl

@[simp] theorem State.modFlt_regs (s : State) (b : FBlk) (g : FaultX → FaultX) : (s.modFlt b g).regs = s.regs := rfl
@[simp] theorem State.modFlt_shadow (s : State) (b : FBlk) (g : FaultX → FaultX) : (s.modFlt b g).shadow = s.shadow := rfl
@[simp] theorem State.modFlt_image (s : State) (b : FBlk) (g : FaultX → FaultX) : (s.modFlt b g).image = s.image := rfl
@[simp] theorem State.modFlt_copies (s : State) (b : FBlk) (g : FaultX → FaultX) : (s.modFlt b g).copies = s.copies := rfl
@[simp] theorem State.modFlt_ports (s : State) (b : FBlk) (g : FaultX → FaultX) : (s.modFlt b g).ports = s.ports := rfl
@[simp] theorem State.modFlt_ups (s : State) (b : FBlk) (g : FaultX → FaultX) : (s.modFlt b g).ups = s.ups := rfl
@[simp] theorem State.modFlt_secs (s : State) (b : FBlk) (g : FaultX → FaultX) : (s.modFlt b g).secs = s.secs := rfl
@[simp] theorem State.modFlt_quads (s : State) (b : FBlk) (g : FaultX → FaultX) : (s.modFlt b g).quads = s.quads := rfl
@[simp] theorem State.modFlt_mbx (s : State) (b : FBlk) (g : FaultX → FaultX) : (s.modFlt b g).mbx = s.mbx := rfl
@[simp] theorem State.modFlt_sw (s : State) (b : FBlk) (g : FaultX → FaultX) : (s.modFlt b g).sw = s.sw := rfl
@[simp] theorem State.modFlt_boot (s : State) (b : FBlk) (g : FaultX → FaultX) : (s.modFlt b g).boot = s.boot := rfl
@[simp] theorem State.modFlt_retain (s : State) (b : FBlk) (g : FaultX → FaultX) : (s.modFlt b g).retain = s.retain := rfl
@[simp] theorem State.modFlt_rescue (s : State) (b : FBlk) (g : FaultX → FaultX) : (s.modFlt b g).rescue = s.rescue := rfl
@[simp] theorem State.modFlt_sleep (s : State) (b : FBlk) (g : FaultX → FaultX) : (s.modFlt b g).sleep = s.sleep := rfl
@[simp] theorem State.modFlt_upd (s : State) (b : FBlk) (g : FaultX → FaultX) : (s.modFlt b g).upd = s.upd := rfl
@[simp] theorem State.modFlt_fuseGoal (s : State) (b : FBlk) (g : FaultX → FaultX) : (s.modFlt b g).fuseGoal = s.fuseGoal := rfl
@[simp] theorem State.modFlt_fuses (s : State) (b : FBlk) (g : FaultX → FaultX) : (s.modFlt b g).fuses = s.fuses := rfl
@[simp] theorem State.modFlt_phase (s : State) (b : FBlk) (g : FaultX → FaultX) : (s.modFlt b g).phase = s.phase := rfl
@[simp] theorem State.modFlt_safe (s : State) (b : FBlk) (g : FaultX → FaultX) : (s.modFlt b g).safe = s.safe := rfl
@[simp] theorem State.modFlt_stopped (s : State) (b : FBlk) (g : FaultX → FaultX) : (s.modFlt b g).stopped = s.stopped := rfl
@[simp] theorem State.modFlt_missed (s : State) (b : FBlk) (g : FaultX → FaultX) : (s.modFlt b g).missed = s.missed := rfl
@[simp] theorem State.modFlt_now (s : State) (b : FBlk) (g : FaultX → FaultX) : (s.modFlt b g).now = s.now := rfl
@[simp] theorem State.modFlt_icuTimer (s : State) (b : FBlk) (g : FaultX → FaultX) : (s.modFlt b g).icuTimer = s.icuTimer := rfl
@[simp] theorem State.modFlt_faultWidth (s : State) (b : FBlk) (g : FaultX → FaultX) : (s.modFlt b g).faultWidth = s.faultWidth := rfl
@[simp] theorem State.modFlt_resetDue (s : State) (b : FBlk) (g : FaultX → FaultX) : (s.modFlt b g).resetDue = s.resetDue := rfl
@[simp] theorem State.modFlt_low (s : State) (b : FBlk) (g : FaultX → FaultX) : (s.modFlt b g).low = s.low := rfl
@[simp] theorem State.modFlt_vbusU (s : State) (b : FBlk) (g : FaultX → FaultX) : (s.modFlt b g).vbusU = s.vbusU := rfl
@[simp] theorem State.modFlt_resetN (s : State) (b : FBlk) (g : FaultX → FaultX) : (s.modFlt b g).resetN = s.resetN := rfl
@[simp] theorem State.modFlt_por (s : State) (b : FBlk) (g : FaultX → FaultX) : (s.modFlt b g).por = s.por := rfl
@[simp] theorem State.modFlt_vioDue (s : State) (b : FBlk) (g : FaultX → FaultX) : (s.modFlt b g).vioDue = s.vioDue := rfl
@[simp] theorem State.modFlt_strapDue (s : State) (b : FBlk) (g : FaultX → FaultX) : (s.modFlt b g).strapDue = s.strapDue := rfl
@[simp] theorem State.modFlt_vbusHigh (s : State) (b : FBlk) (g : FaultX → FaultX) : (s.modFlt b g).vbusHigh = s.vbusHigh := rfl
@[simp] theorem State.modFlt_idleAt (s : State) (b : FBlk) (g : FaultX → FaultX) : (s.modFlt b g).idleAt = s.idleAt := rfl
@[simp] theorem State.modFlt_fixedAt (s : State) (b : FBlk) (g : FaultX → FaultX) : (s.modFlt b g).fixedAt = s.fixedAt := rfl
@[simp] theorem State.modFlt_duskDue (s : State) (b : FBlk) (g : FaultX → FaultX) : (s.modFlt b g).duskDue = s.duskDue := rfl
@[simp] theorem State.modFlt_lastSpi (s : State) (b : FBlk) (g : FaultX → FaultX) : (s.modFlt b g).lastSpi = s.lastSpi := rfl
@[simp] theorem State.modFlt_lastI2c (s : State) (b : FBlk) (g : FaultX → FaultX) : (s.modFlt b g).lastI2c = s.lastI2c := rfl
@[simp] theorem State.modFlt_heldI2c (s : State) (b : FBlk) (g : FaultX → FaultX) : (s.modFlt b g).heldI2c = s.heldI2c := rfl
@[simp] theorem State.modFlt_edgeDue (s : State) (b : FBlk) (g : FaultX → FaultX) : (s.modFlt b g).edgeDue = s.edgeDue := rfl
@[simp] theorem State.modFlt_poolTrig (s : State) (b : FBlk) (g : FaultX → FaultX) : (s.modFlt b g).poolTrig = s.poolTrig := rfl
@[simp] theorem State.modFlt_shedDue (s : State) (b : FBlk) (g : FaultX → FaultX) : (s.modFlt b g).shedDue = s.shedDue := rfl
@[simp] theorem State.modFlt_ldsSeq (s : State) (b : FBlk) (g : FaultX → FaultX) : (s.modFlt b g).ldsSeq = s.ldsSeq := rfl
@[simp] theorem State.modFlt_ldsRan (s : State) (b : FBlk) (g : FaultX → FaultX) : (s.modFlt b g).ldsRan = s.ldsRan := rfl
@[simp] theorem State.modFlt_ldsProfiles (s : State) (b : FBlk) (g : FaultX → FaultX) : (s.modFlt b g).ldsProfiles = s.ldsProfiles := rfl
@[simp] theorem State.modFlt_pdTable (s : State) (b : FBlk) (g : FaultX → FaultX) : (s.modFlt b g).pdTable = s.pdTable := rfl
@[simp] theorem State.modFlt_flash (s : State) (b : FBlk) (g : FaultX → FaultX) : (s.modFlt b g).flash = s.flash := rfl
@[simp] theorem State.modFlt_freeCtr (s : State) (b : FBlk) (g : FaultX → FaultX) : (s.modFlt b g).freeCtr = s.freeCtr := rfl
@[simp] theorem State.modFlt_outs (s : State) (b : FBlk) (g : FaultX → FaultX) : (s.modFlt b g).outs = s.outs := rfl
@[simp] theorem State.modFlt_pending (s : State) (b : FBlk) (g : FaultX → FaultX) : (s.modFlt b g).pending = s.pending := rfl

@[simp] theorem State.modSw_regs (s : State) (g : SwX → SwX) : (s.modSw g).regs = s.regs := rfl
@[simp] theorem State.modSw_shadow (s : State) (g : SwX → SwX) : (s.modSw g).shadow = s.shadow := rfl
@[simp] theorem State.modSw_image (s : State) (g : SwX → SwX) : (s.modSw g).image = s.image := rfl
@[simp] theorem State.modSw_copies (s : State) (g : SwX → SwX) : (s.modSw g).copies = s.copies := rfl
@[simp] theorem State.modSw_ports (s : State) (g : SwX → SwX) : (s.modSw g).ports = s.ports := rfl
@[simp] theorem State.modSw_ups (s : State) (g : SwX → SwX) : (s.modSw g).ups = s.ups := rfl
@[simp] theorem State.modSw_secs (s : State) (g : SwX → SwX) : (s.modSw g).secs = s.secs := rfl
@[simp] theorem State.modSw_quads (s : State) (g : SwX → SwX) : (s.modSw g).quads = s.quads := rfl
@[simp] theorem State.modSw_faults (s : State) (g : SwX → SwX) : (s.modSw g).faults = s.faults := rfl
@[simp] theorem State.modSw_mbx (s : State) (g : SwX → SwX) : (s.modSw g).mbx = s.mbx := rfl
@[simp] theorem State.modSw_boot (s : State) (g : SwX → SwX) : (s.modSw g).boot = s.boot := rfl
@[simp] theorem State.modSw_retain (s : State) (g : SwX → SwX) : (s.modSw g).retain = s.retain := rfl
@[simp] theorem State.modSw_rescue (s : State) (g : SwX → SwX) : (s.modSw g).rescue = s.rescue := rfl
@[simp] theorem State.modSw_sleep (s : State) (g : SwX → SwX) : (s.modSw g).sleep = s.sleep := rfl
@[simp] theorem State.modSw_upd (s : State) (g : SwX → SwX) : (s.modSw g).upd = s.upd := rfl
@[simp] theorem State.modSw_fuseGoal (s : State) (g : SwX → SwX) : (s.modSw g).fuseGoal = s.fuseGoal := rfl
@[simp] theorem State.modSw_fuses (s : State) (g : SwX → SwX) : (s.modSw g).fuses = s.fuses := rfl
@[simp] theorem State.modSw_phase (s : State) (g : SwX → SwX) : (s.modSw g).phase = s.phase := rfl
@[simp] theorem State.modSw_safe (s : State) (g : SwX → SwX) : (s.modSw g).safe = s.safe := rfl
@[simp] theorem State.modSw_stopped (s : State) (g : SwX → SwX) : (s.modSw g).stopped = s.stopped := rfl
@[simp] theorem State.modSw_missed (s : State) (g : SwX → SwX) : (s.modSw g).missed = s.missed := rfl
@[simp] theorem State.modSw_now (s : State) (g : SwX → SwX) : (s.modSw g).now = s.now := rfl
@[simp] theorem State.modSw_icuTimer (s : State) (g : SwX → SwX) : (s.modSw g).icuTimer = s.icuTimer := rfl
@[simp] theorem State.modSw_faultWidth (s : State) (g : SwX → SwX) : (s.modSw g).faultWidth = s.faultWidth := rfl
@[simp] theorem State.modSw_resetDue (s : State) (g : SwX → SwX) : (s.modSw g).resetDue = s.resetDue := rfl
@[simp] theorem State.modSw_low (s : State) (g : SwX → SwX) : (s.modSw g).low = s.low := rfl
@[simp] theorem State.modSw_vbusU (s : State) (g : SwX → SwX) : (s.modSw g).vbusU = s.vbusU := rfl
@[simp] theorem State.modSw_resetN (s : State) (g : SwX → SwX) : (s.modSw g).resetN = s.resetN := rfl
@[simp] theorem State.modSw_por (s : State) (g : SwX → SwX) : (s.modSw g).por = s.por := rfl
@[simp] theorem State.modSw_vioDue (s : State) (g : SwX → SwX) : (s.modSw g).vioDue = s.vioDue := rfl
@[simp] theorem State.modSw_strapDue (s : State) (g : SwX → SwX) : (s.modSw g).strapDue = s.strapDue := rfl
@[simp] theorem State.modSw_vbusHigh (s : State) (g : SwX → SwX) : (s.modSw g).vbusHigh = s.vbusHigh := rfl
@[simp] theorem State.modSw_idleAt (s : State) (g : SwX → SwX) : (s.modSw g).idleAt = s.idleAt := rfl
@[simp] theorem State.modSw_fixedAt (s : State) (g : SwX → SwX) : (s.modSw g).fixedAt = s.fixedAt := rfl
@[simp] theorem State.modSw_duskDue (s : State) (g : SwX → SwX) : (s.modSw g).duskDue = s.duskDue := rfl
@[simp] theorem State.modSw_lastSpi (s : State) (g : SwX → SwX) : (s.modSw g).lastSpi = s.lastSpi := rfl
@[simp] theorem State.modSw_lastI2c (s : State) (g : SwX → SwX) : (s.modSw g).lastI2c = s.lastI2c := rfl
@[simp] theorem State.modSw_heldI2c (s : State) (g : SwX → SwX) : (s.modSw g).heldI2c = s.heldI2c := rfl
@[simp] theorem State.modSw_edgeDue (s : State) (g : SwX → SwX) : (s.modSw g).edgeDue = s.edgeDue := rfl
@[simp] theorem State.modSw_poolTrig (s : State) (g : SwX → SwX) : (s.modSw g).poolTrig = s.poolTrig := rfl
@[simp] theorem State.modSw_shedDue (s : State) (g : SwX → SwX) : (s.modSw g).shedDue = s.shedDue := rfl
@[simp] theorem State.modSw_ldsSeq (s : State) (g : SwX → SwX) : (s.modSw g).ldsSeq = s.ldsSeq := rfl
@[simp] theorem State.modSw_ldsRan (s : State) (g : SwX → SwX) : (s.modSw g).ldsRan = s.ldsRan := rfl
@[simp] theorem State.modSw_ldsProfiles (s : State) (g : SwX → SwX) : (s.modSw g).ldsProfiles = s.ldsProfiles := rfl
@[simp] theorem State.modSw_pdTable (s : State) (g : SwX → SwX) : (s.modSw g).pdTable = s.pdTable := rfl
@[simp] theorem State.modSw_flash (s : State) (g : SwX → SwX) : (s.modSw g).flash = s.flash := rfl
@[simp] theorem State.modSw_freeCtr (s : State) (g : SwX → SwX) : (s.modSw g).freeCtr = s.freeCtr := rfl
@[simp] theorem State.modSw_outs (s : State) (g : SwX → SwX) : (s.modSw g).outs = s.outs := rfl
@[simp] theorem State.modSw_pending (s : State) (g : SwX → SwX) : (s.modSw g).pending = s.pending := rfl

@[simp] theorem State.emit_regs (s : State) (o : Out) : (s.emit o).regs = s.regs := rfl
@[simp] theorem State.emit_shadow (s : State) (o : Out) : (s.emit o).shadow = s.shadow := rfl
@[simp] theorem State.emit_image (s : State) (o : Out) : (s.emit o).image = s.image := rfl
@[simp] theorem State.emit_copies (s : State) (o : Out) : (s.emit o).copies = s.copies := rfl
@[simp] theorem State.emit_ports (s : State) (o : Out) : (s.emit o).ports = s.ports := rfl
@[simp] theorem State.emit_ups (s : State) (o : Out) : (s.emit o).ups = s.ups := rfl
@[simp] theorem State.emit_secs (s : State) (o : Out) : (s.emit o).secs = s.secs := rfl
@[simp] theorem State.emit_quads (s : State) (o : Out) : (s.emit o).quads = s.quads := rfl
@[simp] theorem State.emit_faults (s : State) (o : Out) : (s.emit o).faults = s.faults := rfl
@[simp] theorem State.emit_mbx (s : State) (o : Out) : (s.emit o).mbx = s.mbx := rfl
@[simp] theorem State.emit_sw (s : State) (o : Out) : (s.emit o).sw = s.sw := rfl
@[simp] theorem State.emit_boot (s : State) (o : Out) : (s.emit o).boot = s.boot := rfl
@[simp] theorem State.emit_retain (s : State) (o : Out) : (s.emit o).retain = s.retain := rfl
@[simp] theorem State.emit_rescue (s : State) (o : Out) : (s.emit o).rescue = s.rescue := rfl
@[simp] theorem State.emit_sleep (s : State) (o : Out) : (s.emit o).sleep = s.sleep := rfl
@[simp] theorem State.emit_upd (s : State) (o : Out) : (s.emit o).upd = s.upd := rfl
@[simp] theorem State.emit_fuseGoal (s : State) (o : Out) : (s.emit o).fuseGoal = s.fuseGoal := rfl
@[simp] theorem State.emit_fuses (s : State) (o : Out) : (s.emit o).fuses = s.fuses := rfl
@[simp] theorem State.emit_phase (s : State) (o : Out) : (s.emit o).phase = s.phase := rfl
@[simp] theorem State.emit_safe (s : State) (o : Out) : (s.emit o).safe = s.safe := rfl
@[simp] theorem State.emit_stopped (s : State) (o : Out) : (s.emit o).stopped = s.stopped := rfl
@[simp] theorem State.emit_missed (s : State) (o : Out) : (s.emit o).missed = s.missed := rfl
@[simp] theorem State.emit_now (s : State) (o : Out) : (s.emit o).now = s.now := rfl
@[simp] theorem State.emit_icuTimer (s : State) (o : Out) : (s.emit o).icuTimer = s.icuTimer := rfl
@[simp] theorem State.emit_faultWidth (s : State) (o : Out) : (s.emit o).faultWidth = s.faultWidth := rfl
@[simp] theorem State.emit_resetDue (s : State) (o : Out) : (s.emit o).resetDue = s.resetDue := rfl
@[simp] theorem State.emit_low (s : State) (o : Out) : (s.emit o).low = s.low := rfl
@[simp] theorem State.emit_vbusU (s : State) (o : Out) : (s.emit o).vbusU = s.vbusU := rfl
@[simp] theorem State.emit_resetN (s : State) (o : Out) : (s.emit o).resetN = s.resetN := rfl
@[simp] theorem State.emit_por (s : State) (o : Out) : (s.emit o).por = s.por := rfl
@[simp] theorem State.emit_vioDue (s : State) (o : Out) : (s.emit o).vioDue = s.vioDue := rfl
@[simp] theorem State.emit_strapDue (s : State) (o : Out) : (s.emit o).strapDue = s.strapDue := rfl
@[simp] theorem State.emit_vbusHigh (s : State) (o : Out) : (s.emit o).vbusHigh = s.vbusHigh := rfl
@[simp] theorem State.emit_idleAt (s : State) (o : Out) : (s.emit o).idleAt = s.idleAt := rfl
@[simp] theorem State.emit_fixedAt (s : State) (o : Out) : (s.emit o).fixedAt = s.fixedAt := rfl
@[simp] theorem State.emit_duskDue (s : State) (o : Out) : (s.emit o).duskDue = s.duskDue := rfl
@[simp] theorem State.emit_lastSpi (s : State) (o : Out) : (s.emit o).lastSpi = s.lastSpi := rfl
@[simp] theorem State.emit_lastI2c (s : State) (o : Out) : (s.emit o).lastI2c = s.lastI2c := rfl
@[simp] theorem State.emit_heldI2c (s : State) (o : Out) : (s.emit o).heldI2c = s.heldI2c := rfl
@[simp] theorem State.emit_edgeDue (s : State) (o : Out) : (s.emit o).edgeDue = s.edgeDue := rfl
@[simp] theorem State.emit_poolTrig (s : State) (o : Out) : (s.emit o).poolTrig = s.poolTrig := rfl
@[simp] theorem State.emit_shedDue (s : State) (o : Out) : (s.emit o).shedDue = s.shedDue := rfl
@[simp] theorem State.emit_ldsSeq (s : State) (o : Out) : (s.emit o).ldsSeq = s.ldsSeq := rfl
@[simp] theorem State.emit_ldsRan (s : State) (o : Out) : (s.emit o).ldsRan = s.ldsRan := rfl
@[simp] theorem State.emit_ldsProfiles (s : State) (o : Out) : (s.emit o).ldsProfiles = s.ldsProfiles := rfl
@[simp] theorem State.emit_pdTable (s : State) (o : Out) : (s.emit o).pdTable = s.pdTable := rfl
@[simp] theorem State.emit_flash (s : State) (o : Out) : (s.emit o).flash = s.flash := rfl
@[simp] theorem State.emit_freeCtr (s : State) (o : Out) : (s.emit o).freeCtr = s.freeCtr := rfl
@[simp] theorem State.emit_pending (s : State) (o : Out) : (s.emit o).pending = s.pending := rfl

@[simp] theorem State.fresh_regs (s : State) : (s.fresh).regs = s.regs := rfl
@[simp] theorem State.fresh_shadow (s : State) : (s.fresh).shadow = s.shadow := rfl
@[simp] theorem State.fresh_image (s : State) : (s.fresh).image = s.image := rfl
@[simp] theorem State.fresh_copies (s : State) : (s.fresh).copies = s.copies := rfl
@[simp] theorem State.fresh_ports (s : State) : (s.fresh).ports = s.ports := rfl
@[simp] theorem State.fresh_ups (s : State) : (s.fresh).ups = s.ups := rfl
@[simp] theorem State.fresh_secs (s : State) : (s.fresh).secs = s.secs := rfl
@[simp] theorem State.fresh_quads (s : State) : (s.fresh).quads = s.quads := rfl
@[simp] theorem State.fresh_faults (s : State) : (s.fresh).faults = s.faults := rfl
@[simp] theorem State.fresh_mbx (s : State) : (s.fresh).mbx = s.mbx := rfl
@[simp] theorem State.fresh_sw (s : State) : (s.fresh).sw = s.sw := rfl
@[simp] theorem State.fresh_boot (s : State) : (s.fresh).boot = s.boot := rfl
@[simp] theorem State.fresh_retain (s : State) : (s.fresh).retain = s.retain := rfl
@[simp] theorem State.fresh_rescue (s : State) : (s.fresh).rescue = s.rescue := rfl
@[simp] theorem State.fresh_sleep (s : State) : (s.fresh).sleep = s.sleep := rfl
@[simp] theorem State.fresh_upd (s : State) : (s.fresh).upd = s.upd := rfl
@[simp] theorem State.fresh_fuseGoal (s : State) : (s.fresh).fuseGoal = s.fuseGoal := rfl
@[simp] theorem State.fresh_fuses (s : State) : (s.fresh).fuses = s.fuses := rfl
@[simp] theorem State.fresh_phase (s : State) : (s.fresh).phase = s.phase := rfl
@[simp] theorem State.fresh_safe (s : State) : (s.fresh).safe = s.safe := rfl
@[simp] theorem State.fresh_stopped (s : State) : (s.fresh).stopped = s.stopped := rfl
@[simp] theorem State.fresh_missed (s : State) : (s.fresh).missed = s.missed := rfl
@[simp] theorem State.fresh_now (s : State) : (s.fresh).now = s.now := rfl
@[simp] theorem State.fresh_icuTimer (s : State) : (s.fresh).icuTimer = s.icuTimer := rfl
@[simp] theorem State.fresh_faultWidth (s : State) : (s.fresh).faultWidth = s.faultWidth := rfl
@[simp] theorem State.fresh_resetDue (s : State) : (s.fresh).resetDue = s.resetDue := rfl
@[simp] theorem State.fresh_low (s : State) : (s.fresh).low = s.low := rfl
@[simp] theorem State.fresh_vbusU (s : State) : (s.fresh).vbusU = s.vbusU := rfl
@[simp] theorem State.fresh_resetN (s : State) : (s.fresh).resetN = s.resetN := rfl
@[simp] theorem State.fresh_por (s : State) : (s.fresh).por = s.por := rfl
@[simp] theorem State.fresh_vioDue (s : State) : (s.fresh).vioDue = s.vioDue := rfl
@[simp] theorem State.fresh_strapDue (s : State) : (s.fresh).strapDue = s.strapDue := rfl
@[simp] theorem State.fresh_vbusHigh (s : State) : (s.fresh).vbusHigh = s.vbusHigh := rfl
@[simp] theorem State.fresh_idleAt (s : State) : (s.fresh).idleAt = s.idleAt := rfl
@[simp] theorem State.fresh_fixedAt (s : State) : (s.fresh).fixedAt = s.fixedAt := rfl
@[simp] theorem State.fresh_duskDue (s : State) : (s.fresh).duskDue = s.duskDue := rfl
@[simp] theorem State.fresh_lastSpi (s : State) : (s.fresh).lastSpi = s.lastSpi := rfl
@[simp] theorem State.fresh_lastI2c (s : State) : (s.fresh).lastI2c = s.lastI2c := rfl
@[simp] theorem State.fresh_heldI2c (s : State) : (s.fresh).heldI2c = s.heldI2c := rfl
@[simp] theorem State.fresh_edgeDue (s : State) : (s.fresh).edgeDue = s.edgeDue := rfl
@[simp] theorem State.fresh_poolTrig (s : State) : (s.fresh).poolTrig = s.poolTrig := rfl
@[simp] theorem State.fresh_shedDue (s : State) : (s.fresh).shedDue = s.shedDue := rfl
@[simp] theorem State.fresh_ldsSeq (s : State) : (s.fresh).ldsSeq = s.ldsSeq := rfl
@[simp] theorem State.fresh_ldsRan (s : State) : (s.fresh).ldsRan = s.ldsRan := rfl
@[simp] theorem State.fresh_ldsProfiles (s : State) : (s.fresh).ldsProfiles = s.ldsProfiles := rfl
@[simp] theorem State.fresh_pdTable (s : State) : (s.fresh).pdTable = s.pdTable := rfl
@[simp] theorem State.fresh_flash (s : State) : (s.fresh).flash = s.flash := rfl
@[simp] theorem State.fresh_freeCtr (s : State) : (s.fresh).freeCtr = s.freeCtr := rfl
@[simp] theorem State.fresh_pending (s : State) : (s.fresh).pending = s.pending := rfl

/-! ## Fields that an update writes -/

@[simp] theorem State.wr_regs (s : State) (f : Field) (v : Nat) : (s.wr f v).regs = Store.set s.regs f v := rfl
@[simp] theorem State.emit_outs (s : State) (o : Out) : (s.emit o).outs = s.outs ++ [o] := rfl
@[simp] theorem State.fresh_outs (s : State) : s.fresh.outs = [] := rfl
@[simp] theorem State.modSw_sw (s : State) (g : SwX → SwX) : (s.modSw g).sw = g s.sw := rfl

/-! ## The derived writes are plain writes -/

@[simp] theorem State.raise_eq_wr (s : State) (f : Field) : s.raise f = s.wr f 1 := rfl
@[simp] theorem State.flag_eq_wr (s : State) (f : Field) (b : Bool) : s.flag f b = s.wr f b.toNat := rfl
@[simp] theorem State.bump_eq_wr (s : State) (f : Field) (k : Nat) :
    s.bump f k = s.wr f (min (2 ^ f.width - 1) (s.rd f + k)) := rfl
@[simp] theorem State.orBits_eq_wr (s : State) (f : Field) (m : Nat) : s.orBits f m = s.wr f (s.rd f ||| m) := rfl
@[simp] theorem State.toImage_eq_wr (s : State) (f : Field) : s.toImage f = s.wr f (s.rdImage f) := rfl

/-! ## Registers -/

/-- A register field reads what was written, cut to its width. -/
@[simp] theorem State.rd_wr_self (s : State) (f : Field) (v : Nat) : (s.wr f v).rd f = v % 2 ^ f.width :=
  KMap.get_put_self _ _ _ _

/-- Writing one field leaves every other alone. -/
theorem State.rd_wr_ne (s : State) {f g : Field} (v : Nat) (h : g.key ≠ f.key) : (s.wr f v).rd g = s.rd g :=
  KMap.get_put_ne _ _ _ _ h

@[simp] theorem State.on_eq (s : State) (f : Field) : s.on f = (s.rd f != 0) := rfl
@[simp] theorem State.rd_modPort (s : State) (n : Nat) (g : PortX → PortX) (h : Field) : (s.modPort n g).rd h = s.rd h := rfl
@[simp] theorem State.rd_modUp (s : State) (u : Nat) (g : UpX → UpX) (h : Field) : (s.modUp u g).rd h = s.rd h := rfl
@[simp] theorem State.rd_modSec (s : State) (i : Nat) (g : SecX → SecX) (h : Field) : (s.modSec i g).rd h = s.rd h := rfl
@[simp] theorem State.rd_modQuad (s : State) (q : Nat) (g : QuadX → QuadX) (h : Field) : (s.modQuad q g).rd h = s.rd h := rfl
@[simp] theorem State.rd_modMb (s : State) (m : Nat) (g : MbxX → MbxX) (h : Field) : (s.modMb m g).rd h = s.rd h := rfl
@[simp] theorem State.rd_modFlt (s : State) (b : FBlk) (g : FaultX → FaultX) (h : Field) : (s.modFlt b g).rd h = s.rd h := rfl
@[simp] theorem State.rd_modSw (s : State) (g : SwX → SwX) (h : Field) : (s.modSw g).rd h = s.rd h := rfl
@[simp] theorem State.rd_emit (s : State) (o : Out) (h : Field) : (s.emit o).rd h = s.rd h := rfl
@[simp] theorem State.rd_fresh (s : State) (h : Field) : (s.fresh).rd h = s.rd h := rfl

/-! ## Hidden records -/

@[simp] theorem State.port_modPort_self (s : State) (n : Nat) (g : PortX → PortX) : (s.modPort n g).port n = g (s.port n) :=
  KMap.get_put_self _ _ _ _
theorem State.port_modPort_ne (s : State) {n k : Nat} (g : PortX → PortX) (h : k ≠ n) : (s.modPort n g).port k = s.port k :=
  KMap.get_put_ne _ _ _ _ h
@[simp] theorem State.port_wr (s : State) (f : Field) (v : Nat) (k : Nat) : (s.wr f v).port k = s.port k := rfl
@[simp] theorem State.port_load (s : State) (f : Field) (v : Nat) (k : Nat) : (s.load f v).port k = s.port k := rfl
@[simp] theorem State.port_modUp (s : State) (u : Nat) (g : UpX → UpX) (k : Nat) : (s.modUp u g).port k = s.port k := rfl
@[simp] theorem State.port_modSec (s : State) (i : Nat) (g : SecX → SecX) (k : Nat) : (s.modSec i g).port k = s.port k := rfl
@[simp] theorem State.port_modQuad (s : State) (q : Nat) (g : QuadX → QuadX) (k : Nat) : (s.modQuad q g).port k = s.port k := rfl
@[simp] theorem State.port_modMb (s : State) (m : Nat) (g : MbxX → MbxX) (k : Nat) : (s.modMb m g).port k = s.port k := rfl
@[simp] theorem State.port_modFlt (s : State) (b : FBlk) (g : FaultX → FaultX) (k : Nat) : (s.modFlt b g).port k = s.port k := rfl
@[simp] theorem State.port_modSw (s : State) (g : SwX → SwX) (k : Nat) : (s.modSw g).port k = s.port k := rfl
@[simp] theorem State.port_emit (s : State) (o : Out) (k : Nat) : (s.emit o).port k = s.port k := rfl
@[simp] theorem State.port_fresh (s : State) (k : Nat) : (s.fresh).port k = s.port k := rfl
@[simp] theorem State.up_modUp_self (s : State) (u : Nat) (g : UpX → UpX) : (s.modUp u g).up u = g (s.up u) :=
  KMap.get_put_self _ _ _ _
theorem State.up_modUp_ne (s : State) {u k : Nat} (g : UpX → UpX) (h : k ≠ u) : (s.modUp u g).up k = s.up k :=
  KMap.get_put_ne _ _ _ _ h
@[simp] theorem State.up_wr (s : State) (f : Field) (v : Nat) (k : Nat) : (s.wr f v).up k = s.up k := rfl
@[simp] theorem State.up_load (s : State) (f : Field) (v : Nat) (k : Nat) : (s.load f v).up k = s.up k := rfl
@[simp] theorem State.up_modPort (s : State) (n : Nat) (g : PortX → PortX) (k : Nat) : (s.modPort n g).up k = s.up k := rfl
@[simp] theorem State.up_modSec (s : State) (i : Nat) (g : SecX → SecX) (k : Nat) : (s.modSec i g).up k = s.up k := rfl
@[simp] theorem State.up_modQuad (s : State) (q : Nat) (g : QuadX → QuadX) (k : Nat) : (s.modQuad q g).up k = s.up k := rfl
@[simp] theorem State.up_modMb (s : State) (m : Nat) (g : MbxX → MbxX) (k : Nat) : (s.modMb m g).up k = s.up k := rfl
@[simp] theorem State.up_modFlt (s : State) (b : FBlk) (g : FaultX → FaultX) (k : Nat) : (s.modFlt b g).up k = s.up k := rfl
@[simp] theorem State.up_modSw (s : State) (g : SwX → SwX) (k : Nat) : (s.modSw g).up k = s.up k := rfl
@[simp] theorem State.up_emit (s : State) (o : Out) (k : Nat) : (s.emit o).up k = s.up k := rfl
@[simp] theorem State.up_fresh (s : State) (k : Nat) : (s.fresh).up k = s.up k := rfl
@[simp] theorem State.sec_modSec_self (s : State) (i : Nat) (g : SecX → SecX) : (s.modSec i g).sec i = g (s.sec i) :=
  KMap.get_put_self _ _ _ _
theorem State.sec_modSec_ne (s : State) {i k : Nat} (g : SecX → SecX) (h : k ≠ i) : (s.modSec i g).sec k = s.sec k :=
  KMap.get_put_ne _ _ _ _ h
@[simp] theorem State.sec_wr (s : State) (f : Field) (v : Nat) (k : Nat) : (s.wr f v).sec k = s.sec k := rfl
@[simp] theorem State.sec_load (s : State) (f : Field) (v : Nat) (k : Nat) : (s.load f v).sec k = s.sec k := rfl
@[simp] theorem State.sec_modPort (s : State) (n : Nat) (g : PortX → PortX) (k : Nat) : (s.modPort n g).sec k = s.sec k := rfl
@[simp] theorem State.sec_modUp (s : State) (u : Nat) (g : UpX → UpX) (k : Nat) : (s.modUp u g).sec k = s.sec k := rfl
@[simp] theorem State.sec_modQuad (s : State) (q : Nat) (g : QuadX → QuadX) (k : Nat) : (s.modQuad q g).sec k = s.sec k := rfl
@[simp] theorem State.sec_modMb (s : State) (m : Nat) (g : MbxX → MbxX) (k : Nat) : (s.modMb m g).sec k = s.sec k := rfl
@[simp] theorem State.sec_modFlt (s : State) (b : FBlk) (g : FaultX → FaultX) (k : Nat) : (s.modFlt b g).sec k = s.sec k := rfl
@[simp] theorem State.sec_modSw (s : State) (g : SwX → SwX) (k : Nat) : (s.modSw g).sec k = s.sec k := rfl
@[simp] theorem State.sec_emit (s : State) (o : Out) (k : Nat) : (s.emit o).sec k = s.sec k := rfl
@[simp] theorem State.sec_fresh (s : State) (k : Nat) : (s.fresh).sec k = s.sec k := rfl
@[simp] theorem State.quad_modQuad_self (s : State) (q : Nat) (g : QuadX → QuadX) : (s.modQuad q g).quad q = g (s.quad q) :=
  KMap.get_put_self _ _ _ _
theorem State.quad_modQuad_ne (s : State) {q k : Nat} (g : QuadX → QuadX) (h : k ≠ q) : (s.modQuad q g).quad k = s.quad k :=
  KMap.get_put_ne _ _ _ _ h
@[simp] theorem State.quad_wr (s : State) (f : Field) (v : Nat) (k : Nat) : (s.wr f v).quad k = s.quad k := rfl
@[simp] theorem State.quad_load (s : State) (f : Field) (v : Nat) (k : Nat) : (s.load f v).quad k = s.quad k := rfl
@[simp] theorem State.quad_modPort (s : State) (n : Nat) (g : PortX → PortX) (k : Nat) : (s.modPort n g).quad k = s.quad k := rfl
@[simp] theorem State.quad_modUp (s : State) (u : Nat) (g : UpX → UpX) (k : Nat) : (s.modUp u g).quad k = s.quad k := rfl
@[simp] theorem State.quad_modSec (s : State) (i : Nat) (g : SecX → SecX) (k : Nat) : (s.modSec i g).quad k = s.quad k := rfl
@[simp] theorem State.quad_modMb (s : State) (m : Nat) (g : MbxX → MbxX) (k : Nat) : (s.modMb m g).quad k = s.quad k := rfl
@[simp] theorem State.quad_modFlt (s : State) (b : FBlk) (g : FaultX → FaultX) (k : Nat) : (s.modFlt b g).quad k = s.quad k := rfl
@[simp] theorem State.quad_modSw (s : State) (g : SwX → SwX) (k : Nat) : (s.modSw g).quad k = s.quad k := rfl
@[simp] theorem State.quad_emit (s : State) (o : Out) (k : Nat) : (s.emit o).quad k = s.quad k := rfl
@[simp] theorem State.quad_fresh (s : State) (k : Nat) : (s.fresh).quad k = s.quad k := rfl
@[simp] theorem State.mb_modMb_self (s : State) (m : Nat) (g : MbxX → MbxX) : (s.modMb m g).mb m = g (s.mb m) :=
  KMap.get_put_self _ _ _ _
theorem State.mb_modMb_ne (s : State) {m k : Nat} (g : MbxX → MbxX) (h : k ≠ m) : (s.modMb m g).mb k = s.mb k :=
  KMap.get_put_ne _ _ _ _ h
@[simp] theorem State.mb_wr (s : State) (f : Field) (v : Nat) (k : Nat) : (s.wr f v).mb k = s.mb k := rfl
@[simp] theorem State.mb_load (s : State) (f : Field) (v : Nat) (k : Nat) : (s.load f v).mb k = s.mb k := rfl
@[simp] theorem State.mb_modPort (s : State) (n : Nat) (g : PortX → PortX) (k : Nat) : (s.modPort n g).mb k = s.mb k := rfl
@[simp] theorem State.mb_modUp (s : State) (u : Nat) (g : UpX → UpX) (k : Nat) : (s.modUp u g).mb k = s.mb k := rfl
@[simp] theorem State.mb_modSec (s : State) (i : Nat) (g : SecX → SecX) (k : Nat) : (s.modSec i g).mb k = s.mb k := rfl
@[simp] theorem State.mb_modQuad (s : State) (q : Nat) (g : QuadX → QuadX) (k : Nat) : (s.modQuad q g).mb k = s.mb k := rfl
@[simp] theorem State.mb_modFlt (s : State) (b : FBlk) (g : FaultX → FaultX) (k : Nat) : (s.modFlt b g).mb k = s.mb k := rfl
@[simp] theorem State.mb_modSw (s : State) (g : SwX → SwX) (k : Nat) : (s.modSw g).mb k = s.mb k := rfl
@[simp] theorem State.mb_emit (s : State) (o : Out) (k : Nat) : (s.emit o).mb k = s.mb k := rfl
@[simp] theorem State.mb_fresh (s : State) (k : Nat) : (s.fresh).mb k = s.mb k := rfl
@[simp] theorem State.flt_wr (s : State) (f : Field) (v : Nat) (c : FBlk) : (s.wr f v).flt c = s.flt c := rfl
@[simp] theorem State.flt_load (s : State) (f : Field) (v : Nat) (c : FBlk) : (s.load f v).flt c = s.flt c := rfl
@[simp] theorem State.flt_modPort (s : State) (n : Nat) (g : PortX → PortX) (c : FBlk) : (s.modPort n g).flt c = s.flt c := rfl
@[simp] theorem State.flt_modUp (s : State) (u : Nat) (g : UpX → UpX) (c : FBlk) : (s.modUp u g).flt c = s.flt c := rfl
@[simp] theorem State.flt_modSec (s : State) (i : Nat) (g : SecX → SecX) (c : FBlk) : (s.modSec i g).flt c = s.flt c := rfl
@[simp] theorem State.flt_modQuad (s : State) (q : Nat) (g : QuadX → QuadX) (c : FBlk) : (s.modQuad q g).flt c = s.flt c := rfl
@[simp] theorem State.flt_modMb (s : State) (m : Nat) (g : MbxX → MbxX) (c : FBlk) : (s.modMb m g).flt c = s.flt c := rfl
@[simp] theorem State.flt_modSw (s : State) (g : SwX → SwX) (c : FBlk) : (s.modSw g).flt c = s.flt c := rfl
@[simp] theorem State.flt_emit (s : State) (o : Out) (c : FBlk) : (s.emit o).flt c = s.flt c := rfl
@[simp] theorem State.flt_fresh (s : State) (c : FBlk) : (s.fresh).flt c = s.flt c := rfl
@[simp] theorem State.flt_modFlt_self (s : State) (b : FBlk) (g : FaultX → FaultX) :
    (s.modFlt b g).flt b = g (s.flt b) := KMap.get_put_self _ _ _ _

/-! ## Open values and lists -/

@[simp] theorem State.free_snd (s : State) : (s.free).2 = { s with freeCtr := s.freeCtr + 1 } := rfl
@[simp] theorem State.forEach_nil (s : State) (g : State → Nat → State) : s.forEach [] g = s := rfl
@[simp] theorem State.forEach_cons (s : State) (a : Nat) (l : List Nat) (g : State → Nat → State) :
    s.forEach (a :: l) g = (g s a).forEach l g := rfl
@[simp] theorem done_eq (s : State) : done s = .next s := rfl

/-- A command whose guard holds answers its effect. -/
theorem doneIf_true {c : Bool} (s t : State) (h : c = true) : doneIf c s t = .next t := by rw [doneIf, h, if_pos rfl]

/-- A command whose guard fails answers its start. -/
theorem doneIf_false {c : Bool} (s t : State) (h : c = false) : doneIf c s t = .next s := by rw [doneIf, h]; rfl

end Sys2Proof.Machine
end

