-- ==== Sys2Proof/Laws/Keeps.lean ====
section
/-! SUPPORT. What every operation of the model keeps: the queue of waiting commands, the fuses that are blown, the levels
on the supply, VBUS and RESET_N pins, and the canonical form. One rule per named update; the files Laws/Keeps* hold one lemma per shared operation. -/

namespace Sys2Proof.Machine

/-- `t` comes from `s` by operations of the model. -/
structure Keeps (s t : State) : Prop where
  queue : t.pending = s.pending
  fuses : t.fuses = s.fuses
  low : t.low = s.low
  vbusU : t.vbusU = s.vbusU
  resetN : t.resetN = s.resetN
  wf : WellKept s → WellKept t

namespace Keeps

theorem refl (s : State) : Keeps s s := ⟨rfl, rfl, rfl, rfl, rfl, id⟩

theorem trans {s t u : State} (h : Keeps s t) (k : Keeps t u) : Keeps s u :=
  ⟨k.queue.trans h.queue, k.fuses.trans h.fuses, k.low.trans h.low, k.vbusU.trans h.vbusU, k.resetN.trans h.resetN,
    fun w => k.wf (h.wf w)⟩

/-- A record update that touches none of the fields of the canonical form. -/
theorem same {s t u : State} (h : Keeps s t) (p : u.pending = t.pending) (f : u.fuses = t.fuses) (a : u.regs = t.regs)
    (b : u.shadow = t.shadow) (c : u.image = t.image) (d : u.copies = t.copies) (e : u.ports = t.ports) (i : u.ups = t.ups)
    (j : u.secs = t.secs) (k : u.quads = t.quads) (l : u.faults = t.faults) (m : u.mbx = t.mbx)
    (n : u.icuTimer = t.icuTimer) (o : u.fixedAt = t.fixedAt) (q : u.flash = t.flash)
    (x : u.low = t.low) (y : u.vbusU = t.vbusU) (z : u.resetN = t.resetN)
    (r : u.retain.journal = t.retain.journal) : Keeps s u := by
  refine h.trans ⟨p, f, x, y, z, fun w => ⟨a ▸ w.regs, b ▸ w.shadow, c ▸ w.image, d ▸ w.copies, e ▸ w.ports, i ▸ w.ups,
    j ▸ w.secs, k ▸ w.quads, l ▸ w.faults, m ▸ w.mbx, n ▸ w.icuTimer, o ▸ w.fixedAt, q ▸ w.flash, ?_⟩⟩
  rw [r]
  exact w.journal

/-- A record update of any fields outside the canonical form, the journal unchanged. -/
theorem upd {s t : State}
    {sw_ : SwX} {boot_ : BootX} {retain_ : Retain} {rescue_ : RescueX} {sleep_ : SleepX} {upd_ : Option UpdX}
    {fuseGoal_ : Option Nat} {phase_ : Phase} {safe_ : Bool} {stopped_ : List Nat} {missed_ : List (Nat × Nat)}
    {now_ : Nat} {faultWidth_ : Bool} {resetDue_ : Bool} {por_ : Bool} {idleAt_ : Nat} {duskDue_ : List (Nat × Nat)}
    {lastSpi_ : Nat} {lastI2c_ : Nat} {edgeDue_ : List Nat} {poolTrig_ : Bool} {shedDue_ : Bool} {ldsSeq_ : Nat}
    {ldsRan_ : Bool} {ldsProfiles_ : List Byte} {pdTable_ : Nat × Nat × Nat × Nat} {freeCtr_ : Nat}
    {outs_ : List Out}
    {vioDue_ : Bool} {strapDue_ : Bool} {vbusHigh_ : List Nat} {heldI2c_ : Option I2cFrame}
    (h : Keeps s t) (hr : retain_.journal = t.retain.journal) :
    Keeps s { t with
      sw := sw_, boot := boot_, retain := retain_, rescue := rescue_, sleep := sleep_, upd := upd_,
      fuseGoal := fuseGoal_, phase := phase_, safe := safe_, stopped := stopped_, missed := missed_, now := now_,
      faultWidth := faultWidth_, resetDue := resetDue_, por := por_, idleAt := idleAt_, duskDue := duskDue_,
      lastSpi := lastSpi_, lastI2c := lastI2c_, edgeDue := edgeDue_, poolTrig := poolTrig_, shedDue := shedDue_,
      ldsSeq := ldsSeq_, ldsRan := ldsRan_, ldsProfiles := ldsProfiles_, pdTable := pdTable_, freeCtr := freeCtr_,
      outs := outs_, vioDue := vioDue_, strapDue := strapDue_, vbusHigh := vbusHigh_, heldI2c := heldI2c_ } :=
  h.same rfl rfl rfl rfl rfl rfl rfl rfl rfl rfl rfl rfl rfl rfl rfl rfl rfl rfl hr

variable {s t : State}

theorem wr (h : Keeps s t) (f : Field) (v : Nat) : Keeps s (t.wr f v) :=
  h.trans ⟨rfl, rfl, rfl, rfl, rfl, fun w => { w with regs := KMap.rising_put w.regs _ _ _ }⟩

theorem raise (h : Keeps s t) (f : Field) : Keeps s (t.raise f) := h.wr f 1
theorem flag (h : Keeps s t) (f : Field) (b : Bool) : Keeps s (t.flag f b) := h.wr f b.toNat
theorem bump (h : Keeps s t) (f : Field) (k : Nat) : Keeps s (t.bump f k) := h.wr f _
theorem orBits (h : Keeps s t) (f : Field) (m : Nat) : Keeps s (t.orBits f m) := h.wr f _
theorem toImage (h : Keeps s t) (f : Field) : Keeps s (t.toImage f) := h.wr f _

theorem load (h : Keeps s t) (f : Field) (v : Nat) : Keeps s (t.load f v) :=
  h.trans ⟨rfl, rfl, rfl, rfl, rfl, fun w =>
    { w with regs := KMap.rising_put w.regs _ _ _, image := KMap.rising_put w.image _ _ _ }⟩

theorem modPort (h : Keeps s t) (n : Nat) (g : PortX → PortX) : Keeps s (t.modPort n g) :=
  h.trans ⟨rfl, rfl, rfl, rfl, rfl, fun w => { w with ports := KMap.wf_put w.ports _ _ }⟩
theorem modUp (h : Keeps s t) (u : Nat) (g : UpX → UpX) : Keeps s (t.modUp u g) :=
  h.trans ⟨rfl, rfl, rfl, rfl, rfl, fun w => { w with ups := KMap.wf_put w.ups _ _ }⟩
theorem modSec (h : Keeps s t) (i : Nat) (g : SecX → SecX) : Keeps s (t.modSec i g) :=
  h.trans ⟨rfl, rfl, rfl, rfl, rfl, fun w => { w with secs := KMap.wf_put w.secs _ _ }⟩
theorem modQuad (h : Keeps s t) (q : Nat) (g : QuadX → QuadX) : Keeps s (t.modQuad q g) :=
  h.trans ⟨rfl, rfl, rfl, rfl, rfl, fun w => { w with quads := KMap.wf_put w.quads _ _ }⟩
theorem modMb (h : Keeps s t) (m : Nat) (g : MbxX → MbxX) : Keeps s (t.modMb m g) :=
  h.trans ⟨rfl, rfl, rfl, rfl, rfl, fun w => { w with mbx := KMap.wf_put w.mbx _ _ }⟩
theorem modFlt (h : Keeps s t) (b : FBlk) (g : FaultX → FaultX) : Keeps s (t.modFlt b g) :=
  h.trans ⟨rfl, rfl, rfl, rfl, rfl, fun w => { w with faults := KMap.wf_put w.faults _ _ }⟩
theorem setAlm (h : Keeps s t) (n k : Nat) (e : AlmEntry) : Keeps s (t.setAlm n k e) := h.modPort n _
theorem modLds (h : Keeps s t) (n : Nat) (g : LdsPort → LdsPort) : Keeps s (t.modLds n g) := h.modPort n _
theorem setView (h : Keeps s t) (u n : Nat) (v : View) : Keeps s (t.setView u n v) := h.modUp u _

theorem modSw (h : Keeps s t) (g : SwX → SwX) : Keeps s (t.modSw g) :=
  h.same rfl rfl rfl rfl rfl rfl rfl rfl rfl rfl rfl rfl rfl rfl rfl rfl rfl rfl rfl
theorem emit (h : Keeps s t) (o : Out) : Keeps s (t.emit o) :=
  h.same rfl rfl rfl rfl rfl rfl rfl rfl rfl rfl rfl rfl rfl rfl rfl rfl rfl rfl rfl
theorem fresh (h : Keeps s t) : Keeps s t.fresh :=
  h.same rfl rfl rfl rfl rfl rfl rfl rfl rfl rfl rfl rfl rfl rfl rfl rfl rfl rfl rfl
theorem free (h : Keeps s t) : Keeps s (t.free).2 :=
  h.same rfl rfl rfl rfl rfl rfl rfl rfl rfl rfl rfl rfl rfl rfl rfl rfl rfl rfl rfl
theorem elapsedUs (h : Keeps s t) (a : Nat) : Keeps s (t.elapsedUs a).2 := h.free

theorem ite {c : Prop} [Decidable c] {a b : State} (h : Keeps s a) (k : Keeps s b) : Keeps s (if c then a else b) := by
  split
  · exact h
  · exact k

/-- A choice between two answers that carry a state. -/
theorem ite2 {α : Type} {c : Prop} [Decidable c] {a b : α × State} (h : Keeps s a.2) (k : Keeps s b.2) :
    Keeps s (if c then a else b).2 := by
  split
  · exact h
  · exact k

theorem ite3 {α β : Type} {c : Prop} [Decidable c] {a b : α × β × State} (h : Keeps s a.2.2) (k : Keeps s b.2.2) :
    Keeps s (if c then a else b).2.2 := by
  split
  · exact h
  · exact k

theorem foldl {α : Type} (h : Keeps s t) (l : List α) (g : State → α → State)
    (hg : ∀ (u : State) (a : α), Keeps s u → Keeps s (g u a)) : Keeps s (l.foldl g t) := by
  induction l generalizing t with
  | nil => exact h
  | cons a l ih => exact ih (hg t a h)

theorem forEach (h : Keeps s t) (l : List Nat) (g : State → Nat → State)
    (hg : ∀ (u : State) (n : Nat), Keeps s u → Keeps s (g u n)) : Keeps s (t.forEach l g) := h.foldl l g hg

theorem hubEvt (h : Keeps s t) (n k : Nat) : Keeps s (t.hubEvt n k) := by
  unfold State.hubEvt
  split
  · exact (h.raise _).modPort n _
  split
  · exact (h.raise _).modPort n _
  split
  · exact (h.raise _).modPort n _
  split
  · exact (h.raise _).modPort n _
  · exact (h.raise _).modPort n _

/-- The timers of the interrupt targets replaced by a canonical map. -/
theorem setTimer (h : Keeps s t) (m : KMap (Option Nat))
    (hm : KMap.wf none t.icuTimer = true → KMap.wf none m = true) : Keeps s { t with icuTimer := m } :=
  h.trans ⟨rfl, rfl, rfl, rfl, rfl, fun w => { w with icuTimer := hm w.icuTimer }⟩

/-- A timer of an interrupt target replaced. -/
theorem timer (h : Keeps s t) (k : Nat) (v : Option Nat) : Keeps s { t with icuTimer := KMap.put none t.icuTimer k v } :=
  h.setTimer _ (fun w => KMap.wf_put w _ _)

/-- The live registers replaced by a rising store. -/
theorem setRegs (h : Keeps s t) (m : Store) (hm : KMap.rising t.regs → KMap.rising m) : Keeps s { t with regs := m } :=
  h.trans ⟨rfl, rfl, rfl, rfl, rfl, fun w => { w with regs := hm w.regs }⟩

theorem eraseCopy (h : Keeps s t) (k : Nat) : Keeps s { t with copies := KMap.erase t.copies k } :=
  h.trans ⟨rfl, rfl, rfl, rfl, rfl, fun w => { w with copies := KMap.rising_erase w.copies k }⟩
theorem wrVoted (h : Keeps s t) (f : Field) (v : Nat) : Keeps s (t.wrVoted f v) := (h.wr f v).eraseCopy f.key

theorem flashErase (h : Keeps s t) (a k : Nat) : Keeps s (t.flashErase a k) := by
  refine Keeps.emit ?_ _
  exact h.trans ⟨rfl, rfl, rfl, rfl, rfl, fun w => { w with flash := Memory.wf_filter w.flash _ }⟩

theorem flashProgram (h : Keeps s t) (a : Nat) (bs : List Byte) : Keeps s (t.flashProgram a bs) := by
  refine Keeps.emit ?_ _
  exact h.trans ⟨rfl, rfl, rfl, rfl, rfl, fun w => { w with flash := Memory.wf_program bs _ a w.flash }⟩

end Keeps

end Sys2Proof.Machine
end

