-- ==== Sys2Proof/Laws/KeepsPort.lean ====
section
/-! SUPPORT. One lemma per operation of shared operations of ports, interrupts, faults and restarts: it keeps what every
operation keeps. -/

namespace Sys2Proof.Machine

variable {s t : State}

theorem State.sumBooks_keeps (h : Keeps s t) : Keeps s (t.sumBooks) := by
  unfold State.sumBooks
  repeat' with_reducible first
    | assumption | apply Keeps.forEach | apply Keeps.wr | intro _ _ _

theorem State.setC_keeps (h : Keeps s t) (n c : Nat) : Keeps s (t.setC n c) := by
  unfold State.setC
  repeat' with_reducible first
    | assumption | apply Keeps.wr | apply State.sumBooks_keeps | intro _ _ _ | intro _ _ | split

theorem State.setK_keeps (h : Keeps s t) (n k : Nat) : Keeps s (t.setK n k) := by
  unfold State.setK
  repeat' with_reducible first
    | assumption | apply Keeps.wr | apply State.sumBooks_keeps | intro _ _ _ | intro _ _ | split

theorem State.fbiDrive_keeps (h : Keeps s t) (n code : Nat) : Keeps s (t.fbiDrive n code) := by
  unfold State.fbiDrive
  repeat' with_reducible first
    | assumption | apply Keeps.modPort | apply Keeps.emit

theorem State.vconnOn_keeps (h : Keeps s t) (n : Nat) : Keeps s (t.vconnOn n) := by
  unfold State.vconnOn
  repeat' with_reducible first
    | assumption | apply Keeps.wr | apply Keeps.raise | apply Keeps.flag | apply Keeps.emit

theorem State.vbusGone_keeps (h : Keeps s t) (n : Nat) : Keeps s (t.vbusGone n) := by
  unfold State.vbusGone
  repeat' with_reducible first
    | assumption | apply Keeps.modPort | apply Keeps.emit | apply State.setK_keeps | intro _ _ _ | intro _ _ | split

theorem State.discharge_keeps (h : Keeps s t) (n : Nat) : Keeps s (t.discharge n) := by
  unfold State.discharge
  repeat' with_reducible first
    | assumption | apply Keeps.modPort | apply Keeps.emit | apply State.vbusGone_keeps | intro _ _ _ | intro _ _
    | split

theorem State.pdForget_keeps (h : Keeps s t) (n : Nat) : Keeps s (t.pdForget n) := by
  unfold State.pdForget
  repeat' with_reducible first
    | assumption | apply Keeps.modPort

theorem State.endContract_keeps (h : Keeps s t) (n : Nat) : Keeps s (t.endContract n) := by
  unfold State.endContract
  repeat' with_reducible first
    | assumption | apply Keeps.wr | apply Keeps.orBits | apply Keeps.modPort | apply State.pdForget_keeps
    | intro _ _ _ | intro _ _ | split

theorem State.pgFall_keeps (h : Keeps s t) (n : Nat) : Keeps s (t.pgFall n) := by
  unfold State.pgFall
  repeat' with_reducible first
    | assumption | apply Keeps.wr | apply Keeps.raise | apply Keeps.modPort | intro _ _ _ | intro _ _ | split

theorem State.gateOff_keeps (h : Keeps s t) (n : Nat) (fast : Bool) : Keeps s (t.gateOff n fast) := by
  unfold State.gateOff
  repeat' with_reducible first
    | assumption | apply Keeps.wr | apply Keeps.modPort | apply Keeps.emit | apply State.pgFall_keeps
    | apply State.setC_keeps | intro _ _ _ | intro _ _ | split

theorem State.setQuadHold_keeps (h : Keeps s t) (n : Nat) (held : Bool) : Keeps s (t.setQuadHold n held) := by
  unfold State.setQuadHold
  repeat' with_reducible first
    | assumption | apply Keeps.forEach | apply Keeps.wr | apply Keeps.flag | intro _ _ _

theorem State.modeExit_keeps (h : Keeps s t) (n : Nat) : Keeps s (t.modeExit n) := by
  unfold State.modeExit
  repeat' with_reducible first
    | assumption | apply Keeps.wr | apply Keeps.orBits | apply Keeps.emit | apply State.setQuadHold_keeps
    | intro _ _ _ | intro _ _ | split

theorem State.unwait_keeps (h : Keeps s t) (n : Nat) : Keeps s (t.unwait n) := by
  unfold State.unwait
  repeat' with_reducible first
    | assumption | apply Keeps.wr | apply Keeps.modPort

theorem State.dropReset_keeps (h : Keeps s t) (n : Nat) : Keeps s (t.dropReset n) := by
  unfold State.dropReset
  repeat' with_reducible first
    | assumption | apply Keeps.wr | apply Keeps.modPort | intro _ _ _ | intro _ _ | split

theorem State.endDrive_keeps (h : Keeps s t) (n : Nat) : Keeps s (t.endDrive n) := by
  unfold State.endDrive
  repeat' with_reducible first
    | assumption | apply Keeps.emit | intro _ _ _ | intro _ _ | split | apply Keeps.upd | exact rfl

theorem State.clockUs_keeps (h : Keeps s t) : Keeps s (t.clockUs).2 := by
  unfold State.clockUs
  repeat' with_reducible first
    | assumption | apply Keeps.free

theorem State.edgeAtMeridian_keeps (h : Keeps s t) (i : Nat) : Keeps s (t.edgeAtMeridian i) := by
  unfold State.edgeAtMeridian
  repeat' with_reducible first
    | assumption | intro _ _ _ | intro _ _ | split | apply Keeps.upd | exact rfl

theorem State.ldsChange_keeps (h : Keeps s t) (n : Nat) : Keeps s (t.ldsChange n) := by
  unfold State.ldsChange
  repeat' with_reducible first
    | assumption | apply Keeps.orBits | intro _ _ _ | intro _ _ | split

theorem State.setEntry_keeps (h : Keeps s t) (n : Nat) (e : RosterEntry) : Keeps s (t.setEntry n e) := by
  unfold State.setEntry
  repeat' with_reducible first
    | assumption | apply Keeps.wr | apply Keeps.flag | apply Keeps.modLds | apply State.ldsChange_keeps
    | intro _ _ _ | intro _ _ | split | apply Keeps.upd | exact rfl

theorem State.ldsEnd_keeps (h : Keeps s t) (n result state : Nat) : Keeps s (t.ldsEnd n result state) := by
  unfold State.ldsEnd
  repeat' with_reducible first
    | assumption | apply Keeps.modLds | apply State.clockUs_keeps | apply State.edgeAtMeridian_keeps
    | apply State.setEntry_keeps | intro _ _ _ | intro _ _ | split

theorem State.ldsDetach_keeps (h : Keeps s t) (n : Nat) : Keeps s (t.ldsDetach n) := by
  unfold State.ldsDetach
  repeat' with_reducible first
    | assumption | apply Keeps.modLds | apply State.ldsEnd_keeps | apply State.setEntry_keeps | intro _ _ _
    | intro _ _ | split

theorem State.fallSettle_keeps (h : Keeps s t) : Keeps s (t.fallSettle) := by
  unfold State.fallSettle
  repeat' with_reducible first
    | assumption | apply Keeps.wr | apply Keeps.modSw | intro _ _ _ | intro _ _ | split | apply Keeps.upd
    | exact rfl

theorem State.iqPop_keeps (h : Keeps s t) (k d : Nat) : Keeps s (t.iqPop k d) := by
  unfold State.iqPop
  repeat' with_reducible first
    | assumption | apply Keeps.wr

theorem State.setPool_keeps (h : Keeps s t) (v : Nat) : Keeps s (t.setPool v) := by
  unfold State.setPool
  repeat' with_reducible first
    | assumption | apply Keeps.wr | apply Keeps.raise | apply Keeps.modSw | apply State.edgeAtMeridian_keeps
    | intro _ _ _ | intro _ _ | split | apply Keeps.upd | exact rfl

theorem State.toFlight_keeps (h : Keeps s t) (k : Nat) : Keeps s (t.toFlight k) := by
  unfold State.toFlight
  repeat' with_reducible first
    | assumption | apply Keeps.wr

theorem State.giveUp_keeps (h : Keeps s t) (p : Pkt) : Keeps s (t.giveUp p) := by
  unfold State.giveUp
  repeat' with_reducible first
    | assumption | apply Keeps.modSw | apply State.iqPop_keeps | apply State.setPool_keeps
    | apply State.toFlight_keeps | intro _ _ _ | intro _ _ | split | apply Keeps.upd | exact rfl

theorem State.dropPkt_keeps (h : Keeps s t) (id : Nat) : Keeps s (t.dropPkt id) := by
  unfold State.dropPkt
  repeat' with_reducible first
    | assumption | apply Keeps.modSw | apply State.fallSettle_keeps | apply State.giveUp_keeps | intro _ _ _
    | intro _ _ | split

theorem State.dropStale_keeps (h : Keeps s t) (sel : Pkt → Bool) : Keeps s (t.dropStale sel) := by
  unfold State.dropStale
  repeat' with_reducible first
    | assumption | apply Keeps.foldl | apply Keeps.bump | apply Keeps.modPort | apply State.dropPkt_keeps
    | intro _ _ _ | intro _ _ | split

theorem State.dropHeld_keeps (h : Keeps s t) (n : Nat) (k : Key) : Keeps s (t.dropHeld n k) := by
  unfold State.dropHeld
  repeat' with_reducible first
    | assumption | apply Keeps.foldl | apply State.dropPkt_keeps | intro _ _ _

theorem State.withdrawSlot_keeps (h : Keeps s t) (n : Nat) (k : Key) : Keeps s (t.withdrawSlot n k) := by
  unfold State.withdrawSlot
  repeat' with_reducible first
    | assumption | apply Keeps.bump | apply Keeps.modPort | apply State.dropHeld_keeps | intro _ _ _ | intro _ _
    | split

theorem State.withdrawSlots_keeps (h : Keeps s t) (n : Nat) (sel : Slot → Bool) : Keeps s (t.withdrawSlots n sel) := by
  unfold State.withdrawSlots
  repeat' with_reducible first
    | assumption | apply Keeps.foldl | apply State.withdrawSlot_keeps | intro _ _ _

theorem State.relayReset_keeps (h : Keeps s t) (n : Nat) (stale : Bool) : Keeps s (t.relayReset n stale) := by
  unfold State.relayReset
  repeat' with_reducible first
    | assumption | apply Keeps.modPort | apply State.dropStale_keeps | apply State.withdrawSlots_keeps | intro _ _ _
    | intro _ _ | split

theorem State.rtQueue_keeps (h : Keeps s t) (u a : Nat) (port : Option Nat) (hs : Bool) :
    Keeps s (t.rtQueue u a port hs) := by
  unfold State.rtQueue
  repeat' with_reducible first
    | assumption | apply Keeps.modUp

theorem State.rtDropPort_keeps (h : Keeps s t) (u n : Nat) : Keeps s (t.rtDropPort u n) := by
  unfold State.rtDropPort
  repeat' with_reducible first
    | assumption | apply Keeps.forEach | apply State.rtQueue_keeps | intro _ _ _

theorem State.rtDropOwner_keeps (h : Keeps s t) (n : Nat) : Keeps s (t.rtDropOwner n) := by
  unfold State.rtDropOwner
  repeat' with_reducible first
    | assumption | apply State.rtDropPort_keeps | intro _ _ _ | intro _ _ | split

theorem State.setHub_keeps (h : Keeps s t) (n st : Nat) : Keeps s (t.setHub n st) := by
  unfold State.setHub
  repeat' with_reducible first
    | assumption | apply Keeps.wr | apply Keeps.flag

theorem State.almClear_keeps (h : Keeps s t) (n : Nat) (cut : Bool) : Keeps s (t.almClear n cut) := by
  unfold State.almClear
  repeat' with_reducible first
    | assumption | apply Keeps.modPort

theorem State.ttCut_keeps (h : Keeps s t) (n : Nat) : Keeps s (t.ttCut n) := by
  unfold State.ttCut
  repeat' with_reducible first
    | assumption | apply Keeps.wr | apply Keeps.modPort

theorem State.holdEnd_keeps (h : Keeps s t) (n a : Nat) : Keeps s (t.holdEnd n a) := by
  unfold State.holdEnd
  repeat' with_reducible first
    | assumption | apply Keeps.modPort | intro _ _ _ | intro _ _ | split

theorem State.holdsEnd_keeps (h : Keeps s t) (n : Nat) : Keeps s (t.holdsEnd n) := by
  unfold State.holdsEnd
  repeat' with_reducible first
    | assumption | apply Keeps.forEach | apply Keeps.modPort | apply State.holdEnd_keeps | intro _ _ _

theorem State.ttReset_keeps (h : Keeps s t) (n : Nat) : Keeps s (t.ttReset n) := by
  unfold State.ttReset
  repeat' with_reducible first
    | assumption | apply Keeps.wr | apply Keeps.modPort | apply State.holdsEnd_keeps

theorem State.unpoll_keeps (h : Keeps s t) (n : Nat) : Keeps s (t.unpoll n) := by
  unfold State.unpoll
  repeat' with_reducible first
    | assumption | apply Keeps.wr | apply Keeps.bump | apply Keeps.modPort | intro _ _ _ | intro _ _ | split
    | apply Keeps.upd | exact rfl

theorem State.restrand_keeps (h : Keeps s t) (n : Nat) (sel : Key → Bool) : Keeps s (t.restrand n sel) := by
  unfold State.restrand
  repeat' with_reducible first
    | assumption | apply Keeps.wr | apply Keeps.bump | apply Keeps.modPort | intro _ _ _ | intro _ _ | split
    | apply Keeps.upd | exact rfl

theorem State.withdrawAll_keeps (h : Keeps s t) (n : Nat) (counted : Bool) : Keeps s (t.withdrawAll n counted) := by
  unfold State.withdrawAll
  repeat' with_reducible first
    | assumption | apply Keeps.bump | apply Keeps.modPort | apply State.restrand_keeps | intro _ _ _ | intro _ _
    | split

theorem State.ttAndAlmanac_keeps (h : Keeps s t) (n : Nat) (cut counted : Bool) :
    Keeps s (t.ttAndAlmanac n cut counted) := by
  unfold State.ttAndAlmanac
  repeat' with_reducible first
    | assumption | apply Keeps.modPort | apply State.almClear_keeps | apply State.ttCut_keeps
    | apply State.ttReset_keeps | apply State.unpoll_keeps | apply State.withdrawAll_keeps | intro _ _ _ | intro _ _
    | split

theorem State.hubDisconnect_keeps (h : Keeps s t) (n : Nat) : Keeps s (t.hubDisconnect n) := by
  unfold State.hubDisconnect
  repeat' with_reducible first
    | assumption | apply Keeps.wr | apply Keeps.modPort | apply Keeps.hubEvt | apply State.dropReset_keeps
    | apply State.endDrive_keeps | apply State.ldsDetach_keeps | apply State.relayReset_keeps
    | apply State.rtDropOwner_keeps | apply State.setHub_keeps | apply State.ttAndAlmanac_keeps | intro _ _ _
    | intro _ _ | split | apply Keeps.upd | exact rfl

theorem State.hubDrop_keeps (h : Keeps s t) (n st : Nat) : Keeps s (t.hubDrop n st) := by
  unfold State.hubDrop
  repeat' with_reducible first
    | assumption | apply Keeps.wr | apply Keeps.modPort | apply State.endDrive_keeps | apply State.ldsDetach_keeps
    | apply State.relayReset_keeps | apply State.setHub_keeps | apply State.ttAndAlmanac_keeps

theorem State.hubDown_keeps (h : Keeps s t) (n st : Nat) : Keeps s (t.hubDown n st) := by
  unfold State.hubDown
  repeat' with_reducible first
    | assumption | apply State.hubDrop_keeps | apply State.rtDropOwner_keeps

theorem State.vbusLoss_keeps (h : Keeps s t) (n : Nat) : Keeps s (t.vbusLoss n) := by
  unfold State.vbusLoss
  repeat' with_reducible first
    | assumption | apply State.hubDisconnect_keeps | apply State.hubDown_keeps | intro _ _ _ | intro _ _ | split

theorem State.vconnOff_keeps (h : Keeps s t) (n : Nat) : Keeps s (t.vconnOff n) := by
  unfold State.vconnOff
  repeat' with_reducible first
    | assumption | apply Keeps.wr | apply Keeps.emit | intro _ _ _ | intro _ _ | split

theorem State.powerCut_keeps (h : Keeps s t) (n : Nat) : Keeps s (t.powerCut n) := by
  unfold State.powerCut
  repeat' with_reducible first
    | assumption | apply Keeps.wr | apply Keeps.modPort | apply State.discharge_keeps
    | apply State.endContract_keeps | apply State.gateOff_keeps | apply State.modeExit_keeps
    | apply State.unwait_keeps | apply State.vbusLoss_keeps | apply State.vconnOff_keeps | intro _ _ _ | intro _ _
    | split | apply Keeps.upd | exact rfl

theorem State.markOff_keeps (h : Keeps s t) (n : Nat) : Keeps s (t.markOff n) := by
  unfold State.markOff
  repeat' with_reducible first
    | assumption | apply Keeps.wr | apply State.powerCut_keeps

theorem State.peMarkOff_keeps (h : Keeps s t) (n : Nat) : Keeps s (t.peMarkOff n) := by
  unfold State.peMarkOff
  repeat' with_reducible first
    | assumption | apply Keeps.wr | apply State.markOff_keeps | intro _ _ _ | intro _ _ | split

theorem State.clearMark_keeps (h : Keeps s t) (n : Nat) : Keeps s (t.clearMark n) := by
  unfold State.clearMark
  repeat' with_reducible first
    | assumption | apply Keeps.wr

theorem State.tryApply_keeps (h : Keeps s t) (n : Nat) : Keeps s (t.tryApply n) := by
  unfold State.tryApply
  repeat' with_reducible first
    | assumption | apply Keeps.wr | apply Keeps.modPort | intro _ _ _ | intro _ _ | split

theorem State.deliver_keeps (h : Keeps s t) (a : Nat) : Keeps s (t.deliver a) := by
  unfold State.deliver
  refine Keeps.ite h ?_
  exact ((h.wr (ICU.TSTAT.HELD a) 0).flag (ICU.TSTAT.LINE a) (t.lowest a).isSome).setTimer (KMap.put none t.icuTimer a none)
    (fun w => KMap.wf_put (by simpa using w) a none)

theorem State.hold_keeps (h : Keeps s t) (t_ i : Nat) : Keeps s (t.hold t_ i) := by
  unfold State.hold
  repeat' with_reducible first
    | assumption | apply Keeps.bump | apply Keeps.eraseCopy | apply Keeps.timer | apply State.deliver_keeps
    | intro _ _ _ | intro _ _ | split | apply Keeps.upd | exact rfl

theorem State.edge_keeps (h : Keeps s t) (i : Nat) : Keeps s (t.edge i) := by
  unfold State.edge
  repeat' with_reducible first
    | assumption | apply Keeps.raise | apply Keeps.bump | apply State.hold_keeps | intro _ _ _ | intro _ _ | split
    | apply Keeps.upd | exact rfl

theorem State.recordOnly_keeps (h : Keeps s t) (b : FBlk) (k : Nat) : Keeps s (t.recordOnly b k) := by
  unfold State.recordOnly
  repeat' with_reducible first
    | assumption | apply Keeps.wr | apply Keeps.raise | apply Keeps.bump | apply Keeps.orBits
    | apply State.edge_keeps | intro _ _ _ | intro _ _ | split

theorem State.countRecovery_keeps (h : Keeps s t) (b : FBlk) : Keeps s (t.countRecovery b) := by
  unfold State.countRecovery
  repeat' with_reducible first
    | assumption | apply Keeps.wr | apply Keeps.bump

theorem State.ctlAbort_keeps (h : Keeps s t) (u : Nat) : Keeps s (t.ctlAbort u) := by
  unfold State.ctlAbort
  repeat' with_reducible first
    | assumption | apply Keeps.wr | apply Keeps.raise | apply Keeps.bump | apply Keeps.modUp | intro _ _ _
    | intro _ _ | split

theorem State.mbxRelease_keeps (h : Keeps s t) (m : Nat) : Keeps s (t.mbxRelease m) := by
  unfold State.mbxRelease
  repeat' with_reducible first
    | assumption | apply Keeps.wr | apply Keeps.modMb | intro _ _ _ | intro _ _ | split | apply Keeps.upd
    | exact rfl

theorem State.ccOpen_keeps (h : Keeps s t) (n : Nat) : Keeps s (t.ccOpen n) := by
  unfold State.ccOpen
  repeat' with_reducible first
    | assumption | apply Keeps.wr | apply Keeps.modPort | apply Keeps.emit

theorem State.wetEnd_keeps (h : Keeps s t) (n : Nat) : Keeps s (t.wetEnd n) := by
  unfold State.wetEnd
  repeat' with_reducible first
    | assumption | apply Keeps.wr | apply Keeps.raise | intro _ _ _ | intro _ _ | split

theorem State.dropPower_keeps (h : Keeps s t) (n : Nat) : Keeps s (t.dropPower n) := by
  unfold State.dropPower
  repeat' with_reducible first
    | assumption | apply Keeps.modPort | apply State.ccOpen_keeps | apply State.endContract_keeps
    | apply State.gateOff_keeps | apply State.modeExit_keeps | apply State.unwait_keeps | apply State.vconnOff_keeps
    | apply State.wetEnd_keeps

theorem State.demandFall_keeps (h : Keeps s t) (n : Nat) : Keeps s (t.demandFall n) := by
  unfold State.demandFall
  repeat' with_reducible first
    | assumption | apply Keeps.wr | apply Keeps.modPort | apply State.clearMark_keeps | apply State.discharge_keeps
    | apply State.dropPower_keeps | apply State.hubDown_keeps

theorem State.ccOn_keeps (h : Keeps s t) (n : Nat) : Keeps s (t.ccOn n) := by
  unfold State.ccOn
  repeat' with_reducible first
    | assumption | apply Keeps.wr | apply Keeps.modPort | apply Keeps.emit

theorem State.demandRise_keeps (h : Keeps s t) (n : Nat) : Keeps s (t.demandRise n) := by
  unfold State.demandRise
  repeat' with_reducible first
    | assumption | apply Keeps.raise | apply Keeps.modPort | apply State.ccOn_keeps | apply State.setHub_keeps
    | intro _ _ _ | intro _ _ | split

theorem State.oosShow_keeps (h : Keeps s t) (n : Nat) : Keeps s (t.oosShow n) := by
  unfold State.oosShow
  repeat' with_reducible first
    | assumption | apply Keeps.raise | apply Keeps.flag | intro _ _ _ | intro _ _ | split | apply Keeps.upd
    | exact rfl

theorem State.evalDemand_keeps (h : Keeps s t) (n : Nat) : Keeps s (t.evalDemand n) := by
  unfold State.evalDemand
  repeat' with_reducible first
    | assumption | apply State.demandFall_keeps | apply State.demandRise_keeps | apply State.oosShow_keeps
    | intro _ _ _ | intro _ _ | split | apply Keeps.upd | exact rfl

theorem State.resetOwnedPort_keeps (h : Keeps s t) (u n : Nat) : Keeps s (t.resetOwnedPort u n) := by
  unfold State.resetOwnedPort
  repeat' with_reducible first
    | assumption | apply Keeps.wr | apply Keeps.modPort | apply Keeps.emit | apply State.dropStale_keeps
    | apply State.evalDemand_keeps | apply State.hubDrop_keeps | apply State.setHub_keeps | intro _ _ _ | intro _ _
    | split | apply Keeps.upd | exact rfl

theorem State.resetView_keeps (h : Keeps s t) (u n : Nat) : Keeps s (t.resetView u n) := by
  unfold State.resetView
  repeat' with_reducible first
    | assumption | apply Keeps.setView

theorem State.portResets_keeps (h : Keeps s t) (u : Nat) : Keeps s (t.portResets u) := by
  unfold State.portResets
  repeat' with_reducible first
    | assumption | apply Keeps.forEach | apply Keeps.modUp | apply State.resetOwnedPort_keeps
    | apply State.resetView_keeps | intro _ _ _

theorem State.rtClear_keeps (h : Keeps s t) (u : Nat) : Keeps s (t.rtClear u) := by
  unfold State.rtClear
  repeat' with_reducible first
    | assumption | apply Keeps.forEach | apply State.rtQueue_keeps | intro _ _ _

theorem State.updAbort_keeps (h : Keeps s t) (r : Nat) : Keeps s (t.updAbort r) := by
  unfold State.updAbort
  repeat' with_reducible first
    | assumption | apply Keeps.wr | apply Keeps.flag | intro _ _ _ | intro _ _ | split | apply Keeps.upd | exact rfl

theorem State.busResetActions_keeps (h : Keeps s t) (u : Nat) : Keeps s (t.busResetActions u) := by
  unfold State.busResetActions
  repeat' with_reducible first
    | assumption | apply Keeps.modUp | apply State.ctlAbort_keeps | apply State.dropStale_keeps
    | apply State.mbxRelease_keeps | apply State.portResets_keeps | apply State.rtClear_keeps
    | apply State.updAbort_keeps

theorem State.detachPers_keeps (h : Keeps s t) (u : Nat) : Keeps s (t.detachPers u) := by
  unfold State.detachPers
  repeat' with_reducible first
    | assumption | apply Keeps.wr | apply Keeps.modUp | apply Keeps.emit | apply State.busResetActions_keeps
    | intro _ _ _ | intro _ _ | split

theorem State.targetReset_keeps (h : Keeps s t) (t_ : Nat) : Keeps s (t.targetReset t_) := by
  unfold State.targetReset
  repeat' with_reducible first
    | assumption | apply Keeps.wr | apply State.deliver_keeps | intro _ _ _ | intro _ _ | split

theorem State.engineStop_keeps (h : Keeps s t) (e : Nat) : Keeps s (t.engineStop e) := by
  unfold State.engineStop
  repeat' with_reducible first
    | assumption | apply Keeps.wr | apply Keeps.orBits | apply State.targetReset_keeps | intro _ _ _ | intro _ _
    | split | apply Keeps.upd | exact rfl

theorem State.fbiHiZ_keeps (h : Keeps s t) (n : Nat) : Keeps s (t.fbiHiZ n) := by
  unfold State.fbiHiZ
  repeat' with_reducible first
    | assumption | apply Keeps.modPort | apply Keeps.emit | intro _ _ _ | intro _ _ | split

theorem State.ringWrite_keeps (h : Keeps s t) (r : JRec) : Keeps s (t.ringWrite r) := by
  unfold State.ringWrite
  repeat' with_reducible first
    | assumption | apply Keeps.flashErase | apply Keeps.flashProgram | intro _ _ _ | intro _ _ | split
    | apply Keeps.upd | exact rfl

theorem State.ringFlush_keeps (h : Keeps s t) : Keeps s (t.ringFlush) := by
  unfold State.ringFlush
  repeat' with_reducible first
    | assumption | apply Keeps.foldl | apply State.ringWrite_keeps | intro _ _ _ | intro _ _ | split

theorem State.journal_keeps (h :
    Keeps s t) (code inst outcome slot reason arg : Nat) :
    Keeps s (t.journal code inst outcome slot reason arg) := by
  unfold State.journal
  refine State.ringFlush_keeps (Keeps.wr ?_ _ _)
  exact h.free.trans ⟨rfl, rfl, rfl, rfl, rfl, fun w => { w with journal := by simp }⟩

theorem State.safeState_keeps (h : Keeps s t) (b : FBlk) (k : Nat) : Keeps s (t.safeState b k) := by
  unfold State.safeState
  repeat' with_reducible first
    | assumption | apply Keeps.forEach | apply Keeps.foldl | apply Keeps.wr | apply State.demandFall_keeps
    | apply State.detachPers_keeps | apply State.engineStop_keeps | apply State.fbiHiZ_keeps
    | apply State.journal_keeps | intro _ _ _ | intro _ _ | split | apply Keeps.upd | exact rfl

theorem State.toTransit_keeps (h : Keeps s t) (n : Nat) : Keeps s (t.toTransit n) := by
  have h1 : Keeps s (t.dropStale (fun p => p.port == n)) := State.dropStale_keeps h _
  unfold State.toTransit
  exact Keeps.wrVoted (Keeps.wrVoted (Keeps.ite h1 (Keeps.ite (State.setEntry_keeps h1 n _) (h1.modLds n _))) _ _) _ _

theorem State.handoverRestart_keeps (h : Keeps s t) (n : Nat) : Keeps s (t.handoverRestart n) := by
  unfold State.handoverRestart
  repeat' with_reducible first
    | assumption | apply Keeps.modPort | apply State.toTransit_keeps | intro _ _ _ | intro _ _ | split

theorem State.portToImage_keeps (h : Keeps s t) (n : Nat) : Keeps s (t.portToImage n) := by
  unfold State.portToImage
  exact Keeps.flag (h.foldl _ _ (fun u f k => (k.toImage f).eraseCopy f.key)) _ _

theorem State.queueReset_keeps (h : Keeps s t) (k : Nat) : Keeps s (t.queueReset k) := by
  unfold State.queueReset
  repeat' with_reducible first
    | assumption | apply Keeps.foldl | apply Keeps.wr | apply State.dropPkt_keeps | apply State.dropStale_keeps
    | intro _ _ _

theorem State.sectorRestart_keeps (h : Keeps s t) (i : Nat) : Keeps s (t.sectorRestart i) := by
  unfold State.sectorRestart
  repeat' with_reducible first
    | assumption | apply Keeps.forEach | apply Keeps.foldl | apply Keeps.wr | apply Keeps.toImage
    | apply Keeps.modPort | apply Keeps.modSec | apply State.demandFall_keeps | apply State.discharge_keeps
    | apply State.dropPower_keeps | apply State.engineStop_keeps | apply State.handoverRestart_keeps
    | apply State.portToImage_keeps | apply State.queueReset_keeps | apply State.setHub_keeps
    | apply State.ttAndAlmanac_keeps | intro _ _ _ | intro _ _ | split

theorem State.actionEffect_keeps (h : Keeps s t) (b : FBlk) (k : Nat) : Keeps s (t.actionEffect b k) := by
  unfold State.actionEffect
  repeat' with_reducible first
    | assumption | apply Keeps.forEach | apply Keeps.wr | apply Keeps.modUp | apply Keeps.modQuad
    | apply State.countRecovery_keeps | apply State.detachPers_keeps | apply State.evalDemand_keeps
    | apply State.markOff_keeps | apply State.safeState_keeps | apply State.sectorRestart_keeps
    | apply State.targetReset_keeps | intro _ _ _ | intro _ _ | split

theorem State.faultPin_keeps (h : Keeps s t) (sev : Nat) : Keeps s (t.faultPin sev) := by
  unfold State.faultPin
  repeat' with_reducible first
    | assumption | apply Keeps.raise | apply Keeps.emit | intro _ _ _ | intro _ _ | split | apply Keeps.upd
    | exact rfl

theorem State.takeAction_keeps (h : Keeps s t) (b : FBlk) (k sev : Nat) : Keeps s (t.takeAction b k sev) := by
  unfold State.takeAction
  repeat' with_reducible first
    | assumption | apply Keeps.wr | apply Keeps.raise | apply Keeps.modFlt | apply State.actionEffect_keeps
    | apply State.faultPin_keeps | intro _ _ _ | intro _ _ | split

theorem State.record_keeps (h : Keeps s t) (b : FBlk) (k : Nat) : Keeps s (t.record b k) := by
  unfold State.record
  repeat' with_reducible first
    | assumption | apply Keeps.wr | apply Keeps.modFlt | apply State.recordOnly_keeps | apply State.takeAction_keeps
    | intro _ _ _ | intro _ _ | split | apply Keeps.upd | exact rfl

theorem State.condBegin_keeps (h : Keeps s t) (b : FBlk) (k : Nat) : Keeps s (t.condBegin b k) := by
  unfold State.condBegin
  repeat' with_reducible first
    | assumption | apply Keeps.modFlt | apply State.record_keeps

theorem State.lineCheck_keeps (h : Keeps s t) (t_ : Nat) : Keeps s (t.lineCheck t_) := by
  unfold State.lineCheck
  repeat' with_reducible first
    | assumption | apply Keeps.wr | intro _ _ _ | intro _ _ | split

theorem State.handoverRelease_keeps (h : Keeps s t) (n : Nat) : Keeps s (t.handoverRelease n) := by
  unfold State.handoverRelease
  repeat' with_reducible first
    | assumption | apply Keeps.modPort | intro _ _ _ | intro _ _ | split

theorem State.attachPers_keeps (h : Keeps s t) (u : Nat) : Keeps s (t.attachPers u) := by
  unfold State.attachPers
  repeat' with_reducible first
    | assumption | apply Keeps.wr | apply Keeps.raise | apply Keeps.emit | intro _ _ _ | intro _ _ | split

theorem State.recordPresent_keeps (h : Keeps s t) (b : FBlk) : Keeps s (t.recordPresent b) := by
  unfold State.recordPresent
  repeat' with_reducible first
    | assumption | apply Keeps.forEach | apply State.record_keeps | intro _ _ _

theorem State.leaveTo_keeps (h : Keeps s t) (n st : Nat) : Keeps s (t.leaveTo n st) := by
  unfold State.leaveTo
  repeat' with_reducible first
    | assumption | apply Keeps.modPort | apply State.setHub_keeps

theorem State.mtrPause_keeps (h : Keeps s t) (n : Nat) : Keeps s (t.mtrPause n) := by
  unfold State.mtrPause
  repeat' with_reducible first
    | assumption | apply Keeps.modPort

theorem State.withdrawEntry_keeps (h : Keeps s t) (n k : Nat) : Keeps s (t.withdrawEntry n k) := by
  unfold State.withdrawEntry
  repeat' with_reducible first
    | assumption | apply Keeps.bump | apply Keeps.setAlm | apply State.restrand_keeps | intro _ _ _ | intro _ _
    | split | apply Keeps.upd | exact rfl

theorem State.freeAddr_keeps (h : Keeps s t) (n a : Nat) : Keeps s (t.freeAddr n a) := by
  unfold State.freeAddr
  repeat' with_reducible first
    | assumption | apply Keeps.forEach | apply Keeps.setAlm | apply State.restrand_keeps
    | apply State.withdrawEntry_keeps | intro _ _ _

theorem State.iqPush_keeps (h : Keeps s t) (k : Nat) (ws : List Nat) : Keeps s (t.iqPush k ws) := by
  unfold State.iqPush
  repeat' with_reducible first
    | assumption | apply Keeps.foldl | apply Keeps.wr | apply Keeps.modSw

theorem State.iqThrough_keeps (h : Keeps s t) (k : Nat) (bs : List Byte) : Keeps s (t.iqThrough k bs) := by
  unfold State.iqThrough
  repeat' with_reducible first
    | assumption | apply State.iqPop_keeps | apply State.iqPush_keeps

theorem State.iqPass_keeps (h : Keeps s t) (k : Nat) (bs : List Byte) : Keeps s (t.iqPass k bs) := by
  unfold State.iqPass
  repeat' with_reducible first
    | assumption | apply Keeps.modSw | apply State.iqThrough_keeps

theorem State.errorRecovery_keeps (h : Keeps s t) (n : Nat) : Keeps s (t.errorRecovery n) := by
  unfold State.errorRecovery
  repeat' with_reducible first
    | assumption | apply Keeps.wr | apply Keeps.raise | apply Keeps.modPort | apply State.clearMark_keeps
    | apply State.discharge_keeps | apply State.dropPower_keeps | apply State.vbusLoss_keeps | intro _ _ _
    | intro _ _ | split

theorem State.dropChanges_keeps (h : Keeps s t) (n : Nat) : Keeps s (t.dropChanges n) := by
  unfold State.dropChanges
  repeat' with_reducible first
    | assumption | apply Keeps.foldl | apply Keeps.wr | apply Keeps.modPort | intro _ _ _

theorem State.portRestart_keeps (h : Keeps s t) (n : Nat) : Keeps s (t.portRestart n) := by
  unfold State.portRestart
  repeat' with_reducible first
    | assumption | apply Keeps.modPort | apply State.demandFall_keeps | apply State.discharge_keeps
    | apply State.dropChanges_keeps | apply State.dropPower_keeps | apply State.handoverRestart_keeps
    | apply State.queueReset_keeps | apply State.setHub_keeps | apply State.ttAndAlmanac_keeps | intro _ _ _
    | intro _ _ | split

theorem State.engineRun_keeps (h : Keeps s t) (e : Nat) : Keeps s (t.engineRun e) := by
  unfold State.engineRun
  repeat' with_reducible first
    | assumption | apply Keeps.raise | intro _ _ _ | intro _ _ | split | apply Keeps.upd | exact rfl

theorem State.condEnd_keeps (h : Keeps s t) (b : FBlk) (k : Nat) : Keeps s (t.condEnd b k) := by
  unfold State.condEnd
  repeat' with_reducible first
    | assumption | apply Keeps.modFlt

theorem State.ldsConnect_keeps (h : Keeps s t) (n time : Nat) : Keeps s (t.ldsConnect n time) := by
  unfold State.ldsConnect
  repeat' with_reducible first
    | assumption | apply Keeps.modLds | apply State.setEntry_keeps | intro _ _ _ | intro _ _ | split
    | apply Keeps.upd | exact rfl

theorem State.detach_keeps (h : Keeps s t) (n : Nat) : Keeps s (t.detach n) := by
  unfold State.detach
  repeat' with_reducible first
    | assumption | apply Keeps.wr | apply Keeps.raise | apply Keeps.modPort | apply State.clearMark_keeps
    | apply State.discharge_keeps | apply State.endContract_keeps | apply State.gateOff_keeps
    | apply State.modeExit_keeps | apply State.unwait_keeps | apply State.vbusLoss_keeps
    | apply State.vconnOff_keeps | apply State.wetEnd_keeps

theorem State.ldsAttach_keeps (h : Keeps s t) (n : Nat) : Keeps s (t.ldsAttach n) := by
  unfold State.ldsAttach
  repeat' with_reducible first
    | assumption | apply State.clockUs_keeps | apply State.ldsConnect_keeps | intro _ _ _ | intro _ _ | split

theorem State.ldsRelease_keeps (h : Keeps s t) (n : Nat) : Keeps s (t.ldsRelease n) := by
  unfold State.ldsRelease
  repeat' with_reducible first
    | assumption | apply Keeps.modLds | apply State.clockUs_keeps | apply State.edgeAtMeridian_keeps
    | apply State.setEntry_keeps | intro _ _ _ | intro _ _ | split

end Sys2Proof.Machine
end

