-- ==== Sys2Proof/Laws/KeepsPower.lean ====
section
/-! SUPPORT. One lemma per operation of Type-C, the power budget, the e-fuse and Power Delivery: it keeps what every
operation keeps. -/

namespace Sys2Proof.Machine

variable {s t : State}

theorem State.queueAms_keeps (h : Keeps s t) (n : Nat) (a : Ams) : Keeps s (t.queueAms n a) := by
  unfold State.queueAms
  repeat' with_reducible first
    | assumption | apply Keeps.wr | apply Keeps.modPort | intro _ _ _ | intro _ _ | split | apply Keeps.upd
    | exact rfl

theorem State.readvertise_keeps (h : Keeps s t) (n : Nat) (paced : Bool) : Keeps s (t.readvertise n paced) := by
  unfold State.readvertise
  repeat' with_reducible first
    | assumption | apply Keeps.modPort | apply State.queueAms_keeps | intro _ _ _ | intro _ _ | split

theorem State.recomputeAllowances_keeps (h : Keeps s t) : Keeps s (t.recomputeAllowances) := by
  unfold State.recomputeAllowances
  repeat' with_reducible first
    | assumption | apply Keeps.forEach | apply Keeps.wr | apply State.readvertise_keeps | intro _ _ _ | intro _ _
    | split | apply Keeps.upd | exact rfl

theorem State.setIset_keeps (h : Keeps s t) (n : Nat) : Keeps s (t.setIset n) := by
  unfold State.setIset
  repeat' with_reducible first
    | assumption | apply Keeps.wr | intro _ _ _ | intro _ _ | split

theorem State.rpFollow_keeps (h : Keeps s t) (n : Nat) : Keeps s (t.rpFollow n) := by
  unfold State.rpFollow
  repeat' with_reducible first
    | assumption | apply Keeps.wr | apply State.setC_keeps | apply State.setIset_keeps | apply State.setK_keeps
    | intro _ _ _ | intro _ _ | split | apply Keeps.upd | exact rfl

theorem State.grantV5_keeps (h : Keeps s t) (n : Nat) : Keeps s (t.grantV5 n) := by
  unfold State.grantV5
  repeat' with_reducible first
    | assumption | apply Keeps.wr | apply Keeps.modPort | apply Keeps.emit | apply State.fbiDrive_keeps
    | apply State.setIset_keeps | apply State.setK_keeps | apply State.vconnOn_keeps | intro _ _ _ | intro _ _
    | split | apply Keeps.upd | exact rfl

theorem State.serveAsk_keeps (h : Keeps s t) (n : Nat) : Keeps s (t.serveAsk n) := by
  unfold State.serveAsk
  repeat' with_reducible first
    | assumption | apply Keeps.raise | apply State.grantV5_keeps | intro _ _ _ | intro _ _ | split

theorem State.serveList_keeps (l : List Nat) (h : Keeps s t) : Keeps s (t.serveList l) := by
  induction l generalizing t with
  | nil => exact h
  | cons n l ih =>
    unfold State.serveList
    split
    · exact ih (State.grantV5_keeps h n)
    · exact h

theorem State.serveWaiting_keeps (h : Keeps s t) : Keeps s (t.serveWaiting) := by
  unfold State.serveWaiting
  repeat' with_reducible first
    | assumption | apply State.serveList_keeps | intro _ _ _ | intro _ _ | split

theorem State.reduce_keeps (h : Keeps s t) (n a : Nat) : Keeps s (t.reduce n a) := by
  unfold State.reduce
  repeat' with_reducible first
    | assumption | apply Keeps.wr | apply State.readvertise_keeps | apply State.rpFollow_keeps | intro _ _ _
    | intro _ _ | split | apply Keeps.upd | exact rfl

theorem State.walkReduce_keeps (l : List Nat) (h : Keeps s t) : Keeps s (t.walkReduce l) := by
  induction l generalizing t with
  | nil => exact h
  | cons n l ih =>
    unfold State.walkReduce
    extract_lets
    split
    · exact ih (State.reduce_keeps h n _)
    · exact ih h

theorem State.walkOff_keeps (l : List Nat) (h : Keeps s t) : Keeps s (t.walkOff l) := by
  induction l generalizing t with
  | nil => exact h
  | cons n l ih =>
    unfold State.walkOff
    split
    · exact ih (State.peMarkOff_keeps h n)
    · exact ih h

theorem State.walkFail_keeps (q : Nat) (l : List Nat) (h : Keeps s t) : Keeps s (t.walkFail q l) := by
  induction l generalizing t with
  | nil => exact h
  | cons n l ih =>
    unfold State.walkFail
    extract_lets
    split
    · exact h
    split
    · exact ih h
    · exact ih (State.peMarkOff_keeps h n)

theorem State.unmark_keeps (h : Keeps s t) (n : Nat) : Keeps s (t.unmark n) := by
  unfold State.unmark
  repeat' with_reducible first
    | assumption | apply State.clearMark_keeps | apply State.rpFollow_keeps | apply State.tryApply_keeps
    | intro _ _ _ | intro _ _ | split

theorem State.endMarks_keeps (h : Keeps s t) (l : List Nat) : Keeps s (t.endMarks l) := by
  unfold State.endMarks
  repeat' with_reducible first
    | assumption | apply Keeps.forEach | apply Keeps.raise | apply Keeps.modQuad | apply State.unmark_keeps
    | intro _ _ _ | intro _ _ | split | apply Keeps.upd | exact rfl

theorem State.poolEffect_keeps (h : Keeps s t) : Keeps s (t.poolEffect) := by
  unfold State.poolEffect
  repeat' with_reducible first
    | assumption | apply State.endMarks_keeps | intro _ _ _ | intro _ _ | split | apply Keeps.upd | exact rfl

theorem State.qcapEffect_keeps (h : Keeps s t) (q : Nat) : Keeps s (t.qcapEffect q) := by
  unfold State.qcapEffect
  repeat' with_reducible first
    | assumption | apply Keeps.modQuad | apply State.endMarks_keeps | intro _ _ _ | intro _ _ | split
    | apply Keeps.upd | exact rfl

theorem State.pmaxShed_keeps (h : Keeps s t) (n : Nat) : Keeps s (t.pmaxShed n) := by
  unfold State.pmaxShed
  repeat' with_reducible first
    | assumption | apply Keeps.raise | apply State.reduce_keeps | intro _ _ _ | intro _ _ | split | apply Keeps.upd
    | exact rfl

theorem State.pcfgEffect_keeps (h : Keeps s t) (n : Nat) : Keeps s (t.pcfgEffect n) := by
  unfold State.pcfgEffect
  repeat' with_reducible first
    | assumption | apply Keeps.wr | apply State.clearMark_keeps | apply State.pmaxShed_keeps
    | apply State.readvertise_keeps | apply State.rpFollow_keeps | intro _ _ _ | intro _ _ | split | apply Keeps.upd
    | exact rfl

theorem State.alertQuad_keeps (h : Keeps s t) (q : Nat) : Keeps s (t.alertQuad q) := by
  unfold State.alertQuad
  repeat' with_reducible first
    | assumption | apply Keeps.forEach | apply State.queueAms_keeps | intro _ _ _ | intro _ _ | split

theorem State.dieShed_keeps (h : Keeps s t) (q : Nat) : Keeps s (t.dieShed q) := by
  unfold State.dieShed
  repeat' with_reducible first
    | assumption | apply Keeps.forEach | apply Keeps.modQuad | apply State.markOff_keeps | apply State.record_keeps
    | intro _ _ _

theorem State.trip_keeps (h : Keeps s t) (n cause : Nat) : Keeps s (t.trip n cause) := by
  unfold State.trip
  repeat' with_reducible first
    | assumption | apply Keeps.wr | apply Keeps.raise | apply Keeps.bump | apply Keeps.modPort | apply Keeps.hubEvt
    | apply State.powerCut_keeps

theorem State.latchOff_keeps (h : Keeps s t) (n : Nat) : Keeps s (t.latchOff n) := by
  unfold State.latchOff
  repeat' with_reducible first
    | assumption | apply Keeps.raise | apply Keeps.modPort

theorem State.rearmEffect_keeps (h : Keeps s t) (n : Nat) : Keeps s (t.rearmEffect n) := by
  unfold State.rearmEffect
  repeat' with_reducible first
    | assumption | apply Keeps.wr | apply Keeps.raise | apply Keeps.modPort | intro _ _ _ | intro _ _ | split
    | apply Keeps.upd | exact rfl

theorem State.fbicapEffect_keeps (h : Keeps s t) (q : Nat) : Keeps s (t.fbicapEffect q) := by
  unfold State.fbicapEffect
  repeat' with_reducible first
    | assumption | apply Keeps.forEach | apply State.errorRecovery_keeps | apply State.readvertise_keeps
    | intro _ _ _ | intro _ _ | split

theorem State.dsroleEffect_keeps (h : Keeps s t) (n : Nat) : Keeps s (t.dsroleEffect n) := by
  unfold State.dsroleEffect
  repeat' with_reducible first
    | assumption | apply Keeps.wr | apply Keeps.modPort | apply State.pdForget_keeps | intro _ _ _ | intro _ _
    | split | apply Keeps.upd | exact rfl

theorem State.kickEffect_keeps (h : Keeps s t) (n : Nat) : Keeps s (t.kickEffect n) := by
  unfold State.kickEffect
  repeat' with_reducible first
    | assumption | apply State.modeExit_keeps | apply State.queueAms_keeps | intro _ _ _ | intro _ _ | split

theorem State.hardReset_keeps (h : Keeps s t) (n : Nat) (sent : Bool) : Keeps s (t.hardReset n sent) := by
  unfold State.hardReset
  repeat' with_reducible first
    | assumption | apply Keeps.wr | apply Keeps.bump | apply Keeps.orBits | apply Keeps.modPort | apply Keeps.emit
    | apply State.endContract_keeps | apply State.handoverRestart_keeps | apply State.modeExit_keeps
    | apply State.pdForget_keeps | apply State.setC_keeps | apply State.setIset_keeps | apply State.vconnOff_keeps
    | intro _ _ _ | intro _ _ | split

theorem State.rpSettle_keeps (h : Keeps s t) (n : Nat) : Keeps s (t.rpSettle n) := by
  unfold State.rpSettle
  repeat' with_reducible first
    | assumption | apply Keeps.wr | apply State.rpFollow_keeps | intro _ _ _ | intro _ _ | split

theorem State.pdenEffect_keeps (h : Keeps s t) (n : Nat) : Keeps s (t.pdenEffect n) := by
  unfold State.pdenEffect
  repeat' with_reducible first
    | assumption | apply Keeps.modPort | apply State.errorRecovery_keeps | apply State.pdForget_keeps
    | apply State.rpSettle_keeps | intro _ _ _ | intro _ _ | split

theorem State.upUnattached_keeps (h : Keeps s t) (u : Nat) : Keeps s (t.upUnattached u) := by
  unfold State.upUnattached
  repeat' with_reducible first
    | assumption | apply Keeps.wr | apply Keeps.modUp

theorem State.upRoleEffect_keeps (h : Keeps s t) (u : Nat) : Keeps s (t.upRoleEffect u) := by
  unfold State.upRoleEffect
  repeat' with_reducible first
    | assumption | apply Keeps.modUp | apply State.upUnattached_keeps | intro _ _ _ | intro _ _ | split
    | apply Keeps.upd | exact rfl

theorem State.sendCaps_keeps (h : Keeps s t) (n : Nat) : Keeps s (t.sendCaps n) := by
  unfold State.sendCaps
  repeat' with_reducible first
    | assumption | apply Keeps.modPort | apply Keeps.emit | intro _ _ _ | intro _ _ | split

theorem State.hresetRun_keeps (h : Keeps s t) (n : Nat) : Keeps s (t.hresetRun n) := by
  unfold State.hresetRun
  repeat' with_reducible first
    | assumption | apply Keeps.modPort | apply State.hardReset_keeps | intro _ _ _ | intro _ _ | split

theorem State.rejectReq_keeps (h : Keeps s t) (n : Nat) : Keeps s (t.rejectReq n) := by
  unfold State.rejectReq
  repeat' with_reducible first
    | assumption | apply Keeps.bump | apply Keeps.orBits | apply Keeps.emit | apply State.rpSettle_keeps

theorem State.evalRequest_keeps (h : Keeps s t) (n : Nat) (r : PdReq) : Keeps s (t.evalRequest n r) := by
  unfold State.evalRequest
  repeat' with_reducible first
    | assumption | apply Keeps.bump | apply Keeps.modPort | apply Keeps.emit | apply State.rejectReq_keeps
    | apply State.rpSettle_keeps | apply State.setK_keeps | intro _ _ _ | intro _ _ | split | apply Keeps.upd
    | exact rfl

theorem State.swapDone_keeps (h : Keeps s t) (n : Nat) : Keeps s (t.swapDone n) := by
  unfold State.swapDone
  repeat' with_reducible first
    | assumption | apply Keeps.bump | apply Keeps.orBits | apply Keeps.modPort

theorem State.swapBecome_keeps (h : Keeps s t) (n : Nat) : Keeps s (t.swapBecome n) := by
  unfold State.swapBecome
  repeat' with_reducible first
    | assumption | apply Keeps.emit | apply State.swapDone_keeps | apply State.vconnOn_keeps

theorem State.sopRun_keeps (h : Keeps s t) (n : Nat) : Keeps s (t.sopRun n) := by
  unfold State.sopRun
  repeat' with_reducible first
    | assumption | apply Keeps.modPort | apply Keeps.emit | intro _ _ _ | intro _ _ | split

theorem State.swapSend_keeps (h : Keeps s t) (n : Nat) : Keeps s (t.swapSend n) := by
  unfold State.swapSend
  repeat' with_reducible first
    | assumption | apply Keeps.modPort | apply Keeps.emit | intro _ _ _ | intro _ _ | split

theorem State.amsRun_keeps (h : Keeps s t) (n : Nat) : Keeps s (t.amsRun n) := by
  unfold State.amsRun
  repeat' with_reducible first
    | assumption | apply Keeps.bump | apply Keeps.orBits | apply Keeps.modPort | apply Keeps.emit
    | apply State.hardReset_keeps | apply State.sendCaps_keeps | apply State.swapSend_keeps | intro _ _ _
    | intro _ _ | split

theorem State.notSupported_keeps (h : Keeps s t) (n : Nat) : Keeps s (t.notSupported n) := by
  unfold State.notSupported
  repeat' with_reducible first
    | assumption | apply Keeps.emit

theorem State.enterMode_keeps (h : Keeps s t) (n svid pos : Nat) : Keeps s (t.enterMode n svid pos) := by
  unfold State.enterMode
  repeat' with_reducible first
    | assumption | apply Keeps.raise | apply Keeps.bump | apply Keeps.orBits | apply Keeps.emit
    | apply State.setQuadHold_keeps | intro _ _ _ | intro _ _ | split

theorem State.exitMode_keeps (h : Keeps s t) (n svid : Nat) : Keeps s (t.exitMode n svid) := by
  unfold State.exitMode
  repeat' with_reducible first
    | assumption | apply Keeps.modPort | apply Keeps.emit | apply State.modeExit_keeps | intro _ _ _ | intro _ _
    | split

theorem State.vconnSwapRx_keeps (h : Keeps s t) (n : Nat) : Keeps s (t.vconnSwapRx n) := by
  unfold State.vconnSwapRx
  repeat' with_reducible first
    | assumption | apply Keeps.modPort | apply Keeps.emit | apply State.rpSettle_keeps
    | apply State.swapBecome_keeps | intro _ _ _ | intro _ _ | split | apply Keeps.upd | exact rfl

theorem State.answer_keeps (h : Keeps s t) (n : Nat) (m : PdRx) : Keeps s (t.answer n m) := by
  unfold State.answer
  repeat' with_reducible first
    | assumption | apply Keeps.wr | apply Keeps.orBits | apply Keeps.modPort | apply Keeps.emit
    | apply State.enterMode_keeps | apply State.evalRequest_keeps | apply State.exitMode_keeps
    | apply State.hardReset_keeps | apply State.notSupported_keeps | apply State.rpSettle_keeps
    | apply State.sendCaps_keeps | apply State.sopRun_keeps | apply State.swapBecome_keeps
    | apply State.swapDone_keeps | apply State.vconnOff_keeps | apply State.vconnSwapRx_keeps | intro _ _ _
    | intro _ _ | split

theorem State.answerSink_keeps (h : Keeps s t) (n : Nat) (m : PdRx) : Keeps s (t.answerSink n m) := by
  unfold State.answerSink
  repeat' with_reducible first
    | assumption | apply Keeps.emit | apply State.hardReset_keeps | apply State.notSupported_keeps
    | apply State.swapDone_keeps | apply State.vconnOff_keeps | apply State.vconnSwapRx_keeps | intro _ _ _
    | intro _ _ | split

theorem State.handle_keeps (h : Keeps s t) (n : Nat) (m : PdRx) : Keeps s (t.handle n m) := by
  unfold State.handle
  repeat' with_reducible first
    | assumption | apply State.answer_keeps | apply State.answerSink_keeps | apply State.hardReset_keeps
    | intro _ _ _ | intro _ _ | split

theorem State.receive_keeps (h : Keeps s t) (n : Nat) (m : PdRx) : Keeps s (t.receive n m) := by
  unfold State.receive
  repeat' with_reducible first
    | assumption | apply Keeps.modPort | apply Keeps.emit | apply State.handle_keeps | apply State.hardReset_keeps
    | intro _ _ _ | intro _ _ | split

theorem State.deliverStored_keeps (h : Keeps s t) (n : Nat) : Keeps s (t.deliverStored n) := by
  unfold State.deliverStored
  repeat' with_reducible first
    | assumption | apply Keeps.foldl | apply Keeps.modPort | apply State.handle_keeps | intro _ _ _

theorem State.attachSource_keeps (h : Keeps s t) (n : Nat) (cc2 ra : Bool) : Keeps s (t.attachSource n cc2 ra) := by
  unfold State.attachSource
  repeat' with_reducible first
    | assumption | apply Keeps.wr | apply Keeps.raise | apply Keeps.modPort | apply State.tryApply_keeps

theorem State.upSink_keeps (h : Keeps s t) (u : Nat) : Keeps s (t.upSink u) := by
  unfold State.upSink
  repeat' with_reducible first
    | assumption | apply Keeps.wr | apply Keeps.modUp

theorem State.upSeen_keeps (h : Keeps s t) (u : Nat) (sight : Sys2Proof.CcSight) : Keeps s (t.upSeen u sight) := by
  unfold State.upSeen
  repeat' with_reducible first
    | assumption | apply Keeps.wr | apply Keeps.modUp | intro _ _ _ | intro _ _ | split

theorem State.upDebounced_keeps (h : Keeps s t) (u : Nat) : Keeps s (t.upDebounced u) := by
  unfold State.upDebounced
  repeat' with_reducible first
    | assumption | apply Keeps.wr | apply Keeps.modUp | apply State.upSink_keeps | intro _ _ _ | intro _ _ | split

theorem State.upTryDebounced_keeps (h : Keeps s t) (u : Nat) (cc2 : Bool) (cur : Nat) :
    Keeps s (t.upTryDebounced u cc2 cur) := by
  unfold State.upTryDebounced
  repeat' with_reducible first
    | assumption | apply Keeps.wr | apply Keeps.raise | apply State.upSink_keeps | intro _ _ _ | intro _ _ | split

end Sys2Proof.Machine
end

