-- ==== Sys2Proof/Laws/KeepsHub.lean ====
section
/-! SUPPORT. One lemma per operation of hub requests, the personalities, the transaction translators and Meteor: it keeps what every
operation keeps. -/

namespace Sys2Proof.Machine

variable {s t : State}

theorem State.enEffect_keeps (h : Keeps s t) (u : Nat) : Keeps s (t.enEffect u) := by
  unfold State.enEffect
  repeat' with_reducible first
    | assumption | apply State.attachPers_keeps | apply State.detachPers_keeps | intro _ _ _ | intro _ _ | split

theorem State.almclrEffect_keeps (h : Keeps s t) (n : Nat) : Keeps s (t.almclrEffect n) := by
  unfold State.almclrEffect
  repeat' with_reducible first
    | assumption | apply State.almClear_keeps | apply State.withdrawAll_keeps

theorem State.almenEffect_keeps (h : Keeps s t) (n : Nat) : Keeps s (t.almenEffect n) := by
  unfold State.almenEffect
  repeat' with_reducible first
    | assumption | apply State.almclrEffect_keeps | intro _ _ _ | intro _ _ | split

theorem State.prstrtEffect_keeps (h : Keeps s t) (n : Nat) : Keeps s (t.prstrtEffect n) := by
  unfold State.prstrtEffect
  repeat' with_reducible first
    | assumption | apply State.portRestart_keeps | apply State.record_keeps

theorem State.ans_keeps (h : Keeps s t) (u : Nat) (ok : Bool) : Keeps s (t.ans u ok) := by
  unfold State.ans
  repeat' with_reducible first
    | assumption | apply Keeps.emit

theorem State.dataAns_keeps (h : Keeps s t) (u : Nat) (d : Option (List Byte)) (len : Nat) :
    Keeps s (t.dataAns u d len) := by
  unfold State.dataAns
  repeat' with_reducible first
    | assumption | apply Keeps.emit

theorem State.newSetup_keeps (h : Keeps s t) (u : Nat) : Keeps s (t.newSetup u) := by
  unfold State.newSetup
  repeat' with_reducible first
    | assumption | apply Keeps.modUp | apply State.ctlAbort_keeps

theorem State.stdReq_keeps (h : Keeps s t) (u : Nat) (act : State → State) (rescue : State → State)
    (h_act : ∀ u, Keeps s u → Keeps s (act u)) (h_rescue : ∀ u, Keeps s u → Keeps s (rescue u)) :
    Keeps s (t.stdReq u act rescue) := by
  unfold State.stdReq
  repeat' with_reducible first
    | assumption | apply h_rescue | apply h_act | apply State.newSetup_keeps | intro _ _ _ | intro _ _ | split
    | apply Keeps.upd | exact rfl

theorem State.getDesc_keeps (h : Keeps s t) (u wValue len : Nat) : Keeps s (t.getDesc u wValue len) := by
  unfold State.getDesc
  repeat' with_reducible first
    | assumption | apply State.dataAns_keeps | apply State.stdReq_keeps | intro _ _ _ | intro _ _

theorem State.getSts_keeps (h : Keeps s t) (u len : Nat) : Keeps s (t.getSts u len) := by
  unfold State.getSts
  repeat' with_reducible first
    | assumption | apply State.dataAns_keeps | apply State.stdReq_keeps | intro _ _ _ | intro _ _

theorem State.rescState_keeps (h : Keeps s t) (d a : Nat) : Keeps s (t.rescState d a) := by
  unfold State.rescState
  repeat' with_reducible first
    | assumption | intro _ _ _ | intro _ _ | split | apply Keeps.upd | exact rfl

theorem State.setAddr_keeps (h : Keeps s t) (u a : Nat) : Keeps s (t.setAddr u a) := by
  unfold State.setAddr
  repeat' with_reducible first
    | assumption | apply Keeps.wr | apply State.ans_keeps | apply State.rescState_keeps | apply State.stdReq_keeps
    | intro _ _ _ | intro _ _ | split

theorem State.setConfig_keeps (h : Keeps s t) (u c : Nat) : Keeps s (t.setConfig u c) := by
  unfold State.setConfig
  repeat' with_reducible first
    | assumption | apply Keeps.wr | apply Keeps.raise | apply Keeps.modUp | apply State.ans_keeps
    | apply State.portResets_keeps | apply State.rescState_keeps | apply State.stdReq_keeps | intro _ _ _
    | intro _ _ | split | apply Keeps.upd | exact rfl

theorem State.setIface_keeps (h : Keeps s t) (u a : Nat) : Keeps s (t.setIface u a) := by
  unfold State.setIface
  repeat' with_reducible first
    | assumption | apply Keeps.forEach | apply Keeps.wr | apply Keeps.raise | apply Keeps.modUp
    | apply State.ans_keeps | apply State.stdReq_keeps | apply State.ttReset_keeps | intro _ _ _ | intro _ _ | split

theorem State.testMode_keeps (h : Keeps s t) (u sel : Nat) : Keeps s (t.testMode u sel) := by
  have hn : Keeps s (t.newSetup u) := State.newSetup_keeps h u
  have ha : ∀ b, Keeps s ((t.newSetup u).ans u b) := fun b => State.ans_keeps hn u b
  unfold State.testMode
  refine Keeps.ite (State.stdReq_keeps h u _ _ (fun _ k => k) (fun _ k => State.ans_keeps k u false)) (Keeps.ite ?_ h)
  exact Keeps.ite ((((ha true).wr _ _).emit _).modUp _ _) (ha false)

theorem State.takeSizes_keeps (h : Keeps s t) (n : Nat) (l : List (Key × Nat)) : Keeps s (t.takeSizes n l) := by
  unfold State.takeSizes
  repeat' with_reducible first
    | assumption | apply Keeps.modPort

theorem State.ctlDone_keeps (h : Keeps s t) (u n adr : Nat) (r : Setup) (got : List Byte) :
    Keeps s (t.ctlDone u n adr r got) := by
  unfold State.ctlDone
  repeat' with_reducible first
    | assumption | apply Keeps.modPort | apply Keeps.modUp | apply Keeps.setAlm | apply State.freeAddr_keeps
    | apply State.rtQueue_keeps | apply State.takeSizes_keeps | apply State.withdrawEntry_keeps
    | apply State.withdrawSlots_keeps | intro _ _ _ | intro _ _ | split | apply Keeps.upd | exact rfl

theorem State.almMiss_keeps (h : Keeps s t) (n i k : Nat) : Keeps s (t.almMiss n i k) := by
  unfold State.almMiss
  repeat' with_reducible first
    | assumption | apply Keeps.bump | apply Keeps.modPort | apply Keeps.setAlm | intro _ _ _ | intro _ _ | split
    | apply Keeps.upd | exact rfl

theorem State.almWindow_keeps (h : Keeps s t) (n i m : Nat) : Keeps s (t.almWindow n i m) := by
  unfold State.almWindow
  extract_lets e0 past e s1
  have h1 : Keeps s s1 := Keeps.ite (h.setAlm _ _ _) h
  refine Keeps.ite h1 ?_
  extract_lets
  refine Keeps.ite (h1.setAlm _ _ _) (Keeps.ite (h1.setAlm _ _ _) (Keeps.ite ?_ h1))
  exact Keeps.ite ((h1.setAlm _ _ _).bump _ _) (h1.setAlm _ _ _)

theorem State.portSof_keeps (h : Keeps s t) (n m : Nat) : Keeps s (t.portSof n m) := by
  unfold State.portSof
  repeat' with_reducible first
    | assumption | apply Keeps.forEach | apply Keeps.modPort | apply State.almMiss_keeps
    | apply State.almWindow_keeps | intro _ _ _ | intro _ _ | split | apply Keeps.upd | exact rfl

theorem State.sendLed_keeps (h : Keeps s t) (i : Nat) : Keeps s (t.sendLed i) := by
  unfold State.sendLed
  repeat' with_reducible first
    | assumption | apply Keeps.forEach | apply Keeps.wr | apply Keeps.modSec | apply Keeps.emit | intro _ _ _

theorem State.almSee_keeps (h : Keeps s t) (n m : Nat) (k : Key) (iso low hub : Bool) :
    Keeps s (t.almSee n m k iso low hub) := by
  unfold State.almSee
  repeat' with_reducible first
    | assumption | apply Keeps.bump | apply Keeps.setAlm | apply Keeps.free | intro _ _ _ | intro _ _ | split
    | apply Keeps.upd | exact rfl

theorem State.holdBegin_keeps (h : Keeps s t) (n a ep m : Nat) (r : Setup) : Keeps s (t.holdBegin n a ep m r) := by
  unfold State.holdBegin
  repeat' with_reducible first
    | assumption | apply Keeps.modPort

theorem State.holdTouch_keeps (h : Keeps s t) (n a ep m : Nat) : Keeps s (t.holdTouch n a ep m) := by
  unfold State.holdTouch
  repeat' with_reducible first
    | assumption | apply Keeps.modPort | intro _ _ _ | intro _ _ | split

theorem State.ctlAnswer_keeps (h : Keeps s t) (u n : Nat) (bf : NpBuf) (h_ : Held) : Keeps s (t.ctlAnswer u n bf h_) := by
  unfold State.ctlAnswer
  repeat' with_reducible first
    | assumption | apply Keeps.modPort | apply State.ctlDone_keeps | apply State.holdEnd_keeps | intro _ _ _
    | intro _ _ | split | apply Keeps.upd | exact rfl

theorem State.wireFree_keeps (h : Keeps s t) (n : Nat) : Keeps s (t.wireFree n) := by
  unfold State.wireFree
  repeat' with_reducible first
    | assumption | apply Keeps.raise | apply Keeps.modPort | apply State.mtrPause_keeps | intro _ _ _ | intro _ _
    | split

theorem State.stopTt_keeps (h : Keeps s t) (n : Nat) : Keeps s (t.stopTt n) := by
  unfold State.stopTt
  repeat' with_reducible first
    | assumption | apply Keeps.modPort | apply State.wireFree_keeps

theorem State.badIn_keeps (h : Keeps s t) (r : Nat) : Keeps s (t.badIn r) := by
  unfold State.badIn
  repeat' with_reducible first
    | assumption | apply Keeps.bump | apply Keeps.free

theorem State.almToggle_keeps (h : Keeps s t) (n : Nat) (k : Key) (pid : Nat) : Keeps s (t.almToggle n k pid) := by
  unfold State.almToggle
  repeat' with_reducible first
    | assumption | apply Keeps.setAlm | intro _ _ _ | intro _ _ | split

theorem State.pipe_keeps (n a : Nat) (l : List PerRec) (h : Keeps s t) : Keeps s (t.pipe n a l) := by
  induction l generalizing t with
  | nil => exact h
  | cons r l ih =>
    unfold State.pipe
    split
    · exact (h.emit _).modPort _ _
    · exact ih ((h.bump _ _).modPort _ _)

theorem State.clearTt_keeps (h : Keeps s t) (n v : Nat) : Keeps s (t.clearTt n v) := by
  unfold State.clearTt
  repeat' with_reducible first
    | assumption | apply Keeps.modPort | apply State.holdEnd_keeps | intro _ _ _ | intro _ _ | split
    | apply Keeps.upd | exact rfl

theorem State.hubReq_keeps (h : Keeps s t) (u : Nat) (inAddress : Bool) (act : State → State)
    (h_act : ∀ u, Keeps s u → Keeps s (act u)) :
    Keeps s (t.hubReq u inAddress act) := by
  unfold State.hubReq
  repeat' with_reducible first
    | assumption | apply h_act | apply Keeps.emit | apply State.newSetup_keeps | intro _ _ _ | intro _ _ | split
    | apply Keeps.upd | exact rfl

theorem State.ttReq_keeps (h : Keeps s t) (u i : Nat) (own : State → Nat → State) (all : State → State)
    (h_own : ∀ u k, Keeps s u → Keeps s (own u k)) (h_all : ∀ u, Keeps s u → Keeps s (all u)) :
    Keeps s (t.ttReq u i own all) := by
  unfold State.ttReq
  repeat' with_reducible first
    | assumption | apply h_all | apply h_own | apply Keeps.emit | apply State.hubReq_keeps | intro _ _ _ | intro _ _
    | split

theorem State.portReq_keeps (h : Keeps s t) (u i : Nat) (bad : Bool) (own other : State → Nat → State)
    (h_own : ∀ u k, Keeps s u → Keeps s (own u k)) (h_other : ∀ u k, Keeps s u → Keeps s (other u k)) :
    Keeps s (t.portReq u i bad own other) := by
  unfold State.portReq
  repeat' with_reducible first
    | assumption | apply h_other | apply h_own | apply Keeps.emit | apply State.hubReq_keeps | intro _ _ _
    | intro _ _ | split

theorem State.polledOutcome_keeps (h : Keeps s t) (n : Nat) (key : Key) (mode : Nat) (h_ : Option Held) (d : Dev) :
    Keeps s (t.polledOutcome n key mode h_ d) := by
  unfold State.polledOutcome
  repeat' with_reducible first
    | assumption | apply Keeps.modPort

theorem State.driveK_keeps (h : Keeps s t) (n : Nat) : Keeps s (t.driveK n) := by
  unfold State.driveK
  repeat' with_reducible first
    | assumption | apply Keeps.modPort | apply Keeps.emit | apply State.leaveTo_keeps

theorem State.vbusChange_keeps (h : Keeps s t) (u : Nat) (present : Bool) : Keeps s (t.vbusChange u present) := by
  unfold State.vbusChange
  repeat' with_reducible first
    | assumption | apply Keeps.raise | apply Keeps.flag | apply State.attachPers_keeps
    | apply State.detachPers_keeps | apply State.upSink_keeps | apply State.upUnattached_keeps | intro _ _ _
    | intro _ _ | split

theorem State.partResume_keeps (h : Keeps s t) (u : Nat) : Keeps s (t.partResume u) := by
  unfold State.partResume
  repeat' with_reducible first
    | assumption | apply Keeps.forEach | apply State.driveK_keeps | apply State.setHub_keeps | intro _ _ _

theorem State.startReset_keeps (h : Keeps s t) (n : Nat) : Keeps s (t.startReset n) := by
  unfold State.startReset
  repeat' with_reducible first
    | assumption | apply Keeps.wr | apply Keeps.modPort | apply Keeps.emit | apply State.relayReset_keeps
    | apply State.rtDropOwner_keeps | apply State.setHub_keeps | apply State.ttAndAlmanac_keeps

theorem State.startResume_keeps (h : Keeps s t) (n : Nat) : Keeps s (t.startResume n) := by
  unfold State.startResume
  repeat' with_reducible first
    | assumption | apply Keeps.emit | apply State.setHub_keeps | intro _ _ _ | intro _ _ | split

theorem State.hubAct_keeps (h : Keeps s t) (n : Nat) (a : HubAct) : Keeps s (t.hubAct n a) := by
  unfold State.hubAct
  repeat' with_reducible first
    | assumption | apply Keeps.wr | apply Keeps.modPort | apply Keeps.emit | apply State.leaveTo_keeps
    | apply State.setHub_keeps | apply State.startReset_keeps | apply State.startResume_keeps
    | apply State.testMode_keeps | apply State.ttReset_keeps | intro _ _ _ | intro _ _ | split | apply Keeps.upd
    | exact rfl

theorem State.hubDo_keeps (h : Keeps s t) (n : Nat) (a : HubAct) : Keeps s (t.hubDo n a) := by
  unfold State.hubDo
  repeat' with_reducible first
    | assumption | apply Keeps.modPort | apply State.hubAct_keeps | intro _ _ _ | intro _ _ | split

theorem State.hubReplay_keeps (h : Keeps s t) (n : Nat) : Keeps s (t.hubReplay n) := by
  unfold State.hubReplay
  repeat' with_reducible first
    | assumption | apply Keeps.foldl | apply Keeps.modPort | apply State.hubAct_keeps | intro _ _ _

theorem State.viewPower_keeps (h : Keeps s t) (u n : Nat) (b : Bool) : Keeps s (t.viewPower u n b) := by
  unfold State.viewPower
  repeat' with_reducible first
    | assumption | apply Keeps.setView | intro _ _ _ | intro _ _ | split

theorem State.rescuePort_keeps (h : Keeps s t) : Keeps s (t.rescuePort) := by
  unfold State.rescuePort
  repeat' with_reducible first
    | assumption | apply Keeps.wr | apply Keeps.emit | intro _ _ _ | intro _ _ | split | apply Keeps.upd | exact rfl

theorem State.busResetEffect_keeps (h : Keeps s t) (u : Nat) (hs : Bool) : Keeps s (t.busResetEffect u hs) := by
  unfold State.busResetEffect
  repeat' with_reducible first
    | assumption | apply Keeps.wr | apply Keeps.raise | apply Keeps.flag | apply Keeps.bump | apply Keeps.modUp
    | apply State.busResetActions_keeps | intro _ _ _ | intro _ _ | split

theorem State.wake_keeps (h : Keeps s t) (u n : Nat) : Keeps s (t.wake u n) := by
  unfold State.wake
  repeat' with_reducible first
    | assumption | apply Keeps.forEach | apply Keeps.wr | apply Keeps.raise | apply Keeps.modPort
    | apply Keeps.modUp | apply State.driveK_keeps | intro _ _ _ | intro _ _ | split

theorem State.resumePort_keeps (h : Keeps s t) (u n : Nat) : Keeps s (t.resumePort u n) := by
  unfold State.resumePort
  repeat' with_reducible first
    | assumption | apply Keeps.modPort | apply Keeps.emit | apply Keeps.hubEvt | apply State.setHub_keeps
    | intro _ _ _ | intro _ _ | split

end Sys2Proof.Machine
end

