-- ==== Sys2Proof/Laws/KeepsCore.lean ====
section
/-! SUPPORT. One lemma per operation of the switch core, packet memory, ownership and Lodestar: it keeps what every
operation keeps. -/

namespace Sys2Proof.Machine

variable {s t : State}

theorem State.modPkt_keeps (h : Keeps s t) (id : Nat) (g : Pkt → Pkt) : Keeps s (t.modPkt id g) := by
  unfold State.modPkt
  repeat' with_reducible first
    | assumption | apply Keeps.modSw

theorem State.trim_keeps (h : Keeps s t) (p : Pkt) : Keeps s (t.trim p) := by
  unfold State.trim
  repeat' with_reducible first
    | assumption | apply State.modPkt_keeps | apply State.setPool_keeps | intro _ _ _ | intro _ _ | split
    | apply Keeps.upd | exact rfl

theorem State.hbMiss_keeps (h : Keeps s t) (n : Nat) : Keeps s (t.hbMiss n) := by
  unfold State.hbMiss
  repeat' with_reducible first
    | assumption | apply Keeps.modLds | apply State.edgeAtMeridian_keeps | apply State.setEntry_keeps | intro _ _ _
    | intro _ _ | split | apply Keeps.upd | exact rfl

theorem State.ldsPollLost_keeps (h : Keeps s t) (n : Nat) : Keeps s (t.ldsPollLost n) := by
  unfold State.ldsPollLost
  repeat' with_reducible first
    | assumption | apply State.hbMiss_keeps | intro _ _ _ | intro _ _ | split

theorem State.ownHold_keeps (h : Keeps s t) (n tgt code : Nat) : Keeps s (t.ownHold n tgt code) := by
  unfold State.ownHold
  repeat' with_reducible first
    | assumption | apply Keeps.bump | apply Keeps.modPort | intro _ _ _ | intro _ _ | split

theorem State.rgnEffect_keeps (h : Keeps s t) (d oldSize : Nat) : Keeps s (t.rgnEffect d oldSize) := by
  unfold State.rgnEffect
  repeat' with_reducible first
    | assumption | apply Keeps.foldl | apply Keeps.wr | apply State.dropPkt_keeps | apply State.setPool_keeps
    | apply State.ttCut_keeps | intro _ _ _ | intro _ _ | split

theorem State.slotlimEffect_keeps (h : Keeps s t) (old : Nat) : Keeps s (t.slotlimEffect old) := by
  unfold State.slotlimEffect
  repeat' with_reducible first
    | assumption | apply Keeps.forEach | apply Keeps.modPort | intro _ _ _ | intro _ _ | split

theorem State.modSlot_keeps (h : Keeps s t) (n : Nat) (k : Key) (iso : Bool) (g : Slot → Slot) :
    Keeps s (t.modSlot n k iso g) := by
  unfold State.modSlot
  repeat' with_reducible first
    | assumption | apply Keeps.modPort | intro _ _ _ | intro _ _ | split

theorem State.voidPkt_keeps (h : Keeps s t) (id : Nat) (wire : Bool) : Keeps s (t.voidPkt id wire) := by
  unfold State.voidPkt
  repeat' with_reducible first
    | assumption | apply Keeps.emit | apply State.dropPkt_keeps | apply State.fallSettle_keeps
    | apply State.giveUp_keeps | apply State.modPkt_keeps | apply State.modSlot_keeps | intro _ _ _ | intro _ _
    | split | apply Keeps.upd | exact rfl

theorem State.produce_keeps (h : Keeps s t) (p : Pkt) : Keeps s (t.produce p) := by
  unfold State.produce
  repeat' with_reducible first
    | assumption | apply Keeps.modSw | apply State.iqPop_keeps | apply State.iqPush_keeps | apply State.modPkt_keeps
    | apply State.record_keeps | apply State.voidPkt_keeps | intro _ _ _ | intro _ _ | split | apply Keeps.upd
    | exact rfl

theorem State.begin_keeps (h : Keeps s t) (inp out : Nat) (kind : PktKind) (key : Key) (pid age : Nat)
    (bs : List Byte) (t_ : Tail) (await : Bool) :
    Keeps s (t.begin inp out kind key pid age bs t_ await) := by
  unfold State.begin
  repeat' with_reducible first
    | assumption | apply Keeps.modSw | apply State.produce_keeps | apply State.setPool_keeps | intro _ _ _
    | intro _ _ | split | apply Keeps.upd | exact rfl

theorem State.giveStop_keeps (h : Keeps s t) (u n : Nat) (x : Slot) : Keeps s (t.giveStop u n x) := by
  unfold State.giveStop
  repeat' with_reducible first
    | assumption | apply Keeps.modUp | apply Keeps.emit | apply State.modSlot_keeps

theorem State.relay_keeps (h : Keeps s t) (u a : Nat) (act : State → Nat → State)
    (h_act : ∀ u k, Keeps s u → Keeps s (act u k)) :
    Keeps s (t.relay u a act) := by
  unfold State.relay
  repeat' with_reducible first
    | assumption | apply h_act | apply Keeps.emit | intro _ _ _ | intro _ _ | split

theorem State.admNak_keeps (h : Keeps s t) (u : Nat) : Keeps s (t.admNak u) := by
  unfold State.admNak
  repeat' with_reducible first
    | assumption | apply Keeps.bump | apply Keeps.emit

theorem State.relaySetup_keeps (h : Keeps s t) (u a ep : Nat) (r : Setup) (ok : Bool) :
    Keeps s (t.relaySetup u a ep r ok) := by
  unfold State.relaySetup
  repeat' with_reducible first
    | assumption | apply Keeps.bump | apply Keeps.modUp | apply Keeps.emit | apply State.begin_keeps
    | apply State.iqThrough_keeps | apply State.relay_keeps | intro _ _ _ | intro _ _ | split

theorem State.otherReq_keeps (h : Keeps s t) (u : Nat) (r : Setup) : Keeps s (t.otherReq u r) := by
  unfold State.otherReq
  repeat' with_reducible first
    | assumption | apply Keeps.flag | apply Keeps.modUp | apply State.ans_keeps | apply State.dataAns_keeps
    | apply State.stdReq_keeps | intro _ _ _ | intro _ _ | split | apply Keeps.upd | exact rfl

theorem State.vendorOther_keeps (h : Keeps s t) (u : Nat) (r : Setup) : Keeps s (t.vendorOther u r) := by
  unfold State.vendorOther
  repeat' with_reducible first
    | assumption | apply State.ans_keeps | apply State.newSetup_keeps | intro _ _ _ | intro _ _ | split
    | apply Keeps.upd | exact rfl

theorem State.ownSetup_keeps (h : Keeps s t) (u : Nat) (r : Setup) : Keeps s (t.ownSetup u r) := by
  unfold State.ownSetup
  repeat' with_reducible first
    | assumption | apply State.getDesc_keeps | apply State.getSts_keeps | apply State.otherReq_keeps
    | apply State.setAddr_keeps | apply State.setConfig_keeps | apply State.setIface_keeps
    | apply State.testMode_keeps | apply State.vendorOther_keeps | intro _ _ _ | intro _ _ | split

theorem State.relayOut_keeps (h : Keeps s t) (u a ep : Nat) (tog : Bool) (bs : List Byte) :
    Keeps s (t.relayOut u a ep tog bs) := by
  unfold State.relayOut
  repeat' with_reducible first
    | assumption | apply State.admNak_keeps | apply State.begin_keeps | apply State.giveStop_keeps
    | apply State.relay_keeps | intro _ _ _ | intro _ _ | split | apply Keeps.upd | exact rfl

theorem State.ownOut_keeps (h : Keeps s t) (u ep : Nat) : Keeps s (t.ownOut u ep) := by
  unfold State.ownOut
  repeat' with_reducible first
    | assumption | apply Keeps.emit

theorem State.askIn_keeps (h : Keeps s t) (u n : Nat) (k : Key) (iso : Bool) : Keeps s (t.askIn u n k iso) := by
  unfold State.askIn
  repeat' with_reducible first
    | assumption | apply Keeps.emit | apply State.begin_keeps | apply State.modSlot_keeps | intro _ _ _ | intro _ _
    | split

theorem State.xferIn_keeps (h : Keeps s t) (u n a ep : Nat) (bs : List Byte) : Keeps s (t.xferIn u n a ep bs) := by
  unfold State.xferIn
  repeat' with_reducible first
    | assumption | apply Keeps.modUp | apply State.ctlDone_keeps | intro _ _ _ | intro _ _ | split

theorem State.relayIn_keeps (h : Keeps s t) (u a ep : Nat) (acked : Bool) : Keeps s (t.relayIn u a ep acked) := by
  unfold State.relayIn
  repeat' with_reducible first
    | assumption | apply Keeps.bump | apply Keeps.emit | apply State.askIn_keeps | apply State.dropHeld_keeps
    | apply State.giveStop_keeps | apply State.modSlot_keeps | apply State.relay_keeps | apply State.xferIn_keeps
    | intro _ _ _ | intro _ _ | split | apply Keeps.upd | exact rfl

theorem State.copyBeat_keeps (h : Keeps s t) (p : Pkt) : Keeps s (t.copyBeat p) := by
  unfold State.copyBeat
  repeat' with_reducible first
    | assumption | apply Keeps.wr | apply Keeps.modSw | apply State.fallSettle_keeps | apply State.iqPop_keeps
    | apply State.modPkt_keeps | intro _ _ _ | intro _ _ | split

theorem State.voidTail_keeps (h : Keeps s t) (p : Pkt) (crcOk : Bool) : Keeps s (t.voidTail p crcOk) := by
  unfold State.voidTail
  repeat' with_reducible first
    | assumption | apply Keeps.bump | apply Keeps.emit | apply State.dropPkt_keeps | apply State.modPkt_keeps
    | apply State.modSlot_keeps | apply State.produce_keeps | intro _ _ _ | intro _ _ | split | apply Keeps.upd
    | exact rfl

theorem State.needPing_keeps (h : Keeps s t) (n : Nat) (k : Key) (b : Bool) : Keeps s (t.needPing n k b) := by
  unfold State.needPing
  repeat' with_reducible first
    | assumption | apply Keeps.modPort

theorem State.outError_keeps (h : Keeps s t) (n : Nat) (p : Pkt) : Keeps s (t.outError n p) := by
  unfold State.outError
  repeat' with_reducible first
    | assumption | apply State.dropPkt_keeps | apply State.modPkt_keeps | apply State.modSlot_keeps | intro _ _ _
    | intro _ _ | split

theorem State.inEmpty_keeps (h : Keeps s t) (n : Nat) (p : Pkt) (g : Slot → Slot) : Keeps s (t.inEmpty n p g) := by
  unfold State.inEmpty
  repeat' with_reducible first
    | assumption | apply State.dropPkt_keeps | apply State.modSlot_keeps

theorem State.rtSet_keeps (h : Keeps s t) (u g : Nat) (c : Nat × Option Nat × Bool) : Keeps s (t.rtSet u g c) := by
  unfold State.rtSet
  repeat' with_reducible first
    | assumption | apply Keeps.wr | apply Keeps.raise | apply Keeps.flag | apply State.withdrawSlots_keeps
    | intro _ _ _ | intro _ _ | split

theorem State.rtApply_keeps (h : Keeps s t) (u : Nat) : Keeps s (t.rtApply u) := by
  unfold State.rtApply
  repeat' with_reducible first
    | assumption | apply Keeps.foldl | apply Keeps.wr | apply Keeps.modUp | apply State.dropStale_keeps
    | apply State.rtSet_keeps | intro _ _ _ | intro _ _ | split | apply Keeps.upd | exact rfl

theorem State.sampleRequests_keeps (h : Keeps s t) : Keeps s (t.sampleRequests) := by
  unfold State.sampleRequests
  repeat' with_reducible first
    | assumption | apply Keeps.forEach | apply Keeps.modPort | intro _ _ _

theorem State.pnote_keeps (h : Keeps s t) (d : Option Nat) : Keeps s (t.pnote d) := by
  unfold State.pnote
  repeat' with_reducible first
    | assumption | apply Keeps.orBits | intro _ _ _ | intro _ _ | split

theorem State.modFence_keeps (h : Keeps s t) (g : FenceX → FenceX) : Keeps s (t.modFence g) := by
  unfold State.modFence
  repeat' with_reducible first
    | assumption | apply Keeps.modSw

theorem State.showPend_keeps (h : Keeps s t) : Keeps s (t.showPend) := by
  unfold State.showPend
  repeat' with_reducible first
    | assumption | apply Keeps.wr

theorem State.listLine_keeps (h : Keeps s t) (line : Nat) (head : Bool) : Keeps s (t.listLine line head) := by
  unfold State.listLine
  repeat' with_reducible first
    | assumption | apply Keeps.bump | apply State.modFence_keeps | apply State.showPend_keeps | intro _ _ _
    | intro _ _ | split | apply Keeps.upd | exact rfl

theorem State.lineHolder_keeps (h : Keeps s t) (d : Option Nat) : Keeps s (t.lineHolder d).2 := by
  unfold State.lineHolder
  exact Keeps.ite2 h h.free

theorem State.granule_keeps (h : Keeps s t) (queued back : Bool) : Keeps s (t.granule queued back) := by
  unfold State.granule
  repeat' with_reducible first
    | assumption | apply Keeps.wr

theorem State.fenceEnd_keeps (h : Keeps s t) (result : Nat) : Keeps s (t.fenceEnd result) := by
  unfold State.fenceEnd
  repeat' with_reducible first
    | assumption | apply Keeps.wr | apply Keeps.modSw | apply State.fallSettle_keeps | apply State.granule_keeps
    | apply State.modFence_keeps | apply State.setPool_keeps | intro _ _ _ | intro _ _ | split | apply Keeps.upd
    | exact rfl

theorem State.retire_keeps (h : Keeps s t) (g : Nat) (spare : Bool) : Keeps s (t.retire g spare) := by
  unfold State.retire
  repeat' with_reducible first
    | assumption | apply Keeps.wr | apply Keeps.modSw | apply State.edgeAtMeridian_keeps
    | apply State.fenceEnd_keeps | apply State.granule_keeps | apply State.modFence_keeps
    | apply State.setPool_keeps | intro _ _ _ | intro _ _ | split | apply Keeps.upd | exact rfl

theorem State.freePoolLine_keeps (h : Keeps s t) : Keeps s (t.freePoolLine).2 := by
  unfold State.freePoolLine
  repeat' with_reducible first
    | assumption | apply Keeps.free | intro _ _ _ | intro _ _ | split

theorem State.ldsPacket_keeps (h : Keeps s t) (n adr pid : Nat) (bs : List Byte) :
    Keeps s (t.ldsPacket n adr pid bs) := by
  unfold State.ldsPacket
  repeat' with_reducible first
    | assumption | apply Keeps.bump | apply Keeps.emit | apply State.iqPass_keeps | intro _ _ _ | intro _ _ | split

theorem State.ldsSend_keeps (h : Keeps s t) (n adr : Nat) (step : LdsStep) (r : Setup) (data : List Byte) :
    Keeps s (t.ldsSend n adr step r data) := by
  unfold State.ldsSend
  repeat' with_reducible first
    | assumption | apply Keeps.modLds | apply State.ldsPacket_keeps | intro _ _ _ | intro _ _ | split

theorem State.ldsGet_keeps (h : Keeps s t) (n adr : Nat) (step : LdsStep) (v idx len : Nat) :
    Keeps s (t.ldsGet n adr step v idx len) := by
  unfold State.ldsGet
  repeat' with_reducible first
    | assumption | apply State.ldsSend_keeps

theorem State.ldsStop_keeps (h : Keeps s t) (n result : Nat) : Keeps s (t.ldsStop n result) := by
  unfold State.ldsStop
  repeat' with_reducible first
    | assumption | apply State.ldsEnd_keeps

theorem State.ldsReset_keeps (h : Keeps s t) (n : Nat) : Keeps s (t.ldsReset n) := by
  unfold State.ldsReset
  repeat' with_reducible first
    | assumption | apply Keeps.modLds | apply State.startReset_keeps

theorem State.ldsFail_keeps (h : Keeps s t) (n : Nat) : Keeps s (t.ldsFail n) := by
  unfold State.ldsFail
  repeat' with_reducible first
    | assumption | apply Keeps.bump | apply Keeps.modLds | apply State.ldsReset_keeps | apply State.ldsStop_keeps
    | intro _ _ _ | intro _ _ | split

theorem State.ldsRecord_keeps (h : Keeps s t) (n i : Nat) : Keeps s (t.ldsRecord n i) := by
  unfold State.ldsRecord
  repeat' with_reducible first
    | assumption | apply Keeps.modLds | apply State.ldsEnd_keeps | apply State.ldsSend_keeps
    | apply State.record_keeps | apply State.setEntry_keeps | intro _ _ _ | intro _ _ | split | apply Keeps.upd
    | exact rfl

theorem State.ldsRecFail_keeps (h : Keeps s t) (n code : Nat) : Keeps s (t.ldsRecFail n code) := by
  unfold State.ldsRecFail
  repeat' with_reducible first
    | assumption | apply State.ldsRecord_keeps | apply State.ldsStop_keeps | intro _ _ _ | intro _ _ | split
    | apply Keeps.upd | exact rfl

theorem State.ldsRecDone_keeps (h : Keeps s t) (n : Nat) (bs : List Byte) : Keeps s (t.ldsRecDone n bs) := by
  unfold State.ldsRecDone
  repeat' with_reducible first
    | assumption | apply Keeps.modLds | apply State.ldsRecFail_keeps | apply State.ldsRecord_keeps | intro _ _ _
    | intro _ _ | split | apply Keeps.upd | exact rfl

theorem State.ldsConfigured_keeps (h : Keeps s t) (n : Nat) : Keeps s (t.ldsConfigured n) := by
  have hr := State.ldsRecord_keeps h n 0
  have hs := State.ldsStop_keeps h n 8
  unfold State.ldsConfigured
  extract_lets p c own
  refine Keeps.ite hr ?_
  cases t.hbEndpoint n with
  | some e => exact Keeps.ite hr hs
  | none => exact hs

theorem State.ldsIdentity_keeps (h : Keeps s t) (n : Nat) (serial : List Byte) : Keeps s (t.ldsIdentity n serial) := by
  unfold State.ldsIdentity
  repeat' with_reducible first
    | assumption | apply State.ldsSend_keeps | apply State.ldsStop_keeps | apply State.setConfig_keeps
    | apply State.setEntry_keeps | intro _ _ _ | intro _ _ | split | apply Keeps.upd | exact rfl

theorem State.ldsData_keeps (h : Keeps s t) (n : Nat) (bs : List Byte) : Keeps s (t.ldsData n bs) := by
  unfold State.ldsData
  repeat' with_reducible first
    | assumption | apply Keeps.bump | apply Keeps.modLds | apply State.ldsFail_keeps | apply State.ldsGet_keeps
    | apply State.ldsIdentity_keeps | apply State.ldsRecDone_keeps | apply State.ldsSend_keeps
    | apply State.ldsStop_keeps | apply State.record_keeps | apply State.takeSizes_keeps | intro _ _ _ | intro _ _
    | split | apply Keeps.upd | exact rfl

theorem State.ldsAck_keeps (h : Keeps s t) (n : Nat) : Keeps s (t.ldsAck n) := by
  unfold State.ldsAck
  repeat' with_reducible first
    | assumption | apply Keeps.modLds | apply State.ldsConfigured_keeps | apply State.ldsRecDone_keeps
    | apply State.record_keeps | apply State.setConfig_keeps | intro _ _ _ | intro _ _ | split

theorem State.ldsBad_keeps (h : Keeps s t) (n : Nat) (stall : Bool) : Keeps s (t.ldsBad n stall) := by
  unfold State.ldsBad
  repeat' with_reducible first
    | assumption | apply Keeps.modLds | apply State.ldsFail_keeps | apply State.ldsRecFail_keeps
    | apply State.ldsStop_keeps | apply State.record_keeps | apply State.setConfig_keeps | intro _ _ _ | intro _ _
    | split

theorem State.errAt_keeps (h : Keeps s t) (a : Sys2Proof.ErrAt) : Keeps s (t.errAt a) := by
  unfold State.errAt
  repeat' with_reducible first
    | assumption | apply Keeps.foldl | apply Keeps.modPort | apply Keeps.setAlm | apply Keeps.emit
    | apply State.hbMiss_keeps | apply State.ldsBad_keeps | apply State.voidPkt_keeps | intro _ _ _ | intro _ _
    | split | apply Keeps.upd | exact rfl

theorem State.ldsReturn_keeps (h : Keeps s t) : Keeps s (t.ldsReturn) := by
  unfold State.ldsReturn
  repeat' with_reducible first
    | assumption | apply Keeps.forEach | apply Keeps.modLds | apply State.setEntry_keeps | intro _ _ _ | intro _ _
    | split | apply Keeps.upd | exact rfl

theorem State.toReleasing_keeps (h : Keeps s t) (n tgt code : Nat) : Keeps s (t.toReleasing n tgt code) := by
  unfold State.toReleasing
  repeat' with_reducible first
    | assumption | apply Keeps.wr | apply Keeps.modPort | apply Keeps.emit | apply Keeps.wrVoted
    | apply State.dropStale_keeps | apply State.ldsRelease_keeps | apply State.relayReset_keeps
    | apply State.rtApply_keeps | apply State.rtDropPort_keeps | apply State.setHub_keeps
    | apply State.ttAndAlmanac_keeps | intro _ _ _ | intro _ _ | split

end Sys2Proof.Machine
end

