-- ==== Sys2Proof/Laws/KeepsSystem.lean ====
section
/-! SUPPORT. One lemma per operation of boot, faults, supplies, register reads and the mailboxes: it keeps what every
operation keeps. -/

namespace Sys2Proof.Machine

variable {s t : State}

theorem State.claim_keeps (h : Keeps s t) (a : Nat) : Keeps s (t.claim a).2 := by
  unfold State.claim
  exact Keeps.ite2 (h.bump _ _) (State.lineCheck_keeps (((h.wr _ _).raise _).wr _ _) _)

theorem State.doneEffect_keeps (h : Keeps s t) (t_ v : Nat) : Keeps s (t.doneEffect t_ v) := by
  unfold State.doneEffect
  repeat' with_reducible first
    | assumption | apply Keeps.wr | apply Keeps.raise | apply Keeps.bump | apply State.deliver_keeps
    | apply State.edge_keeps | apply State.lineCheck_keeps | apply State.record_keeps | intro _ _ _ | intro _ _
    | split | apply Keeps.upd | exact rfl

theorem State.cfgEffect_keeps (h : Keeps s t) (i : Nat) (oldEn : Bool) (oldT : Nat) :
    Keeps s (t.cfgEffect i oldEn oldT) := by
  unfold State.cfgEffect
  repeat' with_reducible first
    | assumption | apply State.hold_keeps | apply State.lineCheck_keeps | intro _ _ _ | intro _ _ | split
    | apply Keeps.upd | exact rfl

theorem State.tctlEffect_keeps (h : Keeps s t) (t_ : Nat) : Keeps s (t.tctlEffect t_) := by
  unfold State.tctlEffect
  repeat' with_reducible first
    | assumption | apply Keeps.eraseCopy | apply Keeps.timer | apply Keeps.elapsedUs | apply State.deliver_keeps
    | intro _ _ _ | intro _ _ | split | apply Keeps.upd | exact rfl

theorem State.clrpendEffect_keeps (h : Keeps s t) (i : Nat) : Keeps s (t.clrpendEffect i) := by
  unfold State.clrpendEffect
  repeat' with_reducible first
    | assumption | apply Keeps.wr | apply State.lineCheck_keeps | intro _ _ _ | intro _ _ | split

theorem State.armSector_keeps (h : Keeps s t) (i : Nat) : Keeps s (t.armSector i) := by
  unfold State.armSector
  repeat' with_reducible first
    | assumption | apply Keeps.forEach | apply Keeps.flag | apply Keeps.modPort | apply State.fbiDrive_keeps
    | intro _ _ _ | intro _ _ | split

theorem State.sectorArm_keeps (h : Keeps s t) (i : Nat) : Keeps s (t.sectorArm i) := by
  unfold State.sectorArm
  repeat' with_reducible first
    | assumption | apply Keeps.forEach | apply State.armSector_keeps | apply State.evalDemand_keeps
    | apply State.handoverRelease_keeps | apply State.journal_keeps | intro _ _ _

theorem State.devReset_keeps (h : Keeps s t) (cause : Nat) : Keeps s (t.devReset cause) := by
  unfold State.devReset
  refine h.trans ?_
  refine Keeps.wr (Keeps.wr (Keeps.wr (Keeps.wr (Keeps.wr (Keeps.wr (Keeps.wr ?_ _ _) _ _) _ _) _ _) _ _) _ _) _ _
  refine ⟨rfl, rfl, rfl, rfl, rfl, fun w => ?_⟩
  refine ⟨List.Pairwise.nil, List.Pairwise.nil, List.Pairwise.nil, List.Pairwise.nil, ?_, rfl, ?_, rfl, rfl, rfl, rfl, rfl,
    w.flash, w.journal⟩
  · refine KMap.wf_filterMap w.ports _ ?_
    intro e f he
    split at he
    · cases he
      refine ⟨rfl, fun hk => ?_⟩
      have hv := congrArg PortX.vbus hk
      simp_all [PortX.kept, PortX.reset]
    · exact absurd he (by simp)
  · refine KMap.wf_filterMap w.secs _ ?_
    intro e f he
    split at he
    · cases he
      refine ⟨rfl, fun hk => ?_⟩
      have hv := congrArg SecX.dieUp hk
      simp [SecX.reset] at hv
    · exact absurd he (by simp)

theorem State.rebuild_keeps (h : Keeps s t) : Keeps s (t.rebuild) := by
  unfold State.rebuild
  repeat' with_reducible first
    | assumption | apply Keeps.foldl | intro _ _ _ | intro _ _ | split | apply Keeps.upd | exact rfl

theorem State.recall_keeps (h : Keeps s t) : Keeps s (t.recall) := by
  unfold State.recall
  repeat' with_reducible first
    | assumption | apply State.rebuild_keeps | intro _ _ _ | intro _ _ | split

theorem State.showBoot_keeps (h : Keeps s t) : Keeps s (t.showBoot) := by
  unfold State.showBoot
  repeat' with_reducible first
    | assumption | apply Keeps.wr

theorem State.bootStart_keeps (h : Keeps s t) : Keeps s (t.bootStart) := by
  unfold State.bootStart
  repeat' with_reducible first
    | assumption | apply State.journal_keeps | apply State.recall_keeps | apply State.showBoot_keeps | intro _ _ _
    | intro _ _ | split | apply Keeps.upd | exact rfl

theorem State.startBoot_keeps (h : Keeps s t) : Keeps s (t.startBoot) := by
  unfold State.startBoot
  repeat' with_reducible first
    | assumption | apply State.bootStart_keeps | intro _ _ _ | intro _ _ | split | apply Keeps.upd | exact rfl

theorem State.restoreBlock_keeps (h : Keeps s t) (b : FBlk) : Keeps s (t.restoreBlock b) := by
  unfold State.restoreBlock
  repeat' with_reducible first
    | assumption | apply Keeps.forEach | apply Keeps.foldl | apply Keeps.modUp | apply Keeps.modQuad
    | apply Keeps.modFlt | apply State.attachPers_keeps | apply State.clearMark_keeps | apply State.devReset_keeps
    | apply State.evalDemand_keeps | apply State.recordPresent_keeps | apply State.sectorArm_keeps
    | apply State.startBoot_keeps | apply State.tryApply_keeps | intro _ _ _ | intro _ _ | split

theorem State.recover_keeps (h : Keeps s t) (b : FBlk) : Keeps s (t.recover b) := by
  unfold State.recover
  repeat' with_reducible first
    | assumption | apply Keeps.wr | apply State.countRecovery_keeps | apply State.restoreBlock_keeps

theorem State.clrlatchEffect_keeps (h : Keeps s t) (b : FBlk) (pass : Bool) : Keeps s (t.clrlatchEffect b pass) := by
  unfold State.clrlatchEffect
  repeat' with_reducible first
    | assumption | apply Keeps.wr | apply Keeps.raise | apply State.recover_keeps | intro _ _ _ | intro _ _ | split

theorem State.ackEffect_keeps (h : Keeps s t) (b : FBlk) : Keeps s (t.ackEffect b) := by
  unfold State.ackEffect
  repeat' with_reducible first
    | assumption | apply Keeps.wr | apply Keeps.modFlt | intro _ _ _ | intro _ _ | split

theorem State.faultpinEffect_keeps (h : Keeps s t) : Keeps s (t.faultpinEffect) := by
  unfold State.faultpinEffect
  repeat' with_reducible first
    | assumption | apply Keeps.wr | apply Keeps.emit | intro _ _ _ | intro _ _ | split

theorem State.rcClear_keeps (h : Keeps s t) (f : Field) (v : Nat) : Keeps s (t.rcClear f v) := by
  unfold State.rcClear
  split
  · exact h.trans ⟨rfl, rfl, rfl, rfl, rfl, fun w =>
      { w with regs := KMap.rising_put w.regs _ _ _, shadow := KMap.rising_put w.shadow _ _ _ }⟩
  · exact h

theorem State.rcClearBit_keeps (h : Keeps s t) (b : Nat) (f : Field) : Keeps s (t.rcClearBit b f) := by
  unfold State.rcClearBit
  split
  · exact h.trans ⟨rfl, rfl, rfl, rfl, rfl, fun w =>
      { w with regs := KMap.rising_put w.regs _ _ _, shadow := KMap.rising_put w.shadow _ _ _ }⟩
  · exact h

theorem State.recordAgain_keeps (h : Keeps s t) (a v : Nat) : Keeps s (t.recordAgain a v) := by
  unfold State.recordAgain
  repeat' with_reducible first
    | assumption | apply Keeps.forEach | apply State.record_keeps | intro _ _ _ | intro _ _ | split

theorem State.readClear_keeps (h : Keeps s t) (a w : Nat) (bit : Option Nat) : Keeps s (t.readClear a w bit) := by
  unfold State.readClear
  repeat' with_reducible first
    | assumption | apply Keeps.foldl | apply State.rcClear_keeps | apply State.rcClearBit_keeps
    | apply State.recordAgain_keeps | intro _ _ _ | intro _ _ | split

theorem State.readDone_keeps (h : Keeps s t) (p : Place) (w : Nat) : Keeps s (t.readDone p w) := by
  unfold State.readDone
  repeat' with_reducible first
    | assumption | apply Keeps.wr | apply State.readClear_keeps | intro _ _ _ | intro _ _ | split

theorem State.sample_keeps (h : Keeps s t) (r : Requester) (p : Place) : Keeps s (t.sample r p).2.2 := by
  unfold State.sample
  refine Keeps.ite3 h ?_
  cases p with
  | word a b =>
    cases b with
    | some b => exact h
    | none =>
      show Keeps s (Prod.snd (Prod.snd (match claimTarget a with
        | some x => ((t.claim x).1, 0, (t.claim x).2)
        | none => (t.wordValue a, 0, if a = 0x2008 then (t.free).2 else t))))
      cases claimTarget a with
      | some x => exact State.claim_keeps h x
      | none => exact Keeps.ite h.free h
  | winWord a b => exact h
  | chipId => exact h
  | portInt => exact h
  | unlisted a => exact h

theorem State.clearMarks_keeps (h : Keeps s t) (m : Nat) : Keeps s (t.clearMarks m) := by
  unfold State.clearMarks
  repeat' with_reducible first
    | assumption | apply Keeps.foldl | apply State.showBoot_keeps | intro _ _ _ | intro _ _ | split
    | apply Keeps.upd | exact rfl

theorem State.rbStart_keeps (h : Keeps s t) (v : Nat) : Keeps s (t.rbStart v) := by
  unfold State.rbStart
  repeat' with_reducible first
    | assumption | apply Keeps.raise | intro _ _ _ | intro _ _ | split | apply Keeps.upd | exact rfl

theorem State.rescueExit_keeps (h : Keeps s t) : Keeps s (t.rescueExit) := by
  unfold State.rescueExit
  repeat' with_reducible first
    | assumption | apply State.devReset_keeps | apply State.startBoot_keeps | intro _ _ _ | intro _ _ | split
    | apply Keeps.upd | exact rfl

theorem State.updBegin_keeps (h : Keeps s t) (x : UpdX) : Keeps s (t.updBegin x) := by
  unfold State.updBegin
  repeat' with_reducible first
    | assumption | apply Keeps.flashErase | apply Keeps.flashProgram | apply State.journal_keeps | intro _ _ _
    | intro _ _ | split | apply Keeps.upd | exact rfl

theorem State.updWake_keeps (h : Keeps s t) : Keeps s (t.updWake) := by
  unfold State.updWake
  repeat' with_reducible first
    | assumption | apply State.updBegin_keeps | intro _ _ _ | intro _ _ | split

theorem State.updStart_keeps (h : Keeps s t) (cmd slot code : Nat) : Keeps s (t.updStart cmd slot code) := by
  unfold State.updStart
  repeat' with_reducible first
    | assumption | apply Keeps.wr | apply Keeps.raise | apply State.updWake_keeps | intro _ _ _ | intro _ _ | split
    | apply Keeps.upd | exact rfl

theorem State.goEffect_keeps (h : Keeps s t) (m code : Nat) : Keeps s (t.goEffect m code) := by
  unfold State.goEffect
  repeat' with_reducible first
    | assumption | apply Keeps.wr | apply Keeps.raise | apply Keeps.modMb | intro _ _ _ | intro _ _ | split

theorem State.bulkRelease_keeps (h : Keeps s t) (m : Nat) : Keeps s (t.bulkRelease m) := by
  unfold State.bulkRelease
  repeat' with_reducible first
    | assumption | apply Keeps.wr | intro _ _ _ | intro _ _ | split

theorem State.selEffect_keeps (h : Keeps s t) (m : Nat) : Keeps s (t.selEffect m) := by
  unfold State.selEffect
  repeat' with_reducible first
    | assumption | apply Keeps.wr | apply State.bulkRelease_keeps

theorem State.mbxTake_keeps (h : Keeps s t) : Keeps s (t.mbxTake) := by
  unfold State.mbxTake
  repeat' with_reducible first
    | assumption | apply Keeps.forEach | apply Keeps.modMb | intro _ _ _ | intro _ _ | split | apply Keeps.upd
    | exact rfl

theorem State.journalOpen_keeps (h : Keeps s t) (code inst outcome slot reason : Nat) (arg : Option Nat) :
    Keeps s (t.journalOpen code inst outcome slot reason arg) := by
  unfold State.journalOpen
  repeat' with_reducible first
    | assumption | apply Keeps.free | apply State.journal_keeps | intro _ _ _ | intro _ _ | split

theorem State.setMark_keeps (h : Keeps s t) (k : Nat) : Keeps s (t.setMark k) := by
  unfold State.setMark
  repeat' with_reducible first
    | assumption | apply State.showBoot_keeps | intro _ _ _ | intro _ _ | split | apply Keeps.upd | exact rfl

theorem State.flashOpen_keeps (h : Keeps s t) : Keeps s (t.flashOpen) := by
  unfold State.flashOpen
  repeat' with_reducible first
    | assumption | apply Keeps.foldl | apply State.ringFlush_keeps | intro _ _ _ | intro _ _ | split
    | apply Keeps.upd | exact rfl

theorem State.enterRescue_keeps (h : Keeps s t) (why : Nat) : Keeps s (t.enterRescue why) := by
  unfold State.enterRescue
  repeat' with_reducible first
    | assumption | apply Keeps.wr | apply Keeps.raise | apply State.flashOpen_keeps | apply State.journal_keeps
    | apply State.recall_keeps | intro _ _ _ | intro _ _ | split | apply Keeps.upd | exact rfl

theorem State.showHeader_keeps (h : Keeps s t) (h_ : Header) : Keeps s (t.showHeader h_) := by
  unfold State.showHeader
  repeat' with_reducible first
    | assumption | apply Keeps.wr

theorem State.loadBudget_keeps (h : Keeps s t) (bs : List Byte) : Keeps s (t.loadBudget bs) := by
  unfold State.loadBudget
  repeat' with_reducible first
    | assumption | apply Keeps.forEach | apply Keeps.load | intro _ _ _

theorem State.loadPers_keeps (h : Keeps s t) (u : Nat) (r : List Byte) : Keeps s (t.loadPers u r) := by
  unfold State.loadPers
  repeat' with_reducible first
    | assumption | apply Keeps.load | apply Keeps.modUp

theorem State.loadTables_keeps (h : Keeps s t) (base : Nat) (es : List Sect) : Keeps s (t.loadTables base es) := by
  unfold State.loadTables
  repeat' with_reducible first
    | assumption | apply Keeps.forEach | apply Keeps.wr | apply State.loadBudget_keeps | apply State.loadPers_keeps
    | intro _ _ _ | intro _ _ | split | apply Keeps.upd | exact rfl

theorem State.cacheWrite_keeps (h : Keeps s t) (ofs : Nat) (bs : List Byte) : Keeps s (t.cacheWrite ofs bs) := by
  unfold State.cacheWrite
  repeat' with_reducible first
    | assumption | apply Keeps.flashErase | apply Keeps.flashProgram

theorem State.writeHeader_keeps (h : Keeps s t) (h_ : Header) : Keeps s (t.writeHeader h_) := by
  have key : ∀ (u : State) (x : Header), Keeps s u →
      Keeps s { u.showHeader x with retain := { u.retain with digests := none } } :=
    fun u x k => (State.showHeader_keeps k x).trans ⟨rfl, rfl, rfl, rfl, rfl, fun w => ⟨w.regs, w.shadow, w.image, w.copies,
      w.ports, w.ups, w.secs, w.quads, w.faults, w.mbx, w.icuTimer, w.fixedAt, w.flash, w.journal⟩⟩
  unfold State.writeHeader
  refine key _ _ ?_
  split
  · exact h.flashProgram _ _
  · exact (h.flashErase _ _).flashProgram _ _

theorem State.begun_keeps (h : Keeps s t) : Keeps s (t.begun) := by
  unfold State.begun
  repeat' with_reducible first
    | assumption | apply State.bootStart_keeps | intro _ _ _ | intro _ _ | split

theorem State.holdReset_keeps (h : Keeps s t) (cause : Nat) : Keeps s (t.holdReset cause) := by
  unfold State.holdReset
  exact Keeps.upd (State.devReset_keeps h _) rfl

theorem State.settle_keeps (h : Keeps s t) : Keeps s (t.settle) := by
  unfold State.settle
  repeat' with_reducible first
    | assumption | intro _ _ _ | intro _ _ | split | apply Keeps.upd | exact rfl

theorem State.sampleStraps_keeps (h : Keeps s t) (strap : Nat) : Keeps s (t.sampleStraps strap) := by
  unfold State.sampleStraps
  repeat' with_reducible first
    | assumption | apply Keeps.wr

theorem State.rescueVbus_keeps (h : Keeps s t) (u : Nat) (present : Bool) : Keeps s (t.rescueVbus u present) := by
  unfold State.rescueVbus
  repeat' with_reducible first
    | assumption | apply Keeps.wr | apply Keeps.emit | apply State.mbxRelease_keeps | apply State.updAbort_keeps
    | intro _ _ _ | intro _ _ | split | apply Keeps.upd | exact rfl

theorem State.updIdle_keeps (h : Keeps s t) : Keeps s (t.updIdle) := by
  unfold State.updIdle
  repeat' with_reducible first
    | assumption | apply Keeps.wr

theorem State.commitLand_keeps (h : Keeps s t) (x : UpdX) : Keeps s (t.commitLand x) := by
  unfold State.commitLand
  repeat' with_reducible first
    | assumption | apply State.writeHeader_keeps | intro _ _ _ | intro _ _ | split | apply Keeps.upd | exact rfl

theorem State.updDone_keeps (h : Keeps s t) (x : UpdX) (readBack : Bool) : Keeps s (t.updDone x readBack) := by
  unfold State.updDone
  repeat' with_reducible first
    | assumption | apply Keeps.wr | apply Keeps.flag | apply State.journal_keeps | apply State.journalOpen_keeps
    | apply State.updIdle_keeps | apply State.writeHeader_keeps | intro _ _ _ | intro _ _ | split | apply Keeps.upd
    | exact rfl

theorem State.linkLost_keeps (h : Keeps s t) (i : Nat) : Keeps s (t.linkLost i) := by
  unfold State.linkLost
  repeat' with_reducible first
    | assumption | apply Keeps.wr | apply Keeps.raise | apply Keeps.bump | apply Keeps.orBits | apply Keeps.modSec

theorem State.linkBack_keeps (h : Keeps s t) (n : Nat) : Keeps s (t.linkBack n) := by
  unfold State.linkBack
  extract_lets s1 s2 s3 p s4 s5 s6
  have h1 : Keeps s s1 := State.evalDemand_keeps h n
  have h2 : Keeps s s2 := Keeps.ite (State.errorRecovery_keeps (h1.modPort n _) n) h1
  have h3 : Keeps s s3 := Keeps.ite (State.powerCut_keeps h2 n) h2
  have h4 : Keeps s s4 := Keeps.ite (State.fbiDrive_keeps h3 n _) h3
  have h5 : Keeps s s5 := Keeps.ite (State.ccOn_keeps h4 n) h4
  have h6 : Keeps s s6 := State.rpFollow_keeps (State.rpSettle_keeps h5 n) n
  exact State.tryApply_keeps (State.deliverStored_keeps (State.hresetRun_keeps (Keeps.ite (State.setIset_keeps h6 n) h6) n) n) n

theorem State.powerLost_keeps (h : Keeps s t) : Keeps s t.powerLost := by
  have h1 : Keeps s { t.devReset 1 with
      retain := Retain.reset, phase := .held, por := true, vioDue := true, strapDue := true } :=
    (State.devReset_keeps h 1).trans ⟨rfl, rfl, rfl, rfl, rfl, fun w => ⟨w.regs, w.shadow, w.image, w.copies, w.ports, w.ups,
      w.secs, w.quads, w.faults, w.mbx, w.icuTimer, w.fixedAt, w.flash, Nat.zero_le _⟩⟩
  have h2 : Keeps s { { t.devReset 1 with
      retain := Retain.reset, phase := .held, por := true, vioDue := true, strapDue := true } with
      boot := { (t.devReset 1).boot with openUpdate := false } } := Keeps.upd h1 rfl
  exact State.settle_keeps ((((h2.wr _ _).wr _ _).wr _ _).wr _ _)

theorem State.portDieOff_keeps (h : Keeps s t) (n : Nat) : Keeps s (t.portDieOff n) := by
  unfold State.portDieOff
  repeat' with_reducible first
    | assumption | apply Keeps.modPort | apply State.clearMark_keeps | apply State.discharge_keeps
    | apply State.dropPower_keeps | apply State.fbiHiZ_keeps | apply State.vbusLoss_keeps | intro _ _ _ | intro _ _
    | split

theorem State.dieDown_keeps (h : Keeps s t) (i : Nat) : Keeps s (t.dieDown i) := by
  unfold State.dieDown
  repeat' with_reducible first
    | assumption | apply Keeps.forEach | apply Keeps.wr | apply Keeps.orBits | apply Keeps.modSec
    | apply State.condBegin_keeps | apply State.linkLost_keeps | apply State.portDieOff_keeps | intro _ _ _
    | intro _ _ | split

theorem State.coreLow_keeps (h : Keeps s t) (x : Supply) : Keeps s (t.coreLow x) := by
  unfold State.coreLow
  repeat' with_reducible first
    | assumption | apply State.enterRescue_keeps | apply State.holdReset_keeps | apply State.settle_keeps
    | intro _ _ _ | intro _ _ | split | apply Keeps.upd | exact rfl

theorem State.pe1Return_keeps (h : Keeps s t) : Keeps s (t.pe1Return) := by
  unfold State.pe1Return
  repeat' with_reducible first
    | assumption | apply Keeps.forEach | apply Keeps.modPort | intro _ _ _ | intro _ _ | split | apply Keeps.upd
    | exact rfl

end Sys2Proof.Machine
end

