-- ==== Sys2Proof/Laws/KeepsAccess.lean ====
section
/-! SUPPORT. One lemma per operation of register writes, Tokel, Nightwatch, the Meridian and the boot steps: it keeps what every
operation keeps. -/

namespace Sys2Proof.Machine

variable {s t : State}

theorem State.metOff_keeps (h : Keeps s t) (off : Bool) : Keeps s (t.metOff off) := by
  unfold State.metOff
  repeat' with_reducible first
    | assumption | apply Keeps.bump | intro _ _ _ | intro _ _ | split

theorem State.shiftWords_keeps (r : Requester) (a k : Nat) (h : Keeps s t) : Keeps s (t.shiftWords r a k).2 := by
  induction k generalizing t a with
  | zero => exact h
  | succ k ih =>
    unfold State.shiftWords
    refine ih _ ?_
    split
    · exact State.readDone_keeps (State.sample_keeps h r _) _ _
    · exact State.sample_keeps h r _

theorem State.readData_keeps (h : Keeps s t) (r : Requester) (a n bad : Nat) : Keeps s (t.readData r a n bad).2.2 := by
  unfold State.readData
  repeat' with_reducible first
    | assumption | apply State.metOff_keeps | apply State.shiftWords_keeps | intro _ _ _ | intro _ _ | split

theorem State.lastErr_keeps (h : Keeps s t) (r : Requester) (c : Nat) : Keeps s (t.lastErr r c) := by
  unfold State.lastErr
  repeat' with_reducible first
    | assumption | apply Keeps.wr | intro _ _ _ | intro _ _ | split

theorem State.setResult_keeps (h : Keeps s t) (r : Requester) (c : Nat) : Keeps s (t.setResult r c) := by
  unfold State.setResult
  repeat' with_reducible first
    | assumption | apply Keeps.modUp | intro _ _ _ | intro _ _ | split | apply Keeps.upd | exact rfl

theorem State.wireStatus_keeps (h : Keeps s t) (onI2c : Bool) (clocked : Nat) : Keeps s (t.wireStatus onI2c clocked) := by
  unfold State.wireStatus
  repeat' with_reducible first
    | assumption | apply Keeps.emit | intro _ _ _ | intro _ _ | split | apply Keeps.upd | exact rfl

theorem State.wireRead_keeps (h : Keeps s t) (onI2c : Bool) (hdr : List Byte) (clocked : Nat) :
    Keeps s (t.wireRead onI2c hdr clocked) := by
  unfold State.wireRead
  repeat' with_reducible first
    | assumption | apply State.wireStatus_keeps | apply Keeps.emit | apply State.lastErr_keeps
    | apply State.readData_keeps | apply State.setResult_keeps | intro _ _ _ | intro _ _ | split | apply Keeps.upd | exact rfl

theorem State.storeWord_keeps (h : Keeps s t) (a v : Nat) : Keeps s (t.storeWord a v) := by
  unfold State.storeWord
  split
  · exact h
  · refine h.foldl _ _ (fun u f k => ?_)
    split
    · refine k.trans ⟨rfl, rfl, rfl, rfl, rfl, fun w => { w with regs := KMap.rising_put w.regs _ _ _, copies := ?_ }⟩
      simp only
      split
      · exact KMap.rising_erase w.copies _
      · exact w.copies
    · exact k

theorem State.bootEffect_keeps (h : Keeps s t) (r : Requester) (off v : Nat) : Keeps s (t.bootEffect r off v) := by
  unfold State.bootEffect
  repeat' with_reducible first
    | assumption | apply Keeps.wr | apply State.clearMarks_keeps | apply State.rbStart_keeps
    | apply State.rescueExit_keeps | apply State.updStart_keeps | intro _ _ _ | intro _ _ | split

theorem State.icuEffect_keeps (h : Keeps s t) (off v old : Nat) : Keeps s (t.icuEffect off v old) := by
  unfold State.icuEffect
  repeat' with_reducible first
    | assumption | apply State.cfgEffect_keeps | apply State.clrpendEffect_keeps | apply State.doneEffect_keeps
    | apply State.edge_keeps | apply State.targetReset_keeps | apply State.tctlEffect_keeps | intro _ _ _
    | intro _ _ | split | apply Keeps.upd | exact rfl

theorem State.pdctlEffect_keeps (h : Keeps s t) (n v old : Nat) : Keeps s (t.pdctlEffect n v old) := by
  unfold State.pdctlEffect
  repeat' with_reducible first
    | assumption | apply Keeps.modPort | apply State.hardReset_keeps | apply State.pdenEffect_keeps
    | apply State.queueAms_keeps | apply State.readvertise_keeps | intro _ _ _ | intro _ _ | split | apply Keeps.upd
    | exact rfl

theorem State.prtEffect_keeps (h : Keeps s t) (r : Requester) (n off v old : Nat) :
    Keeps s (t.prtEffect r n off v old) := by
  unfold State.prtEffect
  repeat' with_reducible first
    | assumption | apply State.almclrEffect_keeps | apply State.almenEffect_keeps | apply State.dsroleEffect_keeps
    | apply State.evalDemand_keeps | apply State.kickEffect_keeps | apply State.ldsPollLost_keeps
    | apply State.mtrPause_keeps | apply State.ownHold_keeps | apply State.pdctlEffect_keeps
    | apply State.prstrtEffect_keeps | apply State.rearmEffect_keeps | apply State.rpFollow_keeps
    | apply State.setIset_keeps | apply State.ttReset_keeps | intro _ _ _ | intro _ _ | split

theorem State.wordEffect_keeps (h : Keeps s t) (r : Requester) (a v old : Nat) (test : Option Bool) :
    Keeps s (t.wordEffect r a v old test) := by
  unfold State.wordEffect
  repeat' with_reducible first
    | assumption | apply Keeps.forEach | apply Keeps.wr | apply Keeps.free | apply State.ackEffect_keeps
    | apply State.bootEffect_keeps | apply State.clrlatchEffect_keeps | apply State.enEffect_keeps
    | apply State.evalDemand_keeps | apply State.faultpinEffect_keeps | apply State.fbicapEffect_keeps
    | apply State.goEffect_keeps | apply State.icuEffect_keeps | apply State.pcfgEffect_keeps
    | apply State.poolEffect_keeps | apply State.prtEffect_keeps | apply State.qcapEffect_keeps
    | apply State.rgnEffect_keeps | apply State.selEffect_keeps | apply State.slotlimEffect_keeps
    | apply State.upRoleEffect_keeps | intro _ _ _ | intro _ _ | split | apply Keeps.upd | exact rfl

theorem State.commitWord_keeps (h : Keeps s t) (r : Requester) (a v : Nat) (test : Option Bool) :
    Keeps s (t.commitWord r a v test) := by
  unfold State.commitWord
  repeat' with_reducible first
    | assumption | apply State.storeWord_keeps | apply State.wordEffect_keeps | intro _ _ _ | intro _ _ | split
    | apply Keeps.upd | exact rfl

theorem State.writeWords_keeps (k : State) (r : Requester) (a : Nat) (test : Option Bool) (l : List Nat) (h :
    Keeps s t) :
    Keeps s (t.writeWords k r a test l).2.2 := by
  induction l generalizing t a with
  | nil => exact h
  | cons v l ih =>
    unfold State.writeWords
    refine ih _ ?_
    split
    · split
      · exact State.commitWord_keeps h _ _ _ _
      · exact h
    · exact h

theorem State.writeFrame_keeps (h :
    Keeps s t) (r : Requester) (a : Nat) (vs : List Nat) (test : Option Bool) :
    Keeps s (t.writeFrame r a vs test).2 := by
  have hw := State.writeWords_keeps t r a test vs h
  unfold State.writeFrame
  exact Keeps.ite2 (State.lastErr_keeps h _ _) (Keeps.ite2 hw (State.lastErr_keeps (State.metOff_keeps h _) _ _))

theorem State.wireWrite_keeps (h : Keeps s t) (onI2c : Bool) (bytes : List Byte) : Keeps s (t.wireWrite onI2c bytes) := by
  unfold State.wireWrite
  extract_lets crc r k full short vs y x s1
  refine Keeps.ite h ?_
  have hy : Keeps s y.2 := State.writeFrame_keeps h _ _ _ _
  have hl : ∀ c, Keeps s (t.lastErr r c) := fun c => State.lastErr_keeps h r c
  have hx : Keeps s x.2 := by
    refine Keeps.ite2 (hl 5) (Keeps.ite2 (Keeps.ite2 (hl 5) (Keeps.ite2 (hl _) ?_)) (State.writeFrame_keeps h _ _ _ _))
    exact Keeps.ite2 (State.lastErr_keeps hy r 5) hy
  have h1 : Keeps s s1 := State.setResult_keeps hx _ _
  exact Keeps.ite h1 (h1.emit _)

theorem State.wireUnknown_keeps (h : Keeps s t) (onI2c : Bool) : Keeps s (t.wireUnknown onI2c) := by
  unfold State.wireUnknown
  repeat' with_reducible first
    | assumption | apply Keeps.emit | apply State.lastErr_keeps | intro _ _ _ | intro _ _ | split | apply Keeps.upd
    | exact rfl

theorem State.serveI2c_keeps (h : Keeps s t) (f : I2cFrame) : Keeps s (t.serveI2c f) := by
  unfold State.serveI2c
  repeat' with_reducible first
    | assumption | apply State.wireRead_keeps | apply State.wireStatus_keeps | apply State.wireUnknown_keeps
    | apply State.wireWrite_keeps | intro _ _ _ | intro _ _ | split

theorem State.vendorSetup_keeps (h : Keeps s t) (u : Fin 5) : Keeps s (t.vendorSetup u) := by
  unfold State.vendorSetup
  repeat' with_reducible first
    | assumption | apply State.ctlAbort_keeps | intro _ _ _ | intro _ _ | split | apply Keeps.upd | exact rfl

theorem State.clearWords_keeps (l : List (Nat × Nat)) (a : Nat) (h : Keeps s t) : Keeps s (t.clearWords a l) := by
  induction l generalizing t a with
  | nil => exact h
  | cons e l ih =>
    unfold State.clearWords
    refine ih _ ?_
    split
    · exact State.readDone_keeps h _ _
    · exact h

theorem State.sampleWords_keeps (r : Requester) (a k : Nat) (h : Keeps s t) : Keeps s (t.sampleWords r a k).2 := by
  induction k generalizing t a with
  | zero => exact h
  | succ k ih =>
    unfold State.sampleWords
    exact ih _ (State.sample_keeps h r _)

theorem State.setTj_keeps (h : Keeps s t) (tj peak : Field) (v : Nat) : Keeps s (t.setTj tj peak v) := by
  unfold State.setTj
  repeat' with_reducible first
    | assumption | apply Keeps.wr

theorem State.takePort_keeps (h : Keeps s t) (n : Nat) (m : PortSample) : Keeps s (t.takePort n m) := by
  unfold State.takePort
  repeat' with_reducible first
    | assumption | apply Keeps.wr | apply Keeps.flag | apply Keeps.modPort | intro _ _ _ | intro _ _ | split

theorem State.quadHot_keeps (h : Keeps s t) (q : Nat) : Keeps s (t.quadHot q) := by
  unfold State.quadHot
  repeat' with_reducible first
    | assumption | apply Keeps.wr | apply Keeps.raise | intro _ _ _ | intro _ _ | split | apply Keeps.upd
    | exact rfl

theorem State.quadNtc_keeps (h : Keeps s t) (q : Nat) (bad : Bool) : Keeps s (t.quadNtc q bad) := by
  unfold State.quadNtc
  repeat' with_reducible first
    | assumption | apply Keeps.wr | apply Keeps.raise | apply State.condBegin_keeps | apply State.condEnd_keeps
    | intro _ _ _ | intro _ _ | split

theorem State.quadOver_keeps (h : Keeps s t) (q : Nat) : Keeps s (t.quadOver q) := by
  unfold State.quadOver
  repeat' with_reducible first
    | assumption | apply Keeps.modQuad | apply State.condEnd_keeps | intro _ _ _ | intro _ _ | split

theorem State.takeQuad_keeps (h : Keeps s t) (q : Nat) (m : QuadSample) : Keeps s (t.takeQuad q m) := by
  unfold State.takeQuad
  repeat' with_reducible first
    | assumption | apply Keeps.wr | apply State.quadHot_keeps | apply State.quadNtc_keeps
    | apply State.quadOver_keeps | intro _ _ _ | intro _ _ | split

theorem State.dieCool_keeps (h : Keeps s t) (i : Nat) : Keeps s (t.dieCool i) := by
  unfold State.dieCool
  repeat' with_reducible first
    | assumption | apply Keeps.forEach | apply Keeps.modSec | apply State.condEnd_keeps | apply State.tryApply_keeps
    | intro _ _ _ | intro _ _ | split

theorem State.takeDie_keeps (h : Keeps s t) (i : Nat) (v : Nat) : Keeps s (t.takeDie i v) := by
  unfold State.takeDie
  repeat' with_reducible first
    | assumption | apply State.dieCool_keeps | apply State.setTj_keeps | intro _ _ _ | intro _ _ | split

theorem State.takeCore_keeps (h : Keeps s t) (v : Nat) : Keeps s (t.takeCore v) := by
  unfold State.takeCore
  repeat' with_reducible first
    | assumption | apply State.condEnd_keeps | apply State.setTj_keeps | intro _ _ _ | intro _ _ | split

theorem State.takeSamples_keeps (h : Keeps s t) (m : Samples) : Keeps s (t.takeSamples m) := by
  unfold State.takeSamples
  repeat' with_reducible first
    | assumption | apply Keeps.foldl | apply State.takeCore_keeps | apply State.takeDie_keeps
    | apply State.takePort_keeps | apply State.takeQuad_keeps | intro _ _ _

theorem State.thermal_keeps (h : Keeps s t) (m : Samples) (n : Nat) : Keeps s (t.thermal m n) := by
  unfold State.thermal
  repeat' with_reducible first
    | assumption | apply Keeps.wr | apply Keeps.raise | apply Keeps.modPort | apply State.trip_keeps
    | apply State.tryApply_keeps | intro _ _ _ | intro _ _ | split | apply Keeps.upd | exact rfl

theorem State.thermalAll_keeps (h : Keeps s t) (m : Samples) : Keeps s (t.thermalAll m) := by
  unfold State.thermalAll
  repeat' with_reducible first
    | assumption | apply Keeps.forEach | apply State.thermal_keeps | intro _ _ _ | intro _ _ | split

theorem State.showFbi_keeps (h : Keeps s t) (n : Nat) : Keeps s (t.showFbi n) := by
  unfold State.showFbi
  repeat' with_reducible first
    | assumption | apply Keeps.wr | apply Keeps.free | apply State.trim_keeps | intro _ _ _ | intro _ _ | split
    | apply Keeps.upd | exact rfl

theorem State.trimStep_keeps (h : Keeps s t) (n : Nat) : Keeps s (t.trimStep n) := by
  unfold State.trimStep
  repeat' with_reducible first
    | assumption | apply Keeps.modPort | apply Keeps.emit | apply State.trim_keeps | intro _ _ _ | intro _ _ | split
    | apply Keeps.upd | exact rfl

theorem State.showPort_keeps (h : Keeps s t) (n : Nat) : Keeps s (t.showPort n) := by
  unfold State.showPort
  repeat' with_reducible first
    | assumption | apply Keeps.wr | apply Keeps.flag | apply State.setIset_keeps | apply State.showFbi_keeps
    | intro _ _ _ | intro _ _ | split

theorem State.showAlm_keeps (h : Keeps s t) (n : Nat) (e : Nat × AlmEntry) : Keeps s (t.showAlm n e) := by
  unfold State.showAlm
  repeat' with_reducible first
    | assumption | apply Keeps.wr | apply Keeps.flag | apply Keeps.free | intro _ _ _ | intro _ _ | split
    | apply Keeps.upd | exact rfl

theorem State.showAlms_keeps (h : Keeps s t) : Keeps s t.showAlms := by
  unfold State.showAlms
  refine Keeps.forEach (Keeps.setRegs h _ (fun w => KMap.rising_filter w _)) _ _ ?_
  intro u n k
  refine k.foldl _ _ (fun v e j => ?_)
  split
  · exact j
  · exact State.showAlm_keeps j _ _

theorem State.showBlocks_keeps (h : Keeps s t) : Keeps s (t.showBlocks) := by
  unfold State.showBlocks
  repeat' with_reducible first
    | assumption | apply Keeps.wr | apply Keeps.flag | apply Keeps.modSw

theorem State.snapFaults_keeps (h : Keeps s t) : Keeps s (t.snapFaults) := by
  unfold State.snapFaults
  repeat' with_reducible first
    | assumption | apply State.record_keeps | intro _ _ _ | intro _ _ | split | apply Keeps.upd | exact rfl

theorem State.ldsHalt_keeps (h : Keeps s t) (n : Nat) : Keeps s (t.ldsHalt n) := by
  unfold State.ldsHalt
  repeat' with_reducible first
    | assumption | apply Keeps.modPort | apply State.setEntry_keeps | intro _ _ _ | intro _ _ | split

theorem State.ldsBegin_keeps (h : Keeps s t) (n : Nat) : Keeps s (t.ldsBegin n) := by
  unfold State.ldsBegin
  repeat' with_reducible first
    | assumption | apply State.ldsConnect_keeps | apply State.setEntry_keeps | intro _ _ _ | intro _ _ | split

theorem State.ldsStart_keeps (h : Keeps s t) (n : Nat) : Keeps s (t.ldsStart n) := by
  unfold State.ldsStart
  repeat' with_reducible first
    | assumption | apply State.ldsConnect_keeps | apply State.setEntry_keeps | intro _ _ _ | intro _ _ | split
    | apply Keeps.upd | exact rfl

theorem State.ldsMeridian_keeps (h : Keeps s t) : Keeps s (t.ldsMeridian) := by
  unfold State.ldsMeridian
  repeat' with_reducible first
    | assumption | apply Keeps.forEach | apply Keeps.modPort | apply Keeps.modLds | apply State.ldsBegin_keeps
    | apply State.ldsHalt_keeps | apply State.ldsStart_keeps | apply State.portSof_keeps | intro _ _ _ | intro _ _
    | split | apply Keeps.upd | exact rfl

theorem State.showAgain_keeps (h : Keeps s t) (n : Nat) : Keeps s (t.showAgain n) := by
  unfold State.showAgain
  repeat' with_reducible first
    | assumption | apply Keeps.raise | apply Keeps.modPort | apply Keeps.hubEvt | apply State.setHub_keeps
    | intro _ _ _ | intro _ _ | split

theorem State.showUps_keeps (h : Keeps s t) (u : Nat) : Keeps s (t.showUps u) := by
  unfold State.showUps
  repeat' with_reducible first
    | assumption | apply Keeps.forEach | apply Keeps.modUp | apply State.showAgain_keeps | intro _ _ _ | intro _ _
    | split

theorem State.ledMeridian_keeps (h : Keeps s t) (i : Nat) : Keeps s (t.ledMeridian i) := by
  unfold State.ledMeridian
  repeat' with_reducible first
    | assumption | apply State.sendLed_keeps | intro _ _ _ | intro _ _ | split

theorem State.viewStep_keeps (h : Keeps s t) (old : Store) (u n : Nat) : Keeps s (t.viewStep old u n) := by
  unfold State.viewStep
  repeat' with_reducible first
    | assumption | apply Keeps.setView | intro _ _ _ | intro _ _ | split

theorem State.showChanges_keeps (h : Keeps s t) (n : Nat) : Keeps s (t.showChanges n) := by
  unfold State.showChanges
  repeat' with_reducible first
    | assumption | apply Keeps.foldl | apply Keeps.raise | intro _ _ _

/-- The next shadow is in canonical form where the registers and the shadow are. -/
theorem State.nextShadow_rising (hr : KMap.rising t.regs) (hs : KMap.rising t.shadow) : KMap.rising t.nextShadow := by
  unfold State.nextShadow
  split
  · refine KMap.rising_merge _ (KMap.rising_filter hr _) (KMap.rising_filter hs _) ?_
    intro e he f hf h
    simp only [List.mem_filter, Bool.not_eq_true'] at he hf
    rw [h, hf.2] at he
    exact absurd he.2 (by decide)
  · exact hr

theorem State.publish_keeps (h : Keeps s t) : Keeps s t.publish := by
  have step : ∀ u : State, Keeps s u → Keeps s { u with shadow := u.nextShadow } := fun u k => k.trans
    ⟨rfl, rfl, rfl, rfl, rfl, fun w => { w with shadow := State.nextShadow_rising w.regs w.shadow }⟩
  unfold State.publish
  extract_lets old s0 s1 s2 s3 due
  have h0 : Keeps s s0 := h.forEach _ _ (fun u n k => Keeps.ite k (State.showChanges_keeps k n))
  have h2 : Keeps s s2 :=
    (step s0 h0).forEach _ _ (fun u n k => k.forEach _ _ (fun v m j => State.viewStep_keeps j _ _ _))
  have h3 : Keeps s s3 := h2.forEach _ _ (fun u n k => Keeps.ite k (k.modPort _ _))
  exact (Keeps.upd h3 rfl).forEach _ _ (fun u i k => State.edge_keeps k i)

theorem State.ageSlots_keeps (h : Keeps s t) (n : Nat) : Keeps s (t.ageSlots n) := by
  unfold State.ageSlots
  repeat' with_reducible first
    | assumption | apply Keeps.modPort | intro _ _ _ | intro _ _ | split

theorem State.routeMeridian_keeps (h : Keeps s t) : Keeps s (t.routeMeridian) := by
  unfold State.routeMeridian
  repeat' with_reducible first
    | assumption | apply Keeps.forEach | apply Keeps.modUp | apply State.rtApply_keeps | intro _ _ _ | intro _ _
    | split | apply Keeps.upd | exact rfl

theorem State.tick_keeps (h : Keeps s t) : Keeps s (t.tick) := by
  unfold State.tick
  repeat' with_reducible first
    | assumption | apply Keeps.wr | intro _ _ _ | intro _ _ | split | apply Keeps.upd | exact rfl

theorem State.meridianRun_keeps (h : Keeps s t) (m : Samples) : Keeps s (t.meridianRun m) := by
  unfold State.meridianRun
  repeat' with_reducible first
    | assumption | apply Keeps.forEach | apply State.ageSlots_keeps | apply State.ldsMeridian_keeps
    | apply State.ledMeridian_keeps | apply State.mbxTake_keeps | apply State.publish_keeps
    | apply State.recomputeAllowances_keeps | apply State.routeMeridian_keeps | apply State.sampleRequests_keeps
    | apply State.serveWaiting_keeps | apply State.showAlms_keeps | apply State.showBlocks_keeps
    | apply State.showPort_keeps | apply State.showUps_keeps | apply State.snapFaults_keeps
    | apply State.takeSamples_keeps | apply State.thermalAll_keeps | apply State.tick_keeps
    | apply State.trimStep_keeps | intro _ _ _ | intro _ _ | split | apply Keeps.upd | exact rfl

theorem State.icuFlush_keeps (h : Keeps s t) : Keeps s (t.icuFlush) := by
  unfold State.icuFlush
  repeat' with_reducible first
    | assumption | apply Keeps.forEach | apply Keeps.wr | apply Keeps.eraseCopy | apply Keeps.timer
    | apply State.deliver_keeps | intro _ _ _

theorem State.sleepAbort_keeps (h : Keeps s t) (block : Nat) (tmo : Bool) : Keeps s (t.sleepAbort block tmo) := by
  unfold State.sleepAbort
  repeat' with_reducible first
    | assumption | apply Keeps.wr | apply Keeps.flag | apply Keeps.bump | apply State.edgeAtMeridian_keeps
    | intro _ _ _ | intro _ _ | split | apply Keeps.upd | exact rfl

theorem State.sleepRefuse_keeps (h : Keeps s t) (k : Nat) (tmo : Bool) : Keeps s (t.sleepRefuse k tmo) := by
  unfold State.sleepRefuse
  repeat' with_reducible first
    | assumption | apply Keeps.wr | apply State.sleepAbort_keeps

theorem State.enterDusk_keeps (h : Keeps s t) : Keeps s (t.enterDusk) := by
  unfold State.enterDusk
  repeat' with_reducible first
    | assumption | apply Keeps.forEach | apply Keeps.wr | apply Keeps.bump | apply Keeps.modPort | intro _ _ _
    | intro _ _ | split | apply Keeps.upd | exact rfl

theorem State.enterEclipse_keeps (h : Keeps s t) : Keeps s (t.enterEclipse) := by
  unfold State.enterEclipse
  repeat' with_reducible first
    | assumption | apply Keeps.forEach | apply Keeps.wr | apply Keeps.bump | apply Keeps.modPort | apply Keeps.emit
    | apply State.fbiHiZ_keeps | intro _ _ _ | intro _ _ | split | apply Keeps.upd | exact rfl

theorem State.wakeEvent_keeps (h : Keeps s t) (cause src detail : Nat) : Keeps s (t.wakeEvent cause src detail) := by
  unfold State.wakeEvent
  repeat' with_reducible first
    | assumption | apply Keeps.wr | apply Keeps.raise | apply State.sleepAbort_keeps | intro _ _ _ | intro _ _
    | split | apply Keeps.upd | exact rfl

theorem State.i2cFrame_keeps (h : Keeps s t) (f : I2cFrame) : Keeps s (t.i2cFrame f) := by
  unfold State.i2cFrame
  repeat' with_reducible first
    | assumption | apply Keeps.emit | apply State.serveI2c_keeps | apply State.wakeEvent_keeps | intro _ _ _
    | intro _ _ | split | apply Keeps.upd | exact rfl

theorem State.releaseI2c_keeps (h : Keeps s t) : Keeps s (t.releaseI2c) := by
  unfold State.releaseI2c
  repeat' with_reducible first
    | assumption | apply State.serveI2c_keeps | intro _ _ _ | intro _ _ | split | apply Keeps.upd | exact rfl

theorem State.runDue_keeps (h : Keeps s t) : Keeps s (t.runDue) := by
  unfold State.runDue
  repeat' with_reducible first
    | assumption | apply Keeps.foldl | apply State.wordEffect_keeps | intro _ _ _ | intro _ _ | split
    | apply Keeps.upd | exact rfl

theorem State.ldsWake_keeps (h : Keeps s t) (n : Nat) : Keeps s (t.ldsWake n) := by
  unfold State.ldsWake
  repeat' with_reducible first
    | assumption | apply State.driveK_keeps | intro _ _ _ | intro _ _ | split

theorem State.portBack_keeps (h : Keeps s t) (n : Nat) : Keeps s (t.portBack n) := by
  unfold State.portBack
  repeat' with_reducible first
    | assumption | apply Keeps.modPort | apply State.deliverStored_keeps | apply State.detach_keeps
    | apply State.ldsWake_keeps | intro _ _ _ | intro _ _ | split

theorem State.vbusSync_keeps (h : Keeps s t) : Keeps s (t.vbusSync) := by
  unfold State.vbusSync
  repeat' with_reducible first
    | assumption | apply Keeps.forEach | apply State.vbusChange_keeps | intro _ _ _ | intro _ _ | split

theorem State.resumeBack_keeps (h : Keeps s t) (u : Nat) : Keeps s (t.resumeBack u) := by
  unfold State.resumeBack
  repeat' with_reducible first
    | assumption | apply Keeps.raise | apply Keeps.modUp | apply State.partResume_keeps | intro _ _ _ | intro _ _
    | split

theorem State.stepRec_keeps (h : Keeps s t) (code inst : Nat) (x : StepOut) : Keeps s (t.stepRec code inst x) := by
  unfold State.stepRec
  repeat' with_reducible first
    | assumption | apply Keeps.free | apply State.journalOpen_keeps | intro _ _ _ | intro _ _ | split

theorem State.toStep_keeps (h : Keeps s t) (k : Nat) : Keeps s (t.toStep k) := by
  unfold State.toStep
  repeat' with_reducible first
    | assumption | intro _ _ _ | intro _ _ | split | apply Keeps.upd | exact rfl

theorem State.stepDone_keeps (h : Keeps s t) (x : StepOut) : Keeps s (t.stepDone x) := by
  unfold State.stepDone
  repeat' with_reducible first
    | assumption | apply State.stepRec_keeps | apply State.toStep_keeps

theorem State.stepFail_keeps (h : Keeps s t) (x : StepOut) : Keeps s (t.stepFail x) := by
  unfold State.stepFail
  repeat' with_reducible first
    | assumption | apply State.setMark_keeps | apply State.stepRec_keeps | intro _ _ _ | intro _ _ | split
    | apply Keeps.upd | exact rfl

theorem State.usesAlt_keeps (h : Keeps s t) (k : Nat) : Keeps s (t.usesAlt k) := by
  unfold State.usesAlt
  repeat' with_reducible first
    | assumption | intro _ _ _ | intro _ _ | split | apply Keeps.upd | exact rfl

theorem State.step1_keeps (h : Keeps s t) : Keeps s (t.step1) := by
  unfold State.step1
  repeat' with_reducible first
    | assumption | apply Keeps.forEach | apply Keeps.wr | apply Keeps.flag | apply State.stepDone_keeps
    | apply State.upUnattached_keeps | intro _ _ _ | intro _ _ | split | apply Keeps.upd | exact rfl

theorem State.step2_keeps (h : Keeps s t) (ok : Bool) : Keeps s (t.step2 ok) := by
  unfold State.step2
  repeat' with_reducible first
    | assumption | apply Keeps.wr | apply Keeps.flag | apply State.enterRescue_keeps | apply State.flashOpen_keeps
    | apply State.showHeader_keeps | apply State.stepDone_keeps | apply State.stepFail_keeps
    | apply State.usesAlt_keeps | intro _ _ _ | intro _ _ | split | apply Keeps.upd | exact rfl

theorem State.step3_keeps (h : Keeps s t) : Keeps s (t.step3) := by
  unfold State.step3
  repeat' with_reducible first
    | assumption | apply State.stepDone_keeps | apply State.stepFail_keeps | intro _ _ _ | intro _ _ | split
    | apply Keeps.upd | exact rfl

theorem State.fullInstead_keeps (h : Keeps s t) : Keeps s (t.fullInstead) := by
  unfold State.fullInstead
  repeat' with_reducible first
    | assumption | apply Keeps.wr | intro _ _ _ | intro _ _ | split | apply Keeps.upd | exact rfl

theorem State.step4_keeps (h : Keeps s t) : Keeps s (t.step4) := by
  unfold State.step4
  repeat' with_reducible first
    | assumption | apply Keeps.wr | apply State.fullInstead_keeps | apply State.stepDone_keeps
    | apply State.stepFail_keeps | intro _ _ _ | intro _ _ | split

theorem State.combination_keeps (h : Keeps s t) (restrict : Bool) : Keeps s (t.combination restrict) := by
  unfold State.combination
  repeat' with_reducible first
    | assumption | apply State.stepDone_keeps | intro _ _ _ | intro _ _ | split | apply Keeps.upd | exact rfl

theorem State.step5_keeps (h : Keeps s t) : Keeps s (t.step5) := by
  unfold State.step5
  repeat' with_reducible first
    | assumption | apply State.combination_keeps | apply State.stepFail_keeps | intro _ _ _ | intro _ _ | split

theorem State.step6_keeps (h : Keeps s t) (sramOk : Bool) : Keeps s (t.step6 sramOk) := by
  unfold State.step6
  repeat' with_reducible first
    | assumption | apply State.engineRun_keeps | apply State.loadTables_keeps | apply State.stepDone_keeps
    | apply State.stepFail_keeps | apply State.updWake_keeps | intro _ _ _ | intro _ _ | split

theorem State.applyRecord_keeps (h : Keeps s t) (r : RegRecord) : Keeps s (t.applyRecord r).2 := by
  have hx : Keeps s (t.shiftWords .records r.addr 1).2 := State.shiftWords_keeps .records r.addr 1 h
  unfold State.applyRecord
  exact Keeps.ite2 h (Keeps.ite2 (State.writeFrame_keeps h _ _ _ _) (Keeps.ite2 (State.writeFrame_keeps hx _ _ _ _) hx))

theorem State.applyRecords_keeps (l : List RegRecord) (i : Nat) (h : Keeps s t) : Keeps s (t.applyRecords i l).2 := by
  induction l generalizing t i with
  | nil => exact h
  | cons r l ih =>
    unfold State.applyRecords
    extract_lets
    split
    · exact ih _ (State.applyRecord_keeps h r)
    · exact State.applyRecord_keeps h r

theorem State.restrictNow_keeps (h : Keeps s t) : Keeps s (t.restrictNow) := by
  unfold State.restrictNow
  repeat' with_reducible first
    | assumption | apply Keeps.forEach | apply Keeps.wr | intro _ _ _

theorem State.takeImage_keeps (h : Keeps s t) : Keeps s t.takeImage := by
  unfold State.takeImage
  exact h.trans ⟨rfl, rfl, rfl, rfl, rfl, fun w => { w with image := KMap.rising_filter w.regs _ }⟩

theorem State.step7_keeps (h : Keeps s t) : Keeps s (t.step7) := by
  unfold State.step7
  repeat' with_reducible first
    | assumption | apply State.applyRecords_keeps | apply State.restrictNow_keeps | apply State.stepDone_keeps
    | apply State.stepFail_keeps | apply State.stepRec_keeps | apply State.takeImage_keeps | intro _ _ _ | intro _ _
    | split | apply Keeps.upd | exact rfl

theorem State.useIdent_keeps (h : Keeps s t) (q src : Nat) (i : Option Ident) : Keeps s (t.useIdent q src i) := by
  unfold State.useIdent
  repeat' with_reducible first
    | assumption | apply Keeps.wr | apply Keeps.modQuad | intro _ _ _ | intro _ _ | split | apply Keeps.upd
    | exact rfl

theorem State.noIdent_keeps (h : Keeps s t) (q : Nat) : Keeps s (t.noIdent q) := by
  unfold State.noIdent
  repeat' with_reducible first
    | assumption | apply State.record_keeps | apply State.useIdent_keeps

theorem State.identFail_keeps (h : Keeps s t) (q : Nat) : Keeps s (t.identFail q) := by
  unfold State.identFail
  repeat' with_reducible first
    | assumption | apply Keeps.raise

theorem State.identRead_keeps (h : Keeps s t) (q : Nat) (bs : List Byte) (d : Ident) : Keeps s (t.identRead q bs d) := by
  unfold State.identRead
  repeat' with_reducible first
    | assumption | apply State.cacheWrite_keeps | apply State.useIdent_keeps | intro _ _ _ | intro _ _ | split
    | apply Keeps.upd | exact rfl

theorem State.identNormal_keeps (h : Keeps s t) (q : Nat) (mem : Option (List Byte)) :
    Keeps s (t.identNormal q mem).2 := by
  unfold State.identNormal
  repeat' with_reducible first
    | assumption | apply State.identFail_keeps | apply State.identRead_keeps | apply State.noIdent_keeps
    | apply State.setMark_keeps | apply State.useIdent_keeps | intro _ _ _ | intro _ _ | split

theorem State.identMarked_keeps (h : Keeps s t) (q : Nat) (mem : Option (List Byte)) :
    Keeps s (t.identMarked q mem).2 := by
  unfold State.identMarked
  repeat' with_reducible first
    | assumption | apply Keeps.modQuad | apply State.clearMarks_keeps | apply State.identFail_keeps
    | apply State.identRead_keeps | apply State.noIdent_keeps | apply State.useIdent_keeps
    | apply State.usesAlt_keeps | intro _ _ _ | intro _ _ | split

theorem State.lowerIlim_keeps (h : Keeps s t) (q : Nat) : Keeps s (t.lowerIlim q).2 := by
  unfold State.lowerIlim
  exact h.forEach _ _ (fun u n k => (k.load _ _).eraseCopy _)

theorem State.identStep_keeps (h : Keeps s t) (q : Nat) (quick : Bool) (mem : Option (List Byte)) :
    Keeps s (t.identStep q quick mem).2 := by
  unfold State.identStep
  repeat' with_reducible first
    | assumption | apply State.identMarked_keeps | apply State.identNormal_keeps | apply State.lowerIlim_keeps
    | apply State.useIdent_keeps | intro _ _ _ | intro _ _ | split

theorem State.nextInst_keeps (h : Keeps s t) (k : Nat) : Keeps s (t.nextInst k) := by
  unfold State.nextInst
  repeat' with_reducible first
    | assumption | apply State.toStep_keeps | intro _ _ _ | intro _ _ | split | apply Keeps.upd | exact rfl

theorem State.step8_keeps (h : Keeps s t) (mem : Option (List Byte)) : Keeps s (t.step8 mem) := by
  unfold State.step8
  repeat' with_reducible first
    | assumption | apply State.identStep_keeps | apply State.nextInst_keeps | apply State.stepRec_keeps

theorem State.linkUp_keeps (h : Keeps s t) (i red : Nat) : Keeps s (t.linkUp i red) := by
  unfold State.linkUp
  repeat' with_reducible first
    | assumption | apply Keeps.wr | apply Keeps.raise | apply Keeps.orBits | apply Keeps.modSec
    | apply State.condEnd_keeps | intro _ _ _ | intro _ _ | split

theorem State.linkDead_keeps (h : Keeps s t) (i : Nat) : Keeps s (t.linkDead i) := by
  unfold State.linkDead
  repeat' with_reducible first
    | assumption | apply Keeps.wr | apply State.condBegin_keeps

theorem State.linkStep_keeps (h : Keeps s t) (i : Nat) (full reduced : Bool) : Keeps s (t.linkStep i full reduced).2 := by
  unfold State.linkStep
  repeat' with_reducible first
    | assumption | apply State.linkDead_keeps | apply State.linkUp_keeps | apply State.setMark_keeps
    | apply State.usesAlt_keeps | intro _ _ _ | intro _ _ | split

theorem State.step9_keeps (h : Keeps s t) (full reduced : Bool) : Keeps s (t.step9 full reduced) := by
  unfold State.step9
  repeat' with_reducible first
    | assumption | apply State.linkStep_keeps | apply State.nextInst_keeps | apply State.stepRec_keeps

theorem State.stepA_keeps (h : Keeps s t) (ok : Bool) (trim : Nat) : Keeps s (t.stepA ok trim) := by
  unfold State.stepA
  repeat' with_reducible first
    | assumption | apply State.cacheWrite_keeps | apply State.setMark_keeps | apply State.stepDone_keeps
    | apply State.usesAlt_keeps | intro _ _ _ | intro _ _ | split | apply Keeps.upd | exact rfl

theorem State.stepB_keeps (h : Keeps s t) : Keeps s (t.stepB) := by
  unfold State.stepB
  repeat' with_reducible first
    | assumption | apply Keeps.forEach | apply State.engineRun_keeps | apply State.stepDone_keeps | intro _ _ _

theorem State.stepC_keeps (h : Keeps s t) : Keeps s (t.stepC) := by
  unfold State.stepC
  repeat' with_reducible first
    | assumption | apply Keeps.forEach | apply State.attachPers_keeps | apply State.stepRec_keeps
    | apply State.toStep_keeps | intro _ _ _

theorem State.stepD_keeps (h : Keeps s t) : Keeps s (t.stepD) := by
  unfold State.stepD
  repeat' with_reducible first
    | assumption | apply Keeps.forEach | apply State.armSector_keeps | apply State.stepDone_keeps | intro _ _ _
    | intro _ _ | split | apply Keeps.upd | exact rfl

theorem State.fallbackWrite_keeps (h : Keeps s t) : Keeps s (t.fallbackWrite) := by
  unfold State.fallbackWrite
  repeat' with_reducible first
    | assumption | apply State.clearMarks_keeps | apply State.journal_keeps | apply State.writeHeader_keeps
    | intro _ _ _ | intro _ _ | split

theorem State.stepE_keeps (h : Keeps s t) : Keeps s (t.stepE) := by
  unfold State.stepE
  repeat' with_reducible first
    | assumption | apply Keeps.wr | apply State.fallbackWrite_keeps | apply State.releaseI2c_keeps
    | apply State.showBoot_keeps | apply State.stepRec_keeps | apply State.toStep_keeps | intro _ _ _ | intro _ _
    | split | apply Keeps.upd | exact rfl

end Sys2Proof.Machine
end

