-- ==== Sys2Proof/Laws/Only.lean ====
section
/-! SUPPORT. What an operation may change: one rule per named update, in terms of a set of parts that are allowed to
change. The files Laws/Only* hold one lemma per shared operation, which lists every part the operation can write. -/

namespace Sys2Proof.Machine

/-- From `s` to `t` only parts in `P` change. -/
def Only (P : Part → Prop) (s t : State) : Prop := ∀ p : Part, ¬ P p → p.same s t

/-- A list of places as a set of parts. -/
theorem ChangesOnly.of_only {l : List Spot} {s t : State} (h : Only (fun p => ∃ x ∈ l, x.has p) s t) :
    ChangesOnly l s t := fun p hp => h p (fun ⟨x, hx, hxp⟩ => hp x hx hxp)

namespace Only

variable {P : Part → Prop} {s t : State}

theorem refl (P : Part → Prop) (s : State) : Only P s s := by
  intro p _
  cases p <;> simp [Part.same]

theorem trans {u : State} (h : Only P s t) (k : Only P t u) : Only P s u := by
  intro p hp
  have a := h p hp
  have b := k p hp
  cases p <;> simp only [Part.same] at a b ⊢
  case field => exact fun g hg => (b g hg).trans (a g hg)
  all_goals exact b.trans a

/-- A record update: each field that it may change is in `P` or is given its own value. -/
theorem upd
    {shadow_ : Store} {image_ : Store} {copies_ : KMap (Nat × Nat × Nat)} {sw_ : SwX} {boot_ : BootX}
    {retain_ : Retain} {rescue_ : RescueX} {sleep_ : SleepX} {upd_ : Option UpdX} {fuseGoal_ : Option Nat}
    {fuses_ : Nat} {phase_ : Phase} {safe_ : Bool} {stopped_ : List Nat} {missed_ : List (Nat × Nat)} {now_ : Nat}
    {icuTimer_ : KMap (Option Nat)} {faultWidth_ : Bool} {resetDue_ : Bool} {low_ : List Supply} {vbusU_ : List Nat}
    {resetN_ : Bool} {por_ : Bool} {idleAt_ : Nat} {fixedAt_ : KMap Nat} {duskDue_ : List (Nat × Nat)}
    {lastSpi_ : Nat} {lastI2c_ : Nat} {edgeDue_ : List Nat} {poolTrig_ : Bool} {shedDue_ : Bool} {ldsSeq_ : Nat}
    {ldsRan_ : Bool} {ldsProfiles_ : List Byte} {pdTable_ : Nat × Nat × Nat × Nat} {flash_ : List Host.Cell}
    {freeCtr_ : Nat} {outs_ : List Out} {vioDue_ : Bool} {strapDue_ : Bool}
    {vbusHigh_ : List Nat} {heldI2c_ : Option I2cFrame}
    (h : Only P s t)
    (h_shadow : P .shadow ∨ shadow_ = t.shadow) (h_image : P .image ∨ image_ = t.image)
    (h_copies : P .copies ∨ copies_ = t.copies) (h_sw : P .sw ∨ sw_ = t.sw) (h_boot : P .boot ∨ boot_ = t.boot)
    (h_retain : P .retain ∨ retain_ = t.retain) (h_rescue : P .rescue ∨ rescue_ = t.rescue)
    (h_sleep : P .sleep ∨ sleep_ = t.sleep) (h_upd : P .upd ∨ upd_ = t.upd)
    (h_fuseGoal : P .fuseGoal ∨ fuseGoal_ = t.fuseGoal) (h_fuses : P .fuses ∨ fuses_ = t.fuses)
    (h_phase : P .phase ∨ phase_ = t.phase) (h_safe : P .safe ∨ safe_ = t.safe)
    (h_stopped : P .stopped ∨ stopped_ = t.stopped) (h_missed : P .missed ∨ missed_ = t.missed)
    (h_now : P .now ∨ now_ = t.now) (h_icuTimer : P .icuTimer ∨ icuTimer_ = t.icuTimer)
    (h_faultWidth : P .faultWidth ∨ faultWidth_ = t.faultWidth) (h_resetDue : P .resetDue ∨ resetDue_ = t.resetDue)
    (h_low : P .low ∨ low_ = t.low) (h_vbusU : P .vbusU ∨ vbusU_ = t.vbusU)
    (h_resetN : P .resetN ∨ resetN_ = t.resetN) (h_por : P .por ∨ por_ = t.por)
    (h_idleAt : P .idleAt ∨ idleAt_ = t.idleAt) (h_fixedAt : P .fixedAt ∨ fixedAt_ = t.fixedAt)
    (h_duskDue : P .duskDue ∨ duskDue_ = t.duskDue) (h_lastSpi : P .lastSpi ∨ lastSpi_ = t.lastSpi)
    (h_lastI2c : P .lastI2c ∨ lastI2c_ = t.lastI2c) (h_edgeDue : P .edgeDue ∨ edgeDue_ = t.edgeDue)
    (h_poolTrig : P .poolTrig ∨ poolTrig_ = t.poolTrig) (h_shedDue : P .shedDue ∨ shedDue_ = t.shedDue)
    (h_ldsSeq : P .ldsSeq ∨ ldsSeq_ = t.ldsSeq) (h_ldsRan : P .ldsRan ∨ ldsRan_ = t.ldsRan)
    (h_ldsProfiles : P .ldsProfiles ∨ ldsProfiles_ = t.ldsProfiles) (h_pdTable : P .pdTable ∨ pdTable_ = t.pdTable)
    (h_flash : P .flash ∨ flash_ = t.flash) (h_freeCtr : P .freeCtr ∨ freeCtr_ = t.freeCtr)
    (h_outs : P .outs ∨ outs_ = t.outs) (h_vioDue : P .vioDue ∨ vioDue_ = t.vioDue)
    (h_strapDue : P .strapDue ∨ strapDue_ = t.strapDue) (h_vbusHigh : P .vbusHigh ∨ vbusHigh_ = t.vbusHigh)
    (h_heldI2c : P .heldI2c ∨ heldI2c_ = t.heldI2c) :
    Only P s { t with
      shadow := shadow_, image := image_, copies := copies_, sw := sw_, boot := boot_, retain := retain_,
      rescue := rescue_, sleep := sleep_, upd := upd_, fuseGoal := fuseGoal_, fuses := fuses_, phase := phase_,
      safe := safe_, stopped := stopped_, missed := missed_, now := now_, icuTimer := icuTimer_,
      faultWidth := faultWidth_, resetDue := resetDue_, low := low_, vbusU := vbusU_, resetN := resetN_,
      por := por_, idleAt := idleAt_, fixedAt := fixedAt_, duskDue := duskDue_, lastSpi := lastSpi_,
      lastI2c := lastI2c_, edgeDue := edgeDue_, poolTrig := poolTrig_, shedDue := shedDue_, ldsSeq := ldsSeq_,
      ldsRan := ldsRan_, ldsProfiles := ldsProfiles_, pdTable := pdTable_, flash := flash_, freeCtr := freeCtr_,
      outs := outs_, vioDue := vioDue_, strapDue := strapDue_, vbusHigh := vbusHigh_, heldI2c := heldI2c_ } := by
  refine h.trans ?_
  intro p hp
  cases p <;> simp only [Part.same]
  case field => exact fun _ _ => rfl
  case port => rfl
  case up => rfl
  case sec => rfl
  case quad => rfl
  case mb => rfl
  case shadow => exact h_shadow.resolve_left hp
  case image => exact h_image.resolve_left hp
  case copies => exact h_copies.resolve_left hp
  case sw => exact h_sw.resolve_left hp
  case boot => exact h_boot.resolve_left hp
  case retain => exact h_retain.resolve_left hp
  case rescue => exact h_rescue.resolve_left hp
  case sleep => exact h_sleep.resolve_left hp
  case upd => exact h_upd.resolve_left hp
  case fuseGoal => exact h_fuseGoal.resolve_left hp
  case fuses => exact h_fuses.resolve_left hp
  case phase => exact h_phase.resolve_left hp
  case safe => exact h_safe.resolve_left hp
  case stopped => exact h_stopped.resolve_left hp
  case missed => exact h_missed.resolve_left hp
  case now => exact h_now.resolve_left hp
  case icuTimer => exact h_icuTimer.resolve_left hp
  case faultWidth => exact h_faultWidth.resolve_left hp
  case resetDue => exact h_resetDue.resolve_left hp
  case low => exact h_low.resolve_left hp
  case vbusU => exact h_vbusU.resolve_left hp
  case resetN => exact h_resetN.resolve_left hp
  case por => exact h_por.resolve_left hp
  case idleAt => exact h_idleAt.resolve_left hp
  case fixedAt => exact h_fixedAt.resolve_left hp
  case duskDue => exact h_duskDue.resolve_left hp
  case lastSpi => exact h_lastSpi.resolve_left hp
  case lastI2c => exact h_lastI2c.resolve_left hp
  case edgeDue => exact h_edgeDue.resolve_left hp
  case poolTrig => exact h_poolTrig.resolve_left hp
  case shedDue => exact h_shedDue.resolve_left hp
  case ldsSeq => exact h_ldsSeq.resolve_left hp
  case ldsRan => exact h_ldsRan.resolve_left hp
  case ldsProfiles => exact h_ldsProfiles.resolve_left hp
  case pdTable => exact h_pdTable.resolve_left hp
  case flash => exact h_flash.resolve_left hp
  case freeCtr => exact h_freeCtr.resolve_left hp
  case outs => exact h_outs.resolve_left hp
  case vioDue => exact h_vioDue.resolve_left hp
  case strapDue => exact h_strapDue.resolve_left hp
  case vbusHigh => exact h_vbusHigh.resolve_left hp
  case heldI2c => exact h_heldI2c.resolve_left hp

theorem wr (h : Only P s t) (f : Field) (v : Nat) (hp : P (.field f.key)) : Only P s (t.wr f v) := by
  refine h.trans ?_
  intro p hn
  cases p
  case field k =>
    intro g hg
    exact State.rd_wr_ne t v (fun e => hn ((e.symm.trans hg) ▸ hp))
  all_goals rfl

theorem raise (h : Only P s t) (f : Field) (hp : P (.field f.key)) : Only P s (t.raise f) := h.wr f 1 hp
theorem flag (h : Only P s t) (f : Field) (b : Bool) (hp : P (.field f.key)) : Only P s (t.flag f b) := h.wr f _ hp
theorem bump (h : Only P s t) (f : Field) (k : Nat) (hp : P (.field f.key)) : Only P s (t.bump f k) := h.wr f _ hp
theorem orBits (h : Only P s t) (f : Field) (m : Nat) (hp : P (.field f.key)) : Only P s (t.orBits f m) := h.wr f _ hp
theorem toImage (h : Only P s t) (f : Field) (hp : P (.field f.key)) : Only P s (t.toImage f) := h.wr f _ hp

theorem load (h : Only P s t) (f : Field) (v : Nat) (hp : P (.field f.key)) (hi : P .image) : Only P s (t.load f v) := by
  apply Only.upd (t := t.wr f v) (h.wr f v hp) <;> first | exact .inr rfl | exact .inl hi

theorem modPort (h : Only P s t) (n : Nat) (g : PortX → PortX) (hp : P (.port n)) : Only P s (t.modPort n g) := by
  refine h.trans ?_
  intro p hn
  cases p
  case port k => exact State.port_modPort_ne t g (fun e => hn (e ▸ hp))
  all_goals first | rfl | exact fun _ _ => rfl

theorem modUp (h : Only P s t) (u : Nat) (g : UpX → UpX) (hp : P (.up u)) : Only P s (t.modUp u g) := by
  refine h.trans ?_
  intro p hn
  cases p
  case up k => exact State.up_modUp_ne t g (fun e => hn (e ▸ hp))
  all_goals first | rfl | exact fun _ _ => rfl

theorem modSec (h : Only P s t) (i : Nat) (g : SecX → SecX) (hp : P (.sec i)) : Only P s (t.modSec i g) := by
  refine h.trans ?_
  intro p hn
  cases p
  case sec k => exact State.sec_modSec_ne t g (fun e => hn (e ▸ hp))
  all_goals first | rfl | exact fun _ _ => rfl

theorem modQuad (h : Only P s t) (q : Nat) (g : QuadX → QuadX) (hp : P (.quad q)) : Only P s (t.modQuad q g) := by
  refine h.trans ?_
  intro p hn
  cases p
  case quad k => exact State.quad_modQuad_ne t g (fun e => hn (e ▸ hp))
  all_goals first | rfl | exact fun _ _ => rfl

theorem modMb (h : Only P s t) (m : Nat) (g : MbxX → MbxX) (hp : P (.mb m)) : Only P s (t.modMb m g) := by
  refine h.trans ?_
  intro p hn
  cases p
  case mb k => exact State.mb_modMb_ne t g (fun e => hn (e ▸ hp))
  all_goals first | rfl | exact fun _ _ => rfl

theorem modFlt (h : Only P s t) (b : FBlk) (g : FaultX → FaultX) (hp : P (.flt b.idx)) : Only P s (t.modFlt b g) := by
  refine h.trans ?_
  intro p hn
  cases p
  case flt k => exact KMap.get_put_ne _ _ _ _ (fun e => hn (e ▸ hp))
  all_goals first | rfl | exact fun _ _ => rfl

theorem setAlm (h : Only P s t) (n k : Nat) (e : AlmEntry) (hp : P (.port n)) : Only P s (t.setAlm n k e) := h.modPort n _ hp
theorem modLds (h : Only P s t) (n : Nat) (g : LdsPort → LdsPort) (hp : P (.port n)) : Only P s (t.modLds n g) :=
  h.modPort n _ hp
theorem setView (h : Only P s t) (u n : Nat) (v : View) (hp : P (.up u)) : Only P s (t.setView u n v) := h.modUp u _ hp

theorem modSw (h : Only P s t) (g : SwX → SwX) (hp : P .sw) : Only P s (t.modSw g) := by
  apply Only.upd h <;> first | exact .inr rfl | exact .inl hp
theorem emit (h : Only P s t) (o : Out) (hp : P .outs) : Only P s (t.emit o) := by
  apply Only.upd h <;> first | exact .inr rfl | exact .inl hp
theorem fresh (h : Only P s t) (hp : P .outs) : Only P s t.fresh := by
  apply Only.upd h <;> first | exact .inr rfl | exact .inl hp
theorem free (h : Only P s t) (hp : P .freeCtr) : Only P s (t.free).2 := by
  apply Only.upd h <;> first | exact .inr rfl | exact .inl hp
theorem elapsedUs (h : Only P s t) (a : Nat) (hp : P .freeCtr) : Only P s (t.elapsedUs a).2 := h.free hp

theorem ite {c : Prop} [Decidable c] {a b : State} (h : Only P s a) (k : Only P s b) : Only P s (if c then a else b) := by
  split
  · exact h
  · exact k

/-- A choice between two answers that carry a state. -/
theorem ite2 {α : Type} {c : Prop} [Decidable c] {a b : α × State} (h : Only P s a.2) (k : Only P s b.2) :
    Only P s (if c then a else b).2 := by
  split
  · exact h
  · exact k

theorem foldl {α : Type} (h : Only P s t) (l : List α) (g : State → α → State)
    (hg : ∀ (u : State) (a : α), Only P s u → Only P s (g u a)) : Only P s (l.foldl g t) := by
  induction l generalizing t with
  | nil => exact h
  | cons a l ih => exact ih (hg t a h)

theorem forEach (h : Only P s t) (l : List Nat) (g : State → Nat → State)
    (hg : ∀ (u : State) (n : Nat), Only P s u → Only P s (g u n)) : Only P s (t.forEach l g) := h.foldl l g hg

theorem wrVoted (h : Only P s t) (f : Field) (v : Nat) (hp : P (.field f.key)) (hc : P .copies) :
    Only P s (t.wrVoted f v) := by
  apply Only.upd (t := t.wr f v) (h.wr f v hp) <;> first | exact .inr rfl | exact .inl hc

theorem hubEvt (h : Only P s t) (n k : Nat) (h0 : P (.field (PRT.HUBCHG.C_CONNECTION n).key))
    (h1 : P (.field (PRT.HUBCHG.C_ENABLE n).key)) (h2 : P (.field (PRT.HUBCHG.C_SUSPEND n).key))
    (h3 : P (.field (PRT.HUBCHG.C_OVERCUR n).key)) (h4 : P (.field (PRT.HUBCHG.C_RESET n).key)) (h5 : P (.port n)) :
    Only P s (t.hubEvt n k) := by
  unfold State.hubEvt
  refine Only.modPort ?_ n _ h5
  refine ite (h.raise _ h0) (ite (h.raise _ h1) (ite (h.raise _ h2) (ite (h.raise _ h3) (h.raise _ h4))))

theorem setTimer (h : Only P s t) (m : KMap (Option Nat)) (hp : P .icuTimer) : Only P s { t with icuTimer := m } := by
  apply Only.upd h <;> first | exact .inr rfl | exact .inl hp

/-- An erase changes the flash and is seen on its pins. -/
theorem flashErase (h : Only P s t) (a k : Nat) (hf : P .flash) (ho : P .outs) : Only P s (t.flashErase a k) := by
  refine Only.emit ?_ _ ho
  apply Only.upd h <;> first | exact .inr rfl | exact .inl hf

/-- A program changes the flash and is seen on its pins. -/
theorem flashProgram (h : Only P s t) (a : Nat) (bs : List Byte) (hf : P .flash) (ho : P .outs) :
    Only P s (t.flashProgram a bs) := by
  refine Only.emit ?_ _ ho
  apply Only.upd h <;> first | exact .inr rfl | exact .inl hf

end Only

end Sys2Proof.Machine
end

