-- ==== Sys2Proof/Laws/OnlyPort.lean ====
section
/-! SUPPORT. One lemma per operation of ports, interrupts, faults and restarts: what it
may change. -/

namespace Sys2Proof.Machine

variable {P : Part → Prop} {s t : State}

theorem State.sumBooks_only
    (h : Only P s t) (h1 : ∀ i, P (.field (PWR.QBOOK.COMMIT i).key))
    (h2 : ∀ i, P (.field (PWR.QBOOK.CONTRACT i).key)) (h3 : P (.field PWR.TOTCOM.COMMIT.key))
    (h4 : P (.field PWR.TOTCON.CONTRACT.key)) :
    Only P s (t.sumBooks) := by
  unfold State.sumBooks
  repeat' with_reducible first
    | assumption | apply Only.forEach | apply Only.wr | apply h1 | apply h2 | intro _ _ _

theorem State.setC_only
    (h : Only P s t) (n c : Nat) (h1 : P (.field (PWR.PBOOK.CONTRACT n).key))
    (h2 : ∀ i, P (.field (PWR.QBOOK.COMMIT i).key)) (h3 : ∀ i, P (.field (PWR.QBOOK.CONTRACT i).key))
    (h4 : P (.field PWR.TOTCOM.COMMIT.key)) (h5 : P (.field PWR.TOTCON.CONTRACT.key)) :
    Only P s (t.setC n c) := by
  unfold State.setC
  repeat' with_reducible first
    | assumption | apply Only.wr | apply State.sumBooks_only | apply h2 | apply h3 | intro _ _ _ | intro _ _ | split

theorem State.setK_only
    (h : Only P s t) (n k : Nat) (h1 : P (.field (PWR.PBOOK.COMMIT n).key))
    (h2 : ∀ i, P (.field (PWR.QBOOK.COMMIT i).key)) (h3 : ∀ i, P (.field (PWR.QBOOK.CONTRACT i).key))
    (h4 : P (.field PWR.TOTCOM.COMMIT.key)) (h5 : P (.field PWR.TOTCON.CONTRACT.key)) :
    Only P s (t.setK n k) := by
  unfold State.setK
  repeat' with_reducible first
    | assumption | apply Only.wr | apply State.sumBooks_only | apply h2 | apply h3 | intro _ _ _ | intro _ _ | split

theorem State.fbiDrive_only
    (h : Only P s t) (n code : Nat) (h1 : P .outs) (h2 : P (.port n)) :
    Only P s (t.fbiDrive n code) := by
  unfold State.fbiDrive
  repeat' with_reducible first
    | assumption | apply Only.modPort | apply Only.emit

theorem State.vconnOn_only
    (h : Only P s t) (n : Nat) (h1 : P .outs) (h2 : P (.field (PRT.PDSTS.VCSRC n).key))
    (h3 : P (.field (PRT.VCONN.ON n).key)) (h4 : P (.field (PRT.VCONN.PIN n).key)) :
    Only P s (t.vconnOn n) := by
  unfold State.vconnOn
  repeat' with_reducible first
    | assumption | apply Only.wr | apply Only.raise | apply Only.flag | apply Only.emit

theorem State.vbusGone_only
    (h : Only P s t) (n : Nat) (h1 : P .outs) (h2 : P (.port n)) (h3 : P (.field (PWR.PBOOK.COMMIT n).key))
    (h4 : ∀ i, P (.field (PWR.QBOOK.COMMIT i).key)) (h5 : ∀ i, P (.field (PWR.QBOOK.CONTRACT i).key))
    (h6 : P (.field PWR.TOTCOM.COMMIT.key)) (h7 : P (.field PWR.TOTCON.CONTRACT.key)) :
    Only P s (t.vbusGone n) := by
  unfold State.vbusGone
  repeat' with_reducible first
    | assumption | apply Only.modPort | apply Only.emit | apply State.setK_only | apply h4 | apply h5 | intro _ _ _
    | intro _ _ | split

theorem State.discharge_only
    (h : Only P s t) (n : Nat) (h1 : P .outs) (h2 : P (.port n)) (h3 : P (.field (PWR.PBOOK.COMMIT n).key))
    (h4 : ∀ i, P (.field (PWR.QBOOK.COMMIT i).key)) (h5 : ∀ i, P (.field (PWR.QBOOK.CONTRACT i).key))
    (h6 : P (.field PWR.TOTCOM.COMMIT.key)) (h7 : P (.field PWR.TOTCON.CONTRACT.key)) :
    Only P s (t.discharge n) := by
  unfold State.discharge
  repeat' with_reducible first
    | assumption | apply Only.modPort | apply Only.emit | apply State.vbusGone_only | apply h4 | apply h5
    | intro _ _ _ | intro _ _ | split

theorem State.pdForget_only
    (h : Only P s t) (n : Nat) (h1 : P (.port n)) :
    Only P s (t.pdForget n) := by
  unfold State.pdForget
  repeat' with_reducible first
    | assumption | apply Only.modPort

theorem State.endContract_only
    (h : Only P s t) (n : Nat) (h1 : P (.port n)) (h2 : P (.field (PRT.PDSTS.EVT n).key))
    (h3 : P (.field (PRT.PDSTS.EXPLICIT n).key)) (h4 : P (.field (PRT.PDSTS.OBJPOS n).key))
    (h5 : P (.field (PRT.PDSTS.OPCURR n).key)) (h6 : P (.field (PRT.PDSTS.VSEL n).key)) :
    Only P s (t.endContract n) := by
  unfold State.endContract
  repeat' with_reducible first
    | assumption | apply Only.wr | apply Only.orBits | apply Only.modPort | apply State.pdForget_only | intro _ _ _
    | intro _ _ | split

theorem State.pgFall_only
    (h : Only P s t) (n : Nat) (h1 : P (.port n)) (h2 : P (.field (PRT.FUSEVT.PGOFF n).key))
    (h3 : P (.field (PRT.FUSSTS.PG n).key)) :
    Only P s (t.pgFall n) := by
  unfold State.pgFall
  repeat' with_reducible first
    | assumption | apply Only.wr | apply Only.raise | apply Only.modPort | intro _ _ _ | intro _ _ | split

theorem State.gateOff_only
    (h : Only P s t) (n : Nat) (fast : Bool) (h1 : P .outs) (h2 : P (.port n))
    (h3 : P (.field (PRT.FUSEVT.PGOFF n).key)) (h4 : P (.field (PRT.FUSSTS.FOLD n).key))
    (h5 : P (.field (PRT.FUSSTS.GATEON n).key)) (h6 : P (.field (PRT.FUSSTS.LIMIT n).key))
    (h7 : P (.field (PRT.FUSSTS.PG n).key)) (h8 : P (.field (PWR.PBOOK.CONTRACT n).key))
    (h9 : ∀ i, P (.field (PWR.QBOOK.COMMIT i).key)) (h10 : ∀ i, P (.field (PWR.QBOOK.CONTRACT i).key))
    (h11 : P (.field PWR.TOTCOM.COMMIT.key)) (h12 : P (.field PWR.TOTCON.CONTRACT.key)) :
    Only P s (t.gateOff n fast) := by
  unfold State.gateOff
  repeat' with_reducible first
    | assumption | apply Only.wr | apply Only.modPort | apply Only.emit | apply State.pgFall_only
    | apply State.setC_only | apply h9 | apply h10 | intro _ _ _ | intro _ _ | split

theorem State.setQuadHold_only
    (h : Only P s t) (n : Nat) (held : Bool) (h1 : ∀ i, P (.field (PRT.ALTMUX.QBUSY i).key))
    (h2 : ∀ i, P (.field (PRT.ALTMUX.QHOLD i).key)) :
    Only P s (t.setQuadHold n held) := by
  unfold State.setQuadHold
  repeat' with_reducible first
    | assumption | apply Only.forEach | apply Only.wr | apply Only.flag | apply h1 | apply h2 | intro _ _ _

theorem State.modeExit_only
    (h : Only P s t) (n : Nat) (h1 : P .outs) (h2 : P (.field (PRT.ALTMUX.ACTIVE n).key))
    (h3 : ∀ i, P (.field (PRT.ALTMUX.QBUSY i).key)) (h4 : ∀ i, P (.field (PRT.ALTMUX.QHOLD i).key))
    (h5 : P (.field (PRT.PDSTS.ALTMODE n).key)) (h6 : P (.field (PRT.PDSTS.EVT n).key)) :
    Only P s (t.modeExit n) := by
  unfold State.modeExit
  repeat' with_reducible first
    | assumption | apply Only.wr | apply Only.orBits | apply Only.emit | apply State.setQuadHold_only | apply h3
    | apply h4 | intro _ _ _ | intro _ _ | split

theorem State.unwait_only
    (h : Only P s t) (n : Nat) (h1 : P (.port n)) (h2 : P (.field (PWR.PALLOW.WAIT n).key)) :
    Only P s (t.unwait n) := by
  unfold State.unwait
  repeat' with_reducible first
    | assumption | apply Only.wr | apply Only.modPort

theorem State.dropReset_only
    (h : Only P s t) (n : Nat) (h1 : P (.port n)) (h2 : P (.field (PRT.HUBCHG.C_RESET n).key)) :
    Only P s (t.dropReset n) := by
  unfold State.dropReset
  repeat' with_reducible first
    | assumption | apply Only.wr | apply Only.modPort | intro _ _ _ | intro _ _ | split

theorem State.endDrive_only
    (h : Only P s t) (n : Nat) (h1 : P .outs) :
    Only P s (t.endDrive n) := by
  unfold State.endDrive
  repeat' with_reducible first
    | assumption | apply Only.emit | intro _ _ _ | intro _ _ | split | dsimp only

theorem State.clockUs_only
    (h : Only P s t) (h1 : P .freeCtr) :
    Only P s (t.clockUs).2 := by
  unfold State.clockUs
  repeat' with_reducible first
    | assumption | apply Only.free

theorem State.edgeAtMeridian_only
    (h : Only P s t) (i : Nat) (h1 : P .edgeDue) :
    Only P s (t.edgeAtMeridian i) := by
  unfold State.edgeAtMeridian
  repeat' with_reducible first
    | assumption | intro _ _ _ | intro _ _ | split | apply Only.upd | exact .inr rfl | (left; assumption)

theorem State.ldsChange_only
    (h : Only P s t) (n : Nat) (h1 : P (.field LDS.CHG0.P00_P31.key)) (h2 : P (.field LDS.CHG1.P32_P47.key)) :
    Only P s (t.ldsChange n) := by
  unfold State.ldsChange
  repeat' with_reducible first
    | assumption | apply Only.orBits | intro _ _ _ | intro _ _ | split

theorem State.setEntry_only
    (h : Only P s t) (n : Nat) (e : RosterEntry) (h1 : P (.port n)) (h2 : P (.field LDS.CHG0.P00_P31.key))
    (h3 : P (.field LDS.CHG1.P32_P47.key)) (h4 : P (.field (LDS.RSUM.HBUSED n).key))
    (h5 : P (.field (LDS.RSUM.IDVALID n).key)) (h6 : P (.field (LDS.RSUM.PROFILE n).key))
    (h7 : P (.field (LDS.RSUM.RESULT n).key)) (h8 : P (.field (LDS.RSUM.STATE n).key)) :
    Only P s (t.setEntry n e) := by
  unfold State.setEntry
  repeat' with_reducible first
    | assumption | apply Only.wr | apply Only.flag | apply Only.modLds | apply State.ldsChange_only | intro _ _ _
    | intro _ _ | split | apply Only.upd | exact .inr rfl

theorem State.ldsEnd_only
    (h : Only P s t) (n result state : Nat) (h1 : P .edgeDue) (h2 : P .freeCtr) (h3 : P (.port n))
    (h4 : P (.field LDS.CHG0.P00_P31.key)) (h5 : P (.field LDS.CHG1.P32_P47.key))
    (h6 : P (.field (LDS.RSUM.HBUSED n).key)) (h7 : P (.field (LDS.RSUM.IDVALID n).key))
    (h8 : P (.field (LDS.RSUM.PROFILE n).key)) (h9 : P (.field (LDS.RSUM.RESULT n).key))
    (h10 : P (.field (LDS.RSUM.STATE n).key)) :
    Only P s (t.ldsEnd n result state) := by
  unfold State.ldsEnd
  repeat' with_reducible first
    | assumption | apply Only.modLds | apply State.clockUs_only | apply State.edgeAtMeridian_only
    | apply State.setEntry_only | intro _ _ _ | intro _ _ | split

theorem State.ldsDetach_only
    (h : Only P s t) (n : Nat) (h1 : P .edgeDue) (h2 : P .freeCtr) (h3 : P (.port n))
    (h4 : P (.field LDS.CHG0.P00_P31.key)) (h5 : P (.field LDS.CHG1.P32_P47.key))
    (h6 : P (.field (LDS.RSUM.HBUSED n).key)) (h7 : P (.field (LDS.RSUM.IDVALID n).key))
    (h8 : P (.field (LDS.RSUM.PROFILE n).key)) (h9 : P (.field (LDS.RSUM.RESULT n).key))
    (h10 : P (.field (LDS.RSUM.STATE n).key)) :
    Only P s (t.ldsDetach n) := by
  unfold State.ldsDetach
  repeat' with_reducible first
    | assumption | apply Only.modLds | apply State.ldsEnd_only | apply State.setEntry_only | intro _ _ _ | intro _ _
    | split

theorem State.fallSettle_only
    (h : Only P s t) (h1 : P (.field PKM.FENCE.FALLBACK.key)) (h2 : P .sw) :
    Only P s (t.fallSettle) := by
  unfold State.fallSettle
  repeat' with_reducible first
    | assumption | apply Only.wr | apply Only.modSw | intro _ _ _ | intro _ _ | split | apply Only.upd
    | exact .inr rfl

theorem State.iqPop_only
    (h : Only P s t) (k d : Nat) (h1 : P (.field (PKM.IQPTR.RPTR k).key)) :
    Only P s (t.iqPop k d) := by
  unfold State.iqPop
  repeat' with_reducible first
    | assumption | apply Only.wr

theorem State.setPool_only
    (h : Only P s t) (v : Nat) (h1 : P .edgeDue) (h2 : P (.field PKM.FREESTS.WAS.key))
    (h3 : P (.field PKM.GCNT2.POOLFREE.key)) (h4 : P .sw) :
    Only P s (t.setPool v) := by
  unfold State.setPool
  repeat' with_reducible first
    | assumption | apply Only.wr | apply Only.raise | apply Only.modSw | apply State.edgeAtMeridian_only
    | intro _ _ _ | intro _ _ | split | apply Only.upd | exact .inr rfl

theorem State.toFlight_only
    (h : Only P s t) (k : Nat) (h1 : P (.field PKM.GCNT0.FREE.key)) (h2 : P (.field PKM.GCNT0.QUEUED.key))
    (h3 : P (.field PKM.GCNT1.INFLIGHT.key)) :
    Only P s (t.toFlight k) := by
  unfold State.toFlight
  repeat' with_reducible first
    | assumption | apply Only.wr

theorem State.giveUp_only
    (h : Only P s t) (p : Pkt) (h1 : P .edgeDue) (h2 : P (.field PKM.FREESTS.WAS.key))
    (h3 : P (.field PKM.GCNT0.FREE.key)) (h4 : P (.field PKM.GCNT0.QUEUED.key))
    (h5 : P (.field PKM.GCNT1.INFLIGHT.key)) (h6 : P (.field PKM.GCNT2.POOLFREE.key))
    (h7 : ∀ i, P (.field (PKM.IQPTR.RPTR i).key)) (h8 : P .sw) :
    Only P s (t.giveUp p) := by
  unfold State.giveUp
  repeat' with_reducible first
    | assumption | apply Only.modSw | apply State.iqPop_only | apply State.setPool_only | apply State.toFlight_only
    | apply h7 | intro _ _ _ | intro _ _ | split | apply Only.upd | exact .inr rfl

theorem State.dropPkt_only
    (h : Only P s t) (id : Nat) (h1 : P .edgeDue) (h2 : P (.field PKM.FENCE.FALLBACK.key))
    (h3 : P (.field PKM.FREESTS.WAS.key)) (h4 : P (.field PKM.GCNT0.FREE.key))
    (h5 : P (.field PKM.GCNT0.QUEUED.key)) (h6 : P (.field PKM.GCNT1.INFLIGHT.key))
    (h7 : P (.field PKM.GCNT2.POOLFREE.key)) (h8 : ∀ i, P (.field (PKM.IQPTR.RPTR i).key)) (h9 : P .sw) :
    Only P s (t.dropPkt id) := by
  unfold State.dropPkt
  repeat' with_reducible first
    | assumption | apply Only.modSw | apply State.fallSettle_only | apply State.giveUp_only | apply h8 | intro _ _ _
    | intro _ _ | split

theorem State.dropStale_only
    (h : Only P s t) (sel : Pkt → Bool) (h1 : P .edgeDue) (h2 : ∀ i, P (.port i))
    (h3 : P (.field PKM.FENCE.FALLBACK.key)) (h4 : P (.field PKM.FREESTS.WAS.key))
    (h5 : P (.field PKM.GCNT0.FREE.key)) (h6 : P (.field PKM.GCNT0.QUEUED.key))
    (h7 : P (.field PKM.GCNT1.INFLIGHT.key)) (h8 : P (.field PKM.GCNT2.POOLFREE.key))
    (h9 : ∀ i, P (.field (PKM.IQPTR.RPTR i).key)) (h10 : ∀ i, P (.field (SWX.CNTA.STALE i).key)) (h11 : P .sw) :
    Only P s (t.dropStale sel) := by
  unfold State.dropStale
  repeat' with_reducible first
    | assumption | apply Only.foldl | apply Only.bump | apply Only.modPort | apply State.dropPkt_only | apply h2
    | apply h9 | apply h10 | intro _ _ _ | intro _ _ | split

theorem State.dropHeld_only
    (h : Only P s t) (n : Nat) (k : Key) (h1 : P .edgeDue) (h2 : P (.field PKM.FENCE.FALLBACK.key))
    (h3 : P (.field PKM.FREESTS.WAS.key)) (h4 : P (.field PKM.GCNT0.FREE.key))
    (h5 : P (.field PKM.GCNT0.QUEUED.key)) (h6 : P (.field PKM.GCNT1.INFLIGHT.key))
    (h7 : P (.field PKM.GCNT2.POOLFREE.key)) (h8 : ∀ i, P (.field (PKM.IQPTR.RPTR i).key)) (h9 : P .sw) :
    Only P s (t.dropHeld n k) := by
  unfold State.dropHeld
  repeat' with_reducible first
    | assumption | apply Only.foldl | apply State.dropPkt_only | apply h8 | intro _ _ _

theorem State.withdrawSlot_only
    (h : Only P s t) (n : Nat) (k : Key) (h1 : P .edgeDue) (h2 : P (.port n))
    (h3 : P (.field PKM.FENCE.FALLBACK.key)) (h4 : P (.field PKM.FREESTS.WAS.key))
    (h5 : P (.field PKM.GCNT0.FREE.key)) (h6 : P (.field PKM.GCNT0.QUEUED.key))
    (h7 : P (.field PKM.GCNT1.INFLIGHT.key)) (h8 : P (.field PKM.GCNT2.POOLFREE.key))
    (h9 : ∀ i, P (.field (PKM.IQPTR.RPTR i).key)) (h10 : ∀ i, P (.field (SWX.CNTB.RLYWD i).key)) (h11 : P .sw) :
    Only P s (t.withdrawSlot n k) := by
  unfold State.withdrawSlot
  repeat' with_reducible first
    | assumption | apply Only.bump | apply Only.modPort | apply State.dropHeld_only | apply h9 | apply h10
    | intro _ _ _ | intro _ _ | split

theorem State.withdrawSlots_only
    (h : Only P s t) (n : Nat) (sel : Slot → Bool) (h1 : P .edgeDue) (h2 : P (.port n))
    (h3 : P (.field PKM.FENCE.FALLBACK.key)) (h4 : P (.field PKM.FREESTS.WAS.key))
    (h5 : P (.field PKM.GCNT0.FREE.key)) (h6 : P (.field PKM.GCNT0.QUEUED.key))
    (h7 : P (.field PKM.GCNT1.INFLIGHT.key)) (h8 : P (.field PKM.GCNT2.POOLFREE.key))
    (h9 : ∀ i, P (.field (PKM.IQPTR.RPTR i).key)) (h10 : ∀ i, P (.field (SWX.CNTB.RLYWD i).key)) (h11 : P .sw) :
    Only P s (t.withdrawSlots n sel) := by
  unfold State.withdrawSlots
  repeat' with_reducible first
    | assumption | apply Only.foldl | apply State.withdrawSlot_only | apply h9 | apply h10 | intro _ _ _

theorem State.relayReset_only
    (h : Only P s t) (n : Nat) (stale : Bool) (h1 : P .edgeDue) (h2 : ∀ i, P (.port i))
    (h3 : P (.field PKM.FENCE.FALLBACK.key)) (h4 : P (.field PKM.FREESTS.WAS.key))
    (h5 : P (.field PKM.GCNT0.FREE.key)) (h6 : P (.field PKM.GCNT0.QUEUED.key))
    (h7 : P (.field PKM.GCNT1.INFLIGHT.key)) (h8 : P (.field PKM.GCNT2.POOLFREE.key))
    (h9 : ∀ i, P (.field (PKM.IQPTR.RPTR i).key)) (h10 : ∀ i, P (.field (SWX.CNTA.STALE i).key))
    (h11 : ∀ i, P (.field (SWX.CNTB.RLYWD i).key)) (h12 : P .sw) :
    Only P s (t.relayReset n stale) := by
  unfold State.relayReset
  repeat' with_reducible first
    | assumption | apply Only.modPort | apply State.dropStale_only | apply State.withdrawSlots_only | apply h2
    | apply h9 | apply h10 | apply h11 | intro _ _ _ | intro _ _ | split

theorem State.rtQueue_only
    (h : Only P s t) (u a : Nat) (port : Option Nat) (hs : Bool) (h1 : P (.up u)) :
    Only P s (t.rtQueue u a port hs) := by
  unfold State.rtQueue
  repeat' with_reducible first
    | assumption | apply Only.modUp

theorem State.rtDropPort_only
    (h : Only P s t) (u n : Nat) (h1 : P (.up u)) :
    Only P s (t.rtDropPort u n) := by
  unfold State.rtDropPort
  repeat' with_reducible first
    | assumption | apply Only.forEach | apply State.rtQueue_only | intro _ _ _

theorem State.rtDropOwner_only
    (h : Only P s t) (n : Nat) (h1 : ∀ i, P (.up i)) :
    Only P s (t.rtDropOwner n) := by
  unfold State.rtDropOwner
  repeat' with_reducible first
    | assumption | apply State.rtDropPort_only | apply h1 | intro _ _ _ | intro _ _ | split

theorem State.setHub_only
    (h : Only P s t) (n st : Nat) (h1 : P (.field (PRT.HUBSTS.ENABLE n).key))
    (h2 : P (.field (PRT.HUBSTS.RESET n).key)) (h3 : P (.field (PRT.HUBSTS.STATE n).key))
    (h4 : P (.field (PRT.HUBSTS.SUSPEND n).key)) (h5 : P (.field (PRT.HUBSTS.TEST n).key)) :
    Only P s (t.setHub n st) := by
  unfold State.setHub
  repeat' with_reducible first
    | assumption | apply Only.wr | apply Only.flag

theorem State.almClear_only
    (h : Only P s t) (n : Nat) (cut : Bool) (h1 : P (.port n)) :
    Only P s (t.almClear n cut) := by
  unfold State.almClear
  repeat' with_reducible first
    | assumption | apply Only.modPort

theorem State.ttCut_only
    (h : Only P s t) (n : Nat) (h1 : P (.port n)) (h2 : P (.field (PRT.QSTS.STOPPED n).key)) :
    Only P s (t.ttCut n) := by
  unfold State.ttCut
  repeat' with_reducible first
    | assumption | apply Only.wr | apply Only.modPort

theorem State.holdEnd_only
    (h : Only P s t) (n a : Nat) (h1 : P (.port n)) :
    Only P s (t.holdEnd n a) := by
  unfold State.holdEnd
  repeat' with_reducible first
    | assumption | apply Only.modPort | intro _ _ _ | intro _ _ | split

theorem State.holdsEnd_only
    (h : Only P s t) (n : Nat) (h1 : P (.port n)) :
    Only P s (t.holdsEnd n) := by
  unfold State.holdsEnd
  repeat' with_reducible first
    | assumption | apply Only.forEach | apply Only.modPort | apply State.holdEnd_only | intro _ _ _

theorem State.ttReset_only
    (h : Only P s t) (n : Nat) (h1 : P (.port n)) (h2 : P (.field (PRT.QSTS.STOPPED n).key)) :
    Only P s (t.ttReset n) := by
  unfold State.ttReset
  repeat' with_reducible first
    | assumption | apply Only.wr | apply Only.modPort | apply State.holdsEnd_only

theorem State.unpoll_only
    (h : Only P s t) (n : Nat) (h1 : P (.port n)) (h2 : P (.field (PRT.MTRCNT.DATAHIT n).key))
    (h3 : P (.field (PRT.MTRCNT.NAKHIT n).key)) (h4 : P (.field (PRT.MTRSTS.WITHDRAWN n).key)) :
    Only P s (t.unpoll n) := by
  unfold State.unpoll
  repeat' with_reducible first
    | assumption | apply Only.wr | apply Only.bump | apply Only.modPort | intro _ _ _ | intro _ _ | split
    | apply Only.upd | exact .inr rfl

theorem State.restrand_only
    (h : Only P s t) (n : Nat) (sel : Key → Bool) (h1 : P (.port n)) (h2 : P (.field (PRT.MTRSTS.STRANDED n).key))
    (h3 : P (.field (PRT.MTRSTS.WITHDRAWN n).key)) :
    Only P s (t.restrand n sel) := by
  unfold State.restrand
  repeat' with_reducible first
    | assumption | apply Only.wr | apply Only.bump | apply Only.modPort | intro _ _ _ | intro _ _ | split
    | apply Only.upd | exact .inr rfl

theorem State.withdrawAll_only
    (h : Only P s t) (n : Nat) (counted : Bool) (h1 : P (.port n)) (h2 : P (.field (PRT.MTRSTS.STRANDED n).key))
    (h3 : P (.field (PRT.MTRSTS.WITHDRAWN n).key)) :
    Only P s (t.withdrawAll n counted) := by
  unfold State.withdrawAll
  repeat' with_reducible first
    | assumption | apply Only.bump | apply Only.modPort | apply State.restrand_only | intro _ _ _ | intro _ _
    | split

theorem State.ttAndAlmanac_only
    (h : Only P s t) (n : Nat) (cut counted : Bool) (h1 : P (.port n)) (h2 : P (.field (PRT.MTRCNT.DATAHIT n).key))
    (h3 : P (.field (PRT.MTRCNT.NAKHIT n).key)) (h4 : P (.field (PRT.MTRSTS.STRANDED n).key))
    (h5 : P (.field (PRT.MTRSTS.WITHDRAWN n).key)) (h6 : P (.field (PRT.QSTS.STOPPED n).key)) :
    Only P s (t.ttAndAlmanac n cut counted) := by
  unfold State.ttAndAlmanac
  repeat' with_reducible first
    | assumption | apply Only.modPort | apply State.almClear_only | apply State.ttCut_only
    | apply State.ttReset_only | apply State.unpoll_only | apply State.withdrawAll_only | intro _ _ _ | intro _ _
    | split

theorem State.hubDisconnect_only
    (h : Only P s t) (n : Nat) (h1 : P .edgeDue) (h2 : P .freeCtr) (h3 : P .outs) (h4 : ∀ i, P (.port i))
    (h5 : P (.field LDS.CHG0.P00_P31.key)) (h6 : P (.field LDS.CHG1.P32_P47.key))
    (h7 : P (.field (LDS.RSUM.HBUSED n).key)) (h8 : P (.field (LDS.RSUM.IDVALID n).key))
    (h9 : P (.field (LDS.RSUM.PROFILE n).key)) (h10 : P (.field (LDS.RSUM.RESULT n).key))
    (h11 : P (.field (LDS.RSUM.STATE n).key)) (h12 : P (.field PKM.FENCE.FALLBACK.key))
    (h13 : P (.field PKM.FREESTS.WAS.key)) (h14 : P (.field PKM.GCNT0.FREE.key))
    (h15 : P (.field PKM.GCNT0.QUEUED.key)) (h16 : P (.field PKM.GCNT1.INFLIGHT.key))
    (h17 : P (.field PKM.GCNT2.POOLFREE.key)) (h18 : ∀ i, P (.field (PKM.IQPTR.RPTR i).key))
    (h19 : P (.field (PRT.HUBCHG.C_CONNECTION n).key)) (h20 : P (.field (PRT.HUBCHG.C_ENABLE n).key))
    (h21 : P (.field (PRT.HUBCHG.C_OVERCUR n).key)) (h22 : P (.field (PRT.HUBCHG.C_RESET n).key))
    (h23 : P (.field (PRT.HUBCHG.C_SUSPEND n).key)) (h24 : P (.field (PRT.HUBSTS.CONNECTION n).key))
    (h25 : P (.field (PRT.HUBSTS.ENABLE n).key)) (h26 : P (.field (PRT.HUBSTS.HIGHSPD n).key))
    (h27 : P (.field (PRT.HUBSTS.LOWSPD n).key)) (h28 : P (.field (PRT.HUBSTS.RESET n).key))
    (h29 : P (.field (PRT.HUBSTS.STATE n).key)) (h30 : P (.field (PRT.HUBSTS.SUSPEND n).key))
    (h31 : P (.field (PRT.HUBSTS.TEST n).key)) (h32 : P (.field (PRT.MTRCNT.DATAHIT n).key))
    (h33 : P (.field (PRT.MTRCNT.NAKHIT n).key)) (h34 : P (.field (PRT.MTRSTS.STRANDED n).key))
    (h35 : P (.field (PRT.MTRSTS.WITHDRAWN n).key)) (h36 : P (.field (PRT.QSTS.STOPPED n).key))
    (h37 : ∀ i, P (.field (SWX.CNTA.STALE i).key)) (h38 : ∀ i, P (.field (SWX.CNTB.RLYWD i).key)) (h39 : P .sw)
    (h40 : ∀ i, P (.up i)) :
    Only P s (t.hubDisconnect n) := by
  unfold State.hubDisconnect
  repeat' with_reducible first
    | assumption | apply Only.wr | apply Only.modPort | apply Only.hubEvt | apply State.dropReset_only
    | apply State.endDrive_only | apply State.ldsDetach_only | apply State.relayReset_only
    | apply State.rtDropOwner_only | apply State.setHub_only | apply State.ttAndAlmanac_only | apply h4 | apply h18
    | apply h37 | apply h38 | apply h40 | intro _ _ _ | intro _ _ | split | apply Only.upd | exact .inr rfl

theorem State.hubDrop_only
    (h : Only P s t) (n st : Nat) (h1 : P .edgeDue) (h2 : P .freeCtr) (h3 : P .outs) (h4 : ∀ i, P (.port i))
    (h5 : P (.field LDS.CHG0.P00_P31.key)) (h6 : P (.field LDS.CHG1.P32_P47.key))
    (h7 : P (.field (LDS.RSUM.HBUSED n).key)) (h8 : P (.field (LDS.RSUM.IDVALID n).key))
    (h9 : P (.field (LDS.RSUM.PROFILE n).key)) (h10 : P (.field (LDS.RSUM.RESULT n).key))
    (h11 : P (.field (LDS.RSUM.STATE n).key)) (h12 : P (.field PKM.FENCE.FALLBACK.key))
    (h13 : P (.field PKM.FREESTS.WAS.key)) (h14 : P (.field PKM.GCNT0.FREE.key))
    (h15 : P (.field PKM.GCNT0.QUEUED.key)) (h16 : P (.field PKM.GCNT1.INFLIGHT.key))
    (h17 : P (.field PKM.GCNT2.POOLFREE.key)) (h18 : ∀ i, P (.field (PKM.IQPTR.RPTR i).key))
    (h19 : P (.field (PRT.HUBSTS.CONNECTION n).key)) (h20 : P (.field (PRT.HUBSTS.ENABLE n).key))
    (h21 : P (.field (PRT.HUBSTS.HIGHSPD n).key)) (h22 : P (.field (PRT.HUBSTS.LOWSPD n).key))
    (h23 : P (.field (PRT.HUBSTS.RESET n).key)) (h24 : P (.field (PRT.HUBSTS.STATE n).key))
    (h25 : P (.field (PRT.HUBSTS.SUSPEND n).key)) (h26 : P (.field (PRT.HUBSTS.TEST n).key))
    (h27 : P (.field (PRT.MTRCNT.DATAHIT n).key)) (h28 : P (.field (PRT.MTRCNT.NAKHIT n).key))
    (h29 : P (.field (PRT.MTRSTS.STRANDED n).key)) (h30 : P (.field (PRT.MTRSTS.WITHDRAWN n).key))
    (h31 : P (.field (PRT.QSTS.STOPPED n).key)) (h32 : ∀ i, P (.field (SWX.CNTA.STALE i).key))
    (h33 : ∀ i, P (.field (SWX.CNTB.RLYWD i).key)) (h34 : P .sw) :
    Only P s (t.hubDrop n st) := by
  unfold State.hubDrop
  repeat' with_reducible first
    | assumption | apply Only.wr | apply Only.modPort | apply State.endDrive_only | apply State.ldsDetach_only
    | apply State.relayReset_only | apply State.setHub_only | apply State.ttAndAlmanac_only | apply h4

theorem State.hubDown_only
    (h : Only P s t) (n st : Nat) (h1 : P .edgeDue) (h2 : P .freeCtr) (h3 : P .outs) (h4 : ∀ i, P (.port i))
    (h5 : P (.field LDS.CHG0.P00_P31.key)) (h6 : P (.field LDS.CHG1.P32_P47.key))
    (h7 : P (.field (LDS.RSUM.HBUSED n).key)) (h8 : P (.field (LDS.RSUM.IDVALID n).key))
    (h9 : P (.field (LDS.RSUM.PROFILE n).key)) (h10 : P (.field (LDS.RSUM.RESULT n).key))
    (h11 : P (.field (LDS.RSUM.STATE n).key)) (h12 : P (.field PKM.FENCE.FALLBACK.key))
    (h13 : P (.field PKM.FREESTS.WAS.key)) (h14 : P (.field PKM.GCNT0.FREE.key))
    (h15 : P (.field PKM.GCNT0.QUEUED.key)) (h16 : P (.field PKM.GCNT1.INFLIGHT.key))
    (h17 : P (.field PKM.GCNT2.POOLFREE.key)) (h18 : ∀ i, P (.field (PKM.IQPTR.RPTR i).key))
    (h19 : P (.field (PRT.HUBSTS.CONNECTION n).key)) (h20 : P (.field (PRT.HUBSTS.ENABLE n).key))
    (h21 : P (.field (PRT.HUBSTS.HIGHSPD n).key)) (h22 : P (.field (PRT.HUBSTS.LOWSPD n).key))
    (h23 : P (.field (PRT.HUBSTS.RESET n).key)) (h24 : P (.field (PRT.HUBSTS.STATE n).key))
    (h25 : P (.field (PRT.HUBSTS.SUSPEND n).key)) (h26 : P (.field (PRT.HUBSTS.TEST n).key))
    (h27 : P (.field (PRT.MTRCNT.DATAHIT n).key)) (h28 : P (.field (PRT.MTRCNT.NAKHIT n).key))
    (h29 : P (.field (PRT.MTRSTS.STRANDED n).key)) (h30 : P (.field (PRT.MTRSTS.WITHDRAWN n).key))
    (h31 : P (.field (PRT.QSTS.STOPPED n).key)) (h32 : ∀ i, P (.field (SWX.CNTA.STALE i).key))
    (h33 : ∀ i, P (.field (SWX.CNTB.RLYWD i).key)) (h34 : P .sw) (h35 : ∀ i, P (.up i)) :
    Only P s (t.hubDown n st) := by
  unfold State.hubDown
  repeat' with_reducible first
    | assumption | apply State.hubDrop_only | apply State.rtDropOwner_only

theorem State.vbusLoss_only
    (h : Only P s t) (n : Nat) (h1 : P .edgeDue) (h2 : P .freeCtr) (h3 : P .outs) (h4 : ∀ i, P (.port i))
    (h5 : P (.field LDS.CHG0.P00_P31.key)) (h6 : P (.field LDS.CHG1.P32_P47.key))
    (h7 : P (.field (LDS.RSUM.HBUSED n).key)) (h8 : P (.field (LDS.RSUM.IDVALID n).key))
    (h9 : P (.field (LDS.RSUM.PROFILE n).key)) (h10 : P (.field (LDS.RSUM.RESULT n).key))
    (h11 : P (.field (LDS.RSUM.STATE n).key)) (h12 : P (.field PKM.FENCE.FALLBACK.key))
    (h13 : P (.field PKM.FREESTS.WAS.key)) (h14 : P (.field PKM.GCNT0.FREE.key))
    (h15 : P (.field PKM.GCNT0.QUEUED.key)) (h16 : P (.field PKM.GCNT1.INFLIGHT.key))
    (h17 : P (.field PKM.GCNT2.POOLFREE.key)) (h18 : ∀ i, P (.field (PKM.IQPTR.RPTR i).key))
    (h19 : P (.field (PRT.HUBCHG.C_CONNECTION n).key)) (h20 : P (.field (PRT.HUBCHG.C_ENABLE n).key))
    (h21 : P (.field (PRT.HUBCHG.C_OVERCUR n).key)) (h22 : P (.field (PRT.HUBCHG.C_RESET n).key))
    (h23 : P (.field (PRT.HUBCHG.C_SUSPEND n).key)) (h24 : P (.field (PRT.HUBSTS.CONNECTION n).key))
    (h25 : P (.field (PRT.HUBSTS.ENABLE n).key)) (h26 : P (.field (PRT.HUBSTS.HIGHSPD n).key))
    (h27 : P (.field (PRT.HUBSTS.LOWSPD n).key)) (h28 : P (.field (PRT.HUBSTS.RESET n).key))
    (h29 : P (.field (PRT.HUBSTS.STATE n).key)) (h30 : P (.field (PRT.HUBSTS.SUSPEND n).key))
    (h31 : P (.field (PRT.HUBSTS.TEST n).key)) (h32 : P (.field (PRT.MTRCNT.DATAHIT n).key))
    (h33 : P (.field (PRT.MTRCNT.NAKHIT n).key)) (h34 : P (.field (PRT.MTRSTS.STRANDED n).key))
    (h35 : P (.field (PRT.MTRSTS.WITHDRAWN n).key)) (h36 : P (.field (PRT.QSTS.STOPPED n).key))
    (h37 : ∀ i, P (.field (SWX.CNTA.STALE i).key)) (h38 : ∀ i, P (.field (SWX.CNTB.RLYWD i).key)) (h39 : P .sw)
    (h40 : ∀ i, P (.up i)) :
    Only P s (t.vbusLoss n) := by
  unfold State.vbusLoss
  repeat' with_reducible first
    | assumption | apply State.hubDisconnect_only | apply State.hubDown_only | apply h4 | apply h18 | apply h37
    | apply h38 | apply h40 | intro _ _ _ | intro _ _ | split

theorem State.vconnOff_only
    (h : Only P s t) (n : Nat) (h1 : P .outs) (h2 : P (.field (PRT.PDSTS.VCSRC n).key))
    (h3 : P (.field (PRT.VCONN.ON n).key)) :
    Only P s (t.vconnOff n) := by
  unfold State.vconnOff
  repeat' with_reducible first
    | assumption | apply Only.wr | apply Only.emit | intro _ _ _ | intro _ _ | split

theorem State.powerCut_only
    (h : Only P s t) (n : Nat) (h1 : P .edgeDue) (h2 : P .freeCtr) (h3 : P .outs) (h4 : ∀ i, P (.port i))
    (h5 : P (.field LDS.CHG0.P00_P31.key)) (h6 : P (.field LDS.CHG1.P32_P47.key))
    (h7 : P (.field (LDS.RSUM.HBUSED n).key)) (h8 : P (.field (LDS.RSUM.IDVALID n).key))
    (h9 : P (.field (LDS.RSUM.PROFILE n).key)) (h10 : P (.field (LDS.RSUM.RESULT n).key))
    (h11 : P (.field (LDS.RSUM.STATE n).key)) (h12 : P (.field PKM.FENCE.FALLBACK.key))
    (h13 : P (.field PKM.FREESTS.WAS.key)) (h14 : P (.field PKM.GCNT0.FREE.key))
    (h15 : P (.field PKM.GCNT0.QUEUED.key)) (h16 : P (.field PKM.GCNT1.INFLIGHT.key))
    (h17 : P (.field PKM.GCNT2.POOLFREE.key)) (h18 : ∀ i, P (.field (PKM.IQPTR.RPTR i).key))
    (h19 : P (.field (PRT.ALTMUX.ACTIVE n).key)) (h20 : ∀ i, P (.field (PRT.ALTMUX.QBUSY i).key))
    (h21 : ∀ i, P (.field (PRT.ALTMUX.QHOLD i).key)) (h22 : P (.field (PRT.FUSEVT.PGOFF n).key))
    (h23 : P (.field (PRT.FUSSTS.FOLD n).key)) (h24 : P (.field (PRT.FUSSTS.FTFILL n).key))
    (h25 : P (.field (PRT.FUSSTS.GATEON n).key)) (h26 : P (.field (PRT.FUSSTS.LIMIT n).key))
    (h27 : P (.field (PRT.FUSSTS.PG n).key)) (h28 : P (.field (PRT.HUBCHG.C_CONNECTION n).key))
    (h29 : P (.field (PRT.HUBCHG.C_ENABLE n).key)) (h30 : P (.field (PRT.HUBCHG.C_OVERCUR n).key))
    (h31 : P (.field (PRT.HUBCHG.C_RESET n).key)) (h32 : P (.field (PRT.HUBCHG.C_SUSPEND n).key))
    (h33 : P (.field (PRT.HUBSTS.CONNECTION n).key)) (h34 : P (.field (PRT.HUBSTS.ENABLE n).key))
    (h35 : P (.field (PRT.HUBSTS.HIGHSPD n).key)) (h36 : P (.field (PRT.HUBSTS.LOWSPD n).key))
    (h37 : P (.field (PRT.HUBSTS.RESET n).key)) (h38 : P (.field (PRT.HUBSTS.STATE n).key))
    (h39 : P (.field (PRT.HUBSTS.SUSPEND n).key)) (h40 : P (.field (PRT.HUBSTS.TEST n).key))
    (h41 : P (.field (PRT.MTRCNT.DATAHIT n).key)) (h42 : P (.field (PRT.MTRCNT.NAKHIT n).key))
    (h43 : P (.field (PRT.MTRSTS.STRANDED n).key)) (h44 : P (.field (PRT.MTRSTS.WITHDRAWN n).key))
    (h45 : P (.field (PRT.PDSTS.ALTMODE n).key)) (h46 : P (.field (PRT.PDSTS.EVT n).key))
    (h47 : P (.field (PRT.PDSTS.EXPLICIT n).key)) (h48 : P (.field (PRT.PDSTS.OBJPOS n).key))
    (h49 : P (.field (PRT.PDSTS.OPCURR n).key)) (h50 : P (.field (PRT.PDSTS.VCSRC n).key))
    (h51 : P (.field (PRT.PDSTS.VSEL n).key)) (h52 : P (.field (PRT.QSTS.STOPPED n).key))
    (h53 : P (.field (PRT.TCSTS.RPADV n).key)) (h54 : P (.field (PRT.TCSTS.TCSTATE n).key))
    (h55 : P (.field (PRT.VCONN.ON n).key)) (h56 : P (.field (PWR.PALLOW.WAIT n).key))
    (h57 : P (.field (PWR.PBOOK.COMMIT n).key)) (h58 : P (.field (PWR.PBOOK.CONTRACT n).key))
    (h59 : ∀ i, P (.field (PWR.QBOOK.COMMIT i).key)) (h60 : ∀ i, P (.field (PWR.QBOOK.CONTRACT i).key))
    (h61 : P (.field PWR.TOTCOM.COMMIT.key)) (h62 : P (.field PWR.TOTCON.CONTRACT.key))
    (h63 : ∀ i, P (.field (SWX.CNTA.STALE i).key)) (h64 : ∀ i, P (.field (SWX.CNTB.RLYWD i).key)) (h65 : P .sw)
    (h66 : ∀ i, P (.up i)) :
    Only P s (t.powerCut n) := by
  unfold State.powerCut
  repeat' with_reducible first
    | assumption | apply Only.wr | apply Only.modPort | apply State.discharge_only | apply State.endContract_only
    | apply State.gateOff_only | apply State.modeExit_only | apply State.unwait_only | apply State.vbusLoss_only
    | apply State.vconnOff_only | apply h4 | apply h18 | apply h20 | apply h21 | apply h59 | apply h60 | apply h63
    | apply h64 | apply h66 | intro _ _ _ | intro _ _ | split | dsimp only

theorem State.markOff_only
    (h : Only P s t) (n : Nat) (h1 : P .edgeDue) (h2 : P .freeCtr) (h3 : P .outs) (h4 : ∀ i, P (.port i))
    (h5 : P (.field LDS.CHG0.P00_P31.key)) (h6 : P (.field LDS.CHG1.P32_P47.key))
    (h7 : P (.field (LDS.RSUM.HBUSED n).key)) (h8 : P (.field (LDS.RSUM.IDVALID n).key))
    (h9 : P (.field (LDS.RSUM.PROFILE n).key)) (h10 : P (.field (LDS.RSUM.RESULT n).key))
    (h11 : P (.field (LDS.RSUM.STATE n).key)) (h12 : P (.field PKM.FENCE.FALLBACK.key))
    (h13 : P (.field PKM.FREESTS.WAS.key)) (h14 : P (.field PKM.GCNT0.FREE.key))
    (h15 : P (.field PKM.GCNT0.QUEUED.key)) (h16 : P (.field PKM.GCNT1.INFLIGHT.key))
    (h17 : P (.field PKM.GCNT2.POOLFREE.key)) (h18 : ∀ i, P (.field (PKM.IQPTR.RPTR i).key))
    (h19 : P (.field (PRT.ALTMUX.ACTIVE n).key)) (h20 : ∀ i, P (.field (PRT.ALTMUX.QBUSY i).key))
    (h21 : ∀ i, P (.field (PRT.ALTMUX.QHOLD i).key)) (h22 : P (.field (PRT.FUSEVT.PGOFF n).key))
    (h23 : P (.field (PRT.FUSSTS.FOLD n).key)) (h24 : P (.field (PRT.FUSSTS.FTFILL n).key))
    (h25 : P (.field (PRT.FUSSTS.GATEON n).key)) (h26 : P (.field (PRT.FUSSTS.LIMIT n).key))
    (h27 : P (.field (PRT.FUSSTS.PG n).key)) (h28 : P (.field (PRT.HUBCHG.C_CONNECTION n).key))
    (h29 : P (.field (PRT.HUBCHG.C_ENABLE n).key)) (h30 : P (.field (PRT.HUBCHG.C_OVERCUR n).key))
    (h31 : P (.field (PRT.HUBCHG.C_RESET n).key)) (h32 : P (.field (PRT.HUBCHG.C_SUSPEND n).key))
    (h33 : P (.field (PRT.HUBSTS.CONNECTION n).key)) (h34 : P (.field (PRT.HUBSTS.ENABLE n).key))
    (h35 : P (.field (PRT.HUBSTS.HIGHSPD n).key)) (h36 : P (.field (PRT.HUBSTS.LOWSPD n).key))
    (h37 : P (.field (PRT.HUBSTS.RESET n).key)) (h38 : P (.field (PRT.HUBSTS.STATE n).key))
    (h39 : P (.field (PRT.HUBSTS.SUSPEND n).key)) (h40 : P (.field (PRT.HUBSTS.TEST n).key))
    (h41 : P (.field (PRT.MTRCNT.DATAHIT n).key)) (h42 : P (.field (PRT.MTRCNT.NAKHIT n).key))
    (h43 : P (.field (PRT.MTRSTS.STRANDED n).key)) (h44 : P (.field (PRT.MTRSTS.WITHDRAWN n).key))
    (h45 : P (.field (PRT.PDSTS.ALTMODE n).key)) (h46 : P (.field (PRT.PDSTS.EVT n).key))
    (h47 : P (.field (PRT.PDSTS.EXPLICIT n).key)) (h48 : P (.field (PRT.PDSTS.OBJPOS n).key))
    (h49 : P (.field (PRT.PDSTS.OPCURR n).key)) (h50 : P (.field (PRT.PDSTS.VCSRC n).key))
    (h51 : P (.field (PRT.PDSTS.VSEL n).key)) (h52 : P (.field (PRT.QSTS.STOPPED n).key))
    (h53 : P (.field (PRT.TCSTS.RPADV n).key)) (h54 : P (.field (PRT.TCSTS.TCSTATE n).key))
    (h55 : P (.field (PRT.VCONN.ON n).key)) (h56 : P (.field (PWR.PALLOW.SHED n).key))
    (h57 : P (.field (PWR.PALLOW.WAIT n).key)) (h58 : P (.field (PWR.PBOOK.COMMIT n).key))
    (h59 : P (.field (PWR.PBOOK.CONTRACT n).key)) (h60 : ∀ i, P (.field (PWR.QBOOK.COMMIT i).key))
    (h61 : ∀ i, P (.field (PWR.QBOOK.CONTRACT i).key)) (h62 : P (.field PWR.TOTCOM.COMMIT.key))
    (h63 : P (.field PWR.TOTCON.CONTRACT.key)) (h64 : ∀ i, P (.field (SWX.CNTA.STALE i).key))
    (h65 : ∀ i, P (.field (SWX.CNTB.RLYWD i).key)) (h66 : P .sw) (h67 : ∀ i, P (.up i)) :
    Only P s (t.markOff n) := by
  unfold State.markOff
  repeat' with_reducible first
    | assumption | apply Only.wr | apply State.powerCut_only

theorem State.peMarkOff_only
    (h : Only P s t) (n : Nat) (h1 : P .edgeDue) (h2 : P .freeCtr) (h3 : P .outs) (h4 : ∀ i, P (.port i))
    (h5 : P (.field LDS.CHG0.P00_P31.key)) (h6 : P (.field LDS.CHG1.P32_P47.key))
    (h7 : P (.field (LDS.RSUM.HBUSED n).key)) (h8 : P (.field (LDS.RSUM.IDVALID n).key))
    (h9 : P (.field (LDS.RSUM.PROFILE n).key)) (h10 : P (.field (LDS.RSUM.RESULT n).key))
    (h11 : P (.field (LDS.RSUM.STATE n).key)) (h12 : P (.field PKM.FENCE.FALLBACK.key))
    (h13 : P (.field PKM.FREESTS.WAS.key)) (h14 : P (.field PKM.GCNT0.FREE.key))
    (h15 : P (.field PKM.GCNT0.QUEUED.key)) (h16 : P (.field PKM.GCNT1.INFLIGHT.key))
    (h17 : P (.field PKM.GCNT2.POOLFREE.key)) (h18 : ∀ i, P (.field (PKM.IQPTR.RPTR i).key))
    (h19 : P (.field (PRT.ALTMUX.ACTIVE n).key)) (h20 : ∀ i, P (.field (PRT.ALTMUX.QBUSY i).key))
    (h21 : ∀ i, P (.field (PRT.ALTMUX.QHOLD i).key)) (h22 : P (.field (PRT.FUSEVT.PGOFF n).key))
    (h23 : P (.field (PRT.FUSSTS.FOLD n).key)) (h24 : P (.field (PRT.FUSSTS.FTFILL n).key))
    (h25 : P (.field (PRT.FUSSTS.GATEON n).key)) (h26 : P (.field (PRT.FUSSTS.LIMIT n).key))
    (h27 : P (.field (PRT.FUSSTS.PG n).key)) (h28 : P (.field (PRT.HUBCHG.C_CONNECTION n).key))
    (h29 : P (.field (PRT.HUBCHG.C_ENABLE n).key)) (h30 : P (.field (PRT.HUBCHG.C_OVERCUR n).key))
    (h31 : P (.field (PRT.HUBCHG.C_RESET n).key)) (h32 : P (.field (PRT.HUBCHG.C_SUSPEND n).key))
    (h33 : P (.field (PRT.HUBSTS.CONNECTION n).key)) (h34 : P (.field (PRT.HUBSTS.ENABLE n).key))
    (h35 : P (.field (PRT.HUBSTS.HIGHSPD n).key)) (h36 : P (.field (PRT.HUBSTS.LOWSPD n).key))
    (h37 : P (.field (PRT.HUBSTS.RESET n).key)) (h38 : P (.field (PRT.HUBSTS.STATE n).key))
    (h39 : P (.field (PRT.HUBSTS.SUSPEND n).key)) (h40 : P (.field (PRT.HUBSTS.TEST n).key))
    (h41 : P (.field (PRT.MTRCNT.DATAHIT n).key)) (h42 : P (.field (PRT.MTRCNT.NAKHIT n).key))
    (h43 : P (.field (PRT.MTRSTS.STRANDED n).key)) (h44 : P (.field (PRT.MTRSTS.WITHDRAWN n).key))
    (h45 : P (.field (PRT.PDSTS.ALTMODE n).key)) (h46 : P (.field (PRT.PDSTS.EVT n).key))
    (h47 : P (.field (PRT.PDSTS.EXPLICIT n).key)) (h48 : P (.field (PRT.PDSTS.OBJPOS n).key))
    (h49 : P (.field (PRT.PDSTS.OPCURR n).key)) (h50 : P (.field (PRT.PDSTS.VCSRC n).key))
    (h51 : P (.field (PRT.PDSTS.VSEL n).key)) (h52 : P (.field (PRT.QSTS.STOPPED n).key))
    (h53 : P (.field (PRT.TCSTS.RPADV n).key)) (h54 : P (.field (PRT.TCSTS.TCSTATE n).key))
    (h55 : P (.field (PRT.VCONN.ON n).key)) (h56 : P (.field (PWR.PALLOW.SHED n).key))
    (h57 : P (.field (PWR.PALLOW.WAIT n).key)) (h58 : P (.field (PWR.PBOOK.COMMIT n).key))
    (h59 : P (.field (PWR.PBOOK.CONTRACT n).key)) (h60 : ∀ i, P (.field (PWR.QBOOK.COMMIT i).key))
    (h61 : ∀ i, P (.field (PWR.QBOOK.CONTRACT i).key)) (h62 : P (.field PWR.TOTCOM.COMMIT.key))
    (h63 : P (.field PWR.TOTCON.CONTRACT.key)) (h64 : ∀ i, P (.field (SWX.CNTA.STALE i).key))
    (h65 : ∀ i, P (.field (SWX.CNTB.RLYWD i).key)) (h66 : P .sw) (h67 : ∀ i, P (.up i)) :
    Only P s (t.peMarkOff n) := by
  unfold State.peMarkOff
  repeat' with_reducible first
    | assumption | apply Only.wr | apply State.markOff_only | apply h4 | apply h18 | apply h20 | apply h21
    | apply h60 | apply h61 | apply h64 | apply h65 | apply h67 | intro _ _ _ | intro _ _ | split

theorem State.clearMark_only
    (h : Only P s t) (n : Nat) (h1 : P (.field (PWR.PALLOW.SHED n).key)) :
    Only P s (t.clearMark n) := by
  unfold State.clearMark
  repeat' with_reducible first
    | assumption | apply Only.wr

theorem State.tryApply_only
    (h : Only P s t) (n : Nat) (h1 : P (.port n)) (h2 : P (.field (PRT.TCSTS.LEAKMIN n).key))
    (h3 : P (.field (PRT.TCSTS.MOISTOK n).key)) :
    Only P s (t.tryApply n) := by
  unfold State.tryApply
  repeat' with_reducible first
    | assumption | apply Only.wr | apply Only.modPort | intro _ _ _ | intro _ _ | split

theorem State.deliver_only
    (h : Only P s t) (t_ : Nat) (h1 : P .icuTimer) (h2 : P (.field (ICU.TSTAT.HELD t_).key))
    (h3 : P (.field (ICU.TSTAT.LINE t_).key)) :
    Only P s (t.deliver t_) := by
  unfold State.deliver
  repeat' with_reducible first
    | assumption | apply Only.wr | apply Only.flag | intro _ _ _ | intro _ _ | split | apply Only.upd
    | exact .inr rfl | (left; assumption)

theorem State.hold_only
    (h : Only P s t) (t_ i : Nat) (h1 : P .icuTimer) (h2 : P (.field (ICU.TSTAT.HELD t_).key))
    (h3 : P (.field (ICU.TSTAT.LINE t_).key)) :
    Only P s (t.hold t_ i) := by
  unfold State.hold
  repeat' with_reducible first
    | assumption | apply Only.bump | apply State.deliver_only | intro _ _ _ | intro _ _ | split | apply Only.upd
    | exact .inr rfl | (left; assumption)

theorem State.ctlAbort_only
    (h : Only P s t) (u : Nat) (h1 : P (.field (UPS.CNT0.ABORTCNT u).key))
    (h2 : P (.field (UPS.EVT.CTLABORT u).key)) (h3 : P (.field (UPS.STS.STAGED u).key)) (h4 : P (.up u)) :
    Only P s (t.ctlAbort u) := by
  unfold State.ctlAbort
  repeat' with_reducible first
    | assumption | apply Only.wr | apply Only.raise | apply Only.bump | apply Only.modUp | intro _ _ _ | intro _ _
    | split

theorem State.mbxRelease_only
    (h : Only P s t) (m : Nat) (h1 : P (.mb m)) (h2 : P (.field MBX.BULK.HELD.key))
    (h3 : P (.field MBX.BULK.HOLDER.key)) (h4 : P (.field (MBX.CTRL.BUSY m).key))
    (h5 : P (.field (MBX.CTRL.VALID m).key)) :
    Only P s (t.mbxRelease m) := by
  unfold State.mbxRelease
  repeat' with_reducible first
    | assumption | apply Only.wr | apply Only.modMb | intro _ _ _ | intro _ _ | split | dsimp only

theorem State.ccOpen_only
    (h : Only P s t) (n : Nat) (h1 : P .outs) (h2 : P (.port n)) (h3 : P (.field (PRT.PDSTS.PWRROLE n).key))
    (h4 : P (.field (PRT.TCSTS.MOISTOK n).key)) (h5 : P (.field (PRT.TCSTS.ORIENT n).key))
    (h6 : P (.field (PRT.TCSTS.TCSTATE n).key)) :
    Only P s (t.ccOpen n) := by
  unfold State.ccOpen
  repeat' with_reducible first
    | assumption | apply Only.wr | apply Only.modPort | apply Only.emit

theorem State.wetEnd_only
    (h : Only P s t) (n : Nat) (h1 : P (.field (PRT.TCEVT.WETOUT n).key)) (h2 : P (.field (PRT.TCSTS.WET n).key))
    (h3 : P (.field (PRT.TCSTS.WETGND n).key)) (h4 : P (.field (PRT.TCSTS.WETPIN n).key))
    (h5 : P (.field (PRT.TCSTS.WETVBUS n).key)) :
    Only P s (t.wetEnd n) := by
  unfold State.wetEnd
  repeat' with_reducible first
    | assumption | apply Only.wr | apply Only.raise | intro _ _ _ | intro _ _ | split

theorem State.dropPower_only
    (h : Only P s t) (n : Nat) (h1 : P .outs) (h2 : P (.port n)) (h3 : P (.field (PRT.ALTMUX.ACTIVE n).key))
    (h4 : ∀ i, P (.field (PRT.ALTMUX.QBUSY i).key)) (h5 : ∀ i, P (.field (PRT.ALTMUX.QHOLD i).key))
    (h6 : P (.field (PRT.FUSEVT.PGOFF n).key)) (h7 : P (.field (PRT.FUSSTS.FOLD n).key))
    (h8 : P (.field (PRT.FUSSTS.GATEON n).key)) (h9 : P (.field (PRT.FUSSTS.LIMIT n).key))
    (h10 : P (.field (PRT.FUSSTS.PG n).key)) (h11 : P (.field (PRT.PDSTS.ALTMODE n).key))
    (h12 : P (.field (PRT.PDSTS.EVT n).key)) (h13 : P (.field (PRT.PDSTS.EXPLICIT n).key))
    (h14 : P (.field (PRT.PDSTS.OBJPOS n).key)) (h15 : P (.field (PRT.PDSTS.OPCURR n).key))
    (h16 : P (.field (PRT.PDSTS.PWRROLE n).key)) (h17 : P (.field (PRT.PDSTS.VCSRC n).key))
    (h18 : P (.field (PRT.PDSTS.VSEL n).key)) (h19 : P (.field (PRT.TCEVT.WETOUT n).key))
    (h20 : P (.field (PRT.TCSTS.MOISTOK n).key)) (h21 : P (.field (PRT.TCSTS.ORIENT n).key))
    (h22 : P (.field (PRT.TCSTS.TCSTATE n).key)) (h23 : P (.field (PRT.TCSTS.WET n).key))
    (h24 : P (.field (PRT.TCSTS.WETGND n).key)) (h25 : P (.field (PRT.TCSTS.WETPIN n).key))
    (h26 : P (.field (PRT.TCSTS.WETVBUS n).key)) (h27 : P (.field (PRT.VCONN.ON n).key))
    (h28 : P (.field (PWR.PALLOW.WAIT n).key)) (h29 : P (.field (PWR.PBOOK.CONTRACT n).key))
    (h30 : ∀ i, P (.field (PWR.QBOOK.COMMIT i).key)) (h31 : ∀ i, P (.field (PWR.QBOOK.CONTRACT i).key))
    (h32 : P (.field PWR.TOTCOM.COMMIT.key)) (h33 : P (.field PWR.TOTCON.CONTRACT.key)) :
    Only P s (t.dropPower n) := by
  unfold State.dropPower
  repeat' with_reducible first
    | assumption | apply Only.modPort | apply State.ccOpen_only | apply State.endContract_only
    | apply State.gateOff_only | apply State.modeExit_only | apply State.unwait_only | apply State.vconnOff_only
    | apply State.wetEnd_only

theorem State.demandFall_only
    (h : Only P s t) (n : Nat) (h1 : P .edgeDue) (h2 : P .freeCtr) (h3 : P .outs) (h4 : ∀ i, P (.port i))
    (h5 : P (.field LDS.CHG0.P00_P31.key)) (h6 : P (.field LDS.CHG1.P32_P47.key))
    (h7 : P (.field (LDS.RSUM.HBUSED n).key)) (h8 : P (.field (LDS.RSUM.IDVALID n).key))
    (h9 : P (.field (LDS.RSUM.PROFILE n).key)) (h10 : P (.field (LDS.RSUM.RESULT n).key))
    (h11 : P (.field (LDS.RSUM.STATE n).key)) (h12 : P (.field PKM.FENCE.FALLBACK.key))
    (h13 : P (.field PKM.FREESTS.WAS.key)) (h14 : P (.field PKM.GCNT0.FREE.key))
    (h15 : P (.field PKM.GCNT0.QUEUED.key)) (h16 : P (.field PKM.GCNT1.INFLIGHT.key))
    (h17 : P (.field PKM.GCNT2.POOLFREE.key)) (h18 : ∀ i, P (.field (PKM.IQPTR.RPTR i).key))
    (h19 : P (.field (PRT.ALTMUX.ACTIVE n).key)) (h20 : ∀ i, P (.field (PRT.ALTMUX.QBUSY i).key))
    (h21 : ∀ i, P (.field (PRT.ALTMUX.QHOLD i).key)) (h22 : P (.field (PRT.FUSEVT.PGOFF n).key))
    (h23 : P (.field (PRT.FUSSTS.FOLD n).key)) (h24 : P (.field (PRT.FUSSTS.GATEON n).key))
    (h25 : P (.field (PRT.FUSSTS.LIMIT n).key)) (h26 : P (.field (PRT.FUSSTS.PG n).key))
    (h27 : P (.field (PRT.HUBSTS.CONNECTION n).key)) (h28 : P (.field (PRT.HUBSTS.ENABLE n).key))
    (h29 : P (.field (PRT.HUBSTS.HIGHSPD n).key)) (h30 : P (.field (PRT.HUBSTS.LOWSPD n).key))
    (h31 : P (.field (PRT.HUBSTS.POWER n).key)) (h32 : P (.field (PRT.HUBSTS.RESET n).key))
    (h33 : P (.field (PRT.HUBSTS.STATE n).key)) (h34 : P (.field (PRT.HUBSTS.SUSPEND n).key))
    (h35 : P (.field (PRT.HUBSTS.TEST n).key)) (h36 : P (.field (PRT.MTRCNT.DATAHIT n).key))
    (h37 : P (.field (PRT.MTRCNT.NAKHIT n).key)) (h38 : P (.field (PRT.MTRSTS.STRANDED n).key))
    (h39 : P (.field (PRT.MTRSTS.WITHDRAWN n).key)) (h40 : P (.field (PRT.PDSTS.ALTMODE n).key))
    (h41 : P (.field (PRT.PDSTS.EVT n).key)) (h42 : P (.field (PRT.PDSTS.EXPLICIT n).key))
    (h43 : P (.field (PRT.PDSTS.OBJPOS n).key)) (h44 : P (.field (PRT.PDSTS.OPCURR n).key))
    (h45 : P (.field (PRT.PDSTS.PWRROLE n).key)) (h46 : P (.field (PRT.PDSTS.VCSRC n).key))
    (h47 : P (.field (PRT.PDSTS.VSEL n).key)) (h48 : P (.field (PRT.QSTS.STOPPED n).key))
    (h49 : P (.field (PRT.TCEVT.WETOUT n).key)) (h50 : P (.field (PRT.TCSTS.MOISTOK n).key))
    (h51 : P (.field (PRT.TCSTS.ORIENT n).key)) (h52 : P (.field (PRT.TCSTS.TCSTATE n).key))
    (h53 : P (.field (PRT.TCSTS.WET n).key)) (h54 : P (.field (PRT.TCSTS.WETGND n).key))
    (h55 : P (.field (PRT.TCSTS.WETPIN n).key)) (h56 : P (.field (PRT.TCSTS.WETVBUS n).key))
    (h57 : P (.field (PRT.VCONN.ON n).key)) (h58 : P (.field (PWR.PALLOW.SHED n).key))
    (h59 : P (.field (PWR.PALLOW.WAIT n).key)) (h60 : P (.field (PWR.PBOOK.COMMIT n).key))
    (h61 : P (.field (PWR.PBOOK.CONTRACT n).key)) (h62 : ∀ i, P (.field (PWR.QBOOK.COMMIT i).key))
    (h63 : ∀ i, P (.field (PWR.QBOOK.CONTRACT i).key)) (h64 : P (.field PWR.TOTCOM.COMMIT.key))
    (h65 : P (.field PWR.TOTCON.CONTRACT.key)) (h66 : ∀ i, P (.field (SWX.CNTA.STALE i).key))
    (h67 : ∀ i, P (.field (SWX.CNTB.RLYWD i).key)) (h68 : P .sw) (h69 : ∀ i, P (.up i)) :
    Only P s (t.demandFall n) := by
  unfold State.demandFall
  repeat' with_reducible first
    | assumption | apply Only.wr | apply Only.modPort | apply State.clearMark_only | apply State.discharge_only
    | apply State.dropPower_only | apply State.hubDown_only | apply h4

theorem State.ccOn_only
    (h : Only P s t) (n : Nat) (h1 : P .outs) (h2 : P (.port n)) (h3 : P (.field (PRT.TCSTS.RPADV n).key))
    (h4 : P (.field (PRT.TCSTS.TCSTATE n).key)) :
    Only P s (t.ccOn n) := by
  unfold State.ccOn
  repeat' with_reducible first
    | assumption | apply Only.wr | apply Only.modPort | apply Only.emit

theorem State.demandRise_only
    (h : Only P s t) (n : Nat) (h1 : P .outs) (h2 : P (.port n)) (h3 : P (.field (PRT.HUBSTS.ENABLE n).key))
    (h4 : P (.field (PRT.HUBSTS.POWER n).key)) (h5 : P (.field (PRT.HUBSTS.RESET n).key))
    (h6 : P (.field (PRT.HUBSTS.STATE n).key)) (h7 : P (.field (PRT.HUBSTS.SUSPEND n).key))
    (h8 : P (.field (PRT.HUBSTS.TEST n).key)) (h9 : P (.field (PRT.TCSTS.RPADV n).key))
    (h10 : P (.field (PRT.TCSTS.TCSTATE n).key)) :
    Only P s (t.demandRise n) := by
  unfold State.demandRise
  repeat' with_reducible first
    | assumption | apply Only.raise | apply Only.modPort | apply State.ccOn_only | apply State.setHub_only
    | intro _ _ _ | intro _ _ | split

theorem State.oosShow_only
    (h : Only P s t) (n : Nat) (h1 : P (.field (PRT.TCEVT.OOS n).key)) (h2 : P (.field (PRT.TCSTS.OOS n).key)) :
    Only P s (t.oosShow n) := by
  unfold State.oosShow
  repeat' with_reducible first
    | assumption | apply Only.raise | apply Only.flag | intro _ _ _ | intro _ _ | split | dsimp only

theorem State.evalDemand_only
    (h : Only P s t) (n : Nat) (h1 : P .edgeDue) (h2 : P .freeCtr) (h3 : P .outs) (h4 : ∀ i, P (.port i))
    (h5 : P (.field LDS.CHG0.P00_P31.key)) (h6 : P (.field LDS.CHG1.P32_P47.key))
    (h7 : P (.field (LDS.RSUM.HBUSED n).key)) (h8 : P (.field (LDS.RSUM.IDVALID n).key))
    (h9 : P (.field (LDS.RSUM.PROFILE n).key)) (h10 : P (.field (LDS.RSUM.RESULT n).key))
    (h11 : P (.field (LDS.RSUM.STATE n).key)) (h12 : P (.field PKM.FENCE.FALLBACK.key))
    (h13 : P (.field PKM.FREESTS.WAS.key)) (h14 : P (.field PKM.GCNT0.FREE.key))
    (h15 : P (.field PKM.GCNT0.QUEUED.key)) (h16 : P (.field PKM.GCNT1.INFLIGHT.key))
    (h17 : P (.field PKM.GCNT2.POOLFREE.key)) (h18 : ∀ i, P (.field (PKM.IQPTR.RPTR i).key))
    (h19 : P (.field (PRT.ALTMUX.ACTIVE n).key)) (h20 : ∀ i, P (.field (PRT.ALTMUX.QBUSY i).key))
    (h21 : ∀ i, P (.field (PRT.ALTMUX.QHOLD i).key)) (h22 : P (.field (PRT.FUSEVT.PGOFF n).key))
    (h23 : P (.field (PRT.FUSSTS.FOLD n).key)) (h24 : P (.field (PRT.FUSSTS.GATEON n).key))
    (h25 : P (.field (PRT.FUSSTS.LIMIT n).key)) (h26 : P (.field (PRT.FUSSTS.PG n).key))
    (h27 : P (.field (PRT.HUBSTS.CONNECTION n).key)) (h28 : P (.field (PRT.HUBSTS.ENABLE n).key))
    (h29 : P (.field (PRT.HUBSTS.HIGHSPD n).key)) (h30 : P (.field (PRT.HUBSTS.LOWSPD n).key))
    (h31 : P (.field (PRT.HUBSTS.POWER n).key)) (h32 : P (.field (PRT.HUBSTS.RESET n).key))
    (h33 : P (.field (PRT.HUBSTS.STATE n).key)) (h34 : P (.field (PRT.HUBSTS.SUSPEND n).key))
    (h35 : P (.field (PRT.HUBSTS.TEST n).key)) (h36 : P (.field (PRT.MTRCNT.DATAHIT n).key))
    (h37 : P (.field (PRT.MTRCNT.NAKHIT n).key)) (h38 : P (.field (PRT.MTRSTS.STRANDED n).key))
    (h39 : P (.field (PRT.MTRSTS.WITHDRAWN n).key)) (h40 : P (.field (PRT.PDSTS.ALTMODE n).key))
    (h41 : P (.field (PRT.PDSTS.EVT n).key)) (h42 : P (.field (PRT.PDSTS.EXPLICIT n).key))
    (h43 : P (.field (PRT.PDSTS.OBJPOS n).key)) (h44 : P (.field (PRT.PDSTS.OPCURR n).key))
    (h45 : P (.field (PRT.PDSTS.PWRROLE n).key)) (h46 : P (.field (PRT.PDSTS.VCSRC n).key))
    (h47 : P (.field (PRT.PDSTS.VSEL n).key)) (h48 : P (.field (PRT.QSTS.STOPPED n).key))
    (h49 : P (.field (PRT.TCEVT.OOS n).key)) (h50 : P (.field (PRT.TCEVT.WETOUT n).key))
    (h51 : P (.field (PRT.TCSTS.MOISTOK n).key)) (h52 : P (.field (PRT.TCSTS.OOS n).key))
    (h53 : P (.field (PRT.TCSTS.ORIENT n).key)) (h54 : P (.field (PRT.TCSTS.RPADV n).key))
    (h55 : P (.field (PRT.TCSTS.TCSTATE n).key)) (h56 : P (.field (PRT.TCSTS.WET n).key))
    (h57 : P (.field (PRT.TCSTS.WETGND n).key)) (h58 : P (.field (PRT.TCSTS.WETPIN n).key))
    (h59 : P (.field (PRT.TCSTS.WETVBUS n).key)) (h60 : P (.field (PRT.VCONN.ON n).key))
    (h61 : P (.field (PWR.PALLOW.SHED n).key)) (h62 : P (.field (PWR.PALLOW.WAIT n).key))
    (h63 : P (.field (PWR.PBOOK.COMMIT n).key)) (h64 : P (.field (PWR.PBOOK.CONTRACT n).key))
    (h65 : ∀ i, P (.field (PWR.QBOOK.COMMIT i).key)) (h66 : ∀ i, P (.field (PWR.QBOOK.CONTRACT i).key))
    (h67 : P (.field PWR.TOTCOM.COMMIT.key)) (h68 : P (.field PWR.TOTCON.CONTRACT.key))
    (h69 : ∀ i, P (.field (SWX.CNTA.STALE i).key)) (h70 : ∀ i, P (.field (SWX.CNTB.RLYWD i).key)) (h71 : P .sw)
    (h72 : ∀ i, P (.up i)) :
    Only P s (t.evalDemand n) := by
  unfold State.evalDemand
  repeat' with_reducible first
    | assumption | apply State.demandFall_only | apply State.demandRise_only | apply State.oosShow_only | apply h4
    | apply h18 | apply h20 | apply h21 | apply h65 | apply h66 | apply h69 | apply h70 | apply h72 | intro _ _ _
    | intro _ _ | split | dsimp only

theorem State.resetOwnedPort_only
    (h : Only P s t) (u n : Nat) (h1 : P .edgeDue) (h2 : P .freeCtr) (h3 : P .outs) (h4 : ∀ i, P (.port i))
    (h5 : P (.field LDS.CHG0.P00_P31.key)) (h6 : P (.field LDS.CHG1.P32_P47.key))
    (h7 : P (.field (LDS.RSUM.HBUSED n).key)) (h8 : P (.field (LDS.RSUM.IDVALID n).key))
    (h9 : P (.field (LDS.RSUM.PROFILE n).key)) (h10 : P (.field (LDS.RSUM.RESULT n).key))
    (h11 : P (.field (LDS.RSUM.STATE n).key)) (h12 : P (.field PKM.FENCE.FALLBACK.key))
    (h13 : P (.field PKM.FREESTS.WAS.key)) (h14 : P (.field PKM.GCNT0.FREE.key))
    (h15 : P (.field PKM.GCNT0.QUEUED.key)) (h16 : P (.field PKM.GCNT1.INFLIGHT.key))
    (h17 : P (.field PKM.GCNT2.POOLFREE.key)) (h18 : ∀ i, P (.field (PKM.IQPTR.RPTR i).key))
    (h19 : P (.field (PRT.ALTMUX.ACTIVE n).key)) (h20 : ∀ i, P (.field (PRT.ALTMUX.QBUSY i).key))
    (h21 : ∀ i, P (.field (PRT.ALTMUX.QHOLD i).key)) (h22 : P (.field (PRT.FUSEVT.PGOFF n).key))
    (h23 : P (.field (PRT.FUSSTS.FOLD n).key)) (h24 : P (.field (PRT.FUSSTS.GATEON n).key))
    (h25 : P (.field (PRT.FUSSTS.LIMIT n).key)) (h26 : P (.field (PRT.FUSSTS.PG n).key))
    (h27 : P (.field (PRT.HUBSTS.CONNECTION n).key)) (h28 : P (.field (PRT.HUBSTS.ENABLE n).key))
    (h29 : P (.field (PRT.HUBSTS.HIGHSPD n).key)) (h30 : P (.field (PRT.HUBSTS.LOWSPD n).key))
    (h31 : P (.field (PRT.HUBSTS.POWER n).key)) (h32 : P (.field (PRT.HUBSTS.RESET n).key))
    (h33 : P (.field (PRT.HUBSTS.STATE n).key)) (h34 : P (.field (PRT.HUBSTS.SUSPEND n).key))
    (h35 : P (.field (PRT.HUBSTS.TEST n).key)) (h36 : P (.field (PRT.MTRCNT.DATAHIT n).key))
    (h37 : P (.field (PRT.MTRCNT.NAKHIT n).key)) (h38 : P (.field (PRT.MTRSTS.STRANDED n).key))
    (h39 : P (.field (PRT.MTRSTS.WITHDRAWN n).key)) (h40 : P (.field (PRT.PDSTS.ALTMODE n).key))
    (h41 : P (.field (PRT.PDSTS.EVT n).key)) (h42 : P (.field (PRT.PDSTS.EXPLICIT n).key))
    (h43 : P (.field (PRT.PDSTS.OBJPOS n).key)) (h44 : P (.field (PRT.PDSTS.OPCURR n).key))
    (h45 : P (.field (PRT.PDSTS.PWRROLE n).key)) (h46 : P (.field (PRT.PDSTS.VCSRC n).key))
    (h47 : P (.field (PRT.PDSTS.VSEL n).key)) (h48 : P (.field (PRT.QSTS.STOPPED n).key))
    (h49 : P (.field (PRT.TCEVT.OOS n).key)) (h50 : P (.field (PRT.TCEVT.WETOUT n).key))
    (h51 : P (.field (PRT.TCSTS.MOISTOK n).key)) (h52 : P (.field (PRT.TCSTS.OOS n).key))
    (h53 : P (.field (PRT.TCSTS.ORIENT n).key)) (h54 : P (.field (PRT.TCSTS.RPADV n).key))
    (h55 : P (.field (PRT.TCSTS.TCSTATE n).key)) (h56 : P (.field (PRT.TCSTS.WET n).key))
    (h57 : P (.field (PRT.TCSTS.WETGND n).key)) (h58 : P (.field (PRT.TCSTS.WETPIN n).key))
    (h59 : P (.field (PRT.TCSTS.WETVBUS n).key)) (h60 : P (.field (PRT.VCONN.ON n).key))
    (h61 : P (.field (PWR.PALLOW.SHED n).key)) (h62 : P (.field (PWR.PALLOW.WAIT n).key))
    (h63 : P (.field (PWR.PBOOK.COMMIT n).key)) (h64 : P (.field (PWR.PBOOK.CONTRACT n).key))
    (h65 : ∀ i, P (.field (PWR.QBOOK.COMMIT i).key)) (h66 : ∀ i, P (.field (PWR.QBOOK.CONTRACT i).key))
    (h67 : P (.field PWR.TOTCOM.COMMIT.key)) (h68 : P (.field PWR.TOTCON.CONTRACT.key))
    (h69 : ∀ i, P (.field (SWX.CNTA.STALE i).key)) (h70 : ∀ i, P (.field (SWX.CNTB.RLYWD i).key)) (h71 : P .sw)
    (h72 : ∀ i, P (.up i)) :
    Only P s (t.resetOwnedPort u n) := by
  unfold State.resetOwnedPort
  repeat' with_reducible first
    | assumption | apply Only.wr | apply Only.modPort | apply Only.emit | apply State.dropStale_only
    | apply State.evalDemand_only | apply State.hubDrop_only | apply State.setHub_only | apply h4 | apply h18
    | apply h20 | apply h21 | apply h65 | apply h66 | apply h69 | apply h70 | apply h72 | intro _ _ _ | intro _ _
    | split | apply Only.upd | exact .inr rfl

theorem State.resetView_only
    (h : Only P s t) (u n : Nat) (h1 : P (.up u)) :
    Only P s (t.resetView u n) := by
  unfold State.resetView
  repeat' with_reducible first
    | assumption | apply Only.setView

theorem State.portResets_only
    (h : Only P s t) (u : Nat) (h1 : P .edgeDue) (h2 : P .freeCtr) (h3 : P .outs) (h4 : ∀ i, P (.port i))
    (h5 : P (.field LDS.CHG0.P00_P31.key)) (h6 : P (.field LDS.CHG1.P32_P47.key))
    (h7 : ∀ i, P (.field (LDS.RSUM.HBUSED i).key)) (h8 : ∀ i, P (.field (LDS.RSUM.IDVALID i).key))
    (h9 : ∀ i, P (.field (LDS.RSUM.PROFILE i).key)) (h10 : ∀ i, P (.field (LDS.RSUM.RESULT i).key))
    (h11 : ∀ i, P (.field (LDS.RSUM.STATE i).key)) (h12 : P (.field PKM.FENCE.FALLBACK.key))
    (h13 : P (.field PKM.FREESTS.WAS.key)) (h14 : P (.field PKM.GCNT0.FREE.key))
    (h15 : P (.field PKM.GCNT0.QUEUED.key)) (h16 : P (.field PKM.GCNT1.INFLIGHT.key))
    (h17 : P (.field PKM.GCNT2.POOLFREE.key)) (h18 : ∀ i, P (.field (PKM.IQPTR.RPTR i).key))
    (h19 : ∀ i, P (.field (PRT.ALTMUX.ACTIVE i).key)) (h20 : ∀ i, P (.field (PRT.ALTMUX.QBUSY i).key))
    (h21 : ∀ i, P (.field (PRT.ALTMUX.QHOLD i).key)) (h22 : ∀ i, P (.field (PRT.FUSEVT.PGOFF i).key))
    (h23 : ∀ i, P (.field (PRT.FUSSTS.FOLD i).key)) (h24 : ∀ i, P (.field (PRT.FUSSTS.GATEON i).key))
    (h25 : ∀ i, P (.field (PRT.FUSSTS.LIMIT i).key)) (h26 : ∀ i, P (.field (PRT.FUSSTS.PG i).key))
    (h27 : ∀ i, P (.field (PRT.HUBSTS.CONNECTION i).key)) (h28 : ∀ i, P (.field (PRT.HUBSTS.ENABLE i).key))
    (h29 : ∀ i, P (.field (PRT.HUBSTS.HIGHSPD i).key)) (h30 : ∀ i, P (.field (PRT.HUBSTS.LOWSPD i).key))
    (h31 : ∀ i, P (.field (PRT.HUBSTS.POWER i).key)) (h32 : ∀ i, P (.field (PRT.HUBSTS.RESET i).key))
    (h33 : ∀ i, P (.field (PRT.HUBSTS.STATE i).key)) (h34 : ∀ i, P (.field (PRT.HUBSTS.SUSPEND i).key))
    (h35 : ∀ i, P (.field (PRT.HUBSTS.TEST i).key)) (h36 : ∀ i, P (.field (PRT.MTRCNT.DATAHIT i).key))
    (h37 : ∀ i, P (.field (PRT.MTRCNT.NAKHIT i).key)) (h38 : ∀ i, P (.field (PRT.MTRSTS.STRANDED i).key))
    (h39 : ∀ i, P (.field (PRT.MTRSTS.WITHDRAWN i).key)) (h40 : ∀ i, P (.field (PRT.PDSTS.ALTMODE i).key))
    (h41 : ∀ i, P (.field (PRT.PDSTS.EVT i).key)) (h42 : ∀ i, P (.field (PRT.PDSTS.EXPLICIT i).key))
    (h43 : ∀ i, P (.field (PRT.PDSTS.OBJPOS i).key)) (h44 : ∀ i, P (.field (PRT.PDSTS.OPCURR i).key))
    (h45 : ∀ i, P (.field (PRT.PDSTS.PWRROLE i).key)) (h46 : ∀ i, P (.field (PRT.PDSTS.VCSRC i).key))
    (h47 : ∀ i, P (.field (PRT.PDSTS.VSEL i).key)) (h48 : ∀ i, P (.field (PRT.QSTS.STOPPED i).key))
    (h49 : ∀ i, P (.field (PRT.TCEVT.OOS i).key)) (h50 : ∀ i, P (.field (PRT.TCEVT.WETOUT i).key))
    (h51 : ∀ i, P (.field (PRT.TCSTS.MOISTOK i).key)) (h52 : ∀ i, P (.field (PRT.TCSTS.OOS i).key))
    (h53 : ∀ i, P (.field (PRT.TCSTS.ORIENT i).key)) (h54 : ∀ i, P (.field (PRT.TCSTS.RPADV i).key))
    (h55 : ∀ i, P (.field (PRT.TCSTS.TCSTATE i).key)) (h56 : ∀ i, P (.field (PRT.TCSTS.WET i).key))
    (h57 : ∀ i, P (.field (PRT.TCSTS.WETGND i).key)) (h58 : ∀ i, P (.field (PRT.TCSTS.WETPIN i).key))
    (h59 : ∀ i, P (.field (PRT.TCSTS.WETVBUS i).key)) (h60 : ∀ i, P (.field (PRT.VCONN.ON i).key))
    (h61 : ∀ i, P (.field (PWR.PALLOW.SHED i).key)) (h62 : ∀ i, P (.field (PWR.PALLOW.WAIT i).key))
    (h63 : ∀ i, P (.field (PWR.PBOOK.COMMIT i).key)) (h64 : ∀ i, P (.field (PWR.PBOOK.CONTRACT i).key))
    (h65 : ∀ i, P (.field (PWR.QBOOK.COMMIT i).key)) (h66 : ∀ i, P (.field (PWR.QBOOK.CONTRACT i).key))
    (h67 : P (.field PWR.TOTCOM.COMMIT.key)) (h68 : P (.field PWR.TOTCON.CONTRACT.key))
    (h69 : ∀ i, P (.field (SWX.CNTA.STALE i).key)) (h70 : ∀ i, P (.field (SWX.CNTB.RLYWD i).key)) (h71 : P .sw)
    (h72 : ∀ i, P (.up i)) :
    Only P s (t.portResets u) := by
  unfold State.portResets
  repeat' with_reducible first
    | assumption | apply Only.forEach | apply Only.modUp | apply State.resetOwnedPort_only
    | apply State.resetView_only | apply h4 | apply h7 | apply h8 | apply h9 | apply h10 | apply h11 | apply h18
    | apply h19 | apply h20 | apply h21 | apply h22 | apply h23 | apply h24 | apply h25 | apply h26 | apply h27
    | apply h28 | apply h29 | apply h30 | apply h31 | apply h32 | apply h33 | apply h34 | apply h35 | apply h36
    | apply h37 | apply h38 | apply h39 | apply h40 | apply h41 | apply h42 | apply h43 | apply h44 | apply h45
    | apply h46 | apply h47 | apply h48 | apply h49 | apply h50 | apply h51 | apply h52 | apply h53 | apply h54
    | apply h55 | apply h56 | apply h57 | apply h58 | apply h59 | apply h60 | apply h61 | apply h62 | apply h63
    | apply h64 | apply h65 | apply h66 | apply h69 | apply h70 | apply h72 | intro _ _ _

theorem State.rtClear_only
    (h : Only P s t) (u : Nat) (h1 : P (.up u)) :
    Only P s (t.rtClear u) := by
  unfold State.rtClear
  repeat' with_reducible first
    | assumption | apply Only.forEach | apply State.rtQueue_only | intro _ _ _

theorem State.updAbort_only
    (h : Only P s t) (r : Nat) (h1 : P (.field BOOT.UPDSTS.BUSY.key)) (h2 : P (.field BOOT.UPDSTS.OWNER.key))
    (h3 : P (.field BOOT.UPDSTS.SESSION.key)) (h4 : P .upd) :
    Only P s (t.updAbort r) := by
  unfold State.updAbort
  repeat' with_reducible first
    | assumption | apply Only.wr | apply Only.flag | intro _ _ _ | intro _ _ | split | apply Only.upd
    | exact .inr rfl | (left; assumption)

theorem State.busResetActions_only
    (h : Only P s t) (u : Nat) (h1 : P .edgeDue) (h2 : P .freeCtr) (h3 : P (.mb u)) (h4 : P .outs)
    (h5 : ∀ i, P (.port i)) (h6 : P (.field BOOT.UPDSTS.BUSY.key)) (h7 : P (.field BOOT.UPDSTS.OWNER.key))
    (h8 : P (.field BOOT.UPDSTS.SESSION.key)) (h9 : P (.field LDS.CHG0.P00_P31.key))
    (h10 : P (.field LDS.CHG1.P32_P47.key)) (h11 : ∀ i, P (.field (LDS.RSUM.HBUSED i).key))
    (h12 : ∀ i, P (.field (LDS.RSUM.IDVALID i).key)) (h13 : ∀ i, P (.field (LDS.RSUM.PROFILE i).key))
    (h14 : ∀ i, P (.field (LDS.RSUM.RESULT i).key)) (h15 : ∀ i, P (.field (LDS.RSUM.STATE i).key))
    (h16 : P (.field MBX.BULK.HELD.key)) (h17 : P (.field MBX.BULK.HOLDER.key))
    (h18 : P (.field (MBX.CTRL.BUSY u).key)) (h19 : P (.field (MBX.CTRL.VALID u).key))
    (h20 : P (.field PKM.FENCE.FALLBACK.key)) (h21 : P (.field PKM.FREESTS.WAS.key))
    (h22 : P (.field PKM.GCNT0.FREE.key)) (h23 : P (.field PKM.GCNT0.QUEUED.key))
    (h24 : P (.field PKM.GCNT1.INFLIGHT.key)) (h25 : P (.field PKM.GCNT2.POOLFREE.key))
    (h26 : ∀ i, P (.field (PKM.IQPTR.RPTR i).key)) (h27 : ∀ i, P (.field (PRT.ALTMUX.ACTIVE i).key))
    (h28 : ∀ i, P (.field (PRT.ALTMUX.QBUSY i).key)) (h29 : ∀ i, P (.field (PRT.ALTMUX.QHOLD i).key))
    (h30 : ∀ i, P (.field (PRT.FUSEVT.PGOFF i).key)) (h31 : ∀ i, P (.field (PRT.FUSSTS.FOLD i).key))
    (h32 : ∀ i, P (.field (PRT.FUSSTS.GATEON i).key)) (h33 : ∀ i, P (.field (PRT.FUSSTS.LIMIT i).key))
    (h34 : ∀ i, P (.field (PRT.FUSSTS.PG i).key)) (h35 : ∀ i, P (.field (PRT.HUBSTS.CONNECTION i).key))
    (h36 : ∀ i, P (.field (PRT.HUBSTS.ENABLE i).key)) (h37 : ∀ i, P (.field (PRT.HUBSTS.HIGHSPD i).key))
    (h38 : ∀ i, P (.field (PRT.HUBSTS.LOWSPD i).key)) (h39 : ∀ i, P (.field (PRT.HUBSTS.POWER i).key))
    (h40 : ∀ i, P (.field (PRT.HUBSTS.RESET i).key)) (h41 : ∀ i, P (.field (PRT.HUBSTS.STATE i).key))
    (h42 : ∀ i, P (.field (PRT.HUBSTS.SUSPEND i).key)) (h43 : ∀ i, P (.field (PRT.HUBSTS.TEST i).key))
    (h44 : ∀ i, P (.field (PRT.MTRCNT.DATAHIT i).key)) (h45 : ∀ i, P (.field (PRT.MTRCNT.NAKHIT i).key))
    (h46 : ∀ i, P (.field (PRT.MTRSTS.STRANDED i).key)) (h47 : ∀ i, P (.field (PRT.MTRSTS.WITHDRAWN i).key))
    (h48 : ∀ i, P (.field (PRT.PDSTS.ALTMODE i).key)) (h49 : ∀ i, P (.field (PRT.PDSTS.EVT i).key))
    (h50 : ∀ i, P (.field (PRT.PDSTS.EXPLICIT i).key)) (h51 : ∀ i, P (.field (PRT.PDSTS.OBJPOS i).key))
    (h52 : ∀ i, P (.field (PRT.PDSTS.OPCURR i).key)) (h53 : ∀ i, P (.field (PRT.PDSTS.PWRROLE i).key))
    (h54 : ∀ i, P (.field (PRT.PDSTS.VCSRC i).key)) (h55 : ∀ i, P (.field (PRT.PDSTS.VSEL i).key))
    (h56 : ∀ i, P (.field (PRT.QSTS.STOPPED i).key)) (h57 : ∀ i, P (.field (PRT.TCEVT.OOS i).key))
    (h58 : ∀ i, P (.field (PRT.TCEVT.WETOUT i).key)) (h59 : ∀ i, P (.field (PRT.TCSTS.MOISTOK i).key))
    (h60 : ∀ i, P (.field (PRT.TCSTS.OOS i).key)) (h61 : ∀ i, P (.field (PRT.TCSTS.ORIENT i).key))
    (h62 : ∀ i, P (.field (PRT.TCSTS.RPADV i).key)) (h63 : ∀ i, P (.field (PRT.TCSTS.TCSTATE i).key))
    (h64 : ∀ i, P (.field (PRT.TCSTS.WET i).key)) (h65 : ∀ i, P (.field (PRT.TCSTS.WETGND i).key))
    (h66 : ∀ i, P (.field (PRT.TCSTS.WETPIN i).key)) (h67 : ∀ i, P (.field (PRT.TCSTS.WETVBUS i).key))
    (h68 : ∀ i, P (.field (PRT.VCONN.ON i).key)) (h69 : ∀ i, P (.field (PWR.PALLOW.SHED i).key))
    (h70 : ∀ i, P (.field (PWR.PALLOW.WAIT i).key)) (h71 : ∀ i, P (.field (PWR.PBOOK.COMMIT i).key))
    (h72 : ∀ i, P (.field (PWR.PBOOK.CONTRACT i).key)) (h73 : ∀ i, P (.field (PWR.QBOOK.COMMIT i).key))
    (h74 : ∀ i, P (.field (PWR.QBOOK.CONTRACT i).key)) (h75 : P (.field PWR.TOTCOM.COMMIT.key))
    (h76 : P (.field PWR.TOTCON.CONTRACT.key)) (h77 : ∀ i, P (.field (SWX.CNTA.STALE i).key))
    (h78 : ∀ i, P (.field (SWX.CNTB.RLYWD i).key)) (h79 : P (.field (UPS.CNT0.ABORTCNT u).key))
    (h80 : P (.field (UPS.EVT.CTLABORT u).key)) (h81 : P (.field (UPS.STS.STAGED u).key)) (h82 : P .sw)
    (h83 : ∀ i, P (.up i)) (h84 : P .upd) :
    Only P s (t.busResetActions u) := by
  unfold State.busResetActions
  repeat' with_reducible first
    | assumption | apply Only.modUp | apply State.ctlAbort_only | apply State.dropStale_only
    | apply State.mbxRelease_only | apply State.portResets_only | apply State.rtClear_only
    | apply State.updAbort_only | apply h5 | apply h11 | apply h12 | apply h13 | apply h14 | apply h15 | apply h26
    | apply h27 | apply h28 | apply h29 | apply h30 | apply h31 | apply h32 | apply h33 | apply h34 | apply h35
    | apply h36 | apply h37 | apply h38 | apply h39 | apply h40 | apply h41 | apply h42 | apply h43 | apply h44
    | apply h45 | apply h46 | apply h47 | apply h48 | apply h49 | apply h50 | apply h51 | apply h52 | apply h53
    | apply h54 | apply h55 | apply h56 | apply h57 | apply h58 | apply h59 | apply h60 | apply h61 | apply h62
    | apply h63 | apply h64 | apply h65 | apply h66 | apply h67 | apply h68 | apply h69 | apply h70 | apply h71
    | apply h72 | apply h73 | apply h74 | apply h77 | apply h78 | apply h83

theorem State.detachPers_only
    (h : Only P s t) (u : Nat) (h1 : P .edgeDue) (h2 : P .freeCtr) (h3 : P (.mb u)) (h4 : P .outs)
    (h5 : ∀ i, P (.port i)) (h6 : P (.field BOOT.UPDSTS.BUSY.key)) (h7 : P (.field BOOT.UPDSTS.OWNER.key))
    (h8 : P (.field BOOT.UPDSTS.SESSION.key)) (h9 : P (.field LDS.CHG0.P00_P31.key))
    (h10 : P (.field LDS.CHG1.P32_P47.key)) (h11 : ∀ i, P (.field (LDS.RSUM.HBUSED i).key))
    (h12 : ∀ i, P (.field (LDS.RSUM.IDVALID i).key)) (h13 : ∀ i, P (.field (LDS.RSUM.PROFILE i).key))
    (h14 : ∀ i, P (.field (LDS.RSUM.RESULT i).key)) (h15 : ∀ i, P (.field (LDS.RSUM.STATE i).key))
    (h16 : P (.field MBX.BULK.HELD.key)) (h17 : P (.field MBX.BULK.HOLDER.key))
    (h18 : P (.field (MBX.CTRL.BUSY u).key)) (h19 : P (.field (MBX.CTRL.VALID u).key))
    (h20 : P (.field PKM.FENCE.FALLBACK.key)) (h21 : P (.field PKM.FREESTS.WAS.key))
    (h22 : P (.field PKM.GCNT0.FREE.key)) (h23 : P (.field PKM.GCNT0.QUEUED.key))
    (h24 : P (.field PKM.GCNT1.INFLIGHT.key)) (h25 : P (.field PKM.GCNT2.POOLFREE.key))
    (h26 : ∀ i, P (.field (PKM.IQPTR.RPTR i).key)) (h27 : ∀ i, P (.field (PRT.ALTMUX.ACTIVE i).key))
    (h28 : ∀ i, P (.field (PRT.ALTMUX.QBUSY i).key)) (h29 : ∀ i, P (.field (PRT.ALTMUX.QHOLD i).key))
    (h30 : ∀ i, P (.field (PRT.FUSEVT.PGOFF i).key)) (h31 : ∀ i, P (.field (PRT.FUSSTS.FOLD i).key))
    (h32 : ∀ i, P (.field (PRT.FUSSTS.GATEON i).key)) (h33 : ∀ i, P (.field (PRT.FUSSTS.LIMIT i).key))
    (h34 : ∀ i, P (.field (PRT.FUSSTS.PG i).key)) (h35 : ∀ i, P (.field (PRT.HUBSTS.CONNECTION i).key))
    (h36 : ∀ i, P (.field (PRT.HUBSTS.ENABLE i).key)) (h37 : ∀ i, P (.field (PRT.HUBSTS.HIGHSPD i).key))
    (h38 : ∀ i, P (.field (PRT.HUBSTS.LOWSPD i).key)) (h39 : ∀ i, P (.field (PRT.HUBSTS.POWER i).key))
    (h40 : ∀ i, P (.field (PRT.HUBSTS.RESET i).key)) (h41 : ∀ i, P (.field (PRT.HUBSTS.STATE i).key))
    (h42 : ∀ i, P (.field (PRT.HUBSTS.SUSPEND i).key)) (h43 : ∀ i, P (.field (PRT.HUBSTS.TEST i).key))
    (h44 : ∀ i, P (.field (PRT.MTRCNT.DATAHIT i).key)) (h45 : ∀ i, P (.field (PRT.MTRCNT.NAKHIT i).key))
    (h46 : ∀ i, P (.field (PRT.MTRSTS.STRANDED i).key)) (h47 : ∀ i, P (.field (PRT.MTRSTS.WITHDRAWN i).key))
    (h48 : ∀ i, P (.field (PRT.PDSTS.ALTMODE i).key)) (h49 : ∀ i, P (.field (PRT.PDSTS.EVT i).key))
    (h50 : ∀ i, P (.field (PRT.PDSTS.EXPLICIT i).key)) (h51 : ∀ i, P (.field (PRT.PDSTS.OBJPOS i).key))
    (h52 : ∀ i, P (.field (PRT.PDSTS.OPCURR i).key)) (h53 : ∀ i, P (.field (PRT.PDSTS.PWRROLE i).key))
    (h54 : ∀ i, P (.field (PRT.PDSTS.VCSRC i).key)) (h55 : ∀ i, P (.field (PRT.PDSTS.VSEL i).key))
    (h56 : ∀ i, P (.field (PRT.QSTS.STOPPED i).key)) (h57 : ∀ i, P (.field (PRT.TCEVT.OOS i).key))
    (h58 : ∀ i, P (.field (PRT.TCEVT.WETOUT i).key)) (h59 : ∀ i, P (.field (PRT.TCSTS.MOISTOK i).key))
    (h60 : ∀ i, P (.field (PRT.TCSTS.OOS i).key)) (h61 : ∀ i, P (.field (PRT.TCSTS.ORIENT i).key))
    (h62 : ∀ i, P (.field (PRT.TCSTS.RPADV i).key)) (h63 : ∀ i, P (.field (PRT.TCSTS.TCSTATE i).key))
    (h64 : ∀ i, P (.field (PRT.TCSTS.WET i).key)) (h65 : ∀ i, P (.field (PRT.TCSTS.WETGND i).key))
    (h66 : ∀ i, P (.field (PRT.TCSTS.WETPIN i).key)) (h67 : ∀ i, P (.field (PRT.TCSTS.WETVBUS i).key))
    (h68 : ∀ i, P (.field (PRT.VCONN.ON i).key)) (h69 : ∀ i, P (.field (PWR.PALLOW.SHED i).key))
    (h70 : ∀ i, P (.field (PWR.PALLOW.WAIT i).key)) (h71 : ∀ i, P (.field (PWR.PBOOK.COMMIT i).key))
    (h72 : ∀ i, P (.field (PWR.PBOOK.CONTRACT i).key)) (h73 : ∀ i, P (.field (PWR.QBOOK.COMMIT i).key))
    (h74 : ∀ i, P (.field (PWR.QBOOK.CONTRACT i).key)) (h75 : P (.field PWR.TOTCOM.COMMIT.key))
    (h76 : P (.field PWR.TOTCON.CONTRACT.key)) (h77 : ∀ i, P (.field (SWX.CNTA.STALE i).key))
    (h78 : ∀ i, P (.field (SWX.CNTB.RLYWD i).key)) (h79 : P (.field (UPS.CNT0.ABORTCNT u).key))
    (h80 : P (.field (UPS.EVT.CTLABORT u).key)) (h81 : P (.field (UPS.STS.ADDR u).key))
    (h82 : P (.field (UPS.STS.ALTSET u).key)) (h83 : P (.field (UPS.STS.DEVSTATE u).key))
    (h84 : P (.field (UPS.STS.HS u).key)) (h85 : P (.field (UPS.STS.PULLUP u).key))
    (h86 : P (.field (UPS.STS.RWAKEEN u).key)) (h87 : P (.field (UPS.STS.STAGED u).key))
    (h88 : P (.field (UPS.STS.SUSP u).key)) (h89 : P .sw) (h90 : ∀ i, P (.up i)) (h91 : P .upd) :
    Only P s (t.detachPers u) := by
  unfold State.detachPers
  repeat' with_reducible first
    | assumption | apply Only.wr | apply Only.modUp | apply Only.emit | apply State.busResetActions_only | apply h5
    | apply h11 | apply h12 | apply h13 | apply h14 | apply h15 | apply h26 | apply h27 | apply h28 | apply h29
    | apply h30 | apply h31 | apply h32 | apply h33 | apply h34 | apply h35 | apply h36 | apply h37 | apply h38
    | apply h39 | apply h40 | apply h41 | apply h42 | apply h43 | apply h44 | apply h45 | apply h46 | apply h47
    | apply h48 | apply h49 | apply h50 | apply h51 | apply h52 | apply h53 | apply h54 | apply h55 | apply h56
    | apply h57 | apply h58 | apply h59 | apply h60 | apply h61 | apply h62 | apply h63 | apply h64 | apply h65
    | apply h66 | apply h67 | apply h68 | apply h69 | apply h70 | apply h71 | apply h72 | apply h73 | apply h74
    | apply h77 | apply h78 | apply h90 | intro _ _ _ | intro _ _ | split

theorem State.fbiHiZ_only
    (h : Only P s t) (n : Nat) (h1 : P .outs) (h2 : P (.port n)) :
    Only P s (t.fbiHiZ n) := by
  unfold State.fbiHiZ
  repeat' with_reducible first
    | assumption | apply Only.modPort | apply Only.emit | intro _ _ _ | intro _ _ | split

theorem State.toTransit_only
    (h : Only P s t) (n : Nat) (h1 : P .copies) (h2 : P .edgeDue) (h3 : ∀ i, P (.port i))
    (h4 : P (.field LDS.CHG0.P00_P31.key)) (h5 : P (.field LDS.CHG1.P32_P47.key))
    (h6 : P (.field (LDS.RSUM.HBUSED n).key)) (h7 : P (.field (LDS.RSUM.IDVALID n).key))
    (h8 : P (.field (LDS.RSUM.PROFILE n).key)) (h9 : P (.field (LDS.RSUM.RESULT n).key))
    (h10 : P (.field (LDS.RSUM.STATE n).key)) (h11 : P (.field PKM.FENCE.FALLBACK.key))
    (h12 : P (.field PKM.FREESTS.WAS.key)) (h13 : P (.field PKM.GCNT0.FREE.key))
    (h14 : P (.field PKM.GCNT0.QUEUED.key)) (h15 : P (.field PKM.GCNT1.INFLIGHT.key))
    (h16 : P (.field PKM.GCNT2.POOLFREE.key)) (h17 : ∀ i, P (.field (PKM.IQPTR.RPTR i).key))
    (h18 : P (.field (PRT.OWNER.OWN n).key)) (h19 : P (.field (PRT.OWNER.STATE n).key))
    (h20 : ∀ i, P (.field (SWX.CNTA.STALE i).key)) (h21 : P .sw) :
    Only P s (t.toTransit n) := by
  unfold State.toTransit
  repeat' with_reducible first
    | assumption | apply Only.modLds | apply Only.wrVoted | apply State.dropStale_only | apply State.setEntry_only
    | apply h3 | apply h17 | apply h20 | intro _ _ _ | intro _ _ | split

theorem State.handoverRestart_only
    (h : Only P s t) (n : Nat) (h1 : P .copies) (h2 : P .edgeDue) (h3 : ∀ i, P (.port i))
    (h4 : P (.field LDS.CHG0.P00_P31.key)) (h5 : P (.field LDS.CHG1.P32_P47.key))
    (h6 : P (.field (LDS.RSUM.HBUSED n).key)) (h7 : P (.field (LDS.RSUM.IDVALID n).key))
    (h8 : P (.field (LDS.RSUM.PROFILE n).key)) (h9 : P (.field (LDS.RSUM.RESULT n).key))
    (h10 : P (.field (LDS.RSUM.STATE n).key)) (h11 : P (.field PKM.FENCE.FALLBACK.key))
    (h12 : P (.field PKM.FREESTS.WAS.key)) (h13 : P (.field PKM.GCNT0.FREE.key))
    (h14 : P (.field PKM.GCNT0.QUEUED.key)) (h15 : P (.field PKM.GCNT1.INFLIGHT.key))
    (h16 : P (.field PKM.GCNT2.POOLFREE.key)) (h17 : ∀ i, P (.field (PKM.IQPTR.RPTR i).key))
    (h18 : P (.field (PRT.OWNER.OWN n).key)) (h19 : P (.field (PRT.OWNER.STATE n).key))
    (h20 : ∀ i, P (.field (SWX.CNTA.STALE i).key)) (h21 : P .sw) :
    Only P s (t.handoverRestart n) := by
  unfold State.handoverRestart
  repeat' with_reducible first
    | assumption | apply Only.modPort | apply State.toTransit_only | apply h3 | apply h17 | apply h20 | intro _ _ _
    | intro _ _ | split

theorem State.lineCheck_only
    (h : Only P s t) (t_ : Nat) (h1 : P (.field (ICU.TSTAT.LINE t_).key)) :
    Only P s (t.lineCheck t_) := by
  unfold State.lineCheck
  repeat' with_reducible first
    | assumption | apply Only.wr | intro _ _ _ | intro _ _ | split

theorem State.attachPers_only
    (h : Only P s t) (u : Nat) (h1 : P .outs) (h2 : P (.field (UPS.STS.DEVSTATE u).key))
    (h3 : P (.field (UPS.STS.PULLUP u).key)) :
    Only P s (t.attachPers u) := by
  unfold State.attachPers
  repeat' with_reducible first
    | assumption | apply Only.wr | apply Only.raise | apply Only.emit | intro _ _ _ | intro _ _ | split

theorem State.leaveTo_only
    (h : Only P s t) (n st : Nat) (h1 : P (.port n)) (h2 : P (.field (PRT.HUBSTS.ENABLE n).key))
    (h3 : P (.field (PRT.HUBSTS.RESET n).key)) (h4 : P (.field (PRT.HUBSTS.STATE n).key))
    (h5 : P (.field (PRT.HUBSTS.SUSPEND n).key)) (h6 : P (.field (PRT.HUBSTS.TEST n).key)) :
    Only P s (t.leaveTo n st) := by
  unfold State.leaveTo
  repeat' with_reducible first
    | assumption | apply Only.modPort | apply State.setHub_only

theorem State.mtrPause_only
    (h : Only P s t) (n : Nat) (h1 : P (.port n)) :
    Only P s (t.mtrPause n) := by
  unfold State.mtrPause
  repeat' with_reducible first
    | assumption | apply Only.modPort

theorem State.withdrawEntry_only
    (h : Only P s t) (n k : Nat) (h1 : P (.port n)) (h2 : P (.field (PRT.MTRSTS.STRANDED n).key))
    (h3 : P (.field (PRT.MTRSTS.WITHDRAWN n).key)) :
    Only P s (t.withdrawEntry n k) := by
  unfold State.withdrawEntry
  repeat' with_reducible first
    | assumption | apply Only.bump | apply Only.setAlm | apply State.restrand_only | intro _ _ _ | intro _ _ | split
    | apply Only.upd | exact .inr rfl

theorem State.freeAddr_only
    (h : Only P s t) (n a : Nat) (h1 : P (.port n)) (h2 : P (.field (PRT.MTRSTS.STRANDED n).key))
    (h3 : P (.field (PRT.MTRSTS.WITHDRAWN n).key)) :
    Only P s (t.freeAddr n a) := by
  unfold State.freeAddr
  repeat' with_reducible first
    | assumption | apply Only.forEach | apply Only.setAlm | apply State.restrand_only
    | apply State.withdrawEntry_only | intro _ _ _

theorem State.iqPush_only
    (h : Only P s t) (k : Nat) (ws : List Nat) (h1 : P (.field (PKM.IQPTR.WPTR k).key)) (h2 : P .sw) :
    Only P s (t.iqPush k ws) := by
  unfold State.iqPush
  repeat' with_reducible first
    | assumption | apply Only.foldl | apply Only.wr | apply Only.modSw

theorem State.iqThrough_only
    (h : Only P s t) (k : Nat) (bs : List Byte) (h1 : P (.field (PKM.IQPTR.RPTR k).key))
    (h2 : P (.field (PKM.IQPTR.WPTR k).key)) (h3 : P .sw) :
    Only P s (t.iqThrough k bs) := by
  unfold State.iqThrough
  repeat' with_reducible first
    | assumption | apply State.iqPop_only | apply State.iqPush_only

theorem State.iqPass_only
    (h : Only P s t) (k : Nat) (bs : List Byte) (h1 : P (.field (PKM.IQPTR.RPTR k).key))
    (h2 : P (.field (PKM.IQPTR.WPTR k).key)) (h3 : P .sw) :
    Only P s (t.iqPass k bs) := by
  unfold State.iqPass
  repeat' with_reducible first
    | assumption | apply Only.modSw | apply State.iqThrough_only

theorem State.errorRecovery_only
    (h : Only P s t) (n : Nat) (h1 : P .edgeDue) (h2 : P .freeCtr) (h3 : P .outs) (h4 : ∀ i, P (.port i))
    (h5 : P (.field LDS.CHG0.P00_P31.key)) (h6 : P (.field LDS.CHG1.P32_P47.key))
    (h7 : P (.field (LDS.RSUM.HBUSED n).key)) (h8 : P (.field (LDS.RSUM.IDVALID n).key))
    (h9 : P (.field (LDS.RSUM.PROFILE n).key)) (h10 : P (.field (LDS.RSUM.RESULT n).key))
    (h11 : P (.field (LDS.RSUM.STATE n).key)) (h12 : P (.field PKM.FENCE.FALLBACK.key))
    (h13 : P (.field PKM.FREESTS.WAS.key)) (h14 : P (.field PKM.GCNT0.FREE.key))
    (h15 : P (.field PKM.GCNT0.QUEUED.key)) (h16 : P (.field PKM.GCNT1.INFLIGHT.key))
    (h17 : P (.field PKM.GCNT2.POOLFREE.key)) (h18 : ∀ i, P (.field (PKM.IQPTR.RPTR i).key))
    (h19 : P (.field (PRT.ALTMUX.ACTIVE n).key)) (h20 : ∀ i, P (.field (PRT.ALTMUX.QBUSY i).key))
    (h21 : ∀ i, P (.field (PRT.ALTMUX.QHOLD i).key)) (h22 : P (.field (PRT.FUSEVT.PGOFF n).key))
    (h23 : P (.field (PRT.FUSSTS.FOLD n).key)) (h24 : P (.field (PRT.FUSSTS.GATEON n).key))
    (h25 : P (.field (PRT.FUSSTS.LIMIT n).key)) (h26 : P (.field (PRT.FUSSTS.PG n).key))
    (h27 : P (.field (PRT.HUBCHG.C_CONNECTION n).key)) (h28 : P (.field (PRT.HUBCHG.C_ENABLE n).key))
    (h29 : P (.field (PRT.HUBCHG.C_OVERCUR n).key)) (h30 : P (.field (PRT.HUBCHG.C_RESET n).key))
    (h31 : P (.field (PRT.HUBCHG.C_SUSPEND n).key)) (h32 : P (.field (PRT.HUBSTS.CONNECTION n).key))
    (h33 : P (.field (PRT.HUBSTS.ENABLE n).key)) (h34 : P (.field (PRT.HUBSTS.HIGHSPD n).key))
    (h35 : P (.field (PRT.HUBSTS.LOWSPD n).key)) (h36 : P (.field (PRT.HUBSTS.RESET n).key))
    (h37 : P (.field (PRT.HUBSTS.STATE n).key)) (h38 : P (.field (PRT.HUBSTS.SUSPEND n).key))
    (h39 : P (.field (PRT.HUBSTS.TEST n).key)) (h40 : P (.field (PRT.MTRCNT.DATAHIT n).key))
    (h41 : P (.field (PRT.MTRCNT.NAKHIT n).key)) (h42 : P (.field (PRT.MTRSTS.STRANDED n).key))
    (h43 : P (.field (PRT.MTRSTS.WITHDRAWN n).key)) (h44 : P (.field (PRT.PDSTS.ALTMODE n).key))
    (h45 : P (.field (PRT.PDSTS.EVT n).key)) (h46 : P (.field (PRT.PDSTS.EXPLICIT n).key))
    (h47 : P (.field (PRT.PDSTS.OBJPOS n).key)) (h48 : P (.field (PRT.PDSTS.OPCURR n).key))
    (h49 : P (.field (PRT.PDSTS.PWRROLE n).key)) (h50 : P (.field (PRT.PDSTS.VCSRC n).key))
    (h51 : P (.field (PRT.PDSTS.VSEL n).key)) (h52 : P (.field (PRT.QSTS.STOPPED n).key))
    (h53 : P (.field (PRT.TCEVT.ERRREC n).key)) (h54 : P (.field (PRT.TCEVT.WETOUT n).key))
    (h55 : P (.field (PRT.TCSTS.MOISTOK n).key)) (h56 : P (.field (PRT.TCSTS.ORIENT n).key))
    (h57 : P (.field (PRT.TCSTS.TCSTATE n).key)) (h58 : P (.field (PRT.TCSTS.WET n).key))
    (h59 : P (.field (PRT.TCSTS.WETGND n).key)) (h60 : P (.field (PRT.TCSTS.WETPIN n).key))
    (h61 : P (.field (PRT.TCSTS.WETVBUS n).key)) (h62 : P (.field (PRT.VCONN.ON n).key))
    (h63 : P (.field (PWR.PALLOW.SHED n).key)) (h64 : P (.field (PWR.PALLOW.WAIT n).key))
    (h65 : P (.field (PWR.PBOOK.COMMIT n).key)) (h66 : P (.field (PWR.PBOOK.CONTRACT n).key))
    (h67 : ∀ i, P (.field (PWR.QBOOK.COMMIT i).key)) (h68 : ∀ i, P (.field (PWR.QBOOK.CONTRACT i).key))
    (h69 : P (.field PWR.TOTCOM.COMMIT.key)) (h70 : P (.field PWR.TOTCON.CONTRACT.key))
    (h71 : ∀ i, P (.field (SWX.CNTA.STALE i).key)) (h72 : ∀ i, P (.field (SWX.CNTB.RLYWD i).key)) (h73 : P .sw)
    (h74 : ∀ i, P (.up i)) :
    Only P s (t.errorRecovery n) := by
  unfold State.errorRecovery
  repeat' with_reducible first
    | assumption | apply Only.wr | apply Only.raise | apply Only.modPort | apply State.clearMark_only
    | apply State.discharge_only | apply State.dropPower_only | apply State.vbusLoss_only | apply h4 | apply h18
    | apply h20 | apply h21 | apply h67 | apply h68 | apply h71 | apply h72 | apply h74 | intro _ _ _ | intro _ _
    | split

theorem State.condEnd_only
    (h : Only P s t) (b : FBlk) (k : Nat) (h1 : P (.flt b.idx)) :
    Only P s (t.condEnd b k) := by
  unfold State.condEnd
  repeat' with_reducible first
    | assumption | apply Only.modFlt

theorem State.ldsConnect_only
    (h : Only P s t) (n time : Nat) (h1 : P .ldsSeq) (h2 : P (.port n)) (h3 : P (.field LDS.CHG0.P00_P31.key))
    (h4 : P (.field LDS.CHG1.P32_P47.key)) (h5 : P (.field (LDS.RSUM.HBUSED n).key))
    (h6 : P (.field (LDS.RSUM.IDVALID n).key)) (h7 : P (.field (LDS.RSUM.PROFILE n).key))
    (h8 : P (.field (LDS.RSUM.RESULT n).key)) (h9 : P (.field (LDS.RSUM.STATE n).key)) :
    Only P s (t.ldsConnect n time) := by
  unfold State.ldsConnect
  repeat' with_reducible first
    | assumption | apply Only.modLds | apply State.setEntry_only | intro _ _ _ | intro _ _ | split | apply Only.upd
    | exact .inr rfl | (left; assumption)

theorem State.detach_only
    (h : Only P s t) (n : Nat) (h1 : P .edgeDue) (h2 : P .freeCtr) (h3 : P .outs) (h4 : ∀ i, P (.port i))
    (h5 : P (.field LDS.CHG0.P00_P31.key)) (h6 : P (.field LDS.CHG1.P32_P47.key))
    (h7 : P (.field (LDS.RSUM.HBUSED n).key)) (h8 : P (.field (LDS.RSUM.IDVALID n).key))
    (h9 : P (.field (LDS.RSUM.PROFILE n).key)) (h10 : P (.field (LDS.RSUM.RESULT n).key))
    (h11 : P (.field (LDS.RSUM.STATE n).key)) (h12 : P (.field PKM.FENCE.FALLBACK.key))
    (h13 : P (.field PKM.FREESTS.WAS.key)) (h14 : P (.field PKM.GCNT0.FREE.key))
    (h15 : P (.field PKM.GCNT0.QUEUED.key)) (h16 : P (.field PKM.GCNT1.INFLIGHT.key))
    (h17 : P (.field PKM.GCNT2.POOLFREE.key)) (h18 : ∀ i, P (.field (PKM.IQPTR.RPTR i).key))
    (h19 : P (.field (PRT.ALTMUX.ACTIVE n).key)) (h20 : ∀ i, P (.field (PRT.ALTMUX.QBUSY i).key))
    (h21 : ∀ i, P (.field (PRT.ALTMUX.QHOLD i).key)) (h22 : P (.field (PRT.FUSEVT.PGOFF n).key))
    (h23 : P (.field (PRT.FUSSTS.FOLD n).key)) (h24 : P (.field (PRT.FUSSTS.GATEON n).key))
    (h25 : P (.field (PRT.FUSSTS.LIMIT n).key)) (h26 : P (.field (PRT.FUSSTS.PG n).key))
    (h27 : P (.field (PRT.HUBCHG.C_CONNECTION n).key)) (h28 : P (.field (PRT.HUBCHG.C_ENABLE n).key))
    (h29 : P (.field (PRT.HUBCHG.C_OVERCUR n).key)) (h30 : P (.field (PRT.HUBCHG.C_RESET n).key))
    (h31 : P (.field (PRT.HUBCHG.C_SUSPEND n).key)) (h32 : P (.field (PRT.HUBSTS.CONNECTION n).key))
    (h33 : P (.field (PRT.HUBSTS.ENABLE n).key)) (h34 : P (.field (PRT.HUBSTS.HIGHSPD n).key))
    (h35 : P (.field (PRT.HUBSTS.LOWSPD n).key)) (h36 : P (.field (PRT.HUBSTS.RESET n).key))
    (h37 : P (.field (PRT.HUBSTS.STATE n).key)) (h38 : P (.field (PRT.HUBSTS.SUSPEND n).key))
    (h39 : P (.field (PRT.HUBSTS.TEST n).key)) (h40 : P (.field (PRT.MTRCNT.DATAHIT n).key))
    (h41 : P (.field (PRT.MTRCNT.NAKHIT n).key)) (h42 : P (.field (PRT.MTRSTS.STRANDED n).key))
    (h43 : P (.field (PRT.MTRSTS.WITHDRAWN n).key)) (h44 : P (.field (PRT.PDSTS.ALTMODE n).key))
    (h45 : P (.field (PRT.PDSTS.CABLE n).key)) (h46 : P (.field (PRT.PDSTS.EVT n).key))
    (h47 : P (.field (PRT.PDSTS.EXPLICIT n).key)) (h48 : P (.field (PRT.PDSTS.OBJPOS n).key))
    (h49 : P (.field (PRT.PDSTS.OPCURR n).key)) (h50 : P (.field (PRT.PDSTS.PWRROLE n).key))
    (h51 : P (.field (PRT.PDSTS.REV n).key)) (h52 : P (.field (PRT.PDSTS.VCSRC n).key))
    (h53 : P (.field (PRT.PDSTS.VSEL n).key)) (h54 : P (.field (PRT.QSTS.STOPPED n).key))
    (h55 : P (.field (PRT.TCEVT.DETACH n).key)) (h56 : P (.field (PRT.TCEVT.WETOUT n).key))
    (h57 : P (.field (PRT.TCSTS.MOISTOK n).key)) (h58 : P (.field (PRT.TCSTS.ORIENT n).key))
    (h59 : P (.field (PRT.TCSTS.RPADV n).key)) (h60 : P (.field (PRT.TCSTS.TCSTATE n).key))
    (h61 : P (.field (PRT.TCSTS.WET n).key)) (h62 : P (.field (PRT.TCSTS.WETGND n).key))
    (h63 : P (.field (PRT.TCSTS.WETPIN n).key)) (h64 : P (.field (PRT.TCSTS.WETVBUS n).key))
    (h65 : P (.field (PRT.VCONN.ON n).key)) (h66 : P (.field (PWR.PALLOW.SHED n).key))
    (h67 : P (.field (PWR.PALLOW.WAIT n).key)) (h68 : P (.field (PWR.PBOOK.COMMIT n).key))
    (h69 : P (.field (PWR.PBOOK.CONTRACT n).key)) (h70 : ∀ i, P (.field (PWR.QBOOK.COMMIT i).key))
    (h71 : ∀ i, P (.field (PWR.QBOOK.CONTRACT i).key)) (h72 : P (.field PWR.TOTCOM.COMMIT.key))
    (h73 : P (.field PWR.TOTCON.CONTRACT.key)) (h74 : ∀ i, P (.field (SWX.CNTA.STALE i).key))
    (h75 : ∀ i, P (.field (SWX.CNTB.RLYWD i).key)) (h76 : P .sw) (h77 : ∀ i, P (.up i)) :
    Only P s (t.detach n) := by
  unfold State.detach
  repeat' with_reducible first
    | assumption | apply Only.wr | apply Only.raise | apply Only.modPort | apply State.clearMark_only
    | apply State.discharge_only | apply State.endContract_only | apply State.gateOff_only
    | apply State.modeExit_only | apply State.unwait_only | apply State.vbusLoss_only | apply State.vconnOff_only
    | apply State.wetEnd_only | apply h4

theorem State.ldsAttach_only
    (h : Only P s t) (n : Nat) (h1 : P .freeCtr) (h2 : P .ldsSeq) (h3 : P (.port n))
    (h4 : P (.field LDS.CHG0.P00_P31.key)) (h5 : P (.field LDS.CHG1.P32_P47.key))
    (h6 : P (.field (LDS.RSUM.HBUSED n).key)) (h7 : P (.field (LDS.RSUM.IDVALID n).key))
    (h8 : P (.field (LDS.RSUM.PROFILE n).key)) (h9 : P (.field (LDS.RSUM.RESULT n).key))
    (h10 : P (.field (LDS.RSUM.STATE n).key)) :
    Only P s (t.ldsAttach n) := by
  unfold State.ldsAttach
  repeat' with_reducible first
    | assumption | apply State.clockUs_only | apply State.ldsConnect_only | intro _ _ _ | intro _ _ | split

theorem State.ldsRelease_only
    (h : Only P s t) (n : Nat) (h1 : P .edgeDue) (h2 : P .freeCtr) (h3 : P (.port n))
    (h4 : P (.field LDS.CHG0.P00_P31.key)) (h5 : P (.field LDS.CHG1.P32_P47.key))
    (h6 : P (.field (LDS.RSUM.HBUSED n).key)) (h7 : P (.field (LDS.RSUM.IDVALID n).key))
    (h8 : P (.field (LDS.RSUM.PROFILE n).key)) (h9 : P (.field (LDS.RSUM.RESULT n).key))
    (h10 : P (.field (LDS.RSUM.STATE n).key)) :
    Only P s (t.ldsRelease n) := by
  unfold State.ldsRelease
  repeat' with_reducible first
    | assumption | apply Only.modLds | apply State.clockUs_only | apply State.edgeAtMeridian_only
    | apply State.setEntry_only | intro _ _ _ | intro _ _ | split

end Sys2Proof.Machine
end

