-- ==== Sys2Proof/Laws/OnlyPower.lean ====
section
/-! SUPPORT. One lemma per operation of Type-C, the power budget, the e-fuse and Power Delivery: what it
may change. -/

namespace Sys2Proof.Machine

variable {P : Part → Prop} {s t : State}

theorem State.queueAms_only
    (h : Only P s t) (n : Nat) (a : Ams) (h1 : P (.port n)) (h2 : P (.field (PRT.TCSTS.RPADV n).key)) :
    Only P s (t.queueAms n a) := by
  unfold State.queueAms
  repeat' with_reducible first
    | assumption | apply Only.wr | apply Only.modPort | intro _ _ _ | intro _ _ | split | apply Only.upd
    | exact .inr rfl

theorem State.readvertise_only
    (h : Only P s t) (n : Nat) (paced : Bool) (h1 : P (.port n)) (h2 : P (.field (PRT.TCSTS.RPADV n).key)) :
    Only P s (t.readvertise n paced) := by
  unfold State.readvertise
  repeat' with_reducible first
    | assumption | apply Only.modPort | apply State.queueAms_only | intro _ _ _ | intro _ _ | split

theorem State.setIset_only
    (h : Only P s t) (n : Nat) (h1 : P (.field (PRT.IBUSMEAS.ISET n).key)) :
    Only P s (t.setIset n) := by
  unfold State.setIset
  repeat' with_reducible first
    | assumption | apply Only.wr | intro _ _ _ | intro _ _ | split

theorem State.rpFollow_only
    (h : Only P s t) (n : Nat) (h1 : P (.field (PRT.IBUSMEAS.ISET n).key)) (h2 : P (.field (PRT.TCSTS.RPADV n).key))
    (h3 : P (.field (PWR.PBOOK.COMMIT n).key)) (h4 : P (.field (PWR.PBOOK.CONTRACT n).key))
    (h5 : ∀ i, P (.field (PWR.QBOOK.COMMIT i).key)) (h6 : ∀ i, P (.field (PWR.QBOOK.CONTRACT i).key))
    (h7 : P (.field PWR.TOTCOM.COMMIT.key)) (h8 : P (.field PWR.TOTCON.CONTRACT.key)) :
    Only P s (t.rpFollow n) := by
  unfold State.rpFollow
  repeat' with_reducible first
    | assumption | apply Only.wr | apply State.setC_only | apply State.setIset_only | apply State.setK_only
    | apply h5 | apply h6 | intro _ _ _ | intro _ _ | split | dsimp only

theorem State.grantV5_only
    (h : Only P s t) (n : Nat) (h1 : P .outs) (h2 : P (.port n)) (h3 : P (.field (PRT.IBUSMEAS.ISET n).key))
    (h4 : P (.field (PRT.PDSTS.PWRROLE n).key)) (h5 : P (.field (PRT.PDSTS.VCSRC n).key))
    (h6 : P (.field (PRT.TCSTS.RPADV n).key)) (h7 : P (.field (PRT.TCSTS.TCSTATE n).key))
    (h8 : P (.field (PRT.VCONN.ON n).key)) (h9 : P (.field (PRT.VCONN.PIN n).key))
    (h10 : P (.field (PWR.PALLOW.WAIT n).key)) (h11 : P (.field (PWR.PBOOK.COMMIT n).key))
    (h12 : ∀ i, P (.field (PWR.QBOOK.COMMIT i).key)) (h13 : ∀ i, P (.field (PWR.QBOOK.CONTRACT i).key))
    (h14 : P (.field PWR.TOTCOM.COMMIT.key)) (h15 : P (.field PWR.TOTCON.CONTRACT.key)) :
    Only P s (t.grantV5 n) := by
  unfold State.grantV5
  repeat' with_reducible first
    | assumption | apply Only.wr | apply Only.modPort | apply Only.emit | apply State.fbiDrive_only
    | apply State.setIset_only | apply State.setK_only | apply State.vconnOn_only | apply h12 | apply h13
    | intro _ _ _ | intro _ _ | split | apply Only.upd | exact .inr rfl

theorem State.serveAsk_only
    (h : Only P s t) (n : Nat) (h1 : P .outs) (h2 : P (.port n)) (h3 : P (.field (PRT.IBUSMEAS.ISET n).key))
    (h4 : P (.field (PRT.PDSTS.PWRROLE n).key)) (h5 : P (.field (PRT.PDSTS.VCSRC n).key))
    (h6 : P (.field (PRT.TCSTS.RPADV n).key)) (h7 : P (.field (PRT.TCSTS.TCSTATE n).key))
    (h8 : P (.field (PRT.VCONN.ON n).key)) (h9 : P (.field (PRT.VCONN.PIN n).key))
    (h10 : P (.field PWR.EVT.WAIT.key)) (h11 : P (.field (PWR.PALLOW.WAIT n).key))
    (h12 : P (.field (PWR.PBOOK.COMMIT n).key)) (h13 : ∀ i, P (.field (PWR.QBOOK.COMMIT i).key))
    (h14 : ∀ i, P (.field (PWR.QBOOK.CONTRACT i).key)) (h15 : P (.field PWR.TOTCOM.COMMIT.key))
    (h16 : P (.field PWR.TOTCON.CONTRACT.key)) :
    Only P s (t.serveAsk n) := by
  unfold State.serveAsk
  repeat' with_reducible first
    | assumption | apply Only.raise | apply State.grantV5_only | apply h13 | apply h14 | intro _ _ _ | intro _ _
    | split

theorem State.reduce_only
    (h : Only P s t) (n a : Nat) (h1 : P (.port n)) (h2 : P (.field (PRT.IBUSMEAS.ISET n).key))
    (h3 : P (.field (PRT.TCSTS.RPADV n).key)) (h4 : P (.field (PWR.PALLOW.ALLOW n).key))
    (h5 : P (.field (PWR.PALLOW.SHED n).key)) (h6 : P (.field (PWR.PBOOK.COMMIT n).key))
    (h7 : P (.field (PWR.PBOOK.CONTRACT n).key)) (h8 : ∀ i, P (.field (PWR.QBOOK.COMMIT i).key))
    (h9 : ∀ i, P (.field (PWR.QBOOK.CONTRACT i).key)) (h10 : P (.field PWR.TOTCOM.COMMIT.key))
    (h11 : P (.field PWR.TOTCON.CONTRACT.key)) :
    Only P s (t.reduce n a) := by
  unfold State.reduce
  repeat' with_reducible first
    | assumption | apply Only.wr | apply State.readvertise_only | apply State.rpFollow_only | apply h8 | apply h9
    | intro _ _ _ | intro _ _ | split | dsimp only

theorem State.walkReduce_only
    (h : Only P s t) (l : List Nat) (h1 : ∀ i, P (.port i)) (h2 : ∀ i, P (.field (PRT.IBUSMEAS.ISET i).key))
    (h3 : ∀ i, P (.field (PRT.TCSTS.RPADV i).key)) (h4 : ∀ i, P (.field (PWR.PALLOW.ALLOW i).key))
    (h5 : ∀ i, P (.field (PWR.PALLOW.SHED i).key)) (h6 : ∀ i, P (.field (PWR.PBOOK.COMMIT i).key))
    (h7 : ∀ i, P (.field (PWR.PBOOK.CONTRACT i).key)) (h8 : ∀ i, P (.field (PWR.QBOOK.COMMIT i).key))
    (h9 : ∀ i, P (.field (PWR.QBOOK.CONTRACT i).key)) (h10 : P (.field PWR.TOTCOM.COMMIT.key))
    (h11 : P (.field PWR.TOTCON.CONTRACT.key)) :
    Only P s (t.walkReduce l) := by
  induction l generalizing t with
  | nil => exact h
  | cons a l ih =>
    unfold State.walkReduce
    repeat' with_reducible first
      | assumption | apply ih | exact h | apply State.reduce_only | apply h1 | apply h2 | apply h3 | apply h4
      | apply h5 | apply h6 | apply h7 | apply h8 | apply h9 | (intros; assumption) | intro _ _ _ | intro _ _ | split
      | dsimp only | extract_lets

theorem State.walkOff_only
    (h : Only P s t) (l : List Nat) (h1 : P .edgeDue) (h2 : P .freeCtr) (h3 : P .outs) (h4 : ∀ i, P (.port i))
    (h5 : P (.field LDS.CHG0.P00_P31.key)) (h6 : P (.field LDS.CHG1.P32_P47.key))
    (h7 : ∀ i, P (.field (LDS.RSUM.HBUSED i).key)) (h8 : ∀ i, P (.field (LDS.RSUM.IDVALID i).key))
    (h9 : ∀ i, P (.field (LDS.RSUM.PROFILE i).key)) (h10 : ∀ i, P (.field (LDS.RSUM.RESULT i).key))
    (h11 : ∀ i, P (.field (LDS.RSUM.STATE i).key)) (h12 : P (.field PKM.FENCE.FALLBACK.key))
    (h13 : P (.field PKM.FREESTS.WAS.key)) (h14 : P (.field PKM.GCNT0.FREE.key))
    (h15 : P (.field PKM.GCNT0.QUEUED.key)) (h16 : P (.field PKM.GCNT1.INFLIGHT.key))
    (h17 : P (.field PKM.GCNT2.POOLFREE.key)) (h18 : ∀ i, P (.field (PKM.IQPTR.RPTR i).key))
    (h19 : ∀ i, P (.field (PRT.ALTMUX.ACTIVE i).key)) (h20 : ∀ i, P (.field (PRT.ALTMUX.QBUSY i).key))
    (h21 : ∀ i, P (.field (PRT.ALTMUX.QHOLD i).key)) (h22 : ∀ i, P (.field (PRT.FUSEVT.PGOFF i).key))
    (h23 : ∀ i, P (.field (PRT.FUSSTS.FOLD i).key)) (h24 : ∀ i, P (.field (PRT.FUSSTS.FTFILL i).key))
    (h25 : ∀ i, P (.field (PRT.FUSSTS.GATEON i).key)) (h26 : ∀ i, P (.field (PRT.FUSSTS.LIMIT i).key))
    (h27 : ∀ i, P (.field (PRT.FUSSTS.PG i).key)) (h28 : ∀ i, P (.field (PRT.HUBCHG.C_CONNECTION i).key))
    (h29 : ∀ i, P (.field (PRT.HUBCHG.C_ENABLE i).key)) (h30 : ∀ i, P (.field (PRT.HUBCHG.C_OVERCUR i).key))
    (h31 : ∀ i, P (.field (PRT.HUBCHG.C_RESET i).key)) (h32 : ∀ i, P (.field (PRT.HUBCHG.C_SUSPEND i).key))
    (h33 : ∀ i, P (.field (PRT.HUBSTS.CONNECTION i).key)) (h34 : ∀ i, P (.field (PRT.HUBSTS.ENABLE i).key))
    (h35 : ∀ i, P (.field (PRT.HUBSTS.HIGHSPD i).key)) (h36 : ∀ i, P (.field (PRT.HUBSTS.LOWSPD i).key))
    (h37 : ∀ i, P (.field (PRT.HUBSTS.RESET i).key)) (h38 : ∀ i, P (.field (PRT.HUBSTS.STATE i).key))
    (h39 : ∀ i, P (.field (PRT.HUBSTS.SUSPEND i).key)) (h40 : ∀ i, P (.field (PRT.HUBSTS.TEST i).key))
    (h41 : ∀ i, P (.field (PRT.MTRCNT.DATAHIT i).key)) (h42 : ∀ i, P (.field (PRT.MTRCNT.NAKHIT i).key))
    (h43 : ∀ i, P (.field (PRT.MTRSTS.STRANDED i).key)) (h44 : ∀ i, P (.field (PRT.MTRSTS.WITHDRAWN i).key))
    (h45 : ∀ i, P (.field (PRT.PDSTS.ALTMODE i).key)) (h46 : ∀ i, P (.field (PRT.PDSTS.EVT i).key))
    (h47 : ∀ i, P (.field (PRT.PDSTS.EXPLICIT i).key)) (h48 : ∀ i, P (.field (PRT.PDSTS.OBJPOS i).key))
    (h49 : ∀ i, P (.field (PRT.PDSTS.OPCURR i).key)) (h50 : ∀ i, P (.field (PRT.PDSTS.VCSRC i).key))
    (h51 : ∀ i, P (.field (PRT.PDSTS.VSEL i).key)) (h52 : ∀ i, P (.field (PRT.QSTS.STOPPED i).key))
    (h53 : ∀ i, P (.field (PRT.TCSTS.RPADV i).key)) (h54 : ∀ i, P (.field (PRT.TCSTS.TCSTATE i).key))
    (h55 : ∀ i, P (.field (PRT.VCONN.ON i).key)) (h56 : ∀ i, P (.field (PWR.PALLOW.SHED i).key))
    (h57 : ∀ i, P (.field (PWR.PALLOW.WAIT i).key)) (h58 : ∀ i, P (.field (PWR.PBOOK.COMMIT i).key))
    (h59 : ∀ i, P (.field (PWR.PBOOK.CONTRACT i).key)) (h60 : ∀ i, P (.field (PWR.QBOOK.COMMIT i).key))
    (h61 : ∀ i, P (.field (PWR.QBOOK.CONTRACT i).key)) (h62 : P (.field PWR.TOTCOM.COMMIT.key))
    (h63 : P (.field PWR.TOTCON.CONTRACT.key)) (h64 : ∀ i, P (.field (SWX.CNTA.STALE i).key))
    (h65 : ∀ i, P (.field (SWX.CNTB.RLYWD i).key)) (h66 : P .sw) (h67 : ∀ i, P (.up i)) :
    Only P s (t.walkOff l) := by
  induction l generalizing t with
  | nil => exact h
  | cons a l ih =>
    unfold State.walkOff
    repeat' with_reducible first
      | assumption | apply ih | exact h | apply State.peMarkOff_only | apply h4 | apply h7 | apply h8 | apply h9
      | apply h10 | apply h11 | apply h18 | apply h19 | apply h20 | apply h21 | apply h22 | apply h23 | apply h24
      | apply h25 | apply h26 | apply h27 | apply h28 | apply h29 | apply h30 | apply h31 | apply h32 | apply h33
      | apply h34 | apply h35 | apply h36 | apply h37 | apply h38 | apply h39 | apply h40 | apply h41 | apply h42
      | apply h43 | apply h44 | apply h45 | apply h46 | apply h47 | apply h48 | apply h49 | apply h50 | apply h51
      | apply h52 | apply h53 | apply h54 | apply h55 | apply h56 | apply h57 | apply h58 | apply h59 | apply h60
      | apply h61 | apply h64 | apply h65 | apply h67 | (intros; assumption) | intro _ _ _ | intro _ _ | split
      | dsimp only | extract_lets

theorem State.walkFail_only
    (h : Only P s t) (q : Nat) (l : List Nat) (h1 : P .edgeDue) (h2 : P .freeCtr) (h3 : P .outs)
    (h4 : ∀ i, P (.port i)) (h5 : P (.field LDS.CHG0.P00_P31.key)) (h6 : P (.field LDS.CHG1.P32_P47.key))
    (h7 : ∀ i, P (.field (LDS.RSUM.HBUSED i).key)) (h8 : ∀ i, P (.field (LDS.RSUM.IDVALID i).key))
    (h9 : ∀ i, P (.field (LDS.RSUM.PROFILE i).key)) (h10 : ∀ i, P (.field (LDS.RSUM.RESULT i).key))
    (h11 : ∀ i, P (.field (LDS.RSUM.STATE i).key)) (h12 : P (.field PKM.FENCE.FALLBACK.key))
    (h13 : P (.field PKM.FREESTS.WAS.key)) (h14 : P (.field PKM.GCNT0.FREE.key))
    (h15 : P (.field PKM.GCNT0.QUEUED.key)) (h16 : P (.field PKM.GCNT1.INFLIGHT.key))
    (h17 : P (.field PKM.GCNT2.POOLFREE.key)) (h18 : ∀ i, P (.field (PKM.IQPTR.RPTR i).key))
    (h19 : ∀ i, P (.field (PRT.ALTMUX.ACTIVE i).key)) (h20 : ∀ i, P (.field (PRT.ALTMUX.QBUSY i).key))
    (h21 : ∀ i, P (.field (PRT.ALTMUX.QHOLD i).key)) (h22 : ∀ i, P (.field (PRT.FUSEVT.PGOFF i).key))
    (h23 : ∀ i, P (.field (PRT.FUSSTS.FOLD i).key)) (h24 : ∀ i, P (.field (PRT.FUSSTS.FTFILL i).key))
    (h25 : ∀ i, P (.field (PRT.FUSSTS.GATEON i).key)) (h26 : ∀ i, P (.field (PRT.FUSSTS.LIMIT i).key))
    (h27 : ∀ i, P (.field (PRT.FUSSTS.PG i).key)) (h28 : ∀ i, P (.field (PRT.HUBCHG.C_CONNECTION i).key))
    (h29 : ∀ i, P (.field (PRT.HUBCHG.C_ENABLE i).key)) (h30 : ∀ i, P (.field (PRT.HUBCHG.C_OVERCUR i).key))
    (h31 : ∀ i, P (.field (PRT.HUBCHG.C_RESET i).key)) (h32 : ∀ i, P (.field (PRT.HUBCHG.C_SUSPEND i).key))
    (h33 : ∀ i, P (.field (PRT.HUBSTS.CONNECTION i).key)) (h34 : ∀ i, P (.field (PRT.HUBSTS.ENABLE i).key))
    (h35 : ∀ i, P (.field (PRT.HUBSTS.HIGHSPD i).key)) (h36 : ∀ i, P (.field (PRT.HUBSTS.LOWSPD i).key))
    (h37 : ∀ i, P (.field (PRT.HUBSTS.RESET i).key)) (h38 : ∀ i, P (.field (PRT.HUBSTS.STATE i).key))
    (h39 : ∀ i, P (.field (PRT.HUBSTS.SUSPEND i).key)) (h40 : ∀ i, P (.field (PRT.HUBSTS.TEST i).key))
    (h41 : ∀ i, P (.field (PRT.MTRCNT.DATAHIT i).key)) (h42 : ∀ i, P (.field (PRT.MTRCNT.NAKHIT i).key))
    (h43 : ∀ i, P (.field (PRT.MTRSTS.STRANDED i).key)) (h44 : ∀ i, P (.field (PRT.MTRSTS.WITHDRAWN i).key))
    (h45 : ∀ i, P (.field (PRT.PDSTS.ALTMODE i).key)) (h46 : ∀ i, P (.field (PRT.PDSTS.EVT i).key))
    (h47 : ∀ i, P (.field (PRT.PDSTS.EXPLICIT i).key)) (h48 : ∀ i, P (.field (PRT.PDSTS.OBJPOS i).key))
    (h49 : ∀ i, P (.field (PRT.PDSTS.OPCURR i).key)) (h50 : ∀ i, P (.field (PRT.PDSTS.VCSRC i).key))
    (h51 : ∀ i, P (.field (PRT.PDSTS.VSEL i).key)) (h52 : ∀ i, P (.field (PRT.QSTS.STOPPED i).key))
    (h53 : ∀ i, P (.field (PRT.TCSTS.RPADV i).key)) (h54 : ∀ i, P (.field (PRT.TCSTS.TCSTATE i).key))
    (h55 : ∀ i, P (.field (PRT.VCONN.ON i).key)) (h56 : ∀ i, P (.field (PWR.PALLOW.SHED i).key))
    (h57 : ∀ i, P (.field (PWR.PALLOW.WAIT i).key)) (h58 : ∀ i, P (.field (PWR.PBOOK.COMMIT i).key))
    (h59 : ∀ i, P (.field (PWR.PBOOK.CONTRACT i).key)) (h60 : ∀ i, P (.field (PWR.QBOOK.COMMIT i).key))
    (h61 : ∀ i, P (.field (PWR.QBOOK.CONTRACT i).key)) (h62 : P (.field PWR.TOTCOM.COMMIT.key))
    (h63 : P (.field PWR.TOTCON.CONTRACT.key)) (h64 : ∀ i, P (.field (SWX.CNTA.STALE i).key))
    (h65 : ∀ i, P (.field (SWX.CNTB.RLYWD i).key)) (h66 : P .sw) (h67 : ∀ i, P (.up i)) :
    Only P s (t.walkFail q l) := by
  induction l generalizing t with
  | nil => exact h
  | cons a l ih =>
    unfold State.walkFail
    repeat' with_reducible first
      | assumption | apply ih | exact h | apply State.peMarkOff_only | apply h4 | apply h7 | apply h8 | apply h9
      | apply h10 | apply h11 | apply h18 | apply h19 | apply h20 | apply h21 | apply h22 | apply h23 | apply h24
      | apply h25 | apply h26 | apply h27 | apply h28 | apply h29 | apply h30 | apply h31 | apply h32 | apply h33
      | apply h34 | apply h35 | apply h36 | apply h37 | apply h38 | apply h39 | apply h40 | apply h41 | apply h42
      | apply h43 | apply h44 | apply h45 | apply h46 | apply h47 | apply h48 | apply h49 | apply h50 | apply h51
      | apply h52 | apply h53 | apply h54 | apply h55 | apply h56 | apply h57 | apply h58 | apply h59 | apply h60
      | apply h61 | apply h64 | apply h65 | apply h67 | (intros; assumption) | intro _ _ _ | intro _ _ | split
      | dsimp only | extract_lets

theorem State.unmark_only
    (h : Only P s t) (n : Nat) (h1 : P (.port n)) (h2 : P (.field (PRT.IBUSMEAS.ISET n).key))
    (h3 : P (.field (PRT.TCSTS.LEAKMIN n).key)) (h4 : P (.field (PRT.TCSTS.MOISTOK n).key))
    (h5 : P (.field (PRT.TCSTS.RPADV n).key)) (h6 : P (.field (PWR.PALLOW.SHED n).key))
    (h7 : P (.field (PWR.PBOOK.COMMIT n).key)) (h8 : P (.field (PWR.PBOOK.CONTRACT n).key))
    (h9 : ∀ i, P (.field (PWR.QBOOK.COMMIT i).key)) (h10 : ∀ i, P (.field (PWR.QBOOK.CONTRACT i).key))
    (h11 : P (.field PWR.TOTCOM.COMMIT.key)) (h12 : P (.field PWR.TOTCON.CONTRACT.key)) :
    Only P s (t.unmark n) := by
  unfold State.unmark
  repeat' with_reducible first
    | assumption | apply State.clearMark_only | apply State.rpFollow_only | apply State.tryApply_only | apply h9
    | apply h10 | intro _ _ _ | intro _ _ | split

theorem State.endMarks_only
    (h : Only P s t) (l : List Nat) (h1 : ∀ i, P (.port i)) (h2 : ∀ i, P (.quad i))
    (h3 : ∀ i, P (.field (PRT.IBUSMEAS.ISET i).key)) (h4 : ∀ i, P (.field (PRT.TCSTS.LEAKMIN i).key))
    (h5 : ∀ i, P (.field (PRT.TCSTS.MOISTOK i).key)) (h6 : ∀ i, P (.field (PRT.TCSTS.RPADV i).key))
    (h7 : P (.field PWR.EVT.SHEDOUT.key)) (h8 : ∀ i, P (.field (PWR.PALLOW.SHED i).key))
    (h9 : ∀ i, P (.field (PWR.PBOOK.COMMIT i).key)) (h10 : ∀ i, P (.field (PWR.PBOOK.CONTRACT i).key))
    (h11 : ∀ i, P (.field (PWR.QBOOK.COMMIT i).key)) (h12 : ∀ i, P (.field (PWR.QBOOK.CONTRACT i).key))
    (h13 : P (.field PWR.TOTCOM.COMMIT.key)) (h14 : P (.field PWR.TOTCON.CONTRACT.key)) (h15 : P .shedDue) :
    Only P s (t.endMarks l) := by
  unfold State.endMarks
  repeat' with_reducible first
    | assumption | apply Only.forEach | apply Only.raise | apply Only.modQuad | apply State.unmark_only | apply h1
    | apply h2 | apply h3 | apply h4 | apply h5 | apply h6 | apply h8 | apply h9 | apply h10 | apply h11 | apply h12
    | intro _ _ _ | intro _ _ | split | apply Only.upd | exact .inr rfl | (left; assumption)

theorem State.poolEffect_only
    (h : Only P s t) (h1 : P .poolTrig) (h2 : ∀ i, P (.port i)) (h3 : ∀ i, P (.quad i))
    (h4 : ∀ i, P (.field (PRT.IBUSMEAS.ISET i).key)) (h5 : ∀ i, P (.field (PRT.TCSTS.LEAKMIN i).key))
    (h6 : ∀ i, P (.field (PRT.TCSTS.MOISTOK i).key)) (h7 : ∀ i, P (.field (PRT.TCSTS.RPADV i).key))
    (h8 : P (.field PWR.EVT.SHEDOUT.key)) (h9 : ∀ i, P (.field (PWR.PALLOW.SHED i).key))
    (h10 : ∀ i, P (.field (PWR.PBOOK.COMMIT i).key)) (h11 : ∀ i, P (.field (PWR.PBOOK.CONTRACT i).key))
    (h12 : ∀ i, P (.field (PWR.QBOOK.COMMIT i).key)) (h13 : ∀ i, P (.field (PWR.QBOOK.CONTRACT i).key))
    (h14 : P (.field PWR.TOTCOM.COMMIT.key)) (h15 : P (.field PWR.TOTCON.CONTRACT.key)) (h16 : P .shedDue) :
    Only P s (t.poolEffect) := by
  unfold State.poolEffect
  repeat' with_reducible first
    | assumption | apply State.endMarks_only | apply h2 | apply h3 | apply h4 | apply h5 | apply h6 | apply h7
    | apply h9 | apply h10 | apply h11 | apply h12 | apply h13 | intro _ _ _ | intro _ _ | split | apply Only.upd
    | exact .inr rfl | (left; assumption)

theorem State.qcapEffect_only
    (h : Only P s t) (q : Nat) (h1 : ∀ i, P (.port i)) (h2 : ∀ i, P (.quad i))
    (h3 : ∀ i, P (.field (PRT.IBUSMEAS.ISET i).key)) (h4 : ∀ i, P (.field (PRT.TCSTS.LEAKMIN i).key))
    (h5 : ∀ i, P (.field (PRT.TCSTS.MOISTOK i).key)) (h6 : ∀ i, P (.field (PRT.TCSTS.RPADV i).key))
    (h7 : P (.field PWR.EVT.SHEDOUT.key)) (h8 : ∀ i, P (.field (PWR.PALLOW.SHED i).key))
    (h9 : ∀ i, P (.field (PWR.PBOOK.COMMIT i).key)) (h10 : ∀ i, P (.field (PWR.PBOOK.CONTRACT i).key))
    (h11 : ∀ i, P (.field (PWR.QBOOK.COMMIT i).key)) (h12 : ∀ i, P (.field (PWR.QBOOK.CONTRACT i).key))
    (h13 : P (.field PWR.TOTCOM.COMMIT.key)) (h14 : P (.field PWR.TOTCON.CONTRACT.key)) (h15 : P .shedDue) :
    Only P s (t.qcapEffect q) := by
  unfold State.qcapEffect
  repeat' with_reducible first
    | assumption | apply Only.modQuad | apply State.endMarks_only | apply h1 | apply h2 | apply h3 | apply h4
    | apply h5 | apply h6 | apply h8 | apply h9 | apply h10 | apply h11 | apply h12 | intro _ _ _ | intro _ _
    | split | apply Only.upd | exact .inr rfl | (left; assumption)

theorem State.pmaxShed_only
    (h : Only P s t) (n : Nat) (h1 : P (.port n)) (h2 : P (.field (PRT.IBUSMEAS.ISET n).key))
    (h3 : P (.field (PRT.TCSTS.RPADV n).key)) (h4 : P (.field PWR.EVT.SHEDIN.key))
    (h5 : P (.field (PWR.PALLOW.ALLOW n).key)) (h6 : P (.field (PWR.PALLOW.SHED n).key))
    (h7 : P (.field (PWR.PBOOK.COMMIT n).key)) (h8 : P (.field (PWR.PBOOK.CONTRACT n).key))
    (h9 : ∀ i, P (.field (PWR.QBOOK.COMMIT i).key)) (h10 : ∀ i, P (.field (PWR.QBOOK.CONTRACT i).key))
    (h11 : P (.field PWR.TOTCOM.COMMIT.key)) (h12 : P (.field PWR.TOTCON.CONTRACT.key)) :
    Only P s (t.pmaxShed n) := by
  unfold State.pmaxShed
  repeat' with_reducible first
    | assumption | apply Only.raise | apply State.reduce_only | apply h9 | apply h10 | intro _ _ _ | intro _ _
    | split | dsimp only

theorem State.pcfgEffect_only
    (h : Only P s t) (n : Nat) (h1 : P (.port n)) (h2 : P (.field (PRT.IBUSMEAS.ISET n).key))
    (h3 : P (.field (PRT.TCSTS.RPADV n).key)) (h4 : P (.field PWR.EVT.SHEDIN.key))
    (h5 : P (.field (PWR.PALLOW.ALLOW n).key)) (h6 : P (.field (PWR.PALLOW.SHED n).key))
    (h7 : P (.field (PWR.PBOOK.COMMIT n).key)) (h8 : P (.field (PWR.PBOOK.CONTRACT n).key))
    (h9 : ∀ i, P (.field (PWR.QBOOK.COMMIT i).key)) (h10 : ∀ i, P (.field (PWR.QBOOK.CONTRACT i).key))
    (h11 : P (.field PWR.TOTCOM.COMMIT.key)) (h12 : P (.field PWR.TOTCON.CONTRACT.key)) :
    Only P s (t.pcfgEffect n) := by
  unfold State.pcfgEffect
  repeat' with_reducible first
    | assumption | apply Only.wr | apply State.clearMark_only | apply State.pmaxShed_only
    | apply State.readvertise_only | apply State.rpFollow_only | apply h9 | apply h10 | intro _ _ _ | intro _ _
    | split | dsimp only

theorem State.alertQuad_only
    (h : Only P s t) (q : Nat) (h1 : ∀ i, P (.port i)) (h2 : ∀ i, P (.field (PRT.TCSTS.RPADV i).key)) :
    Only P s (t.alertQuad q) := by
  unfold State.alertQuad
  repeat' with_reducible first
    | assumption | apply Only.forEach | apply State.queueAms_only | apply h1 | apply h2 | intro _ _ _ | intro _ _
    | split

theorem State.trip_only
    (h : Only P s t) (n cause : Nat) (h1 : P .edgeDue) (h2 : P .freeCtr) (h3 : P .outs) (h4 : ∀ i, P (.port i))
    (h5 : P (.field LDS.CHG0.P00_P31.key)) (h6 : P (.field LDS.CHG1.P32_P47.key))
    (h7 : P (.field (LDS.RSUM.HBUSED n).key)) (h8 : P (.field (LDS.RSUM.IDVALID n).key))
    (h9 : P (.field (LDS.RSUM.PROFILE n).key)) (h10 : P (.field (LDS.RSUM.RESULT n).key))
    (h11 : P (.field (LDS.RSUM.STATE n).key)) (h12 : P (.field PKM.FENCE.FALLBACK.key))
    (h13 : P (.field PKM.FREESTS.WAS.key)) (h14 : P (.field PKM.GCNT0.FREE.key))
    (h15 : P (.field PKM.GCNT0.QUEUED.key)) (h16 : P (.field PKM.GCNT1.INFLIGHT.key))
    (h17 : P (.field PKM.GCNT2.POOLFREE.key)) (h18 : ∀ i, P (.field (PKM.IQPTR.RPTR i).key))
    (h19 : P (.field (PRT.ALTMUX.ACTIVE n).key)) (h20 : ∀ i, P (.field (PRT.ALTMUX.QBUSY i).key))
    (h21 : ∀ i, P (.field (PRT.ALTMUX.QHOLD i).key)) (h22 : P (.field (PRT.FUSEVT.PGOFF n).key))
    (h23 : P (.field (PRT.FUSEVT.TRIP n).key)) (h24 : P (.field (PRT.FUSEVT.TRIPCNT n).key))
    (h25 : P (.field (PRT.FUSSTS.CAUSE n).key)) (h26 : P (.field (PRT.FUSSTS.FOLD n).key))
    (h27 : P (.field (PRT.FUSSTS.FTFILL n).key)) (h28 : P (.field (PRT.FUSSTS.GATEON n).key))
    (h29 : P (.field (PRT.FUSSTS.LIMIT n).key)) (h30 : P (.field (PRT.FUSSTS.PG n).key))
    (h31 : P (.field (PRT.FUSSTS.TRIPS n).key)) (h32 : P (.field (PRT.HUBCHG.C_CONNECTION n).key))
    (h33 : P (.field (PRT.HUBCHG.C_ENABLE n).key)) (h34 : P (.field (PRT.HUBCHG.C_OVERCUR n).key))
    (h35 : P (.field (PRT.HUBCHG.C_RESET n).key)) (h36 : P (.field (PRT.HUBCHG.C_SUSPEND n).key))
    (h37 : P (.field (PRT.HUBSTS.CONNECTION n).key)) (h38 : P (.field (PRT.HUBSTS.ENABLE n).key))
    (h39 : P (.field (PRT.HUBSTS.HIGHSPD n).key)) (h40 : P (.field (PRT.HUBSTS.LOWSPD n).key))
    (h41 : P (.field (PRT.HUBSTS.OVERCUR n).key)) (h42 : P (.field (PRT.HUBSTS.RESET n).key))
    (h43 : P (.field (PRT.HUBSTS.STATE n).key)) (h44 : P (.field (PRT.HUBSTS.SUSPEND n).key))
    (h45 : P (.field (PRT.HUBSTS.TEST n).key)) (h46 : P (.field (PRT.MTRCNT.DATAHIT n).key))
    (h47 : P (.field (PRT.MTRCNT.NAKHIT n).key)) (h48 : P (.field (PRT.MTRSTS.STRANDED n).key))
    (h49 : P (.field (PRT.MTRSTS.WITHDRAWN n).key)) (h50 : P (.field (PRT.PDSTS.ALTMODE n).key))
    (h51 : P (.field (PRT.PDSTS.EVT n).key)) (h52 : P (.field (PRT.PDSTS.EXPLICIT n).key))
    (h53 : P (.field (PRT.PDSTS.OBJPOS n).key)) (h54 : P (.field (PRT.PDSTS.OPCURR n).key))
    (h55 : P (.field (PRT.PDSTS.VCSRC n).key)) (h56 : P (.field (PRT.PDSTS.VSEL n).key))
    (h57 : P (.field (PRT.QSTS.STOPPED n).key)) (h58 : P (.field (PRT.TCSTS.RPADV n).key))
    (h59 : P (.field (PRT.TCSTS.TCSTATE n).key)) (h60 : P (.field (PRT.VCONN.ON n).key))
    (h61 : P (.field (PWR.PALLOW.WAIT n).key)) (h62 : P (.field (PWR.PBOOK.COMMIT n).key))
    (h63 : P (.field (PWR.PBOOK.CONTRACT n).key)) (h64 : ∀ i, P (.field (PWR.QBOOK.COMMIT i).key))
    (h65 : ∀ i, P (.field (PWR.QBOOK.CONTRACT i).key)) (h66 : P (.field PWR.TOTCOM.COMMIT.key))
    (h67 : P (.field PWR.TOTCON.CONTRACT.key)) (h68 : ∀ i, P (.field (SWX.CNTA.STALE i).key))
    (h69 : ∀ i, P (.field (SWX.CNTB.RLYWD i).key)) (h70 : P (.field (causeBit n cause).key)) (h71 : P .sw)
    (h72 : ∀ i, P (.up i)) :
    Only P s (t.trip n cause) := by
  unfold State.trip
  repeat' with_reducible first
    | assumption | apply Only.wr | apply Only.raise | apply Only.bump | apply Only.modPort | apply Only.hubEvt
    | apply State.powerCut_only | apply h4

theorem State.rearmEffect_only
    (h : Only P s t) (n : Nat) (h1 : P (.port n)) (h2 : P (.field (PRT.FUSEVT.REARMED n).key))
    (h3 : P (.field (PRT.FUSSTS.SENSE n).key)) (h4 : P (.field (PRT.FUSSTS.TRIPS n).key))
    (h5 : P (.field (PRT.HUBSTS.OVERCUR n).key)) :
    Only P s (t.rearmEffect n) := by
  unfold State.rearmEffect
  repeat' with_reducible first
    | assumption | apply Only.wr | apply Only.raise | apply Only.modPort | intro _ _ _ | intro _ _ | split
    | apply Only.upd | exact .inr rfl

theorem State.fbicapEffect_only
    (h : Only P s t) (q : Nat) (h1 : P .edgeDue) (h2 : P .freeCtr) (h3 : P .outs) (h4 : ∀ i, P (.port i))
    (h5 : P (.field LDS.CHG0.P00_P31.key)) (h6 : P (.field LDS.CHG1.P32_P47.key))
    (h7 : ∀ i, P (.field (LDS.RSUM.HBUSED i).key)) (h8 : ∀ i, P (.field (LDS.RSUM.IDVALID i).key))
    (h9 : ∀ i, P (.field (LDS.RSUM.PROFILE i).key)) (h10 : ∀ i, P (.field (LDS.RSUM.RESULT i).key))
    (h11 : ∀ i, P (.field (LDS.RSUM.STATE i).key)) (h12 : P (.field PKM.FENCE.FALLBACK.key))
    (h13 : P (.field PKM.FREESTS.WAS.key)) (h14 : P (.field PKM.GCNT0.FREE.key))
    (h15 : P (.field PKM.GCNT0.QUEUED.key)) (h16 : P (.field PKM.GCNT1.INFLIGHT.key))
    (h17 : P (.field PKM.GCNT2.POOLFREE.key)) (h18 : ∀ i, P (.field (PKM.IQPTR.RPTR i).key))
    (h19 : ∀ i, P (.field (PRT.ALTMUX.ACTIVE i).key)) (h20 : ∀ i, P (.field (PRT.ALTMUX.QBUSY i).key))
    (h21 : ∀ i, P (.field (PRT.ALTMUX.QHOLD i).key)) (h22 : ∀ i, P (.field (PRT.FUSEVT.PGOFF i).key))
    (h23 : ∀ i, P (.field (PRT.FUSSTS.FOLD i).key)) (h24 : ∀ i, P (.field (PRT.FUSSTS.GATEON i).key))
    (h25 : ∀ i, P (.field (PRT.FUSSTS.LIMIT i).key)) (h26 : ∀ i, P (.field (PRT.FUSSTS.PG i).key))
    (h27 : ∀ i, P (.field (PRT.HUBCHG.C_CONNECTION i).key)) (h28 : ∀ i, P (.field (PRT.HUBCHG.C_ENABLE i).key))
    (h29 : ∀ i, P (.field (PRT.HUBCHG.C_OVERCUR i).key)) (h30 : ∀ i, P (.field (PRT.HUBCHG.C_RESET i).key))
    (h31 : ∀ i, P (.field (PRT.HUBCHG.C_SUSPEND i).key)) (h32 : ∀ i, P (.field (PRT.HUBSTS.CONNECTION i).key))
    (h33 : ∀ i, P (.field (PRT.HUBSTS.ENABLE i).key)) (h34 : ∀ i, P (.field (PRT.HUBSTS.HIGHSPD i).key))
    (h35 : ∀ i, P (.field (PRT.HUBSTS.LOWSPD i).key)) (h36 : ∀ i, P (.field (PRT.HUBSTS.RESET i).key))
    (h37 : ∀ i, P (.field (PRT.HUBSTS.STATE i).key)) (h38 : ∀ i, P (.field (PRT.HUBSTS.SUSPEND i).key))
    (h39 : ∀ i, P (.field (PRT.HUBSTS.TEST i).key)) (h40 : ∀ i, P (.field (PRT.MTRCNT.DATAHIT i).key))
    (h41 : ∀ i, P (.field (PRT.MTRCNT.NAKHIT i).key)) (h42 : ∀ i, P (.field (PRT.MTRSTS.STRANDED i).key))
    (h43 : ∀ i, P (.field (PRT.MTRSTS.WITHDRAWN i).key)) (h44 : ∀ i, P (.field (PRT.PDSTS.ALTMODE i).key))
    (h45 : ∀ i, P (.field (PRT.PDSTS.EVT i).key)) (h46 : ∀ i, P (.field (PRT.PDSTS.EXPLICIT i).key))
    (h47 : ∀ i, P (.field (PRT.PDSTS.OBJPOS i).key)) (h48 : ∀ i, P (.field (PRT.PDSTS.OPCURR i).key))
    (h49 : ∀ i, P (.field (PRT.PDSTS.PWRROLE i).key)) (h50 : ∀ i, P (.field (PRT.PDSTS.VCSRC i).key))
    (h51 : ∀ i, P (.field (PRT.PDSTS.VSEL i).key)) (h52 : ∀ i, P (.field (PRT.QSTS.STOPPED i).key))
    (h53 : ∀ i, P (.field (PRT.TCEVT.ERRREC i).key)) (h54 : ∀ i, P (.field (PRT.TCEVT.WETOUT i).key))
    (h55 : ∀ i, P (.field (PRT.TCSTS.MOISTOK i).key)) (h56 : ∀ i, P (.field (PRT.TCSTS.ORIENT i).key))
    (h57 : ∀ i, P (.field (PRT.TCSTS.RPADV i).key)) (h58 : ∀ i, P (.field (PRT.TCSTS.TCSTATE i).key))
    (h59 : ∀ i, P (.field (PRT.TCSTS.WET i).key)) (h60 : ∀ i, P (.field (PRT.TCSTS.WETGND i).key))
    (h61 : ∀ i, P (.field (PRT.TCSTS.WETPIN i).key)) (h62 : ∀ i, P (.field (PRT.TCSTS.WETVBUS i).key))
    (h63 : ∀ i, P (.field (PRT.VCONN.ON i).key)) (h64 : ∀ i, P (.field (PWR.PALLOW.SHED i).key))
    (h65 : ∀ i, P (.field (PWR.PALLOW.WAIT i).key)) (h66 : ∀ i, P (.field (PWR.PBOOK.COMMIT i).key))
    (h67 : ∀ i, P (.field (PWR.PBOOK.CONTRACT i).key)) (h68 : ∀ i, P (.field (PWR.QBOOK.COMMIT i).key))
    (h69 : ∀ i, P (.field (PWR.QBOOK.CONTRACT i).key)) (h70 : P (.field PWR.TOTCOM.COMMIT.key))
    (h71 : P (.field PWR.TOTCON.CONTRACT.key)) (h72 : ∀ i, P (.field (SWX.CNTA.STALE i).key))
    (h73 : ∀ i, P (.field (SWX.CNTB.RLYWD i).key)) (h74 : P .sw) (h75 : ∀ i, P (.up i)) :
    Only P s (t.fbicapEffect q) := by
  unfold State.fbicapEffect
  repeat' with_reducible first
    | assumption | apply Only.forEach | apply State.errorRecovery_only | apply State.readvertise_only | apply h4
    | apply h7 | apply h8 | apply h9 | apply h10 | apply h11 | apply h18 | apply h19 | apply h20 | apply h21
    | apply h22 | apply h23 | apply h24 | apply h25 | apply h26 | apply h27 | apply h28 | apply h29 | apply h30
    | apply h31 | apply h32 | apply h33 | apply h34 | apply h35 | apply h36 | apply h37 | apply h38 | apply h39
    | apply h40 | apply h41 | apply h42 | apply h43 | apply h44 | apply h45 | apply h46 | apply h47 | apply h48
    | apply h49 | apply h50 | apply h51 | apply h52 | apply h53 | apply h54 | apply h55 | apply h56 | apply h57
    | apply h58 | apply h59 | apply h60 | apply h61 | apply h62 | apply h63 | apply h64 | apply h65 | apply h66
    | apply h67 | apply h68 | apply h69 | apply h72 | apply h73 | apply h75 | intro _ _ _ | intro _ _ | split

theorem State.kickEffect_only
    (h : Only P s t) (n : Nat) (h1 : P .outs) (h2 : P (.port n)) (h3 : P (.field (PRT.ALTMUX.ACTIVE n).key))
    (h4 : ∀ i, P (.field (PRT.ALTMUX.QBUSY i).key)) (h5 : ∀ i, P (.field (PRT.ALTMUX.QHOLD i).key))
    (h6 : P (.field (PRT.PDSTS.ALTMODE n).key)) (h7 : P (.field (PRT.PDSTS.EVT n).key))
    (h8 : P (.field (PRT.TCSTS.RPADV n).key)) :
    Only P s (t.kickEffect n) := by
  unfold State.kickEffect
  repeat' with_reducible first
    | assumption | apply State.modeExit_only | apply State.queueAms_only | apply h4 | apply h5 | intro _ _ _
    | intro _ _ | split

theorem State.hardReset_only
    (h : Only P s t) (n : Nat) (sent : Bool) (h1 : P .copies) (h2 : P .edgeDue) (h3 : P .outs)
    (h4 : ∀ i, P (.port i)) (h5 : P (.field LDS.CHG0.P00_P31.key)) (h6 : P (.field LDS.CHG1.P32_P47.key))
    (h7 : P (.field (LDS.RSUM.HBUSED n).key)) (h8 : P (.field (LDS.RSUM.IDVALID n).key))
    (h9 : P (.field (LDS.RSUM.PROFILE n).key)) (h10 : P (.field (LDS.RSUM.RESULT n).key))
    (h11 : P (.field (LDS.RSUM.STATE n).key)) (h12 : P (.field PKM.FENCE.FALLBACK.key))
    (h13 : P (.field PKM.FREESTS.WAS.key)) (h14 : P (.field PKM.GCNT0.FREE.key))
    (h15 : P (.field PKM.GCNT0.QUEUED.key)) (h16 : P (.field PKM.GCNT1.INFLIGHT.key))
    (h17 : P (.field PKM.GCNT2.POOLFREE.key)) (h18 : ∀ i, P (.field (PKM.IQPTR.RPTR i).key))
    (h19 : P (.field (PRT.ALTMUX.ACTIVE n).key)) (h20 : ∀ i, P (.field (PRT.ALTMUX.QBUSY i).key))
    (h21 : ∀ i, P (.field (PRT.ALTMUX.QHOLD i).key)) (h22 : P (.field (PRT.IBUSMEAS.ISET n).key))
    (h23 : P (.field (PRT.OWNER.OWN n).key)) (h24 : P (.field (PRT.OWNER.STATE n).key))
    (h25 : P (.field (PRT.PDCNT.HRRCVD n).key)) (h26 : P (.field (PRT.PDCNT.HRSENT n).key))
    (h27 : P (.field (PRT.PDSTS.ALTMODE n).key)) (h28 : P (.field (PRT.PDSTS.EVT n).key))
    (h29 : P (.field (PRT.PDSTS.EXPLICIT n).key)) (h30 : P (.field (PRT.PDSTS.OBJPOS n).key))
    (h31 : P (.field (PRT.PDSTS.OPCURR n).key)) (h32 : P (.field (PRT.PDSTS.VCSRC n).key))
    (h33 : P (.field (PRT.PDSTS.VSEL n).key)) (h34 : P (.field (PRT.TCSTS.RPADV n).key))
    (h35 : P (.field (PRT.VCONN.ON n).key)) (h36 : P (.field (PWR.PBOOK.CONTRACT n).key))
    (h37 : ∀ i, P (.field (PWR.QBOOK.COMMIT i).key)) (h38 : ∀ i, P (.field (PWR.QBOOK.CONTRACT i).key))
    (h39 : P (.field PWR.TOTCOM.COMMIT.key)) (h40 : P (.field PWR.TOTCON.CONTRACT.key))
    (h41 : ∀ i, P (.field (SWX.CNTA.STALE i).key)) (h42 : P .sw) :
    Only P s (t.hardReset n sent) := by
  unfold State.hardReset
  repeat' with_reducible first
    | assumption | apply Only.wr | apply Only.bump | apply Only.orBits | apply Only.modPort | apply Only.emit
    | apply State.endContract_only | apply State.handoverRestart_only | apply State.modeExit_only
    | apply State.pdForget_only | apply State.setC_only | apply State.setIset_only | apply State.vconnOff_only
    | apply h4 | apply h18 | apply h20 | apply h21 | apply h37 | apply h38 | apply h41 | intro _ _ _ | intro _ _
    | split

theorem State.rpSettle_only
    (h : Only P s t) (n : Nat) (h1 : P (.field (PRT.IBUSMEAS.ISET n).key)) (h2 : P (.field (PRT.TCSTS.RPADV n).key))
    (h3 : P (.field (PWR.PBOOK.COMMIT n).key)) (h4 : P (.field (PWR.PBOOK.CONTRACT n).key))
    (h5 : ∀ i, P (.field (PWR.QBOOK.COMMIT i).key)) (h6 : ∀ i, P (.field (PWR.QBOOK.CONTRACT i).key))
    (h7 : P (.field PWR.TOTCOM.COMMIT.key)) (h8 : P (.field PWR.TOTCON.CONTRACT.key)) :
    Only P s (t.rpSettle n) := by
  unfold State.rpSettle
  repeat' with_reducible first
    | assumption | apply Only.wr | apply State.rpFollow_only | apply h5 | apply h6 | intro _ _ _ | intro _ _ | split

theorem State.pdenEffect_only
    (h : Only P s t) (n : Nat) (h1 : P .edgeDue) (h2 : P .freeCtr) (h3 : P .outs) (h4 : ∀ i, P (.port i))
    (h5 : P (.field LDS.CHG0.P00_P31.key)) (h6 : P (.field LDS.CHG1.P32_P47.key))
    (h7 : P (.field (LDS.RSUM.HBUSED n).key)) (h8 : P (.field (LDS.RSUM.IDVALID n).key))
    (h9 : P (.field (LDS.RSUM.PROFILE n).key)) (h10 : P (.field (LDS.RSUM.RESULT n).key))
    (h11 : P (.field (LDS.RSUM.STATE n).key)) (h12 : P (.field PKM.FENCE.FALLBACK.key))
    (h13 : P (.field PKM.FREESTS.WAS.key)) (h14 : P (.field PKM.GCNT0.FREE.key))
    (h15 : P (.field PKM.GCNT0.QUEUED.key)) (h16 : P (.field PKM.GCNT1.INFLIGHT.key))
    (h17 : P (.field PKM.GCNT2.POOLFREE.key)) (h18 : ∀ i, P (.field (PKM.IQPTR.RPTR i).key))
    (h19 : P (.field (PRT.ALTMUX.ACTIVE n).key)) (h20 : ∀ i, P (.field (PRT.ALTMUX.QBUSY i).key))
    (h21 : ∀ i, P (.field (PRT.ALTMUX.QHOLD i).key)) (h22 : P (.field (PRT.FUSEVT.PGOFF n).key))
    (h23 : P (.field (PRT.FUSSTS.FOLD n).key)) (h24 : P (.field (PRT.FUSSTS.GATEON n).key))
    (h25 : P (.field (PRT.FUSSTS.LIMIT n).key)) (h26 : P (.field (PRT.FUSSTS.PG n).key))
    (h27 : P (.field (PRT.HUBCHG.C_CONNECTION n).key)) (h28 : P (.field (PRT.HUBCHG.C_ENABLE n).key))
    (h29 : P (.field (PRT.HUBCHG.C_OVERCUR n).key)) (h30 : P (.field (PRT.HUBCHG.C_RESET n).key))
    (h31 : P (.field (PRT.HUBCHG.C_SUSPEND n).key)) (h32 : P (.field (PRT.HUBSTS.CONNECTION n).key))
    (h33 : P (.field (PRT.HUBSTS.ENABLE n).key)) (h34 : P (.field (PRT.HUBSTS.HIGHSPD n).key))
    (h35 : P (.field (PRT.HUBSTS.LOWSPD n).key)) (h36 : P (.field (PRT.HUBSTS.RESET n).key))
    (h37 : P (.field (PRT.HUBSTS.STATE n).key)) (h38 : P (.field (PRT.HUBSTS.SUSPEND n).key))
    (h39 : P (.field (PRT.HUBSTS.TEST n).key)) (h40 : P (.field (PRT.IBUSMEAS.ISET n).key))
    (h41 : P (.field (PRT.MTRCNT.DATAHIT n).key)) (h42 : P (.field (PRT.MTRCNT.NAKHIT n).key))
    (h43 : P (.field (PRT.MTRSTS.STRANDED n).key)) (h44 : P (.field (PRT.MTRSTS.WITHDRAWN n).key))
    (h45 : P (.field (PRT.PDSTS.ALTMODE n).key)) (h46 : P (.field (PRT.PDSTS.EVT n).key))
    (h47 : P (.field (PRT.PDSTS.EXPLICIT n).key)) (h48 : P (.field (PRT.PDSTS.OBJPOS n).key))
    (h49 : P (.field (PRT.PDSTS.OPCURR n).key)) (h50 : P (.field (PRT.PDSTS.PWRROLE n).key))
    (h51 : P (.field (PRT.PDSTS.VCSRC n).key)) (h52 : P (.field (PRT.PDSTS.VSEL n).key))
    (h53 : P (.field (PRT.QSTS.STOPPED n).key)) (h54 : P (.field (PRT.TCEVT.ERRREC n).key))
    (h55 : P (.field (PRT.TCEVT.WETOUT n).key)) (h56 : P (.field (PRT.TCSTS.MOISTOK n).key))
    (h57 : P (.field (PRT.TCSTS.ORIENT n).key)) (h58 : P (.field (PRT.TCSTS.RPADV n).key))
    (h59 : P (.field (PRT.TCSTS.TCSTATE n).key)) (h60 : P (.field (PRT.TCSTS.WET n).key))
    (h61 : P (.field (PRT.TCSTS.WETGND n).key)) (h62 : P (.field (PRT.TCSTS.WETPIN n).key))
    (h63 : P (.field (PRT.TCSTS.WETVBUS n).key)) (h64 : P (.field (PRT.VCONN.ON n).key))
    (h65 : P (.field (PWR.PALLOW.SHED n).key)) (h66 : P (.field (PWR.PALLOW.WAIT n).key))
    (h67 : P (.field (PWR.PBOOK.COMMIT n).key)) (h68 : P (.field (PWR.PBOOK.CONTRACT n).key))
    (h69 : ∀ i, P (.field (PWR.QBOOK.COMMIT i).key)) (h70 : ∀ i, P (.field (PWR.QBOOK.CONTRACT i).key))
    (h71 : P (.field PWR.TOTCOM.COMMIT.key)) (h72 : P (.field PWR.TOTCON.CONTRACT.key))
    (h73 : ∀ i, P (.field (SWX.CNTA.STALE i).key)) (h74 : ∀ i, P (.field (SWX.CNTB.RLYWD i).key)) (h75 : P .sw)
    (h76 : ∀ i, P (.up i)) :
    Only P s (t.pdenEffect n) := by
  unfold State.pdenEffect
  repeat' with_reducible first
    | assumption | apply Only.modPort | apply State.errorRecovery_only | apply State.pdForget_only
    | apply State.rpSettle_only | apply h4 | apply h18 | apply h20 | apply h21 | apply h69 | apply h70 | apply h73
    | apply h74 | apply h76 | intro _ _ _ | intro _ _ | split

theorem State.upUnattached_only
    (h : Only P s t) (u : Nat) (h1 : P (.field (UPS.TCSTS.NOSRC u).key)) (h2 : P (.field (UPS.TCSTS.ORIENT u).key))
    (h3 : P (.field (UPS.TCSTS.RPSEEN u).key)) (h4 : P (.field (UPS.TCSTS.TCSTATE u).key)) (h5 : P (.up u)) :
    Only P s (t.upUnattached u) := by
  unfold State.upUnattached
  repeat' with_reducible first
    | assumption | apply Only.wr | apply Only.modUp

theorem State.sendCaps_only
    (h : Only P s t) (n : Nat) (h1 : P .outs) (h2 : P (.port n)) :
    Only P s (t.sendCaps n) := by
  unfold State.sendCaps
  repeat' with_reducible first
    | assumption | apply Only.modPort | apply Only.emit | intro _ _ _ | intro _ _ | split

theorem State.hresetRun_only
    (h : Only P s t) (n : Nat) (h1 : P .copies) (h2 : P .edgeDue) (h3 : P .outs) (h4 : ∀ i, P (.port i))
    (h5 : P (.field LDS.CHG0.P00_P31.key)) (h6 : P (.field LDS.CHG1.P32_P47.key))
    (h7 : P (.field (LDS.RSUM.HBUSED n).key)) (h8 : P (.field (LDS.RSUM.IDVALID n).key))
    (h9 : P (.field (LDS.RSUM.PROFILE n).key)) (h10 : P (.field (LDS.RSUM.RESULT n).key))
    (h11 : P (.field (LDS.RSUM.STATE n).key)) (h12 : P (.field PKM.FENCE.FALLBACK.key))
    (h13 : P (.field PKM.FREESTS.WAS.key)) (h14 : P (.field PKM.GCNT0.FREE.key))
    (h15 : P (.field PKM.GCNT0.QUEUED.key)) (h16 : P (.field PKM.GCNT1.INFLIGHT.key))
    (h17 : P (.field PKM.GCNT2.POOLFREE.key)) (h18 : ∀ i, P (.field (PKM.IQPTR.RPTR i).key))
    (h19 : P (.field (PRT.ALTMUX.ACTIVE n).key)) (h20 : ∀ i, P (.field (PRT.ALTMUX.QBUSY i).key))
    (h21 : ∀ i, P (.field (PRT.ALTMUX.QHOLD i).key)) (h22 : P (.field (PRT.IBUSMEAS.ISET n).key))
    (h23 : P (.field (PRT.OWNER.OWN n).key)) (h24 : P (.field (PRT.OWNER.STATE n).key))
    (h25 : P (.field (PRT.PDCNT.HRRCVD n).key)) (h26 : P (.field (PRT.PDCNT.HRSENT n).key))
    (h27 : P (.field (PRT.PDSTS.ALTMODE n).key)) (h28 : P (.field (PRT.PDSTS.EVT n).key))
    (h29 : P (.field (PRT.PDSTS.EXPLICIT n).key)) (h30 : P (.field (PRT.PDSTS.OBJPOS n).key))
    (h31 : P (.field (PRT.PDSTS.OPCURR n).key)) (h32 : P (.field (PRT.PDSTS.VCSRC n).key))
    (h33 : P (.field (PRT.PDSTS.VSEL n).key)) (h34 : P (.field (PRT.TCSTS.RPADV n).key))
    (h35 : P (.field (PRT.VCONN.ON n).key)) (h36 : P (.field (PWR.PBOOK.CONTRACT n).key))
    (h37 : ∀ i, P (.field (PWR.QBOOK.COMMIT i).key)) (h38 : ∀ i, P (.field (PWR.QBOOK.CONTRACT i).key))
    (h39 : P (.field PWR.TOTCOM.COMMIT.key)) (h40 : P (.field PWR.TOTCON.CONTRACT.key))
    (h41 : ∀ i, P (.field (SWX.CNTA.STALE i).key)) (h42 : P .sw) :
    Only P s (t.hresetRun n) := by
  unfold State.hresetRun
  repeat' with_reducible first
    | assumption | apply Only.modPort | apply State.hardReset_only | apply h4 | apply h18 | apply h20 | apply h21
    | apply h37 | apply h38 | apply h41 | intro _ _ _ | intro _ _ | split

theorem State.rejectReq_only
    (h : Only P s t) (n : Nat) (h1 : P .outs) (h2 : P (.field (PRT.IBUSMEAS.ISET n).key))
    (h3 : P (.field (PRT.PDCNT.REJECTS n).key)) (h4 : P (.field (PRT.PDSTS.EVT n).key))
    (h5 : P (.field (PRT.TCSTS.RPADV n).key)) (h6 : P (.field (PWR.PBOOK.COMMIT n).key))
    (h7 : P (.field (PWR.PBOOK.CONTRACT n).key)) (h8 : ∀ i, P (.field (PWR.QBOOK.COMMIT i).key))
    (h9 : ∀ i, P (.field (PWR.QBOOK.CONTRACT i).key)) (h10 : P (.field PWR.TOTCOM.COMMIT.key))
    (h11 : P (.field PWR.TOTCON.CONTRACT.key)) :
    Only P s (t.rejectReq n) := by
  unfold State.rejectReq
  repeat' with_reducible first
    | assumption | apply Only.bump | apply Only.orBits | apply Only.emit | apply State.rpSettle_only

theorem State.evalRequest_only
    (h : Only P s t) (n : Nat) (r : PdReq) (h1 : P .outs) (h2 : P (.port n))
    (h3 : P (.field (PRT.IBUSMEAS.ISET n).key)) (h4 : P (.field (PRT.PDCNT.REJECTS n).key))
    (h5 : P (.field (PRT.PDSTS.EVT n).key)) (h6 : P (.field (PRT.TCSTS.RPADV n).key))
    (h7 : P (.field PWR.CNT.REJECTS.key)) (h8 : P (.field (PWR.PBOOK.COMMIT n).key))
    (h9 : P (.field (PWR.PBOOK.CONTRACT n).key)) (h10 : ∀ i, P (.field (PWR.QBOOK.COMMIT i).key))
    (h11 : ∀ i, P (.field (PWR.QBOOK.CONTRACT i).key)) (h12 : P (.field PWR.TOTCOM.COMMIT.key))
    (h13 : P (.field PWR.TOTCON.CONTRACT.key)) :
    Only P s (t.evalRequest n r) := by
  unfold State.evalRequest
  repeat' with_reducible first
    | assumption | apply Only.bump | apply Only.modPort | apply Only.emit | apply State.rejectReq_only
    | apply State.rpSettle_only | apply State.setK_only | apply h10 | apply h11 | intro _ _ _ | intro _ _ | split
    | apply Only.upd | exact .inr rfl

theorem State.swapDone_only
    (h : Only P s t) (n : Nat) (h1 : P (.port n)) (h2 : P (.field (PRT.PDSTS.EVT n).key))
    (h3 : P (.field (PRT.VCONN.SWAPCNT n).key)) :
    Only P s (t.swapDone n) := by
  unfold State.swapDone
  repeat' with_reducible first
    | assumption | apply Only.bump | apply Only.orBits | apply Only.modPort

theorem State.swapBecome_only
    (h : Only P s t) (n : Nat) (h1 : P .outs) (h2 : P (.port n)) (h3 : P (.field (PRT.PDSTS.EVT n).key))
    (h4 : P (.field (PRT.PDSTS.VCSRC n).key)) (h5 : P (.field (PRT.VCONN.ON n).key))
    (h6 : P (.field (PRT.VCONN.PIN n).key)) (h7 : P (.field (PRT.VCONN.SWAPCNT n).key)) :
    Only P s (t.swapBecome n) := by
  unfold State.swapBecome
  repeat' with_reducible first
    | assumption | apply Only.emit | apply State.swapDone_only | apply State.vconnOn_only

theorem State.sopRun_only
    (h : Only P s t) (n : Nat) (h1 : P .outs) (h2 : P (.port n)) :
    Only P s (t.sopRun n) := by
  unfold State.sopRun
  repeat' with_reducible first
    | assumption | apply Only.modPort | apply Only.emit | intro _ _ _ | intro _ _ | split

theorem State.swapSend_only
    (h : Only P s t) (n : Nat) (h1 : P .outs) (h2 : P (.port n)) :
    Only P s (t.swapSend n) := by
  unfold State.swapSend
  repeat' with_reducible first
    | assumption | apply Only.modPort | apply Only.emit | intro _ _ _ | intro _ _ | split

theorem State.amsRun_only
    (h : Only P s t) (n : Nat) (h1 : P .copies) (h2 : P .edgeDue) (h3 : P .outs) (h4 : ∀ i, P (.port i))
    (h5 : P (.field LDS.CHG0.P00_P31.key)) (h6 : P (.field LDS.CHG1.P32_P47.key))
    (h7 : P (.field (LDS.RSUM.HBUSED n).key)) (h8 : P (.field (LDS.RSUM.IDVALID n).key))
    (h9 : P (.field (LDS.RSUM.PROFILE n).key)) (h10 : P (.field (LDS.RSUM.RESULT n).key))
    (h11 : P (.field (LDS.RSUM.STATE n).key)) (h12 : P (.field PKM.FENCE.FALLBACK.key))
    (h13 : P (.field PKM.FREESTS.WAS.key)) (h14 : P (.field PKM.GCNT0.FREE.key))
    (h15 : P (.field PKM.GCNT0.QUEUED.key)) (h16 : P (.field PKM.GCNT1.INFLIGHT.key))
    (h17 : P (.field PKM.GCNT2.POOLFREE.key)) (h18 : ∀ i, P (.field (PKM.IQPTR.RPTR i).key))
    (h19 : P (.field (PRT.ALTMUX.ACTIVE n).key)) (h20 : ∀ i, P (.field (PRT.ALTMUX.QBUSY i).key))
    (h21 : ∀ i, P (.field (PRT.ALTMUX.QHOLD i).key)) (h22 : P (.field (PRT.IBUSMEAS.ISET n).key))
    (h23 : P (.field (PRT.OWNER.OWN n).key)) (h24 : P (.field (PRT.OWNER.STATE n).key))
    (h25 : P (.field (PRT.PDCNT.ALERTS n).key)) (h26 : P (.field (PRT.PDCNT.HRRCVD n).key))
    (h27 : P (.field (PRT.PDCNT.HRSENT n).key)) (h28 : P (.field (PRT.PDSTS.ALTMODE n).key))
    (h29 : P (.field (PRT.PDSTS.EVT n).key)) (h30 : P (.field (PRT.PDSTS.EXPLICIT n).key))
    (h31 : P (.field (PRT.PDSTS.OBJPOS n).key)) (h32 : P (.field (PRT.PDSTS.OPCURR n).key))
    (h33 : P (.field (PRT.PDSTS.VCSRC n).key)) (h34 : P (.field (PRT.PDSTS.VSEL n).key))
    (h35 : P (.field (PRT.TCSTS.RPADV n).key)) (h36 : P (.field (PRT.VCONN.ON n).key))
    (h37 : P (.field (PWR.PBOOK.CONTRACT n).key)) (h38 : ∀ i, P (.field (PWR.QBOOK.COMMIT i).key))
    (h39 : ∀ i, P (.field (PWR.QBOOK.CONTRACT i).key)) (h40 : P (.field PWR.TOTCOM.COMMIT.key))
    (h41 : P (.field PWR.TOTCON.CONTRACT.key)) (h42 : ∀ i, P (.field (SWX.CNTA.STALE i).key)) (h43 : P .sw) :
    Only P s (t.amsRun n) := by
  unfold State.amsRun
  repeat' with_reducible first
    | assumption | apply Only.bump | apply Only.orBits | apply Only.modPort | apply Only.emit
    | apply State.hardReset_only | apply State.sendCaps_only | apply State.swapSend_only | apply h4 | apply h18
    | apply h20 | apply h21 | apply h38 | apply h39 | apply h42 | intro _ _ _ | intro _ _ | split

theorem State.notSupported_only
    (h : Only P s t) (n : Nat) (h1 : P .outs) :
    Only P s (t.notSupported n) := by
  unfold State.notSupported
  repeat' with_reducible first
    | assumption | apply Only.emit

theorem State.enterMode_only
    (h : Only P s t) (n svid pos : Nat) (h1 : P .outs) (h2 : P (.field (PRT.ALTMUX.ACTIVE n).key))
    (h3 : P (.field (PRT.ALTMUX.NAKCNT n).key)) (h4 : ∀ i, P (.field (PRT.ALTMUX.QBUSY i).key))
    (h5 : ∀ i, P (.field (PRT.ALTMUX.QHOLD i).key)) (h6 : P (.field (PRT.PDSTS.ALTMODE n).key))
    (h7 : P (.field (PRT.PDSTS.EVT n).key)) :
    Only P s (t.enterMode n svid pos) := by
  unfold State.enterMode
  repeat' with_reducible first
    | assumption | apply Only.raise | apply Only.bump | apply Only.orBits | apply Only.emit
    | apply State.setQuadHold_only | apply h4 | apply h5 | intro _ _ _ | intro _ _ | split

theorem State.exitMode_only
    (h : Only P s t) (n svid : Nat) (h1 : P .outs) (h2 : P (.port n)) (h3 : P (.field (PRT.ALTMUX.ACTIVE n).key))
    (h4 : ∀ i, P (.field (PRT.ALTMUX.QBUSY i).key)) (h5 : ∀ i, P (.field (PRT.ALTMUX.QHOLD i).key))
    (h6 : P (.field (PRT.PDSTS.ALTMODE n).key)) (h7 : P (.field (PRT.PDSTS.EVT n).key)) :
    Only P s (t.exitMode n svid) := by
  unfold State.exitMode
  repeat' with_reducible first
    | assumption | apply Only.modPort | apply Only.emit | apply State.modeExit_only | apply h4 | apply h5
    | intro _ _ _ | intro _ _ | split

theorem State.vconnSwapRx_only
    (h : Only P s t) (n : Nat) (h1 : P .outs) (h2 : P (.port n)) (h3 : P (.field (PRT.IBUSMEAS.ISET n).key))
    (h4 : P (.field (PRT.PDSTS.EVT n).key)) (h5 : P (.field (PRT.PDSTS.VCSRC n).key))
    (h6 : P (.field (PRT.TCSTS.RPADV n).key)) (h7 : P (.field (PRT.VCONN.ON n).key))
    (h8 : P (.field (PRT.VCONN.PIN n).key)) (h9 : P (.field (PRT.VCONN.SWAPCNT n).key))
    (h10 : P (.field (PWR.PBOOK.COMMIT n).key)) (h11 : P (.field (PWR.PBOOK.CONTRACT n).key))
    (h12 : ∀ i, P (.field (PWR.QBOOK.COMMIT i).key)) (h13 : ∀ i, P (.field (PWR.QBOOK.CONTRACT i).key))
    (h14 : P (.field PWR.TOTCOM.COMMIT.key)) (h15 : P (.field PWR.TOTCON.CONTRACT.key)) :
    Only P s (t.vconnSwapRx n) := by
  unfold State.vconnSwapRx
  repeat' with_reducible first
    | assumption | apply Only.modPort | apply Only.emit | apply State.rpSettle_only | apply State.swapBecome_only
    | apply h12 | apply h13 | intro _ _ _ | intro _ _ | split | apply Only.upd | exact .inr rfl

theorem State.answer_only
    (h : Only P s t) (n : Nat) (m : PdRx) (h1 : P .copies) (h2 : P .edgeDue) (h3 : P .outs) (h4 : ∀ i, P (.port i))
    (h5 : P (.field LDS.CHG0.P00_P31.key)) (h6 : P (.field LDS.CHG1.P32_P47.key))
    (h7 : P (.field (LDS.RSUM.HBUSED n).key)) (h8 : P (.field (LDS.RSUM.IDVALID n).key))
    (h9 : P (.field (LDS.RSUM.PROFILE n).key)) (h10 : P (.field (LDS.RSUM.RESULT n).key))
    (h11 : P (.field (LDS.RSUM.STATE n).key)) (h12 : P (.field PKM.FENCE.FALLBACK.key))
    (h13 : P (.field PKM.FREESTS.WAS.key)) (h14 : P (.field PKM.GCNT0.FREE.key))
    (h15 : P (.field PKM.GCNT0.QUEUED.key)) (h16 : P (.field PKM.GCNT1.INFLIGHT.key))
    (h17 : P (.field PKM.GCNT2.POOLFREE.key)) (h18 : ∀ i, P (.field (PKM.IQPTR.RPTR i).key))
    (h19 : P (.field (PRT.ALTMUX.ACTIVE n).key)) (h20 : P (.field (PRT.ALTMUX.NAKCNT n).key))
    (h21 : ∀ i, P (.field (PRT.ALTMUX.QBUSY i).key)) (h22 : ∀ i, P (.field (PRT.ALTMUX.QHOLD i).key))
    (h23 : P (.field (PRT.IBUSMEAS.ISET n).key)) (h24 : P (.field (PRT.OWNER.OWN n).key))
    (h25 : P (.field (PRT.OWNER.STATE n).key)) (h26 : P (.field (PRT.PDCNT.HRRCVD n).key))
    (h27 : P (.field (PRT.PDCNT.HRSENT n).key)) (h28 : P (.field (PRT.PDCNT.REJECTS n).key))
    (h29 : P (.field (PRT.PDSTS.ALTMODE n).key)) (h30 : P (.field (PRT.PDSTS.CABLE n).key))
    (h31 : P (.field (PRT.PDSTS.EVT n).key)) (h32 : P (.field (PRT.PDSTS.EXPLICIT n).key))
    (h33 : P (.field (PRT.PDSTS.OBJPOS n).key)) (h34 : P (.field (PRT.PDSTS.OPCURR n).key))
    (h35 : P (.field (PRT.PDSTS.REV n).key)) (h36 : P (.field (PRT.PDSTS.VCSRC n).key))
    (h37 : P (.field (PRT.PDSTS.VSEL n).key)) (h38 : P (.field (PRT.TCSTS.RPADV n).key))
    (h39 : P (.field (PRT.VCONN.ON n).key)) (h40 : P (.field (PRT.VCONN.PIN n).key))
    (h41 : P (.field (PRT.VCONN.SWAPCNT n).key)) (h42 : P (.field PWR.CNT.REJECTS.key))
    (h43 : P (.field (PWR.PBOOK.COMMIT n).key)) (h44 : P (.field (PWR.PBOOK.CONTRACT n).key))
    (h45 : ∀ i, P (.field (PWR.QBOOK.COMMIT i).key)) (h46 : ∀ i, P (.field (PWR.QBOOK.CONTRACT i).key))
    (h47 : P (.field PWR.TOTCOM.COMMIT.key)) (h48 : P (.field PWR.TOTCON.CONTRACT.key))
    (h49 : ∀ i, P (.field (SWX.CNTA.STALE i).key)) (h50 : P .sw) :
    Only P s (t.answer n m) := by
  unfold State.answer
  repeat' with_reducible first
    | assumption | apply Only.wr | apply Only.orBits | apply Only.modPort | apply Only.emit
    | apply State.enterMode_only | apply State.evalRequest_only | apply State.exitMode_only
    | apply State.hardReset_only | apply State.notSupported_only | apply State.rpSettle_only
    | apply State.sendCaps_only | apply State.sopRun_only | apply State.swapBecome_only | apply State.swapDone_only
    | apply State.vconnOff_only | apply State.vconnSwapRx_only | apply h4 | apply h18 | apply h21 | apply h22
    | apply h45 | apply h46 | apply h49 | intro _ _ _ | intro _ _ | split

theorem State.answerSink_only
    (h : Only P s t) (n : Nat) (m : PdRx) (h1 : P .copies) (h2 : P .edgeDue) (h3 : P .outs) (h4 : ∀ i, P (.port i))
    (h5 : P (.field LDS.CHG0.P00_P31.key)) (h6 : P (.field LDS.CHG1.P32_P47.key))
    (h7 : P (.field (LDS.RSUM.HBUSED n).key)) (h8 : P (.field (LDS.RSUM.IDVALID n).key))
    (h9 : P (.field (LDS.RSUM.PROFILE n).key)) (h10 : P (.field (LDS.RSUM.RESULT n).key))
    (h11 : P (.field (LDS.RSUM.STATE n).key)) (h12 : P (.field PKM.FENCE.FALLBACK.key))
    (h13 : P (.field PKM.FREESTS.WAS.key)) (h14 : P (.field PKM.GCNT0.FREE.key))
    (h15 : P (.field PKM.GCNT0.QUEUED.key)) (h16 : P (.field PKM.GCNT1.INFLIGHT.key))
    (h17 : P (.field PKM.GCNT2.POOLFREE.key)) (h18 : ∀ i, P (.field (PKM.IQPTR.RPTR i).key))
    (h19 : P (.field (PRT.ALTMUX.ACTIVE n).key)) (h20 : ∀ i, P (.field (PRT.ALTMUX.QBUSY i).key))
    (h21 : ∀ i, P (.field (PRT.ALTMUX.QHOLD i).key)) (h22 : P (.field (PRT.IBUSMEAS.ISET n).key))
    (h23 : P (.field (PRT.OWNER.OWN n).key)) (h24 : P (.field (PRT.OWNER.STATE n).key))
    (h25 : P (.field (PRT.PDCNT.HRRCVD n).key)) (h26 : P (.field (PRT.PDCNT.HRSENT n).key))
    (h27 : P (.field (PRT.PDSTS.ALTMODE n).key)) (h28 : P (.field (PRT.PDSTS.EVT n).key))
    (h29 : P (.field (PRT.PDSTS.EXPLICIT n).key)) (h30 : P (.field (PRT.PDSTS.OBJPOS n).key))
    (h31 : P (.field (PRT.PDSTS.OPCURR n).key)) (h32 : P (.field (PRT.PDSTS.VCSRC n).key))
    (h33 : P (.field (PRT.PDSTS.VSEL n).key)) (h34 : P (.field (PRT.TCSTS.RPADV n).key))
    (h35 : P (.field (PRT.VCONN.ON n).key)) (h36 : P (.field (PRT.VCONN.PIN n).key))
    (h37 : P (.field (PRT.VCONN.SWAPCNT n).key)) (h38 : P (.field (PWR.PBOOK.COMMIT n).key))
    (h39 : P (.field (PWR.PBOOK.CONTRACT n).key)) (h40 : ∀ i, P (.field (PWR.QBOOK.COMMIT i).key))
    (h41 : ∀ i, P (.field (PWR.QBOOK.CONTRACT i).key)) (h42 : P (.field PWR.TOTCOM.COMMIT.key))
    (h43 : P (.field PWR.TOTCON.CONTRACT.key)) (h44 : ∀ i, P (.field (SWX.CNTA.STALE i).key)) (h45 : P .sw) :
    Only P s (t.answerSink n m) := by
  unfold State.answerSink
  repeat' with_reducible first
    | assumption | apply Only.emit | apply State.hardReset_only | apply State.notSupported_only
    | apply State.swapDone_only | apply State.vconnOff_only | apply State.vconnSwapRx_only | apply h4 | apply h18
    | apply h20 | apply h21 | apply h40 | apply h41 | apply h44 | intro _ _ _ | intro _ _ | split

theorem State.handle_only
    (h : Only P s t) (n : Nat) (m : PdRx) (h1 : P .copies) (h2 : P .edgeDue) (h3 : P .outs) (h4 : ∀ i, P (.port i))
    (h5 : P (.field LDS.CHG0.P00_P31.key)) (h6 : P (.field LDS.CHG1.P32_P47.key))
    (h7 : P (.field (LDS.RSUM.HBUSED n).key)) (h8 : P (.field (LDS.RSUM.IDVALID n).key))
    (h9 : P (.field (LDS.RSUM.PROFILE n).key)) (h10 : P (.field (LDS.RSUM.RESULT n).key))
    (h11 : P (.field (LDS.RSUM.STATE n).key)) (h12 : P (.field PKM.FENCE.FALLBACK.key))
    (h13 : P (.field PKM.FREESTS.WAS.key)) (h14 : P (.field PKM.GCNT0.FREE.key))
    (h15 : P (.field PKM.GCNT0.QUEUED.key)) (h16 : P (.field PKM.GCNT1.INFLIGHT.key))
    (h17 : P (.field PKM.GCNT2.POOLFREE.key)) (h18 : ∀ i, P (.field (PKM.IQPTR.RPTR i).key))
    (h19 : P (.field (PRT.ALTMUX.ACTIVE n).key)) (h20 : P (.field (PRT.ALTMUX.NAKCNT n).key))
    (h21 : ∀ i, P (.field (PRT.ALTMUX.QBUSY i).key)) (h22 : ∀ i, P (.field (PRT.ALTMUX.QHOLD i).key))
    (h23 : P (.field (PRT.IBUSMEAS.ISET n).key)) (h24 : P (.field (PRT.OWNER.OWN n).key))
    (h25 : P (.field (PRT.OWNER.STATE n).key)) (h26 : P (.field (PRT.PDCNT.HRRCVD n).key))
    (h27 : P (.field (PRT.PDCNT.HRSENT n).key)) (h28 : P (.field (PRT.PDCNT.REJECTS n).key))
    (h29 : P (.field (PRT.PDSTS.ALTMODE n).key)) (h30 : P (.field (PRT.PDSTS.CABLE n).key))
    (h31 : P (.field (PRT.PDSTS.EVT n).key)) (h32 : P (.field (PRT.PDSTS.EXPLICIT n).key))
    (h33 : P (.field (PRT.PDSTS.OBJPOS n).key)) (h34 : P (.field (PRT.PDSTS.OPCURR n).key))
    (h35 : P (.field (PRT.PDSTS.REV n).key)) (h36 : P (.field (PRT.PDSTS.VCSRC n).key))
    (h37 : P (.field (PRT.PDSTS.VSEL n).key)) (h38 : P (.field (PRT.TCSTS.RPADV n).key))
    (h39 : P (.field (PRT.VCONN.ON n).key)) (h40 : P (.field (PRT.VCONN.PIN n).key))
    (h41 : P (.field (PRT.VCONN.SWAPCNT n).key)) (h42 : P (.field PWR.CNT.REJECTS.key))
    (h43 : P (.field (PWR.PBOOK.COMMIT n).key)) (h44 : P (.field (PWR.PBOOK.CONTRACT n).key))
    (h45 : ∀ i, P (.field (PWR.QBOOK.COMMIT i).key)) (h46 : ∀ i, P (.field (PWR.QBOOK.CONTRACT i).key))
    (h47 : P (.field PWR.TOTCOM.COMMIT.key)) (h48 : P (.field PWR.TOTCON.CONTRACT.key))
    (h49 : ∀ i, P (.field (SWX.CNTA.STALE i).key)) (h50 : P .sw) :
    Only P s (t.handle n m) := by
  unfold State.handle
  repeat' with_reducible first
    | assumption | apply State.answer_only | apply State.answerSink_only | apply State.hardReset_only | apply h4
    | apply h18 | apply h21 | apply h22 | apply h45 | apply h46 | apply h49 | intro _ _ _ | intro _ _ | split

theorem State.receive_only
    (h : Only P s t) (n : Nat) (m : PdRx) (h1 : P .copies) (h2 : P .edgeDue) (h3 : P .outs) (h4 : ∀ i, P (.port i))
    (h5 : P (.field LDS.CHG0.P00_P31.key)) (h6 : P (.field LDS.CHG1.P32_P47.key))
    (h7 : P (.field (LDS.RSUM.HBUSED n).key)) (h8 : P (.field (LDS.RSUM.IDVALID n).key))
    (h9 : P (.field (LDS.RSUM.PROFILE n).key)) (h10 : P (.field (LDS.RSUM.RESULT n).key))
    (h11 : P (.field (LDS.RSUM.STATE n).key)) (h12 : P (.field PKM.FENCE.FALLBACK.key))
    (h13 : P (.field PKM.FREESTS.WAS.key)) (h14 : P (.field PKM.GCNT0.FREE.key))
    (h15 : P (.field PKM.GCNT0.QUEUED.key)) (h16 : P (.field PKM.GCNT1.INFLIGHT.key))
    (h17 : P (.field PKM.GCNT2.POOLFREE.key)) (h18 : ∀ i, P (.field (PKM.IQPTR.RPTR i).key))
    (h19 : P (.field (PRT.ALTMUX.ACTIVE n).key)) (h20 : P (.field (PRT.ALTMUX.NAKCNT n).key))
    (h21 : ∀ i, P (.field (PRT.ALTMUX.QBUSY i).key)) (h22 : ∀ i, P (.field (PRT.ALTMUX.QHOLD i).key))
    (h23 : P (.field (PRT.IBUSMEAS.ISET n).key)) (h24 : P (.field (PRT.OWNER.OWN n).key))
    (h25 : P (.field (PRT.OWNER.STATE n).key)) (h26 : P (.field (PRT.PDCNT.HRRCVD n).key))
    (h27 : P (.field (PRT.PDCNT.HRSENT n).key)) (h28 : P (.field (PRT.PDCNT.REJECTS n).key))
    (h29 : P (.field (PRT.PDSTS.ALTMODE n).key)) (h30 : P (.field (PRT.PDSTS.CABLE n).key))
    (h31 : P (.field (PRT.PDSTS.EVT n).key)) (h32 : P (.field (PRT.PDSTS.EXPLICIT n).key))
    (h33 : P (.field (PRT.PDSTS.OBJPOS n).key)) (h34 : P (.field (PRT.PDSTS.OPCURR n).key))
    (h35 : P (.field (PRT.PDSTS.REV n).key)) (h36 : P (.field (PRT.PDSTS.VCSRC n).key))
    (h37 : P (.field (PRT.PDSTS.VSEL n).key)) (h38 : P (.field (PRT.TCSTS.RPADV n).key))
    (h39 : P (.field (PRT.VCONN.ON n).key)) (h40 : P (.field (PRT.VCONN.PIN n).key))
    (h41 : P (.field (PRT.VCONN.SWAPCNT n).key)) (h42 : P (.field PWR.CNT.REJECTS.key))
    (h43 : P (.field (PWR.PBOOK.COMMIT n).key)) (h44 : P (.field (PWR.PBOOK.CONTRACT n).key))
    (h45 : ∀ i, P (.field (PWR.QBOOK.COMMIT i).key)) (h46 : ∀ i, P (.field (PWR.QBOOK.CONTRACT i).key))
    (h47 : P (.field PWR.TOTCOM.COMMIT.key)) (h48 : P (.field PWR.TOTCON.CONTRACT.key))
    (h49 : ∀ i, P (.field (SWX.CNTA.STALE i).key)) (h50 : P .sw) :
    Only P s (t.receive n m) := by
  unfold State.receive
  repeat' with_reducible first
    | assumption | apply Only.modPort | apply Only.emit | apply State.handle_only | apply State.hardReset_only
    | apply h4 | apply h18 | apply h21 | apply h22 | apply h45 | apply h46 | apply h49 | intro _ _ _ | intro _ _
    | split

theorem State.deliverStored_only
    (h : Only P s t) (n : Nat) (h1 : P .copies) (h2 : P .edgeDue) (h3 : P .outs) (h4 : ∀ i, P (.port i))
    (h5 : P (.field LDS.CHG0.P00_P31.key)) (h6 : P (.field LDS.CHG1.P32_P47.key))
    (h7 : P (.field (LDS.RSUM.HBUSED n).key)) (h8 : P (.field (LDS.RSUM.IDVALID n).key))
    (h9 : P (.field (LDS.RSUM.PROFILE n).key)) (h10 : P (.field (LDS.RSUM.RESULT n).key))
    (h11 : P (.field (LDS.RSUM.STATE n).key)) (h12 : P (.field PKM.FENCE.FALLBACK.key))
    (h13 : P (.field PKM.FREESTS.WAS.key)) (h14 : P (.field PKM.GCNT0.FREE.key))
    (h15 : P (.field PKM.GCNT0.QUEUED.key)) (h16 : P (.field PKM.GCNT1.INFLIGHT.key))
    (h17 : P (.field PKM.GCNT2.POOLFREE.key)) (h18 : ∀ i, P (.field (PKM.IQPTR.RPTR i).key))
    (h19 : P (.field (PRT.ALTMUX.ACTIVE n).key)) (h20 : P (.field (PRT.ALTMUX.NAKCNT n).key))
    (h21 : ∀ i, P (.field (PRT.ALTMUX.QBUSY i).key)) (h22 : ∀ i, P (.field (PRT.ALTMUX.QHOLD i).key))
    (h23 : P (.field (PRT.IBUSMEAS.ISET n).key)) (h24 : P (.field (PRT.OWNER.OWN n).key))
    (h25 : P (.field (PRT.OWNER.STATE n).key)) (h26 : P (.field (PRT.PDCNT.HRRCVD n).key))
    (h27 : P (.field (PRT.PDCNT.HRSENT n).key)) (h28 : P (.field (PRT.PDCNT.REJECTS n).key))
    (h29 : P (.field (PRT.PDSTS.ALTMODE n).key)) (h30 : P (.field (PRT.PDSTS.CABLE n).key))
    (h31 : P (.field (PRT.PDSTS.EVT n).key)) (h32 : P (.field (PRT.PDSTS.EXPLICIT n).key))
    (h33 : P (.field (PRT.PDSTS.OBJPOS n).key)) (h34 : P (.field (PRT.PDSTS.OPCURR n).key))
    (h35 : P (.field (PRT.PDSTS.REV n).key)) (h36 : P (.field (PRT.PDSTS.VCSRC n).key))
    (h37 : P (.field (PRT.PDSTS.VSEL n).key)) (h38 : P (.field (PRT.TCSTS.RPADV n).key))
    (h39 : P (.field (PRT.VCONN.ON n).key)) (h40 : P (.field (PRT.VCONN.PIN n).key))
    (h41 : P (.field (PRT.VCONN.SWAPCNT n).key)) (h42 : P (.field PWR.CNT.REJECTS.key))
    (h43 : P (.field (PWR.PBOOK.COMMIT n).key)) (h44 : P (.field (PWR.PBOOK.CONTRACT n).key))
    (h45 : ∀ i, P (.field (PWR.QBOOK.COMMIT i).key)) (h46 : ∀ i, P (.field (PWR.QBOOK.CONTRACT i).key))
    (h47 : P (.field PWR.TOTCOM.COMMIT.key)) (h48 : P (.field PWR.TOTCON.CONTRACT.key))
    (h49 : ∀ i, P (.field (SWX.CNTA.STALE i).key)) (h50 : P .sw) :
    Only P s (t.deliverStored n) := by
  unfold State.deliverStored
  repeat' with_reducible first
    | assumption | apply Only.foldl | apply Only.modPort | apply State.handle_only | apply h4 | apply h18
    | apply h21 | apply h22 | apply h45 | apply h46 | apply h49 | intro _ _ _

theorem State.attachSource_only
    (h : Only P s t) (n : Nat) (cc2 ra : Bool) (h1 : P (.port n)) (h2 : P (.field (PRT.TCEVT.ATTACH n).key))
    (h3 : P (.field (PRT.TCSTS.LEAKMIN n).key)) (h4 : P (.field (PRT.TCSTS.MOISTOK n).key))
    (h5 : P (.field (PRT.TCSTS.ORIENT n).key)) (h6 : P (.field (PRT.TCSTS.TCSTATE n).key)) :
    Only P s (t.attachSource n cc2 ra) := by
  unfold State.attachSource
  repeat' with_reducible first
    | assumption | apply Only.wr | apply Only.raise | apply Only.modPort | apply State.tryApply_only

theorem State.upSink_only
    (h : Only P s t) (u : Nat) (h1 : P (.field (UPS.TCSTS.TCSTATE u).key)) (h2 : P (.up u)) :
    Only P s (t.upSink u) := by
  unfold State.upSink
  repeat' with_reducible first
    | assumption | apply Only.wr | apply Only.modUp

theorem State.upSeen_only
    (h : Only P s t) (u : Nat) (sight : Sys2Proof.CcSight) (h1 : P (.field (UPS.TCSTS.ORIENT u).key))
    (h2 : P (.field (UPS.TCSTS.RPSEEN u).key)) (h3 : P (.field (UPS.TCSTS.TCSTATE u).key)) (h4 : P (.up u)) :
    Only P s (t.upSeen u sight) := by
  unfold State.upSeen
  repeat' with_reducible first
    | assumption | apply Only.wr | apply Only.modUp | intro _ _ _ | intro _ _ | split

theorem State.upDebounced_only
    (h : Only P s t) (u : Nat) (h1 : P (.field (UPS.TCSTS.TCSTATE u).key)) (h2 : P (.up u)) :
    Only P s (t.upDebounced u) := by
  unfold State.upDebounced
  repeat' with_reducible first
    | assumption | apply Only.wr | apply Only.modUp | apply State.upSink_only | intro _ _ _ | intro _ _ | split

theorem State.upTryDebounced_only
    (h : Only P s t) (u : Nat) (cc2 : Bool) (cur : Nat) (h1 : P (.field (UPS.TCSTS.NOSRC u).key))
    (h2 : P (.field (UPS.TCSTS.ORIENT u).key)) (h3 : P (.field (UPS.TCSTS.RPSEEN u).key))
    (h4 : P (.field (UPS.TCSTS.TCSTATE u).key)) (h5 : P (.up u)) :
    Only P s (t.upTryDebounced u cc2 cur) := by
  unfold State.upTryDebounced
  repeat' with_reducible first
    | assumption | apply Only.wr | apply Only.raise | apply State.upSink_only | intro _ _ _ | intro _ _ | split

end Sys2Proof.Machine
end

