-- ==== Sys2Proof/Laws/OnlyHub.lean ====
section
/-! SUPPORT. One lemma per operation of hub requests, the personalities, the transaction translators and Meteor: what it
may change. -/

namespace Sys2Proof.Machine

variable {P : Part → Prop} {s t : State}

theorem State.enEffect_only
    (h : Only P s t) (u : Nat) (h1 : P .edgeDue) (h2 : P .freeCtr) (h3 : P (.mb u)) (h4 : P .outs)
    (h5 : ∀ i, P (.port i)) (h6 : P (.field BOOT.UPDSTS.BUSY.key)) (h7 : P (.field BOOT.UPDSTS.OWNER.key))
    (h8 : P (.field BOOT.UPDSTS.SESSION.key)) (h9 : P (.field LDS.CHG0.P00_P31.key))
    (h10 : P (.field LDS.CHG1.P32_P47.key)) (h11 : ∀ i, P (.field (LDS.RSUM.HBUSED i).key))
    (h12 : ∀ i, P (.field (LDS.RSUM.IDVALID i).key)) (h13 : ∀ i, P (.field (LDS.RSUM.PROFILE i).key))
    (h14 : ∀ i, P (.field (LDS.RSUM.RESULT i).key)) (h15 : ∀ i, P (.field (LDS.RSUM.STATE i).key))
    (h16 : P (.field MBX.BULK.HELD.key)) (h17 : P (.field MBX.BULK.HOLDER.key))
    (h18 : P (.field (MBX.CTRL.BUSY u).key)) (h19 : P (.field (MBX.CTRL.VALID u).key))
    (h20 : P (.field PKM.FENCE.FALLBACK.key)) (h21 : P (.field PKM.FREESTS.WAS.key))
    (h22 : P (.field PKM.GCNT0.FREE.key)) (h23 : P (.field PKM.GCNT0.QUEUED.key))
    (h24 : P (.field PKM.GCNT1.INFLIGHT.key)) (h25 : P (.field PKM.GCNT2.POOLFREE.key))
    (h26 : ∀ i, P (.field (PKM.IQPTR.RPTR i).key)) (h27 : ∀ i, P (.field (PRT.ALTMUX.ACTIVE i).key))
    (h28 : ∀ i, P (.field (PRT.ALTMUX.QBUSY i).key)) (h29 : ∀ i, P (.field (PRT.ALTMUX.QHOLD i).key))
    (h30 : ∀ i, P (.field (PRT.FUSEVT.PGOFF i).key)) (h31 : ∀ i, P (.field (PRT.FUSSTS.FOLD i).key))
    (h32 : ∀ i, P (.field (PRT.FUSSTS.GATEON i).key)) (h33 : ∀ i, P (.field (PRT.FUSSTS.LIMIT i).key))
    (h34 : ∀ i, P (.field (PRT.FUSSTS.PG i).key)) (h35 : ∀ i, P (.field (PRT.HUBSTS.CONNECTION i).key))
    (h36 : ∀ i, P (.field (PRT.HUBSTS.ENABLE i).key)) (h37 : ∀ i, P (.field (PRT.HUBSTS.HIGHSPD i).key))
    (h38 : ∀ i, P (.field (PRT.HUBSTS.LOWSPD i).key)) (h39 : ∀ i, P (.field (PRT.HUBSTS.POWER i).key))
    (h40 : ∀ i, P (.field (PRT.HUBSTS.RESET i).key)) (h41 : ∀ i, P (.field (PRT.HUBSTS.STATE i).key))
    (h42 : ∀ i, P (.field (PRT.HUBSTS.SUSPEND i).key)) (h43 : ∀ i, P (.field (PRT.HUBSTS.TEST i).key))
    (h44 : ∀ i, P (.field (PRT.MTRCNT.DATAHIT i).key)) (h45 : ∀ i, P (.field (PRT.MTRCNT.NAKHIT i).key))
    (h46 : ∀ i, P (.field (PRT.MTRSTS.STRANDED i).key)) (h47 : ∀ i, P (.field (PRT.MTRSTS.WITHDRAWN i).key))
    (h48 : ∀ i, P (.field (PRT.PDSTS.ALTMODE i).key)) (h49 : ∀ i, P (.field (PRT.PDSTS.EVT i).key))
    (h50 : ∀ i, P (.field (PRT.PDSTS.EXPLICIT i).key)) (h51 : ∀ i, P (.field (PRT.PDSTS.OBJPOS i).key))
    (h52 : ∀ i, P (.field (PRT.PDSTS.OPCURR i).key)) (h53 : ∀ i, P (.field (PRT.PDSTS.PWRROLE i).key))
    (h54 : ∀ i, P (.field (PRT.PDSTS.VCSRC i).key)) (h55 : ∀ i, P (.field (PRT.PDSTS.VSEL i).key))
    (h56 : ∀ i, P (.field (PRT.QSTS.STOPPED i).key)) (h57 : ∀ i, P (.field (PRT.TCEVT.OOS i).key))
    (h58 : ∀ i, P (.field (PRT.TCEVT.WETOUT i).key)) (h59 : ∀ i, P (.field (PRT.TCSTS.MOISTOK i).key))
    (h60 : ∀ i, P (.field (PRT.TCSTS.OOS i).key)) (h61 : ∀ i, P (.field (PRT.TCSTS.ORIENT i).key))
    (h62 : ∀ i, P (.field (PRT.TCSTS.RPADV i).key)) (h63 : ∀ i, P (.field (PRT.TCSTS.TCSTATE i).key))
    (h64 : ∀ i, P (.field (PRT.TCSTS.WET i).key)) (h65 : ∀ i, P (.field (PRT.TCSTS.WETGND i).key))
    (h66 : ∀ i, P (.field (PRT.TCSTS.WETPIN i).key)) (h67 : ∀ i, P (.field (PRT.TCSTS.WETVBUS i).key))
    (h68 : ∀ i, P (.field (PRT.VCONN.ON i).key)) (h69 : ∀ i, P (.field (PWR.PALLOW.SHED i).key))
    (h70 : ∀ i, P (.field (PWR.PALLOW.WAIT i).key)) (h71 : ∀ i, P (.field (PWR.PBOOK.COMMIT i).key))
    (h72 : ∀ i, P (.field (PWR.PBOOK.CONTRACT i).key)) (h73 : ∀ i, P (.field (PWR.QBOOK.COMMIT i).key))
    (h74 : ∀ i, P (.field (PWR.QBOOK.CONTRACT i).key)) (h75 : P (.field PWR.TOTCOM.COMMIT.key))
    (h76 : P (.field PWR.TOTCON.CONTRACT.key)) (h77 : ∀ i, P (.field (SWX.CNTA.STALE i).key))
    (h78 : ∀ i, P (.field (SWX.CNTB.RLYWD i).key)) (h79 : P (.field (UPS.CNT0.ABORTCNT u).key))
    (h80 : P (.field (UPS.EVT.CTLABORT u).key)) (h81 : P (.field (UPS.STS.ADDR u).key))
    (h82 : P (.field (UPS.STS.ALTSET u).key)) (h83 : P (.field (UPS.STS.DEVSTATE u).key))
    (h84 : P (.field (UPS.STS.HS u).key)) (h85 : P (.field (UPS.STS.PULLUP u).key))
    (h86 : P (.field (UPS.STS.RWAKEEN u).key)) (h87 : P (.field (UPS.STS.STAGED u).key))
    (h88 : P (.field (UPS.STS.SUSP u).key)) (h89 : P .sw) (h90 : ∀ i, P (.up i)) (h91 : P .upd) :
    Only P s (t.enEffect u) := by
  unfold State.enEffect
  repeat' with_reducible first
    | assumption | apply State.attachPers_only | apply State.detachPers_only | apply h5 | apply h11 | apply h12
    | apply h13 | apply h14 | apply h15 | apply h26 | apply h27 | apply h28 | apply h29 | apply h30 | apply h31
    | apply h32 | apply h33 | apply h34 | apply h35 | apply h36 | apply h37 | apply h38 | apply h39 | apply h40
    | apply h41 | apply h42 | apply h43 | apply h44 | apply h45 | apply h46 | apply h47 | apply h48 | apply h49
    | apply h50 | apply h51 | apply h52 | apply h53 | apply h54 | apply h55 | apply h56 | apply h57 | apply h58
    | apply h59 | apply h60 | apply h61 | apply h62 | apply h63 | apply h64 | apply h65 | apply h66 | apply h67
    | apply h68 | apply h69 | apply h70 | apply h71 | apply h72 | apply h73 | apply h74 | apply h77 | apply h78
    | apply h90 | intro _ _ _ | intro _ _ | split

theorem State.almclrEffect_only
    (h : Only P s t) (n : Nat) (h1 : P (.port n)) (h2 : P (.field (PRT.MTRSTS.STRANDED n).key))
    (h3 : P (.field (PRT.MTRSTS.WITHDRAWN n).key)) :
    Only P s (t.almclrEffect n) := by
  unfold State.almclrEffect
  repeat' with_reducible first
    | assumption | apply State.almClear_only | apply State.withdrawAll_only

theorem State.almenEffect_only
    (h : Only P s t) (n : Nat) (h1 : P (.port n)) (h2 : P (.field (PRT.MTRSTS.STRANDED n).key))
    (h3 : P (.field (PRT.MTRSTS.WITHDRAWN n).key)) :
    Only P s (t.almenEffect n) := by
  unfold State.almenEffect
  repeat' with_reducible first
    | assumption | apply State.almclrEffect_only | intro _ _ _ | intro _ _ | split

theorem State.ans_only
    (h : Only P s t) (u : Nat) (ok : Bool) (h1 : P .outs) :
    Only P s (t.ans u ok) := by
  unfold State.ans
  repeat' with_reducible first
    | assumption | apply Only.emit

theorem State.dataAns_only
    (h : Only P s t) (u : Nat) (d : Option (List Byte)) (len : Nat) (h1 : P .outs) :
    Only P s (t.dataAns u d len) := by
  unfold State.dataAns
  repeat' with_reducible first
    | assumption | apply Only.emit

theorem State.newSetup_only
    (h : Only P s t) (u : Nat) (h1 : P (.field (UPS.CNT0.ABORTCNT u).key))
    (h2 : P (.field (UPS.EVT.CTLABORT u).key)) (h3 : P (.field (UPS.STS.STAGED u).key)) (h4 : P (.up u)) :
    Only P s (t.newSetup u) := by
  unfold State.newSetup
  repeat' with_reducible first
    | assumption | apply Only.modUp | apply State.ctlAbort_only

theorem State.stdReq_only
    (h : Only P s t) (u : Nat) (act : State → State) (rescue : State → State)
    (h_act : ∀ u, Only P s u → Only P s (act u)) (h_rescue : ∀ u, Only P s u → Only P s (rescue u))
    (h1 : P (.field (UPS.CNT0.ABORTCNT u).key)) (h2 : P (.field (UPS.EVT.CTLABORT u).key))
    (h3 : P (.field (UPS.STS.STAGED u).key)) (h4 : P .rescue) (h5 : P (.up u)) :
    Only P s (t.stdReq u act rescue) := by
  unfold State.stdReq
  repeat' with_reducible first
    | assumption | apply h_act | apply h_rescue | apply State.newSetup_only | intro _ _ _ | intro _ _ | split
    | apply Only.upd | exact .inr rfl | (left; assumption)

theorem State.getSts_only
    (h : Only P s t) (u len : Nat) (h1 : P .outs) (h2 : P (.field (UPS.CNT0.ABORTCNT u).key))
    (h3 : P (.field (UPS.EVT.CTLABORT u).key)) (h4 : P (.field (UPS.STS.STAGED u).key)) (h5 : P .rescue)
    (h6 : P (.up u)) :
    Only P s (t.getSts u len) := by
  unfold State.getSts
  repeat' with_reducible first
    | assumption | apply State.dataAns_only | apply State.stdReq_only | intro _ _ _ | intro _ _

theorem State.rescState_only
    (h : Only P s t) (d a : Nat) (h1 : P .rescue) :
    Only P s (t.rescState d a) := by
  unfold State.rescState
  repeat' with_reducible first
    | assumption | intro _ _ _ | intro _ _ | split | apply Only.upd | exact .inr rfl | (left; assumption)

theorem State.setAddr_only
    (h : Only P s t) (u a : Nat) (h1 : P .outs) (h2 : P (.field (UPS.CNT0.ABORTCNT u).key))
    (h3 : P (.field (UPS.EVT.CTLABORT u).key)) (h4 : P (.field (UPS.STS.ADDR u).key))
    (h5 : P (.field (UPS.STS.DEVSTATE u).key)) (h6 : P (.field (UPS.STS.STAGED u).key)) (h7 : P .rescue)
    (h8 : P (.up u)) :
    Only P s (t.setAddr u a) := by
  unfold State.setAddr
  repeat' with_reducible first
    | assumption | apply Only.wr | apply State.ans_only | apply State.rescState_only | apply State.stdReq_only
    | intro _ _ _ | intro _ _ | split

theorem State.setConfig_only
    (h : Only P s t) (u c : Nat) (h1 : P .edgeDue) (h2 : P .freeCtr) (h3 : P .outs) (h4 : ∀ i, P (.port i))
    (h5 : P (.field LDS.CHG0.P00_P31.key)) (h6 : P (.field LDS.CHG1.P32_P47.key))
    (h7 : ∀ i, P (.field (LDS.RSUM.HBUSED i).key)) (h8 : ∀ i, P (.field (LDS.RSUM.IDVALID i).key))
    (h9 : ∀ i, P (.field (LDS.RSUM.PROFILE i).key)) (h10 : ∀ i, P (.field (LDS.RSUM.RESULT i).key))
    (h11 : ∀ i, P (.field (LDS.RSUM.STATE i).key)) (h12 : P (.field PKM.FENCE.FALLBACK.key))
    (h13 : P (.field PKM.FREESTS.WAS.key)) (h14 : P (.field PKM.GCNT0.FREE.key))
    (h15 : P (.field PKM.GCNT0.QUEUED.key)) (h16 : P (.field PKM.GCNT1.INFLIGHT.key))
    (h17 : P (.field PKM.GCNT2.POOLFREE.key)) (h18 : ∀ i, P (.field (PKM.IQPTR.RPTR i).key))
    (h19 : ∀ i, P (.field (PRT.ALTMUX.ACTIVE i).key)) (h20 : ∀ i, P (.field (PRT.ALTMUX.QBUSY i).key))
    (h21 : ∀ i, P (.field (PRT.ALTMUX.QHOLD i).key)) (h22 : ∀ i, P (.field (PRT.FUSEVT.PGOFF i).key))
    (h23 : ∀ i, P (.field (PRT.FUSSTS.FOLD i).key)) (h24 : ∀ i, P (.field (PRT.FUSSTS.GATEON i).key))
    (h25 : ∀ i, P (.field (PRT.FUSSTS.LIMIT i).key)) (h26 : ∀ i, P (.field (PRT.FUSSTS.PG i).key))
    (h27 : ∀ i, P (.field (PRT.HUBSTS.CONNECTION i).key)) (h28 : ∀ i, P (.field (PRT.HUBSTS.ENABLE i).key))
    (h29 : ∀ i, P (.field (PRT.HUBSTS.HIGHSPD i).key)) (h30 : ∀ i, P (.field (PRT.HUBSTS.LOWSPD i).key))
    (h31 : ∀ i, P (.field (PRT.HUBSTS.POWER i).key)) (h32 : ∀ i, P (.field (PRT.HUBSTS.RESET i).key))
    (h33 : ∀ i, P (.field (PRT.HUBSTS.STATE i).key)) (h34 : ∀ i, P (.field (PRT.HUBSTS.SUSPEND i).key))
    (h35 : ∀ i, P (.field (PRT.HUBSTS.TEST i).key)) (h36 : ∀ i, P (.field (PRT.MTRCNT.DATAHIT i).key))
    (h37 : ∀ i, P (.field (PRT.MTRCNT.NAKHIT i).key)) (h38 : ∀ i, P (.field (PRT.MTRSTS.STRANDED i).key))
    (h39 : ∀ i, P (.field (PRT.MTRSTS.WITHDRAWN i).key)) (h40 : ∀ i, P (.field (PRT.PDSTS.ALTMODE i).key))
    (h41 : ∀ i, P (.field (PRT.PDSTS.EVT i).key)) (h42 : ∀ i, P (.field (PRT.PDSTS.EXPLICIT i).key))
    (h43 : ∀ i, P (.field (PRT.PDSTS.OBJPOS i).key)) (h44 : ∀ i, P (.field (PRT.PDSTS.OPCURR i).key))
    (h45 : ∀ i, P (.field (PRT.PDSTS.PWRROLE i).key)) (h46 : ∀ i, P (.field (PRT.PDSTS.VCSRC i).key))
    (h47 : ∀ i, P (.field (PRT.PDSTS.VSEL i).key)) (h48 : ∀ i, P (.field (PRT.QSTS.STOPPED i).key))
    (h49 : ∀ i, P (.field (PRT.TCEVT.OOS i).key)) (h50 : ∀ i, P (.field (PRT.TCEVT.WETOUT i).key))
    (h51 : ∀ i, P (.field (PRT.TCSTS.MOISTOK i).key)) (h52 : ∀ i, P (.field (PRT.TCSTS.OOS i).key))
    (h53 : ∀ i, P (.field (PRT.TCSTS.ORIENT i).key)) (h54 : ∀ i, P (.field (PRT.TCSTS.RPADV i).key))
    (h55 : ∀ i, P (.field (PRT.TCSTS.TCSTATE i).key)) (h56 : ∀ i, P (.field (PRT.TCSTS.WET i).key))
    (h57 : ∀ i, P (.field (PRT.TCSTS.WETGND i).key)) (h58 : ∀ i, P (.field (PRT.TCSTS.WETPIN i).key))
    (h59 : ∀ i, P (.field (PRT.TCSTS.WETVBUS i).key)) (h60 : ∀ i, P (.field (PRT.VCONN.ON i).key))
    (h61 : ∀ i, P (.field (PWR.PALLOW.SHED i).key)) (h62 : ∀ i, P (.field (PWR.PALLOW.WAIT i).key))
    (h63 : ∀ i, P (.field (PWR.PBOOK.COMMIT i).key)) (h64 : ∀ i, P (.field (PWR.PBOOK.CONTRACT i).key))
    (h65 : ∀ i, P (.field (PWR.QBOOK.COMMIT i).key)) (h66 : ∀ i, P (.field (PWR.QBOOK.CONTRACT i).key))
    (h67 : P (.field PWR.TOTCOM.COMMIT.key)) (h68 : P (.field PWR.TOTCON.CONTRACT.key))
    (h69 : ∀ i, P (.field (SWX.CNTA.STALE i).key)) (h70 : ∀ i, P (.field (SWX.CNTB.RLYWD i).key))
    (h71 : P (.field (UPS.CNT0.ABORTCNT u).key)) (h72 : P (.field (UPS.EVT.CONFIG u).key))
    (h73 : P (.field (UPS.EVT.CTLABORT u).key)) (h74 : P (.field (UPS.STS.ALTSET u).key))
    (h75 : P (.field (UPS.STS.DEVSTATE u).key)) (h76 : P (.field (UPS.STS.STAGED u).key)) (h77 : P .rescue)
    (h78 : P .sw) (h79 : ∀ i, P (.up i)) :
    Only P s (t.setConfig u c) := by
  unfold State.setConfig
  repeat' with_reducible first
    | assumption | apply Only.wr | apply Only.raise | apply Only.modUp | apply State.ans_only
    | apply State.portResets_only | apply State.rescState_only | apply State.stdReq_only | apply h4 | apply h7
    | apply h8 | apply h9 | apply h10 | apply h11 | apply h18 | apply h19 | apply h20 | apply h21 | apply h22
    | apply h23 | apply h24 | apply h25 | apply h26 | apply h27 | apply h28 | apply h29 | apply h30 | apply h31
    | apply h32 | apply h33 | apply h34 | apply h35 | apply h36 | apply h37 | apply h38 | apply h39 | apply h40
    | apply h41 | apply h42 | apply h43 | apply h44 | apply h45 | apply h46 | apply h47 | apply h48 | apply h49
    | apply h50 | apply h51 | apply h52 | apply h53 | apply h54 | apply h55 | apply h56 | apply h57 | apply h58
    | apply h59 | apply h60 | apply h61 | apply h62 | apply h63 | apply h64 | apply h65 | apply h66 | apply h69
    | apply h70 | apply h79 | intro _ _ _ | intro _ _ | split | apply Only.upd | exact .inr rfl

theorem State.setIface_only
    (h : Only P s t) (u a : Nat) (h1 : P .outs) (h2 : ∀ i, P (.port i))
    (h3 : ∀ i, P (.field (PRT.QSTS.STOPPED i).key)) (h4 : P (.field (UPS.CNT0.ABORTCNT u).key))
    (h5 : P (.field (UPS.EVT.CONFIG u).key)) (h6 : P (.field (UPS.EVT.CTLABORT u).key))
    (h7 : P (.field (UPS.STS.ALTSET u).key)) (h8 : P (.field (UPS.STS.STAGED u).key)) (h9 : P .rescue)
    (h10 : P (.up u)) :
    Only P s (t.setIface u a) := by
  unfold State.setIface
  repeat' with_reducible first
    | assumption | apply Only.forEach | apply Only.wr | apply Only.raise | apply Only.modUp | apply State.ans_only
    | apply State.stdReq_only | apply State.ttReset_only | apply h2 | apply h3 | intro _ _ _ | intro _ _ | split

theorem State.testMode_only
    (h : Only P s t) (u sel : Nat) (h1 : P .outs) (h2 : P (.field (UPS.CNT0.ABORTCNT u).key))
    (h3 : P (.field (UPS.EVT.CTLABORT u).key)) (h4 : P (.field (UPS.STS.DEVSTATE u).key))
    (h5 : P (.field (UPS.STS.STAGED u).key)) (h6 : P .rescue) (h7 : P (.up u)) :
    Only P s (t.testMode u sel) := by
  have hn : Only P s (t.newSetup u) := (by apply State.newSetup_only h <;> with_reducible first | assumption | apply_assumption)
  have ha : ∀ b, Only P s ((t.newSetup u).ans u b) := fun b => (by apply State.ans_only hn <;> with_reducible first | assumption | apply_assumption)
  have hb : ∀ y b, Only P s y → Only P s (y.ans u b) := fun y b k => (by apply State.ans_only k <;> with_reducible first | assumption | apply_assumption)
  unfold State.testMode
  refine Only.ite ?_ (Only.ite ?_ h)
  · apply State.stdReq_only h
    all_goals first | with_reducible assumption | exact fun _ k => k | exact fun y k => hb y false k
  · refine Only.ite ?_ (ha false)
    apply Only.modUp
    · apply Only.emit
      · apply (ha true).wr
        with_reducible assumption
      · with_reducible assumption
    · with_reducible assumption

theorem State.takeSizes_only
    (h : Only P s t) (n : Nat) (l : List (Key × Nat)) (h1 : P (.port n)) :
    Only P s (t.takeSizes n l) := by
  unfold State.takeSizes
  repeat' with_reducible first
    | assumption | apply Only.modPort

theorem State.ctlDone_only
    (h : Only P s t) (u n adr : Nat) (r : Setup) (got : List Byte) (h1 : P .edgeDue) (h2 : P (.port n))
    (h3 : P (.field PKM.FENCE.FALLBACK.key)) (h4 : P (.field PKM.FREESTS.WAS.key))
    (h5 : P (.field PKM.GCNT0.FREE.key)) (h6 : P (.field PKM.GCNT0.QUEUED.key))
    (h7 : P (.field PKM.GCNT1.INFLIGHT.key)) (h8 : P (.field PKM.GCNT2.POOLFREE.key))
    (h9 : ∀ i, P (.field (PKM.IQPTR.RPTR i).key)) (h10 : P (.field (PRT.MTRSTS.STRANDED n).key))
    (h11 : P (.field (PRT.MTRSTS.WITHDRAWN n).key)) (h12 : ∀ i, P (.field (SWX.CNTB.RLYWD i).key)) (h13 : P .sw)
    (h14 : P (.up u)) :
    Only P s (t.ctlDone u n adr r got) := by
  unfold State.ctlDone
  repeat' with_reducible first
    | assumption | apply Only.modPort | apply Only.modUp | apply Only.setAlm | apply State.freeAddr_only
    | apply State.rtQueue_only | apply State.takeSizes_only | apply State.withdrawEntry_only
    | apply State.withdrawSlots_only | apply h9 | apply h12 | intro _ _ _ | intro _ _ | split | apply Only.upd
    | exact .inr rfl

theorem State.almMiss_only
    (h : Only P s t) (n i k : Nat) (h1 : P (.port n)) (h2 : P (.field (PRT.MTRSTS.STRANDED n).key)) :
    Only P s (t.almMiss n i k) := by
  unfold State.almMiss
  repeat' with_reducible first
    | assumption | apply Only.bump | apply Only.modPort | apply Only.setAlm | intro _ _ _ | intro _ _ | split
    | apply Only.upd | exact .inr rfl

theorem State.almWindow_only
    (h : Only P s t) (n i m : Nat) (h1 : P (.port n)) (h2 : P (.field (PRT.MTRSTS.NOFIT n).key)) :
    Only P s (t.almWindow n i m) := by
  unfold State.almWindow
  extract_lets e0 past e s1
  have st : ∀ y x, Only P s y → Only P s (y.setAlm n i x) := fun y x k => by
    apply k.setAlm
    with_reducible assumption
  have k1 : Only P s s1 := Only.ite (st _ _ h) h
  refine Only.ite k1 ?_
  extract_lets
  refine Only.ite (st _ _ k1) (Only.ite (st _ _ k1) (Only.ite (Only.ite ?_ (st _ _ k1)) k1))
  apply (st _ _ k1).bump
  with_reducible assumption

theorem State.portSof_only
    (h : Only P s t) (n m : Nat) (h1 : P (.port n)) (h2 : P (.field (PRT.MTRSTS.NOFIT n).key))
    (h3 : P (.field (PRT.MTRSTS.STRANDED n).key)) :
    Only P s (t.portSof n m) := by
  unfold State.portSof
  repeat' with_reducible first
    | assumption | apply Only.forEach | apply Only.modPort | apply State.almMiss_only | apply State.almWindow_only
    | intro _ _ _ | intro _ _ | split | apply Only.upd | exact .inr rfl

theorem State.sendLed_only
    (h : Only P s t) (i : Nat) (h1 : P .outs) (h2 : ∀ i, P (.field (PRT.HUBSTS.INDSHOWN i).key)) (h3 : P (.sec i)) :
    Only P s (t.sendLed i) := by
  unfold State.sendLed
  repeat' with_reducible first
    | assumption | apply Only.forEach | apply Only.wr | apply Only.modSec | apply Only.emit | apply h2 | intro _ _ _

theorem State.almSee_only
    (h : Only P s t) (n m : Nat) (k : Key) (iso low hub : Bool) (h1 : P (.port n))
    (h2 : P (.field (PRT.QSTS.ALMFULL n).key)) :
    Only P s (t.almSee n m k iso low hub) := by
  unfold State.almSee
  repeat' with_reducible first
    | assumption | apply Only.bump | apply Only.setAlm | apply Only.free | intro _ _ _ | intro _ _ | split
    | apply Only.upd | exact .inr rfl

theorem State.holdBegin_only
    (h : Only P s t) (n a ep m : Nat) (r : Setup) (h1 : P (.port n)) :
    Only P s (t.holdBegin n a ep m r) := by
  unfold State.holdBegin
  repeat' with_reducible first
    | assumption | apply Only.modPort

theorem State.holdTouch_only
    (h : Only P s t) (n a ep m : Nat) (h1 : P (.port n)) :
    Only P s (t.holdTouch n a ep m) := by
  unfold State.holdTouch
  repeat' with_reducible first
    | assumption | apply Only.modPort | intro _ _ _ | intro _ _ | split

theorem State.ctlAnswer_only
    (h : Only P s t) (u n : Nat) (bf : NpBuf) (h_ : Held) (h1 : P .edgeDue) (h2 : P (.port n))
    (h3 : P (.field PKM.FENCE.FALLBACK.key)) (h4 : P (.field PKM.FREESTS.WAS.key))
    (h5 : P (.field PKM.GCNT0.FREE.key)) (h6 : P (.field PKM.GCNT0.QUEUED.key))
    (h7 : P (.field PKM.GCNT1.INFLIGHT.key)) (h8 : P (.field PKM.GCNT2.POOLFREE.key))
    (h9 : ∀ i, P (.field (PKM.IQPTR.RPTR i).key)) (h10 : P (.field (PRT.MTRSTS.STRANDED n).key))
    (h11 : P (.field (PRT.MTRSTS.WITHDRAWN n).key)) (h12 : ∀ i, P (.field (SWX.CNTB.RLYWD i).key)) (h13 : P .sw)
    (h14 : P (.up u)) :
    Only P s (t.ctlAnswer u n bf h_) := by
  unfold State.ctlAnswer
  repeat' with_reducible first
    | assumption | apply Only.modPort | apply State.ctlDone_only | apply State.holdEnd_only | apply h9 | apply h12
    | intro _ _ _ | intro _ _ | split | apply Only.upd | exact .inr rfl

theorem State.wireFree_only
    (h : Only P s t) (n : Nat) (h1 : P (.port n)) (h2 : P (.field (PRT.QSTS.STOPPED n).key)) :
    Only P s (t.wireFree n) := by
  unfold State.wireFree
  repeat' with_reducible first
    | assumption | apply Only.raise | apply Only.modPort | apply State.mtrPause_only | intro _ _ _ | intro _ _
    | split

theorem State.stopTt_only
    (h : Only P s t) (n : Nat) (h1 : P (.port n)) (h2 : P (.field (PRT.QSTS.STOPPED n).key)) :
    Only P s (t.stopTt n) := by
  unfold State.stopTt
  repeat' with_reducible first
    | assumption | apply Only.modPort | apply State.wireFree_only

theorem State.badIn_only
    (h : Only P s t) (r : Nat) (h1 : P .freeCtr) (h2 : P (.field (SWX.CNTA.BADTAIL (cntIdx r)).key)) :
    Only P s (t.badIn r) := by
  unfold State.badIn
  repeat' with_reducible first
    | assumption | apply Only.bump | apply Only.free

theorem State.almToggle_only
    (h : Only P s t) (n : Nat) (k : Key) (pid : Nat) (h1 : P (.port n)) :
    Only P s (t.almToggle n k pid) := by
  unfold State.almToggle
  repeat' with_reducible first
    | assumption | apply Only.setAlm | intro _ _ _ | intro _ _ | split

theorem State.pipe_only
    (h : Only P s t) (n t_ : Nat) (l : List PerRec) (h1 : P .outs) (h2 : P (.port n))
    (h3 : P (.field (PRT.QSTS.LATECNT n).key)) :
    Only P s (t.pipe n t_ l) := by
  induction l generalizing t with
  | nil => exact h
  | cons a l ih =>
    unfold State.pipe
    repeat' with_reducible first
      | assumption | apply ih | exact h | apply Only.bump | apply Only.modPort | apply Only.emit
      | (intros; assumption) | intro _ _ _ | intro _ _ | split | apply Only.upd | exact .inr rfl | (left; assumption)
      | dsimp only | extract_lets

theorem State.clearTt_only
    (h : Only P s t) (n v : Nat) (h1 : P (.port n)) :
    Only P s (t.clearTt n v) := by
  unfold State.clearTt
  repeat' with_reducible first
    | assumption | apply Only.modPort | apply State.holdEnd_only | intro _ _ _ | intro _ _ | split | apply Only.upd
    | exact .inr rfl

theorem State.hubReq_only
    (h : Only P s t) (u : Nat) (inAddress : Bool) (act : State → State) (h_act : ∀ u, Only P s u → Only P s (act u))
    (h1 : P .outs) (h2 : P (.field (UPS.CNT0.ABORTCNT u).key)) (h3 : P (.field (UPS.EVT.CTLABORT u).key))
    (h4 : P (.field (UPS.STS.STAGED u).key)) (h5 : P (.up u)) :
    Only P s (t.hubReq u inAddress act) := by
  unfold State.hubReq
  repeat' with_reducible first
    | assumption | apply h_act | apply Only.emit | apply State.newSetup_only | intro _ _ _ | intro _ _ | split
    | dsimp only

theorem State.ttReq_only
    (h : Only P s t) (u i : Nat) (own : State → Nat → State) (all : State → State)
    (h_own : ∀ u k, Only P s u → Only P s (own u k)) (h_all : ∀ u, Only P s u → Only P s (all u)) (h1 : P .outs)
    (h2 : P (.field (UPS.CNT0.ABORTCNT u).key)) (h3 : P (.field (UPS.EVT.CTLABORT u).key))
    (h4 : P (.field (UPS.STS.STAGED u).key)) (h5 : P (.up u)) :
    Only P s (t.ttReq u i own all) := by
  unfold State.ttReq
  repeat' with_reducible first
    | assumption | apply h_own | apply h_all | apply Only.emit | apply State.hubReq_only | intro _ _ _ | intro _ _
    | split

theorem State.portReq_only
    (h : Only P s t) (u i : Nat) (bad : Bool) (own other : State → Nat → State)
    (h_own : ∀ u k, Only P s u → Only P s (own u k)) (h_other : ∀ u k, Only P s u → Only P s (other u k))
    (h1 : P .outs) (h2 : P (.field (UPS.CNT0.ABORTCNT u).key)) (h3 : P (.field (UPS.EVT.CTLABORT u).key))
    (h4 : P (.field (UPS.STS.STAGED u).key)) (h5 : P (.up u)) :
    Only P s (t.portReq u i bad own other) := by
  unfold State.portReq
  repeat' with_reducible first
    | assumption | apply h_own | apply h_other | apply Only.emit | apply State.hubReq_only | intro _ _ _ | intro _ _
    | split

theorem State.polledOutcome_only
    (h : Only P s t) (n : Nat) (key : Key) (mode : Nat) (h_ : Option Held) (d : Dev) (h1 : P (.port n)) :
    Only P s (t.polledOutcome n key mode h_ d) := by
  unfold State.polledOutcome
  repeat' with_reducible first
    | assumption | apply Only.modPort

theorem State.driveK_only
    (h : Only P s t) (n : Nat) (h1 : P .outs) (h2 : P (.port n)) (h3 : P (.field (PRT.HUBSTS.ENABLE n).key))
    (h4 : P (.field (PRT.HUBSTS.RESET n).key)) (h5 : P (.field (PRT.HUBSTS.STATE n).key))
    (h6 : P (.field (PRT.HUBSTS.SUSPEND n).key)) (h7 : P (.field (PRT.HUBSTS.TEST n).key)) :
    Only P s (t.driveK n) := by
  unfold State.driveK
  repeat' with_reducible first
    | assumption | apply Only.modPort | apply Only.emit | apply State.leaveTo_only

theorem State.partResume_only
    (h : Only P s t) (u : Nat) (h1 : P .outs) (h2 : ∀ i, P (.port i))
    (h3 : ∀ i, P (.field (PRT.HUBSTS.ENABLE i).key)) (h4 : ∀ i, P (.field (PRT.HUBSTS.RESET i).key))
    (h5 : ∀ i, P (.field (PRT.HUBSTS.STATE i).key)) (h6 : ∀ i, P (.field (PRT.HUBSTS.SUSPEND i).key))
    (h7 : ∀ i, P (.field (PRT.HUBSTS.TEST i).key)) :
    Only P s (t.partResume u) := by
  unfold State.partResume
  repeat' with_reducible first
    | assumption | apply Only.forEach | apply State.driveK_only | apply State.setHub_only | apply h2 | apply h3
    | apply h4 | apply h5 | apply h6 | apply h7 | intro _ _ _

theorem State.startReset_only
    (h : Only P s t) (n : Nat) (h1 : P .edgeDue) (h2 : P .outs) (h3 : ∀ i, P (.port i))
    (h4 : P (.field PKM.FENCE.FALLBACK.key)) (h5 : P (.field PKM.FREESTS.WAS.key))
    (h6 : P (.field PKM.GCNT0.FREE.key)) (h7 : P (.field PKM.GCNT0.QUEUED.key))
    (h8 : P (.field PKM.GCNT1.INFLIGHT.key)) (h9 : P (.field PKM.GCNT2.POOLFREE.key))
    (h10 : ∀ i, P (.field (PKM.IQPTR.RPTR i).key)) (h11 : P (.field (PRT.HUBSTS.ENABLE n).key))
    (h12 : P (.field (PRT.HUBSTS.HIGHSPD n).key)) (h13 : P (.field (PRT.HUBSTS.RESET n).key))
    (h14 : P (.field (PRT.HUBSTS.STATE n).key)) (h15 : P (.field (PRT.HUBSTS.SUSPEND n).key))
    (h16 : P (.field (PRT.HUBSTS.TEST n).key)) (h17 : P (.field (PRT.MTRCNT.DATAHIT n).key))
    (h18 : P (.field (PRT.MTRCNT.NAKHIT n).key)) (h19 : P (.field (PRT.MTRSTS.STRANDED n).key))
    (h20 : P (.field (PRT.MTRSTS.WITHDRAWN n).key)) (h21 : P (.field (PRT.QSTS.STOPPED n).key))
    (h22 : ∀ i, P (.field (SWX.CNTA.STALE i).key)) (h23 : ∀ i, P (.field (SWX.CNTB.RLYWD i).key)) (h24 : P .sw)
    (h25 : ∀ i, P (.up i)) :
    Only P s (t.startReset n) := by
  unfold State.startReset
  repeat' with_reducible first
    | assumption | apply Only.wr | apply Only.modPort | apply Only.emit | apply State.relayReset_only
    | apply State.rtDropOwner_only | apply State.setHub_only | apply State.ttAndAlmanac_only | apply h3

theorem State.startResume_only
    (h : Only P s t) (n : Nat) (h1 : P .outs) (h2 : P (.field (PRT.HUBSTS.ENABLE n).key))
    (h3 : P (.field (PRT.HUBSTS.RESET n).key)) (h4 : P (.field (PRT.HUBSTS.STATE n).key))
    (h5 : P (.field (PRT.HUBSTS.SUSPEND n).key)) (h6 : P (.field (PRT.HUBSTS.TEST n).key)) :
    Only P s (t.startResume n) := by
  unfold State.startResume
  repeat' with_reducible first
    | assumption | apply Only.emit | apply State.setHub_only | intro _ _ _ | intro _ _ | split

theorem State.hubAct_only
    (h : Only P s t) (n : Nat) (a : HubAct) (h1 : P .edgeDue) (h2 : P .outs) (h3 : ∀ i, P (.port i))
    (h4 : P (.field PKM.FENCE.FALLBACK.key)) (h5 : P (.field PKM.FREESTS.WAS.key))
    (h6 : P (.field PKM.GCNT0.FREE.key)) (h7 : P (.field PKM.GCNT0.QUEUED.key))
    (h8 : P (.field PKM.GCNT1.INFLIGHT.key)) (h9 : P (.field PKM.GCNT2.POOLFREE.key))
    (h10 : ∀ i, P (.field (PKM.IQPTR.RPTR i).key)) (h11 : P (.field (PRT.HUBSTS.ENABLE n).key))
    (h12 : P (.field (PRT.HUBSTS.HIGHSPD n).key)) (h13 : P (.field (PRT.HUBSTS.RESET n).key))
    (h14 : P (.field (PRT.HUBSTS.STATE n).key)) (h15 : P (.field (PRT.HUBSTS.SUSPEND n).key))
    (h16 : P (.field (PRT.HUBSTS.TEST n).key)) (h17 : P (.field (PRT.HUBSTS.TESTSEL n).key))
    (h18 : P (.field (PRT.MTRCNT.DATAHIT n).key)) (h19 : P (.field (PRT.MTRCNT.NAKHIT n).key))
    (h20 : P (.field (PRT.MTRSTS.STRANDED n).key)) (h21 : P (.field (PRT.MTRSTS.WITHDRAWN n).key))
    (h22 : P (.field (PRT.QSTS.STOPPED n).key)) (h23 : ∀ i, P (.field (SWX.CNTA.STALE i).key))
    (h24 : ∀ i, P (.field (SWX.CNTB.RLYWD i).key)) (h25 : P .sw) (h26 : ∀ i, P (.up i)) :
    Only P s (t.hubAct n a) := by
  unfold State.hubAct
  repeat' with_reducible first
    | assumption | apply Only.wr | apply Only.modPort | apply Only.emit | apply State.leaveTo_only
    | apply State.setHub_only | apply State.startReset_only | apply State.startResume_only
    | apply State.testMode_only | apply State.ttReset_only | apply h3 | apply h10 | apply h23 | apply h24
    | apply h26 | intro _ _ _ | intro _ _ | split | apply Only.upd | exact .inr rfl

theorem State.hubDo_only
    (h : Only P s t) (n : Nat) (a : HubAct) (h1 : P .edgeDue) (h2 : P .outs) (h3 : ∀ i, P (.port i))
    (h4 : P (.field PKM.FENCE.FALLBACK.key)) (h5 : P (.field PKM.FREESTS.WAS.key))
    (h6 : P (.field PKM.GCNT0.FREE.key)) (h7 : P (.field PKM.GCNT0.QUEUED.key))
    (h8 : P (.field PKM.GCNT1.INFLIGHT.key)) (h9 : P (.field PKM.GCNT2.POOLFREE.key))
    (h10 : ∀ i, P (.field (PKM.IQPTR.RPTR i).key)) (h11 : P (.field (PRT.HUBSTS.ENABLE n).key))
    (h12 : P (.field (PRT.HUBSTS.HIGHSPD n).key)) (h13 : P (.field (PRT.HUBSTS.RESET n).key))
    (h14 : P (.field (PRT.HUBSTS.STATE n).key)) (h15 : P (.field (PRT.HUBSTS.SUSPEND n).key))
    (h16 : P (.field (PRT.HUBSTS.TEST n).key)) (h17 : P (.field (PRT.HUBSTS.TESTSEL n).key))
    (h18 : P (.field (PRT.MTRCNT.DATAHIT n).key)) (h19 : P (.field (PRT.MTRCNT.NAKHIT n).key))
    (h20 : P (.field (PRT.MTRSTS.STRANDED n).key)) (h21 : P (.field (PRT.MTRSTS.WITHDRAWN n).key))
    (h22 : P (.field (PRT.QSTS.STOPPED n).key)) (h23 : ∀ i, P (.field (SWX.CNTA.STALE i).key))
    (h24 : ∀ i, P (.field (SWX.CNTB.RLYWD i).key)) (h25 : P .sw) (h26 : ∀ i, P (.up i)) :
    Only P s (t.hubDo n a) := by
  unfold State.hubDo
  repeat' with_reducible first
    | assumption | apply Only.modPort | apply State.hubAct_only | apply h3 | apply h10 | apply h23 | apply h24
    | apply h26 | intro _ _ _ | intro _ _ | split

theorem State.viewPower_only
    (h : Only P s t) (u n : Nat) (b : Bool) (h1 : P (.up u)) :
    Only P s (t.viewPower u n b) := by
  unfold State.viewPower
  repeat' with_reducible first
    | assumption | apply Only.setView | intro _ _ _ | intro _ _ | split

theorem State.busResetEffect_only
    (h : Only P s t) (u : Nat) (hs : Bool) (h1 : P .edgeDue) (h2 : P .freeCtr) (h3 : P (.mb u)) (h4 : P .outs)
    (h5 : ∀ i, P (.port i)) (h6 : P (.field BOOT.UPDSTS.BUSY.key)) (h7 : P (.field BOOT.UPDSTS.OWNER.key))
    (h8 : P (.field BOOT.UPDSTS.SESSION.key)) (h9 : P (.field LDS.CHG0.P00_P31.key))
    (h10 : P (.field LDS.CHG1.P32_P47.key)) (h11 : ∀ i, P (.field (LDS.RSUM.HBUSED i).key))
    (h12 : ∀ i, P (.field (LDS.RSUM.IDVALID i).key)) (h13 : ∀ i, P (.field (LDS.RSUM.PROFILE i).key))
    (h14 : ∀ i, P (.field (LDS.RSUM.RESULT i).key)) (h15 : ∀ i, P (.field (LDS.RSUM.STATE i).key))
    (h16 : P (.field MBX.BULK.HELD.key)) (h17 : P (.field MBX.BULK.HOLDER.key))
    (h18 : P (.field (MBX.CTRL.BUSY u).key)) (h19 : P (.field (MBX.CTRL.VALID u).key))
    (h20 : P (.field PKM.FENCE.FALLBACK.key)) (h21 : P (.field PKM.FREESTS.WAS.key))
    (h22 : P (.field PKM.GCNT0.FREE.key)) (h23 : P (.field PKM.GCNT0.QUEUED.key))
    (h24 : P (.field PKM.GCNT1.INFLIGHT.key)) (h25 : P (.field PKM.GCNT2.POOLFREE.key))
    (h26 : ∀ i, P (.field (PKM.IQPTR.RPTR i).key)) (h27 : ∀ i, P (.field (PRT.ALTMUX.ACTIVE i).key))
    (h28 : ∀ i, P (.field (PRT.ALTMUX.QBUSY i).key)) (h29 : ∀ i, P (.field (PRT.ALTMUX.QHOLD i).key))
    (h30 : ∀ i, P (.field (PRT.FUSEVT.PGOFF i).key)) (h31 : ∀ i, P (.field (PRT.FUSSTS.FOLD i).key))
    (h32 : ∀ i, P (.field (PRT.FUSSTS.GATEON i).key)) (h33 : ∀ i, P (.field (PRT.FUSSTS.LIMIT i).key))
    (h34 : ∀ i, P (.field (PRT.FUSSTS.PG i).key)) (h35 : ∀ i, P (.field (PRT.HUBSTS.CONNECTION i).key))
    (h36 : ∀ i, P (.field (PRT.HUBSTS.ENABLE i).key)) (h37 : ∀ i, P (.field (PRT.HUBSTS.HIGHSPD i).key))
    (h38 : ∀ i, P (.field (PRT.HUBSTS.LOWSPD i).key)) (h39 : ∀ i, P (.field (PRT.HUBSTS.POWER i).key))
    (h40 : ∀ i, P (.field (PRT.HUBSTS.RESET i).key)) (h41 : ∀ i, P (.field (PRT.HUBSTS.STATE i).key))
    (h42 : ∀ i, P (.field (PRT.HUBSTS.SUSPEND i).key)) (h43 : ∀ i, P (.field (PRT.HUBSTS.TEST i).key))
    (h44 : ∀ i, P (.field (PRT.MTRCNT.DATAHIT i).key)) (h45 : ∀ i, P (.field (PRT.MTRCNT.NAKHIT i).key))
    (h46 : ∀ i, P (.field (PRT.MTRSTS.STRANDED i).key)) (h47 : ∀ i, P (.field (PRT.MTRSTS.WITHDRAWN i).key))
    (h48 : ∀ i, P (.field (PRT.PDSTS.ALTMODE i).key)) (h49 : ∀ i, P (.field (PRT.PDSTS.EVT i).key))
    (h50 : ∀ i, P (.field (PRT.PDSTS.EXPLICIT i).key)) (h51 : ∀ i, P (.field (PRT.PDSTS.OBJPOS i).key))
    (h52 : ∀ i, P (.field (PRT.PDSTS.OPCURR i).key)) (h53 : ∀ i, P (.field (PRT.PDSTS.PWRROLE i).key))
    (h54 : ∀ i, P (.field (PRT.PDSTS.VCSRC i).key)) (h55 : ∀ i, P (.field (PRT.PDSTS.VSEL i).key))
    (h56 : ∀ i, P (.field (PRT.QSTS.STOPPED i).key)) (h57 : ∀ i, P (.field (PRT.TCEVT.OOS i).key))
    (h58 : ∀ i, P (.field (PRT.TCEVT.WETOUT i).key)) (h59 : ∀ i, P (.field (PRT.TCSTS.MOISTOK i).key))
    (h60 : ∀ i, P (.field (PRT.TCSTS.OOS i).key)) (h61 : ∀ i, P (.field (PRT.TCSTS.ORIENT i).key))
    (h62 : ∀ i, P (.field (PRT.TCSTS.RPADV i).key)) (h63 : ∀ i, P (.field (PRT.TCSTS.TCSTATE i).key))
    (h64 : ∀ i, P (.field (PRT.TCSTS.WET i).key)) (h65 : ∀ i, P (.field (PRT.TCSTS.WETGND i).key))
    (h66 : ∀ i, P (.field (PRT.TCSTS.WETPIN i).key)) (h67 : ∀ i, P (.field (PRT.TCSTS.WETVBUS i).key))
    (h68 : ∀ i, P (.field (PRT.VCONN.ON i).key)) (h69 : ∀ i, P (.field (PWR.PALLOW.SHED i).key))
    (h70 : ∀ i, P (.field (PWR.PALLOW.WAIT i).key)) (h71 : ∀ i, P (.field (PWR.PBOOK.COMMIT i).key))
    (h72 : ∀ i, P (.field (PWR.PBOOK.CONTRACT i).key)) (h73 : ∀ i, P (.field (PWR.QBOOK.COMMIT i).key))
    (h74 : ∀ i, P (.field (PWR.QBOOK.CONTRACT i).key)) (h75 : P (.field PWR.TOTCOM.COMMIT.key))
    (h76 : P (.field PWR.TOTCON.CONTRACT.key)) (h77 : ∀ i, P (.field (SWX.CNTA.STALE i).key))
    (h78 : ∀ i, P (.field (SWX.CNTB.RLYWD i).key)) (h79 : P (.field (UPS.CNT0.ABORTCNT u).key))
    (h80 : P (.field (UPS.CNT0.BUSRSTCNT u).key)) (h81 : P (.field (UPS.EVT.BUSRST u).key))
    (h82 : P (.field (UPS.EVT.CTLABORT u).key)) (h83 : P (.field (UPS.EVT.FSCONN u).key))
    (h84 : P (.field (UPS.STS.ADDR u).key)) (h85 : P (.field (UPS.STS.ALTSET u).key))
    (h86 : P (.field (UPS.STS.DEVSTATE u).key)) (h87 : P (.field (UPS.STS.HS u).key))
    (h88 : P (.field (UPS.STS.RWAKEEN u).key)) (h89 : P (.field (UPS.STS.STAGED u).key))
    (h90 : P (.field (UPS.STS.SUSP u).key)) (h91 : P .sw) (h92 : ∀ i, P (.up i)) (h93 : P .upd) :
    Only P s (t.busResetEffect u hs) := by
  unfold State.busResetEffect
  repeat' with_reducible first
    | assumption | apply Only.wr | apply Only.raise | apply Only.flag | apply Only.bump | apply Only.modUp
    | apply State.busResetActions_only | apply h5 | apply h11 | apply h12 | apply h13 | apply h14 | apply h15
    | apply h26 | apply h27 | apply h28 | apply h29 | apply h30 | apply h31 | apply h32 | apply h33 | apply h34
    | apply h35 | apply h36 | apply h37 | apply h38 | apply h39 | apply h40 | apply h41 | apply h42 | apply h43
    | apply h44 | apply h45 | apply h46 | apply h47 | apply h48 | apply h49 | apply h50 | apply h51 | apply h52
    | apply h53 | apply h54 | apply h55 | apply h56 | apply h57 | apply h58 | apply h59 | apply h60 | apply h61
    | apply h62 | apply h63 | apply h64 | apply h65 | apply h66 | apply h67 | apply h68 | apply h69 | apply h70
    | apply h71 | apply h72 | apply h73 | apply h74 | apply h77 | apply h78 | apply h92 | intro _ _ _ | intro _ _
    | split

theorem State.wake_only
    (h : Only P s t) (u n : Nat) (h1 : P .outs) (h2 : ∀ i, P (.port i))
    (h3 : ∀ i, P (.field (PRT.HUBSTS.ENABLE i).key)) (h4 : ∀ i, P (.field (PRT.HUBSTS.RESET i).key))
    (h5 : ∀ i, P (.field (PRT.HUBSTS.STATE i).key)) (h6 : ∀ i, P (.field (PRT.HUBSTS.SUSPEND i).key))
    (h7 : ∀ i, P (.field (PRT.HUBSTS.TEST i).key)) (h8 : P (.field (UPS.WAKESRC.HUBPORT u).key))
    (h9 : P (.field (UPS.WAKESRC.PHYS u).key)) (h10 : P (.field (UPS.WAKESRC.VALID u).key)) (h11 : P (.up u)) :
    Only P s (t.wake u n) := by
  unfold State.wake
  repeat' with_reducible first
    | assumption | apply Only.forEach | apply Only.wr | apply Only.raise | apply Only.modPort | apply Only.modUp
    | apply State.driveK_only | apply h2 | apply h3 | apply h4 | apply h5 | apply h6 | apply h7 | intro _ _ _
    | intro _ _ | split

theorem State.resumePort_only
    (h : Only P s t) (u n : Nat) (h1 : P .outs) (h2 : P (.port n)) (h3 : P (.field (PRT.HUBCHG.C_CONNECTION n).key))
    (h4 : P (.field (PRT.HUBCHG.C_ENABLE n).key)) (h5 : P (.field (PRT.HUBCHG.C_OVERCUR n).key))
    (h6 : P (.field (PRT.HUBCHG.C_RESET n).key)) (h7 : P (.field (PRT.HUBCHG.C_SUSPEND n).key))
    (h8 : P (.field (PRT.HUBSTS.ENABLE n).key)) (h9 : P (.field (PRT.HUBSTS.RESET n).key))
    (h10 : P (.field (PRT.HUBSTS.STATE n).key)) (h11 : P (.field (PRT.HUBSTS.SUSPEND n).key))
    (h12 : P (.field (PRT.HUBSTS.TEST n).key)) :
    Only P s (t.resumePort u n) := by
  unfold State.resumePort
  repeat' with_reducible first
    | assumption | apply Only.modPort | apply Only.emit | apply Only.hubEvt | apply State.setHub_only | intro _ _ _
    | intro _ _ | split

end Sys2Proof.Machine
end

