-- ==== Sys2Proof/Laws/OnlyCore.lean ====
section
/-! SUPPORT. One lemma per operation of the switch core, packet memory, ownership and Lodestar: what it
may change. -/

namespace Sys2Proof.Machine

variable {P : Part → Prop} {s t : State}

theorem State.modPkt_only
    (h : Only P s t) (id : Nat) (g : Pkt → Pkt) (h1 : P .sw) :
    Only P s (t.modPkt id g) := by
  unfold State.modPkt
  repeat' with_reducible first
    | assumption | apply Only.modSw

theorem State.hbMiss_only
    (h : Only P s t) (n : Nat) (h1 : P .edgeDue) (h2 : P (.port n)) (h3 : P (.field LDS.CHG0.P00_P31.key))
    (h4 : P (.field LDS.CHG1.P32_P47.key)) (h5 : P (.field (LDS.RSUM.HBUSED n).key))
    (h6 : P (.field (LDS.RSUM.IDVALID n).key)) (h7 : P (.field (LDS.RSUM.PROFILE n).key))
    (h8 : P (.field (LDS.RSUM.RESULT n).key)) (h9 : P (.field (LDS.RSUM.STATE n).key)) :
    Only P s (t.hbMiss n) := by
  unfold State.hbMiss
  repeat' with_reducible first
    | assumption | apply Only.modLds | apply State.edgeAtMeridian_only | apply State.setEntry_only | intro _ _ _
    | intro _ _ | split | apply Only.upd | exact .inr rfl

theorem State.ownHold_only
    (h : Only P s t) (n tgt code : Nat) (h1 : P (.port n)) (h2 : P (.field (PRT.OWNCNT.LOST n).key)) :
    Only P s (t.ownHold n tgt code) := by
  unfold State.ownHold
  repeat' with_reducible first
    | assumption | apply Only.bump | apply Only.modPort | intro _ _ _ | intro _ _ | split

theorem State.rgnEffect_only
    (h : Only P s t) (d oldSize : Nat) (h1 : P .edgeDue) (h2 : P (.port (d - 53)))
    (h3 : P (.field PKM.FENCE.FALLBACK.key)) (h4 : P (.field PKM.FREESTS.WAS.key))
    (h5 : P (.field PKM.GCNT0.FREE.key)) (h6 : P (.field PKM.GCNT0.QUEUED.key))
    (h7 : P (.field PKM.GCNT1.INFLIGHT.key)) (h8 : P (.field PKM.GCNT2.POOLFREE.key))
    (h9 : ∀ i, P (.field (PKM.IQPTR.RPTR i).key)) (h10 : P (.field (PKM.IQPTR.WPTR d).key))
    (h11 : P (.field (PRT.QSTS.STOPPED (d - 53)).key)) (h12 : P .sw) :
    Only P s (t.rgnEffect d oldSize) := by
  unfold State.rgnEffect
  repeat' with_reducible first
    | assumption | apply Only.foldl | apply Only.wr | apply State.dropPkt_only | apply State.setPool_only
    | apply State.ttCut_only | apply h9 | intro _ _ _ | intro _ _ | split

theorem State.slotlimEffect_only
    (h : Only P s t) (old : Nat) (h1 : ∀ i, P (.port i)) :
    Only P s (t.slotlimEffect old) := by
  unfold State.slotlimEffect
  repeat' with_reducible first
    | assumption | apply Only.forEach | apply Only.modPort | apply h1 | intro _ _ _ | intro _ _ | split

theorem State.modSlot_only
    (h : Only P s t) (n : Nat) (k : Key) (iso : Bool) (g : Slot → Slot) (h1 : P (.port n)) :
    Only P s (t.modSlot n k iso g) := by
  unfold State.modSlot
  repeat' with_reducible first
    | assumption | apply Only.modPort | intro _ _ _ | intro _ _ | split

theorem State.giveStop_only
    (h : Only P s t) (u n : Nat) (x : Slot) (h1 : P .outs) (h2 : P (.port n)) (h3 : P (.up u)) :
    Only P s (t.giveStop u n x) := by
  unfold State.giveStop
  repeat' with_reducible first
    | assumption | apply Only.modUp | apply Only.emit | apply State.modSlot_only

theorem State.relay_only
    (h : Only P s t) (u a : Nat) (act : State → Nat → State) (h_act : ∀ u k, Only P s u → Only P s (act u k))
    (h1 : P .outs) :
    Only P s (t.relay u a act) := by
  unfold State.relay
  repeat' with_reducible first
    | assumption | apply h_act | apply Only.emit | intro _ _ _ | intro _ _ | split

theorem State.admNak_only
    (h : Only P s t) (u : Nat) (h1 : P .outs) (h2 : P (.field (SWX.CNTB.ADMNAK u).key)) :
    Only P s (t.admNak u) := by
  unfold State.admNak
  repeat' with_reducible first
    | assumption | apply Only.bump | apply Only.emit

theorem State.ownOut_only
    (h : Only P s t) (u ep : Nat) (h1 : P .outs) :
    Only P s (t.ownOut u ep) := by
  unfold State.ownOut
  repeat' with_reducible first
    | assumption | apply Only.emit

theorem State.needPing_only
    (h : Only P s t) (n : Nat) (k : Key) (b : Bool) (h1 : P (.port n)) :
    Only P s (t.needPing n k b) := by
  unfold State.needPing
  repeat' with_reducible first
    | assumption | apply Only.modPort

theorem State.outError_only
    (h : Only P s t) (n : Nat) (p : Pkt) (h1 : P .edgeDue) (h2 : P (.port n))
    (h3 : P (.field PKM.FENCE.FALLBACK.key)) (h4 : P (.field PKM.FREESTS.WAS.key))
    (h5 : P (.field PKM.GCNT0.FREE.key)) (h6 : P (.field PKM.GCNT0.QUEUED.key))
    (h7 : P (.field PKM.GCNT1.INFLIGHT.key)) (h8 : P (.field PKM.GCNT2.POOLFREE.key))
    (h9 : ∀ i, P (.field (PKM.IQPTR.RPTR i).key)) (h10 : P .sw) :
    Only P s (t.outError n p) := by
  unfold State.outError
  repeat' with_reducible first
    | assumption | apply State.dropPkt_only | apply State.modPkt_only | apply State.modSlot_only | apply h9
    | intro _ _ _ | intro _ _ | split

theorem State.rtSet_only
    (h : Only P s t) (u g : Nat) (c : Nat × Option Nat × Bool) (h1 : P .edgeDue) (h2 : ∀ i, P (.port i))
    (h3 : P (.field PKM.FENCE.FALLBACK.key)) (h4 : P (.field PKM.FREESTS.WAS.key))
    (h5 : P (.field PKM.GCNT0.FREE.key)) (h6 : P (.field PKM.GCNT0.QUEUED.key))
    (h7 : P (.field PKM.GCNT1.INFLIGHT.key)) (h8 : P (.field PKM.GCNT2.POOLFREE.key))
    (h9 : ∀ i, P (.field (PKM.IQPTR.RPTR i).key)) (h10 : ∀ i, P (.field (SWX.CNTB.RLYWD i).key))
    (h11 : ∀ i j, P (.field (SWX.RT.GEN i j).key)) (h12 : ∀ i j, P (.field (SWX.RT.HSDEV i j).key))
    (h13 : ∀ i j, P (.field (SWX.RT.PORT i j).key)) (h14 : ∀ i j, P (.field (SWX.RT.VALID i j).key)) (h15 : P .sw) :
    Only P s (t.rtSet u g c) := by
  unfold State.rtSet
  repeat' with_reducible first
    | assumption | apply Only.wr | apply Only.raise | apply Only.flag | apply State.withdrawSlots_only | apply h2
    | apply h9 | apply h10 | apply h11 | apply h12 | apply h13 | apply h14 | intro _ _ _ | intro _ _ | split

theorem State.rtApply_only
    (h : Only P s t) (u : Nat) (h1 : P .edgeDue) (h2 : ∀ i, P (.port i)) (h3 : P (.field PKM.FENCE.FALLBACK.key))
    (h4 : P (.field PKM.FREESTS.WAS.key)) (h5 : P (.field PKM.GCNT0.FREE.key))
    (h6 : P (.field PKM.GCNT0.QUEUED.key)) (h7 : P (.field PKM.GCNT1.INFLIGHT.key))
    (h8 : P (.field PKM.GCNT2.POOLFREE.key)) (h9 : ∀ i, P (.field (PKM.IQPTR.RPTR i).key))
    (h10 : ∀ i, P (.field (SWX.CNTA.STALE i).key)) (h11 : ∀ i, P (.field (SWX.CNTB.RLYWD i).key))
    (h12 : P (.field SWX.GEN.GEN0.key)) (h13 : P (.field SWX.GEN.GEN1.key)) (h14 : P (.field SWX.GEN.GEN2.key))
    (h15 : P (.field SWX.GEN.GEN3.key)) (h16 : ∀ i j, P (.field (SWX.RT.GEN i j).key))
    (h17 : ∀ i j, P (.field (SWX.RT.HSDEV i j).key)) (h18 : ∀ i j, P (.field (SWX.RT.PORT i j).key))
    (h19 : ∀ i j, P (.field (SWX.RT.VALID i j).key)) (h20 : P .sw) (h21 : P (.up u)) :
    Only P s (t.rtApply u) := by
  unfold State.rtApply
  repeat' with_reducible first
    | assumption | unfold genField | apply Only.foldl | apply Only.wr | apply Only.modUp
    | apply State.dropStale_only | apply State.rtSet_only | apply h2 | apply h9 | apply h10 | apply h11 | apply h16
    | apply h17 | apply h18 | apply h19 | intro _ _ _ | intro _ _ | split | apply Only.upd | exact .inr rfl

theorem State.pnote_only
    (h : Only P s t) (d : Option Nat) (h1 : P (.field PKM.PNOTE0.P00_P31.key))
    (h2 : P (.field PKM.PNOTE1.P32_P47.key)) :
    Only P s (t.pnote d) := by
  unfold State.pnote
  repeat' with_reducible first
    | assumption | apply Only.orBits | intro _ _ _ | intro _ _ | split

theorem State.modFence_only
    (h : Only P s t) (g : FenceX → FenceX) (h1 : P .sw) :
    Only P s (t.modFence g) := by
  unfold State.modFence
  repeat' with_reducible first
    | assumption | apply Only.modSw

theorem State.showPend_only
    (h : Only P s t) (h1 : P (.field PKM.FENCE.PEND.key)) :
    Only P s (t.showPend) := by
  unfold State.showPend
  repeat' with_reducible first
    | assumption | apply Only.wr

theorem State.listLine_only
    (h : Only P s t) (line : Nat) (head : Bool) (h1 : P (.field PKM.ECCCNT.NOFENCE.key))
    (h2 : P (.field PKM.FENCE.PEND.key)) (h3 : P .sw) :
    Only P s (t.listLine line head) := by
  unfold State.listLine
  repeat' with_reducible first
    | assumption | apply Only.bump | apply State.modFence_only | apply State.showPend_only | intro _ _ _ | intro _ _
    | split | apply Only.upd | exact .inr rfl

theorem State.lineHolder_only
    (h : Only P s t) (d : Option Nat) (h1 : P .freeCtr) :
    Only P s (t.lineHolder d).2 := by
  unfold State.lineHolder
  extract_lets
  refine Only.ite2 h (h.free ?_)
  with_reducible assumption

theorem State.granule_only
    (h : Only P s t) (queued back : Bool) (h1 : P (.field PKM.GCNT0.FREE.key))
    (h2 : P (.field PKM.GCNT0.QUEUED.key)) :
    Only P s (t.granule queued back) := by
  unfold State.granule
  repeat' with_reducible first
    | assumption | apply Only.wr | intro _ _ _ | intro _ _ | split

theorem State.fenceEnd_only
    (h : Only P s t) (result : Nat) (h1 : P .edgeDue) (h2 : P (.field PKM.FENCE.ACTIVE.key))
    (h3 : P (.field PKM.FENCE.FALLBACK.key)) (h4 : P (.field PKM.FENCE.RESULT.key))
    (h5 : P (.field PKM.FREESTS.WAS.key)) (h6 : P (.field PKM.GCNT0.FREE.key))
    (h7 : P (.field PKM.GCNT0.QUEUED.key)) (h8 : P (.field PKM.GCNT1.FENCED.key))
    (h9 : P (.field PKM.GCNT2.POOLFREE.key)) (h10 : P .sw) :
    Only P s (t.fenceEnd result) := by
  unfold State.fenceEnd
  repeat' with_reducible first
    | assumption | apply Only.wr | apply Only.modSw | apply State.fallSettle_only | apply State.granule_only
    | apply State.modFence_only | apply State.setPool_only | intro _ _ _ | intro _ _ | split | apply Only.upd
    | exact .inr rfl

theorem State.retire_only
    (h : Only P s t) (g : Nat) (spare : Bool) (h1 : P .edgeDue) (h2 : P (.field PKM.FENCE.ACTIVE.key))
    (h3 : P (.field PKM.FENCE.FALLBACK.key)) (h4 : P (.field PKM.FENCE.RESULT.key))
    (h5 : P (.field PKM.FREESTS.WAS.key)) (h6 : P (.field PKM.GCNT0.FREE.key))
    (h7 : P (.field PKM.GCNT0.QUEUED.key)) (h8 : P (.field PKM.GCNT1.FENCED.key))
    (h9 : P (.field PKM.GCNT1.RETIRED.key)) (h10 : P (.field PKM.GCNT2.POOLFREE.key))
    (h11 : P (.field PKM.GCNT2.SPAREUSED.key)) (h12 : P .sw) :
    Only P s (t.retire g spare) := by
  unfold State.retire
  repeat' with_reducible first
    | assumption | apply Only.wr | apply Only.modSw | apply State.edgeAtMeridian_only | apply State.fenceEnd_only
    | apply State.granule_only | apply State.modFence_only | apply State.setPool_only | intro _ _ _ | intro _ _
    | split | apply Only.upd | exact .inr rfl

theorem State.freePoolLine_only
    (h : Only P s t) (h1 : P .freeCtr) :
    Only P s (t.freePoolLine).2 := by
  unfold State.freePoolLine
  repeat' with_reducible first
    | assumption | apply Only.free | intro _ _ _ | intro _ _ | split

theorem State.ldsPacket_only
    (h : Only P s t) (n adr pid : Nat) (bs : List Byte) (h1 : P .outs) (h2 : P (.field (PKM.IQPTR.RPTR 52).key))
    (h3 : P (.field (PKM.IQPTR.WPTR 52).key)) (h4 : P (.field (SWX.CNTA.STALE 4).key)) (h5 : P .sw) :
    Only P s (t.ldsPacket n adr pid bs) := by
  unfold State.ldsPacket
  repeat' with_reducible first
    | assumption | apply Only.bump | apply Only.emit | apply State.iqPass_only | intro _ _ _ | intro _ _ | split

theorem State.ldsSend_only
    (h : Only P s t) (n adr : Nat) (step : LdsStep) (r : Setup) (data : List Byte) (h1 : P .outs) (h2 : P (.port n))
    (h3 : P (.field (PKM.IQPTR.RPTR 52).key)) (h4 : P (.field (PKM.IQPTR.WPTR 52).key))
    (h5 : P (.field (SWX.CNTA.STALE 4).key)) (h6 : P .sw) :
    Only P s (t.ldsSend n adr step r data) := by
  unfold State.ldsSend
  repeat' with_reducible first
    | assumption | apply Only.modLds | apply State.ldsPacket_only | intro _ _ _ | intro _ _ | split

theorem State.ldsGet_only
    (h : Only P s t) (n adr : Nat) (step : LdsStep) (v idx len : Nat) (h1 : P .outs) (h2 : P (.port n))
    (h3 : P (.field (PKM.IQPTR.RPTR 52).key)) (h4 : P (.field (PKM.IQPTR.WPTR 52).key))
    (h5 : P (.field (SWX.CNTA.STALE 4).key)) (h6 : P .sw) :
    Only P s (t.ldsGet n adr step v idx len) := by
  unfold State.ldsGet
  repeat' with_reducible first
    | assumption | apply State.ldsSend_only

theorem State.ldsReset_only
    (h : Only P s t) (n : Nat) (h1 : P .edgeDue) (h2 : P .outs) (h3 : ∀ i, P (.port i))
    (h4 : P (.field PKM.FENCE.FALLBACK.key)) (h5 : P (.field PKM.FREESTS.WAS.key))
    (h6 : P (.field PKM.GCNT0.FREE.key)) (h7 : P (.field PKM.GCNT0.QUEUED.key))
    (h8 : P (.field PKM.GCNT1.INFLIGHT.key)) (h9 : P (.field PKM.GCNT2.POOLFREE.key))
    (h10 : ∀ i, P (.field (PKM.IQPTR.RPTR i).key)) (h11 : P (.field (PRT.HUBSTS.ENABLE n).key))
    (h12 : P (.field (PRT.HUBSTS.HIGHSPD n).key)) (h13 : P (.field (PRT.HUBSTS.RESET n).key))
    (h14 : P (.field (PRT.HUBSTS.STATE n).key)) (h15 : P (.field (PRT.HUBSTS.SUSPEND n).key))
    (h16 : P (.field (PRT.HUBSTS.TEST n).key)) (h17 : P (.field (PRT.MTRCNT.DATAHIT n).key))
    (h18 : P (.field (PRT.MTRCNT.NAKHIT n).key)) (h19 : P (.field (PRT.MTRSTS.STRANDED n).key))
    (h20 : P (.field (PRT.MTRSTS.WITHDRAWN n).key)) (h21 : P (.field (PRT.QSTS.STOPPED n).key))
    (h22 : ∀ i, P (.field (SWX.CNTA.STALE i).key)) (h23 : ∀ i, P (.field (SWX.CNTB.RLYWD i).key)) (h24 : P .sw)
    (h25 : ∀ i, P (.up i)) :
    Only P s (t.ldsReset n) := by
  unfold State.ldsReset
  repeat' with_reducible first
    | assumption | apply Only.modLds | apply State.startReset_only | apply h3

theorem State.toReleasing_only
    (h : Only P s t) (n tgt code : Nat) (h1 : P .copies) (h2 : P .edgeDue) (h3 : P .freeCtr) (h4 : P .outs)
    (h5 : ∀ i, P (.port i)) (h6 : P (.field LDS.CHG0.P00_P31.key)) (h7 : P (.field LDS.CHG1.P32_P47.key))
    (h8 : P (.field (LDS.RSUM.HBUSED n).key)) (h9 : P (.field (LDS.RSUM.IDVALID n).key))
    (h10 : P (.field (LDS.RSUM.PROFILE n).key)) (h11 : P (.field (LDS.RSUM.RESULT n).key))
    (h12 : P (.field (LDS.RSUM.STATE n).key)) (h13 : P (.field PKM.FENCE.FALLBACK.key))
    (h14 : P (.field PKM.FREESTS.WAS.key)) (h15 : P (.field PKM.GCNT0.FREE.key))
    (h16 : P (.field PKM.GCNT0.QUEUED.key)) (h17 : P (.field PKM.GCNT1.INFLIGHT.key))
    (h18 : P (.field PKM.GCNT2.POOLFREE.key)) (h19 : ∀ i, P (.field (PKM.IQPTR.RPTR i).key))
    (h20 : P (.field (PRT.HUBSTS.ENABLE n).key)) (h21 : P (.field (PRT.HUBSTS.RESET n).key))
    (h22 : P (.field (PRT.HUBSTS.STATE n).key)) (h23 : P (.field (PRT.HUBSTS.SUSPEND n).key))
    (h24 : P (.field (PRT.HUBSTS.TEST n).key)) (h25 : P (.field (PRT.MTRCNT.DATAHIT n).key))
    (h26 : P (.field (PRT.MTRCNT.NAKHIT n).key)) (h27 : P (.field (PRT.MTRSTS.STRANDED n).key))
    (h28 : P (.field (PRT.MTRSTS.WITHDRAWN n).key)) (h29 : P (.field (PRT.OWNER.LASTBY n).key))
    (h30 : P (.field (PRT.OWNER.LASTRES n).key)) (h31 : P (.field (PRT.OWNER.NEXT n).key))
    (h32 : P (.field (PRT.OWNER.STATE n).key)) (h33 : P (.field (PRT.QSTS.STOPPED n).key))
    (h34 : ∀ i, P (.field (SWX.CNTA.STALE i).key)) (h35 : ∀ i, P (.field (SWX.CNTB.RLYWD i).key))
    (h36 : P (.field SWX.GEN.GEN0.key)) (h37 : P (.field SWX.GEN.GEN1.key)) (h38 : P (.field SWX.GEN.GEN2.key))
    (h39 : P (.field SWX.GEN.GEN3.key)) (h40 : ∀ i j, P (.field (SWX.RT.GEN i j).key))
    (h41 : ∀ i j, P (.field (SWX.RT.HSDEV i j).key)) (h42 : ∀ i j, P (.field (SWX.RT.PORT i j).key))
    (h43 : ∀ i j, P (.field (SWX.RT.VALID i j).key)) (h44 : P .sw) (h45 : ∀ i, P (.up i)) :
    Only P s (t.toReleasing n tgt code) := by
  unfold State.toReleasing
  repeat' with_reducible first
    | assumption | apply Only.wr | apply Only.modPort | apply Only.emit | apply Only.wrVoted
    | apply State.dropStale_only | apply State.ldsRelease_only | apply State.relayReset_only
    | apply State.rtApply_only | apply State.rtDropPort_only | apply State.setHub_only
    | apply State.ttAndAlmanac_only | apply h5 | apply h19 | apply h34 | apply h35 | apply h40 | apply h41
    | apply h42 | apply h43 | apply h45 | intro _ _ _ | intro _ _ | split

end Sys2Proof.Machine
end

