-- ==== Sys2Proof/Laws/OnlySystem.lean ====
section
/-! SUPPORT. One lemma per operation of boot, faults, supplies, accesses and Nightwatch: what it
may change. -/

namespace Sys2Proof.Machine

variable {P : Part → Prop} {s t : State}

theorem State.cfgEffect_only
    (h : Only P s t) (i : Nat) (oldEn : Bool) (oldT : Nat) (h1 : P .icuTimer)
    (h2 : ∀ i, P (.field (ICU.TSTAT.HELD i).key)) (h3 : ∀ i, P (.field (ICU.TSTAT.LINE i).key)) :
    Only P s (t.cfgEffect i oldEn oldT) := by
  unfold State.cfgEffect
  repeat' with_reducible first
    | assumption | apply State.hold_only | apply State.lineCheck_only | apply h2 | apply h3 | intro _ _ _
    | intro _ _ | split | dsimp only

theorem State.tctlEffect_only
    (h : Only P s t) (t_ : Nat) (h1 : P .freeCtr) (h2 : P .icuTimer) (h3 : P (.field (ICU.TSTAT.HELD t_).key))
    (h4 : P (.field (ICU.TSTAT.LINE t_).key)) :
    Only P s (t.tctlEffect t_) := by
  unfold State.tctlEffect
  repeat' with_reducible first
    | assumption | apply Only.elapsedUs | apply State.deliver_only | intro _ _ _ | intro _ _ | split
    | apply Only.upd | exact .inr rfl

theorem State.clrpendEffect_only
    (h : Only P s t) (i : Nat) (h1 : P (.field (ICU.SRC_STS.PEND i).key))
    (h2 : ∀ i, P (.field (ICU.TSTAT.LINE i).key)) :
    Only P s (t.clrpendEffect i) := by
  unfold State.clrpendEffect
  repeat' with_reducible first
    | assumption | apply Only.wr | apply State.lineCheck_only | apply h2 | intro _ _ _ | intro _ _ | split

theorem State.showBoot_only
    (h : Only P s t) (h1 : P (.field BOOT.BOOTCNT.BOOTNO.key)) (h2 : P (.field BOOT.BOOTCNT.CONSEC.key))
    (h3 : P (.field BOOT.FAILMEM.CAL.key)) (h4 : P (.field BOOT.FAILMEM.LINK.key))
    (h5 : P (.field BOOT.FAILMEM.NVM.key)) (h6 : P (.field BOOT.FAILMEM.QID.key))
    (h7 : P (.field BOOT.FAILMEM.SLOTA.key)) (h8 : P (.field BOOT.FAILMEM.SLOTB.key)) :
    Only P s (t.showBoot) := by
  unfold State.showBoot
  repeat' with_reducible first
    | assumption | apply Only.wr

theorem State.ackEffect_only
    (h : Only P s t) (b : FBlk) (h1 : P (.flt b.idx)) (h2 : P (.field (FLT.FLTTIMERS.STATE b).key)) :
    Only P s (t.ackEffect b) := by
  unfold State.ackEffect
  repeat' with_reducible first
    | assumption | apply Only.wr | apply Only.modFlt | intro _ _ _ | intro _ _ | split

theorem State.faultpinEffect_only
    (h : Only P s t) (h1 : P .outs) (h2 : P (.field SYS.FAULTPIN.PIN.key)) :
    Only P s (t.faultpinEffect) := by
  unfold State.faultpinEffect
  repeat' with_reducible first
    | assumption | apply Only.wr | apply Only.emit | intro _ _ _ | intro _ _ | split

theorem State.clearMarks_only
    (h : Only P s t) (m : Nat) (h1 : P (.field BOOT.BOOTCNT.BOOTNO.key)) (h2 : P (.field BOOT.BOOTCNT.CONSEC.key))
    (h3 : P (.field BOOT.FAILMEM.CAL.key)) (h4 : P (.field BOOT.FAILMEM.LINK.key))
    (h5 : P (.field BOOT.FAILMEM.NVM.key)) (h6 : P (.field BOOT.FAILMEM.QID.key))
    (h7 : P (.field BOOT.FAILMEM.SLOTA.key)) (h8 : P (.field BOOT.FAILMEM.SLOTB.key)) (h9 : P .retain) :
    Only P s (t.clearMarks m) := by
  unfold State.clearMarks
  repeat' with_reducible first
    | assumption | apply Only.foldl | apply State.showBoot_only | intro _ _ _ | intro _ _ | split | apply Only.upd
    | exact .inr rfl | (left; assumption)

theorem State.rbStart_only
    (h : Only P s t) (v : Nat) (h1 : P .fuseGoal) (h2 : P (.field BOOT.UPDSTS.BUSY.key)) :
    Only P s (t.rbStart v) := by
  unfold State.rbStart
  repeat' with_reducible first
    | assumption | apply Only.raise | intro _ _ _ | intro _ _ | split | apply Only.upd | exact .inr rfl
    | (left; assumption)

theorem State.goEffect_only
    (h : Only P s t) (m code : Nat) (h1 : P (.mb m)) (h2 : P (.field MBX.BULK.HELD.key))
    (h3 : P (.field MBX.BULK.HOLDER.key)) (h4 : P (.field (MBX.CTRL.BUSY m).key))
    (h5 : P (.field (MBX.CTRL.ERR m).key)) (h6 : P (.field (MBX.CTRL.VALID m).key)) :
    Only P s (t.goEffect m code) := by
  unfold State.goEffect
  repeat' with_reducible first
    | assumption | apply Only.wr | apply Only.raise | apply Only.modMb | intro _ _ _ | intro _ _ | split

theorem State.pdctlEffect_only
    (h : Only P s t) (n v old : Nat) (h1 : P .copies) (h2 : P .edgeDue) (h3 : P .freeCtr) (h4 : P .outs)
    (h5 : ∀ i, P (.port i)) (h6 : P (.field LDS.CHG0.P00_P31.key)) (h7 : P (.field LDS.CHG1.P32_P47.key))
    (h8 : P (.field (LDS.RSUM.HBUSED n).key)) (h9 : P (.field (LDS.RSUM.IDVALID n).key))
    (h10 : P (.field (LDS.RSUM.PROFILE n).key)) (h11 : P (.field (LDS.RSUM.RESULT n).key))
    (h12 : P (.field (LDS.RSUM.STATE n).key)) (h13 : P (.field PKM.FENCE.FALLBACK.key))
    (h14 : P (.field PKM.FREESTS.WAS.key)) (h15 : P (.field PKM.GCNT0.FREE.key))
    (h16 : P (.field PKM.GCNT0.QUEUED.key)) (h17 : P (.field PKM.GCNT1.INFLIGHT.key))
    (h18 : P (.field PKM.GCNT2.POOLFREE.key)) (h19 : ∀ i, P (.field (PKM.IQPTR.RPTR i).key))
    (h20 : P (.field (PRT.ALTMUX.ACTIVE n).key)) (h21 : ∀ i, P (.field (PRT.ALTMUX.QBUSY i).key))
    (h22 : ∀ i, P (.field (PRT.ALTMUX.QHOLD i).key)) (h23 : P (.field (PRT.FUSEVT.PGOFF n).key))
    (h24 : P (.field (PRT.FUSSTS.FOLD n).key)) (h25 : P (.field (PRT.FUSSTS.GATEON n).key))
    (h26 : P (.field (PRT.FUSSTS.LIMIT n).key)) (h27 : P (.field (PRT.FUSSTS.PG n).key))
    (h28 : P (.field (PRT.HUBCHG.C_CONNECTION n).key)) (h29 : P (.field (PRT.HUBCHG.C_ENABLE n).key))
    (h30 : P (.field (PRT.HUBCHG.C_OVERCUR n).key)) (h31 : P (.field (PRT.HUBCHG.C_RESET n).key))
    (h32 : P (.field (PRT.HUBCHG.C_SUSPEND n).key)) (h33 : P (.field (PRT.HUBSTS.CONNECTION n).key))
    (h34 : P (.field (PRT.HUBSTS.ENABLE n).key)) (h35 : P (.field (PRT.HUBSTS.HIGHSPD n).key))
    (h36 : P (.field (PRT.HUBSTS.LOWSPD n).key)) (h37 : P (.field (PRT.HUBSTS.RESET n).key))
    (h38 : P (.field (PRT.HUBSTS.STATE n).key)) (h39 : P (.field (PRT.HUBSTS.SUSPEND n).key))
    (h40 : P (.field (PRT.HUBSTS.TEST n).key)) (h41 : P (.field (PRT.IBUSMEAS.ISET n).key))
    (h42 : P (.field (PRT.MTRCNT.DATAHIT n).key)) (h43 : P (.field (PRT.MTRCNT.NAKHIT n).key))
    (h44 : P (.field (PRT.MTRSTS.STRANDED n).key)) (h45 : P (.field (PRT.MTRSTS.WITHDRAWN n).key))
    (h46 : P (.field (PRT.OWNER.OWN n).key)) (h47 : P (.field (PRT.OWNER.STATE n).key))
    (h48 : P (.field (PRT.PDCNT.HRRCVD n).key)) (h49 : P (.field (PRT.PDCNT.HRSENT n).key))
    (h50 : P (.field (PRT.PDSTS.ALTMODE n).key)) (h51 : P (.field (PRT.PDSTS.EVT n).key))
    (h52 : P (.field (PRT.PDSTS.EXPLICIT n).key)) (h53 : P (.field (PRT.PDSTS.OBJPOS n).key))
    (h54 : P (.field (PRT.PDSTS.OPCURR n).key)) (h55 : P (.field (PRT.PDSTS.PWRROLE n).key))
    (h56 : P (.field (PRT.PDSTS.VCSRC n).key)) (h57 : P (.field (PRT.PDSTS.VSEL n).key))
    (h58 : P (.field (PRT.QSTS.STOPPED n).key)) (h59 : P (.field (PRT.TCEVT.ERRREC n).key))
    (h60 : P (.field (PRT.TCEVT.WETOUT n).key)) (h61 : P (.field (PRT.TCSTS.MOISTOK n).key))
    (h62 : P (.field (PRT.TCSTS.ORIENT n).key)) (h63 : P (.field (PRT.TCSTS.RPADV n).key))
    (h64 : P (.field (PRT.TCSTS.TCSTATE n).key)) (h65 : P (.field (PRT.TCSTS.WET n).key))
    (h66 : P (.field (PRT.TCSTS.WETGND n).key)) (h67 : P (.field (PRT.TCSTS.WETPIN n).key))
    (h68 : P (.field (PRT.TCSTS.WETVBUS n).key)) (h69 : P (.field (PRT.VCONN.ON n).key))
    (h70 : P (.field (PWR.PALLOW.SHED n).key)) (h71 : P (.field (PWR.PALLOW.WAIT n).key))
    (h72 : P (.field (PWR.PBOOK.COMMIT n).key)) (h73 : P (.field (PWR.PBOOK.CONTRACT n).key))
    (h74 : ∀ i, P (.field (PWR.QBOOK.COMMIT i).key)) (h75 : ∀ i, P (.field (PWR.QBOOK.CONTRACT i).key))
    (h76 : P (.field PWR.TOTCOM.COMMIT.key)) (h77 : P (.field PWR.TOTCON.CONTRACT.key))
    (h78 : ∀ i, P (.field (SWX.CNTA.STALE i).key)) (h79 : ∀ i, P (.field (SWX.CNTB.RLYWD i).key)) (h80 : P .sw)
    (h81 : ∀ i, P (.up i)) :
    Only P s (t.pdctlEffect n v old) := by
  unfold State.pdctlEffect
  extract_lets s1 moved s2
  have k1 : Only P s s1 := Only.ite ((by apply State.pdenEffect_only h <;> with_reducible first | assumption | apply_assumption)) h
  have k2 : Only P s s2 := Only.ite ((by apply State.readvertise_only k1 <;> with_reducible first | assumption | apply_assumption)) k1
  have q : ∀ a, Only P s (s2.queueAms n a) := fun a => (by apply State.queueAms_only k2 <;> with_reducible first | assumption | apply_assumption)
  refine Only.ite (q _) (Only.ite (Only.ite ((by apply State.hardReset_only k2 <;> with_reducible first | assumption | apply_assumption)) ?_) (Only.ite (q _) (Only.ite (q _) k2)))
  apply k2.modPort
  with_reducible first | assumption | apply_assumption

theorem State.bulkRelease_only
    (h : Only P s t) (m : Nat) (h1 : P (.field MBX.BULK.HELD.key)) (h2 : P (.field MBX.BULK.HOLDER.key)) :
    Only P s (t.bulkRelease m) := by
  unfold State.bulkRelease
  repeat' with_reducible first
    | assumption | apply Only.wr | intro _ _ _ | intro _ _ | split

theorem State.selEffect_only
    (h : Only P s t) (m : Nat) (h1 : P (.field MBX.BULK.HELD.key)) (h2 : P (.field MBX.BULK.HOLDER.key))
    (h3 : P (.field (MBX.CTRL.ERR m).key)) (h4 : P (.field (MBX.CTRL.PART m).key))
    (h5 : P (.field (MBX.CTRL.VALID m).key)) :
    Only P s (t.selEffect m) := by
  unfold State.selEffect
  repeat' with_reducible first
    | assumption | apply Only.wr | apply State.bulkRelease_only

theorem State.wireStatus_only
    (h : Only P s t) (onI2c : Bool) (clocked : Nat) (h1 : P .idleAt) (h2 : P .outs) :
    Only P s (t.wireStatus onI2c clocked) := by
  unfold State.wireStatus
  repeat' with_reducible first
    | assumption | apply Only.emit | intro _ _ _ | intro _ _ | split | apply Only.upd | exact .inr rfl
    | (left; assumption)

theorem State.vendorSetup_only
    (h : Only P s t) (u : Fin 5) (h1 : P (.field (UPS.CNT0.ABORTCNT u).key))
    (h2 : P (.field (UPS.EVT.CTLABORT u).key)) (h3 : P (.field (UPS.STS.STAGED u).key)) (h4 : P .rescue)
    (h5 : P (.up u)) :
    Only P s (t.vendorSetup u) := by
  unfold State.vendorSetup
  repeat' with_reducible first
    | assumption | apply State.ctlAbort_only | intro _ _ _ | intro _ _ | split | apply Only.upd | exact .inr rfl
    | (left; assumption)

theorem State.icuFlush_only
    (h : Only P s t) (h1 : P .icuTimer) (h2 : ∀ i, P (.field (ICU.TSTAT.HELD i).key))
    (h3 : ∀ i, P (.field (ICU.TSTAT.LINE i).key)) :
    Only P s (t.icuFlush) := by
  unfold State.icuFlush
  repeat' with_reducible first
    | assumption | apply Only.forEach | apply Only.wr | apply State.deliver_only | apply h2 | apply h3 | intro _ _ _
    | intro _ _ | split | apply Only.upd | exact .inr rfl | (left; assumption)

theorem State.sleepAbort_only
    (h : Only P s t) (block : Nat) (tmo : Bool) (h1 : P .edgeDue) (h2 : P .idleAt)
    (h3 : P (.field NW.ABORT.BLOCK.key)) (h4 : P (.field NW.ABORT.COUNT.key)) (h5 : P (.field NW.ABORT.TARGET.key))
    (h6 : P (.field NW.ABORT.TMO.key)) (h7 : P (.field NW.STS.STATE.key)) (h8 : P .sleep) :
    Only P s (t.sleepAbort block tmo) := by
  unfold State.sleepAbort
  repeat' with_reducible first
    | assumption | apply Only.wr | apply Only.flag | apply Only.bump | apply State.edgeAtMeridian_only | intro _ _ _
    | intro _ _ | split | apply Only.upd | exact .inr rfl | (left; assumption)

theorem State.sleepRefuse_only
    (h : Only P s t) (k : Nat) (tmo : Bool) (h1 : P .edgeDue) (h2 : P .idleAt) (h3 : P (.field NW.ABORT.BLOCK.key))
    (h4 : P (.field NW.ABORT.COUNT.key)) (h5 : P (.field NW.ABORT.TARGET.key)) (h6 : P (.field NW.ABORT.TMO.key))
    (h7 : P (.field NW.STS.BACKOFF.key)) (h8 : P (.field NW.STS.STATE.key)) (h9 : P .sleep) :
    Only P s (t.sleepRefuse k tmo) := by
  unfold State.sleepRefuse
  repeat' with_reducible first
    | assumption | apply Only.wr | apply State.sleepAbort_only

theorem State.enterDusk_only
    (h : Only P s t) (h1 : P .phase) (h2 : ∀ i, P (.port i)) (h3 : P (.field NW.CNT.DUSKCNT.key))
    (h4 : P (.field NW.STS.BACKOFF.key)) (h5 : P (.field NW.STS.STATE.key)) (h6 : P .sleep) :
    Only P s (t.enterDusk) := by
  unfold State.enterDusk
  repeat' with_reducible first
    | assumption | apply Only.forEach | apply Only.wr | apply Only.bump | apply Only.modPort | apply h2
    | intro _ _ _ | intro _ _ | split | apply Only.upd | exact .inr rfl | (left; assumption)

theorem State.enterEclipse_only
    (h : Only P s t) (h1 : P .outs) (h2 : P .phase) (h3 : ∀ i, P (.port i)) (h4 : P (.field NW.CNT.ECLCNT.key))
    (h5 : P (.field NW.STS.BACKOFF.key)) (h6 : P (.field NW.STS.STATE.key))
    (h7 : ∀ i, P (.field (PRT.TCSTS.RPADV i).key)) (h8 : P .retain) (h9 : P .sleep) :
    Only P s (t.enterEclipse) := by
  have k0 := (h.emit .pinsEclipse h1).forEach allPorts (fun t n =>
    ((t.fbiHiZ n).wr (PRT.TCSTS.RPADV n) 0).modPort n (fun p => { p with presRd := false })) (fun u n k => by
      have a : Only P s (u.fbiHiZ n) := (by apply State.fbiHiZ_only k <;> with_reducible first | assumption | apply_assumption)
      exact (a.wr (PRT.TCSTS.RPADV n) 0 (h7 n)).modPort n _ (h3 n))
  have k1 := ((k0.wr NW.STS.STATE 2 h6).wr NW.STS.BACKOFF 0 h5).bump NW.CNT.ECLCNT 1 h4
  unfold State.enterEclipse
  extract_lets s0 s1
  apply Only.upd (t := s1) k1 <;> first | (left; with_reducible assumption) | exact .inr rfl

theorem State.wakeEvent_only
    (h : Only P s t) (cause src detail : Nat) (h1 : P .edgeDue) (h2 : P .idleAt)
    (h3 : P (.field NW.ABORT.BLOCK.key)) (h4 : P (.field NW.ABORT.COUNT.key)) (h5 : P (.field NW.ABORT.TARGET.key))
    (h6 : P (.field NW.ABORT.TMO.key)) (h7 : P (.field NW.STS.STATE.key)) (h8 : P (.field NW.WAKE.CAUSE.key))
    (h9 : P (.field NW.WAKE.DETAIL.key)) (h10 : P (.field NW.WAKE.FROM.key)) (h11 : P (.field NW.WAKE.SRC.key))
    (h12 : P (.field NW.WAKE.VALID.key)) (h13 : P .sleep) :
    Only P s (t.wakeEvent cause src detail) := by
  unfold State.wakeEvent
  repeat' with_reducible first
    | assumption | apply Only.wr | apply Only.raise | apply State.sleepAbort_only | intro _ _ _ | intro _ _ | split
    | apply Only.upd | exact .inr rfl | (left; assumption)

theorem State.identFail_only
    (h : Only P s t) (q : Nat) (h1 : P (.field (QD.EVT.IDFAIL q).key)) :
    Only P s (t.identFail q) := by
  unfold State.identFail
  repeat' with_reducible first
    | assumption | apply Only.raise

theorem State.linkLost_only
    (h : Only P s t) (i : Nat) (h1 : P (.field (SEC.EVT.EVENTS i).key))
    (h2 : P (.field (SEC.LINKCNT.RETRAIN i).key)) (h3 : P (.field (SEC.STS.HOLD i).key))
    (h4 : P (.field (SEC.STS.LINK i).key)) (h5 : P (.sec i)) :
    Only P s (t.linkLost i) := by
  unfold State.linkLost
  repeat' with_reducible first
    | assumption | apply Only.wr | apply Only.raise | apply Only.bump | apply Only.orBits | apply Only.modSec

theorem State.linkBack_only
    (h : Only P s t) (n : Nat) (h1 : P .copies) (h2 : P .edgeDue) (h3 : P .freeCtr) (h4 : P .outs)
    (h5 : ∀ i, P (.port i)) (h6 : P (.field LDS.CHG0.P00_P31.key)) (h7 : P (.field LDS.CHG1.P32_P47.key))
    (h8 : P (.field (LDS.RSUM.HBUSED n).key)) (h9 : P (.field (LDS.RSUM.IDVALID n).key))
    (h10 : P (.field (LDS.RSUM.PROFILE n).key)) (h11 : P (.field (LDS.RSUM.RESULT n).key))
    (h12 : P (.field (LDS.RSUM.STATE n).key)) (h13 : P (.field PKM.FENCE.FALLBACK.key))
    (h14 : P (.field PKM.FREESTS.WAS.key)) (h15 : P (.field PKM.GCNT0.FREE.key))
    (h16 : P (.field PKM.GCNT0.QUEUED.key)) (h17 : P (.field PKM.GCNT1.INFLIGHT.key))
    (h18 : P (.field PKM.GCNT2.POOLFREE.key)) (h19 : ∀ i, P (.field (PKM.IQPTR.RPTR i).key))
    (h20 : P (.field (PRT.ALTMUX.ACTIVE n).key)) (h21 : P (.field (PRT.ALTMUX.NAKCNT n).key))
    (h22 : ∀ i, P (.field (PRT.ALTMUX.QBUSY i).key)) (h23 : ∀ i, P (.field (PRT.ALTMUX.QHOLD i).key))
    (h24 : P (.field (PRT.FUSEVT.PGOFF n).key)) (h25 : P (.field (PRT.FUSSTS.FOLD n).key))
    (h26 : P (.field (PRT.FUSSTS.FTFILL n).key)) (h27 : P (.field (PRT.FUSSTS.GATEON n).key))
    (h28 : P (.field (PRT.FUSSTS.LIMIT n).key)) (h29 : P (.field (PRT.FUSSTS.PG n).key))
    (h30 : P (.field (PRT.HUBCHG.C_CONNECTION n).key)) (h31 : P (.field (PRT.HUBCHG.C_ENABLE n).key))
    (h32 : P (.field (PRT.HUBCHG.C_OVERCUR n).key)) (h33 : P (.field (PRT.HUBCHG.C_RESET n).key))
    (h34 : P (.field (PRT.HUBCHG.C_SUSPEND n).key)) (h35 : P (.field (PRT.HUBSTS.CONNECTION n).key))
    (h36 : P (.field (PRT.HUBSTS.ENABLE n).key)) (h37 : P (.field (PRT.HUBSTS.HIGHSPD n).key))
    (h38 : P (.field (PRT.HUBSTS.LOWSPD n).key)) (h39 : P (.field (PRT.HUBSTS.POWER n).key))
    (h40 : P (.field (PRT.HUBSTS.RESET n).key)) (h41 : P (.field (PRT.HUBSTS.STATE n).key))
    (h42 : P (.field (PRT.HUBSTS.SUSPEND n).key)) (h43 : P (.field (PRT.HUBSTS.TEST n).key))
    (h44 : P (.field (PRT.IBUSMEAS.ISET n).key)) (h45 : P (.field (PRT.MTRCNT.DATAHIT n).key))
    (h46 : P (.field (PRT.MTRCNT.NAKHIT n).key)) (h47 : P (.field (PRT.MTRSTS.STRANDED n).key))
    (h48 : P (.field (PRT.MTRSTS.WITHDRAWN n).key)) (h49 : P (.field (PRT.OWNER.OWN n).key))
    (h50 : P (.field (PRT.OWNER.STATE n).key)) (h51 : P (.field (PRT.PDCNT.HRRCVD n).key))
    (h52 : P (.field (PRT.PDCNT.HRSENT n).key)) (h53 : P (.field (PRT.PDCNT.REJECTS n).key))
    (h54 : P (.field (PRT.PDSTS.ALTMODE n).key)) (h55 : P (.field (PRT.PDSTS.CABLE n).key))
    (h56 : P (.field (PRT.PDSTS.EVT n).key)) (h57 : P (.field (PRT.PDSTS.EXPLICIT n).key))
    (h58 : P (.field (PRT.PDSTS.OBJPOS n).key)) (h59 : P (.field (PRT.PDSTS.OPCURR n).key))
    (h60 : P (.field (PRT.PDSTS.PWRROLE n).key)) (h61 : P (.field (PRT.PDSTS.REV n).key))
    (h62 : P (.field (PRT.PDSTS.VCSRC n).key)) (h63 : P (.field (PRT.PDSTS.VSEL n).key))
    (h64 : P (.field (PRT.QSTS.STOPPED n).key)) (h65 : P (.field (PRT.TCEVT.ERRREC n).key))
    (h66 : P (.field (PRT.TCEVT.OOS n).key)) (h67 : P (.field (PRT.TCEVT.WETOUT n).key))
    (h68 : P (.field (PRT.TCSTS.LEAKMIN n).key)) (h69 : P (.field (PRT.TCSTS.MOISTOK n).key))
    (h70 : P (.field (PRT.TCSTS.OOS n).key)) (h71 : P (.field (PRT.TCSTS.ORIENT n).key))
    (h72 : P (.field (PRT.TCSTS.RPADV n).key)) (h73 : P (.field (PRT.TCSTS.TCSTATE n).key))
    (h74 : P (.field (PRT.TCSTS.WET n).key)) (h75 : P (.field (PRT.TCSTS.WETGND n).key))
    (h76 : P (.field (PRT.TCSTS.WETPIN n).key)) (h77 : P (.field (PRT.TCSTS.WETVBUS n).key))
    (h78 : P (.field (PRT.VCONN.ON n).key)) (h79 : P (.field (PRT.VCONN.PIN n).key))
    (h80 : P (.field (PRT.VCONN.SWAPCNT n).key)) (h81 : P (.field PWR.CNT.REJECTS.key))
    (h82 : P (.field (PWR.PALLOW.SHED n).key)) (h83 : P (.field (PWR.PALLOW.WAIT n).key))
    (h84 : P (.field (PWR.PBOOK.COMMIT n).key)) (h85 : P (.field (PWR.PBOOK.CONTRACT n).key))
    (h86 : ∀ i, P (.field (PWR.QBOOK.COMMIT i).key)) (h87 : ∀ i, P (.field (PWR.QBOOK.CONTRACT i).key))
    (h88 : P (.field PWR.TOTCOM.COMMIT.key)) (h89 : P (.field PWR.TOTCON.CONTRACT.key))
    (h90 : ∀ i, P (.field (SWX.CNTA.STALE i).key)) (h91 : ∀ i, P (.field (SWX.CNTB.RLYWD i).key)) (h92 : P .sw)
    (h93 : ∀ i, P (.up i)) :
    Only P s (t.linkBack n) := by
  unfold State.linkBack
  extract_lets s1 s2 s3 p s4 s5 s6
  have md : ∀ y g, Only P s y → Only P s (y.modPort n g) := fun y g k => by
    apply k.modPort
    with_reducible first | assumption | apply_assumption
  have k1 : Only P s s1 := (by apply State.evalDemand_only h <;> with_reducible first | assumption | apply_assumption)
  have k2 : Only P s s2 := Only.ite ((by apply State.errorRecovery_only (md _ _ k1) <;> with_reducible first | assumption | apply_assumption)) k1
  have k3 : Only P s s3 := Only.ite ((by apply State.powerCut_only k2 <;> with_reducible first | assumption | apply_assumption)) k2
  have k4 : Only P s s4 := Only.ite ((by apply State.fbiDrive_only k3 <;> with_reducible first | assumption | apply_assumption)) k3
  have k5 : Only P s s5 := Only.ite ((by apply State.ccOn_only k4 <;> with_reducible first | assumption | apply_assumption)) k4
  have k6 : Only P s (s5.rpSettle n) := (by apply State.rpSettle_only k5 <;> with_reducible first | assumption | apply_assumption)
  have k7 : Only P s s6 := (by apply State.rpFollow_only k6 <;> with_reducible first | assumption | apply_assumption)
  have k8 : Only P s (if p.gate then s6.setIset n else s6) := Only.ite ((by apply State.setIset_only k7 <;> with_reducible first | assumption | apply_assumption)) k7
  have k9 : Only P s ((if p.gate then s6.setIset n else s6).hresetRun n) := (by apply State.hresetRun_only k8 <;> with_reducible first | assumption | apply_assumption)
  have k10 : Only P s (((if p.gate then s6.setIset n else s6).hresetRun n).deliverStored n) := (by apply State.deliverStored_only k9 <;> with_reducible first | assumption | apply_assumption)
  exact (by apply State.tryApply_only k10 <;> with_reducible first | assumption | apply_assumption)

end Sys2Proof.Machine
end

