-- ==== Sys2Proof/Laws/OnlyFaults.lean ====
section
/-! SUPPORT. One lemma per operation that can record a fault, restart a part, or belongs to an update, a trip or a fence:
what it may change. FaultMay says once that everything in faultSpots may change. -/

namespace Sys2Proof.Machine

variable {P : Part → Prop}

theorem Spot.may_one (q : Part) : (∀ p, (Spot.one q).has p → P p) ↔ P q := by simp [Spot.has]
theorem Spot.may_reg (f : Field) : (∀ p, (Spot.reg f).has p → P p) ↔ P (.field f.key) := Spot.may_one _
theorem Spot.may_all (f : Nat → Part) : (∀ p, (Spot.all f).has p → P p) ↔ ∀ i, P (f i) := by
  simp only [Spot.has]
  exact ⟨fun h i => h _ ⟨i, rfl⟩, fun h p ⟨i, e⟩ => e ▸ h i⟩
theorem Spot.may_regs (f : Nat → Field) : (∀ p, (Spot.regs f).has p → P p) ↔ ∀ i, P (.field (f i).key) :=
  Spot.may_all _
theorem Spot.may_any (l : Nat → List Field) : (∀ p, (Spot.any l).has p → P p) ↔ ∀ i, ∀ f ∈ l i, P (.field f.key) := by
  simp only [Spot.has]
  exact ⟨fun h i f hf => h _ ⟨i, f, hf, rfl⟩, fun h p ⟨i, f, hf, e⟩ => e ▸ h i f hf⟩
theorem Spot.may_blks (f : FBlk → Field) : (∀ p, (Spot.blks f).has p → P p) ↔ ∀ b : FBlk, P (.field (f b).key) := by
  simp only [Spot.has]
  exact ⟨fun h b => h _ ⟨b, rfl⟩, fun h p ⟨b, e⟩ => e ▸ h b⟩
theorem Spot.may_tab (f : Nat → Nat → Field) :
    (∀ p, (Spot.tab f).has p → P p) ↔ ∀ i j, P (.field (f i j).key) := by
  simp only [Spot.has]
  exact ⟨fun h i j => h _ ⟨i, j, rfl⟩, fun h p ⟨i, j, e⟩ => e ▸ h i j⟩

/-- Every place of faultSpots may change. -/
structure FaultMay (P : Part → Prop) : Prop where
  boot : P .boot
  copies : P .copies
  edgeDue : P .edgeDue
  faultWidth : P .faultWidth
  flash : P .flash
  flt : ∀ i, P (.flt i)
  freeCtr : P .freeCtr
  icuTimer : P .icuTimer
  img : ∀ i, ∀ f ∈ portImageFields i, P (.field f.key)
  imgq : ∀ i, ∀ f ∈ quadImage i, P (.field f.key)
  imgs : ∀ i, ∀ f ∈ secImage i, P (.field f.key)
  mb : ∀ i, P (.mb i)
  outs : P .outs
  port : ∀ i, P (.port i)
  quad : ∀ i, P (.quad i)
  retain : P .retain
  safe : P .safe
  sec : ∀ i, P (.sec i)
  stopped : P .stopped
  sw : P .sw
  up : ∀ i, P (.up i)
  upd : P .upd
  boot_jseq_jseq : P (.field BOOT.JSEQ.JSEQ.key)
  boot_updsts_busy : P (.field BOOT.UPDSTS.BUSY.key)
  boot_updsts_owner : P (.field BOOT.UPDSTS.OWNER.key)
  boot_updsts_session : P (.field BOOT.UPDSTS.SESSION.key)
  flt_fltfirst_mer : ∀ b : FBlk, P (.field (FLT.FLTFIRST.MER b).key)
  flt_fltfirst_sev : ∀ b : FBlk, P (.field (FLT.FLTFIRST.SEV b).key)
  flt_fltfirst_src : ∀ b : FBlk, P (.field (FLT.FLTFIRST.SRC b).key)
  flt_fltfirst_valid : ∀ b : FBlk, P (.field (FLT.FLTFIRST.VALID b).key)
  flt_fltsts_src : ∀ b : FBlk, P (.field (FLT.FLTSTS.SRC b).key)
  flt_flttimers_state : ∀ b : FBlk, P (.field (FLT.FLTTIMERS.STATE b).key)
  flt_recov_count : ∀ b : FBlk, P (.field (FLT.RECOV.COUNT b).key)
  flt_recov_evcnt : ∀ b : FBlk, P (.field (FLT.RECOV.EVCNT b).key)
  flt_recov_lasting : ∀ b : FBlk, P (.field (FLT.RECOV.LASTING b).key)
  flt_recov_latched : ∀ b : FBlk, P (.field (FLT.RECOV.LATCHED b).key)
  flt_recov_window : ∀ b : FBlk, P (.field (FLT.RECOV.WINDOW b).key)
  icu_src_sts_insvc : ∀ i, P (.field (ICU.SRC_STS.INSVC i).key)
  icu_src_sts_lost : ∀ i, P (.field (ICU.SRC_STS.LOST i).key)
  icu_src_sts_lostcnt : ∀ i, P (.field (ICU.SRC_STS.LOSTCNT i).key)
  icu_src_sts_pend : ∀ i, P (.field (ICU.SRC_STS.PEND i).key)
  icu_tstat_held : ∀ i, P (.field (ICU.TSTAT.HELD i).key)
  icu_tstat_insvc : ∀ i, P (.field (ICU.TSTAT.INSVC i).key)
  icu_tstat_line : ∀ i, P (.field (ICU.TSTAT.LINE i).key)
  icu_tstat_orderr : ∀ i, P (.field (ICU.TSTAT.ORDERR i).key)
  lds_chg0_p00_p31 : P (.field LDS.CHG0.P00_P31.key)
  lds_chg1_p32_p47 : P (.field LDS.CHG1.P32_P47.key)
  lds_rsum_hbused : ∀ i, P (.field (LDS.RSUM.HBUSED i).key)
  lds_rsum_idvalid : ∀ i, P (.field (LDS.RSUM.IDVALID i).key)
  lds_rsum_profile : ∀ i, P (.field (LDS.RSUM.PROFILE i).key)
  lds_rsum_result : ∀ i, P (.field (LDS.RSUM.RESULT i).key)
  lds_rsum_state : ∀ i, P (.field (LDS.RSUM.STATE i).key)
  mbx_bulk_held : P (.field MBX.BULK.HELD.key)
  mbx_bulk_holder : P (.field MBX.BULK.HOLDER.key)
  mbx_ctrl_busy : ∀ i, P (.field (MBX.CTRL.BUSY i).key)
  mbx_ctrl_valid : ∀ i, P (.field (MBX.CTRL.VALID i).key)
  pkm_fence_fallback : P (.field PKM.FENCE.FALLBACK.key)
  pkm_freests_was : P (.field PKM.FREESTS.WAS.key)
  pkm_gcnt0_free : P (.field PKM.GCNT0.FREE.key)
  pkm_gcnt0_queued : P (.field PKM.GCNT0.QUEUED.key)
  pkm_gcnt1_inflight : P (.field PKM.GCNT1.INFLIGHT.key)
  pkm_gcnt2_poolfree : P (.field PKM.GCNT2.POOLFREE.key)
  pkm_iqptr_rptr : ∀ i, P (.field (PKM.IQPTR.RPTR i).key)
  pkm_iqptr_wptr : ∀ i, P (.field (PKM.IQPTR.WPTR i).key)
  prt_altmux_active : ∀ i, P (.field (PRT.ALTMUX.ACTIVE i).key)
  prt_altmux_qbusy : ∀ i, P (.field (PRT.ALTMUX.QBUSY i).key)
  prt_altmux_qhold : ∀ i, P (.field (PRT.ALTMUX.QHOLD i).key)
  prt_fusevt_pgoff : ∀ i, P (.field (PRT.FUSEVT.PGOFF i).key)
  prt_fussts_fold : ∀ i, P (.field (PRT.FUSSTS.FOLD i).key)
  prt_fussts_ftfill : ∀ i, P (.field (PRT.FUSSTS.FTFILL i).key)
  prt_fussts_gateon : ∀ i, P (.field (PRT.FUSSTS.GATEON i).key)
  prt_fussts_limit : ∀ i, P (.field (PRT.FUSSTS.LIMIT i).key)
  prt_fussts_pg : ∀ i, P (.field (PRT.FUSSTS.PG i).key)
  prt_hubchg_c_connection : ∀ i, P (.field (PRT.HUBCHG.C_CONNECTION i).key)
  prt_hubchg_c_enable : ∀ i, P (.field (PRT.HUBCHG.C_ENABLE i).key)
  prt_hubchg_c_overcur : ∀ i, P (.field (PRT.HUBCHG.C_OVERCUR i).key)
  prt_hubchg_c_reset : ∀ i, P (.field (PRT.HUBCHG.C_RESET i).key)
  prt_hubchg_c_suspend : ∀ i, P (.field (PRT.HUBCHG.C_SUSPEND i).key)
  prt_hubsts_connection : ∀ i, P (.field (PRT.HUBSTS.CONNECTION i).key)
  prt_hubsts_enable : ∀ i, P (.field (PRT.HUBSTS.ENABLE i).key)
  prt_hubsts_highspd : ∀ i, P (.field (PRT.HUBSTS.HIGHSPD i).key)
  prt_hubsts_lowspd : ∀ i, P (.field (PRT.HUBSTS.LOWSPD i).key)
  prt_hubsts_overcur : ∀ i, P (.field (PRT.HUBSTS.OVERCUR i).key)
  prt_hubsts_power : ∀ i, P (.field (PRT.HUBSTS.POWER i).key)
  prt_hubsts_reset : ∀ i, P (.field (PRT.HUBSTS.RESET i).key)
  prt_hubsts_state : ∀ i, P (.field (PRT.HUBSTS.STATE i).key)
  prt_hubsts_suspend : ∀ i, P (.field (PRT.HUBSTS.SUSPEND i).key)
  prt_hubsts_test : ∀ i, P (.field (PRT.HUBSTS.TEST i).key)
  prt_mtrcnt_datahit : ∀ i, P (.field (PRT.MTRCNT.DATAHIT i).key)
  prt_mtrcnt_nakhit : ∀ i, P (.field (PRT.MTRCNT.NAKHIT i).key)
  prt_mtrsts_stranded : ∀ i, P (.field (PRT.MTRSTS.STRANDED i).key)
  prt_mtrsts_withdrawn : ∀ i, P (.field (PRT.MTRSTS.WITHDRAWN i).key)
  prt_owner_own : ∀ i, P (.field (PRT.OWNER.OWN i).key)
  prt_owner_state : ∀ i, P (.field (PRT.OWNER.STATE i).key)
  prt_pdsts_altmode : ∀ i, P (.field (PRT.PDSTS.ALTMODE i).key)
  prt_pdsts_evt : ∀ i, P (.field (PRT.PDSTS.EVT i).key)
  prt_pdsts_explicit : ∀ i, P (.field (PRT.PDSTS.EXPLICIT i).key)
  prt_pdsts_objpos : ∀ i, P (.field (PRT.PDSTS.OBJPOS i).key)
  prt_pdsts_opcurr : ∀ i, P (.field (PRT.PDSTS.OPCURR i).key)
  prt_pdsts_pwrrole : ∀ i, P (.field (PRT.PDSTS.PWRROLE i).key)
  prt_pdsts_vcsrc : ∀ i, P (.field (PRT.PDSTS.VCSRC i).key)
  prt_pdsts_vsel : ∀ i, P (.field (PRT.PDSTS.VSEL i).key)
  prt_qsts_stopped : ∀ i, P (.field (PRT.QSTS.STOPPED i).key)
  prt_tcevt_oos : ∀ i, P (.field (PRT.TCEVT.OOS i).key)
  prt_tcevt_wetout : ∀ i, P (.field (PRT.TCEVT.WETOUT i).key)
  prt_tcsts_moistok : ∀ i, P (.field (PRT.TCSTS.MOISTOK i).key)
  prt_tcsts_oos : ∀ i, P (.field (PRT.TCSTS.OOS i).key)
  prt_tcsts_orient : ∀ i, P (.field (PRT.TCSTS.ORIENT i).key)
  prt_tcsts_rpadv : ∀ i, P (.field (PRT.TCSTS.RPADV i).key)
  prt_tcsts_tcstate : ∀ i, P (.field (PRT.TCSTS.TCSTATE i).key)
  prt_tcsts_wet : ∀ i, P (.field (PRT.TCSTS.WET i).key)
  prt_tcsts_wetgnd : ∀ i, P (.field (PRT.TCSTS.WETGND i).key)
  prt_tcsts_wetpin : ∀ i, P (.field (PRT.TCSTS.WETPIN i).key)
  prt_tcsts_wetvbus : ∀ i, P (.field (PRT.TCSTS.WETVBUS i).key)
  prt_vconn_on : ∀ i, P (.field (PRT.VCONN.ON i).key)
  pwr_pallow_shed : ∀ i, P (.field (PWR.PALLOW.SHED i).key)
  pwr_pallow_wait : ∀ i, P (.field (PWR.PALLOW.WAIT i).key)
  pwr_pbook_commit : ∀ i, P (.field (PWR.PBOOK.COMMIT i).key)
  pwr_pbook_contract : ∀ i, P (.field (PWR.PBOOK.CONTRACT i).key)
  pwr_qbook_commit : ∀ i, P (.field (PWR.QBOOK.COMMIT i).key)
  pwr_qbook_contract : ∀ i, P (.field (PWR.QBOOK.CONTRACT i).key)
  pwr_totcom_commit : P (.field PWR.TOTCOM.COMMIT.key)
  pwr_totcon_contract : P (.field PWR.TOTCON.CONTRACT.key)
  sec_evt_events : ∀ i, P (.field (SEC.EVT.EVENTS i).key)
  sec_sts_pcrun : ∀ i, P (.field (SEC.STS.PCRUN i).key)
  sec_sts_present : ∀ i, P (.field (SEC.STS.PRESENT i).key)
  sec_sts_serun : ∀ i, P (.field (SEC.STS.SERUN i).key)
  sec_sts_vconnok : ∀ i, P (.field (SEC.STS.VCONNOK i).key)
  swx_cnta_stale : ∀ i, P (.field (SWX.CNTA.STALE i).key)
  swx_cntb_rlywd : ∀ i, P (.field (SWX.CNTB.RLYWD i).key)
  sys_faultpin_force : P (.field SYS.FAULTPIN.FORCE.key)
  sys_faultpin_pin : P (.field SYS.FAULTPIN.PIN.key)
  ups_cnt0_abortcnt : ∀ i, P (.field (UPS.CNT0.ABORTCNT i).key)
  ups_evt_ctlabort : ∀ i, P (.field (UPS.EVT.CTLABORT i).key)
  ups_sts_addr : ∀ i, P (.field (UPS.STS.ADDR i).key)
  ups_sts_altset : ∀ i, P (.field (UPS.STS.ALTSET i).key)
  ups_sts_devstate : ∀ i, P (.field (UPS.STS.DEVSTATE i).key)
  ups_sts_hs : ∀ i, P (.field (UPS.STS.HS i).key)
  ups_sts_pullup : ∀ i, P (.field (UPS.STS.PULLUP i).key)
  ups_sts_rwakeen : ∀ i, P (.field (UPS.STS.RWAKEEN i).key)
  ups_sts_staged : ∀ i, P (.field (UPS.STS.STAGED i).key)
  ups_sts_susp : ∀ i, P (.field (UPS.STS.SUSP i).key)

/-- A set of parts that holds the places of faultSpots. -/
theorem FaultMay.of_spots (h : ∀ x ∈ faultSpots, ∀ p, x.has p → P p) : FaultMay P := by
  simp only [faultSpots, List.flatten_cons, List.flatten_nil, List.append_nil, List.forall_mem_append,
    List.forall_mem_cons, Spot.each, List.map_cons, List.map_nil, poolSpots, downFields, hubFields, chgFields,
    rosterFields, bookSpots, List.not_mem_nil, false_imp_iff, implies_true, and_true, and_assoc, Spot.may_one, Spot.may_reg,
    Spot.may_all, Spot.may_regs, Spot.may_any, Spot.may_blks] at h
  obtain ⟨edgeDue, outs, sw, pkm_fence_fallback, pkm_freests_was, pkm_gcnt0_free, pkm_gcnt0_queued,
    pkm_gcnt1_inflight, pkm_gcnt2_poolfree, pkm_iqptr_rptr, prt_altmux_active, prt_altmux_qbusy, prt_altmux_qhold,
    prt_fusevt_pgoff, prt_fussts_fold, prt_fussts_gateon, prt_fussts_limit, prt_fussts_pg, prt_hubsts_connection,
    prt_hubsts_highspd, prt_hubsts_lowspd, prt_mtrcnt_datahit, prt_mtrcnt_nakhit, prt_mtrsts_stranded,
    prt_mtrsts_withdrawn, prt_pdsts_altmode, prt_pdsts_evt, prt_pdsts_explicit, prt_pdsts_objpos, prt_pdsts_opcurr,
    prt_pdsts_pwrrole, prt_pdsts_vcsrc, prt_pdsts_vsel, prt_qsts_stopped, prt_tcevt_wetout, prt_tcsts_moistok,
    prt_tcsts_orient, prt_tcsts_tcstate, prt_tcsts_wet, prt_tcsts_wetgnd, prt_tcsts_wetpin, prt_tcsts_wetvbus,
    prt_vconn_on, pwr_pallow_shed, pwr_pallow_wait, pwr_pbook_commit, pwr_pbook_contract, prt_hubsts_state,
    prt_hubsts_enable, prt_hubsts_suspend, prt_hubsts_reset, prt_hubsts_test, prt_hubchg_c_connection,
    prt_hubchg_c_enable, prt_hubchg_c_suspend, prt_hubchg_c_overcur, prt_hubchg_c_reset, lds_rsum_state,
    lds_rsum_result, lds_rsum_profile, lds_rsum_idvalid, lds_rsum_hbused, pwr_qbook_commit, pwr_qbook_contract,
    pwr_totcom_commit, pwr_totcon_contract, boot, copies, faultWidth, flash, flt, freeCtr, icuTimer, img, imgq,
    imgs, mb, port, quad, retain, safe, sec, stopped, up, upd, boot_jseq_jseq, boot_updsts_busy, boot_updsts_owner,
    boot_updsts_session, flt_fltfirst_mer, flt_fltfirst_sev, flt_fltfirst_src, flt_fltfirst_valid, flt_fltsts_src,
    flt_flttimers_state, flt_recov_count, flt_recov_evcnt, flt_recov_lasting, flt_recov_latched, flt_recov_window,
    icu_src_sts_insvc, icu_src_sts_lost, icu_src_sts_lostcnt, icu_src_sts_pend, icu_tstat_held, icu_tstat_insvc,
    icu_tstat_line, icu_tstat_orderr, lds_chg0_p00_p31, lds_chg1_p32_p47, mbx_bulk_held, mbx_bulk_holder,
    mbx_ctrl_busy, mbx_ctrl_valid, pkm_iqptr_wptr, prt_fussts_ftfill, prt_hubsts_overcur, prt_hubsts_power,
    prt_owner_own, prt_owner_state, prt_tcevt_oos, prt_tcsts_oos, prt_tcsts_rpadv, sec_evt_events, sec_sts_pcrun,
    sec_sts_present, sec_sts_serun, sec_sts_vconnok, swx_cnta_stale, swx_cntb_rlywd, sys_faultpin_force,
    sys_faultpin_pin, ups_cnt0_abortcnt, ups_evt_ctlabort, ups_sts_addr, ups_sts_altset, ups_sts_devstate,
    ups_sts_hs, ups_sts_pullup, ups_sts_rwakeen, ups_sts_staged, ups_sts_susp⟩ := h
  exact ⟨boot, copies, edgeDue, faultWidth, flash, flt, freeCtr, icuTimer, img, imgq, imgs, mb, outs, port, quad,
    retain, safe, sec, stopped, sw, up, upd, boot_jseq_jseq, boot_updsts_busy, boot_updsts_owner,
    boot_updsts_session, flt_fltfirst_mer, flt_fltfirst_sev, flt_fltfirst_src, flt_fltfirst_valid, flt_fltsts_src,
    flt_flttimers_state, flt_recov_count, flt_recov_evcnt, flt_recov_lasting, flt_recov_latched, flt_recov_window,
    icu_src_sts_insvc, icu_src_sts_lost, icu_src_sts_lostcnt, icu_src_sts_pend, icu_tstat_held, icu_tstat_insvc,
    icu_tstat_line, icu_tstat_orderr, lds_chg0_p00_p31, lds_chg1_p32_p47, lds_rsum_hbused, lds_rsum_idvalid,
    lds_rsum_profile, lds_rsum_result, lds_rsum_state, mbx_bulk_held, mbx_bulk_holder, mbx_ctrl_busy,
    mbx_ctrl_valid, pkm_fence_fallback, pkm_freests_was, pkm_gcnt0_free, pkm_gcnt0_queued, pkm_gcnt1_inflight,
    pkm_gcnt2_poolfree, pkm_iqptr_rptr, pkm_iqptr_wptr, prt_altmux_active, prt_altmux_qbusy, prt_altmux_qhold,
    prt_fusevt_pgoff, prt_fussts_fold, prt_fussts_ftfill, prt_fussts_gateon, prt_fussts_limit, prt_fussts_pg,
    prt_hubchg_c_connection, prt_hubchg_c_enable, prt_hubchg_c_overcur, prt_hubchg_c_reset, prt_hubchg_c_suspend,
    prt_hubsts_connection, prt_hubsts_enable, prt_hubsts_highspd, prt_hubsts_lowspd, prt_hubsts_overcur,
    prt_hubsts_power, prt_hubsts_reset, prt_hubsts_state, prt_hubsts_suspend, prt_hubsts_test, prt_mtrcnt_datahit,
    prt_mtrcnt_nakhit, prt_mtrsts_stranded, prt_mtrsts_withdrawn, prt_owner_own, prt_owner_state, prt_pdsts_altmode,
    prt_pdsts_evt, prt_pdsts_explicit, prt_pdsts_objpos, prt_pdsts_opcurr, prt_pdsts_pwrrole, prt_pdsts_vcsrc,
    prt_pdsts_vsel, prt_qsts_stopped, prt_tcevt_oos, prt_tcevt_wetout, prt_tcsts_moistok, prt_tcsts_oos,
    prt_tcsts_orient, prt_tcsts_rpadv, prt_tcsts_tcstate, prt_tcsts_wet, prt_tcsts_wetgnd, prt_tcsts_wetpin,
    prt_tcsts_wetvbus, prt_vconn_on, pwr_pallow_shed, pwr_pallow_wait, pwr_pbook_commit, pwr_pbook_contract,
    pwr_qbook_commit, pwr_qbook_contract, pwr_totcom_commit, pwr_totcon_contract, sec_evt_events, sec_sts_pcrun,
    sec_sts_present, sec_sts_serun, sec_sts_vconnok, swx_cnta_stale, swx_cntb_rlywd, sys_faultpin_force,
    sys_faultpin_pin, ups_cnt0_abortcnt, ups_evt_ctlabort, ups_sts_addr, ups_sts_altset, ups_sts_devstate,
    ups_sts_hs, ups_sts_pullup, ups_sts_rwakeen, ups_sts_staged, ups_sts_susp⟩

variable {s t : State}

theorem Only.imageAll (h : Only P s t) (l : List Field) (hl : ∀ f ∈ l, P (.field f.key)) :
    Only P s (l.foldl (fun a f => a.toImage f) t) := by
  induction l generalizing t with
  | nil => exact h
  | cons f l ih =>
    exact ih (h.toImage f (hl f (List.mem_cons_self ..))) (fun g hg => hl g (List.mem_cons_of_mem _ hg))

theorem Only.setSafe (h : Only P s t) (b : Bool) (hp : P .safe) : Only P s { t with safe := b } := by
  apply Only.upd h
  all_goals first | exact .inr rfl | exact .inl hp

theorem State.edge_only
    (h : Only P s t) (i : Nat) (h1 : P .icuTimer) (h2 : P (.field (ICU.SRC_STS.LOST i).key))
    (h3 : P (.field (ICU.SRC_STS.LOSTCNT i).key)) (h4 : P (.field (ICU.SRC_STS.PEND i).key))
    (h5 : ∀ i, P (.field (ICU.TSTAT.HELD i).key)) (h6 : ∀ i, P (.field (ICU.TSTAT.LINE i).key)) :
    Only P s (t.edge i) := by
  unfold State.edge
  repeat' with_reducible first
    | assumption | apply Only.raise | apply Only.bump | apply State.hold_only | apply h5 | apply h6 | intro _ _ _
    | intro _ _ | split | dsimp only

theorem State.recordOnly_only
    (h : Only P s t) (b : FBlk) (k : Nat) (h1 : P .icuTimer) (h2 : P (.field (FLT.FLTFIRST.MER b).key))
    (h3 : P (.field (FLT.FLTFIRST.SEV b).key)) (h4 : P (.field (FLT.FLTFIRST.SRC b).key))
    (h5 : P (.field (FLT.FLTFIRST.VALID b).key)) (h6 : P (.field (FLT.FLTSTS.SRC b).key))
    (h7 : P (.field (FLT.RECOV.EVCNT b).key)) (h8 : ∀ i, P (.field (ICU.SRC_STS.LOST i).key))
    (h9 : ∀ i, P (.field (ICU.SRC_STS.LOSTCNT i).key)) (h10 : ∀ i, P (.field (ICU.SRC_STS.PEND i).key))
    (h11 : ∀ i, P (.field (ICU.TSTAT.HELD i).key)) (h12 : ∀ i, P (.field (ICU.TSTAT.LINE i).key)) :
    Only P s (t.recordOnly b k) := by
  unfold State.recordOnly
  repeat' with_reducible first
    | assumption | apply Only.wr | apply Only.raise | apply Only.bump | apply Only.orBits | apply State.edge_only
    | apply h8 | apply h9 | apply h10 | apply h11 | apply h12 | intro _ _ _ | intro _ _ | split

theorem State.countRecovery_only
    (h : Only P s t) (b : FBlk) (h1 : P (.field (FLT.RECOV.COUNT b).key)) (h2 : P (.field (FLT.RECOV.WINDOW b).key)) :
    Only P s (t.countRecovery b) := by
  unfold State.countRecovery
  repeat' with_reducible first
    | assumption | apply Only.wr | apply Only.bump

theorem State.targetReset_only
    (h : Only P s t) (t_ : Nat) (h1 : P .icuTimer) (h2 : ∀ i, P (.field (ICU.SRC_STS.INSVC i).key))
    (h3 : P (.field (ICU.TSTAT.HELD t_).key)) (h4 : P (.field (ICU.TSTAT.INSVC t_).key))
    (h5 : P (.field (ICU.TSTAT.LINE t_).key)) (h6 : P (.field (ICU.TSTAT.ORDERR t_).key)) :
    Only P s (t.targetReset t_) := by
  unfold State.targetReset
  repeat' with_reducible first
    | assumption | apply Only.wr | apply State.deliver_only | apply h2 | intro _ _ _ | intro _ _ | split

theorem State.engineStop_only
    (h : Only P s t) (e : Nat) (h1 : P .icuTimer) (h2 : ∀ i, P (.field (ICU.SRC_STS.INSVC i).key))
    (h3 : P (.field (ICU.TSTAT.HELD e).key)) (h4 : P (.field (ICU.TSTAT.INSVC e).key))
    (h5 : P (.field (ICU.TSTAT.LINE e).key)) (h6 : P (.field (ICU.TSTAT.ORDERR e).key))
    (h7 : P (.field (SEC.EVT.EVENTS (e - 4)).key)) (h8 : P (.field (SEC.EVT.EVENTS e).key))
    (h9 : P (.field (SEC.STS.PCRUN (e - 4)).key)) (h10 : P (.field (SEC.STS.SERUN e).key)) (h11 : P .stopped) :
    Only P s (t.engineStop e) := by
  unfold State.engineStop
  repeat' with_reducible first
    | assumption | apply Only.wr | apply Only.orBits | apply State.targetReset_only | apply h2 | intro _ _ _
    | intro _ _ | split | apply Only.upd | exact .inr rfl | (left; assumption)

theorem State.ringWrite_only
    (h : Only P s t) (r : JRec) (h1 : P .boot) (h2 : P .flash) (h3 : P .outs) :
    Only P s (t.ringWrite r) := by
  unfold State.ringWrite
  repeat' with_reducible first
    | assumption | apply Only.flashErase | apply Only.flashProgram | intro _ _ _ | intro _ _ | split
    | apply Only.upd | exact .inr rfl | (left; assumption)

theorem State.ringFlush_only
    (h : Only P s t) (h1 : P .boot) (h2 : P .flash) (h3 : P .outs) :
    Only P s (t.ringFlush) := by
  unfold State.ringFlush
  repeat' with_reducible first
    | assumption | apply Only.foldl | apply State.ringWrite_only | intro _ _ _ | intro _ _ | split

theorem State.journal_only
    (h : Only P s t) (code inst outcome slot reason arg : Nat) (h1 : P .boot) (h2 : P .flash) (h3 : P .freeCtr)
    (h4 : P .outs) (h5 : P (.field BOOT.JSEQ.JSEQ.key)) (h6 : P .retain) :
    Only P s (t.journal code inst outcome slot reason arg) := by
  unfold State.journal
  repeat' with_reducible first
    | assumption | apply Only.wr | apply State.clockUs_only | apply State.ringFlush_only | intro _ _ _ | intro _ _
    | split | apply Only.upd | exact .inr rfl | (left; assumption)

theorem State.safeState_only
    (h : Only P s t) (b : FBlk) (k : Nat) (hF : FaultMay P) :
    Only P s (t.safeState b k) := by
  have k1 : Only P s (t.forEach allPorts (fun t n => (if (t.port n).demand then t.demandFall n else t).fbiHiZ n)) :=
      by
    refine h.forEach _ _ (fun u n hu => ?_)
    refine State.fbiHiZ_only ?_ _ hF.outs (hF.port _)
    refine Only.ite ?_ hu
    refine State.demandFall_only ?_ _ hF.edgeDue hF.freeCtr hF.outs hF.port hF.lds_chg0_p00_p31 hF.lds_chg1_p32_p47
        (hF.lds_rsum_hbused _) (hF.lds_rsum_idvalid _) (hF.lds_rsum_profile _) (hF.lds_rsum_result _)
        (hF.lds_rsum_state _) hF.pkm_fence_fallback hF.pkm_freests_was hF.pkm_gcnt0_free hF.pkm_gcnt0_queued
        hF.pkm_gcnt1_inflight hF.pkm_gcnt2_poolfree hF.pkm_iqptr_rptr (hF.prt_altmux_active _) hF.prt_altmux_qbusy
        hF.prt_altmux_qhold (hF.prt_fusevt_pgoff _) (hF.prt_fussts_fold _) (hF.prt_fussts_gateon _)
        (hF.prt_fussts_limit _) (hF.prt_fussts_pg _) (hF.prt_hubsts_connection _) (hF.prt_hubsts_enable _)
        (hF.prt_hubsts_highspd _) (hF.prt_hubsts_lowspd _) (hF.prt_hubsts_power _) (hF.prt_hubsts_reset _)
        (hF.prt_hubsts_state _) (hF.prt_hubsts_suspend _) (hF.prt_hubsts_test _) (hF.prt_mtrcnt_datahit _)
        (hF.prt_mtrcnt_nakhit _) (hF.prt_mtrsts_stranded _) (hF.prt_mtrsts_withdrawn _) (hF.prt_pdsts_altmode _)
        (hF.prt_pdsts_evt _) (hF.prt_pdsts_explicit _) (hF.prt_pdsts_objpos _) (hF.prt_pdsts_opcurr _)
        (hF.prt_pdsts_pwrrole _) (hF.prt_pdsts_vcsrc _) (hF.prt_pdsts_vsel _) (hF.prt_qsts_stopped _)
        (hF.prt_tcevt_wetout _) (hF.prt_tcsts_moistok _) (hF.prt_tcsts_orient _) (hF.prt_tcsts_tcstate _)
        (hF.prt_tcsts_wet _) (hF.prt_tcsts_wetgnd _) (hF.prt_tcsts_wetpin _) (hF.prt_tcsts_wetvbus _) (hF.prt_vconn_on
        _) (hF.pwr_pallow_shed _) (hF.pwr_pallow_wait _) (hF.pwr_pbook_commit _) (hF.pwr_pbook_contract _)
        hF.pwr_qbook_commit hF.pwr_qbook_contract hF.pwr_totcom_commit hF.pwr_totcon_contract hF.swx_cnta_stale
        hF.swx_cntb_rlywd hF.sw hF.up
    exact hu
  have k2 := k1.forEach (List.range 4) (fun t u => t.detachPers u) (fun u n hu => by
    refine State.detachPers_only ?_ _ hF.edgeDue hF.freeCtr (hF.mb _) hF.outs hF.port hF.boot_updsts_busy
        hF.boot_updsts_owner hF.boot_updsts_session hF.lds_chg0_p00_p31 hF.lds_chg1_p32_p47 hF.lds_rsum_hbused
        hF.lds_rsum_idvalid hF.lds_rsum_profile hF.lds_rsum_result hF.lds_rsum_state hF.mbx_bulk_held
        hF.mbx_bulk_holder (hF.mbx_ctrl_busy _) (hF.mbx_ctrl_valid _) hF.pkm_fence_fallback hF.pkm_freests_was
        hF.pkm_gcnt0_free hF.pkm_gcnt0_queued hF.pkm_gcnt1_inflight hF.pkm_gcnt2_poolfree hF.pkm_iqptr_rptr
        hF.prt_altmux_active hF.prt_altmux_qbusy hF.prt_altmux_qhold hF.prt_fusevt_pgoff hF.prt_fussts_fold
        hF.prt_fussts_gateon hF.prt_fussts_limit hF.prt_fussts_pg hF.prt_hubsts_connection hF.prt_hubsts_enable
        hF.prt_hubsts_highspd hF.prt_hubsts_lowspd hF.prt_hubsts_power hF.prt_hubsts_reset hF.prt_hubsts_state
        hF.prt_hubsts_suspend hF.prt_hubsts_test hF.prt_mtrcnt_datahit hF.prt_mtrcnt_nakhit hF.prt_mtrsts_stranded
        hF.prt_mtrsts_withdrawn hF.prt_pdsts_altmode hF.prt_pdsts_evt hF.prt_pdsts_explicit hF.prt_pdsts_objpos
        hF.prt_pdsts_opcurr hF.prt_pdsts_pwrrole hF.prt_pdsts_vcsrc hF.prt_pdsts_vsel hF.prt_qsts_stopped
        hF.prt_tcevt_oos hF.prt_tcevt_wetout hF.prt_tcsts_moistok hF.prt_tcsts_oos hF.prt_tcsts_orient
        hF.prt_tcsts_rpadv hF.prt_tcsts_tcstate hF.prt_tcsts_wet hF.prt_tcsts_wetgnd hF.prt_tcsts_wetpin
        hF.prt_tcsts_wetvbus hF.prt_vconn_on hF.pwr_pallow_shed hF.pwr_pallow_wait hF.pwr_pbook_commit
        hF.pwr_pbook_contract hF.pwr_qbook_commit hF.pwr_qbook_contract hF.pwr_totcom_commit hF.pwr_totcon_contract
        hF.swx_cnta_stale hF.swx_cntb_rlywd (hF.ups_cnt0_abortcnt _) (hF.ups_evt_ctlabort _) (hF.ups_sts_addr _)
        (hF.ups_sts_altset _) (hF.ups_sts_devstate _) (hF.ups_sts_hs _) (hF.ups_sts_pullup _) (hF.ups_sts_rwakeen _)
        (hF.ups_sts_staged _) (hF.ups_sts_susp _) hF.sw hF.up hF.upd
    exact hu)
  have k3 := k2.foldl FBlk.all (fun t c =>
      if c ≠ b ∧ (t.rd (FLT.FLTTIMERS.STATE c) = 1 ∨ t.rd (FLT.FLTTIMERS.STATE c) = 2) then
        t.wr (FLT.FLTTIMERS.STATE c) 0 else t)
    (fun u c hu => Only.ite (hu.wr _ _ (hF.flt_flttimers_state c)) hu)
  have k4 := k3.forEach (List.range 11) (fun t e => t.engineStop e) (fun u n hu => by
    refine State.engineStop_only ?_ _ hF.icuTimer hF.icu_src_sts_insvc (hF.icu_tstat_held _) (hF.icu_tstat_insvc _)
        (hF.icu_tstat_line _) (hF.icu_tstat_orderr _) (hF.sec_evt_events _) (hF.sec_evt_events _) (hF.sec_sts_pcrun _)
        (hF.sec_sts_serun _) hF.stopped
    exact hu)
  unfold State.safeState
  extract_lets s1 s2 s3
  refine State.journal_only ?_ _ _ _ _ _ _ hF.boot hF.flash hF.freeCtr hF.outs hF.boot_jseq_jseq hF.retain
  exact Only.setSafe k4 true hF.safe

theorem State.portToImage_only
    (h : Only P s t) (n : Nat) (h1 : P .copies) (h2 : ∀ f ∈ portImageFields n, P (.field f.key))
    (h3 : P (.field (PRT.HUBSTS.OVERCUR n).key)) :
    Only P s (t.portToImage n) := by
  unfold State.portToImage
  refine Only.flag ?_ _ _ h3
  revert h2
  generalize portImageFields n = l
  intro h2
  induction l generalizing t with
  | nil => exact h
  | cons f l ih =>
    refine ih ?_ (fun g hg => h2 g (List.mem_cons_of_mem _ hg))
    have k : Only P s (t.toImage f) := h.toImage f (h2 f (List.mem_cons_self ..))
    apply Only.upd k
    all_goals first | exact .inr rfl | exact .inl h1

theorem State.queueReset_only
    (h : Only P s t) (k : Nat) (h1 : P .edgeDue) (h2 : ∀ i, P (.port i)) (h3 : P (.field PKM.FENCE.FALLBACK.key))
    (h4 : P (.field PKM.FREESTS.WAS.key)) (h5 : P (.field PKM.GCNT0.FREE.key))
    (h6 : P (.field PKM.GCNT0.QUEUED.key)) (h7 : P (.field PKM.GCNT1.INFLIGHT.key))
    (h8 : P (.field PKM.GCNT2.POOLFREE.key)) (h9 : ∀ i, P (.field (PKM.IQPTR.RPTR i).key))
    (h10 : P (.field (PKM.IQPTR.WPTR k).key)) (h11 : ∀ i, P (.field (SWX.CNTA.STALE i).key)) (h12 : P .sw) :
    Only P s (t.queueReset k) := by
  unfold State.queueReset
  repeat' with_reducible first
    | assumption | apply Only.foldl | apply Only.wr | apply State.dropPkt_only | apply State.dropStale_only
    | apply h2 | apply h9 | apply h11 | intro _ _ _

theorem State.sectorRestart_only
    (h : Only P s t) (i : Nat) (hF : FaultMay P) :
    Only P s (t.sectorRestart i) := by
  unfold State.sectorRestart
  extract_lets s1 s2 present vconn s3 s4
  have k1 : Only P s s1 := by
    refine h.forEach _ _ (fun u n hu => ?_)
    extract_lets t1 t2
    have a1 : Only P s t1 := by
      refine Only.ite ?_ ?_
      · refine State.demandFall_only ?_ _ hF.edgeDue hF.freeCtr hF.outs hF.port hF.lds_chg0_p00_p31
          hF.lds_chg1_p32_p47 (hF.lds_rsum_hbused _) (hF.lds_rsum_idvalid _) (hF.lds_rsum_profile _)
          (hF.lds_rsum_result _) (hF.lds_rsum_state _) hF.pkm_fence_fallback hF.pkm_freests_was hF.pkm_gcnt0_free
          hF.pkm_gcnt0_queued hF.pkm_gcnt1_inflight hF.pkm_gcnt2_poolfree hF.pkm_iqptr_rptr (hF.prt_altmux_active _)
          hF.prt_altmux_qbusy hF.prt_altmux_qhold (hF.prt_fusevt_pgoff _) (hF.prt_fussts_fold _) (hF.prt_fussts_gateon
          _) (hF.prt_fussts_limit _) (hF.prt_fussts_pg _) (hF.prt_hubsts_connection _) (hF.prt_hubsts_enable _)
          (hF.prt_hubsts_highspd _) (hF.prt_hubsts_lowspd _) (hF.prt_hubsts_power _) (hF.prt_hubsts_reset _)
          (hF.prt_hubsts_state _) (hF.prt_hubsts_suspend _) (hF.prt_hubsts_test _) (hF.prt_mtrcnt_datahit _)
          (hF.prt_mtrcnt_nakhit _) (hF.prt_mtrsts_stranded _) (hF.prt_mtrsts_withdrawn _) (hF.prt_pdsts_altmode _)
          (hF.prt_pdsts_evt _) (hF.prt_pdsts_explicit _) (hF.prt_pdsts_objpos _) (hF.prt_pdsts_opcurr _)
          (hF.prt_pdsts_pwrrole _) (hF.prt_pdsts_vcsrc _) (hF.prt_pdsts_vsel _) (hF.prt_qsts_stopped _)
          (hF.prt_tcevt_wetout _) (hF.prt_tcsts_moistok _) (hF.prt_tcsts_orient _) (hF.prt_tcsts_tcstate _)
          (hF.prt_tcsts_wet _) (hF.prt_tcsts_wetgnd _) (hF.prt_tcsts_wetpin _) (hF.prt_tcsts_wetvbus _)
          (hF.prt_vconn_on _) (hF.pwr_pallow_shed _) (hF.pwr_pallow_wait _) (hF.pwr_pbook_commit _)
          (hF.pwr_pbook_contract _) hF.pwr_qbook_commit hF.pwr_qbook_contract hF.pwr_totcom_commit
          hF.pwr_totcon_contract hF.swx_cnta_stale hF.swx_cntb_rlywd hF.sw hF.up
        exact hu
      · refine State.discharge_only ?_ _ hF.outs (hF.port _) (hF.pwr_pbook_commit _) hF.pwr_qbook_commit
          hF.pwr_qbook_contract hF.pwr_totcom_commit hF.pwr_totcon_contract
        refine State.dropPower_only ?_ _ hF.outs (hF.port _) (hF.prt_altmux_active _) hF.prt_altmux_qbusy
            hF.prt_altmux_qhold (hF.prt_fusevt_pgoff _) (hF.prt_fussts_fold _) (hF.prt_fussts_gateon _)
            (hF.prt_fussts_limit _) (hF.prt_fussts_pg _) (hF.prt_pdsts_altmode _) (hF.prt_pdsts_evt _)
            (hF.prt_pdsts_explicit _) (hF.prt_pdsts_objpos _) (hF.prt_pdsts_opcurr _) (hF.prt_pdsts_pwrrole _)
            (hF.prt_pdsts_vcsrc _) (hF.prt_pdsts_vsel _) (hF.prt_tcevt_wetout _) (hF.prt_tcsts_moistok _)
            (hF.prt_tcsts_orient _) (hF.prt_tcsts_tcstate _) (hF.prt_tcsts_wet _) (hF.prt_tcsts_wetgnd _)
            (hF.prt_tcsts_wetpin _) (hF.prt_tcsts_wetvbus _) (hF.prt_vconn_on _) (hF.pwr_pallow_wait _)
            (hF.pwr_pbook_contract _) hF.pwr_qbook_commit hF.pwr_qbook_contract hF.pwr_totcom_commit
            hF.pwr_totcon_contract
        exact hu
    have a2 : Only P s t2 := by
      refine State.portToImage_only ?_ _ hF.copies (hF.img _) (hF.prt_hubsts_overcur _)
      refine State.handoverRestart_only ?_ _ hF.copies hF.edgeDue hF.port hF.lds_chg0_p00_p31 hF.lds_chg1_p32_p47
          (hF.lds_rsum_hbused _) (hF.lds_rsum_idvalid _) (hF.lds_rsum_profile _) (hF.lds_rsum_result _)
          (hF.lds_rsum_state _) hF.pkm_fence_fallback hF.pkm_freests_was hF.pkm_gcnt0_free hF.pkm_gcnt0_queued
          hF.pkm_gcnt1_inflight hF.pkm_gcnt2_poolfree hF.pkm_iqptr_rptr (hF.prt_owner_own _) (hF.prt_owner_state _)
          hF.swx_cnta_stale hF.sw
      refine State.queueReset_only ?_ _ hF.edgeDue hF.port hF.pkm_fence_fallback hF.pkm_freests_was hF.pkm_gcnt0_free
          hF.pkm_gcnt0_queued hF.pkm_gcnt1_inflight hF.pkm_gcnt2_poolfree hF.pkm_iqptr_rptr (hF.pkm_iqptr_wptr _)
          hF.swx_cnta_stale hF.sw
      refine State.ttAndAlmanac_only ?_ _ _ _ (hF.port _) (hF.prt_mtrcnt_datahit _) (hF.prt_mtrcnt_nakhit _)
          (hF.prt_mtrsts_stranded _) (hF.prt_mtrsts_withdrawn _) (hF.prt_qsts_stopped _)
      exact a1
    refine Only.modPort ?_ _ _ (hF.port _)
    refine State.setHub_only ?_ _ _ (hF.prt_hubsts_enable _) (hF.prt_hubsts_reset _) (hF.prt_hubsts_state _)
        (hF.prt_hubsts_suspend _) (hF.prt_hubsts_test _)
    exact a2
  have k2 : Only P s s2 := k1.forEach _ _ (fun u q hu => hu.imageAll _ (hF.imgq q))
  have k3 : Only P s s3 := k2.imageAll _ (hF.imgs i)
  have k4 : Only P s s4 := ((k3.wr _ _ (hF.sec_sts_present _)).wr _ _ (hF.sec_sts_vconnok _)).modSec _ _ (hF.sec _)
  refine State.engineStop_only ?_ _ hF.icuTimer hF.icu_src_sts_insvc (hF.icu_tstat_held _) (hF.icu_tstat_insvc _)
      (hF.icu_tstat_line _) (hF.icu_tstat_orderr _) (hF.sec_evt_events _) (hF.sec_evt_events _) (hF.sec_sts_pcrun _)
      (hF.sec_sts_serun _) hF.stopped
  refine State.engineStop_only ?_ _ hF.icuTimer hF.icu_src_sts_insvc (hF.icu_tstat_held _) (hF.icu_tstat_insvc _)
      (hF.icu_tstat_line _) (hF.icu_tstat_orderr _) (hF.sec_evt_events _) (hF.sec_evt_events _) (hF.sec_sts_pcrun _)
      (hF.sec_sts_serun _) hF.stopped
  exact k4

theorem State.actionEffect_only
    (h : Only P s t) (b : FBlk) (k : Nat) (hF : FaultMay P) :
    Only P s (t.actionEffect b k) := by
  unfold State.actionEffect
  repeat' with_reducible first
    | assumption | exact hF.quad _ | exact hF.up _ | exact hF.flt_flttimers_state _ | exact hF.icu_tstat_orderr _
    | apply Only.forEach | apply Only.wr | apply Only.modUp | apply Only.modQuad
    | refine State.countRecovery_only ?_ _ (hF.flt_recov_count _) (hF.flt_recov_window _)
    | refine State.detachPers_only ?_ _ hF.edgeDue hF.freeCtr (hF.mb _) hF.outs hF.port hF.boot_updsts_busy
        hF.boot_updsts_owner hF.boot_updsts_session hF.lds_chg0_p00_p31 hF.lds_chg1_p32_p47 hF.lds_rsum_hbused
        hF.lds_rsum_idvalid hF.lds_rsum_profile hF.lds_rsum_result hF.lds_rsum_state hF.mbx_bulk_held
        hF.mbx_bulk_holder (hF.mbx_ctrl_busy _) (hF.mbx_ctrl_valid _) hF.pkm_fence_fallback hF.pkm_freests_was
        hF.pkm_gcnt0_free hF.pkm_gcnt0_queued hF.pkm_gcnt1_inflight hF.pkm_gcnt2_poolfree hF.pkm_iqptr_rptr
        hF.prt_altmux_active hF.prt_altmux_qbusy hF.prt_altmux_qhold hF.prt_fusevt_pgoff hF.prt_fussts_fold
        hF.prt_fussts_gateon hF.prt_fussts_limit hF.prt_fussts_pg hF.prt_hubsts_connection hF.prt_hubsts_enable
        hF.prt_hubsts_highspd hF.prt_hubsts_lowspd hF.prt_hubsts_power hF.prt_hubsts_reset hF.prt_hubsts_state
        hF.prt_hubsts_suspend hF.prt_hubsts_test hF.prt_mtrcnt_datahit hF.prt_mtrcnt_nakhit hF.prt_mtrsts_stranded
        hF.prt_mtrsts_withdrawn hF.prt_pdsts_altmode hF.prt_pdsts_evt hF.prt_pdsts_explicit hF.prt_pdsts_objpos
        hF.prt_pdsts_opcurr hF.prt_pdsts_pwrrole hF.prt_pdsts_vcsrc hF.prt_pdsts_vsel hF.prt_qsts_stopped
        hF.prt_tcevt_oos hF.prt_tcevt_wetout hF.prt_tcsts_moistok hF.prt_tcsts_oos hF.prt_tcsts_orient
        hF.prt_tcsts_rpadv hF.prt_tcsts_tcstate hF.prt_tcsts_wet hF.prt_tcsts_wetgnd hF.prt_tcsts_wetpin
        hF.prt_tcsts_wetvbus hF.prt_vconn_on hF.pwr_pallow_shed hF.pwr_pallow_wait hF.pwr_pbook_commit
        hF.pwr_pbook_contract hF.pwr_qbook_commit hF.pwr_qbook_contract hF.pwr_totcom_commit hF.pwr_totcon_contract
        hF.swx_cnta_stale hF.swx_cntb_rlywd (hF.ups_cnt0_abortcnt _) (hF.ups_evt_ctlabort _) (hF.ups_sts_addr _)
        (hF.ups_sts_altset _) (hF.ups_sts_devstate _) (hF.ups_sts_hs _) (hF.ups_sts_pullup _) (hF.ups_sts_rwakeen _)
        (hF.ups_sts_staged _) (hF.ups_sts_susp _) hF.sw hF.up hF.upd
    | refine State.evalDemand_only ?_ _ hF.edgeDue hF.freeCtr hF.outs hF.port hF.lds_chg0_p00_p31 hF.lds_chg1_p32_p47
        (hF.lds_rsum_hbused _) (hF.lds_rsum_idvalid _) (hF.lds_rsum_profile _) (hF.lds_rsum_result _)
        (hF.lds_rsum_state _) hF.pkm_fence_fallback hF.pkm_freests_was hF.pkm_gcnt0_free hF.pkm_gcnt0_queued
        hF.pkm_gcnt1_inflight hF.pkm_gcnt2_poolfree hF.pkm_iqptr_rptr (hF.prt_altmux_active _) hF.prt_altmux_qbusy
        hF.prt_altmux_qhold (hF.prt_fusevt_pgoff _) (hF.prt_fussts_fold _) (hF.prt_fussts_gateon _)
        (hF.prt_fussts_limit _) (hF.prt_fussts_pg _) (hF.prt_hubsts_connection _) (hF.prt_hubsts_enable _)
        (hF.prt_hubsts_highspd _) (hF.prt_hubsts_lowspd _) (hF.prt_hubsts_power _) (hF.prt_hubsts_reset _)
        (hF.prt_hubsts_state _) (hF.prt_hubsts_suspend _) (hF.prt_hubsts_test _) (hF.prt_mtrcnt_datahit _)
        (hF.prt_mtrcnt_nakhit _) (hF.prt_mtrsts_stranded _) (hF.prt_mtrsts_withdrawn _) (hF.prt_pdsts_altmode _)
        (hF.prt_pdsts_evt _) (hF.prt_pdsts_explicit _) (hF.prt_pdsts_objpos _) (hF.prt_pdsts_opcurr _)
        (hF.prt_pdsts_pwrrole _) (hF.prt_pdsts_vcsrc _) (hF.prt_pdsts_vsel _) (hF.prt_qsts_stopped _)
        (hF.prt_tcevt_oos _) (hF.prt_tcevt_wetout _) (hF.prt_tcsts_moistok _) (hF.prt_tcsts_oos _)
        (hF.prt_tcsts_orient _) (hF.prt_tcsts_rpadv _) (hF.prt_tcsts_tcstate _) (hF.prt_tcsts_wet _)
        (hF.prt_tcsts_wetgnd _) (hF.prt_tcsts_wetpin _) (hF.prt_tcsts_wetvbus _) (hF.prt_vconn_on _)
        (hF.pwr_pallow_shed _) (hF.pwr_pallow_wait _) (hF.pwr_pbook_commit _) (hF.pwr_pbook_contract _)
        hF.pwr_qbook_commit hF.pwr_qbook_contract hF.pwr_totcom_commit hF.pwr_totcon_contract hF.swx_cnta_stale
        hF.swx_cntb_rlywd hF.sw hF.up
    | refine State.markOff_only ?_ _ hF.edgeDue hF.freeCtr hF.outs hF.port hF.lds_chg0_p00_p31 hF.lds_chg1_p32_p47
        (hF.lds_rsum_hbused _) (hF.lds_rsum_idvalid _) (hF.lds_rsum_profile _) (hF.lds_rsum_result _)
        (hF.lds_rsum_state _) hF.pkm_fence_fallback hF.pkm_freests_was hF.pkm_gcnt0_free hF.pkm_gcnt0_queued
        hF.pkm_gcnt1_inflight hF.pkm_gcnt2_poolfree hF.pkm_iqptr_rptr (hF.prt_altmux_active _) hF.prt_altmux_qbusy
        hF.prt_altmux_qhold (hF.prt_fusevt_pgoff _) (hF.prt_fussts_fold _) (hF.prt_fussts_ftfill _)
        (hF.prt_fussts_gateon _) (hF.prt_fussts_limit _) (hF.prt_fussts_pg _) (hF.prt_hubchg_c_connection _)
        (hF.prt_hubchg_c_enable _) (hF.prt_hubchg_c_overcur _) (hF.prt_hubchg_c_reset _) (hF.prt_hubchg_c_suspend _)
        (hF.prt_hubsts_connection _) (hF.prt_hubsts_enable _) (hF.prt_hubsts_highspd _) (hF.prt_hubsts_lowspd _)
        (hF.prt_hubsts_reset _) (hF.prt_hubsts_state _) (hF.prt_hubsts_suspend _) (hF.prt_hubsts_test _)
        (hF.prt_mtrcnt_datahit _) (hF.prt_mtrcnt_nakhit _) (hF.prt_mtrsts_stranded _) (hF.prt_mtrsts_withdrawn _)
        (hF.prt_pdsts_altmode _) (hF.prt_pdsts_evt _) (hF.prt_pdsts_explicit _) (hF.prt_pdsts_objpos _)
        (hF.prt_pdsts_opcurr _) (hF.prt_pdsts_vcsrc _) (hF.prt_pdsts_vsel _) (hF.prt_qsts_stopped _)
        (hF.prt_tcsts_rpadv _) (hF.prt_tcsts_tcstate _) (hF.prt_vconn_on _) (hF.pwr_pallow_shed _) (hF.pwr_pallow_wait
        _) (hF.pwr_pbook_commit _) (hF.pwr_pbook_contract _) hF.pwr_qbook_commit hF.pwr_qbook_contract
        hF.pwr_totcom_commit hF.pwr_totcon_contract hF.swx_cnta_stale hF.swx_cntb_rlywd hF.sw hF.up
    | apply State.safeState_only | apply State.sectorRestart_only
    | refine State.targetReset_only ?_ _ hF.icuTimer hF.icu_src_sts_insvc (hF.icu_tstat_held _) (hF.icu_tstat_insvc _)
        (hF.icu_tstat_line _) (hF.icu_tstat_orderr _)
    | intro _ _ _ | intro _ _ | split

theorem State.faultPin_only
    (h : Only P s t) (sev : Nat) (h1 : P .faultWidth) (h2 : P .outs) (h3 : P (.field SYS.FAULTPIN.FORCE.key))
    (h4 : P (.field SYS.FAULTPIN.PIN.key)) :
    Only P s (t.faultPin sev) := by
  unfold State.faultPin
  repeat' with_reducible first
    | assumption | apply Only.raise | apply Only.emit | intro _ _ _ | intro _ _ | split | apply Only.upd
    | exact .inr rfl | (left; assumption)

theorem State.takeAction_only
    (h : Only P s t) (b : FBlk) (k sev : Nat) (hF : FaultMay P) :
    Only P s (t.takeAction b k sev) := by
  unfold State.takeAction
  repeat' with_reducible first
    | assumption | exact hF.flt _ | exact hF.flt_flttimers_state _ | exact hF.flt_recov_lasting _
    | exact hF.flt_recov_latched _ | exact hF.flt_recov_window _ | apply Only.wr | apply Only.raise
    | apply Only.modFlt | apply State.actionEffect_only
    | refine State.faultPin_only ?_ _ hF.faultWidth hF.outs hF.sys_faultpin_force hF.sys_faultpin_pin | intro _ _ _
    | intro _ _ | split

theorem State.record_only
    (h : Only P s t) (b : FBlk) (k : Nat) (hF : FaultMay P) :
    Only P s (t.record b k) := by
  unfold State.record
  repeat' with_reducible first
    | assumption | exact hF.flt _ | exact hF.flt_flttimers_state _ | apply Only.wr | apply Only.modFlt
    | refine State.recordOnly_only ?_ _ _ hF.icuTimer (hF.flt_fltfirst_mer _) (hF.flt_fltfirst_sev _)
        (hF.flt_fltfirst_src _) (hF.flt_fltfirst_valid _) (hF.flt_fltsts_src _) (hF.flt_recov_evcnt _)
        hF.icu_src_sts_lost hF.icu_src_sts_lostcnt hF.icu_src_sts_pend hF.icu_tstat_held hF.icu_tstat_line
    | apply State.takeAction_only | intro _ _ _ | intro _ _ | split | apply Only.upd | exact .inr rfl

theorem State.dieShed_only
    (h : Only P s t) (q : Nat) (hF : FaultMay P) :
    Only P s (t.dieShed q) := by
  unfold State.dieShed
  repeat' with_reducible first
    | assumption | exact hF.quad _ | apply Only.forEach | apply Only.modQuad
    | refine State.markOff_only ?_ _ hF.edgeDue hF.freeCtr hF.outs hF.port hF.lds_chg0_p00_p31 hF.lds_chg1_p32_p47
        (hF.lds_rsum_hbused _) (hF.lds_rsum_idvalid _) (hF.lds_rsum_profile _) (hF.lds_rsum_result _)
        (hF.lds_rsum_state _) hF.pkm_fence_fallback hF.pkm_freests_was hF.pkm_gcnt0_free hF.pkm_gcnt0_queued
        hF.pkm_gcnt1_inflight hF.pkm_gcnt2_poolfree hF.pkm_iqptr_rptr (hF.prt_altmux_active _) hF.prt_altmux_qbusy
        hF.prt_altmux_qhold (hF.prt_fusevt_pgoff _) (hF.prt_fussts_fold _) (hF.prt_fussts_ftfill _)
        (hF.prt_fussts_gateon _) (hF.prt_fussts_limit _) (hF.prt_fussts_pg _) (hF.prt_hubchg_c_connection _)
        (hF.prt_hubchg_c_enable _) (hF.prt_hubchg_c_overcur _) (hF.prt_hubchg_c_reset _) (hF.prt_hubchg_c_suspend _)
        (hF.prt_hubsts_connection _) (hF.prt_hubsts_enable _) (hF.prt_hubsts_highspd _) (hF.prt_hubsts_lowspd _)
        (hF.prt_hubsts_reset _) (hF.prt_hubsts_state _) (hF.prt_hubsts_suspend _) (hF.prt_hubsts_test _)
        (hF.prt_mtrcnt_datahit _) (hF.prt_mtrcnt_nakhit _) (hF.prt_mtrsts_stranded _) (hF.prt_mtrsts_withdrawn _)
        (hF.prt_pdsts_altmode _) (hF.prt_pdsts_evt _) (hF.prt_pdsts_explicit _) (hF.prt_pdsts_objpos _)
        (hF.prt_pdsts_opcurr _) (hF.prt_pdsts_vcsrc _) (hF.prt_pdsts_vsel _) (hF.prt_qsts_stopped _)
        (hF.prt_tcsts_rpadv _) (hF.prt_tcsts_tcstate _) (hF.prt_vconn_on _) (hF.pwr_pallow_shed _) (hF.pwr_pallow_wait
        _) (hF.pwr_pbook_commit _) (hF.pwr_pbook_contract _) hF.pwr_qbook_commit hF.pwr_qbook_contract
        hF.pwr_totcom_commit hF.pwr_totcon_contract hF.swx_cnta_stale hF.swx_cntb_rlywd hF.sw hF.up
    | apply State.record_only | intro _ _ _

theorem State.condBegin_only
    (h : Only P s t) (b : FBlk) (k : Nat) (hF : FaultMay P) :
    Only P s (t.condBegin b k) := by
  unfold State.condBegin
  repeat' with_reducible first
    | assumption | exact hF.flt _ | apply Only.modFlt | apply State.record_only

theorem State.claim_only
    (h : Only P s t) (t_ : Nat) (h1 : ∀ i, P (.field (ICU.SRC_STS.INSVC i).key))
    (h2 : ∀ i, P (.field (ICU.SRC_STS.PEND i).key)) (h3 : P (.field (ICU.TCNT.SPUR t_).key))
    (h4 : P (.field (ICU.TSTAT.INSVC t_).key)) (h5 : P (.field (ICU.TSTAT.LINE t_).key)) :
    Only P s (t.claim t_).2 := by
  unfold State.claim
  repeat' with_reducible first
    | assumption | apply Only.wr | apply Only.raise | apply Only.bump | apply State.lineCheck_only | apply h1
    | apply h2 | intro _ _ _ | intro _ _ | split | dsimp only

theorem State.doneEffect_only
    (h : Only P s t) (t_ v : Nat) (hF : FaultMay P) (e_icu_tcnt_ordcnt : P (.field (ICU.TCNT.ORDCNT t_).key)) :
    Only P s (t.doneEffect t_ v) := by
  unfold State.doneEffect
  repeat' with_reducible first
    | assumption | exact hF.icu_src_sts_insvc _ | exact hF.icu_tstat_insvc _ | exact hF.icu_tstat_orderr _
    | apply Only.wr | apply Only.raise | apply Only.bump
    | refine State.deliver_only ?_ _ hF.icuTimer (hF.icu_tstat_held _) (hF.icu_tstat_line _)
    | refine State.edge_only ?_ _ hF.icuTimer (hF.icu_src_sts_lost _) (hF.icu_src_sts_lostcnt _) (hF.icu_src_sts_pend
        _) hF.icu_tstat_held hF.icu_tstat_line
    | refine State.lineCheck_only ?_ _ (hF.icu_tstat_line _) | apply State.record_only | intro _ _ _ | intro _ _
    | split | dsimp only

theorem State.armSector_only
    (h : Only P s t) (i : Nat) (h1 : P .outs) (h2 : ∀ i, P (.port i)) (h3 : P (.field (SEC.STS.ARMED i).key)) :
    Only P s (t.armSector i) := by
  unfold State.armSector
  repeat' with_reducible first
    | assumption | apply Only.forEach | apply Only.flag | apply Only.modPort | apply State.fbiDrive_only | apply h2
    | intro _ _ _ | intro _ _ | split

theorem State.handoverRelease_only
    (h : Only P s t) (n : Nat) (h1 : P (.port n)) :
    Only P s (t.handoverRelease n) := by
  unfold State.handoverRelease
  repeat' with_reducible first
    | assumption | apply Only.modPort | intro _ _ _ | intro _ _ | split

theorem State.sectorArm_only
    (h : Only P s t) (i : Nat) (h1 : P .boot) (h2 : P .edgeDue) (h3 : P .flash) (h4 : P .freeCtr) (h5 : P .outs)
    (h6 : ∀ i, P (.port i)) (h7 : P (.field BOOT.JSEQ.JSEQ.key)) (h8 : P (.field LDS.CHG0.P00_P31.key))
    (h9 : P (.field LDS.CHG1.P32_P47.key)) (h10 : ∀ i, P (.field (LDS.RSUM.HBUSED i).key))
    (h11 : ∀ i, P (.field (LDS.RSUM.IDVALID i).key)) (h12 : ∀ i, P (.field (LDS.RSUM.PROFILE i).key))
    (h13 : ∀ i, P (.field (LDS.RSUM.RESULT i).key)) (h14 : ∀ i, P (.field (LDS.RSUM.STATE i).key))
    (h15 : P (.field PKM.FENCE.FALLBACK.key)) (h16 : P (.field PKM.FREESTS.WAS.key))
    (h17 : P (.field PKM.GCNT0.FREE.key)) (h18 : P (.field PKM.GCNT0.QUEUED.key))
    (h19 : P (.field PKM.GCNT1.INFLIGHT.key)) (h20 : P (.field PKM.GCNT2.POOLFREE.key))
    (h21 : ∀ i, P (.field (PKM.IQPTR.RPTR i).key)) (h22 : ∀ i, P (.field (PRT.ALTMUX.ACTIVE i).key))
    (h23 : ∀ i, P (.field (PRT.ALTMUX.QBUSY i).key)) (h24 : ∀ i, P (.field (PRT.ALTMUX.QHOLD i).key))
    (h25 : ∀ i, P (.field (PRT.FUSEVT.PGOFF i).key)) (h26 : ∀ i, P (.field (PRT.FUSSTS.FOLD i).key))
    (h27 : ∀ i, P (.field (PRT.FUSSTS.GATEON i).key)) (h28 : ∀ i, P (.field (PRT.FUSSTS.LIMIT i).key))
    (h29 : ∀ i, P (.field (PRT.FUSSTS.PG i).key)) (h30 : ∀ i, P (.field (PRT.HUBSTS.CONNECTION i).key))
    (h31 : ∀ i, P (.field (PRT.HUBSTS.ENABLE i).key)) (h32 : ∀ i, P (.field (PRT.HUBSTS.HIGHSPD i).key))
    (h33 : ∀ i, P (.field (PRT.HUBSTS.LOWSPD i).key)) (h34 : ∀ i, P (.field (PRT.HUBSTS.POWER i).key))
    (h35 : ∀ i, P (.field (PRT.HUBSTS.RESET i).key)) (h36 : ∀ i, P (.field (PRT.HUBSTS.STATE i).key))
    (h37 : ∀ i, P (.field (PRT.HUBSTS.SUSPEND i).key)) (h38 : ∀ i, P (.field (PRT.HUBSTS.TEST i).key))
    (h39 : ∀ i, P (.field (PRT.MTRCNT.DATAHIT i).key)) (h40 : ∀ i, P (.field (PRT.MTRCNT.NAKHIT i).key))
    (h41 : ∀ i, P (.field (PRT.MTRSTS.STRANDED i).key)) (h42 : ∀ i, P (.field (PRT.MTRSTS.WITHDRAWN i).key))
    (h43 : ∀ i, P (.field (PRT.PDSTS.ALTMODE i).key)) (h44 : ∀ i, P (.field (PRT.PDSTS.EVT i).key))
    (h45 : ∀ i, P (.field (PRT.PDSTS.EXPLICIT i).key)) (h46 : ∀ i, P (.field (PRT.PDSTS.OBJPOS i).key))
    (h47 : ∀ i, P (.field (PRT.PDSTS.OPCURR i).key)) (h48 : ∀ i, P (.field (PRT.PDSTS.PWRROLE i).key))
    (h49 : ∀ i, P (.field (PRT.PDSTS.VCSRC i).key)) (h50 : ∀ i, P (.field (PRT.PDSTS.VSEL i).key))
    (h51 : ∀ i, P (.field (PRT.QSTS.STOPPED i).key)) (h52 : ∀ i, P (.field (PRT.TCEVT.OOS i).key))
    (h53 : ∀ i, P (.field (PRT.TCEVT.WETOUT i).key)) (h54 : ∀ i, P (.field (PRT.TCSTS.MOISTOK i).key))
    (h55 : ∀ i, P (.field (PRT.TCSTS.OOS i).key)) (h56 : ∀ i, P (.field (PRT.TCSTS.ORIENT i).key))
    (h57 : ∀ i, P (.field (PRT.TCSTS.RPADV i).key)) (h58 : ∀ i, P (.field (PRT.TCSTS.TCSTATE i).key))
    (h59 : ∀ i, P (.field (PRT.TCSTS.WET i).key)) (h60 : ∀ i, P (.field (PRT.TCSTS.WETGND i).key))
    (h61 : ∀ i, P (.field (PRT.TCSTS.WETPIN i).key)) (h62 : ∀ i, P (.field (PRT.TCSTS.WETVBUS i).key))
    (h63 : ∀ i, P (.field (PRT.VCONN.ON i).key)) (h64 : ∀ i, P (.field (PWR.PALLOW.SHED i).key))
    (h65 : ∀ i, P (.field (PWR.PALLOW.WAIT i).key)) (h66 : ∀ i, P (.field (PWR.PBOOK.COMMIT i).key))
    (h67 : ∀ i, P (.field (PWR.PBOOK.CONTRACT i).key)) (h68 : ∀ i, P (.field (PWR.QBOOK.COMMIT i).key))
    (h69 : ∀ i, P (.field (PWR.QBOOK.CONTRACT i).key)) (h70 : P (.field PWR.TOTCOM.COMMIT.key))
    (h71 : P (.field PWR.TOTCON.CONTRACT.key)) (h72 : P (.field (SEC.STS.ARMED i).key))
    (h73 : ∀ i, P (.field (SWX.CNTA.STALE i).key)) (h74 : ∀ i, P (.field (SWX.CNTB.RLYWD i).key)) (h75 : P .retain)
    (h76 : P .sw) (h77 : ∀ i, P (.up i)) :
    Only P s (t.sectorArm i) := by
  unfold State.sectorArm
  repeat' with_reducible first
    | assumption | apply Only.forEach | apply State.armSector_only | apply State.evalDemand_only
    | apply State.handoverRelease_only | apply State.journal_only | apply h6 | apply h10 | apply h11 | apply h12
    | apply h13 | apply h14 | apply h21 | apply h22 | apply h23 | apply h24 | apply h25 | apply h26 | apply h27
    | apply h28 | apply h29 | apply h30 | apply h31 | apply h32 | apply h33 | apply h34 | apply h35 | apply h36
    | apply h37 | apply h38 | apply h39 | apply h40 | apply h41 | apply h42 | apply h43 | apply h44 | apply h45
    | apply h46 | apply h47 | apply h48 | apply h49 | apply h50 | apply h51 | apply h52 | apply h53 | apply h54
    | apply h55 | apply h56 | apply h57 | apply h58 | apply h59 | apply h60 | apply h61 | apply h62 | apply h63
    | apply h64 | apply h65 | apply h66 | apply h67 | apply h68 | apply h69 | apply h73 | apply h74 | apply h77
    | intro _ _ _

theorem State.recordPresent_only
    (h : Only P s t) (b : FBlk) (hF : FaultMay P) :
    Only P s (t.recordPresent b) := by
  unfold State.recordPresent
  repeat' with_reducible first
    | assumption | apply Only.forEach | apply State.record_only | intro _ _ _

theorem State.rebuild_only
    (h : Only P s t) (h1 : P .boot) (h2 : P .retain) :
    Only P s (t.rebuild) := by
  unfold State.rebuild
  repeat' with_reducible first
    | assumption | apply Only.foldl | intro _ _ _ | intro _ _ | split | apply Only.upd | exact .inr rfl
    | (left; assumption)

theorem State.recall_only
    (h : Only P s t) (h1 : P .boot) (h2 : P .retain) :
    Only P s (t.recall) := by
  unfold State.recall
  repeat' with_reducible first
    | assumption | apply State.rebuild_only | intro _ _ _ | intro _ _ | split

theorem State.bootStart_only
    (h : Only P s t) (h1 : P .boot) (h2 : P .flash) (h3 : P .freeCtr) (h4 : P .outs)
    (h5 : P (.field BOOT.BOOTCNT.BOOTNO.key)) (h6 : P (.field BOOT.BOOTCNT.CONSEC.key))
    (h7 : P (.field BOOT.FAILMEM.CAL.key)) (h8 : P (.field BOOT.FAILMEM.LINK.key))
    (h9 : P (.field BOOT.FAILMEM.NVM.key)) (h10 : P (.field BOOT.FAILMEM.QID.key))
    (h11 : P (.field BOOT.FAILMEM.SLOTA.key)) (h12 : P (.field BOOT.FAILMEM.SLOTB.key))
    (h13 : P (.field BOOT.JSEQ.JSEQ.key)) (h14 : P .retain) :
    Only P s (t.bootStart) := by
  unfold State.bootStart
  repeat' with_reducible first
    | assumption | apply State.journal_only | apply State.recall_only | apply State.showBoot_only | intro _ _ _
    | intro _ _ | split | apply Only.upd | exact .inr rfl | (left; assumption)

theorem State.startBoot_only
    (h : Only P s t) (h1 : P .boot) (h2 : P .flash) (h3 : P .freeCtr) (h4 : P .outs) (h5 : P .phase)
    (h6 : P (.field BOOT.BOOTCNT.BOOTNO.key)) (h7 : P (.field BOOT.BOOTCNT.CONSEC.key))
    (h8 : P (.field BOOT.FAILMEM.CAL.key)) (h9 : P (.field BOOT.FAILMEM.LINK.key))
    (h10 : P (.field BOOT.FAILMEM.NVM.key)) (h11 : P (.field BOOT.FAILMEM.QID.key))
    (h12 : P (.field BOOT.FAILMEM.SLOTA.key)) (h13 : P (.field BOOT.FAILMEM.SLOTB.key))
    (h14 : P (.field BOOT.JSEQ.JSEQ.key)) (h15 : P .retain) :
    Only P s (t.startBoot) := by
  unfold State.startBoot
  repeat' with_reducible first
    | assumption | apply State.bootStart_only | intro _ _ _ | intro _ _ | split | apply Only.upd | exact .inr rfl
    | (left; assumption)

theorem State.trim_only
    (h : Only P s t) (p : Pkt) (h1 : P .edgeDue) (h2 : P (.field PKM.FREESTS.WAS.key))
    (h3 : P (.field PKM.GCNT2.POOLFREE.key)) (h4 : P .sw) :
    Only P s (t.trim p) := by
  unfold State.trim
  repeat' with_reducible first
    | assumption | apply State.modPkt_only | apply State.setPool_only | intro _ _ _ | intro _ _ | split
    | apply Only.upd | exact .inr rfl

theorem State.latchOff_only
    (h : Only P s t) (n : Nat) (h1 : P (.port n)) (h2 : P (.field (PRT.FUSEVT.LATCHED n).key)) :
    Only P s (t.latchOff n) := by
  unfold State.latchOff
  repeat' with_reducible first
    | assumption | apply Only.raise | apply Only.modPort

theorem State.updBegin_only
    (h : Only P s t) (x : UpdX) (h1 : P .boot) (h2 : P .flash) (h3 : P .freeCtr) (h4 : P .outs)
    (h5 : P (.field BOOT.JSEQ.JSEQ.key)) (h6 : P .retain) (h7 : P .upd) :
    Only P s (t.updBegin x) := by
  unfold State.updBegin
  repeat' with_reducible first
    | assumption | apply Only.flashErase | apply Only.flashProgram | apply State.journal_only | intro _ _ _
    | intro _ _ | split | apply Only.upd | exact .inr rfl | (left; assumption)

theorem State.updWake_only
    (h : Only P s t) (h1 : P .boot) (h2 : P .flash) (h3 : P .freeCtr) (h4 : P .outs)
    (h5 : P (.field BOOT.JSEQ.JSEQ.key)) (h6 : P .retain) (h7 : P .upd) :
    Only P s (t.updWake) := by
  unfold State.updWake
  repeat' with_reducible first
    | assumption | apply State.updBegin_only | intro _ _ _ | intro _ _ | split

theorem State.updStart_only
    (h : Only P s t) (cmd slot code : Nat) (h1 : P .boot) (h2 : P .flash) (h3 : P .freeCtr) (h4 : P .outs)
    (h5 : P (.field BOOT.JSEQ.JSEQ.key)) (h6 : P (.field BOOT.UPDSTS.BUSY.key))
    (h7 : P (.field BOOT.UPDSTS.OWNER.key)) (h8 : P (.field BOOT.UPDSTS.SESSION.key))
    (h9 : P (.field BOOT.UPDSTS.TARGET.key)) (h10 : P .retain) (h11 : P .upd) :
    Only P s (t.updStart cmd slot code) := by
  unfold State.updStart
  repeat' with_reducible first
    | assumption | apply Only.wr | apply Only.raise | apply State.updWake_only | intro _ _ _ | intro _ _ | split
    | apply Only.upd | exact .inr rfl | (left; assumption)

theorem State.engineRun_only
    (h : Only P s t) (e : Nat) (h1 : P (.field (SEC.STS.PCRUN (e - 4)).key)) (h2 : P (.field (SEC.STS.SERUN e).key))
    (h3 : P .stopped) :
    Only P s (t.engineRun e) := by
  unfold State.engineRun
  repeat' with_reducible first
    | assumption | apply Only.raise | intro _ _ _ | intro _ _ | split | apply Only.upd | exact .inr rfl
    | (left; assumption)

theorem State.voidPkt_only
    (h : Only P s t) (id : Nat) (wire : Bool) (h1 : P .edgeDue) (h2 : P .outs) (h3 : ∀ i, P (.port i))
    (h4 : P (.field PKM.FENCE.FALLBACK.key)) (h5 : P (.field PKM.FREESTS.WAS.key))
    (h6 : P (.field PKM.GCNT0.FREE.key)) (h7 : P (.field PKM.GCNT0.QUEUED.key))
    (h8 : P (.field PKM.GCNT1.INFLIGHT.key)) (h9 : P (.field PKM.GCNT2.POOLFREE.key))
    (h10 : ∀ i, P (.field (PKM.IQPTR.RPTR i).key)) (h11 : P .sw) :
    Only P s (t.voidPkt id wire) := by
  unfold State.voidPkt
  repeat' with_reducible first
    | assumption | apply Only.emit | apply State.dropPkt_only | apply State.fallSettle_only
    | apply State.giveUp_only | apply State.modPkt_only | apply State.modSlot_only | apply h3 | apply h10
    | intro _ _ _ | intro _ _ | split | apply Only.upd | exact .inr rfl

theorem State.produce_only
    (h : Only P s t) (p : Pkt) (hF : FaultMay P) :
    Only P s (t.produce p) := by
  unfold State.produce
  repeat' with_reducible first
    | assumption | exact hF.sw | apply Only.modSw | refine State.iqPop_only ?_ _ _ (hF.pkm_iqptr_rptr _)
    | refine State.iqPush_only ?_ _ _ (hF.pkm_iqptr_wptr _) hF.sw | refine State.modPkt_only ?_ _ _ hF.sw
    | apply State.record_only
    | refine State.voidPkt_only ?_ _ _ hF.edgeDue hF.outs hF.port hF.pkm_fence_fallback hF.pkm_freests_was
        hF.pkm_gcnt0_free hF.pkm_gcnt0_queued hF.pkm_gcnt1_inflight hF.pkm_gcnt2_poolfree hF.pkm_iqptr_rptr hF.sw
    | intro _ _ _ | intro _ _ | split | apply Only.upd | exact .inr rfl

theorem State.begin_only
    (h : Only P s t) (inp out : Nat) (kind : PktKind) (key : Key) (pid age : Nat) (bs : List Byte) (t_ : Tail)
    (await : Bool) (hF : FaultMay P) :
    Only P s (t.begin inp out kind key pid age bs t_ await) := by
  unfold State.begin
  extract_lets u po pair resv pool id p s1 s2
  have k1 : Only P s s1 := h.modSw _ hF.sw
  have k2 : Only P s s2 := by
    refine Only.ite k1 ?_
    refine State.setPool_only ?_ _ hF.edgeDue hF.pkm_freests_was hF.pkm_gcnt2_poolfree hF.sw
    exact k1
  exact Only.ite k2 (State.produce_only k2 _ hF)

theorem State.relaySetup_only
    (h : Only P s t) (u a ep : Nat) (r : Setup) (ok : Bool) (hF : FaultMay P)
    (e_swx_cnta_badtail : P (.field (SWX.CNTA.BADTAIL u).key)) :
    Only P s (t.relaySetup u a ep r ok) := by
  unfold State.relaySetup
  repeat' with_reducible first
    | assumption | exact hF.outs | exact hF.up _ | apply Only.bump | apply Only.modUp | apply Only.emit
    | apply State.begin_only | refine State.iqThrough_only ?_ _ _ (hF.pkm_iqptr_rptr _) (hF.pkm_iqptr_wptr _) hF.sw
    | refine State.relay_only ?_ _ _ _ ?_ hF.outs | intro _ _ _ | intro _ _ | split

theorem State.otherReq_only
    (h : Only P s t) (u : Nat) (r : Setup) (h1 : P .outs) (h2 : P (.field (UPS.CNT0.ABORTCNT u).key))
    (h3 : P (.field (UPS.EVT.CTLABORT u).key)) (h4 : P (.field (UPS.STS.RWAKEEN u).key))
    (h5 : P (.field (UPS.STS.STAGED u).key)) (h6 : P .rescue) (h7 : P (.up u)) :
    Only P s (t.otherReq u r) := by
  have ha : ∀ y b, Only P s y → Only P s (y.ans u b) := fun y b k => by
    apply State.ans_only k <;> with_reducible assumption
  have hd : ∀ y d l, Only P s y → Only P s (y.dataAns u d l) := fun y d l k => by
    apply State.dataAns_only k <;> with_reducible assumption
  have hm : ∀ y g, Only P s y → Only P s (y.modUp u g) := fun y g k => by
    apply k.modUp
    with_reducible assumption
  have hw : ∀ (y : State) b, Only P s y → Only P s (y.flag (UPS.STS.RWAKEEN u) b) := fun y b k => by
    apply k.flag
    with_reducible assumption
  unfold State.otherReq
  apply State.stdReq_only h
  · intro y k
    extract_lets d
    exact Only.ite (Only.ite (ha _ _ (hw _ _ k)) (ha _ _ k)) (Only.ite (Only.ite (ha _ _ (hm _ _ k)) (ha _ _ (hm _ _
        k)))
      (Only.ite (hd _ _ _ k) (Only.ite (hd _ _ _ k) (Only.ite (hd _ _ _ k) (Only.ite (hd _ _ _ k)
        (Only.ite (hd _ _ _ k) (ha _ _ k)))))))
  · intro y k
    extract_lets d
    exact Only.ite (hd _ _ _ k) (Only.ite (hd _ _ _ k) (Only.ite (hd _ _ _ k) (Only.ite (hd _ _ _ k) (ha _ _ k))))
  all_goals with_reducible assumption

theorem State.vendorOther_only
    (h : Only P s t) (u : Nat) (r : Setup) (h1 : P .outs) (h2 : P (.field (UPS.CNT0.ABORTCNT u).key))
    (h3 : P (.field (UPS.EVT.CTLABORT u).key)) (h4 : P (.field (UPS.STS.STAGED u).key)) (h5 : P .rescue)
    (h6 : P (.up u)) :
    Only P s (t.vendorOther u r) := by
  unfold State.vendorOther
  repeat' with_reducible first
    | assumption | apply State.ans_only | apply State.newSetup_only | intro _ _ _ | intro _ _ | split
    | apply Only.upd | exact .inr rfl | (left; assumption)

theorem State.getDesc_only
    (h : Only P s t) (u wValue len : Nat) (h1 : P .outs) (h2 : P (.field (UPS.CNT0.ABORTCNT u).key))
    (h3 : P (.field (UPS.EVT.CTLABORT u).key)) (h4 : P (.field (UPS.STS.STAGED u).key)) (h5 : P .rescue)
    (h6 : P (.up u)) :
    Only P s (t.getDesc u wValue len) := by
  unfold State.getDesc
  repeat' with_reducible first
    | assumption | apply State.dataAns_only | apply State.stdReq_only | intro _ _ _ | intro _ _

theorem State.ownSetup_only
    (h : Only P s t) (u : Nat) (r : Setup) (hF : FaultMay P) (e_ups_evt_config : P (.field (UPS.EVT.CONFIG u).key))
    (e_rescue : P .rescue) :
    Only P s (t.ownSetup u r) := by
  unfold State.ownSetup
  repeat' with_reducible first
    | assumption
    | refine State.getDesc_only ?_ _ _ _ hF.outs (hF.ups_cnt0_abortcnt _) (hF.ups_evt_ctlabort _) (hF.ups_sts_staged
        _) ?_ (hF.up _)
    | refine State.getSts_only ?_ _ _ hF.outs (hF.ups_cnt0_abortcnt _) (hF.ups_evt_ctlabort _) (hF.ups_sts_staged _)
        ?_ (hF.up _)
    | refine State.otherReq_only ?_ _ _ hF.outs (hF.ups_cnt0_abortcnt _) (hF.ups_evt_ctlabort _) (hF.ups_sts_rwakeen
        _) (hF.ups_sts_staged _) ?_ (hF.up _)
    | refine State.setAddr_only ?_ _ _ hF.outs (hF.ups_cnt0_abortcnt _) (hF.ups_evt_ctlabort _) (hF.ups_sts_addr _)
        (hF.ups_sts_devstate _) (hF.ups_sts_staged _) ?_ (hF.up _)
    | refine State.setConfig_only ?_ _ _ hF.edgeDue hF.freeCtr hF.outs hF.port hF.lds_chg0_p00_p31 hF.lds_chg1_p32_p47
        hF.lds_rsum_hbused hF.lds_rsum_idvalid hF.lds_rsum_profile hF.lds_rsum_result hF.lds_rsum_state
        hF.pkm_fence_fallback hF.pkm_freests_was hF.pkm_gcnt0_free hF.pkm_gcnt0_queued hF.pkm_gcnt1_inflight
        hF.pkm_gcnt2_poolfree hF.pkm_iqptr_rptr hF.prt_altmux_active hF.prt_altmux_qbusy hF.prt_altmux_qhold
        hF.prt_fusevt_pgoff hF.prt_fussts_fold hF.prt_fussts_gateon hF.prt_fussts_limit hF.prt_fussts_pg
        hF.prt_hubsts_connection hF.prt_hubsts_enable hF.prt_hubsts_highspd hF.prt_hubsts_lowspd hF.prt_hubsts_power
        hF.prt_hubsts_reset hF.prt_hubsts_state hF.prt_hubsts_suspend hF.prt_hubsts_test hF.prt_mtrcnt_datahit
        hF.prt_mtrcnt_nakhit hF.prt_mtrsts_stranded hF.prt_mtrsts_withdrawn hF.prt_pdsts_altmode hF.prt_pdsts_evt
        hF.prt_pdsts_explicit hF.prt_pdsts_objpos hF.prt_pdsts_opcurr hF.prt_pdsts_pwrrole hF.prt_pdsts_vcsrc
        hF.prt_pdsts_vsel hF.prt_qsts_stopped hF.prt_tcevt_oos hF.prt_tcevt_wetout hF.prt_tcsts_moistok
        hF.prt_tcsts_oos hF.prt_tcsts_orient hF.prt_tcsts_rpadv hF.prt_tcsts_tcstate hF.prt_tcsts_wet
        hF.prt_tcsts_wetgnd hF.prt_tcsts_wetpin hF.prt_tcsts_wetvbus hF.prt_vconn_on hF.pwr_pallow_shed
        hF.pwr_pallow_wait hF.pwr_pbook_commit hF.pwr_pbook_contract hF.pwr_qbook_commit hF.pwr_qbook_contract
        hF.pwr_totcom_commit hF.pwr_totcon_contract hF.swx_cnta_stale hF.swx_cntb_rlywd (hF.ups_cnt0_abortcnt _) ?_
        (hF.ups_evt_ctlabort _) (hF.ups_sts_altset _) (hF.ups_sts_devstate _) (hF.ups_sts_staged _) ?_ hF.sw hF.up
    | refine State.setIface_only ?_ _ _ hF.outs hF.port hF.prt_qsts_stopped (hF.ups_cnt0_abortcnt _) ?_
        (hF.ups_evt_ctlabort _) (hF.ups_sts_altset _) (hF.ups_sts_staged _) ?_ (hF.up _)
    | refine State.testMode_only ?_ _ _ hF.outs (hF.ups_cnt0_abortcnt _) (hF.ups_evt_ctlabort _) (hF.ups_sts_devstate
        _) (hF.ups_sts_staged _) ?_ (hF.up _)
    | refine State.vendorOther_only ?_ _ _ hF.outs (hF.ups_cnt0_abortcnt _) (hF.ups_evt_ctlabort _) (hF.ups_sts_staged
        _) ?_ (hF.up _)
    | intro _ _ _ | intro _ _ | split

theorem State.relayOut_only
    (h : Only P s t) (u a ep : Nat) (tog : Bool) (bs : List Byte) (hF : FaultMay P)
    (e_swx_cntb_admnak : P (.field (SWX.CNTB.ADMNAK u).key)) :
    Only P s (t.relayOut u a ep tog bs) := by
  unfold State.relayOut
  repeat' with_reducible first
    | assumption | refine State.admNak_only ?_ _ hF.outs ?_ | apply State.begin_only
    | refine State.giveStop_only ?_ _ _ _ hF.outs (hF.port _) (hF.up _)
    | refine State.relay_only ?_ _ _ _ ?_ hF.outs | intro _ _ _ | intro _ _ | split | apply Only.upd
    | exact .inr rfl

theorem State.askIn_only
    (h : Only P s t) (u n : Nat) (k : Key) (iso : Bool) (hF : FaultMay P) :
    Only P s (t.askIn u n k iso) := by
  unfold State.askIn
  repeat' with_reducible first
    | assumption | exact hF.outs | apply Only.emit | apply State.begin_only
    | refine State.modSlot_only ?_ _ _ _ _ (hF.port _) | intro _ _ _ | intro _ _ | split

theorem State.xferIn_only
    (h : Only P s t) (u n a ep : Nat) (bs : List Byte) (h1 : P .edgeDue) (h2 : P (.port n))
    (h3 : P (.field PKM.FENCE.FALLBACK.key)) (h4 : P (.field PKM.FREESTS.WAS.key))
    (h5 : P (.field PKM.GCNT0.FREE.key)) (h6 : P (.field PKM.GCNT0.QUEUED.key))
    (h7 : P (.field PKM.GCNT1.INFLIGHT.key)) (h8 : P (.field PKM.GCNT2.POOLFREE.key))
    (h9 : ∀ i, P (.field (PKM.IQPTR.RPTR i).key)) (h10 : P (.field (PRT.MTRSTS.STRANDED n).key))
    (h11 : P (.field (PRT.MTRSTS.WITHDRAWN n).key)) (h12 : ∀ i, P (.field (SWX.CNTB.RLYWD i).key)) (h13 : P .sw)
    (h14 : P (.up u)) :
    Only P s (t.xferIn u n a ep bs) := by
  unfold State.xferIn
  repeat' with_reducible first
    | assumption | apply Only.modUp | apply State.ctlDone_only | apply h9 | apply h12 | intro _ _ _ | intro _ _
    | split

theorem State.relayIn_only
    (h : Only P s t) (u a ep : Nat) (acked : Bool) (hF : FaultMay P)
    (e_swx_cntc_noslot : P (.field (SWX.CNTC.NOSLOT u).key)) :
    Only P s (t.relayIn u a ep acked) := by
  unfold State.relayIn
  repeat' with_reducible first
    | assumption | exact hF.outs | apply Only.bump | apply Only.emit | apply State.askIn_only
    | refine State.dropHeld_only ?_ _ _ hF.edgeDue hF.pkm_fence_fallback hF.pkm_freests_was hF.pkm_gcnt0_free
        hF.pkm_gcnt0_queued hF.pkm_gcnt1_inflight hF.pkm_gcnt2_poolfree hF.pkm_iqptr_rptr hF.sw
    | refine State.giveStop_only ?_ _ _ _ hF.outs (hF.port _) (hF.up _)
    | refine State.modSlot_only ?_ _ _ _ _ (hF.port _) | refine State.relay_only ?_ _ _ _ ?_ hF.outs
    | refine State.xferIn_only ?_ _ _ _ _ _ hF.edgeDue (hF.port _) hF.pkm_fence_fallback hF.pkm_freests_was
        hF.pkm_gcnt0_free hF.pkm_gcnt0_queued hF.pkm_gcnt1_inflight hF.pkm_gcnt2_poolfree hF.pkm_iqptr_rptr
        (hF.prt_mtrsts_stranded _) (hF.prt_mtrsts_withdrawn _) hF.swx_cntb_rlywd hF.sw (hF.up _)
    | intro _ _ _ | intro _ _ | split | apply Only.upd | exact .inr rfl

theorem State.copyBeat_only
    (h : Only P s t) (p : Pkt) (h1 : P (.field PKM.FENCE.FALLBACK.key)) (h2 : P (.field PKM.GCNT0.FREE.key))
    (h3 : P (.field PKM.GCNT0.QUEUED.key)) (h4 : ∀ i, P (.field (PKM.IQPTR.RPTR i).key)) (h5 : P .sw) :
    Only P s (t.copyBeat p) := by
  unfold State.copyBeat
  repeat' with_reducible first
    | assumption | apply Only.wr | apply Only.modSw | apply State.fallSettle_only | apply State.iqPop_only
    | apply State.modPkt_only | apply h4 | intro _ _ _ | intro _ _ | split

theorem State.voidTail_only
    (h : Only P s t) (p : Pkt) (crcOk : Bool) (hF : FaultMay P)
    (e_swx_cnta_badtail : ∀ i, P (.field (SWX.CNTA.BADTAIL i).key)) :
    Only P s (t.voidTail p crcOk) := by
  unfold State.voidTail
  repeat' with_reducible first
    | assumption | exact hF.outs | exact hF.swx_cnta_stale _ | apply Only.bump | apply Only.emit
    | refine State.dropPkt_only ?_ _ hF.edgeDue hF.pkm_fence_fallback hF.pkm_freests_was hF.pkm_gcnt0_free
        hF.pkm_gcnt0_queued hF.pkm_gcnt1_inflight hF.pkm_gcnt2_poolfree hF.pkm_iqptr_rptr hF.sw
    | refine State.modPkt_only ?_ _ _ hF.sw | refine State.modSlot_only ?_ _ _ _ _ (hF.port _)
    | apply State.produce_only | apply e_swx_cnta_badtail | intro _ _ _ | intro _ _ | split | apply Only.upd
    | exact .inr rfl

theorem State.inEmpty_only
    (h : Only P s t) (n : Nat) (p : Pkt) (g : Slot → Slot) (h1 : P .edgeDue) (h2 : P (.port n))
    (h3 : P (.field PKM.FENCE.FALLBACK.key)) (h4 : P (.field PKM.FREESTS.WAS.key))
    (h5 : P (.field PKM.GCNT0.FREE.key)) (h6 : P (.field PKM.GCNT0.QUEUED.key))
    (h7 : P (.field PKM.GCNT1.INFLIGHT.key)) (h8 : P (.field PKM.GCNT2.POOLFREE.key))
    (h9 : ∀ i, P (.field (PKM.IQPTR.RPTR i).key)) (h10 : P .sw) :
    Only P s (t.inEmpty n p g) := by
  unfold State.inEmpty
  repeat' with_reducible first
    | assumption | apply State.dropPkt_only | apply State.modSlot_only

theorem State.journalOpen_only
    (h : Only P s t) (code inst outcome slot reason : Nat) (arg : Option Nat) (h1 : P .boot) (h2 : P .flash)
    (h3 : P .freeCtr) (h4 : P .outs) (h5 : P (.field BOOT.JSEQ.JSEQ.key)) (h6 : P .retain) :
    Only P s (t.journalOpen code inst outcome slot reason arg) := by
  unfold State.journalOpen
  repeat' with_reducible first
    | assumption | apply Only.free | apply State.journal_only | intro _ _ _ | intro _ _ | split

theorem State.stepRec_only
    (h : Only P s t) (code inst : Nat) (x : StepOut) (h1 : P .boot) (h2 : P .flash) (h3 : P .freeCtr) (h4 : P .outs)
    (h5 : P (.field BOOT.JSEQ.JSEQ.key)) (h6 : P .retain) :
    Only P s (t.stepRec code inst x) := by
  unfold State.stepRec
  repeat' with_reducible first
    | assumption | apply Only.free | apply State.journalOpen_only | intro _ _ _ | intro _ _ | split

theorem State.setMark_only
    (h : Only P s t) (k : Nat) (h1 : P (.field BOOT.BOOTCNT.BOOTNO.key)) (h2 : P (.field BOOT.BOOTCNT.CONSEC.key))
    (h3 : P (.field BOOT.FAILMEM.CAL.key)) (h4 : P (.field BOOT.FAILMEM.LINK.key))
    (h5 : P (.field BOOT.FAILMEM.NVM.key)) (h6 : P (.field BOOT.FAILMEM.QID.key))
    (h7 : P (.field BOOT.FAILMEM.SLOTA.key)) (h8 : P (.field BOOT.FAILMEM.SLOTB.key)) (h9 : P .retain) :
    Only P s (t.setMark k) := by
  unfold State.setMark
  repeat' with_reducible first
    | assumption | apply State.showBoot_only | intro _ _ _ | intro _ _ | split | apply Only.upd | exact .inr rfl
    | (left; assumption)

theorem State.stepFail_only
    (h : Only P s t) (x : StepOut) (h1 : P .boot) (h2 : P .flash) (h3 : P .freeCtr) (h4 : P .outs)
    (h5 : P (.field BOOT.BOOTCNT.BOOTNO.key)) (h6 : P (.field BOOT.BOOTCNT.CONSEC.key))
    (h7 : P (.field BOOT.FAILMEM.CAL.key)) (h8 : P (.field BOOT.FAILMEM.LINK.key))
    (h9 : P (.field BOOT.FAILMEM.NVM.key)) (h10 : P (.field BOOT.FAILMEM.QID.key))
    (h11 : P (.field BOOT.FAILMEM.SLOTA.key)) (h12 : P (.field BOOT.FAILMEM.SLOTB.key))
    (h13 : P (.field BOOT.JSEQ.JSEQ.key)) (h14 : P .retain) :
    Only P s (t.stepFail x) := by
  unfold State.stepFail
  repeat' with_reducible first
    | assumption | apply State.setMark_only | apply State.stepRec_only | intro _ _ _ | intro _ _ | split
    | apply Only.upd | exact .inr rfl | (left; assumption)

theorem State.usesAlt_only
    (h : Only P s t) (k : Nat) (h1 : P .boot) :
    Only P s (t.usesAlt k) := by
  unfold State.usesAlt
  repeat' with_reducible first
    | assumption | intro _ _ _ | intro _ _ | split | apply Only.upd | exact .inr rfl | (left; assumption)

theorem State.showHeader_only
    (h : Only P s t) (h_ : Header) (h1 : P (.field BOOT.HDRSEQ.SEQ.key)) (h2 : P (.field BOOT.HEADER.ACTIVE.key))
    (h3 : P (.field BOOT.HEADER.STATEA.key)) (h4 : P (.field BOOT.HEADER.STATEB.key)) :
    Only P s (t.showHeader h_) := by
  unfold State.showHeader
  repeat' with_reducible first
    | assumption | apply Only.wr

theorem State.useIdent_only
    (h : Only P s t) (q src : Nat) (i : Option Ident) (h1 : P (.quad q)) (h2 : P (.field (QD.ID.BOARDREV q).key))
    (h3 : P (.field (QD.ID.RSHUNT q).key)) (h4 : P (.field (QD.STS.IDSRC q).key)) (h5 : P .retain) :
    Only P s (t.useIdent q src i) := by
  unfold State.useIdent
  repeat' with_reducible first
    | assumption | apply Only.wr | apply Only.modQuad | intro _ _ _ | intro _ _ | split | apply Only.upd
    | exact .inr rfl | (left; assumption)

theorem State.noIdent_only
    (h : Only P s t) (q : Nat) (hF : FaultMay P) (e_qd_id_boardrev : P (.field (QD.ID.BOARDREV q).key))
    (e_qd_id_rshunt : P (.field (QD.ID.RSHUNT q).key)) (e_qd_sts_idsrc : P (.field (QD.STS.IDSRC q).key)) :
    Only P s (t.noIdent q) := by
  unfold State.noIdent
  repeat' with_reducible first
    | assumption | apply State.record_only | refine State.useIdent_only ?_ _ _ _ (hF.quad _) ?_ ?_ ?_ hF.retain

theorem State.cacheWrite_only
    (h : Only P s t) (ofs : Nat) (bs : List Byte) (h1 : P .flash) (h2 : P .outs) :
    Only P s (t.cacheWrite ofs bs) := by
  unfold State.cacheWrite
  repeat' with_reducible first
    | assumption | apply Only.flashErase | apply Only.flashProgram

theorem State.identRead_only
    (h : Only P s t) (q : Nat) (bs : List Byte) (d : Ident) (h1 : P .flash) (h2 : P .outs) (h3 : P (.quad q))
    (h4 : P (.field (QD.ID.BOARDREV q).key)) (h5 : P (.field (QD.ID.RSHUNT q).key))
    (h6 : P (.field (QD.STS.IDSRC q).key)) (h7 : P .retain) :
    Only P s (t.identRead q bs d) := by
  unfold State.identRead
  repeat' with_reducible first
    | assumption | apply State.cacheWrite_only | apply State.useIdent_only | intro _ _ _ | intro _ _ | split
    | dsimp only

theorem State.identNormal_only
    (h : Only P s t) (q : Nat) (mem : Option (List Byte)) (hF : FaultMay P)
    (e_boot_bootcnt_bootno : P (.field BOOT.BOOTCNT.BOOTNO.key))
    (e_boot_bootcnt_consec : P (.field BOOT.BOOTCNT.CONSEC.key))
    (e_boot_failmem_cal : P (.field BOOT.FAILMEM.CAL.key)) (e_boot_failmem_link : P (.field BOOT.FAILMEM.LINK.key))
    (e_boot_failmem_nvm : P (.field BOOT.FAILMEM.NVM.key)) (e_boot_failmem_qid : P (.field BOOT.FAILMEM.QID.key))
    (e_boot_failmem_slota : P (.field BOOT.FAILMEM.SLOTA.key))
    (e_boot_failmem_slotb : P (.field BOOT.FAILMEM.SLOTB.key)) (e_qd_evt_idfail : P (.field (QD.EVT.IDFAIL q).key))
    (e_qd_id_boardrev : P (.field (QD.ID.BOARDREV q).key)) (e_qd_id_rshunt : P (.field (QD.ID.RSHUNT q).key))
    (e_qd_sts_idsrc : P (.field (QD.STS.IDSRC q).key)) :
    Only P s (t.identNormal q mem).2 := by
  unfold State.identNormal
  repeat' with_reducible first
    | assumption | refine State.identFail_only ?_ _ ?_
    | refine State.identRead_only ?_ _ _ _ hF.flash hF.outs (hF.quad _) ?_ ?_ ?_ hF.retain
    | apply State.noIdent_only | refine State.setMark_only ?_ _ ?_ ?_ ?_ ?_ ?_ ?_ ?_ ?_ hF.retain
    | refine State.useIdent_only ?_ _ _ _ (hF.quad _) ?_ ?_ ?_ hF.retain | intro _ _ _ | intro _ _ | split

theorem State.identMarked_only
    (h : Only P s t) (q : Nat) (mem : Option (List Byte)) (hF : FaultMay P)
    (e_boot_bootcnt_bootno : P (.field BOOT.BOOTCNT.BOOTNO.key))
    (e_boot_bootcnt_consec : P (.field BOOT.BOOTCNT.CONSEC.key))
    (e_boot_failmem_cal : P (.field BOOT.FAILMEM.CAL.key)) (e_boot_failmem_link : P (.field BOOT.FAILMEM.LINK.key))
    (e_boot_failmem_nvm : P (.field BOOT.FAILMEM.NVM.key)) (e_boot_failmem_qid : P (.field BOOT.FAILMEM.QID.key))
    (e_boot_failmem_slota : P (.field BOOT.FAILMEM.SLOTA.key))
    (e_boot_failmem_slotb : P (.field BOOT.FAILMEM.SLOTB.key)) (e_qd_evt_idfail : P (.field (QD.EVT.IDFAIL q).key))
    (e_qd_id_boardrev : P (.field (QD.ID.BOARDREV q).key)) (e_qd_id_rshunt : P (.field (QD.ID.RSHUNT q).key))
    (e_qd_sts_idsrc : P (.field (QD.STS.IDSRC q).key)) :
    Only P s (t.identMarked q mem).2 := by
  unfold State.identMarked
  repeat' with_reducible first
    | assumption | exact hF.quad _ | apply Only.modQuad
    | refine State.clearMarks_only ?_ _ ?_ ?_ ?_ ?_ ?_ ?_ ?_ ?_ hF.retain | refine State.identFail_only ?_ _ ?_
    | refine State.identRead_only ?_ _ _ _ hF.flash hF.outs (hF.quad _) ?_ ?_ ?_ hF.retain
    | apply State.noIdent_only | refine State.useIdent_only ?_ _ _ _ (hF.quad _) ?_ ?_ ?_ hF.retain
    | refine State.usesAlt_only ?_ _ hF.boot | intro _ _ _ | intro _ _ | split

theorem State.lowerIlim_only
    (h : Only P s t) (q : Nat) (h1 : P .copies) (h2 : P .image) (h3 : ∀ i, P (.field (PRT.FUSCFG.ILIM i).key)) :
    Only P s (t.lowerIlim q).2 := by
  unfold State.lowerIlim
  repeat' with_reducible first
    | assumption | apply Only.forEach | apply Only.load | apply h3 | intro _ _ _ | intro _ _ | split
    | apply Only.upd | exact .inr rfl | (left; assumption)

theorem State.identStep_only
    (h : Only P s t) (q : Nat) (quick : Bool) (mem : Option (List Byte)) (hF : FaultMay P) (e_image : P .image)
    (e_boot_bootcnt_bootno : P (.field BOOT.BOOTCNT.BOOTNO.key))
    (e_boot_bootcnt_consec : P (.field BOOT.BOOTCNT.CONSEC.key))
    (e_boot_failmem_cal : P (.field BOOT.FAILMEM.CAL.key)) (e_boot_failmem_link : P (.field BOOT.FAILMEM.LINK.key))
    (e_boot_failmem_nvm : P (.field BOOT.FAILMEM.NVM.key)) (e_boot_failmem_qid : P (.field BOOT.FAILMEM.QID.key))
    (e_boot_failmem_slota : P (.field BOOT.FAILMEM.SLOTA.key))
    (e_boot_failmem_slotb : P (.field BOOT.FAILMEM.SLOTB.key))
    (e_prt_fuscfg_ilim : ∀ i, P (.field (PRT.FUSCFG.ILIM i).key))
    (e_qd_evt_idfail : P (.field (QD.EVT.IDFAIL q).key)) (e_qd_id_boardrev : P (.field (QD.ID.BOARDREV q).key))
    (e_qd_id_rshunt : P (.field (QD.ID.RSHUNT q).key)) (e_qd_sts_idsrc : P (.field (QD.STS.IDSRC q).key)) :
    Only P s (t.identStep q quick mem).2 := by
  unfold State.identStep
  repeat' with_reducible first
    | assumption | exact hF.boot | exact hF.retain | exact hF.sec_sts_present _ | apply State.identMarked_only
    | apply State.identNormal_only | refine State.lowerIlim_only ?_ _ hF.copies ?_ ?_
    | refine State.useIdent_only ?_ _ _ _ (hF.quad _) ?_ ?_ ?_ hF.retain | apply e_prt_fuscfg_ilim | intro _ _ _
    | intro _ _ | split

theorem State.linkUp_only
    (h : Only P s t) (i red : Nat) (h1 : ∀ i, P (.flt i)) (h2 : P (.field (SEC.EVT.EVENTS i).key))
    (h3 : P (.field (SEC.STS.HOLD i).key)) (h4 : P (.field (SEC.STS.LINK i).key))
    (h5 : P (.field (SEC.STS.RATE i).key)) (h6 : P (.sec i)) :
    Only P s (t.linkUp i red) := by
  unfold State.linkUp
  repeat' with_reducible first
    | assumption | apply Only.wr | apply Only.raise | apply Only.orBits | apply Only.modSec
    | apply State.condEnd_only | apply h1 | intro _ _ _ | intro _ _ | split

theorem State.linkDead_only
    (h : Only P s t) (i : Nat) (hF : FaultMay P) (e_sec_sts_link : P (.field (SEC.STS.LINK i).key)) :
    Only P s (t.linkDead i) := by
  unfold State.linkDead
  repeat' with_reducible first
    | assumption | apply Only.wr | apply State.condBegin_only

theorem State.linkStep_only
    (h : Only P s t) (i : Nat) (full reduced : Bool) (hF : FaultMay P)
    (e_boot_bootcnt_bootno : P (.field BOOT.BOOTCNT.BOOTNO.key))
    (e_boot_bootcnt_consec : P (.field BOOT.BOOTCNT.CONSEC.key))
    (e_boot_failmem_cal : P (.field BOOT.FAILMEM.CAL.key)) (e_boot_failmem_link : P (.field BOOT.FAILMEM.LINK.key))
    (e_boot_failmem_nvm : P (.field BOOT.FAILMEM.NVM.key)) (e_boot_failmem_qid : P (.field BOOT.FAILMEM.QID.key))
    (e_boot_failmem_slota : P (.field BOOT.FAILMEM.SLOTA.key))
    (e_boot_failmem_slotb : P (.field BOOT.FAILMEM.SLOTB.key)) (e_sec_sts_hold : P (.field (SEC.STS.HOLD i).key))
    (e_sec_sts_link : P (.field (SEC.STS.LINK i).key)) (e_sec_sts_rate : P (.field (SEC.STS.RATE i).key)) :
    Only P s (t.linkStep i full reduced).2 := by
  unfold State.linkStep
  repeat' with_reducible first
    | assumption | exact hF.sec_sts_present _ | apply State.linkDead_only
    | refine State.linkUp_only ?_ _ _ hF.flt (hF.sec_evt_events _) ?_ ?_ ?_ (hF.sec _)
    | refine State.setMark_only ?_ _ ?_ ?_ ?_ ?_ ?_ ?_ ?_ ?_ hF.retain | refine State.usesAlt_only ?_ _ hF.boot
    | intro _ _ _ | intro _ _ | split

theorem State.writeHeader_only
    (h : Only P s t) (h_ : Header) (h1 : P .flash) (h2 : P .outs) (h3 : P (.field BOOT.HDRSEQ.SEQ.key))
    (h4 : P (.field BOOT.HEADER.ACTIVE.key)) (h5 : P (.field BOOT.HEADER.STATEA.key))
    (h6 : P (.field BOOT.HEADER.STATEB.key)) (h7 : P .retain) :
    Only P s (t.writeHeader h_) := by
  unfold State.writeHeader
  repeat' with_reducible first
    | assumption | apply Only.flashErase | apply Only.flashProgram | apply State.showHeader_only | intro _ _ _
    | intro _ _ | split | apply Only.upd | exact .inr rfl | (left; assumption)

theorem State.begun_only
    (h : Only P s t) (h1 : P .boot) (h2 : P .flash) (h3 : P .freeCtr) (h4 : P .outs)
    (h5 : P (.field BOOT.BOOTCNT.BOOTNO.key)) (h6 : P (.field BOOT.BOOTCNT.CONSEC.key))
    (h7 : P (.field BOOT.FAILMEM.CAL.key)) (h8 : P (.field BOOT.FAILMEM.LINK.key))
    (h9 : P (.field BOOT.FAILMEM.NVM.key)) (h10 : P (.field BOOT.FAILMEM.QID.key))
    (h11 : P (.field BOOT.FAILMEM.SLOTA.key)) (h12 : P (.field BOOT.FAILMEM.SLOTB.key))
    (h13 : P (.field BOOT.JSEQ.JSEQ.key)) (h14 : P .retain) :
    Only P s (t.begun) := by
  unfold State.begun
  repeat' with_reducible first
    | assumption | apply State.bootStart_only | intro _ _ _ | intro _ _ | split

theorem State.sampleStraps_only
    (h : Only P s t) (strap : Nat) (h1 : P (.field SYS.STRAP.ADR.key)) (h2 : P (.field SYS.STRAP.MODE.key)) :
    Only P s (t.sampleStraps strap) := by
  unfold State.sampleStraps
  repeat' with_reducible first
    | assumption | apply Only.wr

theorem State.updIdle_only
    (h : Only P s t) (h1 : P (.field BOOT.UPDSTS.OWNER.key)) (h2 : P (.field BOOT.UPDSTS.SESSION.key)) :
    Only P s (t.updIdle) := by
  unfold State.updIdle
  repeat' with_reducible first
    | assumption | apply Only.wr

theorem State.commitLand_only
    (h : Only P s t) (x : UpdX) (h1 : P .flash) (h2 : P .outs) (h3 : P (.field BOOT.HDRSEQ.SEQ.key))
    (h4 : P (.field BOOT.HEADER.ACTIVE.key)) (h5 : P (.field BOOT.HEADER.STATEA.key))
    (h6 : P (.field BOOT.HEADER.STATEB.key)) (h7 : P .retain) (h8 : P .upd) :
    Only P s (t.commitLand x) := by
  unfold State.commitLand
  repeat' with_reducible first
    | assumption | apply State.writeHeader_only | intro _ _ _ | intro _ _ | split | apply Only.upd | exact .inr rfl
    | (left; assumption)

theorem State.updDone_only
    (h : Only P s t) (x : UpdX) (readBack : Bool) (h1 : P .boot) (h2 : P .flash) (h3 : P .freeCtr) (h4 : P .outs)
    (h5 : P (.field BOOT.HDRSEQ.SEQ.key)) (h6 : P (.field BOOT.HEADER.ACTIVE.key))
    (h7 : P (.field BOOT.HEADER.STATEA.key)) (h8 : P (.field BOOT.HEADER.STATEB.key))
    (h9 : P (.field BOOT.JSEQ.JSEQ.key)) (h10 : P (.field BOOT.UPDSTS.BUSY.key))
    (h11 : P (.field BOOT.UPDSTS.OWNER.key)) (h12 : P (.field BOOT.UPDSTS.REASON.key))
    (h13 : P (.field BOOT.UPDSTS.RESTRICT.key)) (h14 : P (.field BOOT.UPDSTS.RESULT.key))
    (h15 : P (.field BOOT.UPDSTS.SESSION.key)) (h16 : P .retain) (h17 : P .upd) :
    Only P s (t.updDone x readBack) := by
  unfold State.updDone
  repeat' with_reducible first
    | assumption | apply Only.wr | apply Only.flag | apply State.journal_only | apply State.journalOpen_only
    | apply State.updIdle_only | apply State.writeHeader_only | intro _ _ _ | intro _ _ | split | apply Only.upd
    | exact .inr rfl | (left; assumption)

theorem State.ldsStop_only
    (h : Only P s t) (n result : Nat) (h1 : P .edgeDue) (h2 : P .freeCtr) (h3 : P (.port n))
    (h4 : P (.field LDS.CHG0.P00_P31.key)) (h5 : P (.field LDS.CHG1.P32_P47.key))
    (h6 : P (.field (LDS.RSUM.HBUSED n).key)) (h7 : P (.field (LDS.RSUM.IDVALID n).key))
    (h8 : P (.field (LDS.RSUM.PROFILE n).key)) (h9 : P (.field (LDS.RSUM.RESULT n).key))
    (h10 : P (.field (LDS.RSUM.STATE n).key)) :
    Only P s (t.ldsStop n result) := by
  unfold State.ldsStop
  repeat' with_reducible first
    | assumption | apply State.ldsEnd_only

theorem State.ldsFail_only
    (h : Only P s t) (n : Nat) (h1 : P .edgeDue) (h2 : P .freeCtr) (h3 : P .outs) (h4 : ∀ i, P (.port i))
    (h5 : P (.field LDS.CHG0.P00_P31.key)) (h6 : P (.field LDS.CHG1.P32_P47.key))
    (h7 : P (.field LDS.CNT0.ENUMFAIL.key)) (h8 : P (.field (LDS.RSUM.HBUSED n).key))
    (h9 : P (.field (LDS.RSUM.IDVALID n).key)) (h10 : P (.field (LDS.RSUM.PROFILE n).key))
    (h11 : P (.field (LDS.RSUM.RESULT n).key)) (h12 : P (.field (LDS.RSUM.STATE n).key))
    (h13 : P (.field PKM.FENCE.FALLBACK.key)) (h14 : P (.field PKM.FREESTS.WAS.key))
    (h15 : P (.field PKM.GCNT0.FREE.key)) (h16 : P (.field PKM.GCNT0.QUEUED.key))
    (h17 : P (.field PKM.GCNT1.INFLIGHT.key)) (h18 : P (.field PKM.GCNT2.POOLFREE.key))
    (h19 : ∀ i, P (.field (PKM.IQPTR.RPTR i).key)) (h20 : P (.field (PRT.HUBSTS.ENABLE n).key))
    (h21 : P (.field (PRT.HUBSTS.HIGHSPD n).key)) (h22 : P (.field (PRT.HUBSTS.RESET n).key))
    (h23 : P (.field (PRT.HUBSTS.STATE n).key)) (h24 : P (.field (PRT.HUBSTS.SUSPEND n).key))
    (h25 : P (.field (PRT.HUBSTS.TEST n).key)) (h26 : P (.field (PRT.MTRCNT.DATAHIT n).key))
    (h27 : P (.field (PRT.MTRCNT.NAKHIT n).key)) (h28 : P (.field (PRT.MTRSTS.STRANDED n).key))
    (h29 : P (.field (PRT.MTRSTS.WITHDRAWN n).key)) (h30 : P (.field (PRT.QSTS.STOPPED n).key))
    (h31 : ∀ i, P (.field (SWX.CNTA.STALE i).key)) (h32 : ∀ i, P (.field (SWX.CNTB.RLYWD i).key)) (h33 : P .sw)
    (h34 : ∀ i, P (.up i)) :
    Only P s (t.ldsFail n) := by
  unfold State.ldsFail
  repeat' with_reducible first
    | assumption | apply Only.bump | apply Only.modLds | apply State.ldsReset_only | apply State.ldsStop_only
    | apply h4 | apply h19 | apply h31 | apply h32 | apply h34 | intro _ _ _ | intro _ _ | split

theorem State.ldsRecord_only
    (h : Only P s t) (n i : Nat) (h1 : P .edgeDue) (h2 : P .freeCtr) (h3 : P .outs) (h4 : P (.port n))
    (h5 : P (.field LDS.CHG0.P00_P31.key)) (h6 : P (.field LDS.CHG1.P32_P47.key))
    (h7 : P (.field (LDS.RSUM.HBUSED n).key)) (h8 : P (.field (LDS.RSUM.IDVALID n).key))
    (h9 : P (.field (LDS.RSUM.PROFILE n).key)) (h10 : P (.field (LDS.RSUM.RESULT n).key))
    (h11 : P (.field (LDS.RSUM.STATE n).key)) (h12 : P (.field (PKM.IQPTR.RPTR 52).key))
    (h13 : P (.field (PKM.IQPTR.WPTR 52).key)) (h14 : P (.field (SWX.CNTA.STALE 4).key)) (h15 : P .sw) :
    Only P s (t.ldsRecord n i) := by
  unfold State.ldsRecord
  repeat' with_reducible first
    | assumption | apply Only.modLds | apply State.ldsEnd_only | apply State.ldsSend_only | apply State.record_only
    | apply State.setEntry_only | intro _ _ _ | intro _ _ | split | apply Only.upd | exact .inr rfl

theorem State.ldsRecFail_only
    (h : Only P s t) (n code : Nat) (h1 : P .edgeDue) (h2 : P .freeCtr) (h3 : P .outs) (h4 : P (.port n))
    (h5 : P (.field LDS.CHG0.P00_P31.key)) (h6 : P (.field LDS.CHG1.P32_P47.key))
    (h7 : P (.field (LDS.RSUM.HBUSED n).key)) (h8 : P (.field (LDS.RSUM.IDVALID n).key))
    (h9 : P (.field (LDS.RSUM.PROFILE n).key)) (h10 : P (.field (LDS.RSUM.RESULT n).key))
    (h11 : P (.field (LDS.RSUM.STATE n).key)) (h12 : P (.field (PKM.IQPTR.RPTR 52).key))
    (h13 : P (.field (PKM.IQPTR.WPTR 52).key)) (h14 : P (.field (SWX.CNTA.STALE 4).key)) (h15 : P .sw) :
    Only P s (t.ldsRecFail n code) := by
  unfold State.ldsRecFail
  repeat' with_reducible first
    | assumption | apply State.ldsRecord_only | apply State.ldsStop_only | intro _ _ _ | intro _ _ | split
    | dsimp only

theorem State.ldsRecDone_only
    (h : Only P s t) (n : Nat) (bs : List Byte) (h1 : P .edgeDue) (h2 : P .freeCtr) (h3 : P .outs)
    (h4 : P (.port n)) (h5 : P (.field LDS.CHG0.P00_P31.key)) (h6 : P (.field LDS.CHG1.P32_P47.key))
    (h7 : P (.field (LDS.RSUM.HBUSED n).key)) (h8 : P (.field (LDS.RSUM.IDVALID n).key))
    (h9 : P (.field (LDS.RSUM.PROFILE n).key)) (h10 : P (.field (LDS.RSUM.RESULT n).key))
    (h11 : P (.field (LDS.RSUM.STATE n).key)) (h12 : P (.field (PKM.IQPTR.RPTR 52).key))
    (h13 : P (.field (PKM.IQPTR.WPTR 52).key)) (h14 : P (.field (SWX.CNTA.STALE 4).key)) (h15 : P .sw) :
    Only P s (t.ldsRecDone n bs) := by
  unfold State.ldsRecDone
  repeat' with_reducible first
    | assumption | apply Only.modLds | apply State.ldsRecFail_only | apply State.ldsRecord_only | intro _ _ _
    | intro _ _ | split | apply Only.upd | exact .inr rfl

theorem State.ldsConfigured_only
    (h : Only P s t) (n : Nat) (h1 : P .edgeDue) (h2 : P .freeCtr) (h3 : P .outs) (h4 : P (.port n))
    (h5 : P (.field LDS.CHG0.P00_P31.key)) (h6 : P (.field LDS.CHG1.P32_P47.key))
    (h7 : P (.field (LDS.RSUM.HBUSED n).key)) (h8 : P (.field (LDS.RSUM.IDVALID n).key))
    (h9 : P (.field (LDS.RSUM.PROFILE n).key)) (h10 : P (.field (LDS.RSUM.RESULT n).key))
    (h11 : P (.field (LDS.RSUM.STATE n).key)) (h12 : P (.field (PKM.IQPTR.RPTR 52).key))
    (h13 : P (.field (PKM.IQPTR.WPTR 52).key)) (h14 : P (.field (SWX.CNTA.STALE 4).key)) (h15 : P .sw) :
    Only P s (t.ldsConfigured n) := by
  have k : Only P s (t.ldsStop n 8) := by
    apply State.ldsStop_only <;> with_reducible assumption
  have r : Only P s (t.ldsRecord n 0) := by
    apply State.ldsRecord_only <;> with_reducible assumption
  unfold State.ldsConfigured
  extract_lets p c own
  refine Only.ite r ?_
  generalize t.hbEndpoint n = e
  match e with
  | none => exact k
  | some (_, _, _) => exact Only.ite r k

theorem State.ldsIdentity_only
    (h : Only P s t) (n : Nat) (serial : List Byte) (h1 : P .edgeDue) (h2 : P .freeCtr) (h3 : P .outs)
    (h4 : P (.port n)) (h5 : P (.field LDS.CHG0.P00_P31.key)) (h6 : P (.field LDS.CHG1.P32_P47.key))
    (h7 : P (.field (LDS.RSUM.HBUSED n).key)) (h8 : P (.field (LDS.RSUM.IDVALID n).key))
    (h9 : P (.field (LDS.RSUM.PROFILE n).key)) (h10 : P (.field (LDS.RSUM.RESULT n).key))
    (h11 : P (.field (LDS.RSUM.STATE n).key)) (h12 : P (.field (PKM.IQPTR.RPTR 52).key))
    (h13 : P (.field (PKM.IQPTR.WPTR 52).key)) (h14 : P (.field (SWX.CNTA.STALE 4).key)) (h15 : P .sw) :
    Only P s (t.ldsIdentity n serial) := by
  unfold State.ldsIdentity
  repeat' with_reducible first
    | assumption | apply State.ldsSend_only | apply State.ldsStop_only | apply State.setConfig_only
    | apply State.setEntry_only | intro _ _ _ | intro _ _ | split | apply Only.upd | exact .inr rfl

theorem State.ldsData_only
    (h : Only P s t) (n : Nat) (bs : List Byte) (h1 : P .edgeDue) (h2 : P .freeCtr) (h3 : P .outs)
    (h4 : ∀ i, P (.port i)) (h5 : P (.field LDS.CHG0.P00_P31.key)) (h6 : P (.field LDS.CHG1.P32_P47.key))
    (h7 : P (.field LDS.CNT0.ENUMFAIL.key)) (h8 : P (.field (LDS.RSUM.HBUSED n).key))
    (h9 : P (.field (LDS.RSUM.IDVALID n).key)) (h10 : P (.field (LDS.RSUM.PROFILE n).key))
    (h11 : P (.field (LDS.RSUM.RESULT n).key)) (h12 : P (.field (LDS.RSUM.STATE n).key))
    (h13 : P (.field PKM.FENCE.FALLBACK.key)) (h14 : P (.field PKM.FREESTS.WAS.key))
    (h15 : P (.field PKM.GCNT0.FREE.key)) (h16 : P (.field PKM.GCNT0.QUEUED.key))
    (h17 : P (.field PKM.GCNT1.INFLIGHT.key)) (h18 : P (.field PKM.GCNT2.POOLFREE.key))
    (h19 : ∀ i, P (.field (PKM.IQPTR.RPTR i).key)) (h20 : P (.field (PKM.IQPTR.WPTR 52).key))
    (h21 : P (.field (PRT.HUBSTS.ENABLE n).key)) (h22 : P (.field (PRT.HUBSTS.HIGHSPD n).key))
    (h23 : P (.field (PRT.HUBSTS.RESET n).key)) (h24 : P (.field (PRT.HUBSTS.STATE n).key))
    (h25 : P (.field (PRT.HUBSTS.SUSPEND n).key)) (h26 : P (.field (PRT.HUBSTS.TEST n).key))
    (h27 : P (.field (PRT.MTRCNT.DATAHIT n).key)) (h28 : P (.field (PRT.MTRCNT.NAKHIT n).key))
    (h29 : P (.field (PRT.MTRSTS.STRANDED n).key)) (h30 : P (.field (PRT.MTRSTS.WITHDRAWN n).key))
    (h31 : P (.field (PRT.QSTS.STOPPED n).key)) (h32 : ∀ i, P (.field (SWX.CNTA.STALE i).key))
    (h33 : ∀ i, P (.field (SWX.CNTB.RLYWD i).key)) (h34 : P .sw) (h35 : ∀ i, P (.up i)) :
    Only P s (t.ldsData n bs) := by
  have hp : P (.port n) := h4 _
  have hr : P (.field (PKM.IQPTR.RPTR 52).key) := h19 _
  have hc : P (.field (SWX.CNTA.STALE 4).key) := h32 _
  have fl : Only P s (t.ldsFail n) := by
    apply State.ldsFail_only <;> with_reducible assumption
  have st : ∀ k, Only P s (t.ldsStop n k) := fun k => by
    apply State.ldsStop_only <;> with_reducible assumption
  have md : ∀ g, Only P s (t.modLds n g) := fun g => by
    apply h.modLds n g; with_reducible assumption
  have gt : ∀ (z : State), Only P s z → ∀ a k v i l, Only P s (z.ldsGet n a k v i l) := fun z hz a k v i l => by
    apply State.ldsGet_only <;> with_reducible assumption
  have ident : ∀ b, Only P s (t.ldsIdentity n b) := fun b => by
    apply State.ldsIdentity_only <;> with_reducible assumption
  unfold State.ldsData
  extract_lets l
  generalize l.step = k
  cases k
  all_goals first | exact h | skip
  case devDesc8 =>
    refine Only.ite fl ?_
    apply State.ldsSend_only
    · exact md _
    all_goals with_reducible assumption
  case devDesc18 => exact Only.ite fl (Only.ite (st _) (gt _ (md _) _ _ _ _ _))
  case cfg9 =>
    refine Only.ite fl (Only.ite ?_ (gt _ (md _) _ _ _ _ _))
    apply (st 3).bump
    with_reducible assumption
  case cfgAll =>
    refine Only.ite fl (gt _ ?_ _ _ _ _ _)
    apply State.takeSizes_only
    · exact md _
    all_goals with_reducible assumption
  case str0 => exact Only.ite fl (Only.ite (ident _) (gt _ (md _) _ _ _ _ _))
  case strSerial => exact Only.ite fl (ident _)
  case record =>
    apply State.ldsRecDone_only <;> with_reducible assumption

theorem State.ldsAck_only
    (h : Only P s t) (n : Nat) (h1 : P .edgeDue) (h2 : P .freeCtr) (h3 : P .outs) (h4 : P (.port n))
    (h5 : P (.field LDS.CHG0.P00_P31.key)) (h6 : P (.field LDS.CHG1.P32_P47.key))
    (h7 : P (.field (LDS.RSUM.HBUSED n).key)) (h8 : P (.field (LDS.RSUM.IDVALID n).key))
    (h9 : P (.field (LDS.RSUM.PROFILE n).key)) (h10 : P (.field (LDS.RSUM.RESULT n).key))
    (h11 : P (.field (LDS.RSUM.STATE n).key)) (h12 : P (.field (PKM.IQPTR.RPTR 52).key))
    (h13 : P (.field (PKM.IQPTR.WPTR 52).key)) (h14 : P (.field (SWX.CNTA.STALE 4).key)) (h15 : P .sw) :
    Only P s (t.ldsAck n) := by
  unfold State.ldsAck
  repeat' with_reducible first
    | assumption | apply Only.modLds | apply State.ldsConfigured_only | apply State.ldsRecDone_only
    | apply State.record_only | apply State.setConfig_only | intro _ _ _ | intro _ _ | split

theorem State.ldsBad_only
    (h : Only P s t) (n : Nat) (stall : Bool) (h1 : P .edgeDue) (h2 : P .freeCtr) (h3 : P .outs)
    (h4 : ∀ i, P (.port i)) (h5 : P (.field LDS.CHG0.P00_P31.key)) (h6 : P (.field LDS.CHG1.P32_P47.key))
    (h7 : P (.field LDS.CNT0.ENUMFAIL.key)) (h8 : P (.field (LDS.RSUM.HBUSED n).key))
    (h9 : P (.field (LDS.RSUM.IDVALID n).key)) (h10 : P (.field (LDS.RSUM.PROFILE n).key))
    (h11 : P (.field (LDS.RSUM.RESULT n).key)) (h12 : P (.field (LDS.RSUM.STATE n).key))
    (h13 : P (.field PKM.FENCE.FALLBACK.key)) (h14 : P (.field PKM.FREESTS.WAS.key))
    (h15 : P (.field PKM.GCNT0.FREE.key)) (h16 : P (.field PKM.GCNT0.QUEUED.key))
    (h17 : P (.field PKM.GCNT1.INFLIGHT.key)) (h18 : P (.field PKM.GCNT2.POOLFREE.key))
    (h19 : ∀ i, P (.field (PKM.IQPTR.RPTR i).key)) (h20 : P (.field (PKM.IQPTR.WPTR 52).key))
    (h21 : P (.field (PRT.HUBSTS.ENABLE n).key)) (h22 : P (.field (PRT.HUBSTS.HIGHSPD n).key))
    (h23 : P (.field (PRT.HUBSTS.RESET n).key)) (h24 : P (.field (PRT.HUBSTS.STATE n).key))
    (h25 : P (.field (PRT.HUBSTS.SUSPEND n).key)) (h26 : P (.field (PRT.HUBSTS.TEST n).key))
    (h27 : P (.field (PRT.MTRCNT.DATAHIT n).key)) (h28 : P (.field (PRT.MTRCNT.NAKHIT n).key))
    (h29 : P (.field (PRT.MTRSTS.STRANDED n).key)) (h30 : P (.field (PRT.MTRSTS.WITHDRAWN n).key))
    (h31 : P (.field (PRT.QSTS.STOPPED n).key)) (h32 : ∀ i, P (.field (SWX.CNTA.STALE i).key))
    (h33 : ∀ i, P (.field (SWX.CNTB.RLYWD i).key)) (h34 : P .sw) (h35 : ∀ i, P (.up i)) :
    Only P s (t.ldsBad n stall) := by
  unfold State.ldsBad
  repeat' with_reducible first
    | assumption | apply Only.modLds | apply State.ldsFail_only | apply State.ldsRecFail_only
    | apply State.ldsStop_only | apply State.record_only | apply State.setConfig_only | apply h4 | apply h19
    | apply h32 | apply h33 | apply h35 | intro _ _ _ | intro _ _ | split

theorem State.errAt_only
    (h : Only P s t) (a : Sys2Proof.ErrAt) (h1 : P .edgeDue) (h2 : P .freeCtr) (h3 : P .outs)
    (h4 : ∀ i, P (.port i)) (h5 : P (.field LDS.CHG0.P00_P31.key)) (h6 : P (.field LDS.CHG1.P32_P47.key))
    (h7 : P (.field LDS.CNT0.ENUMFAIL.key)) (h8 : ∀ i, P (.field (LDS.RSUM.HBUSED i).key))
    (h9 : ∀ i, P (.field (LDS.RSUM.IDVALID i).key)) (h10 : ∀ i, P (.field (LDS.RSUM.PROFILE i).key))
    (h11 : ∀ i, P (.field (LDS.RSUM.RESULT i).key)) (h12 : ∀ i, P (.field (LDS.RSUM.STATE i).key))
    (h13 : P (.field PKM.FENCE.FALLBACK.key)) (h14 : P (.field PKM.FREESTS.WAS.key))
    (h15 : P (.field PKM.GCNT0.FREE.key)) (h16 : P (.field PKM.GCNT0.QUEUED.key))
    (h17 : P (.field PKM.GCNT1.INFLIGHT.key)) (h18 : P (.field PKM.GCNT2.POOLFREE.key))
    (h19 : ∀ i, P (.field (PKM.IQPTR.RPTR i).key)) (h20 : P (.field (PKM.IQPTR.WPTR 52).key))
    (h21 : ∀ i, P (.field (PRT.HUBSTS.ENABLE i).key)) (h22 : ∀ i, P (.field (PRT.HUBSTS.HIGHSPD i).key))
    (h23 : ∀ i, P (.field (PRT.HUBSTS.RESET i).key)) (h24 : ∀ i, P (.field (PRT.HUBSTS.STATE i).key))
    (h25 : ∀ i, P (.field (PRT.HUBSTS.SUSPEND i).key)) (h26 : ∀ i, P (.field (PRT.HUBSTS.TEST i).key))
    (h27 : ∀ i, P (.field (PRT.MTRCNT.DATAHIT i).key)) (h28 : ∀ i, P (.field (PRT.MTRCNT.NAKHIT i).key))
    (h29 : ∀ i, P (.field (PRT.MTRSTS.STRANDED i).key)) (h30 : ∀ i, P (.field (PRT.MTRSTS.WITHDRAWN i).key))
    (h31 : ∀ i, P (.field (PRT.QSTS.STOPPED i).key)) (h32 : ∀ i, P (.field (SWX.CNTA.STALE i).key))
    (h33 : ∀ i, P (.field (SWX.CNTB.RLYWD i).key)) (h34 : P .sw) (h35 : ∀ i, P (.up i)) :
    Only P s (t.errAt a) := by
  unfold State.errAt
  repeat' with_reducible first
    | assumption | apply Only.foldl | apply Only.modPort | apply Only.setAlm | apply Only.emit
    | apply State.hbMiss_only | apply State.ldsBad_only | apply State.voidPkt_only | apply h4 | apply h8 | apply h9
    | apply h10 | apply h11 | apply h12 | apply h19 | apply h21 | apply h22 | apply h23 | apply h24 | apply h25
    | apply h26 | apply h27 | apply h28 | apply h29 | apply h30 | apply h31 | apply h32 | apply h33 | apply h35
    | intro _ _ _ | intro _ _ | split | apply Only.upd | exact .inr rfl

theorem State.ldsReturn_only
    (h : Only P s t) (h1 : ∀ i, P (.port i)) (h2 : P (.field LDS.CHG0.P00_P31.key))
    (h3 : P (.field LDS.CHG1.P32_P47.key)) (h4 : ∀ i, P (.field (LDS.RSUM.HBUSED i).key))
    (h5 : ∀ i, P (.field (LDS.RSUM.IDVALID i).key)) (h6 : ∀ i, P (.field (LDS.RSUM.PROFILE i).key))
    (h7 : ∀ i, P (.field (LDS.RSUM.RESULT i).key)) (h8 : ∀ i, P (.field (LDS.RSUM.STATE i).key)) :
    Only P s (t.ldsReturn) := by
  unfold State.ldsReturn
  repeat' with_reducible first
    | assumption | apply Only.forEach | apply Only.modLds | apply State.setEntry_only | apply h1 | apply h4
    | apply h5 | apply h6 | apply h7 | apply h8 | intro _ _ _ | intro _ _ | split | apply Only.upd | exact .inr rfl

theorem State.hubReplay_only
    (h : Only P s t) (n : Nat) (h1 : P .edgeDue) (h2 : P .outs) (h3 : ∀ i, P (.port i))
    (h4 : P (.field PKM.FENCE.FALLBACK.key)) (h5 : P (.field PKM.FREESTS.WAS.key))
    (h6 : P (.field PKM.GCNT0.FREE.key)) (h7 : P (.field PKM.GCNT0.QUEUED.key))
    (h8 : P (.field PKM.GCNT1.INFLIGHT.key)) (h9 : P (.field PKM.GCNT2.POOLFREE.key))
    (h10 : ∀ i, P (.field (PKM.IQPTR.RPTR i).key)) (h11 : P (.field (PRT.HUBSTS.ENABLE n).key))
    (h12 : P (.field (PRT.HUBSTS.HIGHSPD n).key)) (h13 : P (.field (PRT.HUBSTS.RESET n).key))
    (h14 : P (.field (PRT.HUBSTS.STATE n).key)) (h15 : P (.field (PRT.HUBSTS.SUSPEND n).key))
    (h16 : P (.field (PRT.HUBSTS.TEST n).key)) (h17 : P (.field (PRT.HUBSTS.TESTSEL n).key))
    (h18 : P (.field (PRT.MTRCNT.DATAHIT n).key)) (h19 : P (.field (PRT.MTRCNT.NAKHIT n).key))
    (h20 : P (.field (PRT.MTRSTS.STRANDED n).key)) (h21 : P (.field (PRT.MTRSTS.WITHDRAWN n).key))
    (h22 : P (.field (PRT.QSTS.STOPPED n).key)) (h23 : ∀ i, P (.field (SWX.CNTA.STALE i).key))
    (h24 : ∀ i, P (.field (SWX.CNTB.RLYWD i).key)) (h25 : P .sw) (h26 : ∀ i, P (.up i)) :
    Only P s (t.hubReplay n) := by
  unfold State.hubReplay
  repeat' with_reducible first
    | assumption | apply Only.foldl | apply Only.modPort | apply State.hubAct_only | apply h3 | apply h10
    | apply h23 | apply h24 | apply h26 | intro _ _ _

theorem State.pe1Return_only
    (h : Only P s t) (h1 : ∀ i, P (.port i)) :
    Only P s (t.pe1Return) := by
  unfold State.pe1Return
  repeat' with_reducible first
    | assumption | apply Only.forEach | apply Only.modPort | apply h1 | intro _ _ _ | intro _ _ | split
    | apply Only.upd | exact .inr rfl

end Sys2Proof.Machine
end

