-- ==== Sys2Proof/Laws/OnlyWrites.lean ====
section
/-! SUPPORT. What one-word reads and writes by a requester may change, in terms of what sampling, completing or
committing that word may change. -/

namespace Sys2Proof.Machine

variable {P : Part → Prop} {s t : State}

/-- A word stored changes its fields and the copies of voted ones. -/
theorem State.storeWord_only (h : Only P s t) (a v : Nat) (hc : P .copies) (hf : ∀ f ∈ wordFields a, P (.field f.key)) :
    Only P s (t.storeWord a v) := by
  unfold State.storeWord
  split
  · exact h
  · generalize hl : wordFields a = l at hf ⊢
    clear hl
    induction l generalizing t with
    | nil => exact h
    | cons f l ih =>
      simp only [List.foldl_cons]
      refine ih ?_ (fun g hg => hf g (List.mem_cons_of_mem _ hg))
      split
      · have k : Only P s (t.wr f (inWord v f)) := h.wr f _ (hf f (List.mem_cons_self ..))
        apply Only.upd k
        all_goals first | exact .inr rfl | exact .inl hc
      · exact h

/-- A committed word: its fields, what waits in Dusk, and its effect. -/
theorem State.commitWord_only (h : Only P s t) (r : Requester) (a v : Nat) (test : Option Bool) (hc : P .copies)
    (hd : P .duskDue)
    (hf : ∀ f ∈ wordFields a, P (.field f.key))
    (he : ∀ u old, Only P s u → Only P s (u.wordEffect r a v old test)) : Only P s (t.commitWord r a v test) := by
  have k := State.storeWord_only h a v hc hf
  unfold State.commitWord
  dsimp only
  refine Only.ite (Only.ite k ?_) (he _ _ k)
  apply Only.upd k <;> first | exact .inr rfl | exact .inl hd

/-- What a one-word write at `a` by `r` may change before its effect (writeSpots). -/
def WritePre (P : Part → Prop) (r : Requester) (a : Nat) : Prop :=
  (∀ x ∈ rejectSpots r, ∀ p, x.has p → P p) ∧ P (.field SYS.OFFCNT.COUNT.key) ∧ P .copies ∧ P .duskDue ∧
    (∀ f ∈ wordFields a, P (.field f.key))

/-- A frame's result. -/
theorem State.setResult_only (h : Only P s t) (r : Requester) (c : Nat) (hr : ∀ x ∈ rejectSpots r, ∀ p, x.has p → P p) :
    Only P s (t.setResult r c) := by
  cases r with
  | pers u => exact h.modUp u _ (hr (.one (.up u)) (by simp [rejectSpots]) _ rfl)
  | rescue =>
    have hq : P .rescue := hr (.one .rescue) (by simp [rejectSpots]) _ rfl
    apply Only.upd h
    all_goals first | exact .inr rfl | exact .inl hq
  | spi =>
    have hq : P .lastSpi := hr (.one .lastSpi) (by simp [rejectSpots]) _ rfl
    have hi : P .idleAt := hr (.one .idleAt) (by simp [rejectSpots]) _ rfl
    apply Only.upd h
    all_goals first | exact .inr rfl | exact .inl hq | exact .inl hi
  | i2c =>
    have hq : P .lastI2c := hr (.one .lastI2c) (by simp [rejectSpots]) _ rfl
    have hi : P .idleAt := hr (.one .idleAt) (by simp [rejectSpots]) _ rfl
    apply Only.upd h
    all_goals first | exact .inr rfl | exact .inl hq | exact .inl hi
  | records => exact h
  | service => exact h

/-- SYS.LASTERR of a failed frame. -/
theorem State.lastErrOf_only (h : Only P s t) (r : Requester) (c : Nat) (hr : ∀ x ∈ rejectSpots r, ∀ p, x.has p → P p) :
    Only P s (t.lastErr r c) := by
  unfold State.lastErr
  split
  · exact h
  · exact (h.wr _ _ (hr (.reg SYS.LASTERR.CODE) (by simp [rejectSpots]) _ rfl)).wr _ _
      (hr (.reg SYS.LASTERR.REQ) (by simp [rejectSpots]) _ rfl)

/-- A one-word write: what every write may change, and its word's effect (R114). -/
theorem State.write1_only (r : Requester) (a v : Nat) (test : Option Bool) (hw : WritePre P r a)
    (hp : placeOf a = .word a none)
    (he : ∀ u old, Only P s u → Only P s (u.wordEffect r a v old test)) (u : State)
    (hu : s.write1 r a v test = .next u) : Only P s u := by
  obtain ⟨hr, ho, hc, hd, hf⟩ := hw
  have hout : P .outs := hr (.one .outs) (by simp [rejectSpots]) _ rfl
  have h0 : Only P s s.fresh := (Only.refl P s).fresh hout
  unfold State.write1 doneIf at hu
  simp only [Host.Outcome.next.injEq] at hu
  subst hu
  split
  · refine State.setResult_only ?_ r _ hr
    unfold State.writeFrame
    dsimp only
    split
    · exact State.lastErrOf_only h0 r _ hr
    · split
      · simp only [State.writeWords, hp]
        split
        · simp only [State.target]
          exact State.commitWord_only h0 r a v test hc hd hf he
        · exact h0
      · refine State.lastErrOf_only ?_ r _ hr
        unfold State.metOff
        split
        · exact h0.bump _ _ ho
        · exact h0
  · exact h0

/-- The places of writeSpots hold all that a write may change before its effect. -/
theorem WritePre.of_spots (r : Requester) (a : Nat) (l : List (List Spot)) :
    WritePre (fun p => ∃ x ∈ (writeSpots r a :: l).flatten, x.has p) r a := by
  refine ⟨fun x hx p hp => ⟨x, ?_, hp⟩, ⟨.reg SYS.OFFCNT.COUNT, ?_, rfl⟩, ⟨.one .copies, ?_, rfl⟩, ⟨.one .duskDue, ?_, rfl⟩,
    fun f hf => ⟨.reg f, ?_, rfl⟩⟩
  all_goals simp only [writeSpots, List.flatten_cons, List.mem_append, List.mem_map]
  · exact .inl (.inl (.inl hx))
  · exact .inl (.inl (.inr (by simp)))
  · exact .inl (.inl (.inr (by simp)))
  · exact .inl (.inl (.inr (by simp)))
  · exact .inl (.inr ⟨f, hf, rfl⟩)

/-- A read of one word by a requester: what its sampling and its completion may change, and its result (R112, R114). -/
theorem State.read1_only (r : Requester) (a : Nat) (ho : P (.field SYS.OFFCNT.COUNT.key))
    (hr : ∀ x ∈ rejectSpots r, ∀ p, x.has p → P p)
    (hs : ∀ u, Only P s u → Only P s (u.sample r (placeOf a)).2.2)
    (hd : ∀ u v, Only P s u → Only P s (u.readDone (placeOf a) v)) (u : State)
    (hu : s.read1 r a = .next u) : Only P s u := by
  have hout : P .outs := hr (.one .outs) (by simp [rejectSpots]) _ rfl
  have h0 : Only P s s.fresh := (Only.refl P s).fresh hout
  unfold State.read1 doneIf at hu
  simp only [Host.Outcome.next.injEq] at hu
  subst hu
  split
  · refine Only.emit ?_ _ hout
    refine State.setResult_only ?_ r _ hr
    refine State.lastErrOf_only ?_ r _ hr
    have k : Only P s (s.fresh.shiftWords r a 1).2 := by
      simp only [State.shiftWords]
      exact Only.ite (hd _ _ (hs _ h0)) (hs _ h0)
    unfold State.metOff
    split
    · exact k.bump _ _ ho
    · exact k
  · exact h0

end Sys2Proof.Machine
end

