-- ==== Sys2Proof/Machine/Pins.lean ====
section
/-! DEFINITION. The pins of the package as the state shows them: the columns of R46 and R47 and the pin-state table of R48.
No command acts through these definitions; they are what an observer of the package sees. -/

namespace Sys2Proof.Machine

/-- The pin states of R46, the columns of R48. -/
inductive PinCol where
  | unpowered | reset | rescue | active | dusk | eclipse
  deriving DecidableEq, Repr

/-- The pins of R48, by port, quad, sector or upstream port. -/
inductive Pin where
  | portData (n : Nat) | portCc (n : Nat) | portSbu (n : Nat) | portSense (n : Nat) | gate (n : Nat) | dsch (n : Nat)
  | fbi (n : Nat) | vconn (n : Nat)
  | upData (u : Nat) | upCc (u : Nat)
  | quadSense (q : Nat) | svc (q : Nat)
  | idBus (i : Nat) | led (i : Nat)
  | miso | i2c | irqN | faultN | wakeN | nvmCs | nvmBus | xtal
  deriving DecidableEq, Repr

/-- What a pin shows. -/
inductive PinState where
  | hiZ | open_ | isolated | connected | released | passiveLow | low | high | pullUp | ignored | input | wakeSource
  | hubPort (st : Nat)                 -- data pins as the hub state has them
  | hubHeld (st : Nat)                 -- pull-downs, held in the port's state
  | rp (code : Nat) | rd | deadRd
  | dac (code : Nat)                   -- FBI at a code
  | dPullup                            -- the D+ pull-up is on
  | sensed | ccOnly | bus | chain (codes : List Nat) | running | off | on
  | whileSelected | recogniser
  deriving DecidableEq, Repr

/-- The pin state of the core die (R46). -/
def State.pinCol (s : State) : PinCol :=
  match s.phase with
  | .unpowered => .unpowered
  | .held => .reset
  | .flashRelease => .reset
  | .running => .active
  | .rescue => .rescue
  | .dusk => .dusk
  | .eclipse => .eclipse

/-- The column of a sector's port die (R47): Unpowered without its supply, Reset until its link has trained since it powered
up, else the core die's. -/
def State.dieCol (s : State) (i : Nat) : PinCol :=
  if !s.good (.vdd5 (Fin.ofNat 4 i)) then .unpowered
  else if s.pinCol == .unpowered || !(s.on (SEC.STS.LINK i) || s.on (SEC.STS.HOLD i)) then .reset
  else s.pinCol

/-- CC in Active (R48): open, or what the Type-C state presents. -/
def State.ccShown (s : State) (n : Nat) : PinState :=
  if s.tc n = 0 ∨ s.tc n = 9 then .open_ else if (s.port n).presRd then .rd else .rp (s.rd (PRT.TCSTS.RPADV n))

/-- A pin of port `n` in a column (R48). -/
def State.portPin (s : State) (c : PinCol) (n : Nat) (p : Pin) : PinState :=
  let live := c == .active || c == .dusk
  match p with
  | .portData _ => if c = .active then .hubPort (s.hub n) else if c = .dusk then .hubHeld (s.hub n) else .hiZ
  | .portCc _ => if live then s.ccShown n else if c = .eclipse then .rp 0 else .open_
  | .portSbu _ => if live && s.on (PRT.ALTMUX.ACTIVE n) then .connected else .isolated
  | .portSense _ => if live then .sensed else if c = .eclipse then .ccOnly else .hiZ
  | .gate _ => if c = .unpowered then .passiveLow else if live && (s.port n).gate then .high else .low
  | .dsch _ =>
    if c = .unpowered then .passiveLow
    else if c = .eclipse then .low
    else if live then (if (s.port n).dsch then .high else .low)
    else if (s.port n).vbus then .high else .low
  | .fbi _ => if live && (s.port n).fbiOn then .dac (s.rd (PRT.VBUSMEAS.FBICODE n)) else .hiZ
  | .vconn _ => if live && s.on (PRT.VCONN.ON n) then .on else .off
  | _ => .hiZ

/-- Frame codes last sent on a sector's indicator chain. -/
def State.ledShown (s : State) (i : Nat) : PinState := .chain (s.sec i).ledSent

/-- A pin of the sector or of a quad of it in a column (R48). -/
def State.sectorPin (s : State) (c : PinCol) (p : Pin) : PinState :=
  let live := c == .active || c == .dusk
  match p with
  | .quadSense _ => if live then .sensed else .hiZ
  | .svc q => if live && (quadPorts q).any (fun n => s.on (PRT.ALTMUX.ACTIVE n)) then .connected else .hiZ
  | .idBus _ => if c = .active then .bus else .released
  | .led i => if c = .unpowered then .hiZ else if c = .active then s.ledShown i else .low
  | _ => .hiZ

/-- A pin of the core die in a column (R48). -/
def State.corePin (s : State) (c : PinCol) (p : Pin) : PinState :=
  let live := c == .active || c == .dusk
  match p with
  | .upData u =>
    if c = .rescue then (if s.rescue.chosen && s.rescue.port == u && s.rescue.devstate != 0 then .dPullup else .hiZ)
    else if live && s.on (UPS.STS.PULLUP u) then .dPullup else .hiZ
  | .upCc u =>
    if c = .unpowered ∨ c = .reset then .deadRd else if live && (s.up u).presRp then .rp 0 else .rd
  | .miso => if live then .whileSelected else .hiZ
  | .i2c => if live then .bus else if c = .eclipse then .recogniser else .released
  | .irqN => if s.irqLow then .low else .hiZ
  | .faultN => if c = .rescue then .low else if (live || c == .eclipse) && s.on SYS.FAULTPIN.PIN then .low else .hiZ
  | .wakeN => if c = .active then .input else if c = .dusk ∨ c = .eclipse then .wakeSource else .ignored
  | .nvmCs => if c = .rescue ∨ c = .active ∨ c = .dusk then .high else .pullUp
  | .nvmBus => if c = .rescue ∨ c = .active ∨ c = .dusk then .bus else .hiZ
  | .xtal =>
    if c = .unpowered ∨ c = .eclipse then .off
    else if c = .rescue then (if s.good .vddCore then .running else .off)
    else .running
  | _ => .hiZ

/-- What a pin shows (R46, R47, R48): the pins of a port die by its own column, the others by the core die's. -/
def State.pin (s : State) (p : Pin) : PinState :=
  match p with
  | .portData n => s.portPin (s.dieCol (secOf n)) n p
  | .portCc n => s.portPin (s.dieCol (secOf n)) n p
  | .portSbu n => s.portPin (s.dieCol (secOf n)) n p
  | .portSense n => s.portPin (s.dieCol (secOf n)) n p
  | .gate n => s.portPin (s.dieCol (secOf n)) n p
  | .dsch n => s.portPin (s.dieCol (secOf n)) n p
  | .fbi n => s.portPin (s.dieCol (secOf n)) n p
  | .vconn n => s.portPin (s.dieCol (secOf n)) n p
  | .quadSense q => s.sectorPin (s.dieCol (q / 3)) p
  | .svc q => s.sectorPin (s.dieCol (q / 3)) p
  | .idBus i => s.sectorPin (s.dieCol i) p
  | .led i => s.sectorPin (s.dieCol i) p
  | _ => s.corePin s.pinCol p

end Sys2Proof.Machine
end

