-- ==== Sys2Proof/WellFormed.lean ====
section
/-! DEFINITION. Well-formed commands: operands that an event outside the part can carry. Requesters, ports, addresses and
register words are bounded by their types; what is checked here is what the types leave open. -/

namespace Sys2Proof

open Sys2Proof.Machine

/-- A USB packet carries at most 1024 bytes (R22, R174). -/
def payloadOk (bs : List Byte) : Bool := decide (bs.length ≤ 1024)

/-- A device answer carries a DATA PID 0 to 3 and a payload that fits. -/
def devOk (d : Dev) : Bool :=
  match d with
  | .data pid bs => decide (pid < 4) && payloadOk bs
  | _ => true

/-- The fields of a Request fit its data object (R297): position 1 to 7, currents of 10 bits. -/
def reqOk (r : PdReq) : Bool := decide (1 ≤ r.obj) && decide (r.obj ≤ 7) && decide (r.cur < 1024) && decide (r.maxCur < 1024)

/-- An identity memory gives 256 bytes (R321). -/
def memOk (m : Option (List Byte)) : Bool :=
  match m with
  | some bs => bs.length == 256
  | none => true

/-- No index is listed twice. -/
def onceEach {k : Nat} {α : Type} (l : List (Fin k × α)) : Bool := decide ((l.map (·.1)).Nodup)

/-- A sample set measures each port, quad and port die at most once (R26). -/
def samplesOk (x : Samples) : Bool := onceEach x.ports && onceEach x.quads && onceEach x.tjDie

/-- A well-formed command. -/
def Instr.wellFormed (c : Instr) : Bool :=
  match c with
  | .meridian x => samplesOk x
  | .bootStepComplete r => memOk r.mem && decide (r.trim < 2 ^ 32)
  | .identityRereadComplete _ m => memOk m
  | .sectorRestartComplete _ r => onceEach r.mems && r.mems.all (fun m => m.2.length == 256)
  | .hostOut _ _ _ _ bs => payloadOk bs
  | .hostIsoOut _ _ _ _ bs _ => payloadOk bs
  | .ssplitPeriodic _ _ _ _ _ _ _ _ _ bs => payloadOk bs
  | .downstreamOutResponse _ d => devOk d
  | .downstreamInResponse _ _ _ d => devOk d
  | .ttTransactionComplete _ d => devOk d
  | .prefetchOutcome _ _ d => devOk d
  | .ldsControlComplete _ d => devOk d
  | .ldsHeartbeatOutcome _ d => devOk d
  | .request _ _ r => reqOk r
  | .budgetRequest _ (some r) => reqOk r
  | _ => true

end Sys2Proof
end

