-- ==== Sys2Proof/Tests/Slice0.lean ====
section
/-! SUPPORT. Tests: a witness for the hypotheses of every statement, the checks on commands, and small tests against values
and worked examples of the spec. -/

namespace Sys2Proof.Tests

open Sys2Proof Sys2Proof.Machine

set_option Elab.async false

/-- Boot complete, normal operation, every engine runs. -/
def wBase : State :=
  { State.reset with boot := { BootX.reset with step := 0, ownInForce := true }, stopped := [] }.wr SYS.MODE.MODE 1

/-- Every sector present. -/
def wPresent : State :=
  (((wBase.wr (SEC.STS.PRESENT 0) 1).wr (SEC.STS.PRESENT 1) 1).wr (SEC.STS.PRESENT 2) 1).wr (SEC.STS.PRESENT 3) 1

/-- Port 9 attached as a source with an explicit contract. -/
def wSource : State :=
  (((wBase.wr (PRT.TCSTS.TCSTATE 9) 6).wr (PRT.PDCTL.PDEN 9) 1).wr (PRT.PDSTS.REV 9) 2).wr (PRT.PDSTS.EXPLICIT 9) 1

/-- The same with the PD table loaded. -/
def wContract : State := { wSource with pdTable := (0, 0, 0x1234, 7) }


/-- Leakages of 220 kΩ and more lie at or above the threshold of every port (R158). -/
theorem moistAbove {A B C : Prop} {n : Nat} (l : List (Nat × Bool × Nat)) (ha : A) (hb : B)
    (hc : C) (h : ∀ x ∈ l, 220 ≤ x.2.2) : A ∧ B ∧ C ∧ ∀ x ∈ l, moistThreshold n ≤ x.2.2 :=
  ⟨ha, hb, hc, fun x hx => by have := h x hx; unfold moistThreshold; omega⟩

/-- A leakage below 180 kΩ lies below the threshold of every port (R158). -/
theorem moistBelow {A B C : Prop} {n : Nat} (l : List (Nat × Bool × Nat)) (ha : A) (hb : B)
    (hc : C) (h : ∃ x ∈ l, x.2.2 < 180) : A ∧ B ∧ C ∧ ∃ x ∈ l, x.2.2 < moistThreshold n :=
  ⟨ha, hb, hc, by obtain ⟨x, hx, h⟩ := h; exact ⟨x, hx, by unfold moistThreshold; omega⟩⟩

/-! ## Witnesses of the statements about the whole machine -/

/-- StepsKeepStatesWellKept: reset is well kept, and its step is a next state. -/
theorem test_meets_steps_keep_states_well_kept : ∃ s t : State, WellKept s ∧ step s = .next t :=
  ⟨State.reset, State.reset, by constructor <;> first | decide +kernel | exact List.Pairwise.nil, rfl⟩

/-- QueueDrainsInOrder: a queue of two commands, and its second entry. -/
theorem test_meets_queue_drains_in_order : ∃ (s : State) (k : Nat) (c : Instr),
    k ≤ s.pending.length ∧ s.pending[k]? = some c :=
  ⟨{ wBase with pending := [.shedStart, .statusChangeIn 0] }, 1, .statusChangeIn 0, by decide +kernel, rfl⟩

/-- FusesAndPinsFollowTheirCommands: a fuse is blown, RESET_N falls, a supply goes low, an upstream VBUS appears and one
rises too high. -/
theorem test_meets_fuses_and_pins_follow_their_commands :
    (∃ (c : Instr) (s t : State), exec c s = .next t ∧ t.fuses ≠ s.fuses) ∧
    (∃ (c : Instr) (s t : State), exec c s = .next t ∧ t.resetN ≠ s.resetN) ∧
    (∃ (c : Instr) (s t : State), exec c s = .next t ∧ t.low ≠ s.low) ∧
    (∃ (c : Instr) (s t : State), exec c s = .next t ∧ t.vbusU ≠ s.vbusU) ∧
    (∃ (c : Instr) (s t : State), exec c s = .next t ∧ t.vbusHigh ≠ s.vbusHigh) :=
  ⟨⟨.fuseBlowComplete, { wBase with fuseGoal := some 3 }, _, rfl, by decide +kernel⟩,
    ⟨.resetNAssert, wBase, _, rfl, by decide +kernel⟩,
    ⟨.supplyLow .vddio, wBase, _, rfl, by decide +kernel⟩,
    ⟨.upstreamVbusChange 1 true, wBase, _, rfl, by decide +kernel⟩,
    ⟨.upstreamVbusOvervoltage 1, wBase, _, rfl, by decide +kernel⟩⟩

/-- The state in which a result leaves the machine; `State.reset` for a stop (none occurs). -/
def nextOf (r : Res) : State :=
  match r with
  | .next t => t
  | _ => State.reset

/-! ## Reset, the queue and the decoder -/

/-- After a power-on reset the fields hold the values of the register map (R34, R324). -/
theorem test_reset_values : State.reset.rd (PRT.FUSCFG.ILIM 29) = 385 ∧ State.reset.rd (PRT.OWNER.OWN 29) = 7 ∧
    State.reset.rd SYS.MODE.MODE = 0 ∧ State.reset.pending = [] := by decide +kernel

/-- The table gives no row any bits: no word spells a command, and nothing is put into the queue. -/
theorem test_no_word_spells_a_command : decodeTableWord 32 0xA1 = none ∧
    State.reset.withFetchWord 32 0xA1 = State.reset := by decide +kernel

/-- A step takes the front command alone. -/
theorem test_step_takes_the_front : (nextOf (step { wBase with pending := [.mbxCaptureStart 0, .shedStart] })).pending
    = [.shedStart] := by decide +kernel

/-! ## Well-formed commands: one ill-formed term for each check -/

/-- A payload of 1025 bytes fits no packet. -/
theorem test_ill_formed_payload : Instr.wellFormed (.hostOut 0 1 1 false (List.replicate 1025 0)) = false ∧
    Instr.wellFormed (.hostIsoOut 0 1 1 3 (List.replicate 1025 0) true) = false ∧
    Instr.wellFormed (.ssplitPeriodic 0 1 1 1 false false false false false (List.replicate 1025 0)) = false := by
  decide +kernel

/-- A device answer with DATA PID 4, or with too long a payload. -/
theorem test_ill_formed_device_answer : Instr.wellFormed (.downstreamOutResponse 0 (.data 4 [])) = false ∧
    Instr.wellFormed (.downstreamInResponse 0 1 1 (.data 0 (List.replicate 1025 0))) = false ∧
    Instr.wellFormed (.ttTransactionComplete 0 (.data 4 [])) = false ∧
    Instr.wellFormed (.prefetchOutcome 0 0 (.data 4 [])) = false ∧
    Instr.wellFormed (.ldsControlComplete 0 (.data 4 [])) = false ∧
    Instr.wellFormed (.ldsHeartbeatOutcome 0 (.data 4 [])) = false := by decide +kernel

/-- A Request of position 0 or 8, or with a current of more than 10 bits. -/
theorem test_ill_formed_request : Instr.wellFormed (.request 0 2 { obj := 0, cur := 0, maxCur := 0 }) = false ∧
    Instr.wellFormed (.request 0 2 { obj := 8, cur := 0, maxCur := 0 }) = false ∧
    Instr.wellFormed (.request 0 2 { obj := 1, cur := 1024, maxCur := 0 }) = false ∧
    Instr.wellFormed (.budgetRequest 0 (some { obj := 1, cur := 0, maxCur := 1024 })) = false := by decide +kernel

/-- An identity memory of fewer than 256 bytes, or a trim of more than a word. -/
theorem test_ill_formed_memory :
    Instr.wellFormed (.bootStepComplete ⟨true, true, some [0], true, true, true, 0⟩) = false ∧
    Instr.wellFormed (.bootStepComplete ⟨true, true, none, true, true, true, 0x100000000⟩) = false ∧
    Instr.wellFormed (.identityRereadComplete 0 (some [0])) = false ∧
    Instr.wellFormed (.sectorRestartComplete 0 ⟨true, [(0, [0])], true, true, true⟩) = false ∧
    Instr.wellFormed (.sectorRestartComplete 0 ⟨true, [(0, List.replicate 256 0), (0, List.replicate 256 0)], true,
      true, true⟩) = false := by decide +kernel

/-- A port die measured twice at one Meridian. -/
theorem test_ill_formed_samples : Instr.wellFormed (.meridian ⟨[], [], 0, [(0, 0), (0, 1)]⟩) = false := by
  decide +kernel

/-- Well-formed commands are accepted. -/
theorem test_well_formed : Instr.wellFormed (.hostOut 0 1 1 false [1, 2, 3]) = true ∧
    Instr.wellFormed (.request 0 2 { obj := 7, cur := 1023, maxCur := 1023 }) = true ∧
    Instr.wellFormed (.identityRereadComplete 0 (some (List.replicate 256 0))) = true ∧
    Instr.wellFormed (.meridian ⟨[], [], 0, [(0, 0), (1, 1)]⟩) = true := by decide +kernel

/-! ## Values that the spec gives -/

/-- The check values of the CRCs of R79 and R104 for the ASCII digits 1 to 9. -/
theorem test_crc_check_values : crc32 [0x31, 0x32, 0x33, 0x34, 0x35, 0x36, 0x37, 0x38, 0x39] = 0xCBF43926 ∧
    crc8 [0x31, 0x32, 0x33, 0x34, 0x35, 0x36, 0x37, 0x38, 0x39] = 0xF4 := by decide +kernel

/-- Words held in an input queue of 64 granules follow from its pointers: the three rows of the table at R235. -/
theorem test_queue_occupancy :
    ((wBase.wr (PKM.RGN.SIZE 29) 64).wr (PKM.IQPTR.WPTR 29) 1020 |>.wr (PKM.IQPTR.RPTR 29) 600).iqHeld 29 = 420 ∧
    ((wBase.wr (PKM.RGN.SIZE 29) 64).wr (PKM.IQPTR.WPTR 29) 3 |>.wr (PKM.IQPTR.RPTR 29) 1000).iqHeld 29 = 27 ∧
    ((wBase.wr (PKM.RGN.SIZE 29) 64).wr (PKM.IQPTR.WPTR 29) 88 |>.wr (PKM.IQPTR.RPTR 29) 600).iqHeld 29 = 512 := by
  decide +kernel

/-- A contract of 9 V and 2.0 A has I_set 2.60 A (chapter 15, first worked example, step 7). -/
theorem test_iset_of_a_contract : ((wSource.modPort 9 (fun p => { p with maxCur := 200 })).iset 9) = 260 := by
  decide +kernel

/-! ## Single steps of the worked examples -/

/-- Quad 7 after its cap is lowered to 150 W with P28 to P31 at 60 W each and PRIO 5, 3, 3, 1 (chapter 16). -/
def wShed : State :=
  let s := ((wBase.wr PWR.POOL.POOL 288000).wr (PWR.QCAP.CAP 7) 15000).modQuad 7 (fun q => { q with capTrig := true })
  { [(28, 5), (29, 3), (30, 3), (31, 1)].foldl (fun s e =>
      ((((((s.wr (PWR.PCFG.PRIO e.1) e.2).wr (PWR.PCFG.PMAX e.1) 6000).wr (PWR.PBOOK.COMMIT e.1) 6000).wr
        (PWR.PBOOK.CONTRACT e.1) 6000).wr (PRT.TCSTS.TCSTATE e.1) 6).wr (PRT.PDSTS.EXPLICIT e.1) 1).modPort e.1
          (fun p => { p with vbus := true, gate := true })) s with shedDue := true }

/-- The shed of chapter 16's example, step 2: P31 is left 2.5 W and P30 27.5 W, P29 and P28 keep theirs. -/
theorem test_shed_example : (nextOf (exec .shedStart wShed)).rd (PWR.PALLOW.ALLOW 31) = 250 ∧
    (nextOf (exec .shedStart wShed)).rd (PWR.PALLOW.ALLOW 30) = 2750 ∧
    (nextOf (exec .shedStart wShed)).rd PWR.EVT.SHEDIN = 1 := by decide +kernel

/-- Sources 238, 241 and 428 of the handler example of chapter 17, pending and enabled on T12. -/
def wClaim : State :=
  [238, 241, 428].foldl (fun s i => ((s.wr (ICU.SRC_CFG.EN i) 1).wr (ICU.SRC_CFG.TGT i) 12).wr
      (ICU.SRC_STS.PEND i) 1) wBase

/-- Its step 5: CLAIM returns 238 and puts it in service. -/
theorem test_claim_takes_the_lowest : (nextOf (exec (.icuClaim .spi 12) wClaim)).rd (ICU.SRC_STS.INSVC 238) = 1 ∧
    (nextOf (exec (.icuClaim .spi 12) wClaim)).rd (ICU.SRC_STS.PEND 238) = 0 ∧
    (nextOf (exec (.icuClaim .spi 12) wClaim)).rd (ICU.SRC_STS.PEND 241) = 1 := by decide +kernel

/-- Its step 9: with a source in service a claim is spurious. -/
theorem test_claim_in_service_is_spurious :
    (nextOf (exec (.icuClaim .i2c 12) (nextOf (exec (.icuClaim .spi 12) wClaim)))).rd (ICU.TCNT.SPUR 12) = 1 := by
  decide +kernel

/-- The window shows the forerunner's identity (R128), and an address of it that is not listed completes with E_BUS. -/
theorem test_window_words : (nextOf (exec (.spiRead [0xA1, 0x80, 0, 0, 0] 5) wBase)).outs =
      [.tokel (List.replicate 6 0 ++ [0x12, 0x48, 0x04, 0x16] ++ [0])] ∧
    (nextOf (exec (.spiRead [0xA1, 0x9F, 0, 0, 0] 5) wBase)).lastSpi = 2 := by decide +kernel

/-- A SEL write whose code is no selector is refused with E_RANGE and changes nothing (chapter 5's example). -/
theorem test_mailbox_selector_zero : (nextOf (exec (.mbxSelWrite .spi 4 0x10) (wBase.wr (MBX.CTRL.VALID 4) 1))).lastSpi = 4 ∧
    (nextOf (exec (.mbxSelWrite .spi 4 0x10) (wBase.wr (MBX.CTRL.VALID 4) 1))).rd (MBX.CTRL.VALID 4) = 1 := by
  decide +kernel

/-- Sector 2 present, its link up. -/
def wLink : State := (wPresent.wr (SEC.STS.LINK 2) 1).modSec 2 (fun x => { x with dieUp := true })

/-- A link not restored within 20 ms records SEC source 0, major, first (chapter 18's example, steps 1 and 2). -/
theorem test_link_restore_timeout :
    (nextOf (exec (.linkLockLost 2) wLink)).rd (SEC.STS.HOLD 2) = 1 ∧
    (nextOf (exec (.linkRestoreTimeout 2) (nextOf (exec (.linkLockLost 2) wLink)))).rd (FLT.FLTSTS.SRC (.sec 2)) = 1 ∧
    (nextOf (exec (.linkRestoreTimeout 2) (nextOf (exec (.linkLockLost 2) wLink)))).rd (FLT.FLTFIRST.SEV
      (.sec 2)) = 2 := by
  decide +kernel

/-- Personality 1, Configured at high speed, owns P00 as its hub port 1. -/
def wHub : State :=
  (((((wBase.wr (UPS.STS.DEVSTATE 1) 4).wr (UPS.STS.HS 1) 1).wr (UPS.PART0.P00_P31 1) 1).wr (PRT.OWNER.OWN 0) 1).wr
    (PRT.HUBSTS.STATE 0) 5).wr (PKM.RGN.SIZE 53) 64

/-- Chapter 8's Almanac example, step 3: the second distance of 64 microframes makes entry 3 LEARNED, PERIOD 3, PHASE 40. -/
theorem test_almanac_learns_a_period :
    let s := (wHub.modUp 1 (fun p => { p with frameM := 1128 })).modPort 0 (fun p =>
      { p with alm := [(3, { AlmEntry.free with st := 1, key := ⟨5, 4, true⟩, lastM := 1064, lastD := 64 })] })
    let e := (nextOf (exec (.ssplitPeriodic 1 1 5 4 true false false false false []) s)).almE 0 3
    e.st = 2 ∧ e.per = 64 ∧ e.phase = 40 := by decide +kernel

/-- Codes of the reference design for 5, 9, 15 and 20 V (the table at R319): V0 21.734 V, R_T 280 kΩ. -/
theorem test_fbi_codes :
    let s := wBase.modQuad 2 (fun q => { q with ident := some ⟨1, 1000, List.replicate 4 ⟨5000, 8000, 10, 1, 21734, 2800⟩⟩ })
    (List.range 4).map (s.fbiCode 9) = [3984, 3032, 1603, 413] := by decide +kernel

/-- A hard short trips the port with cause 2 and charges its retries once (chapter 15's second example, step 1). -/
theorem test_hard_short :
    let s := nextOf (exec (.hardShort 29) ((wPresent.modPort 29 (fun p => { p with gate := true, vbus := true })).wr
      (PRT.FUSSTS.GATEON 29) 1))
    s.rd (PRT.FUSSTS.CAUSE 29) = 2 ∧ s.rd (PRT.FUSSTS.TRIPS 29) = 1 ∧ (s.port 29).gate = false := by decide +kernel

/-- Commands of FramesOfRequests answer a next state, the transfers of its last clauses while the part runs. -/
theorem test_meets_frames_of_requests :
    (∃ s t : State, s.phase = .running ∧ exec (.i2cStatus 0x38) s = .next t) ∧
    (∃ s t : State, s.phase = .running ∧ exec (.spiUnknownCommand false 0x7F) s = .next t) :=
  ⟨⟨wBase, _, by decide +kernel, rfl⟩, ⟨wBase, _, by decide +kernel, rfl⟩⟩

/-- Commands of FramesOfPorts answer a next state. -/
theorem test_meets_frames_of_ports : ∃ s t : State, exec (.readvExpire 3) s = .next t := ⟨State.reset, _, rfl⟩

/-- Commands of FramesOfTransfers answer a next state. -/
theorem test_meets_frames_of_transfers : ∃ s t : State, exec .granuleReturn s = .next t := ⟨State.reset, _, rfl⟩

/-- Commands of FramesOfTheSystem answer a next state, a supply that returns among them, and VDDIO outside rescue. -/
theorem test_meets_frames_of_the_system :
    (∃ s t : State, exec .clkNwCalibrate s = .next t) ∧
    (∃ (x : Supply) (s t : State), x ≠ .vddio ∧ exec (.supplyRestored x) s = .next t) ∧
    (∃ s t : State, s.phase ≠ .rescue ∧ exec (.supplyRestored .vddio) s = .next t) :=
  ⟨⟨State.reset, _, rfl⟩, ⟨.vddCore, State.reset, _, by decide +kernel, rfl⟩, ⟨State.reset, _, by decide +kernel, rfl⟩⟩

/-- Commands of FramesOfFaultsAndTrips answer a next state: an acknowledge without CLRLATCH and an upstream VBUS that rises
too high while VDD_NW is good are among them. -/
theorem test_meets_frames_of_faults_and_trips :
    (∃ s t : State, exec .coreDieOvertemp s = .next t) ∧
    (∃ (r : Requester) (b : Fin 74) (w : Word) (s t : State), bitAt w.toNat 1 = false ∧
      exec (.fltackAck r b w) s = .next t) ∧
    (∃ (u : Fin 4) (s t : State), s.good .vddNw = true ∧ exec (.upstreamVbusOvervoltage u) s = .next t) :=
  ⟨⟨State.reset, _, rfl⟩, ⟨.spi, 3, 0, State.reset, _, by decide +kernel, rfl⟩, ⟨1, wBase, _, by decide +kernel, rfl⟩⟩

/-! ## Witnesses of the statements about commands -/

/-- Some state and operands meet the hypotheses of each clause of RefusedWritesStoreNothing. -/
theorem test_meets_refused_writes_store_nothing :
  ∃ (c : Instr) (r : Requester) (a : Nat) (v : Nat) (s : State), writeOf c = some (r, a, v) ∧ s.canSend r = true
      ∧ (if a % 4 = 0 then s.fresh.writeCode s.fresh r (placeOf a) v else 5) ≠ 0 :=
  ⟨(.poolWrite .spi 0xFFFFFFFF), .spi, 0x9004, 0xFFFFFFFF, wPresent, by decide +kernel⟩

/-- Some state and operands meet the hypotheses of each clause of FrozenFieldsStand. -/
theorem test_meets_frozen_fields_stand :
  ∃ (r : Requester) (addr : BitVec 24) (w : Word) (b : Blk) (o : Nat) (f : Field) (s : State), s.phase = .running
      ∧ s.canSend r = true ∧ addr.toNat % 4 = 0 ∧ addr.toNat < 0x400000 ∧ s.inReach r (.word addr.toNat none)
      true = true ∧ s.isOff addr.toNat = false ∧ readOnlyWord addr.toNat = false ∧ blockOf addr.toNat = some (b,
      o) ∧ s.frozen b = true ∧ f ∈ wordFields addr.toNat ∧ (f.acc = .rwl ∨ f.acc = .trv) ∧ inWord w.toNat f ≠
      s.rd f ∧ 8 ∉ s.judgeBlock s.fresh r addr.toNat w.toNat :=
  ⟨.spi, 0x9004, 7, .pwr, 4, PWR.POOL.POOL, (wPresent.wr PWR.CTL.LOCK 1), by decide +kernel⟩

/-- Some state and operands meet the hypotheses of each clause of UnalignedAndOverlongFramesDoNothing. -/
theorem test_meets_unaligned_and_overlong_frames_do_nothing :
  (∃ (bs : List Byte) (c : Nat) (s : State), s.mgmtUp = true ∧ fieldAt bs 0 1 = 0xA2 ∧ 5 + 4 * (fieldAt bs 4 1 +
      1) + (if s.crcOn false then 1 else 0) ≤ bs.length ∧ ((s.crcOn false = true → fieldAt bs (5 + 4 * (fieldAt
      bs 4 1 + 1)) 1 = crc8 (bs.take (5 + 4 * (fieldAt bs 4 1 + 1))))) ∧ BadFrame (fieldAt bs 1 1 * 0x10000 +
      fieldAt bs 2 1 * 0x100 + fieldAt bs 3 1) (fieldAt bs 4 1 + 1) c) ∧
  (∃ (bs : List Byte) (adr : BitVec 7) (c : Nat) (s : State), adr.toNat = s.i2cAddr ∧ (s.phase = .running ∨ s.on
      NW.CTL.I2CWAKE = false) ∧ s.mgmtUp = true ∧ fieldAt bs 0 1 = 0xA2 ∧ 5 + 4 * (fieldAt bs 4 1 + 1) + (if
      s.crcOn true then 1 else 0) ≤ bs.length ∧ ((s.crcOn true = true → fieldAt bs (5 + 4 * (fieldAt bs 4 1 + 1))
      1 = crc8 (bs.take (5 + 4 * (fieldAt bs 4 1 + 1))))) ∧ BadFrame (fieldAt bs 1 1 * 0x10000 + fieldAt bs 2 1 *
      0x100 + fieldAt bs 3 1) (fieldAt bs 4 1 + 1) c) ∧
  (∃ (bs : List Byte) (k : Nat) (c : Nat) (s : State), s.mgmtUp = true ∧ fieldAt bs 0 1 = 0xA1 ∧ (if s.crcOn
      false then 6 else 5) ≤ bs.length ∧ ((s.crcOn false = true → fieldAt bs (5) 1 = crc8 (bs.take (5)))) ∧ 4 *
      (fieldAt bs 4 1 + 1) + (if s.crcOn false then 1 else 0) < k ∧ BadFrame (fieldAt bs 1 1 * 0x10000 + fieldAt
      bs 2 1 * 0x100 + fieldAt bs 3 1) (fieldAt bs 4 1 + 1) c) ∧
  (∃ (bs : List Byte) (adr : BitVec 7) (k : Nat) (c : Nat) (s : State), adr.toNat = s.i2cAddr ∧ (s.phase =
      .running ∨ s.on NW.CTL.I2CWAKE = false) ∧ s.mgmtUp = true ∧ fieldAt bs 0 1 = 0xA1 ∧ (if s.crcOn true then 6
      else 5) ≤ bs.length ∧ ((s.crcOn true = true → fieldAt bs (5) 1 = crc8 (bs.take (5)))) ∧ 4 * (fieldAt bs 4 1
      + 1) + (if s.crcOn true then 1 else 0) < k ∧ BadFrame (fieldAt bs 1 1 * 0x10000 + fieldAt bs 2 1 * 0x100 +
      fieldAt bs 3 1) (fieldAt bs 4 1 + 1) c) ∧
  (∃ (c : Nat) (u : Fin 5) (v : BitVec 16) (i : BitVec 16) (len : BitVec 16) (s : State), s.vendorSeen u = true ∧
      s.canSend (vendorOf u) = true ∧ i.toNat < 256 ∧ 4 ≤ len.toNat ∧ len.toNat ≤ 1024 ∧ len.toNat % 4 = 0 ∧
      BadFrame (i.toNat % 256 * 0x10000 + v.toNat) (len.toNat / 4) c) ∧
  (∃ (bs : List Byte) (c : Nat) (u : Fin 5) (v : BitVec 16) (i : BitVec 16) (len : BitVec 16) (s : State),
      s.vendorSeen u = true ∧ s.canSend (vendorOf u) = true ∧ i.toNat < 256 ∧ 4 ≤ len.toNat ∧ len.toNat ≤ 1024 ∧
      len.toNat % 4 = 0 ∧ BadFrame (i.toNat % 256 * 0x10000 + v.toNat) (len.toNat / 4) c ∧ bs.length = len.toNat) ∧
  (∃ (c : Nat) (r : Requester) (addr : BitVec 24) (s : State), s.canSend r = true ∧ BadFrame addr.toNat 1 c) :=
  ⟨⟨[0xA2, 0, 0, 0x46, 0, 1, 2, 3, 4], 5, wBase, by unfold BadFrame; decide +kernel⟩,
    ⟨[0xA2, 0, 0, 0x46, 0, 1, 2, 3, 4], 0x38, 5, wBase, by unfold BadFrame; decide +kernel⟩,
    ⟨[0xA1, 0, 0, 0x46, 0], 20, 5, wBase, by unfold BadFrame; decide +kernel⟩,
    ⟨[0xA1, 0, 0, 0x46, 0], 0x38, 20, 5, wBase, by unfold BadFrame; decide +kernel⟩,
    ⟨5, 1, 6, 0, 8, ((wBase.wr (UPS.STS.DEVSTATE 1) 4).wr (PRT.OWNER.OWN 0) 1), by unfold BadFrame; decide +kernel⟩,
    ⟨[1, 2, 3, 4, 5, 6, 7, 8], 5, 1, 6, 0, 8, ((wBase.wr (UPS.STS.DEVSTATE 1) 4).wr (PRT.OWNER.OWN 0) 1),
      by unfold BadFrame; decide +kernel⟩,
    ⟨5, .i2c, 0x46, wBase, by unfold BadFrame; decide +kernel⟩⟩

/-- Some state and operands meet the hypotheses of each clause of CurrentLimitIsBounded. -/
theorem test_meets_current_limit_is_bounded :
  (∃ (r : Requester) (n : Fin 48) (addr : BitVec 24) (w : Word) (s : State), s.phase = .running ∧ s.canSend r =
      true ∧ addr.toNat = 0x10040 + 0x400 * n.val ∧ s.inReach r (.word addr.toNat none) true = true ∧ s.isOff
      addr.toNat = false ∧ s.frozen (.prt n) = false ∧ ((∀ f ∈ wordFields addr.toNat, f ≠ (PRT.FUSCFG.ILIM n) →
      (f.writable = true → inWord w.toNat f = s.rd f) ∧ (f.acc = .w1p → inWord w.toNat f = 0))) ∧ w.toNat &&&
      packFields (wordFields addr.toNat) (fun f => 2 ^ f.width - 1) = w.toNat ∧ inWord w.toNat (PRT.FUSCFG.ILIM
      n) ≠ s.rd (PRT.FUSCFG.ILIM n) ∧ (inWord w.toNat (PRT.FUSCFG.ILIM n) < 10 ∨ 600 < inWord w.toNat
      (PRT.FUSCFG.ILIM n) ∨ 7000000 < inWord w.toNat (PRT.FUSCFG.ILIM n) * s.rsense n)) ∧
  (∃ (r : Requester) (n : Fin 48) (addr : BitVec 24) (w : Word) (s : State), s.phase = .running ∧ s.canSend r =
      true ∧ addr.toNat = 0x10040 + 0x400 * n.val ∧ s.inReach r (.word addr.toNat none) true = true ∧ s.isOff
      addr.toNat = false ∧ s.frozen (.prt n) = false ∧ ((∀ f ∈ wordFields addr.toNat, f ≠ (PRT.FUSCFG.ILIM n) →
      (f.writable = true → inWord w.toNat f = s.rd f) ∧ (f.acc = .w1p → inWord w.toNat f = 0))) ∧ w.toNat &&&
      packFields (wordFields addr.toNat) (fun f => 2 ^ f.width - 1) = w.toNat ∧ 10 ≤ inWord w.toNat
      (PRT.FUSCFG.ILIM n) ∧ inWord w.toNat (PRT.FUSCFG.ILIM n) ≤ 600 ∧ inWord w.toNat (PRT.FUSCFG.ILIM n) *
      s.rsense n ≤ 7000000) ∧
  (∃ (n : Fin 48) (id : Ident) (p : PortIdent) (s : State), (s.quad (quadOf n)).ident = some id ∧ id.ports[n.val
      % 4]? = some p) ∧
  (∃ (n : Fin 48) (s : State), (s.quad (quadOf n)).ident = none) :=
  ⟨⟨.spi, 9, 0x12440, (BitVec.ofNat 32 ((wPresent.liveWord 0x12440 &&& (0xFFFFFFFF - ((2 ^
      (PRT.FUSCFG.ILIM 9).width - 1) * 2 ^ (PRT.FUSCFG.ILIM 9).lo))) ||| (467 * 2 ^ (PRT.FUSCFG.ILIM 9).lo))), wPresent,
      by decide +kernel⟩,
    ⟨.spi, 9, 0x12440, (BitVec.ofNat 32 ((wPresent.liveWord 0x12440 &&& (0xFFFFFFFF - ((2 ^
      (PRT.FUSCFG.ILIM 9).width - 1) * 2 ^ (PRT.FUSCFG.ILIM 9).lo))) ||| (400 * 2 ^ (PRT.FUSCFG.ILIM 9).lo))), wPresent,
      by decide +kernel⟩,
    ⟨9, ⟨1, 1000, [⟨3000, 8000, 10, 1, 20600, 1⟩, ⟨15000, 8000, 10, 1, 20600, 1⟩]⟩, ⟨15000, 8000, 10, 1, 20600, 1⟩,
      (wPresent.modQuad 2
      (fun q => { q with ident := some ⟨1, 1000, [⟨3000, 8000, 10, 1, 20600, 1⟩, ⟨15000, 8000, 10, 1, 20600, 1⟩]⟩ })),
      by decide +kernel⟩,
    ⟨9, wPresent, by decide +kernel⟩⟩

/-- Some state and operands meet the hypotheses of each clause of WakesDuringEntryAreHandledInActive. -/
theorem test_meets_wakes_during_entry_are_handled_in_active :
  (∃ (i : Fin 512) (s : State), AsleepUnwoken s ∧ s.rd (ICU.SRC_CFG.EN i) = 1 ∧ s.rd (ICU.SRC_CFG.NWW i) = 1 ∧
      (s.phase = .eclipse → 64 ≤ i.val ∧ i.val < 352 ∧ (i.val - 64) % 6 = 3)) ∧
  (∃ (s : State), AsleepUnwoken s) ∧
  (∃ (adr : BitVec 7) (s : State), AsleepUnwoken s ∧ s.rd NW.CTL.I2CWAKE = 1 ∧ adr.toNat = 0x38 + s.rd
      SYS.STRAP.ADR) ∧
  (∃ (i : Fin 512) (s : State), s.phase = .running ∧ s.sleep.running = true ∧ s.rd (ICU.SRC_CFG.EN i) = 1 ∧ s.rd
      (ICU.SRC_CFG.NWW i) = 1) ∧
  (∃ (s : State), s.phase = .running ∧ s.sleep.running = true) ∧
  (∃ (adr : BitVec 7) (s : State), s.phase = .running ∧ s.sleep.running = true ∧ s.rd NW.CTL.I2CWAKE = 1 ∧
      adr.toNat = 0x38 + s.rd SYS.STRAP.ADR) ∧
  (∃ (u : Fin 4) (s : State), s.phase = .running ∧ s.sleep.running = true ∧ s.rd (UPS.STS.SUSP u) = 1) ∧
  (∃ (n : Fin 48) (s : State), s.phase = .running ∧ s.sleep.running = true ∧ s.owner n ≤ 4) :=
  ⟨⟨67, (({ wBase with phase := .eclipse }.wr (ICU.SRC_CFG.EN 67) 1).wr (ICU.SRC_CFG.NWW 67) 1),
      by unfold AsleepUnwoken; decide +kernel⟩,
    ⟨{ wBase with phase := .eclipse }, by unfold AsleepUnwoken; decide +kernel⟩,
    ⟨0x38, ({ wBase with phase := .dusk }.wr NW.CTL.I2CWAKE 1), by unfold AsleepUnwoken; decide +kernel⟩,
    ⟨67, (({ wBase with sleep := ⟨true, false, 3, false⟩ }.wr (ICU.SRC_CFG.EN 67) 1).wr (ICU.SRC_CFG.NWW 67) 1),
      by decide +kernel⟩,
    ⟨{ wBase with sleep := ⟨true, false, 3, false⟩ }, by decide +kernel⟩,
    ⟨0x38, ({ wBase with sleep := ⟨true, false, 3, false⟩ }.wr NW.CTL.I2CWAKE 1), by decide +kernel⟩,
    ⟨1, ({ wBase with sleep := ⟨true, false, 3, false⟩ }.wr (UPS.STS.SUSP 1) 1), by decide +kernel⟩,
    ⟨30, ({ wBase with sleep := ⟨true, false, 3, false⟩ }.wr (PRT.OWNER.OWN 30) 2), by decide +kernel⟩⟩

/-- Some state and operands meet the hypotheses of each clause of FuseEventsComplete. -/
theorem test_meets_fuse_events_complete :
  (∃ (n : Fin 48) (s : State), (s.port n).gate = true ∧ s.rd (PRT.FUSSTS.GATEON n) = 0) ∧
  (∃ (n : Fin 48) (s : State), (s.port n).gate = true ∧ (s.port n).qual = true ∧ s.rd (PRT.FUSSTS.GATEON n) = 1 ∧
      s.rd (PRT.FUSSTS.LIMIT n) = 0 ∧ s.rd (PRT.FUSSTS.PG n) = 0) ∧
  (∃ (n : Fin 48) (s : State), s.rd (PRT.FUSSTS.PG n) = 1) ∧
  (∃ (n : Fin 48) (s : State), (s.port n).gate = true ∧ s.rd (PRT.FUSSTS.LIMIT n) = 0) ∧
  (∃ (n : Fin 48) (s : State), s.rd (PRT.FUSSTS.LIMIT n) = 1) ∧
  (∃ (n : Fin 48) (s : State), (s.port n).selfTest = .due) ∧
  (∃ (n : Fin 48) (s : State), (s.port n).selfTest = .running ∧ s.rd (PRT.FUSSTS.TRIPS n) ≤ s.rd
      (PRT.FUSCFG.RETRY n)) ∧
  (∃ (n : Fin 48) (s : State), (s.port n).selfTest = .running) ∧
  (∃ (n : Fin 48) (s : State), (s.port n).waitRun = true ∧ s.runs 9 = true) ∧
  (∃ (n : Fin 48) (s : State), s.rd (PRT.FUSSTS.PG n) = 1 ∧ (s.port n).cleanRun = true ∧ s.rd (PRT.FUSSTS.TRIPS
      n) ≠ 0 ∧ s.runs 9 = true) ∧
  (∃ (n : Fin 48) (s : State), (s.port n).ramp = true) ∧
  (∃ (n : Fin 48) (s : State), (s.port n).dsch = true ∧ (s.port n).gate = false) :=
  ⟨⟨9, (wBase.modPort 9 (fun p => { p with gate := true })), by decide +kernel⟩,
    ⟨9, ((wBase.modPort 9 (fun p => { p with gate := true, qual := true })).wr (PRT.FUSSTS.GATEON 9) 1),
      by decide +kernel⟩,
    ⟨9, (wBase.wr (PRT.FUSSTS.PG 9) 1), by decide +kernel⟩,
    ⟨9, (wBase.modPort 9 (fun p => { p with gate := true })), by decide +kernel⟩,
    ⟨9, (wBase.wr (PRT.FUSSTS.LIMIT 9) 1), by decide +kernel⟩,
    ⟨9, (wBase.modPort 9 (fun p => { p with selfTest := .due })), by decide +kernel⟩,
    ⟨9, ((wBase.modPort 9 (fun p => { p with selfTest := .running })).wr (PRT.FUSSTS.TRIPS 9) 2), by decide +kernel⟩,
    ⟨9, (wBase.modPort 9 (fun p => { p with selfTest := .running })), by decide +kernel⟩,
    ⟨9, (wBase.modPort 9 (fun p => { p with waitRun := true })), by decide +kernel⟩,
    ⟨9, (((wBase.modPort 9 (fun p => { p with cleanRun := true })).wr (PRT.FUSSTS.PG 9) 1).wr (PRT.FUSSTS.TRIPS 9) 3),
      by decide +kernel⟩,
    ⟨9, (wBase.modPort 9 (fun p => { p with ramp := true })), by decide +kernel⟩,
    ⟨9, (wBase.modPort 9 (fun p => { p with dsch := true, vbus := true })), by decide +kernel⟩⟩

/-- Some state and operands meet the hypotheses of each clause of TripsComplete. -/
theorem test_meets_trips_complete :
  (∃ (n : Fin 48) (s : State), (s.port n).gate = true) ∧
  (∃ (n : Fin 48) (s : State), (s.port n).gate = true ∧ s.rd (PRT.FUSSTS.LIMIT n) = 1) :=
  ⟨⟨9, (wBase.modPort 9 (fun p => { p with gate := true, vbus := true })), by decide +kernel⟩,
    ⟨9, ((wBase.modPort 9 (fun p => { p with gate := true, vbus := true })).wr (PRT.FUSSTS.LIMIT 9) 1),
      by decide +kernel⟩⟩

/-- Some state and operands meet the hypotheses of each clause of HubRequestsComplete. -/
theorem test_meets_hub_requests_complete :
  (∃ (u : Fin 4) (s : State), s.rd (UPS.STS.DEVSTATE u) = 4) ∧
  (∃ (u : Fin 4) (j : Byte) (n : Nat) (s : State), s.rd (UPS.STS.DEVSTATE u) = 4 ∧ s.hubPort u j.toNat = some n) :=
  ⟨⟨1, (wBase.wr (UPS.STS.DEVSTATE 1) 4), by decide +kernel⟩,
    ⟨1, 1, 0, ((wBase.wr (UPS.STS.DEVSTATE 1) 4).wr (UPS.PART0.P00_P31 1) 1), by decide +kernel⟩⟩

/-- Some state and operands meet the hypotheses of each clause of HubPortFeaturesComplete. -/
theorem test_meets_hub_port_features_complete :
  (∃ (u : Fin 4) (j : Byte) (n : Nat) (s : State), HubPortOf u j.toNat n s ∧ s.seUp n = true ∧ (s.hub n =
      HS.disabled ∨ s.hub n = HS.enabled ∨ s.hub n = HS.suspended)) ∧
  (∃ (u : Fin 4) (j : Byte) (n : Nat) (s : State), HubPortOf u j.toNat n s ∧ s.seUp n = true ∧ s.hub n =
      HS.enabled) ∧
  (∃ (u : Fin 4) (j : Byte) (sel : Byte) (n : Nat) (s : State), HubPortOf u j.toNat n s ∧ 1 ≤ sel.toNat ∧
      sel.toNat ≤ 5 ∧ s.seUp n = true ∧ (s.hub n = HS.disabled ∨ s.hub n = HS.suspended ∨ s.hub n =
      HS.disconnected)) ∧
  (∃ (u : Fin 4) (j : Byte) (sel : Byte) (n : Nat) (s : State), HubPortOf u j.toNat n s ∧ sel.toNat ≤ 3 ∧ s.rd
      (UPS.HUBCFG.IND u) = 1 ∧ s.rd (PRT.CTL.INDMODE n) = 0) ∧
  (∃ (u : Fin 4) (j : Byte) (n : Nat) (s : State), HubPortOf u j.toNat n s) ∧
  (∃ (u : Fin 4) (j : Byte) (n : Nat) (s : State), HubPortOf u j.toNat n s ∧ s.rd (UPS.CTL.PWRMODE u) = 0) ∧
  (∃ (u : Fin 4) (j : Byte) (n : Nat) (s : State), HubPortOf u j.toNat n s ∧ s.seUp n = true ∧ s.hub n =
      HS.suspended) :=
  ⟨⟨1, 1, 0, ((((wBase.wr (UPS.STS.DEVSTATE 1) 4).wr (UPS.PART0.P00_P31 1) 1).wr (PRT.OWNER.OWN 0) 1).wr
      (PRT.HUBSTS.STATE 0) 3), by unfold HubPortOf; decide +kernel⟩,
    ⟨1, 1, 0, ((((wBase.wr (UPS.STS.DEVSTATE 1) 4).wr (UPS.PART0.P00_P31 1) 1).wr (PRT.OWNER.OWN 0) 1).wr
      (PRT.HUBSTS.STATE 0) 5), by unfold HubPortOf; decide +kernel⟩,
    ⟨1, 1, 2, 0, ((((wBase.wr (UPS.STS.DEVSTATE 1) 4).wr (UPS.PART0.P00_P31 1) 1).wr (PRT.OWNER.OWN 0) 1).wr
      (PRT.HUBSTS.STATE 0) 1), by unfold HubPortOf; decide +kernel⟩,
    ⟨1, 1, 2, 0, ((((wBase.wr (UPS.STS.DEVSTATE 1) 4).wr (UPS.PART0.P00_P31 1) 1).wr (PRT.OWNER.OWN 0) 1).wr
      (UPS.HUBCFG.IND 1) 1), by unfold HubPortOf; decide +kernel⟩,
    ⟨1, 1, 0, (((wBase.wr (UPS.STS.DEVSTATE 1) 4).wr (UPS.PART0.P00_P31 1) 1).wr (PRT.OWNER.OWN 0) 1),
      by unfold HubPortOf; decide +kernel⟩,
    ⟨1, 1, 0, (((wBase.wr (UPS.STS.DEVSTATE 1) 4).wr (UPS.PART0.P00_P31 1) 1).wr (PRT.OWNER.OWN 0) 1),
      by unfold HubPortOf; decide +kernel⟩,
    ⟨1, 1, 0, ((((wBase.wr (UPS.STS.DEVSTATE 1) 4).wr (UPS.PART0.P00_P31 1) 1).wr (PRT.OWNER.OWN 0) 1).wr
      (PRT.HUBSTS.STATE 0) 8), by unfold HubPortOf; decide +kernel⟩⟩

/-- Some state and operands meet the hypotheses of each clause of UpstreamRequestsComplete. -/
theorem test_meets_upstream_requests_complete :
  (∃ (u : Fin 4) (s : State), s.phase = .running ∧ 1 ≤ s.rd (UPS.STS.DEVSTATE u) ∧ s.rd (UPS.STS.DEVSTATE u) ≤ 4) ∧
  (∃ (u : Fin 4) (s : State), s.phase = .running ∧ (s.rd (UPS.STS.DEVSTATE u) = 2 ∨ s.rd (UPS.STS.DEVSTATE u) =
      3)) ∧
  (∃ (u : Fin 4) (s : State), s.phase = .running ∧ s.rd (UPS.STS.DEVSTATE u) = 3) ∧
  (∃ (u : Fin 4) (s : State), s.phase = .running ∧ s.rd (UPS.STS.DEVSTATE u) = 4 ∧ s.rd (UPS.STS.HS u) = 1 ∧ s.rd
      (UPS.STS.ALTSET u) = 0) ∧
  (∃ (u : Fin 4) (v : BitVec 16) (bs : List Byte) (s : State), s.phase = .running ∧ 2 ≤ s.rd (UPS.STS.DEVSTATE u)
      ∧ s.rd (UPS.STS.DEVSTATE u) ≤ 4 ∧ s.descriptor u (v.toNat / 256) (v.toNat % 256) = some bs) ∧
  (∃ (u : Fin 4) (s : State), s.phase = .running ∧ 2 ≤ s.rd (UPS.STS.DEVSTATE u) ∧ s.rd (UPS.STS.DEVSTATE u) ≤ 4) ∧
  (∃ (u : Fin 4) (sel : Byte) (s : State), s.phase = .running ∧ s.rd (UPS.STS.DEVSTATE u) ≠ 0 ∧ 1 ≤ sel.toNat ∧
      sel.toNat ≤ 5) ∧
  (∃ (u : Fin 4) (bs : List Byte) (a : Nat) (s : State), s.phase = .running ∧ s.rd (UPS.STS.DEVSTATE u) = 4 ∧
      (s.up u).ctl = .vendorWrite a bs) :=
  ⟨⟨1, (wBase.wr (UPS.STS.DEVSTATE 1) 4), by decide +kernel⟩,
    ⟨1, (wBase.wr (UPS.STS.DEVSTATE 1) 2), by decide +kernel⟩,
    ⟨1, (wBase.wr (UPS.STS.DEVSTATE 1) 3), by decide +kernel⟩,
    ⟨1, ((wBase.wr (UPS.STS.DEVSTATE 1) 4).wr (UPS.STS.HS 1) 1), by decide +kernel⟩,
    ⟨1, 0x100, ((wBase.descriptor 1 1 0).getD []), (wBase.wr (UPS.STS.DEVSTATE 1) 3), by decide +kernel⟩,
    ⟨1, (wBase.wr (UPS.STS.DEVSTATE 1) 3), by decide +kernel⟩,
    ⟨1, 3, (wBase.wr (UPS.STS.DEVSTATE 1) 4), by decide +kernel⟩,
    ⟨1, [], 7, ((wBase.wr (UPS.STS.DEVSTATE 1) 4).modUp 1 (fun x => { x with ctl := .vendorWrite 7 [] })),
      by decide +kernel⟩⟩

/-- Some state and operands meet the hypotheses of each clause of StatusChangeAndSuspendComplete. -/
theorem test_meets_status_change_and_suspend_complete :
  (∃ (u : Fin 4) (s : State), s.phase = .running ∧ s.rd (UPS.STS.DEVSTATE u) = 4 ∧ (s.up u).halted = false ∧
      (s.partition u).any (fun k => (s.view u k).fresh) = true) ∧
  (∃ (u : Fin 4) (s : State), s.phase = .running ∧ s.rd (UPS.STS.DEVSTATE u) = 4 ∧ (s.up u).halted = false ∧
      (s.partition u).any (fun k => (s.view u k).fresh) = false) ∧
  (∃ (u : Fin 4) (s : State), s.phase = .running ∧ s.rd (UPS.STS.DEVSTATE u) = 4 ∧ (s.up u).halted = true) ∧
  (∃ (u : Fin 4) (s : State), s.phase = .running ∧ (s.up u).sentPorts ≠ []) ∧
  (∃ (u : Fin 4) (s : State), s.phase = .running ∧ s.rd (UPS.STS.DEVSTATE u) = 4 ∧ s.rd (UPS.STS.SUSP u) = 0) ∧
  (∃ (u : Fin 4) (n : Fin 48) (s : State), s.phase = .running ∧ s.rd (UPS.STS.SUSP u) = 1 ∧ s.seUp n = true ∧
      s.owner n = u ∧ s.owned n = true ∧ s.hub n = HS.enabled ∧ s.rd (UPS.STS.RWAKEEN u) = 1) ∧
  (∃ (u : Fin 4) (n : Fin 48) (s : State), s.phase = .running ∧ s.rd (UPS.STS.SUSP u) = 1 ∧ s.seUp n = true ∧
      s.owner n = u ∧ s.owned n = true ∧ s.hub n = HS.enabled ∧ s.rd (UPS.STS.RWAKEEN u) = 0) ∧
  (∃ (u : Fin 4) (s : State), s.phase = .running ∧ s.rd (UPS.STS.SUSP u) = 1 ∧ (s.up u).wakers ≠ [] ∧ (s.up
      u).hostResume = false ∧ (s.up u).kStarted = false) ∧
  (∃ (u : Fin 4) (s : State), s.phase = .running ∧ s.rd (UPS.STS.SUSP u) = 1 ∧ (s.up u).kStarted = true) ∧
  (∃ (u : Fin 4) (s : State), s.phase = .running ∧ s.rd (UPS.STS.SUSP u) = 1 ∧ (s.up u).hostResume = true) :=
  ⟨⟨1, ((((wBase.wr (UPS.STS.DEVSTATE 1) 4).wr (UPS.PART0.P00_P31 1) 1).wr
      (PRT.OWNER.OWN 0) 1).setView 1 0 { View.zero with fresh := true, cConn := true }), by decide +kernel⟩,
    ⟨1, (((wBase.wr (UPS.STS.DEVSTATE 1) 4).wr (UPS.PART0.P00_P31 1) 1).wr (PRT.OWNER.OWN 0) 1), by decide +kernel⟩,
    ⟨1, ((((wBase.wr (UPS.STS.DEVSTATE 1) 4).wr (UPS.PART0.P00_P31 1) 1).wr (PRT.OWNER.OWN 0) 1).modUp 1
      (fun x => { x with halted := true })), by decide +kernel⟩,
    ⟨1, ((((wBase.wr (UPS.STS.DEVSTATE 1) 4).wr (UPS.PART0.P00_P31 1) 1).wr (PRT.OWNER.OWN 0) 1).modUp 1
      (fun x => { x with sentPorts := [0] })), by decide +kernel⟩,
    ⟨1, (((wBase.wr (UPS.STS.DEVSTATE 1) 4).wr (UPS.PART0.P00_P31 1) 1).wr (PRT.OWNER.OWN 0) 1), by decide +kernel⟩,
    ⟨1, 0, (((((((wBase.wr (UPS.STS.DEVSTATE 1) 4).wr (UPS.PART0.P00_P31 1) 1).wr (PRT.OWNER.OWN 0) 1).wr
      (PRT.HUBSTS.STATE 0) 5).wr (UPS.STS.SUSP 1) 1).wr (UPS.STS.RWAKEEN 1) 1).modSec 0
      (fun x => { x with dieUp := true })), by decide +kernel⟩,
    ⟨1, 0, ((((((wBase.wr (UPS.STS.DEVSTATE 1) 4).wr (UPS.PART0.P00_P31 1) 1).wr (PRT.OWNER.OWN 0) 1).wr
      (PRT.HUBSTS.STATE 0) 5).wr (UPS.STS.SUSP 1) 1).modSec 0 (fun x => { x with dieUp := true })), by decide +kernel⟩,
    ⟨1, ((((((wBase.wr (UPS.STS.DEVSTATE 1) 4).wr (UPS.PART0.P00_P31 1) 1).wr (PRT.OWNER.OWN 0) 1).wr
      (PRT.HUBSTS.STATE 0) 8).wr (UPS.STS.SUSP 1) 1).modUp 1 (fun x => { x with wakers := [0] })), by decide +kernel⟩,
    ⟨1, ((((((wBase.wr (UPS.STS.DEVSTATE 1) 4).wr (UPS.PART0.P00_P31 1) 1).wr (PRT.OWNER.OWN 0) 1).wr
      (PRT.HUBSTS.STATE 0) 8).wr (UPS.STS.SUSP 1) 1).modUp 1 (fun x => { x with wakers := [0], kStarted := true })),
      by decide +kernel⟩,
    ⟨1, ((((((wBase.wr (UPS.STS.DEVSTATE 1) 4).wr (UPS.PART0.P00_P31 1) 1).wr (PRT.OWNER.OWN 0) 1).wr
      (PRT.HUBSTS.STATE 0) 8).wr (UPS.STS.SUSP 1) 1).modUp 1 (fun x => { x with wakers := [0], hostResume := true })),
      by decide +kernel⟩⟩

/-- Some state and operands meet the hypotheses of each clause of HubPortEventsComplete. -/
theorem test_meets_hub_port_events_complete :
  (∃ (n : Fin 48) (s : State), s.seUp n = true ∧ s.hub n = HS.disconnected ∧ s.tc n ≠ 7 ∧ (s.port n).restart =
      false) ∧
  (∃ (n : Fin 48) (s : State), s.seUp n = true ∧ s.hub n = HS.enabled ∧ (s.port n).restart = false) ∧
  (∃ (n : Fin 48) (s : State), s.seUp n = true ∧ s.hub n = HS.resetting ∧ s.rd (PRT.HUBSTS.LOWSPD n) = 0 ∧ s.rd
      (PRT.CTL.FSONLY n) = 0 ∧ s.owner n ≠ 4) ∧
  (∃ (n : Fin 48) (s : State), s.seUp n = true ∧ s.hub n = HS.resetting) ∧
  (∃ (n : Fin 48) (s : State), s.seUp n = true ∧ s.hub n = HS.enabled) ∧
  (∃ (n : Fin 48) (s : State), s.seUp n = true ∧ s.hub n = HS.disabling) ∧
  (∃ (n : Fin 48) (s : State), s.seUp n = true ∧ s.hub n = HS.suspended ∧ s.partSusp n = false) ∧
  (∃ (n : Fin 48) (s : State), s.seUp n = true ∧ s.hub n = HS.resuming) ∧
  (∃ (n : Fin 48) (s : State), s.seUp n = true ∧ s.hub n = HS.sendEor) ∧
  (∃ (n : Fin 48) (s : State), s.seUp n = true ∧ (s.port n).restart = true) ∧
  (∃ (i : Fin 4) (s : State), s.phase = .running ∧ s.rd (SEC.STS.LINK i) = 1) :=
  ⟨⟨9, ((wBase.modSec 0 (fun x => { x with dieUp := true })).wr (PRT.HUBSTS.STATE 9) 1), by decide +kernel⟩,
    ⟨9, ((wBase.modSec 0 (fun x => { x with dieUp := true })).wr (PRT.HUBSTS.STATE 9) 5), by decide +kernel⟩,
    ⟨9, ((wBase.modSec 0 (fun x => { x with dieUp := true })).wr (PRT.HUBSTS.STATE 9) 4), by decide +kernel⟩,
    ⟨9, ((wBase.modSec 0 (fun x => { x with dieUp := true })).wr (PRT.HUBSTS.STATE 9) 4), by decide +kernel⟩,
    ⟨9, ((wBase.modSec 0 (fun x => { x with dieUp := true })).wr (PRT.HUBSTS.STATE 9) 5), by decide +kernel⟩,
    ⟨9, ((wBase.modSec 0 (fun x => { x with dieUp := true })).wr (PRT.HUBSTS.STATE 9) 2), by decide +kernel⟩,
    ⟨9, ((wBase.modSec 0 (fun x => { x with dieUp := true })).wr (PRT.HUBSTS.STATE 9) 8), by decide +kernel⟩,
    ⟨9, ((wBase.modSec 0 (fun x => { x with dieUp := true })).wr (PRT.HUBSTS.STATE 9) 9), by decide +kernel⟩,
    ⟨9, ((wBase.modSec 0 (fun x => { x with dieUp := true })).wr (PRT.HUBSTS.STATE 9) 10), by decide +kernel⟩,
    ⟨9, ((wBase.modSec 0 (fun x => { x with dieUp := true })).modPort 9 (fun p => { p with restart := true })),
      by decide +kernel⟩,
    ⟨0, ((wBase.modSec 0 (fun x => { x with dieUp := true })).wr (SEC.STS.LINK 0) 1), by decide +kernel⟩⟩

/-- Some state and operands meet the hypotheses of each clause of TypeCEventsComplete. -/
theorem test_meets_type_c_events_complete :
  (∃ (n : Fin 48) (s : State), s.tc n = 1 ∧ (s.port n).demand = true ∧ (s.port n).restart = false ∧ (s.port
      n).presRd = false) ∧
  (∃ (n : Fin 48) (s : State), PolicyUp n s ∧ s.tc n = 2 ∧ (s.port n).path = .source) ∧
  (∃ (n : Fin 48) (s : State), s.tc n = 2) ∧
  (∃ (n : Fin 48) (s : State), s.tc n = 1 ∧ s.rd (PRT.TCCTL.DSROLE n) = 0) ∧
  (∃ (n : Fin 48) (s : State), PolicyUp n s ∧ s.tc n = 5 ∧ (s.port n).tryWait = false ∧ s.rd (PRT.TCCTL.DSROLE n)
      = 0) ∧
  (∃ (n : Fin 48) (s : State), PolicyUp n s ∧ s.tc n = 5 ∧ (s.port n).tryWait = false ∧ s.rd (PRT.TCCTL.DSROLE n)
      ≠ 0) ∧
  (∃ (n : Fin 48) (s : State), PolicyUp n s ∧ s.tc n = 5 ∧ (s.port n).tryWait = false) ∧
  (∃ (n : Fin 48) (s : State), PolicyUp n s ∧ s.tc n = 5 ∧ (s.port n).tryWait = true) ∧
  (∃ (n : Fin 48) (s : State), s.tc n = 6 ∧ s.phase = .running) ∧
  (∃ (n : Fin 48) (s : State), s.tc n = 7) ∧
  (∃ (n : Fin 48) (s : State), 1 ≤ s.tc n ∧ s.tc n ≤ 8) ∧
  (∃ (n : Fin 48) (s : State), PolicyUp n s ∧ s.tc n = 9) ∧
  (∃ (n : Fin 48) (leak : LeakSet) (s : State), PolicyUp n s ∧ (s.port n).checking = true ∧ (s.tc n = 3 ∨ s.tc n
      = 4) ∧ (∀ x ∈ measured leak (s.rd (PRT.TCSTS.ORIENT n)) (s.port n).ra, moistThreshold n ≤ x.2.2)) ∧
  (∃ (n : Fin 48) (leak : LeakSet) (s : State), PolicyUp n s ∧ (s.port n).checking = true ∧ (s.tc n = 3 ∨ s.tc n
      = 4) ∧ (∃ x ∈ measured leak (s.rd (PRT.TCSTS.ORIENT n)) (s.port n).ra, x.2.2 < moistThreshold n)) ∧
  (∃ (n : Fin 48) (s : State), PolicyUp n s ∧ s.tc n = 4) :=
  ⟨⟨9, ((wBase.modPort 9 (fun p => { p with demand := true })).wr (PRT.TCSTS.TCSTATE 9) 1), by decide +kernel⟩,
    ⟨9, (wBase.wr (PRT.TCSTS.TCSTATE 9) 2), by unfold PolicyUp; decide +kernel⟩,
    ⟨9, (wBase.wr (PRT.TCSTS.TCSTATE 9) 2), by decide +kernel⟩,
    ⟨9, (wBase.wr (PRT.TCSTS.TCSTATE 9) 1), by decide +kernel⟩,
    ⟨9, (wBase.wr (PRT.TCSTS.TCSTATE 9) 5), by unfold PolicyUp; decide +kernel⟩,
    ⟨9, ((wBase.wr (PRT.TCSTS.TCSTATE 9) 5).wr (PRT.TCCTL.DSROLE 9) 1), by unfold PolicyUp; decide +kernel⟩,
    ⟨9, (wBase.wr (PRT.TCSTS.TCSTATE 9) 5), by unfold PolicyUp; decide +kernel⟩,
    ⟨9, ((wBase.modPort 9 (fun p => { p with tryWait := true })).wr (PRT.TCSTS.TCSTATE 9) 5),
      by unfold PolicyUp; decide +kernel⟩,
    ⟨9, (wBase.wr (PRT.TCSTS.TCSTATE 9) 6), by decide +kernel⟩,
    ⟨9, (wBase.wr (PRT.TCSTS.TCSTATE 9) 7), by decide +kernel⟩,
    ⟨9, (wBase.wr (PRT.TCSTS.TCSTATE 9) 6), by decide +kernel⟩,
    ⟨9, (wBase.wr (PRT.TCSTS.TCSTATE 9) 9), by unfold PolicyUp; decide +kernel⟩,
    ⟨9, ⟨4000, 4000, 4000, 4000, 4000, 4000, 4000, 4000⟩, ((wBase.modPort 9 (fun p => { p with checking := true })).wr
      (PRT.TCSTS.TCSTATE 9) 3), moistAbove _ (by unfold PolicyUp; decide +kernel) (by decide +kernel) (by decide +kernel)
      (by decide +kernel)⟩,
    ⟨9, ⟨4000, 4000, 4000, 4000, 100, 4000, 4000, 4000⟩, ((wBase.modPort 9 (fun p => { p with checking := true })).wr
      (PRT.TCSTS.TCSTATE 9) 3), moistBelow _ (by unfold PolicyUp; decide +kernel) (by decide +kernel) (by decide +kernel)
      (by decide +kernel)⟩,
    ⟨9, (wBase.wr (PRT.TCSTS.TCSTATE 9) 4), by unfold PolicyUp; decide +kernel⟩⟩

/-- Some state and operands meet the hypotheses of each clause of UpstreamTypeCCompletes. -/
theorem test_meets_upstream_type_c_completes :
  (∃ (u : Fin 4) (s : State), s.phase = .running ∧ s.rd (UPS.TCSTS.TCSTATE u) ≤ 1 ∧ (s.up u).presRp = false) ∧
  (∃ (u : Fin 4) (s : State), s.phase = .running ∧ s.rd (UPS.TCSTS.TCSTATE u) = 2 ∧ (s.up u).path = .sink ∧ s.rd
      (UPS.STS.VBUS u) = 1) ∧
  (∃ (u : Fin 4) (s : State), s.phase = .running ∧ s.rd (UPS.TCSTS.TCSTATE u) = 2) ∧
  (∃ (u : Fin 4) (s : State), s.phase = .running ∧ s.rd (UPS.TCCTL.ROLE u) = 1 ∧ s.rd (UPS.TCSTS.TCSTATE u) = 1 ∧
      s.boot.step = 0) ∧
  (∃ (u : Fin 4) (s : State), s.phase = .running ∧ s.rd (UPS.TCSTS.TCSTATE u) = 5 ∧ (s.up u).tryWait = false) ∧
  (∃ (u : Fin 4) (s : State), s.phase = .running ∧ s.rd (UPS.TCSTS.TCSTATE u) = 5 ∧ (s.up u).tryWait = false ∧
      s.rd (UPS.STS.VBUS u) = 1) ∧
  (∃ (u : Fin 4) (s : State), s.phase = .running ∧ s.rd (UPS.TCSTS.TCSTATE u) = 5 ∧ (s.up u).tryWait = true) ∧
  (∃ (u : Fin 4) (s : State), s.phase = .running ∧ s.rd (UPS.TCSTS.TCSTATE u) = 6) :=
  ⟨⟨1, (wBase.wr (UPS.TCSTS.TCSTATE 1) 1), by decide +kernel⟩,
    ⟨1, ((wBase.wr (UPS.TCSTS.TCSTATE 1) 2).wr (UPS.STS.VBUS 1) 1), by decide +kernel⟩,
    ⟨1, (wBase.wr (UPS.TCSTS.TCSTATE 1) 2), by decide +kernel⟩,
    ⟨1, ((wBase.wr (UPS.TCSTS.TCSTATE 1) 1).wr (UPS.TCCTL.ROLE 1) 1), by decide +kernel⟩,
    ⟨1, (wBase.wr (UPS.TCSTS.TCSTATE 1) 5), by decide +kernel⟩,
    ⟨1, ((wBase.wr (UPS.TCSTS.TCSTATE 1) 5).wr (UPS.STS.VBUS 1) 1), by decide +kernel⟩,
    ⟨1, ((wBase.modUp 1 (fun x => { x with tryWait := true })).wr (UPS.TCSTS.TCSTATE 1) 5), by decide +kernel⟩,
    ⟨1, (wBase.wr (UPS.TCSTS.TCSTATE 1) 6), by decide +kernel⟩⟩

/-- Some state and operands meet the hypotheses of each clause of LinkAndDieEventsComplete. -/
theorem test_meets_link_and_die_events_complete :
  (∃ (i : Fin 4) (s : State), s.active = true ∧ s.rd (SEC.STS.LINK i) = 1) ∧
  (∃ (i : Fin 4) (s : State), s.active = true ∧ (s.sec i).lost = true ∧ (s.sec i).dieUp = true) ∧
  (∃ (i : Fin 4) (s : State), s.active = true ∧ (s.sec i).lost = true ∧ (s.sec i).late = false) ∧
  (∃ (i : Fin 4) (s : State), s.active = true ∧ s.good (.vdd5 i) = true) :=
  ⟨⟨1, (wBase.wr (SEC.STS.LINK 1) 1), by decide +kernel⟩,
    ⟨1, ((wBase.modSec 1 (fun x => { x with lost := true, dieUp := true })).wr (SEC.CTL.REDUCED 1) 1), by decide +kernel⟩,
    ⟨1, (wBase.modSec 1 (fun x => { x with lost := true })), by decide +kernel⟩,
    ⟨1, wBase, by decide +kernel⟩⟩

/-- Some state and operands meet the hypotheses of each clause of PinAndPowerResetsComplete. -/
theorem test_meets_pin_and_power_resets_complete :
  (∃ (s : State), s.good .vddio = true) ∧
  (∃ (s : State), s.resetN = true ∧ s.good .vddio = true ∧ s.phase = .held ∧ s.por = false) ∧
  (∃ (s : State), (s.phase = .held ∨ s.phase = .unpowered) ∧ s.por = true ∧ s.coreGood = true ∧ s.good .vddNw =
      true ∧ s.resetN = false) ∧
  (∃ (s : State), s.phase = .rescue ∧ s.por = true ∧ s.coreGood = true ∧ s.good .vddNw = true) :=
  ⟨⟨wBase, by decide +kernel⟩,
    ⟨{ wBase with resetN := true, phase := .held }, by decide +kernel⟩,
    ⟨{ wBase with por := true, phase := .unpowered }, by decide +kernel⟩,
    ⟨{ wBase with por := true, phase := .rescue, vioDue := true }, by decide +kernel⟩⟩

/-- Some state and operands meet the hypotheses of each clause of InternalResetsComplete. -/
theorem test_meets_internal_resets_complete :
  (∃ (s : State), (s.phase = .running ∨ s.phase = .rescue)) ∧
  (∃ (s : State), s.resetDue = true) ∧
  (∃ (s : State), s.phase = .running ∧ s.boot.retry = true ∧ s.retain.lost = false) ∧
  (∃ (s : State), s.phase = .eclipse ∧ s.sleep.woken = true) :=
  ⟨⟨wBase, by decide +kernel⟩,
    ⟨{ wBase with resetDue := true }, by decide +kernel⟩,
    ⟨{ wBase with boot := { wBase.boot with retry := true }, retain := { wBase.retain with lost := false } },
      by decide +kernel⟩,
    ⟨({ wBase with phase := .eclipse, sleep := ⟨false, false, 0, true⟩ }.wr NW.WAKE.CAUSE 7), by decide +kernel⟩⟩

/-- Some state and operands meet the hypotheses of each clause of SupplyEventsComplete. -/
theorem test_meets_supply_events_complete :
  (∃ (x : Supply) (s : State), s.good x = true) ∧
  (∃ (x : Supply) (s : State), s.good x = true ∧ (x = .vddCore ∨ x = .vddPhy ∨ x = .vdd33Phy) ∧ s.phase =
      .running ∧ s.vioDue = false) ∧
  (∃ (x : Supply) (s : State), s.good x = false) ∧
  (∃ (u : Fin 4) (present : Bool) (s : State), s.vbusU.contains u.val ≠ present) :=
  ⟨⟨Supply.vddCore, wBase, by decide +kernel⟩,
    ⟨Supply.vddCore, wBase, by decide +kernel⟩,
    ⟨Supply.vddCore, { wBase with low := [Supply.vddCore] }, by decide +kernel⟩,
    ⟨2, true, wBase, by decide +kernel⟩⟩

/-- Some state and operands meet the hypotheses of each clause of BootStepsComplete. -/
theorem test_meets_boot_steps_complete :
  (∃ (s : State), s.phase = .running ∧ s.boot.retry = false ∧ s.boot.step = 1) ∧
  (∃ (s : State), s.phase = .running ∧ s.boot.retry = false ∧ s.boot.step = 8 ∧ s.boot.inst < 11) ∧
  (∃ (s : State), s.phase = .running ∧ s.boot.retry = false ∧ s.boot.step = 0xA) ∧
  (∃ (s : State), s.phase = .running ∧ s.boot.retry = false ∧ s.boot.step = 0xB) ∧
  (∃ (s : State), s.phase = .running ∧ s.boot.retry = false ∧ s.boot.step = 0xC) ∧
  (∃ (s : State), s.phase = .running ∧ s.boot.retry = false ∧ s.boot.step = 0xD) ∧
  (∃ (s : State), s.phase = .running ∧ s.boot.retry = false ∧ s.boot.step = 0xE) ∧
  (∃ (e : Fin 11) (s : State), s.phase = .running ∧ s.boot.retry = false ∧ s.boot.step = 0xB ∧ e.val < 10 ∧
      s.boot.restarted = []) ∧
  (∃ (e : Fin 11) (s : State), s.phase = .running ∧ s.boot.retry = false ∧ s.boot.step = 0xB ∧ e.val < 10 ∧
      s.boot.restarted ≠ []) ∧
  (∃ (s : State), s.phase = .running ∧ s.boot.retry = false ∧ s.boot.step ≠ 0) ∧
  (∃ (q : Fin 12) (s : State), s.phase = .running ∧ s.boot.retry = false ∧ s.boot.step = 0 ∧ (s.quad q).reread =
      true) ∧
  (∃ (s : State), s.phase = .running ∧ s.boot.retry = false ∧ s.boot.ownDue = true) :=
  ⟨⟨{ wBase with boot := { BootX.reset with step := 1 } }, by decide +kernel⟩,
    ⟨{ wBase with boot := { BootX.reset with step := 8 } }, by decide +kernel⟩,
    ⟨{ wBase with boot := { BootX.reset with step := 10 } }, by decide +kernel⟩,
    ⟨{ wBase with boot := { BootX.reset with step := 11 } }, by decide +kernel⟩,
    ⟨{ wBase with boot := { BootX.reset with step := 12 } }, by decide +kernel⟩,
    ⟨{ wBase with boot := { BootX.reset with step := 13 } }, by decide +kernel⟩,
    ⟨{ wBase with boot := { BootX.reset with step := 14 } }, by decide +kernel⟩,
    ⟨3, { wBase with boot := { BootX.reset with step := 11 } }, by decide +kernel⟩,
    ⟨3, { wBase with boot := { BootX.reset with step := 11, restarted := [1] } }, by decide +kernel⟩,
    ⟨{ wBase with boot := { BootX.reset with step := 6 } }, by decide +kernel⟩,
    ⟨4, (wBase.modQuad 4 (fun x => { x with reread := true })), by decide +kernel⟩,
    ⟨{ wBase with boot := { wBase.boot with ownDue := true } }, by decide +kernel⟩⟩

/-- Some state and operands meet the hypotheses of each clause of EngineReturnsComplete. -/
theorem test_meets_engine_returns_complete :
  (∃ (i : Fin 4) (s : State), s.phase = .running ∧ s.safe = false ∧ (s.sec i).restarting = true) ∧
  (∃ (e : Fin 11) (s : State), s.phase = .running ∧ s.safe = false ∧ s.boot.step = 0 ∧ s.runs e = false ∧ (e.val
      < 8 → (s.sec (e.val % 4)).restarting = false)) :=
  ⟨⟨1, (wBase.modSec 1 (fun x => { x with restarting := true })), by decide +kernel⟩,
    ⟨9, { wBase with stopped := [9] }, by decide +kernel⟩⟩

/-- Some state and operands meet the hypotheses of each clause of UpdateAndFuseCompletionsComplete. -/
theorem test_meets_update_and_fuse_completions_complete :
  (∃ (x : UpdX) (s : State), s.upd = some x ∧ x.waiting = false ∧ s.svUp = true ∧ (x.cmd ≠ 5 ∨ x.landed = true)) ∧
  (∃ (x : UpdX) (s : State), s.upd = some x ∧ x.waiting = false ∧ s.svUp = true ∧ x.cmd = 5 ∧ x.landed = false) ∧
  (∃ (v : Nat) (s : State), s.fuseGoal = some v) :=
  ⟨⟨⟨2, 1, 4096, 0, 0, some 0, false, false, false⟩,
      { wBase with upd := some ⟨2, 1, 4096, 0, 0, some 0, false, false, false⟩ }, by decide +kernel⟩,
    ⟨⟨5, 1, 4096, 0, 0, some 0, false, false, false⟩,
      { wBase with upd := some ⟨5, 1, 4096, 0, 0, some 0, false, false, false⟩ }, by decide +kernel⟩,
    ⟨3, { wBase with fuseGoal := some 3, fuses := 2 }, by decide +kernel⟩⟩

/-- Some state and operands meet the hypotheses of each clause of BootWritesComplete. -/
theorem test_meets_boot_writes_complete :
  (∃ (r : Requester) (w : Word) (s : State), Accepts r 0x1010 w.toNat s ∧ w.toNat % 2 = 1 ∧ s.coreGood = true ∧
      s.por = false) ∧
  (∃ (r : Requester) (w : Word) (s : State), Accepts r 0x1008 w.toNat s) ∧
  (∃ (r : Requester) (slot : Bool) (s : State), Accepts r 0x1020 (1 + 8 * slot.toNat) s) ∧
  (∃ (r : Requester) (s : State), Accepts r 0x1020 2 s) ∧
  (∃ (r : Requester) (s : State), Accepts r 0x1020 3 s) ∧
  (∃ (r : Requester) (s : State), Accepts r 0x1020 4 s) ∧
  (∃ (r : Requester) (s : State), Accepts r 0x1020 5 s) ∧
  (∃ (r : Requester) (s : State), Accepts r 0x1020 6 s) ∧
  (∃ (r : Requester) (w : Word) (s : State), Accepts r 0x1030 w.toNat s ∧ inWord w.toNat BOOT.RBCTR.VALUE ≠
      s.fuses) ∧
  (∃ (r : Requester) (w : Word) (s : State), Accepts r 0x24 w.toNat s ∧ w.toNat % 2 = 1) :=
  ⟨⟨.rescue, 1, { wBase with phase := .rescue, rescue := { RescueX.reset with devstate := 4 } },
      by unfold Accepts; decide +kernel⟩,
    ⟨.spi, 1, { wBase with retain := { wBase.retain with failMem := 5 } }, by unfold Accepts; decide +kernel⟩,
    ⟨.spi, true, wBase, by unfold Accepts; decide +kernel⟩,
    ⟨.spi, ((wBase.wr BOOT.UPDSTS.SESSION 1).wr BOOT.UPDSTS.OWNER 5), by unfold Accepts; decide +kernel⟩,
    ⟨.spi, ((wBase.wr BOOT.UPDSTS.SESSION 1).wr BOOT.UPDSTS.OWNER 5), by unfold Accepts; decide +kernel⟩,
    ⟨.spi, (((wBase.wr BOOT.UPDSTS.SESSION 1).wr BOOT.UPDSTS.OWNER 5).wr BOOT.UPDLEN.LEN 4096),
      by unfold Accepts; decide +kernel⟩,
    ⟨.spi, ((wBase.wr BOOT.UPDSTS.SESSION 2).wr BOOT.UPDSTS.OWNER 5), by unfold Accepts; decide +kernel⟩,
    ⟨.spi, ((wBase.wr BOOT.UPDSTS.SESSION 1).wr BOOT.UPDSTS.OWNER 5), by unfold Accepts; decide +kernel⟩,
    ⟨.spi, 4, { (wBase.wr BOOT.HEADER.ACTIVE 0) with boot := { wBase.boot with rollback := 5 } },
      by unfold Accepts; decide +kernel⟩,
    ⟨.spi, 0xA5C30001, wBase, by unfold Accepts; decide +kernel⟩⟩

/-- Some state and operands meet the hypotheses of each clause of SleepHandshakeCompletes. -/
theorem test_meets_sleep_handshake_completes :
  (∃ (s : State), s.idle = true ∧ s.sleep.running = false) ∧
  (∃ (s : State), s.sleep.running = true ∧ s.refuses s.sleep.next = false ∧ (s.sleep.eclipse = true → s.eclipseOk
      = true) ∧ s.sleep.next < 17) ∧
  (∃ (s : State), s.sleep.running = true ∧ s.refuses s.sleep.next = false ∧ (s.sleep.eclipse = true → s.eclipseOk
      = true) ∧ s.sleep.next = 17) ∧
  (∃ (s : State), s.sleep.running = true ∧ s.refuses s.sleep.next = true ∧ s.sleep.next ≤ 17) ∧
  (∃ (s : State), s.sleep.running = true ∧ s.sleep.next ≤ 17) :=
  ⟨⟨({ wBase with vbusU := [] }.wr NW.CTL.SLEEPEN 1), by decide +kernel⟩,
    ⟨{ wBase with sleep := ⟨true, false, 3, false⟩ }, by decide +kernel⟩,
    ⟨{ wBase with sleep := ⟨true, false, 17, false⟩ }, by decide +kernel⟩,
    ⟨({ wBase with sleep := ⟨true, false, 2, false⟩ }.wr PKM.GCNT1.INFLIGHT 1), by decide +kernel⟩,
    ⟨{ wBase with sleep := ⟨true, false, 4, false⟩ }, by decide +kernel⟩⟩

/-- Some state and operands meet the hypotheses of each clause of WakesAndReturnComplete. -/
theorem test_meets_wakes_and_return_complete :
  (∃ (s : State), AsleepUnwoken s) ∧
  (∃ (u : Fin 4) (s : State), AsleepUnwoken s ∧ s.phase = .dusk ∧ s.rd (UPS.STS.SUSP u) = 1) ∧
  (∃ (n : Fin 48) (s : State), AsleepUnwoken s ∧ s.phase = .dusk ∧ s.owner n ≤ 4) ∧
  (∃ (s : State), AsleepUnwoken s ∧ s.phase = .dusk) ∧
  (∃ (i : Fin 512) (s : State), AsleepUnwoken s ∧ s.rd (ICU.SRC_CFG.EN i) = 1 ∧ s.rd (ICU.SRC_CFG.NWW i) = 1 ∧
      (s.phase = .eclipse → 64 ≤ i.val ∧ i.val < 352 ∧ (i.val - 64) % 6 = 3)) ∧
  (∃ (adr : BitVec 7) (s : State), AsleepUnwoken s ∧ s.rd NW.CTL.I2CWAKE = 1 ∧ adr.toNat = 0x38 + s.rd
      SYS.STRAP.ADR) ∧
  (∃ (s : State), s.phase = .dusk ∧ s.sleep.woken = true) :=
  ⟨⟨{ wBase with phase := .eclipse }, by unfold AsleepUnwoken; decide +kernel⟩,
    ⟨1, ({ wBase with phase := .dusk }.wr (UPS.STS.SUSP 1) 1), by unfold AsleepUnwoken; decide +kernel⟩,
    ⟨30, ({ wBase with phase := .dusk }.wr (PRT.OWNER.OWN 30) 2), by unfold AsleepUnwoken; decide +kernel⟩,
    ⟨{ wBase with phase := .dusk }, by unfold AsleepUnwoken; decide +kernel⟩,
    ⟨67, (({ wBase with phase := .dusk }.wr (ICU.SRC_CFG.EN 67) 1).wr (ICU.SRC_CFG.NWW 67) 1),
      by unfold AsleepUnwoken; decide +kernel⟩,
    ⟨0x38, ({ wBase with phase := .dusk }.wr NW.CTL.I2CWAKE 1), by unfold AsleepUnwoken; decide +kernel⟩,
    ⟨{ wBase with phase := .dusk, sleep := ⟨false, false, 0, true⟩, duskDue := [(0xE020, 0)] }, by decide +kernel⟩⟩

/-- Some state and operands meet the hypotheses of each clause of MailboxCommandsComplete. -/
theorem test_meets_mailbox_commands_complete :
  (∃ (r : Requester) (m : Fin 8) (w : Word) (s : State), Accepts r (0x8000 + 0x20 * m) w.toNat s) ∧
  (∃ (r : Requester) (m : Fin 8) (w : Word) (s : State), Accepts r (0x8004 + 0x20 * m) (withBit w.toNat 0 true) s) ∧
  (∃ (r : Requester) (m : Fin 8) (w : Word) (s : State), Accepts r (0x8004 + 0x20 * m) (withBit w.toNat 0 false)
      s) ∧
  (∃ (r : Requester) (m : Fin 8) (s : State), s.canSend r = true ∧ s.readCode r (.word (0x801C + 0x20 * m) none)
      = 0) ∧
  (∃ (m : Fin 8) (s : State), (s.mb m).due = true ∧ ((s.mb m).taken = true ∨ selMeridian (s.rd (MBX.SEL.CODE m))
      = false)) ∧
  (∃ (m : Fin 8) (s : State), (s.mb m).running = true) ∧
  (∃ (m : Fin 8) (s : State), s.rd MBX.BULK.HELD = 1 ∧ s.rd MBX.BULK.HOLDER = m ∧ s.rd (MBX.CTRL.VALID m) = 1) :=
  ⟨⟨.spi, 4, 2, wBase, by unfold Accepts; decide +kernel⟩,
    ⟨.spi, 4, 2, (wBase.wr (MBX.SEL.CODE 4) 3), by unfold Accepts; decide +kernel⟩,
    ⟨.spi, 4, 0x700, (wBase.wr (MBX.SEL.CODE 4) 3), by unfold Accepts; decide +kernel⟩,
    ⟨.spi, 4, ((wBase.wr (MBX.SEL.CODE 4) 3).wr (MBX.CTRL.VALID 4) 1), by decide +kernel⟩,
    ⟨4, (wBase.modMb 4 (fun x => { x with due := true })), by decide +kernel⟩,
    ⟨4, (wBase.modMb 4 (fun x => { x with running := true })), by decide +kernel⟩,
    ⟨4, (((wBase.wr MBX.BULK.HELD 1).wr MBX.BULK.HOLDER 4).wr (MBX.CTRL.VALID 4) 1), by decide +kernel⟩⟩

/-- Some state and operands meet the hypotheses of each clause of WireFramesComplete. -/
theorem test_meets_wire_frames_complete :
  (∃ (s : State), (s.phase = .running ∨ s.phase = .dusk)) ∧
  (∃ (adr : BitVec 7) (s : State), (s.phase = .running ∨ s.phase = .dusk) ∧ adr.toNat = s.i2cAddr ∧ (s.phase =
      .running ∨ s.on NW.CTL.I2CWAKE = false)) ∧
  (∃ (onI2c : Bool) (cmd : Byte) (s : State), (s.phase = .running ∨ s.phase = .dusk) ∧ cmd ≠ 0xA1 ∧ cmd ≠ 0xA2 ∧
      cmd ≠ 0xA5 ∧ (onI2c = false ∨ s.phase = .running ∨ s.on NW.CTL.I2CWAKE = false)) ∧
  (∃ (a : Byte) (b : Byte) (c : Byte) (k : Nat) (s : State), (s.phase = .running ∨ s.phase = .dusk) ∧ s.rd
      SYS.TKCFG.SPICRC = 0 ∧ 5 ≤ k ∧ (a.toNat * 0x10000 + b.toNat * 0x100 + c.toNat) < 0x400000 ∧ (a.toNat *
      0x10000 + b.toNat * 0x100 + c.toNat) % 4 = 0 ∧ s.readCode .spi (.word (a.toNat * 0x10000 + b.toNat * 0x100
      + c.toNat) none) = 0) ∧
  (∃ (adr : BitVec 7) (a : Byte) (b : Byte) (c : Byte) (k : Nat) (s : State), (s.phase = .running ∨ s.phase =
      .dusk) ∧ adr.toNat = s.i2cAddr ∧ (s.phase = .running ∨ s.on NW.CTL.I2CWAKE = false) ∧ s.rd SYS.TKCFG.I2CCRC
      = 0 ∧ 5 ≤ k ∧ (a.toNat * 0x10000 + b.toNat * 0x100 + c.toNat) < 0x400000 ∧ (a.toNat * 0x10000 + b.toNat *
      0x100 + c.toNat) % 4 = 0 ∧ s.readCode .i2c (.word (a.toNat * 0x10000 + b.toNat * 0x100 + c.toNat) none) = 0) ∧
  (∃ (a : Byte) (b : Byte) (c : Byte) (w : Word) (s : State), (s.phase = .running ∨ s.phase = .dusk) ∧ s.rd
      SYS.TKCFG.SPICRC = 0 ∧ Accepts .spi (a.toNat * 0x10000 + b.toNat * 0x100 + c.toNat) w.toNat s ∧ (a.toNat *
      0x10000 + b.toNat * 0x100 + c.toNat) < 0x400000) ∧
  (∃ (adr : BitVec 7) (a : Byte) (b : Byte) (c : Byte) (w : Word) (s : State), (s.phase = .running ∨ s.phase =
      .dusk) ∧ adr.toNat = s.i2cAddr ∧ (s.phase = .running ∨ s.on NW.CTL.I2CWAKE = false) ∧ s.rd SYS.TKCFG.I2CCRC
      = 0 ∧ Accepts .i2c (a.toNat * 0x10000 + b.toNat * 0x100 + c.toNat) w.toNat s ∧ (a.toNat * 0x10000 + b.toNat
      * 0x100 + c.toNat) < 0x400000) ∧
  (∃ (onI2c : Bool) (a : Byte) (b : Byte) (c : Byte) (w : Word) (s : State), (s.phase = .running ∨ s.phase =
      .dusk) ∧ s.crcOn onI2c = false ∧ (onI2c = false ∨ s.phase = .running ∨ s.on NW.CTL.I2CWAKE = false) ∧
      Accepts (wire onI2c) (a.toNat * 0x10000 + b.toNat * 0x100 + c.toNat) w.toNat s ∧ (a.toNat * 0x10000 +
      b.toNat * 0x100 + c.toNat) < 0x3FFFFC) ∧
  (∃ (adr : BitVec 7) (s : State), (s.phase = .running ∨ s.phase = .dusk) ∧ adr.toNat = s.i2cAddr ∧ s.phase =
      .dusk ∧ s.on NW.CTL.I2CWAKE = true) :=
  ⟨⟨wBase, by decide +kernel⟩,
    ⟨0x38, wBase, by decide +kernel⟩,
    ⟨false, 7, wBase, by decide +kernel⟩,
    ⟨2, 0, 0x44, 7, wBase, by decide +kernel⟩,
    ⟨0x38, 2, 0, 0x44, 7, wBase, by decide +kernel⟩,
    ⟨2, 0, 0x44, 0x12345678, wBase, by unfold Accepts; decide +kernel⟩,
    ⟨0x38, 2, 0, 0x44, 0x12345678, wBase, by unfold Accepts; decide +kernel⟩,
    ⟨false, 2, 0, 0x44, 0x12345678, wBase, by unfold Accepts; decide +kernel⟩,
    ⟨0x38, ({ wBase with phase := .dusk }.wr NW.CTL.I2CWAKE 1), by decide +kernel⟩⟩

/-- Some state and operands meet the hypotheses of each clause of VendorRequestsComplete. -/
theorem test_meets_vendor_requests_complete :
  (∃ (u : Fin 5) (v : BitVec 16) (i : BitVec 16) (s : State), s.vendorSeen u = true ∧ s.canSend (vendorOf u) =
      true ∧ i.toNat < 256 ∧ vendorAddr v.toNat i.toNat < 0x400000 ∧ vendorAddr v.toNat i.toNat % 4 = 0 ∧
      (s.fresh.vendorSetup u).readCode (vendorOf u) (.word (vendorAddr v.toNat i.toNat) none) = 0) ∧
  (∃ (u : Fin 5) (v : BitVec 16) (i : BitVec 16) (w : Word) (s : State), s.vendorSeen u = true ∧ s.canSend
      (vendorOf u) = true ∧ i.toNat < 256 ∧ vendorAddr v.toNat i.toNat < 0x400000 ∧ vendorAddr v.toNat i.toNat %
      4 = 0 ∧ (s.fresh.vendorSetup u).writeCode (s.fresh.vendorSetup u) (vendorOf u) (.word (vendorAddr v.toNat
      i.toNat) none) w.toNat = 0) ∧
  (∃ (u : Fin 5) (v : BitVec 16) (i : BitVec 16) (s : State), s.vendorSeen u = true ∧ s.canSend (vendorOf u) =
      true ∧ i.toNat < 256 ∧ vendorAddr v.toNat i.toNat < 0x400000 ∧ vendorAddr v.toNat i.toNat % 4 = 0 ∧ v = 0 ∧
      i = 0) :=
  ⟨⟨1, 0xC404, 0, ((wBase.wr (UPS.STS.DEVSTATE 1) 4).wr (PRT.OWNER.OWN 0) 1), by decide +kernel⟩,
    ⟨1, 0x8020, 0, 2, ((wBase.wr (UPS.STS.DEVSTATE 1) 4).wr (PRT.OWNER.OWN 0) 1), by decide +kernel⟩,
    ⟨1, 0, 0, ((wBase.wr (UPS.STS.DEVSTATE 1) 4).wr (PRT.OWNER.OWN 0) 1), by decide +kernel⟩⟩

/-- Some state and operands meet the hypotheses of each clause of RegisterWritesComplete. -/
theorem test_meets_register_writes_complete :
  (∃ (r : Requester) (addr : BitVec 24) (w : Word) (s : State), Accepts r addr.toNat w.toNat s ∧ addr.toNat <
      0x400000) ∧
  (∃ (r : Requester) (addr : BitVec 24) (w : Word) (wa : Nat) (b : Nat) (s : State), Accepts r (0x400000 +
      addr.toNat % 0x400000) w.toNat s ∧ placeOf (0x400000 + addr.toNat % 0x400000) = .word wa (some b)) ∧
  (∃ (addr : BitVec 24) (w : Word) (f : Field) (lo : Fin 32) (s : State), (s.phase = .running ∨ s.phase = .dusk)
      ∧ trvField addr.toNat lo = some f ∧ s.copies.find? (fun e => e.1 == f.key) = none ∧ s.fixedAt.find? (fun e
      => e.1 == f.key) = none ∧ w.toNat % 2 ^ f.width ≠ s.rd f ∧ s.rd (FLT.FLTSEV.SEV .sys 1) ≠ 3) ∧
  (∃ (addr : BitVec 24) (f : Field) (lo : Fin 32) (s : State), trvField addr.toNat lo = some f ∧ s.copies.any
      (fun e => e.1 == f.key) = true) :=
  ⟨⟨.spi, 0x18, 1, wBase, by unfold Accepts; decide +kernel⟩,
    ⟨.spi, 0x300, 1, 0x18, 0, wBase, by unfold Accepts; decide +kernel⟩,
    ⟨0x18, 1, (SYS.LOCK.ALL), 0, wBase, by decide +kernel⟩,
    ⟨0x18, (SYS.LOCK.ALL), 0, { wBase with copies := [(SYS.LOCK.ALL.key, (0, 1, 0))] }, by decide +kernel⟩⟩

/-- Some state and operands meet the hypotheses of each clause of PdMessagesComplete. -/
theorem test_meets_pd_messages_complete :
  (∃ (n : Fin 48) (req : PdReq) (s : State), SourceReady n s ∧ s.runs 8 = true ∧ reqValid (s.port n).offer req =
      true ∧ (reqPower (s.port n).offer req ≤ s.kOf n ∨ s.heldBack n = false ∧ s.fits n (reqPower (s.port
      n).offer req - s.kOf n) = true)) ∧
  (∃ (n : Fin 48) (req : PdReq) (s : State), SourceReady n s ∧ s.runs 8 = true ∧ reqValid (s.port n).offer req =
      false) ∧
  (∃ (n : Fin 48) (s : State), SourceReady n s) ∧
  (∃ (n : Fin 48) (s : State), SourceReady n s ∧ s.rd (PRT.PDSTS.REV n) ≥ 2) ∧
  (∃ (n : Fin 48) (uv : Bool) (s : State), SourceReady n s ∧ (uv = false ∨ s.rd (PRT.PDSTS.REV n) ≠ 1)) :=
  ⟨⟨9, ⟨1, 50, 60⟩, ((wSource.modPort 9 (fun p => { p with offer := [(0, 300)] })).wr (PWR.PBOOK.COMMIT 9) 400),
      by unfold SourceReady PolicyUp; decide +kernel⟩,
    ⟨9, ⟨1, 50, 60⟩, wSource, by unfold SourceReady PolicyUp; decide +kernel⟩,
    ⟨9, wSource, by unfold SourceReady PolicyUp; decide +kernel⟩,
    ⟨9, wSource, by unfold SourceReady PolicyUp; decide +kernel⟩,
    ⟨9, false, wSource, by unfold SourceReady PolicyUp; decide +kernel⟩⟩

/-- Some state and operands meet the hypotheses of each clause of VconnAndCableComplete. -/
theorem test_meets_vconn_and_cable_complete :
  (∃ (n : Fin 48) (s : State), SourceReady n s ∧ s.rd (PRT.PDSTS.VCSRC n) = 1) ∧
  (∃ (n : Fin 48) (s : State), SourceReady n s ∧ s.rd (PRT.PDSTS.VCSRC n) = 0 ∧ s.mayVconn n = true) ∧
  (∃ (n : Fin 48) (s : State), SourceReady n s ∧ s.rd (PRT.PDSTS.VCSRC n) = 1 ∧ (s.port n).swap = .sent) ∧
  (∃ (n : Fin 48) (s : State), SourceReady n s ∧ s.rd (PRT.PDSTS.VCSRC n) = 0 ∧ (s.port n).swap = .sent) ∧
  (∃ (n : Fin 48) (s : State), SourceReady n s ∧ (s.port n).swap = .leaving) ∧
  (∃ (n : Fin 48) (s : State), SourceReady n s ∧ (s.port n).discovering = true) ∧
  (∃ (n : Fin 48) (s : State), PolicyUp n s ∧ (s.port n).discovering = true) ∧
  (∃ (n : Fin 48) (s : State), s.rd (PRT.VCONN.ON n) = 1) :=
  ⟨⟨9, (wSource.wr (PRT.PDSTS.VCSRC 9) 1), by unfold SourceReady PolicyUp; decide +kernel⟩,
    ⟨9, ((wSource.wr (PRT.VCONN.ALLOW 9) 1).wr (SEC.STS.VCONNOK 0) 1), by unfold SourceReady PolicyUp; decide +kernel⟩,
    ⟨9, ((wSource.modPort 9 (fun p => { p with swap := .sent })).wr (PRT.PDSTS.VCSRC 9) 1),
      by unfold SourceReady PolicyUp; decide +kernel⟩,
    ⟨9, (wSource.modPort 9 (fun p => { p with swap := .sent })), by unfold SourceReady PolicyUp; decide +kernel⟩,
    ⟨9, ((wSource.modPort 9 (fun p => { p with swap := .leaving })).wr (PRT.VCONN.ON 9) 1),
      by unfold SourceReady PolicyUp; decide +kernel⟩,
    ⟨9, (wSource.modPort 9 (fun p => { p with discovering := true })), by unfold SourceReady PolicyUp; decide +kernel⟩,
    ⟨9, (wSource.modPort 9 (fun p => { p with discovering := true })), by unfold PolicyUp; decide +kernel⟩,
    ⟨9, (wSource.wr (PRT.VCONN.ON 9) 1), by decide +kernel⟩⟩

/-- Some state and operands meet the hypotheses of each clause of StructuredVdmsComplete. -/
theorem test_meets_structured_vdms_complete :
  (∃ (n : Fin 48) (s : State), SourceReady n s ∧ s.vdmOk n = true) ∧
  (∃ (n : Fin 48) (svid : BitVec 16) (s : State), SourceReady n s ∧ s.vdmOk n = true ∧ svid.toNat = s.consvid ∧
      s.consvid ≠ 0 ∧ s.rd (PRT.ALTMUX.ALLOW n) = 1 ∧ (∀ m ∈ quadPorts (quadOf n), s.rd (PRT.ALTMUX.ACTIVE m) =
      0)) ∧
  (∃ (n : Fin 48) (svid : BitVec 16) (s : State), SourceReady n s ∧ s.vdmOk n = true ∧ svid.toNat ≠ s.consvid) ∧
  (∃ (n : Fin 48) (svid : BitVec 16) (s : State), SourceReady n s ∧ s.vdmOk n = true ∧ svid.toNat = s.consvid ∧
      s.consvid ≠ 0 ∧ s.rd (PRT.ALTMUX.ACTIVE n) = 1) :=
  ⟨⟨9, wContract, by unfold SourceReady PolicyUp; decide +kernel⟩,
    ⟨9, 0x1234, (wContract.wr (PRT.ALTMUX.ALLOW 9) 1), by unfold SourceReady PolicyUp; decide +kernel⟩,
    ⟨9, 0x77, wContract, by unfold SourceReady PolicyUp; decide +kernel⟩,
    ⟨9, 0x1234, (wContract.wr (PRT.ALTMUX.ACTIVE 9) 1), by unfold SourceReady PolicyUp; decide +kernel⟩⟩

/-- Some state and operands meet the hypotheses of each clause of PdTimersComplete. -/
theorem test_meets_pd_timers_complete :
  (∃ (n : Fin 48) (r : PdReq) (s : State), PolicyUp n s ∧ (s.port n).transRun = true ∧ (s.port n).accepted = some
      r) ∧
  (∃ (n : Fin 48) (r : PdReq) (s : State), PolicyUp n s ∧ (s.port n).accepted = some r ∧ (s.port n).transRun =
      false ∧ (s.port n).ramp = false ∧ (s.port n).inWindow = true ∧ s.rd (PRT.FUSSTS.PG n) = 1 ∧ s.tc n = 6) ∧
  (∃ (n : Fin 48) (s : State), PolicyUp n s ∧ (s.port n).capsDue = true ∧ s.rd (PRT.FUSSTS.PG n) = 1 ∧ s.rd
      (PRT.PDCTL.PDEN n) = 1 ∧ s.tc n = 6 ∧ (s.port n).capsCount < 50) ∧
  (∃ (n : Fin 48) (s : State), PolicyUp n s ∧ (s.port n).awaitReq = true ∧ s.rd (PRT.PDSTS.EXPLICIT n) = 1 ∧ s.tc
      n = 6 ∧ (s.port n).hr = .none) ∧
  (∃ (n : Fin 48) (s : State), PolicyUp n s ∧ s.rd (PRT.PDSTS.EXPLICIT n) = 1 ∧ s.tc n = 6 ∧ (s.port n).hr =
      .none) ∧
  (∃ (n : Fin 48) (s : State), PolicyUp n s ∧ (s.port n).hr = .waitPs) ∧
  (∃ (n : Fin 48) (s : State), PolicyUp n s ∧ (s.port n).hr = .recover) ∧
  (∃ (n : Fin 48) (s : State), PolicyUp n s ∧ (s.port n).sinkTx = true ∧ (s.port n).inSequence = false ∧ s.tc n =
      6 ∧ (s.port n).ams = [.alert]) ∧
  (∃ (n : Fin 48) (s : State), PolicyUp n s ∧ (s.port n).ask = true ∧ s.mayPower n = true ∧ s.tc n = 3 ∧ s.runs 8
      = true ∧ s.rd (PWR.PALLOW.WAIT n) = 0 ∧ s.heldBack n = false ∧ s.fits n (s.v5Amount n - s.kOf n) = true) ∧
  (∃ (n : Fin 48) (s : State), PolicyUp n s ∧ (s.port n).ask = true ∧ s.mayPower n = true ∧ s.tc n = 3 ∧ s.runs 8
      = true ∧ s.rd (PWR.PALLOW.WAIT n) = 0 ∧ s.fits n (s.v5Amount n - s.kOf n) = false) :=
  ⟨⟨9, ⟨2, 50, 60⟩, (wSource.modPort 9
      (fun p => { p with accepted := some ⟨2, 50, 60⟩, transRun := true, offer := [(0, 300), (2, 200)] })),
      by unfold PolicyUp; decide +kernel⟩,
    ⟨9, ⟨2, 50, 60⟩, ((wSource.modPort 9
      (fun p => { p with accepted := some ⟨2, 50, 60⟩, target := 2, offer := [(0, 300), (2, 200)] })).wr
      (PRT.FUSSTS.PG 9) 1), by unfold PolicyUp; decide +kernel⟩,
    ⟨9, ((wSource.modPort 9 (fun p => { p with capsDue := true })).wr (PRT.FUSSTS.PG 9) 1),
      by unfold PolicyUp; decide +kernel⟩,
    ⟨9, (wSource.modPort 9 (fun p => { p with awaitReq := true })), by unfold PolicyUp; decide +kernel⟩,
    ⟨9, wSource, by unfold PolicyUp; decide +kernel⟩,
    ⟨9, (wSource.modPort 9 (fun p => { p with hr := .waitPs, vbus := true })), by unfold PolicyUp; decide +kernel⟩,
    ⟨9, (wSource.modPort 9 (fun p => { p with hr := .recover })), by unfold PolicyUp; decide +kernel⟩,
    ⟨9, (wSource.modPort 9 (fun p => { p with sinkTx := true, ams := [.alert] })), by unfold PolicyUp; decide +kernel⟩,
    ⟨9, ((((wSource.modPort 9 (fun p => { p with ask := true, demand := true })).wr
      (PRT.TCSTS.TCSTATE 9) 3).wr PWR.POOL.POOL 10000).wr (PWR.QCAP.CAP 2) 5000), by unfold PolicyUp; decide +kernel⟩,
    ⟨9, (((wSource.modPort 9 (fun p => { p with ask := true, demand := true })).wr
      (PRT.TCSTS.TCSTATE 9) 3).wr PWR.POOL.POOL 0), by unfold PolicyUp; decide +kernel⟩⟩

/-- Some state and operands meet the hypotheses of each clause of PdWritesComplete. -/
theorem test_meets_pd_writes_complete :
  (∃ (r : Requester) (n : Fin 48) (w : Word) (s : State), s.phase = .running ∧ Accepts r (0x10024 + 0x400 * n)
      (withBit w.toNat 16 true) s ∧ OnlyPulses (0x10024 + 0x400 * n) (withBit w.toNat 16 true) s) ∧
  (∃ (r : Requester) (n : Fin 48) (w : Word) (s : State), s.phase = .running ∧ Accepts r (0x10024 + 0x400 * n)
      (withBit w.toNat 17 true) s ∧ OnlyPulses (0x10024 + 0x400 * n) (withBit w.toNat 17 true) s ∧ PolicyUp n s ∧
      s.tc n = 6 ∧ (s.port n).hr = .none) ∧
  (∃ (r : Requester) (n : Fin 48) (w : Word) (s : State), s.phase = .running ∧ Accepts r (0x10024 + 0x400 * n)
      (withBit w.toNat 18 true) s ∧ OnlyPulses (0x10024 + 0x400 * n) (withBit w.toNat 18 true) s) ∧
  (∃ (r : Requester) (n : Fin 48) (w : Word) (s : State), s.phase = .running ∧ Accepts r (0x10024 + 0x400 * n)
      (withBit w.toNat 19 true) s ∧ OnlyPulses (0x10024 + 0x400 * n) (withBit w.toNat 19 true) s) ∧
  (∃ (r : Requester) (n : Fin 48) (w : Word) (s : State), s.phase = .running ∧ Accepts r (0x10024 + 0x400 * n)
      w.toNat s) ∧
  (∃ (r : Requester) (n : Fin 48) (w : Word) (s : State), s.phase = .running ∧ Accepts r (0x1002C + 0x400 * n)
      (withBit w.toNat 1 true) s ∧ s.rd (PRT.ALTMUX.ACTIVE n) = 1) ∧
  (∃ (r : Requester) (n : Fin 48) (w : Word) (s : State), s.phase = .running ∧ Accepts r (0x10040 + 0x400 * n)
      (withBit w.toNat 29 true) s ∧ OnlyPulses (0x10040 + 0x400 * n) (withBit w.toNat 29 true) s ∧ s.rd
      (PRT.FUSSTS.TRIPS n) ≠ 0) ∧
  (∃ (r : Requester) (q : Fin 12) (w : Word) (s : State), s.phase = .running ∧ Accepts r (0xE020 + 0x200 * q)
      w.toNat s) :=
  ⟨⟨.spi, 9, 0x12CB,
      { (wPresent.wr (PRT.TCSTS.TCSTATE 9) 6).wr (PRT.PDCTL.PDEN 9) 1 |>.wr (PRT.PDSTS.EXPLICIT 9) 1 with safe := false },
      by unfold Accepts OnlyPulses; decide +kernel⟩,
    ⟨.spi, 9, 0x12CB,
      { (wPresent.wr (PRT.TCSTS.TCSTATE 9) 6).wr (PRT.PDCTL.PDEN 9) 1 |>.wr (PRT.PDSTS.EXPLICIT 9) 1 with safe := false },
      by unfold Accepts PolicyUp OnlyPulses; decide +kernel⟩,
    ⟨.spi, 9, 0x12CB,
      { (wPresent.wr (PRT.TCSTS.TCSTATE 9) 6).wr (PRT.PDCTL.PDEN 9) 1 |>.wr (PRT.PDSTS.EXPLICIT 9) 1 with safe := false },
      by unfold Accepts OnlyPulses; decide +kernel⟩,
    ⟨.spi, 9, 0x12CB,
      { (wPresent.wr (PRT.TCSTS.TCSTATE 9) 6).wr (PRT.PDCTL.PDEN 9) 1 |>.wr (PRT.PDSTS.EXPLICIT 9) 1 with safe := false },
      by unfold Accepts OnlyPulses; decide +kernel⟩,
    ⟨.spi, 9, 0x12C3,
      { (wPresent.wr (PRT.TCSTS.TCSTATE 9) 6).wr (PRT.PDCTL.PDEN 9) 1 |>.wr (PRT.PDSTS.EXPLICIT 9) 1 with safe := false },
      by unfold Accepts; decide +kernel⟩,
    ⟨.spi, 9, 0x0, (wPresent.wr (PRT.ALTMUX.ACTIVE 9) 1), by unfold Accepts; decide +kernel⟩,
    ⟨.spi, 9, 152670593, (wPresent.wr (PRT.FUSSTS.TRIPS 9) 2), by unfold Accepts OnlyPulses; decide +kernel⟩,
    ⟨.spi, 2, 351,
      { (wPresent.wr (PRT.TCSTS.TCSTATE 9) 6).wr (PRT.PDCTL.PDEN 9) 1 |>.wr (PRT.PDSTS.EXPLICIT 9) 1 with safe := false },
      by unfold Accepts; decide +kernel⟩⟩

/-- Some state and operands meet the hypotheses of each clause of QuadAndBudgetEventsComplete. -/
theorem test_meets_quad_and_budget_events_complete :
  (∃ (q : Fin 12) (s : State), (s.phase = .running ∨ s.phase = .dusk) ∧ s.rd (QD.STS.WARN q) = 0) ∧
  (∃ (q : Fin 12) (s : State), (s.phase = .running ∨ s.phase = .dusk) ∧ s.rd (QD.STS.WARN q) = 1) ∧
  (∃ (q : Fin 12) (s : State), (s.phase = .running ∨ s.phase = .dusk) ∧ s.rd (QD.STS.FAIL q) = 0) ∧
  (∃ (q : Fin 12) (s : State), (s.phase = .running ∨ s.phase = .dusk) ∧ s.rd (QD.STS.FAIL q) = 1) ∧
  (∃ (s : State), s.shedDue = true ∧ s.runs 8 = true) ∧
  (∃ (q : Fin 12) (s : State), s.phase = .running ∧ (s.quad q).failNew = true) ∧
  (∃ (n : Fin 48) (s : State), (s.port n).readvRun = true ∧ (s.port n).readvDue = false) ∧
  (∃ (s : State), s.runs 8 = true) ∧
  (∃ (q : Fin 12) (s : State), s.phase = .running ∧ 80 ≤ (s.quad q).overM) :=
  ⟨⟨2, wBase, by decide +kernel⟩,
    ⟨2, (wBase.wr (QD.STS.WARN 2) 1), by decide +kernel⟩,
    ⟨2, wBase, by decide +kernel⟩,
    ⟨2, ((wBase.modQuad 2 (fun x => { x with failTrig := true })).wr (QD.STS.FAIL 2) 1), by decide +kernel⟩,
    ⟨{ wBase with shedDue := true }, by decide +kernel⟩,
    ⟨2, (wBase.modQuad 2 (fun x => { x with failNew := true })), by decide +kernel⟩,
    ⟨9, (wBase.modPort 9 (fun p => { p with readvRun := true })), by decide +kernel⟩,
    ⟨(wBase.wr (PWR.PBOOK.COMMIT 9) 700), by decide +kernel⟩,
    ⟨2, (wBase.modQuad 2 (fun x => { x with overM := 80 })), by decide +kernel⟩⟩

/-- Some state and operands meet the hypotheses of each clause of BudgetWritesComplete. -/
theorem test_meets_budget_writes_complete :
  (∃ (r : Requester) (w : Word) (s : State), s.phase = .running ∧ Accepts r 0x9004 w.toNat s) ∧
  (∃ (r : Requester) (q : Fin 12) (w : Word) (s : State), s.phase = .running ∧ Accepts r (0x9040 + 4 * q) w.toNat
      s) ∧
  (∃ (r : Requester) (n : Fin 48) (w : Word) (s : State), s.phase = .running ∧ Accepts r (0x9200 + 4 * n) w.toNat
      s) :=
  ⟨⟨.spi, 5000, wPresent, by unfold Accepts; decide +kernel⟩,
    ⟨.spi, 2, 5000, wPresent, by unfold Accepts; decide +kernel⟩,
    ⟨.spi, 9, 327680000, wPresent, by unfold Accepts; decide +kernel⟩⟩

/-- Some state and operands meet the hypotheses of each clause of InterruptCommandsComplete. -/
theorem test_meets_interrupt_commands_complete :
  (∃ (tg : Fin 13) (s : State), s.phase = .running ∧ s.rd (ICU.TSTAT.HELD tg) ≠ 0 ∧ (KMap.get none s.icuTimer
      tg).isSome = true ∧ s.rd (ICU.TSTAT.LINE tg) = 0 ∧ s.rd (ICU.TSTAT.ORDERR tg) = 0) ∧
  (∃ (r : Requester) (tg : Fin 13) (i : Fin 512) (s : State), s.phase = .running ∧ s.canSend r = true ∧
      s.readCode r (.word (0x5000 + 0x40 * tg) none) = 0 ∧ s.rd (ICU.TSTAT.INSVC tg) = 0x3FF ∧ s.lowest tg = some
      i.val) ∧
  (∃ (r : Requester) (tg : Fin 13) (i : Fin 512) (w : Word) (s : State), s.phase = .running ∧ Accepts r (0x5004 +
      0x40 * tg) w.toNat s ∧ inWord w.toNat (ICU.DONE.SRC tg) = i ∧ s.rd (ICU.TSTAT.INSVC tg) = i) ∧
  (∃ (r : Requester) (tg : Fin 13) (w : Word) (s : State), s.phase = .running ∧ Accepts r (0x5008 + 0x40 * tg)
      (withBit w.toNat 8 true) s) ∧
  (∃ (r : Requester) (i : Fin 512) (w : Word) (s : State), s.phase = .running ∧ Accepts r (0x4004 + 8 * i)
      (withBit w.toNat 4 true) s ∧ srcExists i = true) ∧
  (∃ (r : Requester) (w : Word) (s : State), s.phase = .running ∧ Accepts r 0x5800 (withBit w.toNat 0 true) s ∧
      s.rd (ICU.SRC_STS.INSVC 511) = 0 ∧ s.rd (ICU.SRC_STS.PEND 511) = 0) ∧
  (∃ (r : Requester) (i : Fin 512) (w : Word) (s : State), s.phase = .running ∧ Accepts r (0x4000 + 8 * i)
      w.toNat s) ∧
  (∃ (r : Requester) (tg : Fin 13) (w : Word) (s : State), s.phase = .running ∧ Accepts r (0x5008 + 0x40 * tg)
      w.toNat s) :=
  ⟨⟨5, { (wBase.wr (ICU.TSTAT.HELD 5) 2) with icuTimer := [(5, some 0)] }, by decide +kernel⟩,
    ⟨.spi, 5, 66, (((wPresent.wr (ICU.SRC_STS.PEND 66) 1).wr (ICU.SRC_CFG.EN 66) 1).wr (ICU.SRC_CFG.TGT 66) 5),
      by decide +kernel⟩,
    ⟨.spi, 5, 66, 66, ((wBase.wr (ICU.TSTAT.INSVC 5) 66).wr (ICU.SRC_STS.INSVC 66) 1), by unfold Accepts; decide +kernel⟩,
    ⟨.spi, 5, 0x20010008, ((wBase.wr (ICU.TSTAT.INSVC 5) 66).wr (ICU.TSTAT.ORDERR 5) 1),
      by unfold Accepts; decide +kernel⟩,
    ⟨.spi, 66, 0, (wBase.wr (ICU.SRC_STS.PEND 66) 1), by unfold Accepts; decide +kernel⟩,
    ⟨.spi, 0, wBase, by unfold Accepts; decide +kernel⟩,
    ⟨.spi, 66, 1, wBase, by unfold Accepts; decide +kernel⟩,
    ⟨.spi, 5, 0x20010008, wBase, by unfold Accepts; decide +kernel⟩⟩

/-- Some state and operands meet the hypotheses of each clause of FaultTimersComplete. -/
theorem test_meets_fault_timers_complete :
  (∃ (b : Fin 74) (s : State), s.phase = .running ∧ s.rd (FLT.FLTTIMERS.STATE (FBlk.ofIdx b)) = 1 ∧ (s.flt
      (FBlk.ofIdx b)).action = false ∧ b.val ≠ 71) ∧
  (∃ (r : Requester) (b : Fin 74) (w : Word) (s : State), s.phase = .running ∧ Accepts r ((FBlk.ofIdx b).base +
      12) (withBit w.toNat 0 true) s ∧ s.rd (FLT.FLTTIMERS.STATE (FBlk.ofIdx b)) = 1) ∧
  (∃ (b : Fin 74) (pass : Bool) (s : State), s.phase = .running ∧ s.rd (FLT.FLTTIMERS.STATE (FBlk.ofIdx b)) = 2 ∧
      s.testPasses (FBlk.ofIdx b) pass = true ∧ (b.val < 68 ∨ b.val = 71)) ∧
  (∃ (b : Fin 74) (pass : Bool) (s : State), s.phase = .running ∧ s.rd (FLT.FLTTIMERS.STATE (FBlk.ofIdx b)) = 2 ∧
      s.testPasses (FBlk.ofIdx b) pass = true ∧ (¬ (b.val < 68 ∨ b.val = 71))) ∧
  (∃ (b : Fin 74) (pass : Bool) (s : State), s.phase = .running ∧ s.rd (FLT.FLTTIMERS.STATE (FBlk.ofIdx b)) = 2 ∧
      s.testPasses (FBlk.ofIdx b) pass = false) ∧
  (∃ (r : Requester) (b : Fin 74) (w : Word) (pass : Bool) (s : State), s.phase = .running ∧ Accepts r
      ((FBlk.ofIdx b).base + 12) (withBit w.toNat 1 true) s ∧ s.rd (FLT.FLTTIMERS.STATE (FBlk.ofIdx b)) = 4 ∧
      s.testPasses (FBlk.ofIdx b) pass = true ∧ (b.val < 68 ∨ b.val = 71)) ∧
  (∃ (b : Fin 74) (s : State), s.phase = .running ∧ s.rd (FLT.RECOV.WINDOW (FBlk.ofIdx b)) ≠ 0) :=
  ⟨⟨9, (wBase.wr (FLT.FLTTIMERS.STATE (.prt 9)) 1), by decide +kernel⟩,
    ⟨.spi, 9, 0, (wPresent.wr (FLT.FLTTIMERS.STATE (.prt 9)) 1), by unfold Accepts; decide +kernel⟩,
    ⟨9, true, (wBase.wr (FLT.FLTTIMERS.STATE (.prt 9)) 2), by decide +kernel⟩,
    ⟨69, true, (wBase.wr (FLT.FLTTIMERS.STATE .swx) 2), by decide +kernel⟩,
    ⟨9, false, (wBase.wr (FLT.FLTTIMERS.STATE (.prt 9)) 2), by decide +kernel⟩,
    ⟨.spi, 9, 0, true, ((wPresent.wr (FLT.FLTTIMERS.STATE (.prt 9)) 4).wr (FLT.RECOV.LATCHED (.prt 9)) 1),
      by unfold Accepts; decide +kernel⟩,
    ⟨9, (wBase.wr (FLT.RECOV.WINDOW (.prt 9)) 2), by decide +kernel⟩⟩

/-- Some state and operands meet the hypotheses of each clause of FaultConditionsComplete. -/
theorem test_meets_fault_conditions_complete :
  (∃ (n : Fin 48) (s : State), s.phase = .running ∧ (s.port n).gate = true ∧ 100 ≤ (s.port n).trimAtLimit) ∧
  (∃ (u : Fin 4) (s : State), s.phase = .running ∧ s.rd (UPS.STS.DEVSTATE u) ≠ 0) ∧
  (∃ (s : State), s.phase = .running) ∧
  (∃ (i : Fin 4) (s : State), (s.sec i).dieUp = true) ∧
  (∃ (e : Fin 11) (s : State), s.phase = .running ∧ s.safe = false ∧ s.runs e = true ∧ s.missed.find? (fun m =>
      m.1 == e.val) = none) ∧
  (∃ (s : State), s.faultWidth = true ∧ s.rd SYS.FAULTPIN.FORCE = 0) :=
  ⟨⟨9, (wBase.modPort 9 (fun p => { p with gate := true, trimAtLimit := 100 })), by decide +kernel⟩,
    ⟨1, (wBase.wr (UPS.STS.DEVSTATE 1) 4), by decide +kernel⟩,
    ⟨wBase, by decide +kernel⟩,
    ⟨2, ((wBase.modSec 2 (fun x => { x with dieUp := true })).modPort 25 (fun p => { p with gate := true })),
      by decide +kernel⟩,
    ⟨6, wBase, by decide +kernel⟩,
    ⟨({ wBase with faultWidth := true }.wr SYS.FAULTPIN.PIN 1), by decide +kernel⟩⟩

/-- Some state and operands meet the hypotheses of each clause of TtCommandsComplete. -/
theorem test_meets_tt_commands_complete :
  (∃ (u : Fin 4) (j : Byte) (w : BitVec 16) (n : Fin 48) (s : State), HubPortOf u j.toNat n s ∧ s.rd
      (UPS.STS.ALTSET u) = 1 ∧ (bitsOf w.toNat 11 2 = 0 ∨ bitsOf w.toNat 11 2 = 2)) ∧
  (∃ (u : Fin 4) (j : Byte) (n : Fin 48) (s : State), HubPortOf u j.toNat n s ∧ s.rd (UPS.STS.ALTSET u) = 1) ∧
  (∃ (u : Fin 4) (j : Byte) (n : Fin 48) (s : State), HubPortOf u j.toNat n s ∧ (s.port n).busBusy = false) ∧
  (∃ (u : Fin 4) (j : Byte) (n : Fin 48) (s : State), HubPortOf u j.toNat n s ∧ (s.port n).busBusy = true) ∧
  (∃ (r : Requester) (x : Word) (n : Fin 48) (s : State), s.phase = .running ∧ Accepts r (0x10060 + 0x400 * n)
      (withBit x.toNat 2 true) s) ∧
  (∃ (r : Requester) (x : Word) (n : Fin 48) (s : State), s.phase = .running ∧ Accepts r (0x10060 + 0x400 * n)
      (withBit x.toNat 1 true) s) ∧
  (∃ (r : Requester) (x : Word) (n : Fin 48) (s : State), s.phase = .running ∧ s.rd (PRT.QCFG.ALMEN n) = 1 ∧
      inWord x.toNat (PRT.QCFG.ALMEN n) = 0 ∧ Accepts r (0x10060 + 0x400 * n) x.toNat s) :=
  ⟨⟨1, 1, 0x51, 0, (((((((wBase.wr (UPS.STS.DEVSTATE 1) 4).wr (UPS.STS.HS 1) 1).wr (UPS.PART0.P00_P31 1) 1).wr
      (PRT.OWNER.OWN 0) 1).wr (PRT.HUBSTS.STATE 0) 5).wr (UPS.STS.ALTSET 1) 1).modPort 0
      (fun p => { p with np := [⟨⟨5, 1, false⟩, none, false, 0, [1, 2], .queued, false⟩] })),
      by unfold HubPortOf; decide +kernel⟩,
    ⟨1, 1, 0, (((((((wBase.wr (UPS.STS.DEVSTATE 1) 4).wr (UPS.STS.HS 1) 1).wr (UPS.PART0.P00_P31 1) 1).wr
      (PRT.OWNER.OWN 0) 1).wr (PRT.HUBSTS.STATE 0) 5).wr (UPS.STS.ALTSET 1) 1).modPort 0
      (fun p => { p with np := [⟨⟨5, 1, false⟩, none, false, 0, [1, 2], .queued, false⟩,⟨⟨5, 1, false⟩, none, false, 0, [1, 2], .wire, false⟩], holds := [(5, 3)] })),
      by unfold HubPortOf; decide +kernel⟩,
    ⟨1, 1, 0, (((((wBase.wr (UPS.STS.DEVSTATE 1) 4).wr (UPS.STS.HS 1) 1).wr (UPS.PART0.P00_P31 1) 1).wr
      (PRT.OWNER.OWN 0) 1).wr (PRT.HUBSTS.STATE 0) 5), by unfold HubPortOf; decide +kernel⟩,
    ⟨1, 1, 0, ((((((wBase.wr (UPS.STS.DEVSTATE 1) 4).wr (UPS.STS.HS 1) 1).wr (UPS.PART0.P00_P31 1) 1).wr
      (PRT.OWNER.OWN 0) 1).wr (PRT.HUBSTS.STATE 0) 5).modPort 0
      (fun p => { p with np := [⟨⟨5, 1, false⟩, none, false, 0, [1, 2], .wire, false⟩] })),
      by unfold HubPortOf; decide +kernel⟩,
    ⟨.spi, 0, 0, (wPresent.modPort 0
      (fun p => { p with np := [⟨⟨5, 1, false⟩, none, false, 0, [1, 2], .queued, false⟩] })),
      by unfold Accepts; decide +kernel⟩,
    ⟨.spi, 0, 0, (wPresent.modPort 0 (fun p => { p with alm := [(3, { AlmEntry.free with st := 2 })] })),
      by unfold Accepts; decide +kernel⟩,
    ⟨.spi, 0, 0, (wPresent.modPort 0 (fun p => { p with alm := [(3, { AlmEntry.free with st := 2 })] })),
      by unfold Accepts; decide +kernel⟩⟩

/-- Some state and operands meet the hypotheses of each clause of FramesAndAlmanacComplete. -/
theorem test_meets_frames_and_almanac_complete :
  (∃ (u : Fin 4) (s : State), s.phase = .running ∧ 2 ≤ s.rd (UPS.STS.DEVSTATE u) ∧ s.rd (UPS.STS.HS u) = 1 ∧ s.rd
      (UPS.STS.SUSP u) = 0) ∧
  (∃ (n : Fin 48) (s : State), s.ttRuns n = true ∧ (s.port n).sofOn = true ∧ (s.port n).frameM < 16384) ∧
  (∃ (n : Fin 48) (k : Fin 16) (s : State), (s.almE n k).st = 1 ∧ heldData (s.almE n k).held = false) ∧
  (∃ (n : Fin 48) (k : Fin 16) (bt : Nat) (s : State), s.ttRuns n = true ∧ (s.port n).sofOn = true ∧ s.mtrBlock n
      = 0 ∧ (s.port n).busBusy = false ∧ (s.port n).per.any (s.port n).ready = false ∧ s.inRoom n (s.almE n
      k).mps false = true ∧ s.mayPrefetch n k bt = true ∧ (∀ i ∈ List.range 16, s.mayPrefetch n i bt = true →
      s.goesFirst n k i = true)) ∧
  (∃ (n : Fin 48) (k : Fin 16) (mode : Nat) (s : State), (s.almE n k).pfWire = some mode ∧ (s.almE n k).polled =
      false ∧ (s.almE n k).wd = false) ∧
  (∃ (n : Fin 48) (k : Fin 16) (s : State), ((s.almE n k).held = some .nak ∨ (s.almE n k).held = some .stall) ∧
      (s.almE n k).pfFor.all (fun x => reached (s.port n).frameM x && (s.port n).frameM != x) = true) ∧
  (∃ (n : Fin 48) (adr : BitVec 7) (s : State), (s.port n).holds.any (fun x => x.1 == adr.toNat && reached
      (s.port n).frameM x.2 && decide (256 ≤ mDiff (s.port n).frameM x.2)) = true) ∧
  (∃ (n : Fin 48) (k : Fin 16) (s : State), (s.almE n k).rearm.any (reached (s.port n).frameM) = true ∧ 2 ≤
      (s.almE n k).st ∧ s.armable n (s.almE n k) = true ∧ (s.almE n k).miss < s.rd (PRT.MTRCFG.MISSLIM n)) :=
  ⟨⟨1, (((((wBase.wr (UPS.STS.DEVSTATE 1) 4).wr (UPS.STS.HS 1) 1).wr (UPS.PART0.P00_P31 1) 1).wr (PRT.OWNER.OWN 0) 1).wr
      (PRT.HUBSTS.STATE 0) 5), by decide +kernel⟩,
    ⟨0, ((((((wBase.wr (UPS.STS.DEVSTATE 1) 4).wr (UPS.STS.HS 1) 1).wr (UPS.PART0.P00_P31 1) 1).wr (PRT.OWNER.OWN 0) 1).wr
      (PRT.HUBSTS.STATE 0) 5).modPort 0 (fun p => { p with sofOn := true, frameM := 83 })), by decide +kernel⟩,
    ⟨0, 3, ((((((wBase.wr (UPS.STS.DEVSTATE 1) 4).wr (UPS.STS.HS 1) 1).wr (UPS.PART0.P00_P31 1) 1).wr
      (PRT.OWNER.OWN 0) 1).wr (PRT.HUBSTS.STATE 0) 5).modPort 0
      (fun p => { p with alm := [(3, { AlmEntry.free with st := 1 })] })), by decide +kernel⟩,
    ⟨0, 3, 100, (((((((wBase.wr (UPS.STS.DEVSTATE 1) 4).wr (UPS.STS.HS 1) 1).wr (UPS.PART0.P00_P31 1) 1).wr
      (PRT.OWNER.OWN 0) 1).wr (PRT.HUBSTS.STATE 0) 5).modPort 0
      (fun p => { p with sofOn := true, frameM := 80, alm := [(3, { AlmEntry.free with st := 3, key := ⟨5, 1, true⟩, per := 8, phase := 1, mps := 8, armed := true })] })).wr
      (PRT.MTRCFG.MODE 0) 2), by decide +kernel⟩,
    ⟨0, 3, 2, ((((((wBase.wr (UPS.STS.DEVSTATE 1) 4).wr (UPS.STS.HS 1) 1).wr (UPS.PART0.P00_P31 1) 1).wr
      (PRT.OWNER.OWN 0) 1).wr (PRT.HUBSTS.STATE 0) 5).modPort 0
      (fun p => { p with alm := [(3, { AlmEntry.free with st := 3, key := ⟨5, 1, true⟩, mps := 8, pfWire := some 2 })] })),
      by decide +kernel⟩,
    ⟨0, 3, ((((((wBase.wr (UPS.STS.DEVSTATE 1) 4).wr (UPS.STS.HS 1) 1).wr (UPS.PART0.P00_P31 1) 1).wr
      (PRT.OWNER.OWN 0) 1).wr (PRT.HUBSTS.STATE 0) 5).modPort 0
      (fun p => { p with alm := [(3, { AlmEntry.free with st := 3, held := some .nak })] })), by decide +kernel⟩,
    ⟨0, 5, ((((((wBase.wr (UPS.STS.DEVSTATE 1) 4).wr (UPS.STS.HS 1) 1).wr (UPS.PART0.P00_P31 1) 1).wr
      (PRT.OWNER.OWN 0) 1).wr (PRT.HUBSTS.STATE 0) 5).modPort 0
      (fun p => { p with holds := [(5, 3)], ctls := [⟨5, 0, ⟨0,0,0,0,0⟩, [], true, 3⟩], frameM := 300 })),
      by decide +kernel⟩,
    ⟨0, 3, ((((((wBase.wr (UPS.STS.DEVSTATE 1) 4).wr (UPS.STS.HS 1) 1).wr (UPS.PART0.P00_P31 1) 1).wr
      (PRT.OWNER.OWN 0) 1).wr (PRT.HUBSTS.STATE 0) 5).modPort 0
      (fun p => { p with alm := [(3, { AlmEntry.free with st := 3, key := ⟨5, 1, true⟩, mps := 8, rearm := some 7 })], frameM := 9 })),
      by decide +kernel⟩⟩

/-- Some state and operands meet the hypotheses of each clause of SplitTransactionsComplete. -/
theorem test_meets_split_transactions_complete :
  (∃ (u : Fin 4) (i : BitVec 7) (adr : BitVec 7) (ep : BitVec 4) (n : Fin 48) (s : State), s.splitPort u i.toNat
      = some n.val ∧ s.rd (PRT.QSTS.STOPPED n) = 0 ∧ s.inRoom (48 + u) (tokLen .inTok) (tokSetup .inTok) = true ∧
      (∀ b ∈ (s.port n).npLive, b.key ≠ (⟨adr.toNat, ep.toNat, true⟩ : Key)) ∧ (s.port n).npLive.length < 4) ∧
  (∃ (u : Fin 4) (i : BitVec 7) (adr : BitVec 7) (ep : BitVec 4) (tog : Bool) (bs : List Byte) (n : Fin 48) (s :
      State), s.splitPort u i.toNat = some n.val ∧ s.rd (PRT.QSTS.STOPPED n) = 0 ∧ s.inRoom (48 + u) (tokLen
      (.out tog bs)) (tokSetup (.out tog bs)) = true ∧ (∀ b ∈ (s.port n).npLive, b.key ≠ (⟨adr.toNat, ep.toNat,
      false⟩ : Key)) ∧ (s.port n).npLive.length < 4) ∧
  (∃ (u : Fin 4) (i : BitVec 7) (adr : BitVec 7) (ep : BitVec 4) (req : BitVec 64) (n : Fin 48) (s : State),
      s.splitPort u i.toNat = some n.val ∧ s.rd (PRT.QSTS.STOPPED n) = 0 ∧ s.inRoom (48 + u) (tokLen (.setup
      req)) (tokSetup (.setup req)) = true ∧ (∀ b ∈ (s.port n).npLive, b.key ≠ (⟨adr.toNat, ep.toNat, false⟩ :
      Key)) ∧ (s.port n).npLive.length < 4) ∧
  (∃ (u : Fin 4) (i : BitVec 7) (adr : BitVec 7) (ep : BitVec 4) (d : Bool) (n : Fin 48) (bf : NpBuf) (o : Held)
      (s : State), s.splitPort u i.toNat = some n.val ∧ (s.port n).np.find? (fun b => b.key == (⟨adr.toNat,
      ep.toNat, d⟩ : Key) && !b.dead) = some bf ∧ bf.st = .done o) ∧
  (∃ (u : Fin 4) (i : BitVec 7) (adr : BitVec 7) (ep : BitVec 4) (d : Bool) (iso : Bool) (low : Bool) (hub :
      Bool) (tog : Bool) (bs : List Byte) (n : Fin 48) (s : State), s.splitPort u i.toNat = some n.val ∧ s.rd
      (PRT.QSTS.STOPPED n) = 0 ∧ s.perRoom n (⟨⟨adr.toNat, ep.toNat, d⟩, iso, low, hub, ((s.up u).frameM + 1) %
      16384, tog.toNat, bs, [], .queued, false⟩ : PerRec) = true ∧ (∀ e ∈ (s.port n).alm, e.2.key = (⟨adr.toNat,
      ep.toNat, d⟩ : Key) → e.2.held = none ∧ e.2.pfWire = none)) ∧
  (∃ (u : Fin 4) (i : BitVec 7) (adr : BitVec 7) (ep : BitVec 4) (d : Bool) (bs : List Byte) (n : Fin 48) (pid :
      Nat) (rc : PerRec) (s : State), s.splitPort u i.toNat = some n.val ∧ (s.port n).per.find? (fun r => r.key
      == (⟨adr.toNat, ep.toNat, d⟩ : Key) && !r.dead) = some rc ∧ rc.st = .done (.data pid bs) ∧ (rc.iso = true →
      bs.length ≤ 188)) ∧
  (∃ (u : Fin 4) (i : BitVec 7) (adr : BitVec 7) (ep : BitVec 4) (d : Bool) (bs : List Byte) (n : Fin 48) (pid :
      Nat) (rc : PerRec) (s : State), s.splitPort u i.toNat = some n.val ∧ (s.port n).per.find? (fun r => r.key
      == (⟨adr.toNat, ep.toNat, d⟩ : Key) && !r.dead) = some rc ∧ rc.st = .done (.data pid bs) ∧ rc.iso = true ∧
      188 < bs.length) ∧
  (∃ (u : Fin 4) (i : BitVec 7) (adr : BitVec 7) (ep : BitVec 4) (d : Bool) (n : Fin 48) (rc : PerRec) (s :
      State), s.splitPort u i.toNat = some n.val ∧ (s.port n).per.find? (fun r => r.key == (⟨adr.toNat, ep.toNat,
      d⟩ : Key) && !r.dead) = some rc ∧ rc.st = .wire ∧ rc.iso = true ∧ d = true) :=
  ⟨⟨1, 1, 5, 1, 0, (((((wBase.wr (UPS.STS.DEVSTATE 1) 4).wr (UPS.STS.HS 1) 1).wr (UPS.PART0.P00_P31 1) 1).wr
      (PRT.OWNER.OWN 0) 1).wr (PRT.HUBSTS.STATE 0) 5), by decide +kernel⟩,
    ⟨1, 1, 5, 1, false, [1, 2], 0, (((((wBase.wr (UPS.STS.DEVSTATE 1) 4).wr (UPS.STS.HS 1) 1).wr
      (UPS.PART0.P00_P31 1) 1).wr (PRT.OWNER.OWN 0) 1).wr (PRT.HUBSTS.STATE 0) 5), by decide +kernel⟩,
    ⟨1, 1, 5, 1, 0x1, 0, (((((wBase.wr (UPS.STS.DEVSTATE 1) 4).wr (UPS.STS.HS 1) 1).wr (UPS.PART0.P00_P31 1) 1).wr
      (PRT.OWNER.OWN 0) 1).wr (PRT.HUBSTS.STATE 0) 5), by decide +kernel⟩,
    ⟨1, 1, 5, 1, true, 0, ⟨⟨5, 1, true⟩, none, false, 0, [1, 2], .done .ack, false⟩, .ack, ((((((wBase.wr
      (UPS.STS.DEVSTATE 1) 4).wr (UPS.STS.HS 1) 1).wr (UPS.PART0.P00_P31 1) 1).wr (PRT.OWNER.OWN 0) 1).wr
      (PRT.HUBSTS.STATE 0) 5).modPort 0
      (fun p => { p with np := [⟨⟨5, 1, true⟩, none, false, 0, [1, 2], .done .ack, false⟩] })), by decide +kernel⟩,
    ⟨1, 1, 5, 1, true, false, false, false, false, [1, 2], 0, ((((((wBase.wr (UPS.STS.DEVSTATE 1) 4).wr
      (UPS.STS.HS 1) 1).wr (UPS.PART0.P00_P31 1) 1).wr (PRT.OWNER.OWN 0) 1).wr (PRT.HUBSTS.STATE 0) 5).wr
      (PKM.RGN.SIZE 53) 64), by decide +kernel⟩,
    ⟨1, 1, 5, 1, true, [1, 2], 0, 1, ⟨⟨5, 1, true⟩, false, false, false, 80, 0, [], [], .done (.data 1 [1, 2]), false⟩,
      ((((((wBase.wr (UPS.STS.DEVSTATE 1) 4).wr (UPS.STS.HS 1) 1).wr (UPS.PART0.P00_P31 1) 1).wr (PRT.OWNER.OWN 0) 1).wr
      (PRT.HUBSTS.STATE 0) 5).modPort 0
      (fun p => { p with per := [⟨⟨5, 1, true⟩, false, false, false, 80, 0, [], [], .done (.data 1 [1, 2]), false⟩] })),
      by decide +kernel⟩,
    ⟨1, 1, 5, 1, true, (List.replicate 200 7), 0, 1, ⟨⟨5, 1, true⟩, true, false, false, 80, 0, [], [], .done (.data 1
      (List.replicate 200 7)), false⟩, ((((((wBase.wr (UPS.STS.DEVSTATE 1) 4).wr (UPS.STS.HS 1) 1).wr
      (UPS.PART0.P00_P31 1) 1).wr (PRT.OWNER.OWN 0) 1).wr (PRT.HUBSTS.STATE 0) 5).modPort 0
      (fun p => { p with per := [⟨⟨5, 1, true⟩, true, false, false, 80, 0, [], [], .done (.data 1 (List.replicate 200 7)), false⟩] })),
      by decide +kernel⟩,
    ⟨1, 1, 5, 1, true, 0, ⟨⟨5, 1, true⟩, true, false, false, 80, 0, [], [], .wire, false⟩, ((((((wBase.wr
      (UPS.STS.DEVSTATE 1) 4).wr (UPS.STS.HS 1) 1).wr (UPS.PART0.P00_P31 1) 1).wr (PRT.OWNER.OWN 0) 1).wr
      (PRT.HUBSTS.STATE 0) 5).modPort 0
      (fun p => { p with per := [⟨⟨5, 1, true⟩, true, false, false, 80, 0, [], [], .wire, false⟩] })), by decide +kernel⟩⟩

/-- Some state and operands meet the hypotheses of each clause of TtBusComplete. -/
theorem test_meets_tt_bus_complete :
  (∃ (n : Fin 48) (bf : NpBuf) (bt : Nat) (s : State), s.ttRuns n = true ∧ (s.port n).sofOn = true ∧ s.rd
      (PRT.QSTS.STOPPED n) = 0 ∧ (s.port n).busBusy = false ∧ (s.port n).per.any (s.port n).ready = false ∧
      s.inRoom n 64 false = true ∧ (s.mtrBlock n == 0 && (List.range 16).any (fun j => s.mayPrefetch n j bt)) =
      false ∧ (s.port n).np.find? (fun b => b.st == .queued && !b.dead) = some bf) ∧
  (∃ (n : Fin 48) (bf : NpBuf) (s : State), (s.port n).np.find? (fun b => b.st == .wire) = some bf ∧ bf.dead =
      false) ∧
  (∃ (n : Fin 48) (rc : PerRec) (rs : List PerRec) (bt : Nat) (s : State), s.ttRuns n = true ∧ (s.port n).sofOn =
      true ∧ s.rd (PRT.QSTS.STOPPED n) = 0 ∧ (s.port n).busBusy = false ∧ (s.port n).per.filter (s.port n).ready
      = rc :: rs ∧ bt + ttCost rc.low rc.behindHub rc.iso (s.lenOf n rc) ≤ 1496) :=
  ⟨⟨0, ⟨⟨5, 1, false⟩, none, false, 0, [1, 2], .queued, false⟩, 100, ((((((wBase.wr (UPS.STS.DEVSTATE 1) 4).wr
      (UPS.STS.HS 1) 1).wr (UPS.PART0.P00_P31 1) 1).wr (PRT.OWNER.OWN 0) 1).wr (PRT.HUBSTS.STATE 0) 5).modPort 0
      (fun p => { p with sofOn := true, np := [⟨⟨5, 1, false⟩, none, false, 0, [1, 2], .queued, false⟩] })),
      by decide +kernel⟩,
    ⟨0, ⟨⟨5, 1, false⟩, none, false, 0, [1, 2], .wire, false⟩, ((((((wBase.wr (UPS.STS.DEVSTATE 1) 4).wr
      (UPS.STS.HS 1) 1).wr (UPS.PART0.P00_P31 1) 1).wr (PRT.OWNER.OWN 0) 1).wr (PRT.HUBSTS.STATE 0) 5).modPort 0
      (fun p => { p with np := [⟨⟨5, 1, false⟩, none, false, 0, [1, 2], .wire, false⟩] })), by decide +kernel⟩,
    ⟨0, ⟨⟨5, 1, true⟩, false, false, false, 80, 0, [], [], .queued, false⟩, [], 100, ((((((wBase.wr
      (UPS.STS.DEVSTATE 1) 4).wr (UPS.STS.HS 1) 1).wr (UPS.PART0.P00_P31 1) 1).wr (PRT.OWNER.OWN 0) 1).wr
      (PRT.HUBSTS.STATE 0) 5).modPort 0
      (fun p => { p with sofOn := true, frameM := 81, per := [⟨⟨5, 1, true⟩, false, false, false, 80, 0, [], [], .queued, false⟩] })),
      by decide +kernel⟩⟩

/-- Some state and operands meet the hypotheses of each clause of RelayCommandsComplete. -/
theorem test_meets_relay_commands_complete :
  (∃ (u : Fin 4) (adr : BitVec 7) (n : Fin 48) (s : State), s.phase = .running ∧ s.rd (UPS.STS.ADDR u) ≠
      adr.toNat ∧ s.relayPort u adr.toNat = some n.val ∧ s.inRoom (48 + u) 8 true = true) ∧
  (∃ (u : Fin 4) (adr : BitVec 7) (ep : BitVec 4) (bs : List Byte) (n : Fin 48) (s : State), s.phase = .running ∧
      s.rd (UPS.STS.ADDR u) ≠ adr.toNat ∧ s.relayPort u adr.toNat = some n.val ∧ s.stopSlot n (⟨adr.toNat,
      ep.toNat, false⟩ : Key) = none ∧ s.outAdmits n = true ∧ s.inRoom (48 + u) 1024 false = true ∧ bs.length ≤
      1024) ∧
  (∃ (u : Fin 4) (adr : BitVec 7) (ep : BitVec 4) (n : Fin 48) (s : State), s.phase = .running ∧ s.rd
      (UPS.STS.ADDR u) ≠ adr.toNat ∧ s.relayPort u adr.toNat = some n.val ∧ s.stopSlot n (⟨adr.toNat, ep.toNat,
      false⟩ : Key) = none ∧ (s.outAdmits n = false ∨ s.inRoom (48 + u) 1024 false = false)) ∧
  (∃ (u : Fin 4) (adr : BitVec 7) (ep : BitVec 4) (n : Fin 48) (s : State), s.phase = .running ∧ s.rd
      (UPS.STS.ADDR u) ≠ adr.toNat ∧ s.relayPort u adr.toNat = some n.val ∧ s.stopSlot n (⟨adr.toNat, ep.toNat,
      false⟩ : Key) = none ∧ s.outAdmits n = true ∧ s.inRoom (48 + u) 1024 false = true) ∧
  (∃ (u : Fin 4) (adr : BitVec 7) (ep : BitVec 4) (bs : List Byte) (n : Fin 48) (x : Slot) (pid : Nat) (s :
      State), s.phase = .running ∧ s.rd (UPS.STS.ADDR u) ≠ adr.toNat ∧ s.relayPort u adr.toNat = some n.val ∧
      s.seUp n = true ∧ s.stopSlot n (⟨adr.toNat, ep.toNat, true⟩ : Key) = none ∧ s.slot n (⟨adr.toNat, ep.toNat,
      true⟩ : Key) = some x ∧ x.held = some (.data pid bs)) ∧
  (∃ (u : Fin 4) (adr : BitVec 7) (ep : BitVec 4) (bs : List Byte) (n : Fin 48) (x : Slot) (pid : Nat) (s :
      State), s.phase = .running ∧ s.rd (UPS.STS.ADDR u) ≠ adr.toNat ∧ s.relayPort u adr.toNat = some n.val ∧
      s.seUp n = true ∧ s.slot n (⟨adr.toNat, ep.toNat, true⟩ : Key) = some x ∧ x.held = some (.data pid bs)) ∧
  (∃ (u : Fin 4) (adr : BitVec 7) (bs : List Byte) (n : Fin 48) (s : State), s.phase = .running ∧ s.rd
      (UPS.STS.ADDR u) ≠ adr.toNat ∧ s.relayPort u adr.toNat = some n.val ∧ s.outAdmits n = true ∧ s.inRoom (48 +
      u) 1024 false = true ∧ bs.length ≤ 1024) ∧
  (∃ (u : Fin 4) (adr : BitVec 7) (n : Fin 48) (s : State), s.phase = .running ∧ s.rd (UPS.STS.ADDR u) ≠
      adr.toNat ∧ s.relayPort u adr.toNat = some n.val ∧ (s.outAdmits n = false ∨ s.inRoom (48 + u) 1024 false =
      false)) :=
  ⟨⟨1, 5, 0, (((((((((((wBase.wr (UPS.STS.DEVSTATE 1) 4).wr (UPS.STS.HS 1) 1).wr (UPS.PART0.P00_P31 1) 1).wr
      (PRT.OWNER.OWN 0) 1).wr (PRT.HUBSTS.STATE 0) 5).wr (SWX.RT.VALID 1 5) 1).wr (SWX.RT.PORT 1 5) 0).wr
      (PRT.HUBSTS.HIGHSPD 0) 1).wr (PKM.RGN.SIZE 101) 64).wr (PKM.RGN.SIZE 49) 32).wr (PKM.RGN.SIZE 0) 32),
      by decide +kernel⟩,
    ⟨1, 5, 1, [1, 2], 0, (((((((((((wBase.wr (UPS.STS.DEVSTATE 1) 4).wr (UPS.STS.HS 1) 1).wr (UPS.PART0.P00_P31 1) 1).wr
      (PRT.OWNER.OWN 0) 1).wr (PRT.HUBSTS.STATE 0) 5).wr (SWX.RT.VALID 1 5) 1).wr (SWX.RT.PORT 1 5) 0).wr
      (PRT.HUBSTS.HIGHSPD 0) 1).wr (PKM.RGN.SIZE 101) 64).wr (PKM.RGN.SIZE 49) 32).wr (PKM.RGN.SIZE 0) 32),
      by decide +kernel⟩,
    ⟨1, 5, 1, 0, (((((((((((((wBase.wr (UPS.STS.DEVSTATE 1) 4).wr (UPS.STS.HS 1) 1).wr (UPS.PART0.P00_P31 1) 1).wr
      (PRT.OWNER.OWN 0) 1).wr (PRT.HUBSTS.STATE 0) 5).wr (SWX.RT.VALID 1 5) 1).wr (SWX.RT.PORT 1 5) 0).wr
      (PRT.HUBSTS.HIGHSPD 0) 1).wr (PKM.RGN.SIZE 101) 64).wr (PKM.RGN.SIZE 49) 32).wr (PKM.RGN.SIZE 0) 32).wr
      (PKM.RGN.SIZE 101) 10).wr (PKM.CTL.BORROWMAX) 0), by decide +kernel⟩,
    ⟨1, 5, 1, 0, (((((((((((wBase.wr (UPS.STS.DEVSTATE 1) 4).wr (UPS.STS.HS 1) 1).wr (UPS.PART0.P00_P31 1) 1).wr
      (PRT.OWNER.OWN 0) 1).wr (PRT.HUBSTS.STATE 0) 5).wr (SWX.RT.VALID 1 5) 1).wr (SWX.RT.PORT 1 5) 0).wr
      (PRT.HUBSTS.HIGHSPD 0) 1).wr (PKM.RGN.SIZE 101) 64).wr (PKM.RGN.SIZE 49) 32).wr (PKM.RGN.SIZE 0) 32),
      by decide +kernel⟩,
    ⟨1, 5, 1, [1, 2], 0, ⟨⟨5, 1, true⟩, some (.data 1 [1, 2]), false, false, 0, 0⟩, 1, ((((((((((((wBase.wr
      (UPS.STS.DEVSTATE 1) 4).wr (UPS.STS.HS 1) 1).wr (UPS.PART0.P00_P31 1) 1).wr (PRT.OWNER.OWN 0) 1).wr
      (PRT.HUBSTS.STATE 0) 5).wr (SWX.RT.VALID 1 5) 1).wr (SWX.RT.PORT 1 5) 0).wr (PRT.HUBSTS.HIGHSPD 0) 1).wr
      (PKM.RGN.SIZE 101) 64).wr (PKM.RGN.SIZE 49) 32).wr (PKM.RGN.SIZE 0) 32).modPort 0
      (fun p => { p with slots := [⟨⟨5, 1, true⟩, some (.data 1 [1, 2]), false, false, 0, 0⟩] })), by decide +kernel⟩,
    ⟨1, 5, 1, [1, 2], 0, ⟨⟨5, 1, true⟩, some (.data 1 [1, 2]), false, false, 0, 0⟩, 1, ((((((((((((wBase.wr
      (UPS.STS.DEVSTATE 1) 4).wr (UPS.STS.HS 1) 1).wr (UPS.PART0.P00_P31 1) 1).wr (PRT.OWNER.OWN 0) 1).wr
      (PRT.HUBSTS.STATE 0) 5).wr (SWX.RT.VALID 1 5) 1).wr (SWX.RT.PORT 1 5) 0).wr (PRT.HUBSTS.HIGHSPD 0) 1).wr
      (PKM.RGN.SIZE 101) 64).wr (PKM.RGN.SIZE 49) 32).wr (PKM.RGN.SIZE 0) 32).modPort 0
      (fun p => { p with slots := [⟨⟨5, 1, true⟩, some (.data 1 [1, 2]), false, false, 0, 0⟩] })), by decide +kernel⟩,
    ⟨1, 5, [1, 2], 0, (((((((((((wBase.wr (UPS.STS.DEVSTATE 1) 4).wr (UPS.STS.HS 1) 1).wr (UPS.PART0.P00_P31 1) 1).wr
      (PRT.OWNER.OWN 0) 1).wr (PRT.HUBSTS.STATE 0) 5).wr (SWX.RT.VALID 1 5) 1).wr (SWX.RT.PORT 1 5) 0).wr
      (PRT.HUBSTS.HIGHSPD 0) 1).wr (PKM.RGN.SIZE 101) 64).wr (PKM.RGN.SIZE 49) 32).wr (PKM.RGN.SIZE 0) 32),
      by decide +kernel⟩,
    ⟨1, 5, 0, (((((((((((((wBase.wr (UPS.STS.DEVSTATE 1) 4).wr (UPS.STS.HS 1) 1).wr (UPS.PART0.P00_P31 1) 1).wr
      (PRT.OWNER.OWN 0) 1).wr (PRT.HUBSTS.STATE 0) 5).wr (SWX.RT.VALID 1 5) 1).wr (SWX.RT.PORT 1 5) 0).wr
      (PRT.HUBSTS.HIGHSPD 0) 1).wr (PKM.RGN.SIZE 101) 64).wr (PKM.RGN.SIZE 49) 32).wr (PKM.RGN.SIZE 0) 32).wr
      (PKM.RGN.SIZE 101) 10).wr (PKM.CTL.BORROWMAX) 0), by decide +kernel⟩⟩

/-- Some state and operands meet the hypotheses of each clause of FabricCommandsComplete. -/
theorem test_meets_fabric_commands_complete :
  (∃ (id : Nat) (p : Pkt) (s : State), s.pkt id = some p ∧ p.kind = .isoOut ∧ mDiff (s.up p.side).frameM p.age ≠
      0) ∧
  (∃ (id : Nat) (p : Pkt) (s : State), s.pkt id = some p ∧ p.started = false ∧ p.asking = false ∧ s.atHead p =
      true ∧ (p.tail ≠ .receiving ∨ s.rd PKM.CTL.CUTTHR ≤ p.wrW)) ∧
  (∃ (id : Nat) (out : Fin 53) (p : Pkt) (s : State), s.pkt id = some p ∧ s.copyable p = true ∧ s.nextIn = some
      p.inp ∧ s.pairOk p.inp out = true ∧ p.out = out) ∧
  (∃ (id : Nat) (out : Fin 53) (p : Pkt) (s : State), s.pkt id = some p ∧ s.copyable p = true ∧ s.nextIn = some
      p.inp ∧ s.pairOk p.inp out = false ∧ p.out ≠ out) ∧
  (∃ (id : Nat) (p : Pkt) (s : State), s.pkt id = some p ∧ p.tail = .receiving ∧ p.released = false ∧ p.void =
      false ∧ s.destOk p = true ∧ s.iqHeld p.inp + ((p.bytes.length + 7) / 8 - p.wrW) ≤ s.iqWords p.inp ∧ p.kind
      = .out ∧ p.nyet = false) ∧
  (∃ (id : Nat) (p : Pkt) (x : Slot) (s : State), s.pkt id = some p ∧ p.tail = .receiving ∧ p.released = false ∧
      p.void = false ∧ s.destOk p = true ∧ s.iqHeld p.inp + ((p.bytes.length + 7) / 8 - p.wrW) ≤ s.iqWords p.inp
      ∧ p.kind = .inData ∧ s.slot p.inp p.key = some x ∧ x.iso = false) ∧
  (∃ (id : Nat) (p : Pkt) (s : State), s.pkt id = some p ∧ p.tail = .receiving ∧ p.released = false) ∧
  (∃ (id : Nat) (p : Pkt) (x : Slot) (s : State), s.pkt id = some p ∧ p.tail = .good ∧ p.copied = true ∧
      p.released = false ∧ (s.sw.packets.any (fun q => q.inp == p.inp && q.out == p.out && decide (q.id < p.id)
      && !q.released)) = false ∧ s.destOk p = true ∧ s.seUp p.inp = true ∧ p.kind = .inData ∧ s.slot p.inp p.key
      = some x) ∧
  (∃ (id : Nat) (p : Pkt) (s : State), s.pkt id = some p ∧ p.tail = .good ∧ p.copied = true ∧ p.released = false
      ∧ (s.sw.packets.any (fun q => q.inp == p.inp && q.out == p.out && decide (q.id < p.id) && !q.released)) =
      false ∧ s.destOk p = true ∧ (s.sw.packets.any (fun q => q.out == p.out && q.kind != .inData && q.released))
      = false ∧ s.hub p.out = HS.enabled ∧ (p.kind = .setup ∨ p.kind = .out ∧ (s.port p.out).pingKeys.contains
      p.key = false)) ∧
  (∃ (id : Nat) (p : Pkt) (s : State), s.pkt id = some p ∧ p.tail = .good ∧ p.copied = true ∧ p.released = false
      ∧ (s.sw.packets.any (fun q => q.inp == p.inp && q.out == p.out && decide (q.id < p.id) && !q.released)) =
      false ∧ s.destOk p = true ∧ (s.sw.packets.any (fun q => q.out == p.out && q.kind != .inData && q.released))
      = false ∧ s.hub p.out = HS.enabled ∧ p.kind = .isoOut ∧ mDiff (s.up p.side).frameM p.age = 1) :=
  ⟨⟨0, ⟨0, 49, 0, 0, .isoOut, ⟨5, 1, false⟩, 0, [1, 2], .good, 16, 0, 0, false, 1, 0, 0, false, false, 0, 7, false, 0, 0,
      false⟩, ((((((((((((wBase.wr (UPS.STS.DEVSTATE 1) 4).wr (UPS.STS.HS 1) 1).wr (UPS.PART0.P00_P31 1) 1).wr
      (PRT.OWNER.OWN 0) 1).wr (PRT.HUBSTS.STATE 0) 5).wr (SWX.RT.VALID 1 5) 1).wr (SWX.RT.PORT 1 5) 0).wr
      (PRT.HUBSTS.HIGHSPD 0) 1).wr (PKM.RGN.SIZE 101) 64).wr (PKM.RGN.SIZE 49) 32).wr (PKM.RGN.SIZE 0) 32).modSw
      (fun w => { w with packets := [⟨0, 49, 0, 0, .isoOut, ⟨5, 1, false⟩, 0, [1, 2], .good, 16, 0, 0, false, 1, 0, 0, false, false, 0, 7, false, 0, 0, false⟩], nextId := 5 })),
      by decide +kernel⟩,
    ⟨0, ⟨0, 49, 0, 0, .out, ⟨5, 1, false⟩, 0, [1, 2], .good, 16, 0, 0, false, 1, 0, 0, false, false, 0, 0, false, 0, 0,
      false⟩, ((((((((((((wBase.wr (UPS.STS.DEVSTATE 1) 4).wr (UPS.STS.HS 1) 1).wr (UPS.PART0.P00_P31 1) 1).wr
      (PRT.OWNER.OWN 0) 1).wr (PRT.HUBSTS.STATE 0) 5).wr (SWX.RT.VALID 1 5) 1).wr (SWX.RT.PORT 1 5) 0).wr
      (PRT.HUBSTS.HIGHSPD 0) 1).wr (PKM.RGN.SIZE 101) 64).wr (PKM.RGN.SIZE 49) 32).wr (PKM.RGN.SIZE 0) 32).modSw
      (fun w => { w with packets := [⟨0, 49, 0, 0, .out, ⟨5, 1, false⟩, 0, [1, 2], .good, 16, 0, 0, false, 1, 0, 0, false, false, 0, 0, false, 0, 0, false⟩], nextId := 5 })),
      by decide +kernel⟩,
    ⟨0, 0, ⟨0, 49, 0, 0, .out, ⟨5, 1, false⟩, 0, [1, 2], .good, 16, 0, 0, true, 1, 0, 0, false, false, 0, 0, false, 0, 0,
      false⟩, ((((((((((((wBase.wr (UPS.STS.DEVSTATE 1) 4).wr (UPS.STS.HS 1) 1).wr (UPS.PART0.P00_P31 1) 1).wr
      (PRT.OWNER.OWN 0) 1).wr (PRT.HUBSTS.STATE 0) 5).wr (SWX.RT.VALID 1 5) 1).wr (SWX.RT.PORT 1 5) 0).wr
      (PRT.HUBSTS.HIGHSPD 0) 1).wr (PKM.RGN.SIZE 101) 64).wr (PKM.RGN.SIZE 49) 32).wr (PKM.RGN.SIZE 0) 32).modSw
      (fun w => { w with packets := [⟨0, 49, 0, 0, .out, ⟨5, 1, false⟩, 0, [1, 2], .good, 16, 0, 0, true, 1, 0, 0, false, false, 0, 0, false, 0, 0, false⟩], nextId := 5 })),
      by decide +kernel⟩,
    ⟨0, 50, ⟨0, 49, 0, 0, .out, ⟨5, 1, false⟩, 0, [1, 2], .good, 16, 0, 0, true, 1, 0, 0, false, false, 0, 0, false, 0, 0,
      false⟩, ((((((((((((wBase.wr (UPS.STS.DEVSTATE 1) 4).wr (UPS.STS.HS 1) 1).wr (UPS.PART0.P00_P31 1) 1).wr
      (PRT.OWNER.OWN 0) 1).wr (PRT.HUBSTS.STATE 0) 5).wr (SWX.RT.VALID 1 5) 1).wr (SWX.RT.PORT 1 5) 0).wr
      (PRT.HUBSTS.HIGHSPD 0) 1).wr (PKM.RGN.SIZE 101) 64).wr (PKM.RGN.SIZE 49) 32).wr (PKM.RGN.SIZE 0) 32).modSw
      (fun w => { w with packets := [⟨0, 49, 0, 0, .out, ⟨5, 1, false⟩, 0, [1, 2], .good, 16, 0, 0, true, 1, 0, 0, false, false, 0, 0, false, 0, 0, false⟩], nextId := 5 })),
      by decide +kernel⟩,
    ⟨0, ⟨0, 49, 0, 0, .out, ⟨5, 1, false⟩, 0, [1, 2], .receiving, 16, 0, 0, false, 0, 0, 0, false, false, 0, 0, false, 0,
      0, false⟩, ((((((((((((wBase.wr (UPS.STS.DEVSTATE 1) 4).wr (UPS.STS.HS 1) 1).wr (UPS.PART0.P00_P31 1) 1).wr
      (PRT.OWNER.OWN 0) 1).wr (PRT.HUBSTS.STATE 0) 5).wr (SWX.RT.VALID 1 5) 1).wr (SWX.RT.PORT 1 5) 0).wr
      (PRT.HUBSTS.HIGHSPD 0) 1).wr (PKM.RGN.SIZE 101) 64).wr (PKM.RGN.SIZE 49) 32).wr (PKM.RGN.SIZE 0) 32).modSw
      (fun w => { w with packets := [⟨0, 49, 0, 0, .out, ⟨5, 1, false⟩, 0, [1, 2], .receiving, 16, 0, 0, false, 0, 0, 0, false, false, 0, 0, false, 0, 0, false⟩], nextId := 5 })),
      by decide +kernel⟩,
    ⟨0, ⟨0, 0, 49, 0, .inData, ⟨5, 1, true⟩, 1, [1, 2], .receiving, 16, 0, 0, false, 0, 0, 0, false, false, 0, 0, false,
      0, 0, false⟩, ⟨⟨5, 1, true⟩, none, true, false, 0, 0⟩, (((((((((((((wBase.wr (UPS.STS.DEVSTATE 1) 4).wr
      (UPS.STS.HS 1) 1).wr (UPS.PART0.P00_P31 1) 1).wr (PRT.OWNER.OWN 0) 1).wr (PRT.HUBSTS.STATE 0) 5).wr
      (SWX.RT.VALID 1 5) 1).wr (SWX.RT.PORT 1 5) 0).wr (PRT.HUBSTS.HIGHSPD 0) 1).wr (PKM.RGN.SIZE 101) 64).wr
      (PKM.RGN.SIZE 49) 32).wr (PKM.RGN.SIZE 0) 32).modPort 0
      (fun p => { p with slots := [⟨⟨5, 1, true⟩, none, true, false, 0, 0⟩] })).modSw
      (fun w => { w with packets := [⟨0, 0, 49, 0, .inData, ⟨5, 1, true⟩, 1, [1, 2], .receiving, 16, 0, 0, false, 0, 0, 0, false, false, 0, 0, false, 0, 0, false⟩], nextId := 5 })),
      by decide +kernel⟩,
    ⟨0, ⟨0, 49, 0, 0, .out, ⟨5, 1, false⟩, 0, [1, 2], .receiving, 16, 0, 0, false, 0, 0, 0, false, false, 0, 0, false, 0,
      0, false⟩, ((((((((((((wBase.wr (UPS.STS.DEVSTATE 1) 4).wr (UPS.STS.HS 1) 1).wr (UPS.PART0.P00_P31 1) 1).wr
      (PRT.OWNER.OWN 0) 1).wr (PRT.HUBSTS.STATE 0) 5).wr (SWX.RT.VALID 1 5) 1).wr (SWX.RT.PORT 1 5) 0).wr
      (PRT.HUBSTS.HIGHSPD 0) 1).wr (PKM.RGN.SIZE 101) 64).wr (PKM.RGN.SIZE 49) 32).wr (PKM.RGN.SIZE 0) 32).modSw
      (fun w => { w with packets := [⟨0, 49, 0, 0, .out, ⟨5, 1, false⟩, 0, [1, 2], .receiving, 16, 0, 0, false, 0, 0, 0, false, false, 0, 0, false, 0, 0, false⟩], nextId := 5 })),
      by decide +kernel⟩,
    ⟨0, ⟨0, 0, 49, 0, .inData, ⟨5, 1, true⟩, 1, [1, 2], .good, 16, 0, 0, true, 1, 1, 0, false, false, 0, 0, false, 0, 0,
      false⟩, ⟨⟨5, 1, true⟩, none, true, false, 0, 0⟩, (((((((((((((wBase.wr (UPS.STS.DEVSTATE 1) 4).wr
      (UPS.STS.HS 1) 1).wr (UPS.PART0.P00_P31 1) 1).wr (PRT.OWNER.OWN 0) 1).wr (PRT.HUBSTS.STATE 0) 5).wr
      (SWX.RT.VALID 1 5) 1).wr (SWX.RT.PORT 1 5) 0).wr (PRT.HUBSTS.HIGHSPD 0) 1).wr (PKM.RGN.SIZE 101) 64).wr
      (PKM.RGN.SIZE 49) 32).wr (PKM.RGN.SIZE 0) 32).modPort 0
      (fun p => { p with slots := [⟨⟨5, 1, true⟩, none, true, false, 0, 0⟩] })).modSw
      (fun w => { w with packets := [⟨0, 0, 49, 0, .inData, ⟨5, 1, true⟩, 1, [1, 2], .good, 16, 0, 0, true, 1, 1, 0, false, false, 0, 0, false, 0, 0, false⟩], nextId := 5 })),
      by decide +kernel⟩,
    ⟨0, ⟨0, 49, 0, 0, .out, ⟨5, 1, false⟩, 0, [1, 2], .good, 16, 0, 0, true, 1, 1, 0, false, false, 0, 0, false, 0, 0,
      false⟩, ((((((((((((wBase.wr (UPS.STS.DEVSTATE 1) 4).wr (UPS.STS.HS 1) 1).wr (UPS.PART0.P00_P31 1) 1).wr
      (PRT.OWNER.OWN 0) 1).wr (PRT.HUBSTS.STATE 0) 5).wr (SWX.RT.VALID 1 5) 1).wr (SWX.RT.PORT 1 5) 0).wr
      (PRT.HUBSTS.HIGHSPD 0) 1).wr (PKM.RGN.SIZE 101) 64).wr (PKM.RGN.SIZE 49) 32).wr (PKM.RGN.SIZE 0) 32).modSw
      (fun w => { w with packets := [⟨0, 49, 0, 0, .out, ⟨5, 1, false⟩, 0, [1, 2], .good, 16, 0, 0, true, 1, 1, 0, false, false, 0, 0, false, 0, 0, false⟩], nextId := 5 })),
      by decide +kernel⟩,
    ⟨0, ⟨0, 49, 0, 0, .isoOut, ⟨5, 1, false⟩, 0, [1, 2], .good, 16, 0, 0, true, 1, 1, 0, false, false, 0, 7, false, 0, 0,
      false⟩, (((((((((((((wBase.wr (UPS.STS.DEVSTATE 1) 4).wr (UPS.STS.HS 1) 1).wr (UPS.PART0.P00_P31 1) 1).wr
      (PRT.OWNER.OWN 0) 1).wr (PRT.HUBSTS.STATE 0) 5).wr (SWX.RT.VALID 1 5) 1).wr (SWX.RT.PORT 1 5) 0).wr
      (PRT.HUBSTS.HIGHSPD 0) 1).wr (PKM.RGN.SIZE 101) 64).wr (PKM.RGN.SIZE 49) 32).wr (PKM.RGN.SIZE 0) 32).modUp 1
      (fun x => { x with frameM := 8 })).modSw
      (fun w => { w with packets := [⟨0, 49, 0, 0, .isoOut, ⟨5, 1, false⟩, 0, [1, 2], .good, 16, 0, 0, true, 1, 1, 0, false, false, 0, 7, false, 0, 0, false⟩], nextId := 5 })),
      by decide +kernel⟩⟩

/-- Some state and operands meet the hypotheses of each clause of RelayAnswersComplete. -/
theorem test_meets_relay_answers_complete :
  (∃ (n : Fin 48) (p : Pkt) (s : State), s.sw.packets.find? (fun q => q.out == n.val && q.kind != .inData &&
      q.released) = some p ∧ p.pinging = false) ∧
  (∃ (n : Fin 48) (adr : BitVec 7) (ep : BitVec 4) (bs : List Byte) (p : Pkt) (s : State), s.sw.packets.find?
      (fun q => q.inp == n.val && q.kind == .inData && q.key == (⟨adr.toNat, ep.toNat, true⟩ : Key) && q.tail ==
      .receiving && q.released) = some p ∧ s.iqHeld n + bs.length / 8 ≤ s.iqWords n) ∧
  (∃ (n : Fin 48) (adr : BitVec 7) (ep : BitVec 4) (p : Pkt) (s : State), s.sw.packets.find? (fun q => q.inp ==
      n.val && q.kind == .inData && q.key == (⟨adr.toNat, ep.toNat, true⟩ : Key) && q.tail == .receiving &&
      q.released) = some p) ∧
  (∃ (n : Fin 48) (adr : BitVec 7) (ep : BitVec 4) (x : Slot) (s : State), s.seUp n = true ∧ s.slot n
      (⟨adr.toNat, ep.toNat, true⟩ : Key) = some x ∧ x.iso = true ∧ heldData x.held = true) ∧
  (∃ (n : Fin 48) (adr : BitVec 7) (ep : BitVec 4) (d : Bool) (x : Slot) (s : State), s.seUp n = true ∧ s.slot n
      (⟨adr.toNat, ep.toNat, d⟩ : Key) = some x ∧ x.held = none ∧ x.asked = false ∧ 8 ≤ x.idle ∧ s.sw.packets.any
      (fun q => q.port == n && q.key == (⟨adr.toNat, ep.toNat, d⟩ : Key)) = false) :=
  ⟨⟨0, ⟨0, 49, 0, 0, .out, ⟨5, 1, false⟩, 0, [1, 2], .good, 16, 0, 0, true, 1, 1, 0, true, false, 0, 0, false, 0, 0,
      false⟩, ((((((((((((wBase.wr (UPS.STS.DEVSTATE 1) 4).wr (UPS.STS.HS 1) 1).wr (UPS.PART0.P00_P31 1) 1).wr
      (PRT.OWNER.OWN 0) 1).wr (PRT.HUBSTS.STATE 0) 5).wr (SWX.RT.VALID 1 5) 1).wr (SWX.RT.PORT 1 5) 0).wr
      (PRT.HUBSTS.HIGHSPD 0) 1).wr (PKM.RGN.SIZE 101) 64).wr (PKM.RGN.SIZE 49) 32).wr (PKM.RGN.SIZE 0) 32).modSw
      (fun w => { w with packets := [⟨0, 49, 0, 0, .out, ⟨5, 1, false⟩, 0, [1, 2], .good, 16, 0, 0, true, 1, 1, 0, true, false, 0, 0, false, 0, 0, false⟩], nextId := 5 })),
      by decide +kernel⟩,
    ⟨0, 5, 1, [1, 2], ⟨0, 0, 49, 0, .inData, ⟨5, 1, true⟩, 0, [], .receiving, 16, 0, 0, false, 0, 0, 0, true, false, 0, 0,
      false, 0, 0, false⟩, ((((((((((((wBase.wr (UPS.STS.DEVSTATE 1) 4).wr (UPS.STS.HS 1) 1).wr
      (UPS.PART0.P00_P31 1) 1).wr (PRT.OWNER.OWN 0) 1).wr (PRT.HUBSTS.STATE 0) 5).wr (SWX.RT.VALID 1 5) 1).wr
      (SWX.RT.PORT 1 5) 0).wr (PRT.HUBSTS.HIGHSPD 0) 1).wr (PKM.RGN.SIZE 101) 64).wr (PKM.RGN.SIZE 49) 32).wr
      (PKM.RGN.SIZE 0) 32).modSw
      (fun w => { w with packets := [⟨0, 0, 49, 0, .inData, ⟨5, 1, true⟩, 0, [], .receiving, 16, 0, 0, false, 0, 0, 0, true, false, 0, 0, false, 0, 0, false⟩], nextId := 5 })),
      by decide +kernel⟩,
    ⟨0, 5, 1, ⟨0, 0, 49, 0, .inData, ⟨5, 1, true⟩, 0, [], .receiving, 16, 0, 0, false, 0, 0, 0, true, false, 0, 0, false,
      0, 0, false⟩, ((((((((((((wBase.wr (UPS.STS.DEVSTATE 1) 4).wr (UPS.STS.HS 1) 1).wr (UPS.PART0.P00_P31 1) 1).wr
      (PRT.OWNER.OWN 0) 1).wr (PRT.HUBSTS.STATE 0) 5).wr (SWX.RT.VALID 1 5) 1).wr (SWX.RT.PORT 1 5) 0).wr
      (PRT.HUBSTS.HIGHSPD 0) 1).wr (PKM.RGN.SIZE 101) 64).wr (PKM.RGN.SIZE 49) 32).wr (PKM.RGN.SIZE 0) 32).modSw
      (fun w => { w with packets := [⟨0, 0, 49, 0, .inData, ⟨5, 1, true⟩, 0, [], .receiving, 16, 0, 0, false, 0, 0, 0, true, false, 0, 0, false, 0, 0, false⟩], nextId := 5 })),
      by decide +kernel⟩,
    ⟨0, 5, 1, ⟨⟨5, 1, true⟩, some (.data 0 [1]), false, true, 0, 0⟩, ((((((((((((wBase.wr (UPS.STS.DEVSTATE 1) 4).wr
      (UPS.STS.HS 1) 1).wr (UPS.PART0.P00_P31 1) 1).wr (PRT.OWNER.OWN 0) 1).wr (PRT.HUBSTS.STATE 0) 5).wr
      (SWX.RT.VALID 1 5) 1).wr (SWX.RT.PORT 1 5) 0).wr (PRT.HUBSTS.HIGHSPD 0) 1).wr (PKM.RGN.SIZE 101) 64).wr
      (PKM.RGN.SIZE 49) 32).wr (PKM.RGN.SIZE 0) 32).modPort 0
      (fun p => { p with slots := [⟨⟨5, 1, true⟩, some (.data 0 [1]), false, true, 0, 0⟩] })), by decide +kernel⟩,
    ⟨0, 5, 1, true, ⟨⟨5, 1, true⟩, none, false, false, 8, 0⟩, ((((((((((((wBase.wr (UPS.STS.DEVSTATE 1) 4).wr
      (UPS.STS.HS 1) 1).wr (UPS.PART0.P00_P31 1) 1).wr (PRT.OWNER.OWN 0) 1).wr (PRT.HUBSTS.STATE 0) 5).wr
      (SWX.RT.VALID 1 5) 1).wr (SWX.RT.PORT 1 5) 0).wr (PRT.HUBSTS.HIGHSPD 0) 1).wr (PKM.RGN.SIZE 101) 64).wr
      (PKM.RGN.SIZE 49) 32).wr (PKM.RGN.SIZE 0) 32).modPort 0
      (fun p => { p with slots := [⟨⟨5, 1, true⟩, none, false, false, 8, 0⟩] })), by decide +kernel⟩⟩

/-- Some state and operands meet the hypotheses of each clause of PacketMemoryCommandsComplete. -/
theorem test_meets_packet_memory_commands_complete :
  (∃ (line : Fin 32768) (s : State), s.sw.fence.active ≠ some line.val ∧ s.sw.fence.pending.contains line.val =
      false ∧ s.sw.fence.pending.length < 16) ∧
  (∃ (line : Fin 32768) (s : State), s.sw.fence.active ≠ some line.val ∧ s.sw.fence.pending.length < 16) ∧
  (∃ (rest : List Nat) (l : Nat) (s : State), s.sw.fence.active = none ∧ s.sw.fence.pending = l :: rest ∧
      s.sw.fence.writeback = false ∧ s.sw.fence.ending = false) ∧
  (∃ (l : Nat) (s : State), s.sw.fence.active = some l ∧ s.sw.fence.waiting = false) ∧
  (∃ (l : Nat) (g : Nat) (s : State), s.sw.fence.active = some l ∧ s.sw.fence.waiting = false ∧ s.freeSpare =
      some g) ∧
  (∃ (l : Nat) (s : State), s.sw.fence.active = some l ∧ s.sw.fence.waiting = true ∧ s.rd PKM.GCNT2.POOLFREE ≠ 0
      ∧ (s.poolLines[s.poolLent]?).isSome = true) ∧
  (∃ (s : State), s.sw.fence.writeback = true) ∧
  (∃ (r : Requester) (d : Fin 155) (w : Word) (s : State), s.phase = .running ∧ Accepts r (0xA400 + 4 * d)
      w.toNat s) :=
  ⟨⟨77, (wBase.modFence (fun f => { f with pending := [5] })), by decide +kernel⟩,
    ⟨77, (wBase.modFence (fun f => { f with pending := [5] })), by decide +kernel⟩,
    ⟨[9], 77, (wBase.modFence (fun f => { f with pending := [77, 9] })), by decide +kernel⟩,
    ⟨77, (wBase.modFence (fun f => { f with active := some 77 })), by decide +kernel⟩,
    ⟨77, 19712, (wBase.modFence (fun f => { f with active := some 77 })), by decide +kernel⟩,
    ⟨77, ((wBase.wr (PKM.RGN.SIZE 0) 0).modFence (fun f => { f with active := some 77, waiting := true })),
      by decide +kernel⟩,
    ⟨(wBase.modFence (fun f => { f with writeback := true, mode := 2 })), by decide +kernel⟩,
    ⟨.spi, 0, (BitVec.ofNat 32 (32768 * 32 + rgnBase 0)), (wPresent.wr (PRT.CTL.OOS 0) 1),
      by unfold Accepts; decide +kernel⟩⟩

/-- Some state and operands meet the hypotheses of each clause of OwnershipCommandsComplete. -/
theorem test_meets_ownership_commands_complete :
  (∃ (r : Requester) (n : Fin 48) (w : Word) (s : State), s.phase = .running ∧ Accepts r (0x1000C + 0x400 * n)
      (withBit w.toNat 11 true) s) ∧
  (∃ (n : Fin 48) (tgt : Nat) (c : Nat) (s : State), s.phase = .running ∧ (s.port n).request = some (tgt, c) ∧
      (s.port n).reqSampled = true ∧ s.owned n = true ∧ (s.port n).restart = false ∧ (s.port n).hr = .none ∧
      (s.sec (secOf n)).restarting = false) ∧
  (∃ (n : Fin 48) (tgt : Nat) (c : Nat) (s : State), s.phase = .running ∧ (s.port n).request = some (tgt, c) ∧
      (s.port n).reqSampled = true ∧ s.owned n = true ∧ ((s.port n).restart = true ∨ (s.port n).hr ≠ .none ∨
      (s.sec (secOf n)).restarting = true)) ∧
  (∃ (n : Fin 48) (s : State), s.phase = .running ∧ s.rd (PRT.OWNER.STATE n) = 1) ∧
  (∃ (n : Fin 48) (s : State), s.phase = .running ∧ s.rd (PRT.OWNER.STATE n) = 2 ∧ (s.port n).hoHold = false) ∧
  (∃ (n : Fin 48) (s : State), s.phase = .running ∧ (s.rd (PRT.OWNER.STATE n) = 2 ∨ s.rd (PRT.OWNER.STATE n) = 3)
      ∧ (s.port n).hoHold = true ∧ (s.port n).hoEnded = true) ∧
  (∃ (n : Fin 48) (s : State), s.phase = .running ∧ s.rd (PRT.OWNER.STATE n) = 3 ∧ (s.port n).hoHold = false) ∧
  (∃ (r : Requester) (n : Fin 48) (w : Word) (s : State), s.phase = .running ∧ Accepts r (0x10008 + 0x400 * n)
      (withBit w.toNat 0 true) s) ∧
  (∃ (r : Requester) (n : Fin 48) (w : Word) (s : State), s.phase = .running ∧ Accepts r (0x10008 + 0x400 * n)
      w.toNat s ∧ bitAt w.toNat 0 = false) ∧
  (∃ (r : Requester) (u : Fin 4) (w : Word) (s : State), s.phase = .running ∧ Accepts r (0xC000 + 0x400 * u)
      w.toNat s) :=
  ⟨⟨.spi, 0, 0x200, (((wPresent.wr (PRT.OWNER.OWN 0) 1).modPort 0 (fun p => { p with armed := true })).wr
      (UPS.PART0.P00_P31 2) 1), by unfold Accepts; decide +kernel⟩,
    ⟨0, 2, 5, ((wBase.wr (PRT.OWNER.OWN 0) 1).modPort 0 (fun p => { p with request := some (2, 5), reqSampled := true })),
      by decide +kernel⟩,
    ⟨0, 2, 5, ((wBase.wr (PRT.OWNER.OWN 0) 1).modPort 0
      (fun p => { p with request := some (2, 5), reqSampled := true, restart := true })), by decide +kernel⟩,
    ⟨0, ((((wBase.wr (PRT.OWNER.OWN 0) 1).wr (PRT.OWNER.STATE 0) 1).wr (PRT.OWNER.NEXT 0) 2).wr (PRT.OWNER.OWN 0) 7),
      by decide +kernel⟩,
    ⟨0, ((((wBase.wr (PRT.OWNER.OWN 0) 1).wr (PRT.OWNER.STATE 0) 2).wr (PRT.OWNER.NEXT 0) 2).wr (PRT.OWNER.OWN 0) 7),
      by decide +kernel⟩,
    ⟨0, (((((wBase.wr (PRT.OWNER.OWN 0) 1).wr (PRT.OWNER.STATE 0) 2).wr (PRT.OWNER.NEXT 0) 2).wr
      (PRT.OWNER.OWN 0) 7).modPort 0 (fun p => { p with hoHold := true, hoEnded := true })), by decide +kernel⟩,
    ⟨0, ((((wBase.wr (PRT.OWNER.OWN 0) 1).wr (PRT.OWNER.STATE 0) 3).wr (PRT.OWNER.NEXT 0) 2).wr (PRT.OWNER.OWN 0) 7),
      by decide +kernel⟩,
    ⟨.spi, 0, 0, (wPresent.wr (PRT.HUBSTS.STATE 0) 3), by unfold Accepts; decide +kernel⟩,
    ⟨.spi, 0, 8, wPresent, by unfold Accepts; decide +kernel⟩,
    ⟨.spi, 1, 0xC01, wPresent, by unfold Accepts; decide +kernel⟩⟩

/-- Some state and operands meet the hypotheses of each clause of LodestarCommandsComplete. -/
theorem test_meets_lodestar_commands_complete :
  (∃ (n : Fin 48) (s : State), s.ldsOwns n = true ∧ (s.entry n).state = 1 ∧ s.ldsBusy < 8 ∧ (∀ m ∈ allPorts,
      (s.entry m).state = 1 → s.ldsFirst n m = true)) ∧
  (∃ (n : Fin 48) (s : State), s.ldsOwns n = true ∧ (s.port n).lds.step = .connectWait ∧ (s.hub n = HS.disabled ∨
      s.hub n = HS.enabled)) ∧
  (∃ (n : Fin 48) (s : State), s.ldsOwns n = true ∧ (s.port n).lds.step = .resetWait) ∧
  (∃ (n : Fin 48) (s : State), s.ldsOwns n = true ∧ (s.port n).lds.step = .addrWait ∧ (s.port n).lds.route = 2) ∧
  (∃ (n : Fin 48) (bs : List Byte) (s : State), s.ldsOwns n = true ∧ (s.port n).lds.step = .devDesc8 ∧ badDesc bs
      8 1 = false ∧ (fieldAt bs 7 1 = 8 ∨ fieldAt bs 7 1 = 16 ∨ fieldAt bs 7 1 = 32 ∨ fieldAt bs 7 1 = 64)) ∧
  (∃ (n : Fin 48) (s : State), s.ldsOwns n = true ∧ (s.port n).lds.step = .setAddress) ∧
  (∃ (n : Fin 48) (s : State), s.ldsOwns n = true ∧ (s.port n).lds.step = .devDesc8 ∧ (s.port n).lds.attempt <
      s.rd LDS.CTL.ENUMTRY) ∧
  (∃ (n : Fin 48) (s : State), s.ldsOwns n = true ∧ (s.port n).lds.step = .recordDelay ∧ (s.port n).lds.recIdx +
      1 < fieldAt (s.profOf n) 11 1) ∧
  (∃ (n : Fin 48) (s : State), s.ldsOwns n = true ∧ (s.port n).lds.step = .recordDelay ∧ fieldAt (s.profOf n) 11
      1 ≤ (s.port n).lds.recIdx + 1) ∧
  (∃ (n : Fin 48) (s : State), s.ldsOwns n = true ∧ ((s.entry n).state = 4 ∨ (s.entry n).state = 5) ∧ fieldAt
      (s.profOf n) 12 1 ≠ 0 ∧ s.rd SYS.MERIDIAN.COUNT % 8 = 0 ∧ s.rd SYS.MERIDIAN.COUNT / 8 % 2048 % 2 ^ s.hbExp
      n = n.val % 2 ^ s.hbExp n ∧ s.hub n = HS.enabled ∧ (s.port n).lds.route = 2 ∧ (s.port n).lds.polling =
      false ∧ (s.port n).lds.polledAt ≠ s.now + 1) ∧
  (∃ (n : Fin 48) (s : State), s.ldsOwns n = true ∧ (s.port n).lds.polling = true) :=
  ⟨⟨0, (((wBase.wr LDS.CTL.EN 1).wr (PRT.OWNER.OWN 0) 4).modLds 0
      (fun l => { l with entry := { RosterEntry.vacant with state := 1, profile := 0 } })), by decide +kernel⟩,
    ⟨0, ((((wBase.wr LDS.CTL.EN 1).wr (PRT.OWNER.OWN 0) 4).modLds 0 (fun l => { l with step := .connectWait })).wr
      (PRT.HUBSTS.STATE 0) 3), by decide +kernel⟩,
    ⟨0, (((wBase.wr LDS.CTL.EN 1).wr (PRT.OWNER.OWN 0) 4).modLds 0 (fun l => { l with step := .resetWait })),
      by decide +kernel⟩,
    ⟨0, (((wBase.wr LDS.CTL.EN 1).wr (PRT.OWNER.OWN 0) 4).modLds 0 (fun l => { l with step := .addrWait, route := 2 })),
      by decide +kernel⟩,
    ⟨0, [18, 1, 0, 2, 0, 0, 0, 64], (((wBase.wr LDS.CTL.EN 1).wr (PRT.OWNER.OWN 0) 4).modLds 0
      (fun l => { l with step := .devDesc8 })), by decide +kernel⟩,
    ⟨0, (((wBase.wr LDS.CTL.EN 1).wr (PRT.OWNER.OWN 0) 4).modLds 0 (fun l => { l with step := .setAddress })),
      by decide +kernel⟩,
    ⟨0, (((wBase.wr LDS.CTL.EN 1).wr (PRT.OWNER.OWN 0) 4).modLds 0 (fun l => { l with step := .devDesc8, attempt := 1 })),
      by decide +kernel⟩,
    ⟨0, { (((wBase.wr LDS.CTL.EN 1).wr (PRT.OWNER.OWN 0) 4).modLds 0 (fun l => { l with step := .recordDelay, entry := { RosterEntry.vacant with state := 3, profile := 0 } })) with ldsProfiles := (List.replicate 16 0 ++ List.replicate 11 0 ++ [2, 0x81, 1, 1] ++ List.replicate 1041 0 : List Byte) },
      by decide +kernel⟩,
    ⟨0, { (((wBase.wr LDS.CTL.EN 1).wr (PRT.OWNER.OWN 0) 4).modLds 0 (fun l => { l with step := .recordDelay, recIdx := 1, entry := { RosterEntry.vacant with state := 3, profile := 0 } })) with ldsProfiles := (List.replicate 16 0 ++ List.replicate 11 0 ++ [2, 0x81, 1, 1] ++ List.replicate 1041 0 : List Byte) },
      by decide +kernel⟩,
    ⟨0, (({ (((wBase.wr LDS.CTL.EN 1).wr (PRT.OWNER.OWN 0) 4).modLds 0 (fun l => { l with route := 2, entry := { RosterEntry.vacant with state := 4, profile := 0 } })) with ldsProfiles := (List.replicate 16 0 ++ List.replicate 11 0 ++ [2, 0x81, 1, 1] ++ List.replicate 1041 0 : List Byte) } : State).wr
      (PRT.HUBSTS.STATE 0) 5), by decide +kernel⟩,
    ⟨0, (((wBase.wr LDS.CTL.EN 1).wr (PRT.OWNER.OWN 0) 4).modLds 0
      (fun l => { l with polling := true, entry := { RosterEntry.vacant with state := 5, profile := 0 } })),
      by decide +kernel⟩⟩

/-- Some state and operands meet the hypotheses of each clause of MeridianEnergyAndCalibrationComplete. -/
theorem test_meets_meridian_energy_and_calibration_complete :
  (∃ (q : Fin 12) (s : State), (s.phase = .running ∨ s.phase = .dusk) ∧ (s.sec (q.val / 3)).dieUp = true ∧ s.good
      (.vdd5 (Fin.ofNat 4 (q.val / 3))) = true) ∧
  (∃ (s : State), s.phase = .running) ∧
  (∃ (s : State), s.phase = .running ∧ (List.range 11).all s.runs = true) ∧
  (∃ (s : State), s.phase = .rescue) :=
  ⟨⟨4, ((wBase.modSec 1 (fun x => { x with dieUp := true })).wr (QD.VIN.VIN 4) 3000), by decide +kernel⟩,
    ⟨wBase, by decide +kernel⟩,
    ⟨wBase, by decide +kernel⟩,
    ⟨{ wBase with phase := .rescue }, by decide +kernel⟩⟩

end Sys2Proof.Tests
end

section
/-! SUPPORT. Every command is answered by a next state that keeps the queue of waiting commands: one lemma per meaning
that is built from more than one operation, on top of the laws of the shared operations. -/

namespace Sys2Proof.Machine

/-- `r` is a next state, and `P` holds of it: `Completes c s P` is `Answers (exec c s) P`. -/
def Answers (r : Res) (P : State → Prop) : Prop := ∃ t, r = .next t ∧ P t

namespace Answers

variable {P Q : State → Prop} {a b : Res} {s t : State}

theorem done (h : P t) : Answers (Machine.done t) P := ⟨t, rfl, h⟩

theorem ite {c : Prop} [Decidable c] (h : Answers a P) (k : Answers b P) : Answers (if c then a else b) P := by
  split
  · exact h
  · exact k

theorem imp (h : Answers a P) (k : ∀ u, P u → Q u) : Answers a Q :=
  h.elim fun u ⟨e, p⟩ => ⟨u, e, k u p⟩

end Answers

theorem fresh_keeps (s : State) : Keeps s s.fresh := (Keeps.refl s).fresh

/-- A guarded command: the state without the last outputs where the guard fails, else its effect. -/
theorem Answers.guarded {c : Bool} {s t : State} (h : Keeps s t) : Answers (doneIf c s.fresh t) (Keeps s) :=
  ⟨_, rfl, Keeps.ite h (fresh_keeps s)⟩

namespace Keeps

variable {s t : State}

/-- A record of the journal struck out of retention (R388). -/
theorem eraseRecord (h : Keeps s t) (i : Nat) :
    Keeps s { t with retain := { t.retain with journal := t.retain.journal.eraseIdx i } } :=
  h.trans ⟨rfl, rfl, rfl, rfl, rfl, fun w => { w with journal := (List.length_eraseIdx_le ..).trans w.journal }⟩

/-- The three copies of a voted field that disagree, listed in place of what was listed for it (R119). -/
theorem setCopies (h : Keeps s t) (k : Nat) (v : Nat × Nat × Nat) :
    Keeps s { t with copies := KMap.insert (KMap.erase t.copies k) k v } :=
  h.trans ⟨rfl, rfl, rfl, rfl, rfl, fun w =>
    { w with copies := KMap.rising_insert (KMap.rising_erase w.copies k) k v (fun _ he => (KMap.mem_erase.mp he).2) }⟩

/-- The copies of a voted field written alike again, with the time of it (R119). -/
theorem rewriteVote (h : Keeps s t) (k v : Nat) :
    Keeps s { t with copies := KMap.erase t.copies k, fixedAt := KMap.put 0 t.fixedAt k v } :=
  h.trans ⟨rfl, rfl, rfl, rfl, rfl, fun w =>
    { w with copies := KMap.rising_erase w.copies k, fixedAt := KMap.wf_put w.fixedAt k v }⟩

end Keeps

/-! ## Accesses -/

section
variable (s : State)

theorem write1_keeps (r : Requester) (a v : Nat) (test : Option Bool) : Answers (s.write1 r a v test) (Keeps s) :=
  .guarded (State.setResult_keeps (State.writeFrame_keeps (fresh_keeps s) _ _ _ _) _ _)

theorem read1_keeps (r : Requester) (a : Nat) : Answers (s.read1 r a) (Keeps s) :=
  .guarded (.emit (State.setResult_keeps (State.lastErr_keeps (State.metOff_keeps
    (State.shiftWords_keeps r a 1 (fresh_keeps s)) _) _ _) _ _) _)

theorem onI2c_keeps (adr : Nat) (f : I2cFrame) : Answers (s.onI2c adr f) (Keeps s) :=
  .done (.ite (State.i2cFrame_keeps (fresh_keeps s) f) ((fresh_keeps s).emit _))

theorem vendorRun_keeps (u : Fin 5) (ok : Bool) {t : State} (h : Keeps s t) : Answers (s.vendorRun u ok t) (Keeps s) :=
  .ite (.done (fresh_keeps s)) (.ite (.done h) (.done ((State.vendorSetup_keeps (fresh_keeps s) u).emit _)))

theorem execVendorRead_keeps (u : Fin 5) (bm : Byte) (wValue wIndex wLength : BitVec 16) (status : Bool) :
    Answers (execVendorRead u bm wValue wIndex wLength status s) (Keeps s) := by
  have h : Keeps s (s.fresh.vendorSetup u) := State.vendorSetup_keeps (fresh_keeps s) u
  have hx : ∀ r a k, Keeps s ((s.fresh.vendorSetup u).sampleWords r a k).2 :=
    fun r a k => State.sampleWords_keeps r a k h
  refine vendorRun_keeps s u _ (.ite ?refused (.ite ?partly (.ite ?complete ?waiting)))
  case refused => exact .emit (State.setResult_keeps (State.lastErr_keeps h _ _) _ _) _
  case partly =>
    exact .emit (State.setResult_keeps (State.lastErr_keeps (State.metOff_keeps (hx _ _ _) _) _ _) _ _) _
  case complete =>
    exact State.setResult_keeps (State.clearWords_keeps _ _ (.emit (State.metOff_keeps (hx _ _ _) _) _)) _ _
  case waiting => exact .emit (State.metOff_keeps (hx _ _ _) _) _

theorem execVendorWrite_keeps (u : Fin 5) (bm : Byte) (wValue wIndex wLength : BitVec 16) (bytes : List Byte)
    (complete : Bool) : Answers (execVendorWrite u bm wValue wIndex wLength bytes complete s) (Keeps s) := by
  have h : Keeps s (s.fresh.vendorSetup u) := State.vendorSetup_keeps (fresh_keeps s) u
  refine vendorRun_keeps s u _ (.ite (.ite ((h.raise _).modUp _ _) (h.upd rfl)) ?_)
  exact .emit (State.setResult_keeps (State.writeFrame_keeps h _ _ _ _) _ _) _

theorem execVendorStatus_keeps (u : Fin 5) (bm : Byte) (wValue wIndex wLength : BitVec 16) :
    Answers (execVendorStatus u bm wValue wIndex wLength s) (Keeps s) :=
  vendorRun_keeps s u _ ((State.vendorSetup_keeps (fresh_keeps s) u).emit _)

theorem execShortFrame_keeps (onI2c : Bool) (bytes : List Byte) : Answers (execShortFrame onI2c bytes s) (Keeps s) :=
  .ite (onI2c_keeps s _ _) (.guarded (State.wireWrite_keeps (fresh_keeps s) _ _))

theorem execSpiUnknownCommand_keeps (onI2c : Bool) (cmd : Byte) :
    Answers (execSpiUnknownCommand onI2c cmd s) (Keeps s) :=
  .ite (.done (fresh_keeps s)) (.ite (onI2c_keeps s _ _) (.guarded (State.wireUnknown_keeps (fresh_keeps s) _)))

theorem execVoteDisagree_keeps (addr : BitVec 24) (lo : Fin 32) (copy : Fin 3) (v : Word) :
    Answers (execVoteDisagree addr lo copy v s) (Keeps s) := by
  unfold execVoteDisagree
  split
  · exact .done (fresh_keeps s)
  next f _ =>
    extract_lets x c d m old rest same src s1 s2 s3
    refine .guarded ?_
    have h1 : Keeps s s1 := by
      have h := (fresh_keeps s).wr f m
      change Keeps s { s.fresh.wr f m with copies := if same = true then rest else KMap.insert rest f.key d }
      split
      · exact h.eraseCopy f.key
      · exact h.setCopies f.key d
    have h2 : Keeps s s2 := .ite (State.wordEffect_keeps h1 _ _ _ _ _) h1
    have h3 : Keeps s s3 := State.record_keeps (.bump (State.edge_keeps h2 _) _ _) _ _
    refine .ite h2 ?_
    split
    · exact .ite (State.record_keeps (h3.elapsedUs _) _ _) (h3.elapsedUs _)
    · exact h3

theorem execVoteRewrite_keeps (addr : BitVec 24) (lo : Fin 32) : Answers (execVoteRewrite addr lo s) (Keeps s) := by
  unfold execVoteRewrite
  split
  · exact .done (fresh_keeps s)
  · exact .guarded ((fresh_keeps s).rewriteVote _ _)

/-! ## Mailboxes -/

theorem execMbxCaptureStart_keeps (m : Fin 8) : Answers (execMbxCaptureStart m s) (Keeps s) := by
  have h := (fresh_keeps s).wr (MBX.CTRL.PART m) 0
  exact .guarded (.ite (h.modMb _ _) (h.modMb _ _))

theorem execMbxCaptureComplete_keeps (m : Fin 8) (flashOk : Bool) :
    Answers (execMbxCaptureComplete m flashOk s) (Keeps s) := by
  have h := ((fresh_keeps s).wr (MBX.CTRL.BUSY m) 0).modMb m (fun x => { x with running := false })
  exact .guarded (.ite (h.wr _ _) (.ite (h.wr _ _) (h.raise _)))

/-! ## Type-C and moisture -/

theorem execCcAttachSeen_keeps (n : Fin 52) (sight : Sys2Proof.CcSight) :
    Answers (execCcAttachSeen n sight s) (Keeps s) := by
  have h := (fresh_keeps s).wr (PRT.TCSTS.TCSTATE n) 2
  refine .ite (.done (State.upSeen_keeps (fresh_keeps s) _ _)) (.guarded ?_)
  cases sight with
  | rd cc2 ra => exact (h.wr _ _).modPort _ _
  | accessory => exact h.modPort _ _
  | rp cc2 cur => exact (h.wr _ _).modPort _ _

theorem execCcDebounceExpire_keeps (n : Fin 52) : Answers (execCcDebounceExpire n s) (Keeps s) := by
  have h := fresh_keeps s
  refine .done (.ite (State.upDebounced_keeps h _) (.ite h (.ite ?seen (.ite ?sink h))))
  case seen =>
    split
    · exact State.attachSource_keeps h _ _ _
    · exact (h.wr _ _).modPort _ _
    · exact (h.wr _ _).raise _
  case sink => exact (((h.wr _ _).wr _ _).raise _).modPort _ _

theorem execCcTerminationLost_keeps (n : Fin 52) : Answers (execCcTerminationLost n s) (Keeps s) :=
  .ite (.guarded (State.upUnattached_keeps (fresh_keeps s) _)) (.guarded (((fresh_keeps s).wr _ _).wr _ _))

theorem execDrpToggle_keeps (n : Fin 52) : Answers (execDrpToggle n s) (Keeps s) :=
  .ite (.guarded ((fresh_keeps s).modUp _ _)) (.guarded ((fresh_keeps s).modPort _ _))

theorem execDrpTryExpire_keeps (n : Fin 52) : Answers (execDrpTryExpire n s) (Keeps s) :=
  .ite (.guarded ((fresh_keeps s).modUp _ _))
    (.guarded (.ite ((fresh_keeps s).modPort _ _) (((fresh_keeps s).wr _ _).wr _ _)))

theorem execTryCcDebounceExpire_keeps (n : Fin 52) (cc2 : Bool) (far : Sys2Proof.FarEnd) :
    Answers (execTryCcDebounceExpire n cc2 far s) (Keeps s) :=
  .ite (.done (State.upTryDebounced_keeps (fresh_keeps s) _ _ _))
    (.guarded (State.attachSource_keeps (fresh_keeps s) _ _ _))

theorem execTryTimeout_keeps (n : Fin 52) : Answers (execTryTimeout n s) (Keeps s) :=
  .ite (.guarded (State.upUnattached_keeps (fresh_keeps s) _))
    (.guarded ((((fresh_keeps s).wr _ _).wr _ _).modPort _ _))

theorem execSrcDisconnect_keeps (n : Fin 52) : Answers (execSrcDisconnect n s) (Keeps s) := by
  have h := fresh_keeps s
  refine .done (.ite (.ite (State.upUnattached_keeps h _) h) (.ite (.ite ?dusk (State.detach_keeps h _)) (.ite ?acc h)))
  case dusk =>
    have off := State.gateOff_keeps (State.vconnOff_keeps (State.modeExit_keeps h n) n) n false
    exact (State.discharge_keeps off _).modPort _ _
  case acc => exact ((h.wr _ _).wr _ _).raise _

theorem execSinkVbusLost_keeps (n : Fin 48) : Answers (execSinkVbusLost n s) (Keeps s) :=
  .guarded ((((State.pdForget_keeps (fresh_keeps s) _).wr _ _).wr _ _).wr _ _)

theorem execMoistureCheckComplete_keeps (n : Fin 48) (leak : LeakSet) :
    Answers (execMoistureCheckComplete n leak s) (Keeps s) := by
  unfold execMoistureCheckComplete
  extract_lets p m bad low s1 s2
  refine .guarded ?_
  have h1 : Keeps s s1 := ((fresh_keeps s).modPort _ _).wr _ _
  have h2 : Keeps s s2 := .ite h1 (h1.raise _)
  exact .ite ((((State.wetEnd_keeps h1 _).wr _ _).raise _).modPort _ _)
    ((((((h2.wr _ _).raise _).wr _ _).wr _ _).flag _ _).flag _ _)

/-! ## Budget -/

theorem execShedStart_keeps : Answers (execShedStart s) (Keeps s) := by
  unfold execShedStart
  extract_lets s0 s1 s2 s3
  refine .guarded ?_
  have h1 : Keeps s s1 := (fresh_keeps s).forEach _ _ (fun _ _ k => (State.walkFail_keeps _ _ k).modQuad _ _)
  have h3 : Keeps s s3 := State.walkOff_keeps _ (State.walkReduce_keeps _ h1)
  exact (h3.upd rfl).raise _

theorem execReadvExpire_keeps (n : Fin 48) : Answers (execReadvExpire n s) (Keeps s) := by
  have h := (fresh_keeps s).modPort n (fun p => { p with readvRun := false })
  exact .guarded (.ite (State.readvertise_keeps h _ _) h)

theorem execPe0Rebuild_keeps : Answers (execPe0Rebuild s) (Keeps s) := by
  unfold execPe0Rebuild
  extract_lets s0 s1 s2 s3 back pool more
  refine .guarded ?_
  have h1 : Keeps s s1 := by
    refine (fresh_keeps s).forEach _ _ (fun t n k => ?_)
    exact .ite ((k.wr _ _).wr _ _) (State.clearMark_keeps ((k.wr _ _).wr _ _) _)
  have h3 : Keeps s s3 := (State.sumBooks_keeps h1).forEach _ _ (fun _ _ k => k.modQuad _ _)
  have hb : Keeps s back :=
    h3.forEach _ _ (fun _ _ k => State.pmaxShed_keeps (State.rpFollow_keeps (State.tryApply_keeps k _) _) _)
  exact (hb.upd rfl).raise _

theorem execQuadWarnEnter_keeps (q : Fin 12) : Answers (execQuadWarnEnter q s) (Keeps s) :=
  .guarded (State.alertQuad_keeps ((((fresh_keeps s).raise _).raise _).raise _) _)

theorem execQuadWarnExit_keeps (q : Fin 12) : Answers (execQuadWarnExit q s) (Keeps s) :=
  .guarded (State.alertQuad_keeps (((fresh_keeps s).wr _ _).raise _) _)

theorem execQuadFailEnter_keeps (q : Fin 12) : Answers (execQuadFailEnter q s) (Keeps s) := by
  unfold execQuadFailEnter
  extract_lets s1 src s2
  refine .guarded ?_
  have h1 : Keeps s s1 := (((fresh_keeps s).raise _).raise _).raise _
  have h2 : Keeps s s2 := (h1.modQuad _ _).upd rfl
  exact .ite h2 (State.dieShed_keeps h2 _)

theorem execQuadFailExit_keeps (q : Fin 12) : Answers (execQuadFailExit q s) (Keeps s) := by
  unfold execQuadFailExit
  extract_lets s1 acted s2
  refine .guarded ?_
  have h2 : Keeps s s2 := (((fresh_keeps s).wr _ _).raise _).modQuad _ _
  exact .ite (State.endMarks_keeps h2 _) h2

/-! ## The electronic fuse -/

theorem execPowerGood_keeps (n : Fin 48) : Answers (execPowerGood n s) (Keeps s) := by
  unfold execPowerGood
  extract_lets p s1 c s2
  refine .guarded ?_
  have h1 : Keeps s s1 := (((fresh_keeps s).raise _).raise _).wr _ _
  have h2 : Keeps s s2 := .ite (State.setC_keeps h1 _ _) (State.setK_keeps (State.setC_keeps h1 _ _) _ _)
  exact h2.modPort _ _

theorem execLimitEngage_keeps (n : Fin 48) : Answers (execLimitEngage n s) (Keeps s) := by
  have h := ((fresh_keeps s).raise (PRT.FUSSTS.LIMIT n)).raise (PRT.FUSEVT.LIMITIN n)
  exact .guarded (.ite ((h.raise _).modPort _ _) h)

theorem execSelfTestComplete_keeps (n : Fin 48) (pass : Bool) : Answers (execSelfTestComplete n pass s) (Keeps s) := by
  unfold execSelfTestComplete
  extract_lets p s1 k s2
  refine .guarded ?_
  have h1 : Keeps s s1 := (fresh_keeps s).modPort _ _
  have h2 : Keeps s s2 := .ite (State.powerCut_keeps h1 _) h1
  refine .ite ?failed (.ite (State.tryApply_keeps h1 _) (.ite (h1.modPort _ _) ?latched))
  case failed => exact State.record_keeps (State.latchOff_keeps ((h2.raise _).raise _) _) _ _
  case latched => exact State.record_keeps (State.latchOff_keeps h1 _) _ _

theorem execVbusDischarged_keeps (n : Fin 48) : Answers (execVbusDischarged n s) (Keeps s) := by
  have h := State.vbusGone_keeps (fresh_keeps s) n
  exact .guarded (.ite (State.vbusLoss_keeps (h.modPort _ _) _) (State.tryApply_keeps h _))

theorem execRampEnd_keeps (n : Fin 48) : Answers (execRampEnd n s) (Keeps s) := by
  unfold execRampEnd
  extract_lets s1
  refine .guarded ?_
  have h1 : Keeps s s1 := (fresh_keeps s).modPort _ _
  exact .ite (h1.emit _) h1

theorem execPortDieOvertemp_keeps (i : Fin 4) : Answers (execPortDieOvertemp i s) (Keeps s) := by
  unfold execPortDieOvertemp
  extract_lets s1
  refine .guarded ?_
  have h1 : Keeps s s1 := (fresh_keeps s).forEach _ _ (fun _ _ k => .ite (State.powerCut_keeps k _) k)
  exact State.condBegin_keeps ((h1.modSec _ _).orBits _ _) _ _

/-! ## Power Delivery -/

theorem execPsHardResetExpire_keeps (n : Fin 48) : Answers (execPsHardResetExpire n s) (Keeps s) := by
  unfold execPsHardResetExpire
  extract_lets s1 s2
  refine .guarded ?_
  have h1 : Keeps s s1 := (State.gateOff_keeps (State.vconnOff_keeps (fresh_keeps s) _) _ _).wr _ _
  have h2 : Keeps s s2 := State.discharge_keeps (h1.modPort _ _) _
  exact .ite h2 (State.vbusLoss_keeps (h2.modPort _ _) _)

theorem execSrcTransitionExpire_keeps (n : Fin 48) : Answers (execSrcTransitionExpire n s) (Keeps s) := by
  refine .guarded ?_
  split
  · exact (fresh_keeps s).modPort _ _
  · extract_lets code want s1 fall s2 s3
    have h1 : Keeps s s1 := .ite ((fresh_keeps s).wr _ _) (fresh_keeps s)
    have h2 : Keeps s s2 := State.fbiDrive_keeps h1 _ _
    have h3 : Keeps s s3 := .ite (h2.emit _) h2
    exact .ite (h1.modPort _ _) (h3.modPort _ _)

theorem execPsRdySend_keeps (n : Fin 48) : Answers (execPsRdySend n s) (Keeps s) := by
  refine .guarded ?_
  split
  · exact fresh_keeps s
  · extract_lets same s1 s2 s3 c s4
    have h1 : Keeps s s1 := (((fresh_keeps s).emit _).raise _).wr _ _
    have h3 : Keeps s s3 := ((h1.wr _ _).wr _ _).modPort _ _
    have h4 : Keeps s s4 :=
      State.rpSettle_keeps (State.setIset_keeps (State.setK_keeps (State.setC_keeps h3 _ _) _ _) _) _
    exact .ite h4 (h4.orBits _ _)

theorem execOtherVdm_keeps (n : Fin 48) (cmd : BitVec 5) : Answers (execOtherVdm n cmd s) (Keeps s) :=
  .done ((State.receive_keeps (fresh_keeps s) _ _).upd rfl)

theorem execSenderResponseTimeout_keeps (n : Fin 48) : Answers (execSenderResponseTimeout n s) (Keeps s) := by
  have h := fresh_keeps s
  refine .guarded (.ite (.ite ?ignored (.ite ?retried (State.errorRecovery_keeps h _))) (.ite ?swap h))
  case ignored => exact ((State.hardReset_keeps h _ _).raise _).bump _ _
  case retried => exact (State.hardReset_keeps h _ _).modPort _ _
  case swap => exact State.rpSettle_keeps (h.modPort _ _) _

theorem execPdMessageFailed_keeps (n : Fin 48) (toCable : Bool) :
    Answers (execPdMessageFailed n toCable s) (Keeps s) := by
  have h := fresh_keeps s
  refine .guarded (.ite (.ite ?cable h) (.ite (State.hardReset_keeps h _ _) (.ite (h.modPort _ _) h)))
  case cable => exact State.rpSettle_keeps ((h.wr _ _).modPort _ _) _

theorem execBudgetRequest_keeps (n : Fin 48) (raise : Option PdReq) :
    Answers (execBudgetRequest n raise s) (Keeps s) := by
  cases raise with
  | none => exact .guarded (State.serveAsk_keeps (fresh_keeps s) _)
  | some r => exact .done (State.receive_keeps (fresh_keeps s) _ _)

theorem execVconnOvercurrent_keeps (n : Fin 48) : Answers (execVconnOvercurrent n s) (Keeps s) :=
  .guarded (State.record_keeps (State.rpSettle_keeps
    ((((State.vconnOff_keeps (fresh_keeps s) _).bump _ _).orBits _ _).modPort _ _) _) _ _)

/-! ## Hub ports and personalities -/

theorem execSetPortFeaturePortReset_keeps (u : Fin 4) (i : Byte) :
    Answers (execSetPortFeaturePortReset u i s) (Keeps s) :=
  .done (State.portReq_keeps (fresh_keeps s) _ _ _ _ _
    (fun _ _ k => .ite ((State.hubDo_keeps k _ _).setView _ _ _) (State.hubDo_keeps k _ _)) (fun _ _ k => k))

theorem execSetPortFeaturePortSuspend_keeps (u : Fin 4) (i : Byte) :
    Answers (execSetPortFeaturePortSuspend u i s) (Keeps s) :=
  .done (State.portReq_keeps (fresh_keeps s) _ _ _ _ _
    (fun _ _ k => .ite ((State.hubDo_keeps k _ _).setView _ _ _) (State.hubDo_keeps k _ _)) (fun _ _ k => k))

theorem execGetPortStatus_keeps (u : Fin 4) (i : Byte) : Answers (execGetPortStatus u i s) (Keeps s) := by
  refine .done (State.hubReq_keeps (fresh_keeps s) _ _ _ (fun t k => ?_))
  split
  · exact k.emit _
  · exact k.emit _

theorem execUsbConnect_keeps (n : Fin 48) (low : Bool) : Answers (execUsbConnect n low s) (Keeps s) :=
  .guarded (State.ldsAttach_keeps (State.setHub_keeps
    ((((fresh_keeps s).hubEvt _ _).raise _).flag _ _) _ _) _)

theorem execPortResetEnd_keeps (n : Fin 48) : Answers (execPortResetEnd n s) (Keeps s) := by
  unfold execPortResetEnd
  extract_lets hs s1 s2
  refine .guarded ?_
  have h1 : Keeps s s1 :=
    (((State.setHub_keeps ((fresh_keeps s).emit _) _ _).flag _ _).hubEvt _ _).modPort _ _
  have h2 : Keeps s s2 := .ite ((State.rtQueue_keeps h1 _ _ _ _).modUp _ _) h1
  exact .ite (h2.modLds _ _) h2

theorem execResumeDriveEnd_keeps (n : Fin 48) : Answers (execResumeDriveEnd n s) (Keeps s) := by
  have h := (fresh_keeps s).emit (.eor n)
  exact .guarded (.ite ((State.setHub_keeps h _ _).modPort _ _) (State.setHub_keeps h _ _))

theorem execPortRestartEnd_keeps (n : Fin 48) : Answers (execPortRestartEnd n s) (Keeps s) := by
  unfold execPortRestartEnd
  extract_lets s1 s2
  refine .guarded ?_
  have h1 : Keeps s s1 := .modPort (State.ttReset_keeps (State.portToImage_keeps (fresh_keeps s) _) _) _ _
  have h2 : Keeps s s2 := .ite (h1.setView _ _ _) h1
  exact State.evalDemand_keeps (State.handoverRelease_keeps h2 _) _

theorem execBusReset_keeps (u : Fin 4) (hs : Bool) : Answers (execBusReset u hs s) (Keeps s) := by
  have h := fresh_keeps s
  refine .done (.ite (.ite h ?rescue) (.ite (State.busResetEffect_keeps h _ _) h))
  case rescue => exact .upd (State.rescState_keeps (State.mbxRelease_keeps (State.updAbort_keeps h _) _) _ _) rfl

theorem execStatusChangeIn_keeps (u : Fin 4) : Answers (execStatusChangeIn u s) (Keeps s) := by
  have h := fresh_keeps s
  exact .guarded (.ite (h.emit _) (.ite ((h.emit _).modUp _ _) (h.emit _)))

theorem execStatusChangeAck_keeps (u : Fin 4) : Answers (execStatusChangeAck u s) (Keeps s) :=
  .guarded (.modUp (.forEach (fresh_keeps s) _ _ (fun _ _ k => k.setView _ _ _)) _ _)

theorem execSuspend_keeps (u : Fin 4) : Answers (execSuspend u s) (Keeps s) :=
  .guarded (.forEach (((fresh_keeps s).raise _).raise _) _ _ (fun _ _ k => (State.mtrPause_keeps k _).modPort _ _))

theorem execUpstreamKEnd_keeps (u : Fin 4) : Answers (execUpstreamKEnd u s) (Keeps s) := by
  have h := ((fresh_keeps s).emit (.upRelease u)).modUp u (fun x => { x with kStarted := false, hostResume := true })
  exact .guarded (.ite h (State.partResume_keeps h _))

theorem execHostResume_keeps (u : Fin 4) : Answers (execHostResume u s) (Keeps s) :=
  .guarded (State.partResume_keeps (.modUp (.ite ((fresh_keeps s).raise _) (fresh_keeps s)) _ _) _)

theorem execResumeEop_keeps (u : Fin 4) : Answers (execResumeEop u s) (Keeps s) := by
  unfold execResumeEop
  extract_lets woke s0 s1 s2
  refine .guarded ?_
  have h0 : Keeps s s0 := (fresh_keeps s).wr _ _
  have h1 : Keeps s s1 := .ite h0 (h0.raise _)
  have h2 : Keeps s s2 := .ite ((h1.raise _).bump _ _) h1
  exact .modUp (h2.forEach _ _ (fun _ _ k => State.resumePort_keeps k _ _)) _ _

theorem execHostSof_keeps (u : Fin 4) (frame : BitVec 11) (uf : BitVec 3) :
    Answers (execHostSof u frame uf s) (Keeps s) :=
  .guarded (.forEach ((fresh_keeps s).modUp _ _) _ _ (fun _ _ k => State.portSof_keeps k _ _))

/-! ## Transaction translators and Meteor -/

theorem execSsplitNonperiodic_keeps (u : Fin 4) (i : BitVec 7) (adr : BitVec 7) (ep : BitVec 4)
    (tok : Sys2Proof.SplitTok) (low crcOk : Bool) :
    Answers (execSsplitNonperiodic u i adr ep tok low crcOk s) (Keeps s) := by
  refine .done ?_
  split
  · exact (fresh_keeps s).emit _
  next n _ =>
    extract_lets inn key p m t buf s1
    have h : Keeps s t := State.holdTouch_keeps (fresh_keeps s) _ _ _ _
    have h1 : Keeps s s1 := (State.iqPass_keeps (h.modPort _ _) _ _).emit _
    refine .ite ((h.bump _ _).emit _) (.ite (h.emit _) ?_)
    split
    · exact State.holdBegin_keeps h1 _ _ _ _ _
    · exact h1

theorem execCsplitNonperiodic_keeps (u : Fin 4) (i : BitVec 7) (adr : BitVec 7) (ep : BitVec 4) (dirIn : Bool) :
    Answers (execCsplitNonperiodic u i adr ep dirIn s) (Keeps s) := by
  refine .done ?_
  split
  · exact (fresh_keeps s).emit _
  next n _ =>
    extract_lets key t
    have h : Keeps s t := State.holdTouch_keeps (fresh_keeps s) _ _ _ _
    split
    · exact h.emit _
    · split
      · exact State.ctlAnswer_keeps ((h.modPort _ _).emit _) _ _ _ _
      · exact h.emit _

theorem execTtTransactionComplete_keeps (n : Fin 48) (d : Dev) :
    Answers (execTtTransactionComplete n d s) (Keeps s) := by
  have h := fresh_keeps s
  refine .done ?_
  split
  next bf _ =>
    extract_lets held s1
    have h1 : Keeps s s1 := by
      unfold s1
      clear_value held
      split
      · exact State.iqPass_keeps (h.emit _) _ _
      · exact .ite (State.badIn_keeps h _) h
    exact State.wireFree_keeps (h1.modPort _ _) _
  next =>
    split
    · exact h
    next r _ =>
      extract_lets held s1
      have h1 : Keeps s s1 := by
        unfold s1
        clear_value held
        split
        · exact .ite (State.iqPass_keeps h _ _) (State.iqPass_keeps (State.almToggle_keeps (h.emit _) _ _ _) _ _)
        · exact State.almToggle_keeps h _ _ _
        · exact .ite (State.badIn_keeps h _) h
      exact State.wireFree_keeps (h1.modPort _ _) _

theorem execSsplitPeriodic_keeps (u : Fin 4) (i : BitVec 7) (adr : BitVec 7) (ep : BitVec 4)
    (dirIn iso low behindHub tog : Bool) (bytes : List Byte) :
    Answers (execSsplitPeriodic u i adr ep dirIn iso low behindHub tog bytes s) (Keeps s) := by
  have h := fresh_keeps s
  refine .done ?_
  split
  · exact h
  next n _ =>
    extract_lets key m r e k full stopped room put see late
    have hput : ∀ {t} x, Keeps s t → Keeps s (put t x) := fun _ k => State.iqPass_keeps (k.modPort _ _) _ _
    have hsee : ∀ {t}, Keeps s t → Keeps s (see t) := fun k => State.almSee_keeps k _ _ _ _ _ _
    have hlate : Keeps s late := .ite (h.bump _ _) (h.bump _ _)
    refine .ite (.ite hlate (hsee hlate)) ?_
    clear_value full
    split
    · extract_lets t
      have ht : Keeps s t := (hput _ h).setAlm _ _ _
      refine hsee ?_
      split
      · exact (ht.bump _ _).modPort _ _
      · exact ht
      · exact (ht.bump _ _).modPort _ _
    · exact .ite (hsee ((hput _ h).setAlm _ _ _)) (.ite (hsee ((hput _ h).setAlm _ _ _)) (hsee (hput _ h)))

theorem execCsplitPeriodic_keeps (u : Fin 4) (i : BitVec 7) (adr : BitVec 7) (ep : BitVec 4)
    (tok : Sys2Proof.CsplitTok) : Answers (execCsplitPeriodic u i adr ep tok s) (Keeps s) := by
  have h := fresh_keeps s
  refine .done ?_
  split
  · exact h.emit _
  next n _ =>
    extract_lets key
    split
    · exact h.emit _
    next r _ =>
      extract_lets freed
      have hf : Keeps s freed := h.modPort _ _
      split
      · exact .ite ((h.modPort _ _).emit _) (hf.emit _)
      · exact hf.emit _
      · exact hf.emit _
      · exact .ite ((h.modPort _ _).emit _) (h.emit _)
      · exact h.emit _

theorem execClearTtBuffer_keeps (u : Fin 4) (wValue : BitVec 16) (i : Byte) :
    Answers (execClearTtBuffer u wValue i s) (Keeps s) := by
  refine .done (State.ttReq_keeps (fresh_keeps s) _ _ _ _ (fun _ _ k => State.clearTt_keeps k _ _) (fun t k => ?_))
  split
  · exact .ite (State.clearTt_keeps k _ _) k
  · exact k

theorem execResetTt_keeps (u : Fin 4) (i : Byte) : Answers (execResetTt u i s) (Keeps s) :=
  .done (State.ttReq_keeps (fresh_keeps s) _ _ _ _ (fun _ _ k => State.ttReset_keeps k _)
    (fun _ k => k.forEach _ _ (fun _ _ k => State.ttReset_keeps k _)))

theorem execTtNonperiodicStart_keeps (at_ : Sys2Proof.PortTime) :
    Answers (execTtNonperiodicStart at_ s) (Keeps s) := by
  refine .guarded ?_
  split
  · exact fresh_keeps s
  · exact ((fresh_keeps s).emit _).modPort _ _

theorem execPrefetchOutcome_keeps (n : Fin 48) (k : Fin 16) (d : Dev) :
    Answers (execPrefetchOutcome n k d s) (Keeps s) := by
  have h := fresh_keeps s
  refine .done ?_
  split
  · exact h
  next mode _ =>
    extract_lets held tog e1 s1 e2 s2
    have h1 : Keeps s s1 := by
      unfold s1
      split
      · exact State.iqPass_keeps (.ite (h.emit _) h) _ _
      · exact .ite (State.badIn_keeps h _) h
    have h2 : Keeps s s2 := State.wireFree_keeps (h1.setAlm _ _ _) _
    refine .ite ?polled (.ite (.ite (h2.bump _ _) h2) (State.wireFree_keeps (h1.setAlm _ _ _) _))
    case polled => exact State.wireFree_keeps (State.polledOutcome_keeps (h1.setAlm _ _ _) _ _ _ _ _) _

/-! ## The switch -/

theorem execHostSetup_keeps (u : Fin 4) (adr : BitVec 7) (ep : BitVec 4) (req : BitVec 64) (crcOk : Bool) :
    Answers (execHostSetup u adr ep req crcOk s) (Keeps s) := by
  have h := fresh_keeps s
  have own := State.ownSetup_keeps h u (Setup.ofBits req)
  exact .done (.ite (.ite own (h.emit _)) (.ite (.ite own (h.emit _)) (State.relaySetup_keeps h _ _ _ _ _)))

theorem execHostPing_keeps (u : Fin 4) (adr : BitVec 7) (ep : BitVec 4) :
    Answers (execHostPing u adr ep s) (Keeps s) := by
  have h := fresh_keeps s
  refine .done (.ite (State.ownOut_keeps h _ _) (State.relay_keeps h _ _ _ (fun t n k => ?_)))
  split
  · exact State.giveStop_keeps k _ _ _
  · exact .ite (k.emit _) (State.admNak_keeps k _)

theorem execHostIn_keeps (u : Fin 4) (adr : BitVec 7) (ep : BitVec 4) (acked : Bool) :
    Answers (execHostIn u adr ep acked s) (Keeps s) := by
  refine .ite (.ite ?change (.done ((fresh_keeps s).emit _))) (.done (State.relayIn_keeps (fresh_keeps s) _ _ _ _))
  case change =>
    obtain ⟨t, ht, kt⟩ := execStatusChangeIn_keeps s u
    obtain ⟨v, hv, kv⟩ := execStatusChangeAck_keeps t u
    simp only [ht, hv]
    exact .ite (.done ((kt.trans kv).upd rfl)) ⟨t, rfl, kt⟩

theorem execHostIsoIn_keeps (u : Fin 4) (adr : BitVec 7) (ep : BitVec 4) :
    Answers (execHostIsoIn u adr ep s) (Keeps s) := by
  refine .done (.ite ((fresh_keeps s).emit _) (State.relay_keeps (fresh_keeps s) _ _ _ (fun t n k => ?_)))
  refine .ite (k.emit _) ?_
  extract_lets s1
  have h1 : Keeps s s1 := State.modSlot_keeps k _ _ _ _
  split
  · exact (h1.bump _ _).emit _
  · refine State.askIn_keeps ?_ _ _ _ _
    split
    · exact State.dropHeld_keeps (State.modSlot_keeps (h1.emit _) _ _ _ _) _ _
    · exact h1.emit _

theorem execHostIsoOut_keeps (u : Fin 4) (adr : BitVec 7) (ep : BitVec 4) (pid : Fin 4) (bytes : List Byte)
    (crcOk : Bool) : Answers (execHostIsoOut u adr ep pid bytes crcOk s) (Keeps s) := by
  refine .done (.ite ((fresh_keeps s).emit _) (State.relay_keeps (fresh_keeps s) _ _ _ (fun t n k => ?_)))
  refine .ite (k.bump _ _) (.ite (((State.iqThrough_keeps k _ _).bump _ _).bump _ _) ?_)
  extract_lets id s1
  have h1 : Keeps s s1 := State.begin_keeps k _ _ _ _ _ _ _ _ _
  split
  · exact State.trim_keeps h1 _
  · exact h1

theorem execIsoOutLateDiscard_keeps (id : Nat) : Answers (execIsoOutLateDiscard id s) (Keeps s) := by
  refine .done ?_
  split
  · exact fresh_keeps s
  · exact .ite ((State.dropPkt_keeps (fresh_keeps s) _).bump _ _) (fresh_keeps s)

theorem execIsoHeldExpire_keeps (n : Fin 48) (adr : BitVec 7) (ep : BitVec 4) :
    Answers (execIsoHeldExpire n adr ep s) (Keeps s) := by
  refine .done ?_
  split
  · exact .ite ((State.dropHeld_keeps (State.modSlot_keeps (fresh_keeps s) _ _ _ _) _ _).bump _ _) (fresh_keeps s)
  · exact fresh_keeps s

theorem execCutThroughStart_keeps (id : Nat) : Answers (execCutThroughStart id s) (Keeps s) := by
  refine .done ?_
  split
  · exact fresh_keeps s
  · exact .ite (State.modPkt_keeps (fresh_keeps s) _ _) (fresh_keeps s)

theorem execFabricBeat_keeps (id : Nat) (out : Fin 53) : Answers (execFabricBeat id out s) (Keeps s) := by
  have h := fresh_keeps s
  refine .done ?_
  split
  · exact h
  · refine .ite h (.ite (.ite (State.copyBeat_keeps h _) h) (.ite h ?_))
    exact State.record_keeps (State.edge_keeps (State.voidPkt_keeps h _ _) _) _ _

theorem execPacketTail_keeps (id : Nat) (crcOk : Bool) : Answers (execPacketTail id crcOk s) (Keeps s) := by
  have h := fresh_keeps s
  refine .done ?_
  split
  · exact h
  next p _ =>
    have good : ∀ q, Keeps s (s.fresh.modPkt id q) := fun q => State.modPkt_keeps h id q
    extract_lets s1 s2
    have h1 : Keeps s s1 := State.fallSettle_keeps (State.produce_keeps (State.trim_keeps (good _) _) _)
    have h2 : Keeps s s2 := .ite (h1.modUp _ _) h1
    refine .ite h (.ite (State.dropPkt_keeps (State.produce_keeps (good _) _) _)
      (.ite (State.voidTail_keeps h _ _) (.ite ?_ (.ite ((h2.bump _ _).emit _) (h2.emit _)))))
    split
    · exact .ite h1 (h1.emit _)
    · exact h1

theorem execPacketRelease_keeps (id : Nat) : Answers (execPacketRelease id s) (Keeps s) := by
  have h := fresh_keeps s
  refine .done ?_
  split
  · exact h
  next p _ =>
    have hdrop := State.dropPkt_keeps h id
    refine .ite h (.ite ?stale (.ite h ?released))
    case stale =>
      extract_lets s1
      have h1 : Keeps s s1 := hdrop.bump _ _
      split
      · exact .ite (State.modSlot_keeps h1 _ _ _ _) h1
      · exact h1
    case released =>
      split
      · exact State.modSlot_keeps (State.modPkt_keeps h _ _) _ _ _ _
      · exact .ite h (.ite (State.dropPkt_keeps (h.emit _) _) (hdrop.bump _ _))
      · exact State.modPkt_keeps (h.emit _) _ _

theorem execDownstreamOutResponse_keeps (n : Fin 48) (d : Dev) :
    Answers (execDownstreamOutResponse n d s) (Keeps s) := by
  have h := fresh_keeps s
  refine .done ?_
  split
  · exact h
  next p _ =>
    extract_lets retry s1
    have hretry : Keeps s (retry s.fresh) := State.modPkt_keeps h _ _
    have hdrop : Keeps s (s.fresh.dropPkt p.id) := State.dropPkt_keeps h _
    have h1 : Keeps s s1 := hdrop.foldl _ _ (fun _ _ k => State.dropPkt_keeps k _)
    split
    · exact .ite (State.needPing_keeps hretry _ _ _) (State.needPing_keeps hdrop _ _ _)
    · exact .ite (State.outError_keeps h _ _) (State.needPing_keeps hdrop _ _ _)
    · exact .ite hretry (State.needPing_keeps hretry _ _ _)
    · exact State.modSlot_keeps (State.needPing_keeps h1 _ _ _) _ _ _ _
    · exact State.outError_keeps h _ _

theorem execDownstreamInResponse_keeps (n : Fin 48) (adr : BitVec 7) (ep : BitVec 4) (d : Dev) :
    Answers (execDownstreamInResponse n adr ep d s) (Keeps s) := by
  have h := fresh_keeps s
  refine .done ?_
  split
  · exact h
  · split
    · exact State.produce_keeps (State.modPkt_keeps h _ _) _
    · exact State.inEmpty_keeps h _ _ _
    · exact State.inEmpty_keeps h _ _ _
    · exact State.inEmpty_keeps h _ _ _

theorem execRelaySlotFree_keeps (n : Fin 48) (adr : BitVec 7) (ep : BitVec 4) (dirIn : Bool) :
    Answers (execRelaySlotFree n adr ep dirIn s) (Keeps s) := by
  refine .done ?_
  split
  · exact .ite ((fresh_keeps s).modPort _ _) (fresh_keeps s)
  · exact fresh_keeps s

/-! ## Packet memory -/

theorem execCorrectedError_keeps (line : Fin 32768) : Answers (execCorrectedError line s) (Keeps s) :=
  .done (State.listLine_keeps (State.edgeAtMeridian_keeps ((fresh_keeps s).bump _ _) _) _ _)

theorem execUncorrectableError_keeps (line : Sys2Proof.ErrLine) (at_ : Sys2Proof.ErrAt) :
    Answers (execUncorrectableError line at_ s) (Keeps s) := by
  have h := State.edge_keeps ((State.errAt_keeps (fresh_keeps s) at_).bump PKM.ECCCNT.UNCORR 1) 4
  exact .done (.ite (State.pnote_keeps h _) (State.pnote_keeps (State.listLine_keeps h _ _) _))

theorem execFenceStart_keeps : Answers (execFenceStart s) (Keeps s) := by
  have h := fresh_keeps s
  refine .done ?_
  split
  next line rest _ _ =>
    extract_lets d mode whole holder q left s1 s2 s3
    have hh : Keeps s holder.2 := .ite2 h (State.lineHolder_keeps h _)
    have h1 : Keeps s s1 := State.modFence_keeps (hh.modSw _) _
    have h2 : Keeps s s2 := (((((State.showPend_keeps h1).wr _ _).raise _).wr _ _).flag _ _).raise _
    have h3 : Keeps s s3 := State.pnote_keeps (State.granule_keeps h2 _ _) _
    exact .ite h (.ite (State.setPool_keeps h3 _) h3)
  next => exact h

theorem execFenceTestComplete_keeps (pass : Bool) : Answers (execFenceTestComplete pass s) (Keeps s) := by
  have h := fresh_keeps s
  refine .done (.ite h (.ite (State.fenceEnd_keeps (h.bump _ _) _) ?_))
  extract_lets s1 x
  have h1 : Keeps s s1 := h.bump _ _
  have hx : Keeps s x.2 := State.freePoolLine_keeps h1
  split
  · exact State.retire_keeps h1 _ _
  · split
    · exact State.retire_keeps hx _ _
    · exact State.condBegin_keeps (State.modFence_keeps (hx.wr _ _) _) _ _

theorem execReplacementAvailable_keeps : Answers (execReplacementAvailable s) (Keeps s) := by
  refine .done (.ite (fresh_keeps s) ?_)
  extract_lets x
  have hx : Keeps s x.2 := State.freePoolLine_keeps (fresh_keeps s)
  split
  · exact State.retire_keeps (State.condEnd_keeps hx _ _) _ _
  · exact fresh_keeps s

theorem execOverlayWritebackComplete_keeps : Answers (execOverlayWritebackComplete s) (Keeps s) :=
  .guarded (((fresh_keeps s).modSw _).wr _ _)

/-! ## Ownership of ports -/

theorem execHandoverReleasing_keeps (n : Fin 48) : Answers (execHandoverReleasing n s) (Keeps s) := by
  refine .done ?_
  split
  · exact fresh_keeps s
  · extract_lets s1
    have h1 : Keeps s s1 := State.toReleasing_keeps (fresh_keeps s) _ _ _
    exact .ite (fresh_keeps s) (.ite ((State.toTransit_keeps h1 _).modPort _ _) h1)

theorem execHandoverClaiming_keeps (n : Fin 48) : Answers (execHandoverClaiming n s) (Keeps s) := by
  unfold execHandoverClaiming
  extract_lets p st tgt s1
  refine .guarded ?_
  have h1 : Keeps s s1 := (((fresh_keeps s).wrVoted _ _).wrVoted _ _).modPort _ _
  exact .ite (h1.setView _ _ _) h1

theorem execHandoverOwned_keeps (n : Fin 48) : Answers (execHandoverOwned n s) (Keeps s) := by
  unfold execHandoverOwned
  extract_lets p s1 s2
  refine .guarded ?_
  have h1 : Keeps s s1 := (((fresh_keeps s).wrVoted _ _).wr _ _).bump _ _
  have h2 : Keeps s s2 := .ite (h1.bump _ _) h1
  exact State.evalDemand_keeps (h2.modPort _ _) _

theorem execInitialOwnershipApply_keeps : Answers (execInitialOwnershipApply s) (Keeps s) := by
  unfold execInitialOwnershipApply
  extract_lets s1 boot s2
  refine .guarded ?_
  have h1 : Keeps s s1 := (fresh_keeps s).forEach _ _ (fun _ _ k => (k.wrVoted _ _).wrVoted _ _)
  have h2 : Keeps s s2 := h1.upd rfl
  exact h2.forEach _ _ (fun _ _ k => State.evalDemand_keeps (k.modPort _ _) _)

/-! ## Lodestar -/

theorem execLdsEnumStart_keeps (n : Fin 48) : Answers (execLdsEnumStart n s) (Keeps s) :=
  .guarded ((State.setEntry_keeps (fresh_keeps s) _ _).modLds _ _)

theorem execLdsEnumWaitEnd_keeps (n : Fin 48) : Answers (execLdsEnumWaitEnd n s) (Keeps s) := by
  refine .done (.ite (fresh_keeps s) ?_)
  split
  · exact State.ldsGet_keeps (fresh_keeps s) _ _ _ _ _ _
  · exact State.ldsGet_keeps (fresh_keeps s) _ _ _ _ _ _
  · exact fresh_keeps s

theorem execLdsControlComplete_keeps (n : Fin 48) (d : Dev) : Answers (execLdsControlComplete n d s) (Keeps s) := by
  have h := fresh_keeps s
  refine .done (.ite h ?_)
  split
  · exact State.ldsData_keeps (State.iqPass_keeps h _ _) _ _
  · exact State.ldsAck_keeps h _
  · exact State.ldsBad_keeps h _ _
  · exact State.ldsBad_keeps (State.badIn_keeps h _) _ _
  · exact h

theorem execLdsHeartbeatPoll_keeps (n : Fin 48) (behind : Bool) :
    Answers (execLdsHeartbeatPoll n behind s) (Keeps s) := by
  have h := (fresh_keeps s).modLds n (fun l => { l with polledAt := s.now + 1 })
  exact .guarded (.ite (State.hbMiss_keeps (h.bump _ _) _) ((h.emit _).modLds _ _))

theorem execLdsHeartbeatOutcome_keeps (n : Fin 48) (d : Dev) : Answers (execLdsHeartbeatOutcome n d s) (Keeps s) := by
  have h := fresh_keeps s
  refine .done (.ite h ?_)
  split
  · exact .modLds (State.setEntry_keeps (State.clockUs_keeps (State.iqPass_keeps (h.emit _) _ _)) _ _) _ _
  · exact State.hbMiss_keeps (State.ldsSend_keeps (h.bump _ _) _ _ _ _ _) _
  · exact State.hbMiss_keeps (State.badIn_keeps h _) _
  · exact State.hbMiss_keeps h _

/-! ## Update session, faults and restarts -/

theorem execUpdateCommandComplete_keeps (readBack : Bool) :
    Answers (execUpdateCommandComplete readBack s) (Keeps s) := by
  have h := fresh_keeps s
  refine .done ?_
  split
  · exact .ite h (.ite (State.commitLand_keeps h _) (State.updDone_keeps h _ _))
  · exact h

theorem execBootRetryReset_keeps : Answers (execBootRetryReset s) (Keeps s) := by
  refine .guarded (State.startBoot_keeps (State.devReset_keeps ?_ _))
  exact (fresh_keeps s).upd rfl

theorem execQuietEnd_keeps (b : Fin 74) (pass : Bool) : Answers (execQuietEnd b pass s) (Keeps s) :=
  .guarded (.ite (State.recover_keeps (fresh_keeps s) _) ((((fresh_keeps s).wr _ _).raise _).raise _))

theorem execEngineWatchdogMiss_keeps (e : Fin 11) : Answers (execEngineWatchdogMiss e s) (Keeps s) := by
  unfold execEngineWatchdogMiss
  extract_lets last x src once twice
  refine .guarded ?_
  have hx : Keeps s x.2 := by
    unfold x
    clear_value last
    split
    · exact (fresh_keeps s).elapsedUs _
    · exact fresh_keeps s
  have h1 : Keeps s once := hx.upd rfl
  have h2 : Keeps s twice := State.engineStop_keeps (State.edge_keeps hx _) _
  exact .ite (.ite (State.record_keeps h1 _ _) (.ite (State.record_keeps h1 _ _) (State.record_keeps h1 _ _)))
    (h2.upd rfl)

theorem execFaultNWidthEnd_keeps : Answers (execFaultNWidthEnd s) (Keeps s) := by
  unfold execFaultNWidthEnd
  extract_lets src s1
  refine .guarded ?_
  have h1 : Keeps s s1 := (fresh_keeps s).upd rfl
  exact .ite h1 ((h1.wr _ _).emit _)

theorem execRetentionParityError_keeps (area : RetArea) : Answers (execRetentionParityError area s) (Keeps s) := by
  have h := State.record_keeps (fresh_keeps s) .nw 1
  refine .done ?_
  cases area with
  | journal i => exact h.eraseRecord i
  | identity q => exact h.upd rfl
  | trim => exact h.upd rfl
  | digests => exact h.upd rfl
  | flashParams => exact h.upd rfl
  | bootState => exact State.showBoot_keeps (State.rebuild_keeps h)
  | energy q => exact h.upd rfl
  | eclipse => exact h.upd rfl

theorem execEngineRestartComplete_keeps (e : Fin 11) : Answers (execEngineRestartComplete e s) (Keeps s) := by
  unfold execEngineRestartComplete
  extract_lets sect s1
  refine .guarded ?_
  have h1 : Keeps s s1 := State.engineRun_keeps (fresh_keeps s) _
  refine .ite ?pe1 (.ite ?pc (.ite ?se (.ite (State.ldsReturn_keeps (State.updWake_keeps h1)) h1)))
  case pe1 => exact (State.pe1Return_keeps h1).forEach _ _ (fun _ _ k => State.tryApply_keeps k _)
  case pc =>
    exact h1.forEach _ _ (fun _ _ k => State.tryApply_keeps (State.deliverStored_keeps (State.hresetRun_keeps k _) _) _)
  case se => exact h1.forEach _ _ (fun _ _ k => State.hubReplay_keeps k _)

/-! ## Supplies and sector links -/

theorem execLinkRestored_keeps (i : Fin 4) : Answers (execLinkRestored i s) (Keeps s) := by
  unfold execLinkRestored
  extract_lets s1 red s2
  refine .guarded ?_
  have h1 : Keeps s s1 := (((fresh_keeps s).raise _).wr _ _).modSec _ _
  have h2 : Keeps s s2 := State.condEnd_keeps ((h1.wr _ _).orBits _ _) _ _
  exact h2.forEach _ _ (fun _ _ k => State.linkBack_keeps k _)

theorem execPowerOnResetEnd_keeps (strap : BitVec 5) (vio33 : Bool) :
    Answers (execPowerOnResetEnd strap vio33 s) (Keeps s) := by
  unfold execPowerOnResetEnd
  extract_lets src s1 s2 s3
  refine .guarded ?_
  have h1 : Keeps s s1 := (fresh_keeps s).upd rfl
  have h2 : Keeps s s2 := .ite (h1.flag _ _) h1
  have h3 : Keeps s s3 := .ite (State.sampleStraps_keeps h2 _) h2
  exact .ite h3 (.ite (h3.upd rfl) (State.startBoot_keeps h3))

theorem execUpstreamVbusOvervoltage_keeps (u : Fin 4) : Answers (execUpstreamVbusOvervoltage u s) (Keeps s) := by
  unfold execUpstreamVbusOvervoltage
  extract_lets src s1
  have h1 : Keeps s s1 := (fresh_keeps s).upd rfl
  exact .done (.ite (State.powerLost_keeps h1) (.ite (State.record_keeps h1 _ _) h1))

/-! ## Nightwatch -/

theorem execIdleTimerExpire_keeps : Answers (execIdleTimerExpire s) (Keeps s) :=
  .guarded (((fresh_keeps s).wr _ _).upd rfl)

theorem execSleepBlockAnswer_keeps : Answers (execSleepBlockAnswer s) (Keeps s) := by
  have h := fresh_keeps s
  refine .guarded (.ite (State.sleepRefuse_keeps (.ite (State.icuFlush_keeps h) h) _ _)
    (.ite (State.sleepAbort_keeps h _ _) (.ite (h.upd rfl) ?_)))
  exact .ite (State.enterEclipse_keeps h) (State.enterDusk_keeps h)

theorem execFixedWakeEvent_keeps (ev : Sys2Proof.FixedWake) : Answers (execFixedWakeEvent ev s) (Keeps s) := by
  have h := fun cause detail => State.wakeEvent_keeps (fresh_keeps s) cause 0x3FF detail
  cases ev with
  | upstreamLine u => exact .guarded (h _ _)
  | downstream n => exact .guarded (h _ _)
  | portDie n => exact .guarded (h _ _)
  | uVbus u => exact .done (h _ _)

theorem execI2cAddressMatch_keeps (adr : BitVec 7) : Answers (execI2cAddressMatch adr s) (Keeps s) :=
  .guarded (.ite (State.wakeEvent_keeps (fresh_keeps s) _ _ _) (.ite ((fresh_keeps s).emit _) (fresh_keeps s)))

theorem execDuskReturnComplete_keeps (ms : BitVec 32) : Answers (execDuskReturnComplete ms s) (Keeps s) := by
  unfold execDuskReturnComplete
  extract_lets src boot s1
  refine .guarded (State.edgeAtMeridian_keeps (State.releaseI2c_keeps ?_) _)
  have h1 : Keeps s s1 := (((fresh_keeps s).wr _ _).wr _ _).upd rfl
  have ports := (State.runDue_keeps h1).forEach allPorts (fun t n => t.portBack n)
    (fun _ _ k => State.portBack_keeps k _)
  exact (State.vbusSync_keeps ports).forEach _ _ (fun _ _ k => State.resumeBack_keeps k _)

theorem execEclipseWake_keeps : Answers (execEclipseWake s) (Keeps s) :=
  .guarded (State.startBoot_keeps
    ((State.devReset_keeps (fresh_keeps s) _).foldl _ _ (fun _ _ k => k.wr _ _)))

theorem execMeridian_keeps (smp : Samples) : Answers (execMeridian smp s) (Keeps s) := by
  refine .done ?_
  split
  · exact State.meridianRun_keeps (fresh_keeps s) _
  · exact State.publish_keeps (State.setTj_keeps (State.tick_keeps (fresh_keeps s)) _ _ _)
  · exact fresh_keeps s

/-! ## Boot -/

theorem execBootStepComplete_keeps (rep : Sys2Proof.StepReport) : Answers (execBootStepComplete rep s) (Keeps s) := by
  have h : Keeps s s.fresh.begun := State.begun_keeps (fresh_keeps s)
  refine .guarded ?_
  split
  · exact State.step1_keeps h
  · exact State.step2_keeps h _
  · exact State.step3_keeps h
  · exact State.step4_keeps h
  · exact State.step5_keeps h
  · exact State.step6_keeps h _
  · exact State.step7_keeps h
  · exact State.step8_keeps h _
  · exact State.step9_keeps h _ _
  · exact State.stepA_keeps h _ _
  · exact State.stepB_keeps h
  · exact State.stepC_keeps h
  · exact State.stepD_keeps h
  · exact State.stepE_keeps h

theorem execEngineReadyTimeout_keeps (e : Fin 11) : Answers (execEngineReadyTimeout e s) (Keeps s) :=
  .guarded (.ite ((fresh_keeps s).upd rfl) (State.stepFail_keeps (fresh_keeps s) _))

theorem execBootTimeout_keeps : Answers (execBootTimeout s) (Keeps s) := by
  unfold execBootTimeout
  extract_lets k inst s1 s2 s3
  refine .guarded ?_
  have h1 : Keeps s s1 := State.stepRec_keeps (State.begun_keeps (fresh_keeps s)) _ _ _
  have h2 : Keeps s s2 := by
    unfold s2
    split
    · exact State.setMark_keeps h1 _
    · exact h1
  have h3 : Keeps s s3 := .ite (State.setMark_keeps h2 _) h2
  exact h3.upd rfl

theorem execIdentityRereadComplete_keeps (q : Fin 12) (mem : Option (List Byte)) :
    Answers (execIdentityRereadComplete q mem s) (Keeps s) := by
  unfold execIdentityRereadComplete
  extract_lets s1
  refine .guarded ?_
  have h1 : Keeps s s1 := (fresh_keeps s).modQuad _ _
  split
  · exact .ite h1 ((h1.raise _).raise _)
  · exact State.identFail_keeps h1 _

theorem execSectorRestartComplete_keeps (i : Fin 4) (rep : Sys2Proof.SectorReport) :
    Answers (execSectorRestartComplete i rep s) (Keeps s) := by
  unfold execSectorRestartComplete
  extract_lets load s1 s2 x s3 up s4 s5
  refine .guarded ?_
  have h1 : Keeps s s1 := State.stepRec_keeps (fresh_keeps s) _ _ _
  have h2 : Keeps s s2 := h1.forEach _ _ (fun _ _ k => State.stepRec_keeps (State.identStep_keeps k _ _ _) _ _ _)
  have h4 : Keeps s s4 := State.stepRec_keeps (State.stepRec_keeps (State.linkStep_keeps h2 _ _ _) _ _ _) _ _ _
  have h5 : Keeps s s5 := .ite (State.engineRun_keeps (State.engineRun_keeps h4 _) _) h4
  exact (h5.modSec _ _).orBits _ _


end

/-! ## Commands that move a pin or a fuse -/

/-- What `Keeps` leaves when the levels on the pins and the fuses may change: the queue and the canonical form. -/
structure KeepsQueue (s t : State) : Prop where
  queue : t.pending = s.pending
  wf : WellKept s → WellKept t

theorem Keeps.keepsQueue {s t : State} (h : Keeps s t) : KeepsQueue s t := ⟨h.queue, h.wf⟩

theorem KeepsQueue.trans {s t u : State} (h : KeepsQueue s t) (k : Keeps t u) : KeepsQueue s u :=
  ⟨k.queue.trans h.queue, fun w => k.wf (h.wf w)⟩

/-- New levels on the pins or a new count of fuses, the outputs of the last command gone. -/
theorem KeepsQueue.pins (s : State) (low_ : List Supply) (vbusU_ vbusHigh_ : List Nat) (resetN_ : Bool) (fuses_ : Nat) :
    KeepsQueue s
      { s.fresh with low := low_, vbusU := vbusU_, vbusHigh := vbusHigh_, resetN := resetN_, fuses := fuses_ } :=
  ⟨rfl, fun ⟨a, b, c, d, e, f, g, h, i, j, k, l, m, n⟩ => ⟨a, b, c, d, e, f, g, h, i, j, k, l, m, n⟩⟩

theorem Answers.guardedQueue {c : Bool} {s t : State} (h : KeepsQueue s t) :
    Answers (doneIf c s.fresh t) (KeepsQueue s) := by
  refine .done ?_
  split
  · exact h
  · exact (fresh_keeps s).keepsQueue

/-- The commands by which the block's inputs and fuses change (R49, R60, R101, R138). -/
inductive MovesPin : Sys2Proof.Instr → Prop
  | fuseBlowComplete : MovesPin .fuseBlowComplete
  | resetNAssert : MovesPin .resetNAssert
  | resetNRelease (strap) : MovesPin (.resetNRelease strap)
  | supplyLow (x) : MovesPin (.supplyLow x)
  | supplyRestored (x) : MovesPin (.supplyRestored x)
  | upstreamVbusChange (u present) : MovesPin (.upstreamVbusChange u present)

section
variable (s : State)

theorem execFuseBlowComplete_keepsQueue : Answers (execFuseBlowComplete s) (KeepsQueue s) := by
  refine .done ?_
  split
  · exact (fresh_keeps s).keepsQueue
  · extract_lets src s1
    have h1 : KeepsQueue s s1 := .trans (.pins s s.low s.vbusU s.vbusHigh s.resetN (s.fuses + 1))
      ((Keeps.refl { src with fuses := s.fuses + 1 }).wr _ _)
    refine h1.trans (.ite (.refl s1) (State.journal_keeps (.flag ?_ _ _) _ _ _ _ _ _))
    exact (Keeps.refl s1).upd rfl

theorem execResetNAssert_keepsQueue : Answers (execResetNAssert s) (KeepsQueue s) := by
  refine .done ?_
  extract_lets src s1
  have h1 : KeepsQueue s s1 := .pins s s.low s.vbusU s.vbusHigh true s.fuses
  exact h1.trans (.ite (State.holdReset_keeps (.refl s1) _) (.refl s1))

theorem execResetNRelease_keepsQueue (strap : BitVec 5) : Answers (execResetNRelease strap s) (KeepsQueue s) := by
  unfold execResetNRelease
  extract_lets src s1 src2 s2
  have h1 : KeepsQueue s s1 := .pins s s.low s.vbusU s.vbusHigh false s.fuses
  have h2 : Keeps s1 s2 := (State.sampleStraps_keeps (.refl s1) _).upd rfl
  exact .done (h1.trans (.ite (.ite h2 (State.startBoot_keeps h2)) (.refl s1)))

theorem execSupplyLow_keepsQueue (x : Supply) : Answers (execSupplyLow x s) (KeepsQueue s) := by
  unfold execSupplyLow
  extract_lets src s1 runs s2
  have h1 : KeepsQueue s s1 := .pins s (s.low ++ [x]) s.vbusU s.vbusHigh s.resetN s.fuses
  have h2 : Keeps s1 s2 := .ite (State.edge_keeps (.refl s1) _) (.refl s1)
  refine .guardedQueue (h1.trans ?_)
  cases x with
  | vddCore => exact State.coreLow_keeps (.refl s1) _
  | vddPhy => exact State.coreLow_keeps (.refl s1) _
  | vdd33Phy => exact State.coreLow_keeps (.refl s1) _
  | vddio => exact State.coreLow_keeps (.refl s1) _
  | vddNw => exact .ite (State.powerLost_keeps (.refl s1)) h2
  | vdd5 i => exact .ite (State.dieDown_keeps h2 _) (State.settle_keeps (h2.modSec _ _))
  | vconnIn i =>
    refine .ite (.orBits (.wr (h2.forEach _ _ ?_) _ _) _ _) (State.settle_keeps h2)
    exact fun _ _ k => State.vconnOff_keeps k _

theorem execSupplyRestored_keepsQueue (x : Supply) : Answers (execSupplyRestored x s) (KeepsQueue s) := by
  unfold execSupplyRestored
  extract_lets src s1
  have h1 : KeepsQueue s s1 := .pins s (s.low.filter (· != x)) s.vbusU s.vbusHigh s.resetN s.fuses
  have h : Keeps s1 s1 := .refl s1
  refine .guardedQueue (h1.trans ?_)
  split
  · exact .ite (h.raise _) (State.settle_keeps h)
  · exact State.settle_keeps (State.condEnd_keeps h _ _)
  · exact .ite (State.holdReset_keeps h _) (State.settle_keeps h)
  · exact State.settle_keeps h

theorem execUpstreamVbusChange_keepsQueue (u : Fin 4) (present : Bool) :
    Answers (execUpstreamVbusChange u present s) (KeepsQueue s) := by
  unfold execUpstreamVbusChange
  extract_lets src s1
  have h1 : KeepsQueue s s1 := .pins s s.low _ _ s.resetN s.fuses
  have h : Keeps s1 s1 := .refl s1
  refine .guardedQueue (h1.trans (.ite (State.powerLost_keeps h) ?_))
  split
  · exact State.vbusChange_keeps h _ _
  · exact State.rescueVbus_keeps h _ _
  · exact .ite (State.enterRescue_keeps h _) h
  · exact .ite (State.enterRescue_keeps h _) (State.settle_keeps h)
  · exact h
  · exact h
  · exact h

end

/-! ## All commands -/

/-- Every command but those of `MovesPin` is answered by a state that its operations made of the old one. -/
theorem exec_keeps (c : Sys2Proof.Instr) (s : State) (hc : ¬ MovesPin c) : Answers (exec c s) (Keeps s) := by
  have h := fresh_keeps s
  cases c with
  | meridian smp => exact execMeridian_keeps s smp
  | linkFrameCrcFail sect => exact .guarded (h.bump _ _)
  | linkLockLost sect => exact .guarded (State.linkLost_keeps h _)
  | linkRestored sect => exact execLinkRestored_keeps s sect
  | linkRestoreTimeout sect => exact .guarded (State.condBegin_keeps (h.modSec _ _) _ _)
  | resetNAssert => exact absurd (.resetNAssert) hc
  | resetNRelease strap => exact absurd (.resetNRelease _) hc
  | powerOnResetEnd strap vio33 => exact execPowerOnResetEnd_keeps s strap vio33
  | portDiePorEnd sect => exact .guarded (h.modSec _ _)
  | supplyLow x => exact absurd (.supplyLow _) hc
  | upstreamVbusChange u present => exact absurd (.upstreamVbusChange _ _) hc
  | coreDieOvertemp => exact .guarded (State.condBegin_keeps (State.edge_keeps h _) _ _)
  | portDieOvertemp sect => exact execPortDieOvertemp_keeps s sect
  | bootStepComplete rep => exact execBootStepComplete_keeps s rep
  | engineReadyTimeout e => exact execEngineReadyTimeout_keeps s e
  | bootTimeout => exact execBootTimeout_keeps s
  | bootRetryReset => exact execBootRetryReset_keeps s
  | identityRereadComplete q mem => exact execIdentityRereadComplete_keeps s q mem
  | rescueRstreq r w => exact write1_keeps s r _ _ _
  | failclr r w => exact write1_keeps s r _ _ _
  | updcmdOpen r slot => exact write1_keeps s r _ _ _
  | updcmdErase r => exact write1_keeps s r _ _ _
  | updcmdProgram r => exact write1_keeps s r _ _ _
  | updcmdVerify r => exact write1_keeps s r _ _ _
  | updcmdCommit r => exact write1_keeps s r _ _ _
  | updcmdAbort r => exact write1_keeps s r _ _ _
  | updateCommandComplete readBack => exact execUpdateCommandComplete_keeps s readBack
  | rbctrWrite r w => exact write1_keeps s r _ _ _
  | fuseBlowComplete => exact absurd (.fuseBlowComplete) hc
  | resetreq r w => exact write1_keeps s r _ _ _
  | softwareFullReset => exact .guarded (State.startBoot_keeps (State.devReset_keeps h _))
  | spiRead hdr clocked => exact .guarded (State.wireRead_keeps h _ _ _)
  | spiWrite bytes => exact .guarded (State.wireWrite_keeps h _ _)
  | spiStatus => exact .guarded (State.wireStatus_keeps h _ _)
  | spiUnknownCommand onI2c cmd => exact execSpiUnknownCommand_keeps s onI2c cmd
  | shortFrame onI2c bytes => exact execShortFrame_keeps s onI2c bytes
  | i2cRead adr hdr clocked => exact onI2c_keeps s _ _
  | i2cWrite adr bytes => exact onI2c_keeps s _ _
  | i2cStatus adr => exact onI2c_keeps s _ _
  | vendorRead u bm wValue wIndex wLength status => exact execVendorRead_keeps s u bm wValue wIndex wLength status
  | vendorWrite u bm wValue wIndex wLength bytes complete =>
    exact execVendorWrite_keeps s u bm wValue wIndex wLength bytes complete
  | vendorStatus u bm wValue wIndex wLength => exact execVendorStatus_keeps s u bm wValue wIndex wLength
  | registerWrite r addr w => exact write1_keeps s r _ _ _
  | bitAliasWrite r addr w => exact write1_keeps s r _ _ _
  | voteDisagree addr lo copy v => exact execVoteDisagree_keeps s addr lo copy v
  | voteRewrite addr lo => exact execVoteRewrite_keeps s addr lo
  | mbxSelWrite r m w => exact write1_keeps s r _ _ _
  | mbxGo r m w => exact write1_keeps s r _ _ _
  | mbxPartWrite r m w => exact write1_keeps s r _ _ _
  | mbxData3Read r m => exact read1_keeps s r _
  | mbxCaptureStart m => exact execMbxCaptureStart_keeps s m
  | mbxCaptureComplete m flashOk => exact execMbxCaptureComplete_keeps s m flashOk
  | bulkBufferTimeout => exact .guarded ((State.bulkRelease_keeps h _).wr _ _)
  | busReset u hs => exact execBusReset_keeps s u hs
  | personalityEnWrite r u w => exact write1_keeps s r _ _ _
  | setAddress u adr => exact .done (State.setAddr_keeps h _ _)
  | setConfiguration u cfg => exact .done (State.setConfig_keeps h _ _)
  | setInterface u alt => exact .done (State.setIface_keeps h _ _)
  | getDescriptor u wValue wIndex wLength => exact .done (State.getDesc_keeps h _ _ _)
  | getStatus u => exact .done (State.getSts_keeps h _ _)
  | setFeatureTestMode u sel => exact .done (State.testMode_keeps h _ _)
  | newSetupAbort u => exact .guarded (State.newSetup_keeps h _)
  | getHubStatus u => exact .done (State.hubReq_keeps h _ _ _ (fun _ k => k.emit _))
  | clearHubFeature u sel => exact .done (State.hubReq_keeps h _ _ _ (fun _ k => k.emit _))
  | setHubFeature u sel => exact .done (State.hubReq_keeps h _ _ _ (fun _ k => k.emit _))
  | getPortStatus u j => exact execGetPortStatus_keeps s u j
  | setPortFeaturePortReset u j => exact execSetPortFeaturePortReset_keeps s u j
  | setPortFeaturePortSuspend u j => exact execSetPortFeaturePortSuspend_keeps s u j
  | setPortFeaturePortTest u j sel =>
    exact .done (State.portReq_keeps h _ _ _ _ _ (fun _ _ k => State.hubDo_keeps k _ _) (fun _ _ k => k))
  | setPortFeaturePortIndicator u j sel =>
    exact .done (State.portReq_keeps h _ _ _ _ _ (fun _ _ k => .ite (k.modPort _ _) k) (fun _ _ k => k))
  | setPortFeaturePortEnable u j => exact .done (State.portReq_keeps h _ _ _ _ _ (fun _ _ k => k) (fun _ _ k => k))
  | setPortFeaturePortPower u j =>
    exact .done (State.portReq_keeps h _ _ _ _ _ (fun _ _ k => State.evalDemand_keeps (State.viewPower_keeps k _ _ _) _)
      (fun _ _ k => State.viewPower_keeps k _ _ _))
  | clearPortFeaturePortPower u j =>
    exact .done (State.portReq_keeps h _ _ _ _ _ (fun _ _ k => State.evalDemand_keeps (State.viewPower_keeps k _ _ _) _)
      (fun _ _ k => State.viewPower_keeps k _ _ _))
  | clearPortFeaturePortEnable u j =>
    exact .done (State.portReq_keeps h _ _ _ _ _ (fun _ _ k => State.hubDo_keeps k _ _) (fun _ _ k => k))
  | clearPortFeaturePortSuspend u j =>
    exact .done (State.portReq_keeps h _ _ _ _ _ (fun _ _ k => State.hubDo_keeps k _ _) (fun _ _ k => k))
  | clearPortFeaturePortIndicator u j =>
    exact .done (State.portReq_keeps h _ _ _ _ _ (fun _ _ k => k.modPort _ _) (fun _ _ k => k))
  | clearPortFeatureChange u j c =>
    exact .done (State.portReq_keeps h _ _ _ _ _ (fun _ _ k => k.setView _ _ _) (fun _ _ k => k.setView _ _ _))
  | clearTtBuffer u wValue j => exact execClearTtBuffer_keeps s u wValue j
  | resetTt u j => exact execResetTt_keeps s u j
  | stopTt u j => exact .done (State.portReq_keeps h _ _ _ _ _ (fun _ _ k => State.stopTt_keeps k _) (fun _ _ k => k))
  | getTtState u j => exact .done (State.hubReq_keeps h _ _ _ (fun _ k => k.emit _))
  | getHubDescriptor u wLength => exact .done (State.hubReq_keeps h _ _ _ (fun _ k => State.dataAns_keeps k _ _ _))
  | setHubDescriptor u => exact .done (State.hubReq_keeps h _ _ _ (fun _ k => k.emit _))
  | statusChangeIn u => exact execStatusChangeIn_keeps s u
  | statusChangeAck u => exact execStatusChangeAck_keeps s u
  | suspend u => exact execSuspend_keeps s u
  | wakeQualify n ev => exact .guarded (.ite (State.wake_keeps h _ _) (h.bump _ _))
  | upstreamKStart u => exact .guarded ((h.modUp _ _).emit _)
  | upstreamKEnd u => exact execUpstreamKEnd_keeps s u
  | hostResume u => exact execHostResume_keeps s u
  | resumeEop u => exact execResumeEop_keeps s u
  | hostSof u frame uf => exact execHostSof_keeps s u frame uf
  | fsFrameStart n => exact .guarded (((h.emit _).bump _ _).modPort _ _)
  | almanacLearningTimeout n k => exact .guarded (h.setAlm _ _ _)
  | hostSetup u adr ep req crcOk => exact execHostSetup_keeps s u adr ep req crcOk
  | hostOut u adr ep tog bytes => exact .done (.ite (State.ownOut_keeps h _ _) (State.relayOut_keeps h _ _ _ _ _))
  | hostPing u adr ep => exact execHostPing_keeps s u adr ep
  | hostIn u adr ep acked => exact execHostIn_keeps s u adr ep acked
  | downstreamOutResponse n d => exact execDownstreamOutResponse_keeps s n d
  | downstreamInResponse n adr ep d => exact execDownstreamInResponse_keeps s n adr ep d
  | relaySlotFree n adr ep dirIn => exact execRelaySlotFree_keeps s n adr ep dirIn
  | hostIsoIn u adr ep => exact execHostIsoIn_keeps s u adr ep
  | hostIsoOut u adr ep pid bytes crcOk => exact execHostIsoOut_keeps s u adr ep pid bytes crcOk
  | isoOutLateDiscard id => exact execIsoOutLateDiscard_keeps s id
  | isoHeldExpire n adr ep => exact execIsoHeldExpire_keeps s n adr ep
  | cutThroughStart id => exact execCutThroughStart_keeps s id
  | fabricBeat id out => exact execFabricBeat_keeps s id out
  | packetTail id crcOk => exact execPacketTail_keeps s id crcOk
  | packetRelease id => exact execPacketRelease_keeps s id
  | granuleReturn => exact .done ((h.wr _ _).wr _ _)
  | correctedError line => exact execCorrectedError_keeps s line
  | uncorrectableError line at_ => exact execUncorrectableError_keeps s line at_
  | fenceStart => exact execFenceStart_keeps s
  | fenceTestComplete pass => exact execFenceTestComplete_keeps s pass
  | replacementAvailable => exact execReplacementAvailable_keeps s
  | overlayWritebackComplete => exact execOverlayWritebackComplete_keeps s
  | rgnWrite r d w => exact write1_keeps s r _ _ _
  | ownerGo r n w => exact write1_keeps s r _ _ _
  | handoverReleasing n => exact execHandoverReleasing_keeps s n
  | handoverTransit n => exact .guarded (State.toTransit_keeps h _)
  | handoverClaiming n => exact execHandoverClaiming_keeps s n
  | handoverOwned n => exact execHandoverOwned_keeps s n
  | initialOwnershipApply => exact execInitialOwnershipApply_keeps s
  | prstrt r n w => exact write1_keeps s r _ _ _
  | portRestartEnd n => exact execPortRestartEnd_keeps s n
  | oosWrite r n w => exact write1_keeps s r _ _ _
  | vbusDischarged n => exact execVbusDischarged_keeps s n
  | usbConnect n low => exact execUsbConnect_keeps s n low
  | usbDisconnect n => exact .guarded (State.hubDisconnect_keeps h _)
  | deviceChirp n => exact .guarded ((h.emit _).modPort _ _)
  | portResetEnd n => exact execPortResetEnd_keeps s n
  | portBabble n => exact .guarded ((State.leaveTo_keeps (h.hubEvt _ _) _ _).modPort _ _)
  | disablingComplete n => exact .guarded (State.leaveTo_keeps h _ _)
  | deviceResumeK n => exact .guarded (State.startResume_keeps h _)
  | resumeDriveEnd n => exact execResumeDriveEnd_keeps s n
  | sendEorComplete n => exact .guarded ((State.setHub_keeps (h.hubEvt _ _) _ _).modPort _ _)
  | ledFrameRefresh sect => exact .guarded (State.sendLed_keeps h _)
  | ccAttachSeen n sight => exact execCcAttachSeen_keeps s n sight
  | ccDebounceExpire n => exact execCcDebounceExpire_keeps s n
  | ccTerminationLost n => exact execCcTerminationLost_keeps s n
  | drpToggle n => exact execDrpToggle_keeps s n
  | drpTryExpire n => exact execDrpTryExpire_keeps s n
  | tryCcDebounceExpire n cc2 far => exact execTryCcDebounceExpire_keeps s n cc2 far
  | tryTimeout n => exact execTryTimeout_keeps s n
  | srcDisconnect n => exact execSrcDisconnect_keeps s n
  | sinkVbusLost n => exact execSinkVbusLost_keeps s n
  | ccOvervoltage n => exact .guarded ((State.errorRecovery_keeps h _).raise _)
  | errorRecoveryEnd n => exact .guarded (State.ccOn_keeps h _)
  | moistureCheckComplete n leak => exact execMoistureCheckComplete_keeps s n leak
  | wetRetest n => exact .guarded (h.modPort _ _)
  | budgetRequest n raise => exact execBudgetRequest_keeps s n raise
  | gateFullyOn n => exact .guarded ((h.raise _).modPort _ _)
  | powerGood n => exact execPowerGood_keeps s n
  | powerGoodFall n => exact .guarded ((State.pgFall_keeps h _).modPort _ _)
  | limitEngage n => exact execLimitEngage_keeps s n
  | limitRelease n => exact .guarded (((h.wr _ _).wr _ _).modPort _ _)
  | hardShort n => exact .guarded (State.trip_keeps h _ _)
  | overvoltageTrip n => exact .guarded (State.trip_keeps h _ _)
  | overloadTrip n => exact .guarded (State.trip_keeps h _ _)
  | voltageTrip n => exact .guarded (State.trip_keeps h _ _)
  | selfTestStart n => exact .guarded (h.modPort _ _)
  | selfTestComplete n pass => exact execSelfTestComplete_keeps s n pass
  | retryWaitEnd n => exact .guarded (State.tryApply_keeps (h.modPort _ _) _)
  | cleanPowerGood n => exact .guarded (((h.wr _ _).raise _).modPort _ _)
  | rearm r n w => exact write1_keeps s r _ _ _
  | fbicapWrite r q w => exact write1_keeps s r _ _ _
  | srcTransitionExpire n => exact execSrcTransitionExpire_keeps s n
  | rampEnd n => exact execRampEnd_keeps s n
  | psRdySend n => exact execPsRdySend_keeps s n
  | sourceCapabilitiesSend n => exact .guarded ((State.sendCaps_keeps h _).modPort _ _)
  | request n rev req => exact .done (State.receive_keeps h _ _)
  | getSourceCap n => exact .done (State.receive_keeps h _ _)
  | softReset n => exact .done (State.receive_keeps h _ _)
  | prSwap n => exact .done (State.receive_keeps h _ _)
  | vconnSwap n => exact .done (State.receive_keeps h _ _)
  | vconnSwapAccept n => exact .done (State.receive_keeps h _ _)
  | getStatusPd n => exact .done (State.receive_keeps h _ _)
  | unsupportedMessage n unstructuredVdm => exact .done (.ite h (State.receive_keeps h _ _))
  | sourceCapabilitiesReceived n => exact .done (State.receive_keeps h _ _)
  | hardResetReceived n => exact .done (State.receive_keeps h _ _)
  | psHardResetExpire n => exact execPsHardResetExpire_keeps s n
  | srcRecoverExpire n => exact .guarded (State.tryApply_keeps (State.handoverRelease_keeps (h.modPort _ _) _) _)
  | senderResponseTimeout n => exact execSenderResponseTimeout_keeps s n
  | sinkTxExpire n => exact .guarded (State.rpSettle_keeps (State.amsRun_keeps h _) _)
  | discoverIdentity n => exact .done (State.receive_keeps h _ _)
  | discoverSvids n => exact .done (State.receive_keeps h _ _)
  | discoverModes n svid => exact .done (State.receive_keeps h _ _)
  | enterMode n svid pos => exact .done (State.receive_keeps h _ _)
  | exitMode n svid => exact .done (State.receive_keeps h _ _)
  | otherVdm n cmd => exact execOtherVdm_keeps s n cmd
  | pdctlResend r n w => exact write1_keeps s r _ _ _
  | pdctlHreset r n w => exact write1_keeps s r _ _ _
  | pdctlVcswap r n w => exact write1_keeps s r _ _ _
  | pdctlSoppdisc r n w => exact write1_keeps s r _ _ _
  | pdenWrite r n w => exact write1_keeps s r _ _ _
  | altmuxKick r n w => exact write1_keeps s r _ _ _
  | vconnOvercurrent n => exact execVconnOvercurrent_keeps s n
  | quadWarnEnter q => exact execQuadWarnEnter_keeps s q
  | quadWarnExit q => exact execQuadWarnExit_keeps s q
  | quadFailEnter q => exact execQuadFailEnter_keeps s q
  | quadFailExit q => exact execQuadFailExit_keeps s q
  | shedStart => exact execShedStart_keeps s
  | failShedTimeout q => exact .guarded (State.dieShed_keeps h _)
  | poolWrite r w => exact write1_keeps s r _ _ _
  | qcapWrite r q w => exact write1_keeps s r _ _ _
  | pcfgWrite r n w => exact write1_keeps s r _ _ _
  | readvExpire n => exact execReadvExpire_keeps s n
  | pe0Rebuild => exact execPe0Rebuild_keeps s
  | engineRestartComplete e => exact execEngineRestartComplete_keeps s e
  | ssplitNonperiodic u j adr ep tok low crcOk => exact execSsplitNonperiodic_keeps s u j adr ep tok low crcOk
  | csplitNonperiodic u j adr ep dirIn => exact execCsplitNonperiodic_keeps s u j adr ep dirIn
  | ssplitPeriodic u i2 adr ep dirIn iso low behindHub tog bytes =>
    exact execSsplitPeriodic_keeps s u i2 adr ep dirIn iso low behindHub tog bytes
  | csplitPeriodic u j adr ep tok => exact execCsplitPeriodic_keeps s u j adr ep tok
  | ttNonperiodicStart at_ => exact execTtNonperiodicStart_keeps s at_
  | ttTransactionComplete n d => exact execTtTransactionComplete_keeps s n d
  | periodicReady n t => exact .guarded (State.pipe_keeps _ _ _ h)
  | ttrst r n w => exact write1_keeps s r _ _ _
  | almclr r n w => exact write1_keeps s r _ _ _
  | almenWrite r n w => exact write1_keeps s r _ _ _
  | prefetchStart n k t => exact .guarded ((h.setAlm _ _ _).emit _)
  | prefetchOutcome n k d => exact execPrefetchOutcome_keeps s n k d
  | heldHandshakeExpire n k => exact .guarded (h.setAlm _ _ _)
  | controlHoldTimeout n adr => exact .guarded ((State.holdEnd_keeps h _ _).modPort _ _)
  | meteorRearm n k => exact .guarded (h.setAlm _ _ _)
  | ldsEnumStart n => exact execLdsEnumStart_keeps s n
  | ldsConnectWaitEnd n => exact .guarded (State.ldsReset_keeps h _)
  | ldsControlComplete n d => exact execLdsControlComplete_keeps s n d
  | ldsRequestTimeout n => exact .guarded (State.ldsBad_keeps (h.bump _ _) _ _)
  | ldsRecordDelayEnd n => exact .guarded (State.ldsRecord_keeps h _ _)
  | ldsHeartbeatPoll n behind => exact execLdsHeartbeatPoll_keeps s n behind
  | ldsHeartbeatOutcome n d => exact execLdsHeartbeatOutcome_keeps s n d
  | coalesceTimeout t => exact .guarded (State.deliver_keeps h _)
  | icuClaim r t => exact read1_keeps s r _
  | icuDone r t w => exact write1_keeps s r _ _ _
  | trst r t w => exact write1_keeps s r _ _ _
  | clrpend r j w => exact write1_keeps s r _ _ _
  | swtrig r w => exact write1_keeps s r _ _ _
  | srcCfgWrite r j w => exact write1_keeps s r _ _ _
  | tctlWrite r t w => exact write1_keeps s r _ _ _
  | graceExpire b => exact .guarded (State.takeAction_keeps h _ _ _)
  | fltackAck r b w => exact write1_keeps s r _ _ _
  | sectorRestartComplete sect rep => exact execSectorRestartComplete_keeps s sect rep
  | quietEnd b pass => exact execQuietEnd_keeps s b pass
  | clrlatch r b w pass => exact write1_keeps s r _ _ _
  | recoveryWindowExpire b => exact .guarded (h.wr _ _)
  | quadOverpower q => exact .guarded (State.condBegin_keeps h _ _)
  | fbiTrimLimit n => exact .guarded (State.record_keeps h _ _)
  | upstreamCrcErrors u => exact .guarded (State.record_keeps (h.modUp _ _) _ _)
  | engineWatchdogMiss e => exact execEngineWatchdogMiss_keeps s e
  | wardenTimerExpire => exact .guarded (State.startBoot_keeps (State.devReset_keeps h _))
  | faultNWidthEnd => exact execFaultNWidthEnd_keeps s
  | clkNwOutOfRange => exact .guarded (State.record_keeps h _ _)
  | retentionParityError area => exact execRetentionParityError_keeps s area
  | clkNwCalibrate => exact .done h
  | idleTimerExpire => exact execIdleTimerExpire_keeps s
  | sleepBlockAnswer => exact execSleepBlockAnswer_keeps s
  | sleepAnswerTimeout => exact .guarded (State.sleepRefuse_keeps h _ _)
  | fixedWakeEvent ev => exact execFixedWakeEvent_keeps s ev
  | watchedSourceWake j => exact .guarded (State.wakeEvent_keeps h _ _ _)
  | wakeNAssert => exact .done (State.wakeEvent_keeps h _ _ _)
  | i2cAddressMatch adr => exact execI2cAddressMatch_keeps s adr
  | duskReturnComplete ms => exact execDuskReturnComplete_keeps s ms
  | eclipseWake => exact execEclipseWake_keeps s
  | supplyRestored x => exact absurd (.supplyRestored _) hc
  | upstreamVbusOvervoltage u => exact execUpstreamVbusOvervoltage_keeps s u
  | energyCountTick q => exact .guarded (h.upd rfl)
  | ldsEnumWaitEnd n => exact execLdsEnumWaitEnd_keeps s n
  | pdMessageFailed n toCable => exact execPdMessageFailed_keeps s n toCable
  | psRdyReceived n => exact .done (State.receive_keeps h _ _)
  | cableIdentityResponse n amps5 => exact .done (State.receive_keeps h _ _)

/-- Every command is answered by a state with the same queue, well kept if the old one was. -/
theorem exec_keepsQueue (c : Sys2Proof.Instr) (s : State) : Answers (exec c s) (KeepsQueue s) := by
  by_cases hc : MovesPin c
  · cases hc with
    | fuseBlowComplete => exact execFuseBlowComplete_keepsQueue s
    | resetNAssert => exact execResetNAssert_keepsQueue s
    | resetNRelease strap => exact execResetNRelease_keepsQueue s strap
    | supplyLow x => exact execSupplyLow_keepsQueue s x
    | supplyRestored x => exact execSupplyRestored_keepsQueue s x
    | upstreamVbusChange u present => exact execUpstreamVbusChange_keepsQueue s u present
  · exact (exec_keeps c s hc).imp (fun _ k => k.keepsQueue)

/-- Settles O2: every meaning ends in `done` or `doneIf`, which answer a next state (log entries 4 and 5), and is built
of operations that keep the queue. -/
theorem commandsAnswerAndKeepTheQueue : Obligations.CommandsAnswerAndKeepTheQueue := by
  intro c s
  obtain ⟨t, ht, k⟩ := exec_keepsQueue c s
  exact ⟨t, ht, k.queue⟩

end Sys2Proof.Machine
end

section
/-! PROOFS. The state after a power-on reset, and two statements refuted by a concrete state: the supplies and the Meridian. -/

namespace Sys2Proof.Machine

/-- Settles O5: the stores are empty, so every field reads its reset value, and the rest is listed in `State.reset`. -/
theorem resetStateHolds : Obligations.ResetStateHolds := by
  have hkept : WellKept State.reset :=
    ⟨.nil, .nil, .nil, .nil, rfl, rfl, rfl, rfl, rfl, rfl, rfl, rfl, rfl, Nat.zero_le _⟩
  have hread : ∀ f : Field, State.reset.rd f = f.reset ∧ State.reset.rdPub f = f.reset := fun _ => ⟨rfl, rfl⟩
  have hport : ∀ n, State.reset.port n = PortX.reset ∧ State.reset.rd (PRT.OWNER.OWN n) = 7 ∧
      State.reset.rd (PRT.FUSCFG.ILIM n) = 385 ∧ State.reset.rd (PRT.FUSCFG.RETRY n) = 3 ∧
      State.reset.rd (PRT.HUBSTS.STATE n) = 0 := fun _ => ⟨rfl, rfl, rfl, rfl, rfl⟩
  have hstopped : ∀ e < 11, State.reset.runs e = false := by decide
  exact ⟨hkept, rfl, hread, ⟨rfl, rfl, rfl⟩, hport, hstopped, rfl⟩

/-- A command that answers a state in which a property fails does not complete with it. -/
theorem not_completes {c : Sys2Proof.Instr} {s t : State} {P : State → Prop} (h : exec c s = .next t) (hp : ¬ P t) :
    ¬ Completes c s P := by
  rintro ⟨u, hu, pu⟩
  cases h.symm.trans hu
  exact hp pu

/-- The part runs on VDD_CORE alone: every other supply is low and no upstream VBUS is there. -/
def coreSupplyAlone : State := { State.reset with low := Supply.all.filter (· != .vddCore) }

/-- Refutes O24: where VDD_CORE is the last supply of the part, its fall leaves no supply at all, so the part is
Unpowered (R46) and not held in Reset. -/
theorem not_supplyEventsComplete : ¬ Obligations.SupplyEventsComplete := by
  intro h
  obtain ⟨-, hheld, -⟩ := h .vddCore 0 false coreSupplyAlone
  exact not_completes rfl (by decide) (hheld (by decide) (.inl rfl) rfl rfl)

/-- A register of PE0 written since the last Meridian, while no granule of packet memory is free: the five granule counts
do not sum to 32,768. -/
def granulesLost : State :=
  { (State.reset.wr PKM.GCNT0.FREE 0).wr PWR.CNT.IGNHR 1 with stopped := [], boot := { BootX.reset with step := 0 } }

/-- Refutes O55: a Meridian that finds the granule counts wrong brings the part into the safe state (R34, R379), which
halts every engine before the publication, so PE0's words keep what was published before (R17). -/
theorem not_meridianEnergyAndCalibrationComplete : ¬ Obligations.MeridianEnergyAndCalibrationComplete := by
  intro h
  obtain ⟨-, -, -, hpub, -⟩ := h ⟨[], [], 0, []⟩ 0 granulesLost
  have hkept : ∃ t, exec (.meridian ⟨[], [], 0, []⟩) granulesLost = .next t ∧
      t.rdPub PWR.CNT.IGNHR ≠ t.rd PWR.CNT.IGNHR := ⟨_, rfl, by decide +kernel⟩
  obtain ⟨t, ht, hne⟩ := hkept
  exact not_completes ht (fun hall => hne (hall PWR.CNT.IGNHR (by decide) (by decide))) (hpub rfl (by decide))

end Sys2Proof.Machine
end

section
/-! SUPPORT. What an operation leaves alone, read off its law, and the commands whose guard holds. -/

namespace Sys2Proof.Machine

section
variable {s t : State}

theorem Only.rd {f : Field} (h : Only (· ≠ .field f.key) s t) : t.rd f = s.rd f := h _ (not_not_intro rfl) f rfl
theorem Only.port {n : Nat} (h : Only (· ≠ .port n) s t) : t.port n = s.port n := h _ (not_not_intro rfl)
theorem Only.sec {i : Nat} (h : Only (· ≠ .sec i) s t) : t.sec i = s.sec i := h _ (not_not_intro rfl)
theorem Only.sw (h : Only (· ≠ .sw) s t) : t.sw = s.sw := h _ (not_not_intro rfl)
theorem Only.outs (h : Only (· ≠ .outs) s t) : t.outs = s.outs := h _ (not_not_intro rfl)
theorem Only.stopped (h : Only (· ≠ .stopped) s t) : t.stopped = s.stopped := h _ (not_not_intro rfl)

end

/-- Two fields whose keys are written out and differ. -/
theorem Field.key_ne {f g : Field} {a b i j v w x y : Nat} {c d : Acc} {p q : Bool} (hf : f = ⟨a, i, v, c, x, p⟩)
    (hg : g = ⟨b, j, w, d, y, q⟩) (h : a * 32 + i ≠ b * 32 + j) : f.key ≠ g.key := by
  subst hf hg
  exact h

/-- A field whose key is written out is not another field. -/
theorem Part.field_ne {f g : Field} {a i v w : Nat} {c : Acc} {b : Bool} (hf : f = ⟨a, i, v, c, w, b⟩)
    (h : a * 32 + i ≠ g.key) : Part.field f.key ≠ Part.field g.key := by
  subst hf
  exact fun e => h (Part.field.inj e)

/-- A guarded command whose guard holds completes with what holds of its effect. -/
theorem Completes.guarded {c : Sys2Proof.Instr} {s a t : State} {P : State → Prop} {b : Bool}
    (he : exec c s = doneIf b a t) (hb : b = true) (h : P t) : Completes c s P := ⟨t, he.trans (doneIf_true a t hb), h⟩

end Sys2Proof.Machine
end

section
/-! PROOFS. The packets and slots of the relay: what each shared operation of the switch does to them, and the answers of
devices. -/

namespace Sys2Proof.Machine

/-! ## Counts -/

/-- A count that nothing else changed goes up by one. -/
theorem CountsUp.bump {s t : State} {f : Field} (h : t.rd f = s.rd f) : CountsUp f s (t.bump f) := by
  have : min (2 ^ f.width - 1) (s.rd f + 1) < 2 ^ f.width := by have := Nat.two_pow_pos f.width; omega
  simp [CountsUp, h, Nat.mod_eq_of_lt this]

/-! ## The packets of the switch -/

@[simp] theorem State.packets_modPkt (s : State) (id : Nat) (g : Pkt → Pkt) :
    (s.modPkt id g).sw.packets = s.sw.packets.map (fun p => if p.id = id then g p else p) := rfl

@[simp] theorem State.rd_modPkt (s : State) (id : Nat) (g : Pkt → Pkt) (f : Field) : (s.modPkt id g).rd f = s.rd f := rfl

@[simp] theorem State.packets_iqPop (s : State) (k d : Nat) : (s.iqPop k d).sw.packets = s.sw.packets := rfl

@[simp] theorem State.packets_toFlight (s : State) (k : Nat) : (s.toFlight k).sw.packets = s.sw.packets := rfl

@[simp] theorem State.packets_needPing (s : State) (n : Nat) (k : Key) (b : Bool) :
    (s.needPing n k b).sw.packets = s.sw.packets := rfl

@[simp] theorem State.packets_setPool (s : State) (v : Nat) : (s.setPool v).sw.packets = s.sw.packets := by
  unfold State.setPool
  extract_lets
  split
  · rfl
  · split <;> rfl

@[simp] theorem State.packets_fallSettle (s : State) : s.fallSettle.sw.packets = s.sw.packets := by
  unfold State.fallSettle
  extract_lets
  split <;> rfl

@[simp] theorem State.packets_giveUp (s : State) (p : Pkt) : (s.giveUp p).sw.packets = s.sw.packets := by
  unfold State.giveUp
  extract_lets mine s1 s2 s3 back
  have h1 : s1.sw.packets = s.sw.packets := by dsimp only [s1]; split <;> rfl
  have h3 : s3.sw.packets = s.sw.packets := by dsimp only [s3]; split <;> simpa [s2] using h1
  split
  · exact h3
  · simpa using h3

/-- A packet given up is gone, and only that one. -/
@[simp] theorem State.packets_dropPkt (s : State) (id : Nat) :
    (s.dropPkt id).sw.packets = s.sw.packets.filter (fun q => q.id != id) := by
  unfold State.dropPkt
  split
  case h_1 h =>
    have hne : ∀ q ∈ s.sw.packets, (q.id != id) = true := by simpa using h
    exact (List.filter_eq_self.mpr hne).symm
  case h_2 => simp

@[simp] theorem SwX.packets_putLine (w : SwX) (l : Nat) (ws : List Nat) : (w.putLine l ws).packets = w.packets := rfl

@[simp] theorem SwX.packets_store (w : SwX) (ov : Bool) (a v : Nat) : (w.store ov a v).packets = w.packets := by
  unfold SwX.store
  extract_lets
  split
  · rfl
  · split
    · rfl
    · split <;> rfl

/-- What every step of a fold keeps, the fold keeps. -/
theorem foldl_same {α σ β : Type} (f : σ → β) {g : σ → α → σ} (hg : ∀ w x, f (g w x) = f w) (l : List α) (w : σ) :
    f (l.foldl g w) = f w := by
  induction l generalizing w with
  | nil => rfl
  | cons x l ih => exact (ih _).trans (hg w x)

@[simp] theorem State.packets_iqPush (s : State) (k : Nat) (ws : List Nat) :
    (s.iqPush k ws).sw.packets = s.sw.packets :=
  foldl_same SwX.packets (fun w _ => w.packets_store ..) _ _

@[simp] theorem State.packets_modSlot (s : State) (n : Nat) (k : Key) (iso : Bool) (g : Slot → Slot) :
    (s.modSlot n k iso g).sw.packets = s.sw.packets :=
  congrArg SwX.packets (Only.sw (State.modSlot_only (.refl _ _) n k iso g nofun))

@[simp] theorem State.packets_inEmpty (s : State) (n : Nat) (p : Pkt) (g : Slot → Slot) :
    (s.inEmpty n p g).sw.packets = s.sw.packets.filter (fun q => q.id != p.id) := by simp [State.inEmpty]

/-- What the producer of a packet notes in it: all that can have been written has been, and of a void one read too. -/
def Pkt.atWritten (p q : Pkt) : Pkt := { q with wrW := p.written, rdW := if q.void then p.written else q.rdW }

/-- A producer with room in its ingress queue, or with the pair, only moves the packet's word counts; it drives and answers
nothing. -/
theorem State.produce_of_room (s : State) (p : Pkt)
    (room : p.pair = 2 ∨ s.iqHeld p.inp + (p.written - p.wrW) ≤ s.iqWords p.inp) :
    (s.produce p).sw.packets = s.sw.packets.map (fun q => if q.id = p.id then p.atWritten q else q) ∧
      (s.produce p).outs = s.outs := by
  unfold State.produce
  extract_lets ws wrote s1
  have hws : ws.length ≤ p.written - p.wrW := by simp only [ws, List.length_take]; omega
  split
  · exact ⟨rfl, rfl⟩
  · rename_i hp
    have := room.resolve_left hp
    rw [if_neg (by omega)]
    have h1 : s1.sw.packets = s.sw.packets.map (fun q => if q.id = p.id then p.atWritten q else q) := by
      simp only [s1, wrote, packets_modPkt, packets_iqPush]
      rfl
    split <;> exact ⟨h1, rfl⟩

/-! ## Relay slots -/

theorem Slot.key_of_slot {s : State} {n : Nat} {k : Key} {x : Slot} (h : s.slot n k = some x) :
    x ∈ (s.port n).slots ∧ x.key = k :=
  ⟨List.mem_of_find?_eq_some h, by simpa using List.find?_some h⟩

/-- A slot that is there is changed in its place. -/
theorem State.slots_modSlot {s : State} {n : Nat} {k : Key} {x : Slot} (h : s.slot n k = some x) (iso : Bool)
    (g : Slot → Slot) : ((s.modSlot n k iso g).port n).slots =
      (s.port n).slots.map (fun y => if y.key = k then g y else y) := by
  unfold State.modSlot
  rw [h, State.port_modPort_self]

/-- A device's ACK of a packet that no PING preceded: it is gone. -/
theorem execDownstreamOutResponse_ack {n : Fin 48} {p : Pkt} {s : State}
    (hp : s.sw.packets.find? (fun q => q.out == n.val && q.kind != .inData && q.released) = some p)
    (hping : p.pinging = false) :
    Completes (.downstreamOutResponse n .ack) s (fun t => ∀ q ∈ t.sw.packets, q.id ≠ p.id) := by
  refine ⟨(s.fresh.dropPkt p.id).needPing n p.key false, ?_, by simp⟩
  show execDownstreamOutResponse n .ack s = _
  unfold execDownstreamOutResponse
  simp only [State.fresh_sw, hp, hping, done_eq]
  rfl

section
variable {n : Fin 48} {adr : BitVec 7} {ep : BitVec 4} {p : Pkt} {s : State}
  (hp : s.sw.packets.find? (fun q => q.inp == n.val && q.kind == .inData && q.key == (⟨adr.toNat, ep.toNat, true⟩ : Key)
    && q.tail == .receiving && q.released) = some p)
include hp

/-- DATA that its ingress queue has room for is received by the packet that asked for it. -/
theorem execDownstreamInResponse_data {pid : Nat} {bs : List Byte} (room : s.iqHeld n + bs.length / 8 ≤ s.iqWords n) :
    Completes (.downstreamInResponse n adr ep (.data pid bs)) s (fun t => ∃ q ∈ t.sw.packets, q.id = p.id ∧ q.pid = pid ∧
      q.bytes = bs ∧ q.released = false) := by
  obtain ⟨hmem, hsel⟩ := And.intro (List.mem_of_find?_eq_some hp) (List.find?_some hp)
  simp only [Bool.and_eq_true, beq_iff_eq] at hsel
  obtain ⟨⟨⟨⟨hinp, -⟩, -⟩, htail⟩, -⟩ := hsel
  let p' : Pkt := { p with pid := pid, bytes := bs, released := false }
  let s1 := s.fresh.modPkt p.id (fun x => { x with pid := pid, bytes := bs, released := false })
  have hrun : exec (.downstreamInResponse n adr ep (.data pid bs)) s = .next (s1.produce p') := by
    show execDownstreamInResponse n adr ep (.data pid bs) s = _
    unfold execDownstreamInResponse
    simp only [State.fresh_sw, hp, done_eq]
    rfl
  have hw : p'.written = bs.length / 8 := by simp [p', Pkt.written, htail]
  have hroom : s1.iqHeld p'.inp + (p'.written - p'.wrW) ≤ s1.iqWords p'.inp := by
    have : s.iqHeld p.inp + (bs.length / 8 - p.wrW) ≤ s.iqWords p.inp := by rw [hinp]; omega
    rw [hw]
    exact this
  refine ⟨s1.produce p', hrun, p'.atWritten p', ?_, rfl, rfl, rfl, rfl⟩
  rw [(State.produce_of_room _ _ (.inr hroom)).1, State.packets_modPkt, State.fresh_sw, List.map_map]
  exact List.mem_map.mpr ⟨p, hmem, by simp [p']⟩

theorem execDownstreamInResponse_nak :
    Completes (.downstreamInResponse n adr ep .nak) s (fun t => ∀ q ∈ t.sw.packets, q.id ≠ p.id) := by
  refine ⟨s.fresh.inEmpty n p (fun y => { y with errors := 0 }), ?_, by simp⟩
  show execDownstreamInResponse n adr ep .nak s = _
  unfold execDownstreamInResponse
  simp only [State.fresh_sw, hp, done_eq]

end

section
variable {n : Fin 48} {adr : BitVec 7} {ep : BitVec 4} {x : Slot} {s : State}

theorem State.dropHeld_port (s : State) (m : Nat) (k : Key) (i : Nat) : (s.dropHeld m k).port i = s.port i := by
  apply Only.port
  apply State.dropHeld_only (.refl _ _)
  all_goals (intros; exact nofun)

/-- Giving up held packets writes packet memory's block alone. -/
theorem State.dropHeld_rd (s : State) (m : Nat) (k : Key) {g : Field} (h : 0xB000 * 32 ≤ g.key) :
    (s.dropHeld m k).rd g = s.rd g := by
  apply Only.rd
  apply State.dropHeld_only (.refl _ _)
  all_goals (intros; first | exact Part.field_ne rfl (by omega) | exact nofun)

theorem State.modSlot_rd (s : State) (m : Nat) (k : Key) (iso : Bool) (g : Slot → Slot) (f : Field) :
    (s.modSlot m k iso g).rd f = s.rd f := Only.rd (State.modSlot_only (.refl _ _) m k iso g nofun)

theorem SWX.CNTC.ISODROP_key (r : Nat) : 0xB000 * 32 ≤ (SWX.CNTC.ISODROP r).key :=
  show 0xB000 * 32 ≤ (0xB000 + 0x18 + 0x10 * (r % 5)) * 32 + 16 by omega

theorem execIsoHeldExpire_held (hse : s.seUp n = true) (hx : s.slot n ⟨adr.toNat, ep.toNat, true⟩ = some x)
    (hiso : x.iso = true) (hheld : heldData x.held = true) :
    Completes (.isoHeldExpire n adr ep) s (fun t => (∀ y ∈ (t.port n).slots, y.key = (⟨adr.toNat, ep.toNat, true⟩ :
      Key) → y.held = none) ∧ CountsUp (SWX.CNTC.ISODROP (cntIdx (s.owner n))) s t) := by
  let k : Key := ⟨adr.toNat, ep.toNat, true⟩
  let g : Slot → Slot := fun y => { y with held := none, idle := 0 }
  let s1 := s.fresh.modSlot n k true g
  have hrun : exec (.isoHeldExpire n adr ep) s =
      .next ((s1.dropHeld n k).bump (SWX.CNTC.ISODROP (cntIdx (s.owner n)))) := by
    show execIsoHeldExpire n adr ep s = _
    unfold execIsoHeldExpire
    simp only [hx, hiso, hse, hheld, done_eq]
    rfl
  have hcnt : (s1.dropHeld n k).rd (SWX.CNTC.ISODROP (cntIdx (s.owner n))) =
      s.rd (SWX.CNTC.ISODROP (cntIdx (s.owner n))) :=
    (State.dropHeld_rd _ _ _ (SWX.CNTC.ISODROP_key _)).trans (State.modSlot_rd ..)
  refine ⟨_, hrun, ?_, CountsUp.bump hcnt⟩
  have hslots : (s1.port n).slots = (s.port n).slots.map (fun y => if y.key = k then g y else y) :=
    State.slots_modSlot (s := s.fresh) hx true g
  rw [State.bump_eq_wr, State.port_wr, State.dropHeld_port, hslots]
  intro y hy hk
  obtain ⟨z, -, rfl⟩ := List.mem_map.mp hy
  by_cases hz : z.key = k
  · simp [hz, g]
  · rw [if_neg hz] at hk
    exact absurd hk hz

theorem execRelaySlotFree_idle {d : Bool} (hse : s.seUp n = true) (hx : s.slot n ⟨adr.toNat, ep.toNat, d⟩ = some x)
    (hheld : x.held = none) (hasked : x.asked = false) (hidle : 8 ≤ x.idle)
    (hnone : s.sw.packets.any (fun q => q.port == n && q.key == (⟨adr.toNat, ep.toNat, d⟩ : Key)) = false) :
    Completes (.relaySlotFree n adr ep d) s (fun t => ∀ y ∈ (t.port n).slots, y.key ≠ (⟨adr.toNat, ep.toNat, d⟩ :
      Key)) := by
  refine ⟨s.fresh.modPort n (fun p => { p with
    slots := p.slots.filter (fun y => y.key != (⟨adr.toNat, ep.toNat, d⟩ : Key)) }), ?_, by simp⟩
  show execRelaySlotFree n adr ep d s = _
  unfold execRelaySlotFree
  simp [hx, hse, hheld, hasked, hidle, hnone]

theorem execGranuleReturn_completes :
    Completes (.granuleReturn) s (fun t => t.rd PKM.GCNT1.INFLIGHT = 0 ∧ t.rd PKM.GCNT0.FREE = (s.rd PKM.GCNT0.FREE +
      s.rd PKM.GCNT1.INFLIGHT) % 2 ^ PKM.GCNT0.FREE.width) := by
  refine ⟨_, rfl, ?_, State.rd_wr_self ..⟩
  rw [State.rd_wr_ne _ _ (by decide), State.rd_wr_self, Nat.zero_mod]

end

/-- Settles O51: each answer of a device and each end of a slot in its turn. -/
theorem relayAnswersComplete : Obligations.RelayAnswersComplete :=
  fun _ _ _ _ _ _ _ _ _ =>
    ⟨execDownstreamOutResponse_ack, fun hp => execDownstreamInResponse_data hp, execDownstreamInResponse_nak,
      execIsoHeldExpire_held, execRelaySlotFree_idle, execGranuleReturn_completes⟩

end Sys2Proof.Machine
end

section
/-! PROOFS. The engines: what starts and stops none, and the returns of an engine and of a sector. -/

namespace Sys2Proof.Machine

/-! ## Engines -/

/-- Setting a bit of a field of events shows it. -/
theorem bitAt_orBit (v w : Nat) {k : Nat} (h : k < w) : bitAt ((v ||| 2 ^ k) % 2 ^ w) k = true := by
  have : ((v ||| 2 ^ k) % 2 ^ w).testBit k = true := by simp [Nat.testBit_mod_two_pow, h]
  simpa [bitAt, Nat.testBit, Nat.shiftRight_eq_div_pow, Nat.one_and_eq_mod_two] using this

section
variable {s t : State}

theorem State.stopped_engineRun (s : State) (e : Nat) : (s.engineRun e).stopped = s.stopped.filter (· != e) := by
  unfold State.engineRun
  extract_lets s1
  split
  · rfl
  · split <;> rfl

@[simp] theorem State.runs_engineRun_self (s : State) (e : Nat) : (s.engineRun e).runs e = true := by
  simp [State.runs, State.stopped_engineRun]

theorem State.runs_engineRun (e : Nat) {f : Nat} (h : s.runs f = true) : (s.engineRun e).runs f = true := by
  simp only [State.runs, State.stopped_engineRun] at h ⊢
  simp_all

/-- An engine keeps running where no engine starts or stops. -/
theorem Only.runs (h : Only (· ≠ .stopped) s t) {e : Nat} (hr : s.runs e = true) : t.runs e = true := by
  rw [State.runs, h.stopped]
  exact hr

theorem State.hresetRun_stopped (s : State) (n : Nat) : Only (· ≠ .stopped) s (s.hresetRun n) := by
  apply State.hresetRun_only (.refl _ _)
  all_goals (intros; exact nofun)

theorem State.deliverStored_stopped (s : State) (n : Nat) : Only (· ≠ .stopped) s (s.deliverStored n) := by
  apply State.deliverStored_only (.refl _ _)
  all_goals (intros; exact nofun)

theorem State.tryApply_stopped (s : State) (n : Nat) : Only (· ≠ .stopped) s (s.tryApply n) := by
  apply State.tryApply_only (.refl _ _)
  all_goals exact nofun

theorem State.hubReplay_stopped (s : State) (n : Nat) : Only (· ≠ .stopped) s (s.hubReplay n) := by
  apply State.hubReplay_only (.refl _ _)
  all_goals (intros; exact nofun)

theorem State.pe1Return_stopped (s : State) : Only (· ≠ .stopped) s s.pe1Return :=
  State.pe1Return_only (.refl _ _) (fun _ => nofun)

theorem State.updWake_stopped (s : State) : Only (· ≠ .stopped) s s.updWake := by
  apply State.updWake_only (.refl _ _)
  all_goals exact nofun

theorem State.ldsReturn_stopped (s : State) : Only (· ≠ .stopped) s s.ldsReturn := by
  apply State.ldsReturn_only (.refl _ _)
  all_goals (intros; exact nofun)

/-- An engine that is restarted alone runs, and what waited for it starts and stops none. -/
theorem execEngineRestartComplete_runs {e : Fin 11} (hphase : s.phase = .running) (hsafe : s.safe = false)
    (hboot : s.boot.step = 0) (hstop : s.runs e = false)
    (hsect : e.val < 8 → (s.sec (e.val % 4)).restarting = false) :
    Completes (.engineRestartComplete e) s (fun t => t.runs e = true) := by
  refine Completes.guarded rfl ?_ ?_
  · have hs : (if e.val < 8 then (s.sec (e.val % 4)).restarting else false) = false := by
      split
      · exact hsect ‹_›
      · rfl
    simp [State.active, hphase, hsafe, hboot, hstop, hs]
  · have hrun := State.runs_engineRun_self s.fresh e
    refine Only.runs (.ite ?pe1 (.ite ?pc (.ite ?se (.ite ?sv (.refl _ _))))) hrun
    case pe1 => exact (State.pe1Return_stopped _).forEach _ _ (fun _ n k => k.trans (State.tryApply_stopped _ n))
    case pc =>
      exact Only.forEach (.refl _ _) _ _ (fun _ n k => k.trans (((State.hresetRun_stopped _ n).trans
        (State.deliverStored_stopped _ n)).trans (State.tryApply_stopped _ n)))
    case se => exact Only.forEach (.refl _ _) _ _ (fun _ n k => k.trans (State.hubReplay_stopped _ n))
    case sv => exact (State.updWake_stopped _).trans (State.ldsReturn_stopped _)

/-- The boot steps of a sector restart end: no longer restarting, reported, and both engines run where they load and are
ready. -/
theorem execSectorRestartComplete_runs {i : Fin 4} {rep : SectorReport} (hphase : s.phase = .running)
    (hsafe : s.safe = false) (hrest : (s.sec i).restarting = true) :
    Completes (.sectorRestartComplete i rep) s (fun t => (t.sec i).restarting = false ∧
      bitAt (t.rd (SEC.EVT.EVENTS i)) 6 = true ∧ (rep.ready = true → (s.restartLoad rep.sramOk).out = 0 → t.runs i =
      true ∧ t.runs (4 + i) = true)) := by
  refine Completes.guarded rfl (by simp [State.active, hphase, hsafe, hrest]) ?_
  extract_lets load s1 s2 x s3 up s4 s5
  refine ⟨by simp, ?_, fun hready hload => ?_⟩
  · simp only [State.orBits_eq_wr, State.rd_wr_self]
    exact bitAt_orBit _ 8 (k := 6) (by decide)
  · have h5 : s5 = (s4.engineRun i).engineRun (4 + i) := if_pos (by simp [up, load, hready, hload])
    have hrun : s5.runs i = true ∧ s5.runs (4 + i) = true := by
      rw [h5]
      exact ⟨State.runs_engineRun _ (State.runs_engineRun_self _ _), State.runs_engineRun_self _ _⟩
    exact hrun

end

/-- Settles O26: what both restarts leave running. -/
theorem engineReturnsComplete : Obligations.EngineReturnsComplete :=
  fun _ _ _ _ hphase hsafe =>
    ⟨fun h => execSectorRestartComplete_runs hphase hsafe h, fun hb hr hs => execEngineRestartComplete_runs hphase hsafe hb hr hs⟩

end Sys2Proof.Machine
end

section
/-! SUPPORT. What a sector restart leaves of the fault words of the sector (R96). -/

namespace Sys2Proof.Machine

/-! ## Where the fields of a block's words lie -/

/-- What holds of the members of both lists holds of the members of a choice between them. -/
theorem forall_mem_ite {α : Type} {c : Prop} [Decidable c] {a b : List α} {p : α → Prop} (ha : ∀ x ∈ a, p x)
    (hb : ∀ x ∈ b, p x) : ∀ x ∈ (if c then a else b), p x := by
  split
  · exact ha
  · exact hb

theorem forall_mem_flatMap {α β : Type} {l : List α} {g : α → List β} {p : β → Prop}
    (h : ∀ a, ∀ x ∈ g a, p x) : ∀ x ∈ l.flatMap g, p x := by
  intro x hx
  obtain ⟨a, -, ha⟩ := List.mem_flatMap.mp hx
  exact h a x ha

theorem le_base_add (b k o : Nat) : b ≤ b + k + o := Nat.le_add_right_of_le (Nat.le_add_right b k)

theorem faultFields_addr (b : FBlk) (k : Nat) : ∀ f ∈ faultFields b k, b.base ≤ f.addr := by
  unfold faultFields
  split
  case h_2 => exact List.forall_mem_map.mpr (fun _ _ => Nat.le_add_right ..)
  all_goals
    repeat refine List.forall_mem_cons.mpr ⟨Nat.le_add_right .., ?_⟩
    exact List.forall_mem_nil _

theorem PRT.fields_addr (n off : Nat) : ∀ f ∈ PRT.fields n off, 0x10000 ≤ f.addr := by
  have hfault : ∀ k, ∀ f ∈ faultFields (.prt n) k, 0x10000 ≤ f.addr := fun k f hf =>
    Nat.le_trans (Nat.le_add_right_of_le (by decide)) (faultFields_addr (.prt n) k f hf)
  unfold PRT.fields
  repeat' first
    | exact hfault _
    | exact List.forall_mem_nil _
    | refine forall_mem_ite ?_ ?_
    | refine List.forall_mem_cons.mpr ⟨le_base_add .., ?_⟩
    | refine List.forall_mem_cons.mpr ⟨Nat.le_add_right_of_le (le_base_add ..), ?_⟩

theorem QD.fields_addr (q off : Nat) : ∀ f ∈ QD.fields q off, 0xE000 ≤ f.addr := by
  have hfault : ∀ k, ∀ f ∈ faultFields (.qd q) k, 0xE000 ≤ f.addr := fun k f hf =>
    Nat.le_trans (Nat.le_add_right_of_le (by decide)) (faultFields_addr (.qd q) k f hf)
  unfold QD.fields
  repeat' first
    | exact hfault _
    | exact List.forall_mem_nil _
    | refine forall_mem_ite ?_ ?_
    | refine List.forall_mem_cons.mpr ⟨le_base_add .., ?_⟩

theorem portImageFields_addr (n : Nat) : ∀ f ∈ portImageFields n, 0x10000 ≤ f.addr := by
  refine List.forall_mem_append.mpr ⟨forall_mem_flatMap (PRT.fields_addr n), ?_⟩
  repeat refine List.forall_mem_cons.mpr ⟨le_base_add .., ?_⟩
  exact List.forall_mem_nil _

theorem quadImage_addr (q : Nat) : ∀ f ∈ quadImage q, 0xE000 ≤ f.addr := forall_mem_flatMap (QD.fields_addr q)

/-- The fault words of a sector lie above the words that its restart returns to image values. -/
theorem secImage_key (i : Nat) : ∀ f ∈ secImage i, f.key < (0xD100 + 0x400 * (i % 4)) * 32 := by
  have h : ∀ o < 0x100, ∀ l < 32, (0xD000 + 0x400 * (i % 4) + o) * 32 + l < (0xD100 + 0x400 * (i % 4)) * 32 :=
    fun o ho l hl => by omega
  show ∀ f ∈ [SEC.CTL.REDUCED i, SEC.CTL.LOCK i, SEC.STS.LINK i, SEC.STS.RATE i, SEC.STS.HOLD i, SEC.STS.PRESENT i,
    SEC.STS.ARMED i, SEC.STS.SERUN i, SEC.STS.PCRUN i, SEC.STS.VCONNOK i, SEC.EVT.EVENTS i, SEC.TJDIE.TJ i,
    SEC.TJDIE.PEAK i, SEC.LINKCNT.RETX i, SEC.LINKCNT.RETRAIN i], _
  repeat refine List.forall_mem_cons.mpr ⟨h _ (Nat.le_of_ble_eq_true rfl) _ (Nat.le_of_ble_eq_true rfl), ?_⟩
  exact List.forall_mem_nil _

/-! ## A sector's fault word stays through its restart -/

section
variable {s t : State} {g : Field}

/-- Only parts other than one field of a sector's block above its own words. -/
theorem Part.image_ne {l : List Field} {lo : Nat} (hl : ∀ f ∈ l, lo ≤ f.addr) (hg : g.key < lo * 32) :
    ∀ f ∈ l, Part.field f.key ≠ Part.field g.key := fun f hf e => by
  have hk : f.addr * 32 + f.lo = g.key := Part.field.inj e
  have := hl f hf
  omega

section
variable (lo : 0xD000 * 32 ≤ g.key) (hi : g.key < 0xE000 * 32)
include lo hi

theorem State.demandFall_sparesSec (s : State) (n : Nat) : Only (· ≠ .field g.key) s (s.demandFall n) := by
  apply State.demandFall_only (.refl _ _)
  all_goals (intros; first | exact Part.field_ne rfl (by omega) | exact nofun)

theorem State.dropPower_sparesSec (s : State) (n : Nat) : Only (· ≠ .field g.key) s (s.dropPower n) := by
  apply State.dropPower_only (.refl _ _)
  all_goals (intros; first | exact Part.field_ne rfl (by omega) | exact nofun)

theorem State.discharge_sparesSec (s : State) (n : Nat) : Only (· ≠ .field g.key) s (s.discharge n) := by
  apply State.discharge_only (.refl _ _)
  all_goals (intros; first | exact Part.field_ne rfl (by omega) | exact nofun)

theorem State.ttAndAlmanac_sparesSec (s : State) (n : Nat) (cut counted : Bool) :
    Only (· ≠ .field g.key) s (s.ttAndAlmanac n cut counted) := by
  apply State.ttAndAlmanac_only (.refl _ _)
  all_goals first | exact Part.field_ne rfl (by omega) | exact nofun

theorem State.queueReset_sparesSec (s : State) (n : Nat) : Only (· ≠ .field g.key) s (s.queueReset n) := by
  apply State.queueReset_only (.refl _ _)
  all_goals (intros; first | exact Part.field_ne rfl (by omega) | exact nofun)

theorem State.handoverRestart_sparesSec (s : State) (n : Nat) : Only (· ≠ .field g.key) s (s.handoverRestart n) := by
  apply State.handoverRestart_only (.refl _ _)
  all_goals (intros; first | exact Part.field_ne rfl (by omega) | exact nofun)

theorem State.portToImage_sparesSec (s : State) (n : Nat) : Only (· ≠ .field g.key) s (s.portToImage n) :=
  State.portToImage_only (.refl _ _) n nofun (Part.image_ne (portImageFields_addr n) (by omega))
    (Part.field_ne rfl (by omega))

theorem State.setHub_sparesSec (s : State) (n st : Nat) : Only (· ≠ .field g.key) s (s.setHub n st) := by
  apply State.setHub_only (.refl _ _)
  all_goals exact Part.field_ne rfl (by omega)

/-- What a sector restart does to one port of the sector. -/
theorem State.sectorPort_sparesSec (s : State) (n : Nat) (x : PortX → PortX) : Only (· ≠ .field g.key) s
    ((((((if (s.port n).demand then s.demandFall n else (s.dropPower n).discharge n).ttAndAlmanac n true false).queueReset
      n).handoverRestart n).portToImage n).setHub n HS.off |>.modPort n x) := by
  have h1 : Only (· ≠ .field g.key) s (if (s.port n).demand then s.demandFall n else (s.dropPower n).discharge n) :=
    .ite (State.demandFall_sparesSec lo hi s n)
      ((State.dropPower_sparesSec lo hi s n).trans (State.discharge_sparesSec lo hi _ n))
  have h2 := ((h1.trans (State.ttAndAlmanac_sparesSec lo hi _ n true false)).trans (State.queueReset_sparesSec lo hi _ n)).trans
    (State.handoverRestart_sparesSec lo hi _ n)
  exact ((h2.trans (State.portToImage_sparesSec lo hi _ n)).trans (State.setHub_sparesSec lo hi _ n _)).modPort _ _ nofun

end

section
variable {i : Nat} (hg : g.key = (0xD100 + 0x400 * (i % 4)) * 32)
include hg

theorem State.engineStop_sparesSec (s : State) (e : Nat) : Only (· ≠ .field g.key) s (s.engineStop e) := by
  apply State.engineStop_only (.refl _ _)
  all_goals (intros; first | exact Part.field_ne rfl (by omega) | exact nofun)

/-- A sector restart leaves the sector's FLTSTS alone (R96). -/
theorem State.sectorRestart_sparesSec (s : State) : Only (· ≠ .field g.key) s (s.sectorRestart i) := by
  have lo : 0xD000 * 32 ≤ g.key := by omega
  have hi : g.key < 0xE000 * 32 := by omega
  unfold State.sectorRestart
  extract_lets s1 s2 present vconn s3 s4
  have k1 : Only (· ≠ .field g.key) s s1 :=
    Only.forEach (.refl _ _) _ _ (fun u n hu => hu.trans (State.sectorPort_sparesSec lo hi u n _))
  have k2 : Only (· ≠ .field g.key) s s2 :=
    k1.forEach _ _ (fun u q hu => hu.imageAll _ (Part.image_ne (quadImage_addr q) hi))
  have k3 : Only (· ≠ .field g.key) s s3 :=
    k2.imageAll _ (fun f hf e => Nat.ne_of_lt (secImage_key i f hf) ((Part.field.inj e).trans hg))
  have k4 : Only (· ≠ .field g.key) s s4 :=
    ((k3.wr _ _ (Part.field_ne rfl (by omega))).wr _ _ (Part.field_ne rfl (by omega))).modSec _ _ nofun
  exact (k4.trans (State.engineStop_sparesSec hg _ _)).trans (State.engineStop_sparesSec hg _ _)

end
end

end Sys2Proof.Machine
end

section
/-! PROOFS. The sector links, and the fault of a link that is late. -/

namespace Sys2Proof.Machine

/-! ## A sector's fault is recorded -/

section
variable {i : Nat} {g : Field} (hg : g.key = (0xD100 + 0x400 * (i % 4)) * 32)
include hg

theorem State.edge_sparesSec (s : State) (k : Nat) : Only (· ≠ .field g.key) s (s.edge k) := by
  apply State.edge_only (.refl _ _)
  all_goals (intros; first | exact Part.field_ne rfl (by omega) | exact nofun)

theorem State.faultPin_sparesSec (s : State) (sev : Nat) : Only (· ≠ .field g.key) s (s.faultPin sev) := by
  apply State.faultPin_only (.refl _ _)
  all_goals first | exact Part.field_ne rfl (by omega) | exact nofun

theorem State.wrFault_sparesSec {s t : State} (h : Only (· ≠ .field g.key) s t) (n v : Nat) :
    Only (· ≠ .field g.key) s (t.wr (FLT.FLTTIMERS.STATE (.prt n)) v) :=
  h.wr _ _ (Part.field_ne (a := 0x10100 + 0x400 * (n % 48) + 0x10) rfl (by omega))

/-- A field of a later fault word of the sector. -/
theorem FBlk.sec_later {f : Field} {o l w v : Nat} {c : Acc} {b : Bool}
    (hf : f = ⟨(FBlk.sec i).base + o, l, w, c, v, b⟩) (ho : 0 < o) : Part.field f.key ≠ Part.field g.key :=
  Part.field_ne hf (by show (0xD100 + 0x400 * (i % 4) + o) * 32 + l ≠ _; omega)

/-- The action of a sector fault leaves the sector's FLTSTS alone (R378). -/
theorem State.takeAction_sparesSec (s : State) (k sev : Nat) :
    Only (· ≠ .field g.key) s (s.takeAction (.sec i) k sev) := by
  unfold State.takeAction
  extract_lets latch s1 t1 s2
  have k1 : Only (· ≠ .field g.key) s s1 := (Only.refl _ s).modFlt _ _ nofun
  have k2 : Only (· ≠ .field g.key) s s2 :=
    .ite ((k1.wr _ _ (FBlk.sec_later hg rfl (by decide))).raise _ (FBlk.sec_later hg rfl (by decide)))
      (k1.wr _ _ (FBlk.sec_later hg rfl (by decide)))
  have k3 := k2.trans (State.faultPin_sparesSec hg s2 sev)
  refine .ite (.refl _ _) ?_
  rw [if_neg nofun]
  exact (k3.forEach _ _ (fun u n hu => .ite (State.wrFault_sparesSec hg hu n 0) hu)).trans (State.sectorRestart_sparesSec hg _)

end

section
variable (s : State) (i : Nat)

theorem FLT.FLTSTS.SRC_key : (FLT.FLTSTS.SRC (.sec i)).key = (0xD100 + 0x400 * (i % 4)) * 32 := rfl

/-- A recorded source shows in FLTSTS (R375). -/
theorem State.recordOnly_shows {k : Nat} (hk : k < 16) :
    bitAt ((s.recordOnly (.sec i) k).rd (FLT.FLTSTS.SRC (.sec i))) k = true := by
  have hg := FLT.FLTSTS.SRC_key i
  unfold State.recordOnly
  extract_lets sev s1 s2 s3
  have k2 : Only (· ≠ .field (FLT.FLTSTS.SRC (.sec i)).key) s1 s2 := by
    refine .ite (.refl _ _) (.wr (.raise (.wr (.wr (.refl _ _) _ _ ?_) _ _ ?_) _ ?_) _ _ ?_)
    all_goals exact FBlk.sec_later hg rfl (by decide)
  have k3 : Only (· ≠ .field (FLT.FLTSTS.SRC (.sec i)).key) s1 s3 :=
    .ite (k2.bump _ _ (FBlk.sec_later hg rfl (by decide))) k2
  rw [Only.rd (k3.trans (State.edge_sparesSec hg s3 _))]
  simp only [s1, State.orBits_eq_wr, State.rd_wr_self]
  exact bitAt_orBit _ 16 hk

theorem State.recordOnly_sec (b : FBlk) (k j : Nat) : (s.recordOnly b k).sec j = s.sec j := by
  apply Only.sec
  apply State.recordOnly_only (.refl _ _)
  all_goals (intros; exact nofun)

theorem State.record_shows {k : Nat} (hk : k < 16) :
    bitAt ((s.record (.sec i) k).rd (FLT.FLTSTS.SRC (.sec i))) k = true := by
  have hg := FLT.FLTSTS.SRC_key i
  unfold State.record
  extract_lets sev s1 s2
  have k2 : Only (· ≠ .field (FLT.FLTSTS.SRC (.sec i)).key) s1
      (if s2.rd (FLT.FLTTIMERS.STATE (.sec i)) = 0 then s2.wr (FLT.FLTTIMERS.STATE (.sec i)) 1 else s2) := by
    have h : Only (· ≠ .field (FLT.FLTSTS.SRC (.sec i)).key) s1 s2 := (Only.refl _ s1).modFlt _ _ nofun
    exact .ite (h.wr _ _ (FBlk.sec_later hg rfl (by decide))) h
  refine (congrArg (bitAt · k) (Only.rd ?_)).trans (s.recordOnly_shows i hk)
  exact .ite (.refl _ _) (.ite (State.takeAction_sparesSec hg s1 k sev) (.ite k2 (.refl _ _)))

/-- A fault whose severity takes no action at once leaves the sectors as they are (R375). -/
theorem State.record_sec {b : FBlk} {k : Nat} (h : s.rd (FLT.FLTSEV.SEV b k) ≠ 3) (j : Nat) :
    (s.record b k).sec j = s.sec j := by
  unfold State.record
  extract_lets sev s1 s2
  have h1 : s1.sec j = s.sec j := s.recordOnly_sec b k j
  rw [if_neg h]
  split
  · exact h1
  · split
    · split <;> exact h1
    · exact h1

end

/-! ## Sector links -/

section
variable {s : State} {i : Fin 4}

theorem State.linkBack_sec (s : State) (n i : Nat) : (s.linkBack n).sec i = s.sec i := by
  apply Only.sec
  apply State.linkBack_only (.refl _ _)
  all_goals (intros; exact nofun)

/-- What a port does after its link is back changes nothing in the sectors' blocks. -/
theorem State.linkBack_sparesSec {g : Field} (lo : 0xD000 * 32 ≤ g.key) (hi : g.key < 0xE000 * 32) (s : State) (n : Nat) :
    Only (· ≠ .field g.key) s (s.linkBack n) := by
  apply State.linkBack_only (.refl _ _)
  all_goals (intros; first | exact Part.field_ne rfl (by omega) | exact nofun)

theorem State.linksBack_sec (s : State) (l : List Nat) (i : Nat) :
    (s.forEach l (fun t n => t.linkBack n)).sec i = s.sec i :=
  foldl_same (State.sec · i) (fun t n => t.linkBack_sec n i) l s

theorem State.linksBack_rd (s : State) (l : List Nat) {g : Field} (lo : 0xD000 * 32 ≤ g.key)
    (hi : g.key < 0xE000 * 32) : (s.forEach l (fun t n => t.linkBack n)).rd g = s.rd g :=
  foldl_same (State.rd · g) (fun t n => (State.linkBack_sparesSec lo hi t n).rd) l s

theorem State.on_of_rd {f : Field} (h : s.rd f = 1) : s.on f = true := by simp [h]

theorem execLinkFrameCrcFail_counts (hact : s.active = true) (hlink : s.rd (SEC.STS.LINK i) = 1) :
    Completes (.linkFrameCrcFail i) s (fun t => CountsUp (SEC.LINKCNT.RETX i) s t) :=
  Completes.guarded rfl (by rw [hact, State.on_of_rd hlink]; rfl) (CountsUp.bump rfl)

/-- A lost lock (R15) is shown, the port die holds, and the retraining is counted. -/
theorem execLinkLockLost_shows (hact : s.active = true) (hlink : s.rd (SEC.STS.LINK i) = 1) :
    Completes (.linkLockLost i) s (fun t => t.rd (SEC.STS.LINK i) = 0 ∧ t.rd (SEC.STS.HOLD i) = 1 ∧
      CountsUp (SEC.LINKCNT.RETRAIN i) s t ∧ bitAt (t.rd (SEC.EVT.EVENTS i)) 0 = true ∧ (t.sec i).lost = true ∧
      (t.sec i).late = false) := by
  refine Completes.guarded rfl (by rw [hact, State.on_of_rd hlink]; rfl) ?_
  unfold State.linkLost
  have hcount := CountsUp.bump (f := SEC.LINKCNT.RETRAIN i) (t := (s.fresh.wr (SEC.STS.LINK i) 0).raise (SEC.STS.HOLD i))
    (show _ = s.rd _ by
      simp (disch := with_unfolding_all refine Field.key_ne rfl rfl ?_; omega) only [State.raise_eq_wr, State.rd_wr_ne, State.rd_fresh])
  refine ⟨?_, ?_, ?_, ?_, by simp, by simp⟩
  · simp (disch := with_unfolding_all refine Field.key_ne rfl rfl ?_; omega) only [State.rd_modSec, State.orBits_eq_wr, State.bump_eq_wr,
      State.raise_eq_wr, State.rd_wr_ne, State.rd_wr_self, Nat.zero_mod]
  · simp (disch := with_unfolding_all refine Field.key_ne rfl rfl ?_; omega) only [State.rd_modSec, State.orBits_eq_wr, State.bump_eq_wr,
      State.raise_eq_wr, State.rd_wr_ne, State.rd_wr_self]
    rfl
  · refine Eq.trans ?_ hcount
    exact State.rd_wr_ne _ _ (Field.key_ne rfl rfl (by omega))
  · rw [State.rd_modSec, State.orBits_eq_wr, State.rd_wr_self]
    exact bitAt_orBit _ 8 (k := 0) (by decide)

/-- A restored link (R15) is shown with its rate, and what its ports then do leaves that. -/
theorem execLinkRestored_shows (hact : s.active = true) (hlost : (s.sec i).lost = true)
    (hdie : (s.sec i).dieUp = true) : Completes (.linkRestored i) s (fun t => t.rd (SEC.STS.LINK i) = 1 ∧
      t.rd (SEC.STS.HOLD i) = 0 ∧ t.rd (SEC.STS.RATE i) = s.rd (SEC.CTL.REDUCED i) % 2 ∧ (t.sec i).lost = false) := by
  refine Completes.guarded rfl (by simp [hact, hlost, hdie]) ?_
  extract_lets s1 red s2
  have h1 : s1.rd (SEC.STS.LINK i) = 1 ∧ s1.rd (SEC.STS.HOLD i) = 0 ∧ red = s.rd (SEC.CTL.REDUCED i) := by
    refine ⟨?_, ?_, ?_⟩ <;>
      simp (disch := with_unfolding_all refine Field.key_ne rfl rfl ?_; omega) only [s1, red, State.rd_modSec, State.raise_eq_wr,
        State.rd_wr_ne, State.rd_wr_self, State.rd_fresh, Nat.zero_mod]
    rfl
  have h2 : s2.rd (SEC.STS.LINK i) = 1 ∧ s2.rd (SEC.STS.HOLD i) = 0 ∧
      s2.rd (SEC.STS.RATE i) = s.rd (SEC.CTL.REDUCED i) % 2 := by
    obtain ⟨hl, hh, hr⟩ := h1
    refine ⟨Eq.trans ?_ hl, Eq.trans ?_ hh, ?_⟩ <;>
      simp (disch := with_unfolding_all refine Field.key_ne rfl rfl ?_; omega) only [s2, State.condEnd, State.rd_modFlt, State.orBits_eq_wr,
        State.rd_wr_ne, State.rd_wr_self, hr]
    rfl
  have lo : ∀ o l, 0xD000 * 32 ≤ (0xD000 + 0x400 * (i.val % 4) + o) * 32 + l := fun o l => by omega
  have hi : ∀ l < 32, (0xD000 + 0x400 * (i.val % 4) + 4) * 32 + l < 0xE000 * 32 := fun l hl => by omega
  obtain ⟨hl, hh, hr⟩ := h2
  refine ⟨?_, ?_, ?_, ?_⟩
  · exact (s2.linksBack_rd _ (g := SEC.STS.LINK i) (lo 4 0) (hi 0 (by decide))).trans hl
  · exact (s2.linksBack_rd _ (g := SEC.STS.HOLD i) (lo 4 2) (hi 2 (by decide))).trans hh
  · exact (s2.linksBack_rd _ (g := SEC.STS.RATE i) (lo 4 1) (hi 1 (by decide))).trans hr
  · rw [State.linksBack_sec]
    simp [s2, s1, State.condEnd]

/-- A link not restored in time (R15, R374) is recorded as source 0 of its sector. -/
theorem execLinkRestoreTimeout_shows (hact : s.active = true) (hlost : (s.sec i).lost = true)
    (hlate : (s.sec i).late = false) : Completes (.linkRestoreTimeout i) s (fun t =>
      bitAt (t.rd (FLT.FLTSTS.SRC (.sec i))) 0 = true ∧ (s.rd (FLT.FLTSEV.SEV (.sec i) 0) ≠ 3 → (t.sec i).late = true)) := by
  refine Completes.guarded rfl (by simp [hact, hlost, hlate]) ⟨State.record_shows _ _ (by decide), fun hsev => ?_⟩
  exact (congrArg SecX.late (State.record_sec _ (by exact hsev) i)).trans (by simp)

theorem execPortDiePorEnd_up (h : s.good (.vdd5 i) = true) :
    Completes (.portDiePorEnd i) s (fun t => (t.sec i).dieUp = true) := Completes.guarded rfl h (by simp)

end

/-- Settles O21: the link's events and the end of a port die's power-on reset, one by one. -/
theorem linkAndDieEventsComplete : Obligations.LinkAndDieEventsComplete :=
  fun _ _ hact => ⟨execLinkFrameCrcFail_counts hact, execLinkLockLost_shows hact, execLinkRestored_shows hact,
    execLinkRestoreTimeout_shows hact, execPortDiePorEnd_up⟩

end Sys2Proof.Machine
end

section
/-! SUPPORT. What hub events, withdrawals and answered control transfers leave of a port: its hard reset, its gate, and
slots that only empty. -/

namespace Sys2Proof.Machine

/-- From `p` to `q` a port loses only what a hub event takes: the hard reset in progress and the gate are as before, and
a relay slot of `q` is one of `p`, empty where it was. -/
structure PortX.Wanes (p q : PortX) : Prop where
  hr : q.hr = p.hr
  gate : q.gate = p.gate
  slots : ∀ y ∈ q.slots, ∃ x ∈ p.slots, x.key = y.key ∧ (x.held = none → y.held = none)

namespace PortX.Wanes

variable {p q r : PortX}

/-- Fields beside these three may change freely. -/
theorem same (hr : q.hr = p.hr) (gate : q.gate = p.gate) (slots : q.slots = p.slots) : p.Wanes q :=
  ⟨hr, gate, fun y hy => ⟨y, slots ▸ hy, rfl, id⟩⟩

theorem refl (p : PortX) : p.Wanes p := same rfl rfl rfl

theorem trans (h : p.Wanes q) (k : q.Wanes r) : p.Wanes r := by
  refine ⟨k.hr.trans h.hr, k.gate.trans h.gate, fun z hz => ?_⟩
  obtain ⟨y, hy, hyz, hheld⟩ := k.slots z hz
  obtain ⟨x, hx, hxy, hheld'⟩ := h.slots y hy
  exact ⟨x, hx, hxy.trans hyz, hheld ∘ hheld'⟩

theorem filter (p : PortX) (sel : Slot → Bool) : p.Wanes { p with slots := p.slots.filter sel } :=
  ⟨rfl, rfl, fun y hy => ⟨y, (List.mem_filter.mp hy).1, rfl, id⟩⟩

theorem map (p : PortX) (g : Slot → Slot) (hk : ∀ x, (g x).key = x.key) (hg : ∀ x, x.held = none → (g x).held = none) :
    p.Wanes { p with slots := p.slots.map g } := by
  refine ⟨rfl, rfl, fun y hy => ?_⟩
  obtain ⟨x, hx, rfl⟩ := List.mem_map.mp hy
  exact ⟨x, hx, (hk x).symm, hg x⟩

/-- A key whose slots are empty stays so. -/
theorem empty (h : p.Wanes q) {k : Key} (hp : ∀ x ∈ p.slots, x.key = k → x.held = none) :
    ∀ y ∈ q.slots, y.key = k → y.held = none := by
  intro y hy hk
  obtain ⟨x, hx, hxy, hheld⟩ := h.slots y hy
  exact hheld (hp x hx (hxy.trans hk))

end PortX.Wanes

/-- From `s` to `t` every port only wanes. -/
structure Wanes (s t : State) : Prop where
  port : ∀ n, (s.port n).Wanes (t.port n)

namespace Wanes

variable {s t : State}

theorem refl (s : State) : Wanes s s := ⟨fun n => .refl (s.port n)⟩
theorem trans {u : State} (h : Wanes s t) (k : Wanes t u) : Wanes s u := ⟨fun n => (h.port n).trans (k.port n)⟩

/-- An operation that writes no port's record. -/
theorem of_only (h : Only (fun p => ∀ i, p ≠ .port i) s t) : Wanes s t := ⟨fun n => by
  rw [show t.port n = s.port n from h (.port n) (fun hp => hp n rfl)]
  exact .refl _⟩

theorem modPort (h : Wanes s t) (n : Nat) (g : PortX → PortX) (hg : ∀ p : PortX, p.Wanes (g p)) :
    Wanes s (t.modPort n g) := by
  refine ⟨fun m => ?_⟩
  by_cases hm : m = n
  · subst hm
    rw [State.port_modPort_self]
    exact (h.port m).trans (hg _)
  · rw [State.port_modPort_ne _ _ hm]
    exact h.port m

theorem modLds (h : Wanes s t) (n : Nat) (g : LdsPort → LdsPort) : Wanes s (t.modLds n g) :=
  h.modPort n _ (fun _ => .same rfl rfl rfl)
theorem setAlm (h : Wanes s t) (n k : Nat) (e : AlmEntry) : Wanes s (t.setAlm n k e) :=
  h.modPort n _ (fun _ => .same rfl rfl rfl)
theorem wr (h : Wanes s t) (f : Field) (v : Nat) : Wanes s (t.wr f v) := ⟨h.port⟩
theorem flag (h : Wanes s t) (f : Field) (b : Bool) : Wanes s (t.flag f b) := ⟨h.port⟩
theorem bump (h : Wanes s t) (f : Field) (k : Nat) : Wanes s (t.bump f k) := ⟨h.port⟩
theorem orBits (h : Wanes s t) (f : Field) (m : Nat) : Wanes s (t.orBits f m) := ⟨h.port⟩
theorem wrVoted (h : Wanes s t) (f : Field) (v : Nat) : Wanes s (t.wrVoted f v) := ⟨h.port⟩
theorem modUp (h : Wanes s t) (u : Nat) (g : UpX → UpX) : Wanes s (t.modUp u g) := ⟨h.port⟩
theorem emit (h : Wanes s t) (o : Out) : Wanes s (t.emit o) := ⟨h.port⟩
theorem edgeAtMeridian (h : Wanes s t) (i : Nat) : Wanes s (t.edgeAtMeridian i) := ⟨h.port⟩
theorem clockUs (h : Wanes s t) : Wanes s t.clockUs.2 := ⟨h.port⟩
theorem setHub (h : Wanes s t) (n st : Nat) : Wanes s (t.setHub n st) := ⟨h.port⟩
theorem rtQueue (h : Wanes s t) (u a : Nat) (port : Option Nat) (hs : Bool) : Wanes s (t.rtQueue u a port hs) := ⟨h.port⟩

theorem ite {c : Prop} [Decidable c] {a b : State} (h : Wanes s a) (k : Wanes s b) : Wanes s (if c then a else b) := by
  split
  · exact h
  · exact k

theorem foldl {α : Type} (h : Wanes s t) (l : List α) (g : State → α → State)
    (hg : ∀ (u : State) (a : α), Wanes s u → Wanes s (g u a)) : Wanes s (l.foldl g t) := by
  induction l generalizing t with
  | nil => exact h
  | cons a l ih => exact ih (hg t a h)

theorem forEach (h : Wanes s t) (l : List Nat) (g : State → Nat → State)
    (hg : ∀ (u : State) (n : Nat), Wanes s u → Wanes s (g u n)) : Wanes s (t.forEach l g) := h.foldl l g hg

/-! ## The Almanac and the translator -/

theorem restrand (h : Wanes s t) (n : Nat) (sel : Key → Bool) : Wanes s (t.restrand n sel) := by
  unfold State.restrand
  extract_lets
  exact .ite h (((h.wr ..).bump ..).modPort _ _ (fun _ => .same rfl rfl rfl))

theorem withdrawEntry (h : Wanes s t) (n k : Nat) : Wanes s (t.withdrawEntry n k) := by
  unfold State.withdrawEntry
  extract_lets e s1
  have h1 : Wanes s s1 := (h.setAlm ..).restrand ..
  exact .ite (h1.bump ..) h1

theorem freeAddr (h : Wanes s t) (n a : Nat) : Wanes s (t.freeAddr n a) :=
  (h.forEach _ _ (fun _ _ k => (k.withdrawEntry n _).setAlm n _ _)).restrand n _

theorem takeSizes (h : Wanes s t) (n : Nat) (l : List (Key × Nat)) : Wanes s (t.takeSizes n l) :=
  h.modPort n _ (fun _ => .same rfl rfl rfl)

theorem unpoll (h : Wanes s t) (n : Nat) : Wanes s (t.unpoll n) := by
  unfold State.unpoll
  extract_lets
  exact .ite h ((((h.wr ..).wr ..).bump ..).modPort _ _ (fun _ => .same rfl rfl rfl))

theorem withdrawAll (h : Wanes s t) (n : Nat) (counted : Bool) : Wanes s (t.withdrawAll n counted) := by
  unfold State.withdrawAll
  extract_lets k s1
  have h1 : Wanes s s1 := h.modPort n _ (fun _ => .same rfl rfl rfl)
  exact .ite ((h1.restrand ..).bump ..) h1

theorem holdEnd (h : Wanes s t) (n a : Nat) : Wanes s (t.holdEnd n a) := by
  unfold State.holdEnd
  exact .ite h (h.modPort _ _ (fun _ => .same rfl rfl rfl))

theorem holdsEnd (h : Wanes s t) (n : Nat) : Wanes s (t.holdsEnd n) := by
  refine Wanes.modPort ?_ n _ (fun _ => .same rfl rfl rfl)
  exact h.forEach _ _ (fun _ a k => k.holdEnd n a)

theorem ttReset (h : Wanes s t) (n : Nat) : Wanes s (t.ttReset n) := by
  refine Wanes.holdsEnd (.wr ?_ _ _) n
  exact h.modPort n _ (fun _ => .same rfl rfl rfl)

theorem ttCut (h : Wanes s t) (n : Nat) : Wanes s (t.ttCut n) := by
  refine Wanes.wr ?_ _ _
  exact h.modPort n _ (fun _ => .same rfl rfl rfl)

theorem almClear (h : Wanes s t) (n : Nat) (cut : Bool) : Wanes s (t.almClear n cut) :=
  h.modPort _ _ (fun _ => .same rfl rfl rfl)

theorem ttAndAlmanac (h : Wanes s t) (n : Nat) (cut counted : Bool) : Wanes s (t.ttAndAlmanac n cut counted) := by
  unfold State.ttAndAlmanac
  extract_lets s1 s2
  have h1 : Wanes s s1 := (Wanes.ite (h.unpoll n) h).withdrawAll n counted
  have h2 : Wanes s s2 := .ite (h1.ttCut n) (h1.ttReset n)
  exact (h2.almClear n cut).modPort n _ (fun _ => .same rfl rfl rfl)

/-! ## Relay slots and packets -/

theorem dropPkt (h : Wanes s t) (id : Nat) : Wanes s (t.dropPkt id) := by
  refine h.trans (of_only ?_)
  apply State.dropPkt_only (.refl _ _)
  all_goals (intros; exact nofun)

theorem dropHeld (h : Wanes s t) (n : Nat) (k : Key) : Wanes s (t.dropHeld n k) :=
  h.foldl _ _ (fun _ _ hu => hu.dropPkt _)

theorem dropStale (h : Wanes s t) (sel : Pkt → Bool) : Wanes s (t.dropStale sel) := by
  refine h.foldl _ _ (fun u p hu => ?_)
  have h1 : Wanes s ((u.dropPkt p.id).bump (SWX.CNTA.STALE (cntIdx p.side))) := (hu.dropPkt _).bump ..
  refine .ite (h1.modPort _ _ (fun x => .map x _ (fun y => ?_) (fun y hy => ?_))) h1
  · split <;> rfl
  · split
    · simp [hy]
    · exact hy

theorem withdrawSlot (h : Wanes s t) (n : Nat) (k : Key) : Wanes s (t.withdrawSlot n k) := by
  unfold State.withdrawSlot
  split
  · exact h
  · extract_lets s1 s2
    have h2 : Wanes s s2 := (h.modPort n _ (fun p => .filter p _)).dropHeld n k
    split
    · exact h2.bump ..
    · exact h2

theorem withdrawSlots (h : Wanes s t) (n : Nat) (sel : Slot → Bool) : Wanes s (t.withdrawSlots n sel) :=
  h.foldl _ _ (fun _ _ hu => hu.withdrawSlot n _)

theorem relayReset (h : Wanes s t) (n : Nat) (stale : Bool) : Wanes s (t.relayReset n stale) := by
  have h1 := (h.withdrawSlots n (fun _ => true)).modPort n (fun p => { p with pingKeys := [] })
    (fun _ => .same rfl rfl rfl)
  exact .ite (h1.dropStale _) h1

theorem rtDropOwner (h : Wanes s t) (n : Nat) : Wanes s (t.rtDropOwner n) :=
  .ite (h.forEach _ _ (fun _ _ hu => hu.rtQueue ..)) h

/-- What an answered IN on a control endpoint does (R22, R225). -/
theorem ctlDone (h : Wanes s t) (u n adr : Nat) (r : Setup) (got : List Byte) : Wanes s (t.ctlDone u n adr r got) := by
  unfold State.ctlDone
  extract_lets a s1 k s2
  have h1 : Wanes s s1 := (h.freeAddr n adr).modPort n _ (fun _ => .same rfl rfl rfl)
  have h2 : Wanes s s2 := h.withdrawSlots n _
  refine .ite ?setAddr (.ite ?setConf (.ite ?clear (.ite (h.takeSizes n _) (.ite ((h.rtQueue ..).modUp ..)
    (.ite (h.modUp ..) h)))))
  case setAddr =>
    split
    · exact (h1.rtQueue ..).rtQueue ..
    · exact h1
  case setConf => exact (h.freeAddr n adr).withdrawSlots n _
  case clear =>
    split
    · exact .setAlm (h2.withdrawEntry n _) ..
    · exact h2

theorem xferIn (h : Wanes s t) (u n a ep : Nat) (bs : List Byte) : Wanes s (t.xferIn u n a ep bs) := by
  unfold State.xferIn
  split
  · exact h
  · extract_lets rest t1
    exact .ite (.ite ((h.modUp ..).ctlDone ..) (h.modUp ..)) (h.modUp ..)

end Wanes

end Sys2Proof.Machine
end

section
/-! PROOFS. The relay's commands of the host: admission, and what a held DATA gives. -/

namespace Sys2Proof.Machine

/-! ## Admission: a packet begins where there is room (R216, R241) -/

theorem State.outs_setPool (s : State) (v : Nat) : (s.setPool v).outs = s.outs := by
  apply Only.outs
  apply State.setPool_only (.refl _ _)
  all_goals exact nofun

/-- A change of the pool leaves the ingress queues and the regions alone. -/
theorem State.rd_setPool (s : State) (v : Nat) {g : Field} (h : 0xA020 * 32 ≤ g.key) : (s.setPool v).rd g = s.rd g := by
  apply Only.rd
  apply State.setPool_only (.refl _ _)
  all_goals first | exact Part.field_ne rfl (by omega) | exact nofun

theorem PKM.IQPTR_key (k : Nat) : 0xA020 * 32 ≤ (PKM.IQPTR.WPTR k).key ∧ 0xA020 * 32 ≤ (PKM.IQPTR.RPTR k).key :=
  ⟨show _ ≤ (0xA000 + 0x800 + 4 * (k % 53)) * 32 + 0 by omega, show _ ≤ (0xA000 + 0x800 + 4 * (k % 53)) * 32 + 16 by omega⟩

theorem PKM.RGN.SIZE_key (d : Nat) : 0xA020 * 32 ≤ (PKM.RGN.SIZE d).key :=
  show _ ≤ (0xA000 + 0x400 + 4 * d) * 32 + 15 by omega

theorem State.iq_setPool (s : State) (v k : Nat) :
    (s.setPool v).iqWords k = s.iqWords k ∧ (s.setPool v).iqHeld k = s.iqHeld k := by
  obtain ⟨hw, hr⟩ := PKM.IQPTR_key k
  have hwords : (s.setPool v).iqWords k = s.iqWords k := by
    unfold State.iqWords
    rw [State.rd_setPool _ _ (PKM.RGN.SIZE_key k)]
  refine ⟨hwords, ?_⟩
  unfold State.iqHeld
  rw [hwords, State.rd_setPool _ _ hw, State.rd_setPool _ _ hr]

/-- Regions are served by one fall-back at a time: an output's streams only where no ingress queue does (R247). -/
theorem State.streaming_out {s : State} {inp out : Nat} (hi : inp < 52) (ho : out < 48) (h : s.streaming inp = true) :
    s.streaming (outRegion out) = false := by
  simp only [State.streaming, Bool.and_eq_true, beq_iff_eq] at h
  obtain ⟨⟨-, hr⟩, -⟩ := h
  have : s.sw.fence.region ≠ outRegion out := by
    unfold outRegion
    split <;> omega
  simp [State.streaming, this]

/-- A packet as the host or a device sent it, wherever its words are by now. -/
structure Pkt.Is (p : Pkt) (inp out : Nat) (kind : PktKind) (key : Key) (pid : Nat) (bs : List Byte) (t : Tail) : Prop where
  inp : p.inp = inp
  out : p.out = out
  kind : p.kind = kind
  key : p.key = key
  pid : p.pid = pid
  bytes : p.bytes = bs
  tail : p.tail = t

/-- A packet of an ingress queue with room for it is in the switch, and nothing is answered yet. -/
theorem State.begin_of_room {s : State} {inp out l : Nat} {kind : PktKind} {key : Key} {pid age : Nat} {bs : List Byte}
    {t : Tail} {setup : Bool} (hi : inp < 52) (ho : out < 48) (room : s.inRoom inp l setup = true)
    (hl : bs.length ≤ l) :
    (∃ q ∈ (s.begin inp out kind key pid age bs t false).sw.packets, q.Is inp out kind key pid bs t) ∧
      (s.begin inp out kind key pid age bs t false).outs = s.outs := by
  unfold State.begin
  extract_lets u po pair resv pool id p s1 s2
  have hs2 : s2.sw.packets = s.sw.packets ++ [p] ∧ s2.outs = s.outs ∧ s2.iqHeld inp = s.iqHeld inp ∧
      s2.iqWords inp = s.iqWords inp := by
    dsimp only [s2]
    split
    · exact ⟨rfl, rfl, rfl, rfl⟩
    · obtain ⟨hw, hh⟩ := s1.iq_setPool (s1.rd PKM.GCNT2.POOLFREE - pool) inp
      exact ⟨s1.packets_setPool _, s1.outs_setPool _, hh, hw⟩
  obtain ⟨hpk, houts, hheld, hwords⟩ := hs2
  have hroom : p.pair = 2 ∨ s2.iqHeld p.inp + (p.written - p.wrW) ≤ s2.iqWords p.inp := by
    by_cases hstr : s.streaming inp = true
    · left
      have hpo : po = false := State.streaming_out hi ho hstr
      simp [p, pair, hpo, hstr, hi]
    · right
      have hwr : p.written ≤ (bs.length + 7) / 8 := by
        unfold Pkt.written
        split
        · exact Nat.div_le_div_right (Nat.le_add_right ..)
        · exact Nat.le_refl _
      have hiq : s.iqHeld inp + s.iqOwed inp + (l + 7) / 8 ≤ s.iqWords inp := by
        simp only [State.inRoom, Bool.not_eq_true _ ▸ hstr, Bool.false_and, Bool.false_eq_true, if_false,
          Bool.and_eq_true, decide_eq_true_eq] at room
        exact room.2
      show s2.iqHeld inp + (p.written - 0) ≤ s2.iqWords inp
      omega
  obtain ⟨hprod, hout⟩ := s2.produce_of_room p hroom
  refine ⟨⟨p.atWritten p, ?_, rfl, rfl, rfl, rfl, rfl, rfl, rfl⟩, hout.trans houts⟩
  show _ ∈ (s2.produce p).sw.packets
  rw [hprod, hpk]
  exact List.mem_map.mpr ⟨p, by simp, by simp⟩

/-! ## Commands of the host to a routed high-speed device -/

theorem State.relay_of_port {s : State} {u a n : Nat} (h : s.relayPort u a = some n) (act : State → Nat → State) :
    s.relay u a act = act s n := by
  unfold State.relay
  rw [h]

section
variable {u : Fin 4} {adr : BitVec 7} {ep : BitVec 4} {n : Fin 48} {s : State}
  (hphase : s.phase = .running) (haddr : s.rd (UPS.STS.ADDR u) ≠ adr.toNat)
  (hport : s.relayPort u adr.toNat = some n.val)

theorem State.inp_lt (u : Fin 4) : 48 + u.val < 52 := by omega

include haddr in
theorem State.ownAddr_ne : s.ownAddr u adr.toNat = false := by simp [State.ownAddr, Ne.symm haddr]

include hphase haddr hport in
/-- A SETUP is always admitted at the output, and ACKed (R216). -/
theorem execHostSetup_admitted {req : BitVec 64} (room : s.inRoom (48 + u) 8 true = true) :
    Completes (.hostSetup u adr ep req true) s (fun t => t.outs = [.usb u .ack] ∧ ∃ q ∈ t.sw.packets, q.inp = 48 + u ∧
      q.out = n ∧ q.kind = .setup ∧ q.key = (⟨adr.toNat, ep.toNat, false⟩ : Key) ∧ q.bytes = (Setup.ofBits req).bytes) := by
  let r := Setup.ofBits req
  have hresc : s.fresh.resc u = false := by simp [State.resc, hphase]
  have hown : ¬ (adr.toNat = s.fresh.rd (UPS.STS.ADDR u) ∧ s.fresh.rd (UPS.STS.DEVSTATE u) ≠ 0) :=
    fun h => haddr h.1.symm
  have hrun : exec (.hostSetup u adr ep req true) s =
      .next (s.fresh.relaySetup u adr.toNat ep.toNat r true) := by
    show execHostSetup u adr ep req true s = _
    unfold execHostSetup
    simp only [hresc, Bool.false_eq_true, if_false, if_neg hown, done_eq]
    rfl
  obtain ⟨⟨q, hq, his⟩, houts⟩ := State.begin_of_room (s := s.fresh) (out := n.val) (kind := .setup)
    (key := ⟨adr.toNat, ep.toNat, false⟩) (pid := 0x2D) (age := 0) (t := .good) (State.inp_lt u) n.isLt room
    (Nat.le_refl r.bytes.length)
  refine ⟨_, hrun, ?_⟩
  rw [State.relaySetup, State.relay_of_port (s := s.fresh) hport,
    if_neg (by decide), if_neg (by rw [show s.fresh.inRoom (48 + u) 8 true = true from room]; decide)]
  exact ⟨congrArg (· ++ [Out.usb u .ack]) houts, q, hq, his.inp, his.out, his.kind, his.key, his.bytes⟩

section
include haddr hport

/-- What OUT does with a packet where no slot stops it (R21). -/
theorem execHostOut_relay (tog : Bool) (bs : List Byte) (hstop : s.stopSlot n ⟨adr.toNat, ep.toNat, false⟩ = none) :
    exec (.hostOut u adr ep tog bs) s = .next (if s.outAdmits n && s.inRoom (48 + u) 1024 false then
      s.fresh.begin (48 + u) n .out ⟨adr.toNat, ep.toNat, false⟩ tog.toNat 0 bs .receiving false
      else s.fresh.admNak u) := by
  show execHostOut u adr ep tog bs s = _
  rw [execHostOut, State.ownAddr_ne haddr, State.relayOut, State.relay_of_port (s := s.fresh) hport]
  simp only [show s.fresh.stopSlot n ⟨adr.toNat, ep.toNat, false⟩ = none from hstop]
  rfl

theorem execHostPing_relay (hstop : s.stopSlot n ⟨adr.toNat, ep.toNat, false⟩ = none) :
    exec (.hostPing u adr ep) s = .next (if s.outAdmits n && s.inRoom (48 + u) 1024 false then
      s.fresh.emit (.usb u .ack) else s.fresh.admNak u) := by
  show execHostPing u adr ep s = _
  rw [execHostPing, State.ownAddr_ne haddr, State.relay_of_port (s := s.fresh) hport]
  simp only [show s.fresh.stopSlot n ⟨adr.toNat, ep.toNat, false⟩ = none from hstop]
  rfl

omit haddr hport in
theorem State.admNak_fresh (s : State) (u : Nat) :
    (s.fresh.admNak u).outs = [.usb u .nak] ∧ CountsUp (SWX.CNTB.ADMNAK u) s (s.fresh.admNak u) :=
  ⟨rfl, CountsUp.bump (t := s.fresh) rfl⟩

omit haddr hport in
theorem no_room {a b : Bool} (h : a = false ∨ b = false) : ¬ (a && b) = true := by
  rcases h with rfl | rfl <;> simp

theorem execHostOut_admitted {tog : Bool} {bs : List Byte} (hstop : s.stopSlot n ⟨adr.toNat, ep.toNat, false⟩ = none)
    (hadm : s.outAdmits n = true) (room : s.inRoom (48 + u) 1024 false = true) (hbs : bs.length ≤ 1024) :
    Completes (.hostOut u adr ep tog bs) s (fun t => t.outs = [] ∧ ∃ q ∈ t.sw.packets, q.inp = 48 + u ∧ q.out = n ∧
      q.kind = .out ∧ q.key = (⟨adr.toNat, ep.toNat, false⟩ : Key) ∧ q.tail = .receiving ∧ q.bytes = bs) := by
  obtain ⟨⟨q, hq, his⟩, houts⟩ := State.begin_of_room (s := s.fresh) (out := n.val) (kind := .out)
    (key := ⟨adr.toNat, ep.toNat, false⟩) (pid := tog.toNat) (age := 0) (t := .receiving) (State.inp_lt u) n.isLt
    (setup := false) room hbs
  refine ⟨_, execHostOut_relay haddr hport tog bs hstop, ?_⟩
  rw [hadm, room]
  exact ⟨houts, q, hq, his.inp, his.out, his.kind, his.key, his.tail, his.bytes⟩

theorem execHostOut_nak {tog : Bool} {bs : List Byte} (hstop : s.stopSlot n ⟨adr.toNat, ep.toNat, false⟩ = none)
    (hno : s.outAdmits n = false ∨ s.inRoom (48 + u) 1024 false = false) :
    Completes (.hostOut u adr ep tog bs) s (fun t => t.outs = [.usb u .nak] ∧ CountsUp (SWX.CNTB.ADMNAK u) s t) := by
  refine ⟨_, execHostOut_relay haddr hport tog bs hstop, ?_⟩
  rw [if_neg (no_room hno)]
  exact State.admNak_fresh s u

theorem execHostPing_admitted (hstop : s.stopSlot n ⟨adr.toNat, ep.toNat, false⟩ = none)
    (hadm : s.outAdmits n = true) (room : s.inRoom (48 + u) 1024 false = true) :
    Completes (.hostPing u adr ep) s (fun t => t.outs = [.usb u .ack]) := by
  refine ⟨_, execHostPing_relay haddr hport hstop, ?_⟩
  rw [hadm, room]
  rfl

theorem execHostPing_nak (hstop : s.stopSlot n ⟨adr.toNat, ep.toNat, false⟩ = none)
    (hno : s.outAdmits n = false ∨ s.inRoom (48 + u) 1024 false = false) :
    Completes (.hostPing u adr ep) s (fun t => t.outs = [.usb u .nak] ∧ CountsUp (SWX.CNTB.ADMNAK u) s t) := by
  refine ⟨_, execHostPing_relay haddr hport hstop, ?_⟩
  rw [if_neg (no_room hno)]
  exact State.admNak_fresh s u

/-- What a good isochronous OUT does (R222). -/
theorem execHostIsoOut_relay (dp : Fin 4) (bs : List Byte) :
    exec (.hostIsoOut u adr ep dp bs true) s =
      .next (if !(s.outAdmits n && s.inRoom (48 + u) 1024 false) then s.fresh.bump (SWX.CNTC.ISODROP u)
        else
          let s1 := s.fresh.begin (48 + u) n .isoOut ⟨adr.toNat, ep.toNat, false⟩ dp.val (s.up u).frameM bs .good false
          match s1.pkt s.sw.nextId with
          | some p => s1.trim p
          | none => s1) := by
  show execHostIsoOut u adr ep dp bs true s = _
  rw [execHostIsoOut, State.ownAddr_ne haddr, State.relay_of_port (s := s.fresh) hport]
  rfl

theorem execHostIsoOut_dropped {dp : Fin 4} {bs : List Byte}
    (hno : s.outAdmits n = false ∨ s.inRoom (48 + u) 1024 false = false) :
    Completes (.hostIsoOut u adr ep dp bs true) s (fun t => t.outs = [] ∧ t.sw = s.sw ∧
      CountsUp (SWX.CNTC.ISODROP u) s t) := by
  refine ⟨_, execHostIsoOut_relay haddr hport dp bs, ?_⟩
  rw [if_pos (by rw [Bool.not_eq_true', Bool.eq_false_iff]; exact no_room hno)]
  exact ⟨rfl, rfl, CountsUp.bump (t := s.fresh) rfl⟩

omit haddr hport in
/-- Trimming a reservation keeps what the packets carry, and answers nothing. -/
theorem State.trim_packets (s : State) (p : Pkt) {inp out pid : Nat} {kind : PktKind} {key : Key} {bs : List Byte} {t : Tail}
    (h : ∃ q ∈ s.sw.packets, q.Is inp out kind key pid bs t) :
    (∃ q ∈ (s.trim p).sw.packets, q.Is inp out kind key pid bs t) ∧ (s.trim p).outs = s.outs := by
  unfold State.trim
  extract_lets own g pool s1
  have h1 : ∃ q ∈ s1.sw.packets, q.Is inp out kind key pid bs t := by
    obtain ⟨q, hq, his⟩ := h
    refine ⟨_, List.mem_map_of_mem hq, ?_⟩
    split
    · exact ⟨his.inp, his.out, his.kind, his.key, his.pid, his.bytes, his.tail⟩
    · exact his
  split
  · exact ⟨h, rfl⟩
  · split
    · rw [State.packets_setPool, State.outs_setPool]
      exact ⟨h1, rfl⟩
    · exact ⟨h1, rfl⟩

theorem execHostIsoOut_admitted {dp : Fin 4} {bs : List Byte} (hadm : s.outAdmits n = true)
    (room : s.inRoom (48 + u) 1024 false = true) (hbs : bs.length ≤ 1024) :
    Completes (.hostIsoOut u adr ep dp bs true) s (fun t => t.outs = [] ∧ ∃ q ∈ t.sw.packets, q.out = n ∧
      q.kind = .isoOut ∧ q.key = (⟨adr.toNat, ep.toNat, false⟩ : Key) ∧ q.pid = dp ∧ q.bytes = bs) := by
  obtain ⟨hq, houts⟩ := State.begin_of_room (s := s.fresh) (out := n.val) (kind := .isoOut)
    (key := ⟨adr.toNat, ep.toNat, false⟩) (pid := dp.val) (age := (s.up u).frameM) (t := .good) (State.inp_lt u) n.isLt
    (setup := false) room hbs
  refine ⟨_, execHostIsoOut_relay haddr hport dp bs, ?_⟩
  rw [if_neg (by simp [hadm, room])]
  extract_lets s1
  split
  · obtain ⟨⟨q, hq, his⟩, ho⟩ := s1.trim_packets _ hq
    exact ⟨ho.trans houts, q, hq, his.out, his.kind, his.key, his.pid, his.bytes⟩
  · obtain ⟨q, hq, his⟩ := hq
    exact ⟨houts, q, hq, his.out, his.kind, his.key, his.pid, his.bytes⟩

end
end

/-! ## A held DATA is given (R21, R222) -/

section
variable {s : State} {n : Nat} {k : Key} {x : Slot}

/-- Slots of a key that are emptied are empty. -/
theorem State.slots_emptied (h : s.slot n k = some x) (iso : Bool) (g : Slot → Slot) (hg : ∀ y, (g y).held = none) :
    ∀ y ∈ ((s.modSlot n k iso g).port n).slots, y.key = k → y.held = none := by
  intro y hy hk
  rw [State.slots_modSlot h] at hy
  obtain ⟨z, -, rfl⟩ := List.mem_map.mp hy
  by_cases hz : z.key = k
  · simp [hz, hg]
  · rw [if_neg hz] at hk
    exact absurd hk hz

/-- The slot of a key is what the change makes of it. -/
theorem State.slot_modSlot (h : s.slot n k = some x) (iso : Bool) (g : Slot → Slot) (hg : ∀ y, (g y).key = y.key) :
    (s.modSlot n k iso g).slot n k = some (g x) := by
  unfold State.slot at h ⊢
  rw [State.slots_modSlot h, List.find?_map]
  have hsame : ((fun x : Slot => x.key == k) ∘ fun y => if y.key = k then g y else y) = fun x => x.key == k := by
    funext y
    simp only [Function.comp]
    split <;> simp [hg]
  have hk : x.key = k := by simpa using List.find?_some h
  rw [hsame, h, Option.map_some, if_pos hk]

theorem State.outs_modSlot (s : State) (n : Nat) (k : Key) (iso : Bool) (g : Slot → Slot) :
    (s.modSlot n k iso g).outs = s.outs := Only.outs (State.modSlot_only (.refl _ _) n k iso g nofun)

theorem State.outs_dropHeld (s : State) (n : Nat) (k : Key) : (s.dropHeld n k).outs = s.outs := by
  apply Only.outs
  apply State.dropHeld_only (.refl _ _)
  all_goals (intros; exact nofun)

theorem State.outs_xferIn (s : State) (u n a ep : Nat) (bs : List Byte) : (s.xferIn u n a ep bs).outs = s.outs := by
  apply Only.outs
  apply State.xferIn_only (.refl _ _)
  all_goals (intros; exact nofun)

/-- An IN that is asked for adds at most its token to what was driven. -/
theorem State.outs_askIn (s : State) (u n : Nat) (k : Key) (iso : Bool) :
    ∃ l, (s.askIn u n k iso).outs = s.outs ++ l := by
  unfold State.askIn
  split
  · exact ⟨[], (List.append_nil _).symm⟩
  · split
    · refine ⟨[.deviceIn n k], ?_⟩
      rw [State.emit_outs, State.outs_modSlot]
      unfold State.begin
      extract_lets u po pair resv pool id p s1 s2
      have h2 : s2.outs = s.outs := by
        dsimp only [s2]
        split
        · rfl
        · exact s1.outs_setPool _
      exact congrArg (· ++ _) h2
    · exact ⟨[], (List.append_nil _).symm⟩

end

section
variable {u : Fin 4} {adr : BitVec 7} {ep : BitVec 4} {n : Fin 48} {s : State} {x : Slot} {pid : Nat} {bs : List Byte}
  (haddr : s.rd (UPS.STS.ADDR u) ≠ adr.toNat) (hport : s.relayPort u adr.toNat = some n.val) (hse : s.seUp n = true)
  (hx : s.slot n ⟨adr.toNat, ep.toNat, true⟩ = some x) (hheld : x.held = some (.data pid bs))
include haddr hport hse hx hheld

/-- A held DATA is given; the host's ACK empties its slot, and what an answered control transfer then does fills none. -/
theorem execHostIn_held {acked : Bool} (hstop : s.stopSlot n ⟨adr.toNat, ep.toNat, true⟩ = none) :
    Completes (.hostIn u adr ep acked) s (fun t => t.outs = [.usb u (.data pid bs)] ∧ (acked = true →
      ∀ y ∈ (t.port n).slots, y.key = (⟨adr.toNat, ep.toNat, true⟩ : Key) → y.held = none)) := by
  let k : Key := ⟨adr.toNat, ep.toNat, true⟩
  let s2 := (s.fresh.modSlot n k false id).emit (.usb u (.data pid bs))
  have hx1 : (s.fresh.modSlot n k false id).slot n k = some x := State.slot_modSlot (s := s.fresh) hx false id (fun _ => rfl)
  have hrun : exec (.hostIn u adr ep acked) s = .next (if acked then
      ((s2.modSlot n k false (fun y => { y with held := none, idle := 0 })).dropHeld n k).xferIn u n adr.toNat ep.toNat bs
      else s2) := by
    show execHostIn u adr ep acked s = _
    rw [execHostIn, if_neg (fun h => haddr h.1.symm), State.relayIn, State.relay_of_port (s := s.fresh) hport]
    simp only [show s.fresh.seUp n = true from hse, show s.fresh.stopSlot n k = none from hstop, hx1, hheld, k, done_eq]
    rfl
  have houts2 : s2.outs = [.usb u (.data pid bs)] := congrArg (· ++ _) (State.outs_modSlot ..)
  refine ⟨_, hrun, ?_, fun hack => ?_⟩
  · split
    · rw [State.outs_xferIn, State.outs_dropHeld, State.outs_modSlot, houts2]
    · exact houts2
  · rw [if_pos hack]
    have hempty := State.slots_emptied (s := s2) (n := n) (k := k) hx1 false (fun y => { y with held := none, idle := 0 })
      (fun _ => rfl)
    exact (((Wanes.refl _).dropHeld n k).xferIn u n adr.toNat ep.toNat bs |>.port n).empty hempty

/-- A held isochronous DATA is the first answer (R222). -/
theorem execHostIsoIn_held :
    Completes (.hostIsoIn u adr ep) s (fun t => t.outs.head? = some (.usb u (.data pid bs))) := by
  let k : Key := ⟨adr.toNat, ep.toNat, true⟩
  let s1 := s.fresh.modSlot n k true (fun y => { y with iso := true })
  let s2 := ((s1.emit (.usb u (.data pid bs))).modSlot n k true (fun y => { y with held := none, idle := 0 })).dropHeld n k
  have hx1 : s1.slot n k = some { x with iso := true } := State.slot_modSlot (s := s.fresh) hx true _ (fun _ => rfl)
  have hrun : exec (.hostIsoIn u adr ep) s = .next (s2.askIn u n k true) := by
    show execHostIsoIn u adr ep s = _
    rw [execHostIsoIn, State.ownAddr_ne haddr, State.relay_of_port (s := s.fresh) hport]
    simp only [show s.fresh.seUp n = true from hse]
    show done (match s1.slot n k with | none => _ | some x => _) = _
    rw [hx1]
    simp only [hheld, done_eq]
    rfl
  have houts2 : s2.outs = [.usb u (.data pid bs)] := by
    rw [State.outs_dropHeld, State.outs_modSlot]
    exact congrArg (· ++ _) (State.outs_modSlot ..)
  refine ⟨_, hrun, ?_⟩
  obtain ⟨l, hl⟩ := s2.outs_askIn u n k true
  rw [hl, houts2]
  rfl

end

/-- Settles O49: each token of the host to a routed high-speed device, admitted or not. -/
theorem relayCommandsComplete : Obligations.RelayCommandsComplete :=
  fun _ _ _ _ _ _ _ _ _ _ _ _ hphase haddr hport =>
    ⟨execHostSetup_admitted hphase haddr hport, execHostOut_admitted haddr hport, execHostOut_nak haddr hport,
      execHostPing_admitted haddr hport, execHostPing_nak haddr hport,
      fun hse hstop hx hheld => execHostIn_held haddr hport hse hx hheld hstop, execHostIsoIn_held haddr hport,
      execHostIsoOut_admitted haddr hport, execHostIsoOut_dropped haddr hport⟩

end Sys2Proof.Machine
end

section
/-! SUPPORT. The PD words apart from Rp, the limit and the books, and what ownership, Type-C and hub events leave of a
port's hard reset and gate. -/

namespace Sys2Proof.Machine

/-! ## Rp, the limit and the books -/

/-- A register field outside the PD status and count words of port `n`, from PDSTS to below IBUSMEAS: where Rp, the
limit and the books lie. -/
def OffPd (n : Nat) (p : Part) : Prop :=
  ∃ k, p = .field k ∧ (k < (0x10020 + 0x400 * (n % 48)) * 32 ∨ (0x10054 + 0x400 * (n % 48)) * 32 ≤ k)

theorem OffPd.of_key {n : Nat} {f : Field} {a i v w : Nat} {c : Acc} {b : Bool} (hf : f = ⟨a, i, v, c, w, b⟩)
    (h : a * 32 + i < (0x10020 + 0x400 * (n % 48)) * 32 ∨ (0x10054 + 0x400 * (n % 48)) * 32 ≤ a * 32 + i) :
    OffPd n (.field f.key) := by
  subst hf
  exact ⟨_, rfl, h⟩

section
variable {s t : State} {n : Nat}

theorem OffPd.outs (h : Only (OffPd n) s t) : t.outs = s.outs := h .outs (fun ⟨_, he, _⟩ => nomatch he)
theorem OffPd.port (h : Only (OffPd n) s t) (m : Nat) : t.port m = s.port m := h (.port m) (fun ⟨_, he, _⟩ => nomatch he)
theorem OffPd.rd (h : Only (OffPd n) s t) {g : Field} (lo : (0x10020 + 0x400 * (n % 48)) * 32 ≤ g.key)
    (hi : g.key < (0x10054 + 0x400 * (n % 48)) * 32) : t.rd g = s.rd g := by
  refine h (.field g.key) ?_ g rfl
  rintro ⟨k, he, hk⟩
  obtain rfl := Part.field.inj he
  omega

theorem State.rpSettle_offPd (s : State) (n : Nat) : Only (OffPd n) s (s.rpSettle n) := by
  apply State.rpSettle_only (.refl _ _)
  all_goals (intros; exact OffPd.of_key rfl (by omega))

theorem State.setC_offPd (s : State) (n c : Nat) : Only (OffPd n) s (s.setC n c) := by
  apply State.setC_only (.refl _ _)
  all_goals (intros; exact OffPd.of_key rfl (by omega))

theorem State.setK_offPd (s : State) (n k : Nat) : Only (OffPd n) s (s.setK n k) := by
  apply State.setK_only (.refl _ _)
  all_goals (intros; exact OffPd.of_key rfl (by omega))

theorem State.setIset_offPd (s : State) (n : Nat) : Only (OffPd n) s (s.setIset n) :=
  State.setIset_only (.refl _ _) n (OffPd.of_key rfl (by omega))

end


/-! ## Ownership, Type-C and the hub -/

namespace Wanes

variable {s t : State}

theorem handoverRelease (h : Wanes s t) (n : Nat) : Wanes s (t.handoverRelease n) :=
  .ite (h.modPort n _ (fun _ => .same rfl rfl rfl)) h

theorem tryApply (h : Wanes s t) (n : Nat) : Wanes s (t.tryApply n) :=
  .ite (.ite (((h.wr _ _).wr _ _).modPort n _ (fun _ => .same rfl rfl rfl)) (h.modPort n _ (fun _ => .same rfl rfl rfl))) h

theorem setEntry (h : Wanes s t) (n : Nat) (e : RosterEntry) : Wanes s (t.setEntry n e) := by
  unfold State.setEntry State.ldsChange
  extract_lets old s1 s2
  have h2 : Wanes s s2 := (((((h.modLds n _).wr ..).wr ..).wr ..).flag ..).flag ..
  exact .ite (.ite (h2.orBits ..) (h2.orBits ..)) h2

theorem ldsEnd (h : Wanes s t) (n result state : Nat) : Wanes s (t.ldsEnd n result state) := by
  unfold State.ldsEnd
  extract_lets u e s1 s2
  have h2 : Wanes s s2 := (h.clockUs.setEntry n _).modLds n _
  exact .ite (h2.edgeAtMeridian _) h2

theorem ldsDetach (h : Wanes s t) (n : Nat) : Wanes s (t.ldsDetach n) := by
  unfold State.ldsDetach
  extract_lets s1
  have h1 : Wanes s s1 := h.modLds n _
  exact .ite h (.ite h1 (.ite (h1.ldsEnd n _ _) (.ite (h1.setEntry n _) h1)))

theorem toTransit (h : Wanes s t) (n : Nat) : Wanes s (t.toTransit n) := by
  unfold State.toTransit
  extract_lets s1 e s2
  have h1 : Wanes s s1 := h.dropStale _
  have h2 : Wanes s s2 := .ite h1 (.ite (h1.setEntry n _) (h1.modLds n _))
  exact (h2.wrVoted ..).wrVoted ..

theorem handoverRestart (h : Wanes s t) (n : Nat) : Wanes s (t.handoverRestart n) := by
  unfold State.handoverRestart
  extract_lets s1
  have h1 : Wanes s s1 := .ite (h.toTransit n) h
  exact .ite h (h1.modPort n _ (fun _ => .same rfl rfl rfl))

theorem endDrive (h : Wanes s t) (n : Nat) : Wanes s (t.endDrive n) := .ite (h.emit _) h

theorem dropReset (h : Wanes s t) (n : Nat) : Wanes s (t.dropReset n) :=
  .ite ((h.wr ..).modPort n _ (fun _ => .same rfl rfl rfl)) h

theorem hubEvt (h : Wanes s t) (n k : Nat) : Wanes s (t.hubEvt n k) := by
  refine Wanes.modPort ?_ n _ (fun _ => .same rfl rfl rfl)
  exact .ite (h.wr ..) (.ite (h.wr ..) (.ite (h.wr ..) (.ite (h.wr ..) (h.wr ..))))

/-- What a port's hub state, its translator, its relay and its Almanac are left with as a device goes. -/
theorem deviceGone (h : Wanes s t) (n : Nat) : Wanes s ((((((t.wr (PRT.HUBSTS.CONNECTION n) 0).wr (PRT.HUBSTS.LOWSPD n) 0).wr
    (PRT.HUBSTS.HIGHSPD n) 0).ttAndAlmanac n true true).relayReset n true)) := by
  refine Wanes.relayReset (Wanes.ttAndAlmanac ?_ n true true) n true
  exact ((h.wr _ _).wr _ _).wr _ _

theorem hubDrop (h : Wanes s t) (n st : Nat) : Wanes s (t.hubDrop n st) := by
  unfold State.hubDrop
  extract_lets s1 s2
  have h2 : Wanes s s2 := ((h.endDrive n).setHub n st).deviceGone n
  refine Wanes.ldsDetach (.modPort h2 n _ ?_) n
  exact fun _ => .same rfl rfl rfl

theorem hubDisconnect (h : Wanes s t) (n : Nat) : Wanes s (t.hubDisconnect n) := by
  unfold State.hubDisconnect
  extract_lets st s1 s2 s3
  have h1 : Wanes s s1 := (((h.endDrive n).dropReset n).hubEvt n 0).setHub n _
  have h3 : Wanes s s3 := (h1.deviceGone n).rtDropOwner n
  refine .ite (.ldsDetach (.modPort h3 n _ ?_) n) (.ite (h.modPort n _ (fun _ => .same rfl rfl rfl)) h)
  exact fun _ => .same rfl rfl rfl

/-- A loss of VBUS leaves the hard reset in progress and the gate as they are (R157). -/
theorem vbusLoss (h : Wanes s t) (n : Nat) : Wanes s (t.vbusLoss n) :=
  .ite ((h.hubDrop n _).rtDropOwner n) (h.hubDisconnect n)

theorem of_offPd {n : Nat} (h : Only (OffPd n) s t) : Wanes s t := ⟨fun m => by
  rw [OffPd.port h]
  exact .refl _⟩

end Wanes

end Sys2Proof.Machine
end

section
/-! PROOFS. Power Delivery's timers, the hard reset and the request for vSafe5V. -/

namespace Sys2Proof.Machine

/-! ## What each command of the policy timers does -/

section
variable {n : Fin 48} {r : PdReq} {s : State}

theorem PolicyUp.pcUp (h : PolicyUp n s) : s.pcUp n = true := by
  obtain ⟨hphase, hruns, hlost⟩ := h
  simp [State.pcUp, State.active, State.cutOff, hphase, hruns, hlost]

/-- The transition to the target with voltage code `v` is over on port `n` (R298, R319). -/
def Transitioned (n v : Nat) (t : State) : Prop := (t.port n).transRun = false ∧ (t.port n).target = v

/-- The supply has changed over: the target is the voltage of the accepted object. -/
theorem execSrcTransitionExpire_target (hup : PolicyUp n s) (hrun : (s.port n).transRun = true)
    (hacc : (s.port n).accepted = some r) : Completes (.srcTransitionExpire n) s
      (Transitioned n ((((s.port n).offer[r.obj - 1]?).map (·.1)).getD 0)) := by
  refine Completes.guarded rfl (by rw [hrun, hup.pcUp]; rfl) ?_
  split
  case h_1 he => exact nomatch hacc.symm.trans he
  case h_2 he =>
    obtain rfl := Option.some.inj (hacc.symm.trans he)
    extract_lets code want s1 fall s2 s3
    have hcode : (((s.port n).offer[r.obj - 1]?).map (·.1)).getD 0 = code := by
      dsimp only [code]
      cases (s.port n).offer[r.obj - 1]? <;> rfl
    have h1 : s1.port n = s.port n := by
      dsimp only [s1]
      split <;> rfl
    rw [hcode]
    unfold Transitioned
    split
    · rename_i hsame
      rw [State.port_modPort_self, h1]
      exact ⟨rfl, hsame.symm⟩
    · rw [State.port_modPort_self]
      exact ⟨rfl, rfl⟩

/-- The contract of Request `r` at voltage code `v` is in force on port `n` (R298, R340). -/
structure InContract (n : Nat) (r : PdReq) (v : Nat) (t : State) : Prop where
  explicit : t.rd (PRT.PDSTS.EXPLICIT n) = 1
  objpos : t.rd (PRT.PDSTS.OBJPOS n) = r.obj % 2 ^ (PRT.PDSTS.OBJPOS n).width
  vsel : t.rd (PRT.PDSTS.VSEL n) = v % 2 ^ (PRT.PDSTS.VSEL n).width
  opcurr : t.rd (PRT.PDSTS.OPCURR n) = r.cur % 2 ^ (PRT.PDSTS.OPCURR n).width

/-- The four fields of a contract stand in one word, below its events. -/
theorem InContract.of_word {n : Nat} {r : PdReq} {v : Nat} {t u : State} (h : InContract n r v t)
    (hrd : ∀ g : Field, ∀ i < 24, g.key = (0x10000 + 0x400 * (n % 48) + 0x20) * 32 + i → u.rd g = t.rd g) :
    InContract n r v u :=
  ⟨(hrd _ 3 (by decide) rfl).trans h.explicit, (hrd _ 0 (by decide) rfl).trans h.objpos,
    (hrd _ 6 (by decide) rfl).trans h.vsel, (hrd _ 8 (by decide) rfl).trans h.opcurr⟩

theorem InContract.offPd {n : Nat} {r : PdReq} {v : Nat} {t u : State} (h : InContract n r v t)
    (hu : Only (OffPd n) t u) : InContract n r v u :=
  h.of_word (fun _ _ _ hg => OffPd.rd hu (by omega) (by omega))

/-- PS_RDY puts the accepted contract in force (R23, R298). -/
theorem execPsRdySend_contract (hup : PolicyUp n s) (hacc : (s.port n).accepted = some r)
    (hrun : (s.port n).transRun = false) (hramp : (s.port n).ramp = false) (hwin : (s.port n).inWindow = true)
    (hpg : s.rd (PRT.FUSSTS.PG n) = 1) (htc : s.tc n = 6) : Completes (.psRdySend n) s (fun t =>
      Out.pd n .psRdy ∈ t.outs ∧ InContract n r (s.port n).target t ∧ (t.port n).accepted = none) := by
  refine Completes.guarded rfl (by simp [hacc, hrun, hramp, hwin, hpg, htc, hup.pcUp]) ?_
  split
  case h_1 he => exact nomatch hacc.symm.trans he
  case h_2 he =>
    obtain rfl := Option.some.inj (hacc.symm.trans he)
    extract_lets same s1 s2 s3 c s4
    have h4 : Only (OffPd n) s3 s4 := (((s3.setC_offPd n c).trans (State.setK_offPd _ n c)).trans
      (State.setIset_offPd _ n)).trans (State.rpSettle_offPd _ n)
    have h2 : InContract n r (s.port n).target s2 := by
      refine ⟨?_, ?_, ?_, ?_⟩ <;>
        simp (disch := with_unfolding_all refine Field.key_ne rfl rfl ?_; omega) only [s2, s1, State.raise_eq_wr,
          State.rd_wr_ne, State.rd_wr_self]
      rfl
    have h3 : InContract n r (s.port n).target s3 := h2.of_word (fun _ _ _ _ => rfl)
    have hs4 : Out.pd n .psRdy ∈ s4.outs ∧ InContract n r (s.port n).target s4 ∧ (s4.port n).accepted = none :=
      ⟨by simp [show s4.outs = [.pd n .psRdy] from OffPd.outs h4], h3.offPd h4,
        by simp [OffPd.port h4, s3]⟩
    obtain ⟨hout, hin, hnone⟩ := hs4
    split
    · exact ⟨hout, hin, hnone⟩
    · refine ⟨hout, hin.of_word (fun g i hi hg => State.rd_wr_ne _ _ ?_), hnone⟩
      rw [hg]
      exact fun e => Nat.ne_of_lt hi (Nat.add_left_cancel e)

/-- Source_Capabilities is sent and a Request awaited (R298, R299). -/
theorem execSourceCapabilitiesSend_sent (hup : PolicyUp n s) (hdue : (s.port n).capsDue = true)
    (hpg : s.rd (PRT.FUSSTS.PG n) = 1) (hpd : s.rd (PRT.PDCTL.PDEN n) = 1) (htc : s.tc n = 6)
    (hcount : (s.port n).capsCount < 50) : Completes (.sourceCapabilitiesSend n) s (fun t =>
      t.outs = [.pd n (.srcCaps .sent (s.pdos n (s.rd (PWR.PALLOW.ALLOW n))))] ∧ (t.port n).awaitReq = true ∧
      (t.port n).capsCount = (s.port n).capsCount + 1) := by
  refine Completes.guarded rfl (by simp [hdue, hpg, hpd, htc, hcount, hup.pcUp]) ?_
  unfold State.sendCaps
  rw [if_neg (by simp [hpd]), State.port_modPort_self, State.port_modPort_self]
  exact ⟨rfl, rfl, rfl⟩

/-! ## Alerts and the way back (R301, R302, R308) -/

/-- The hard reset ends (R302 step 3). -/
theorem execSrcRecoverExpire_ends (hhr : (s.port n).hr = .recover) :
    Completes (.srcRecoverExpire n) s (fun t => (t.port n).hr = .none) := by
  refine Completes.guarded rfl (by rw [hhr]; rfl) ?_
  have h : Wanes (s.fresh.modPort n (fun p => { p with hr := .none }))
      (((s.fresh.modPort n (fun p => { p with hr := .none })).handoverRelease n).tryApply n) := by
    have h1 := (Wanes.refl (s.fresh.modPort n (fun p => { p with hr := .none })))
    exact (h1.handoverRelease n).tryApply n
  rw [(h.port n).hr, State.port_modPort_self]

/-- The port's Alert is sent (R301, R308). -/
theorem execSinkTxExpire_alert (hup : PolicyUp n s) (hsink : (s.port n).sinkTx = true)
    (hseq : (s.port n).inSequence = false) (htc : s.tc n = 6) (hams : (s.port n).ams = [.alert]) :
    Completes (.sinkTxExpire n) s (fun t => t.outs = [.pd n .alert] ∧ (t.port n).ams = [] ∧
      (t.port n).sinkTx = false ∧ CountsUp (PRT.PDCNT.ALERTS n) s t) := by
  refine Completes.guarded rfl (by simp [hsink, hseq, htc, hup.pcUp]) ?_
  let quiet : PortX → PortX := fun p => { p with ams := [], sinkTx := false }
  let s1 := ((s.fresh.modPort n quiet).emit (.pd n .alert)).bump (PRT.PDCNT.ALERTS n)
  have hrun : s.fresh.amsRun n = s1.orBits (PRT.PDSTS.EVT n) 0x40 := by
    unfold State.amsRun
    rw [show (s.fresh.port n).ams = [.alert] from hams]
    rfl
  rw [hrun]
  have h := State.rpSettle_offPd (s1.orBits (PRT.PDSTS.EVT n) 0x40) n
  have hcount : CountsUp (PRT.PDCNT.ALERTS n) s s1 := CountsUp.bump rfl
  have hport : ((s1.orBits (PRT.PDSTS.EVT n) 0x40).rpSettle n).port n = quiet (s.port n) :=
    (OffPd.port h n).trans (State.port_modPort_self s.fresh n quiet)
  refine ⟨OffPd.outs h, congrArg PortX.ams hport, congrArg PortX.sinkTx hport, Eq.trans ?_ hcount⟩
  refine (OffPd.rd h ?_ ?_).trans (State.rd_wr_ne _ _ (Field.key_ne rfl rfl (by omega)))
  · show _ ≤ (0x10000 + 0x400 * (n.val % 48) + 0x30) * 32 + 24
    omega
  · show (0x10000 + 0x400 * (n.val % 48) + 0x30) * 32 + 24 < _
    omega

end

/-! ## The hard reset (R302) -/

section
variable {s : State} {n : Nat} {o : Out}

theorem State.outs_handoverRestart (s : State) (n : Nat) : (s.handoverRestart n).outs = s.outs := by
  apply Only.outs
  apply State.handoverRestart_only (.refl _ _)
  all_goals (intros; exact nofun)

theorem State.outs_endContract (s : State) (n : Nat) : (s.endContract n).outs = s.outs := by
  apply Only.outs
  apply State.endContract_only (.refl _ _)
  all_goals exact nofun

theorem State.outs_setQuadHold (s : State) (n : Nat) (held : Bool) : (s.setQuadHold n held).outs = s.outs := by
  apply Only.outs
  apply State.setQuadHold_only (.refl _ _)
  all_goals (intros; exact nofun)

/-- What was driven stays driven as the service console ends. -/
theorem State.mem_outs_modeExit (h : o ∈ s.outs) : o ∈ (s.modeExit n).outs := by
  unfold State.modeExit
  split
  · rw [State.outs_setQuadHold]
    exact List.mem_append_left _ h
  · exact h

theorem State.mem_outs_vconnOff (h : o ∈ s.outs) : o ∈ (s.vconnOff n).outs := by
  unfold State.vconnOff
  split
  · exact List.mem_append_left _ h
  · exact h

/-- A hard reset that the Galuc sends from Attached.SRC: the message, and step 1 of R302. -/
theorem State.hardReset_sent (htc : s.tc n = 6) (hhr : (s.port n).hr = .none) :
    ((s.hardReset n true).port n).hr = .waitPs ∧ Out.pd n .hardReset ∈ (s.hardReset n true).outs := by
  unfold State.hardReset
  extract_lets s1 s2 s3
  rw [if_neg (by rw [htc]; decide), if_neg (by simp [htc, hhr])]
  have hout : Out.pd n .hardReset ∈ s1.outs := List.mem_append_right _ (List.mem_singleton_self _)
  have h2 : Out.pd n .hardReset ∈ s2.outs := by
    dsimp only [s2]
    split
    · exact State.mem_outs_vconnOff (State.mem_outs_modeExit hout)
    · exact State.mem_outs_modeExit hout
  have h3 : Out.pd n .hardReset ∈ s3.outs := by
    show _ ∈ ((s2.endContract n).setC n 0).outs
    rw [OffPd.outs (State.setC_offPd _ n 0), State.outs_endContract]
    exact h2
  let s4 := s3.wr (PRT.TCSTS.RPADV n) (s3.rpChoice n)
  have h4 : Wanes s4 ((s4.setIset n).handoverRestart n) := (Wanes.of_offPd (s4.setIset_offPd n)).handoverRestart n
  refine ⟨(h4.port n).hr.trans ?_, ?_⟩
  · exact congrArg PortX.hr (State.port_modPort_self ((s2.endContract n).setC n 0) n
      (fun p => { p with hr := .waitPs, ocOff := false }))
  · rw [State.outs_handoverRestart, OffPd.outs (s4.setIset_offPd n)]
    exact h3

/-- A hard reset leaves the counts and events of PE0 alone. -/
theorem State.hardReset_rd (s : State) (n : Nat) (sent : Bool) {g : Field} (lo : 0x9010 * 32 ≤ g.key)
    (hi : g.key < 0x9080 * 32) : (s.hardReset n sent).rd g = s.rd g := by
  apply Only.rd
  apply State.hardReset_only (.refl _ _)
  all_goals (intros; first | exact Part.field_ne rfl (by omega) | exact nofun)

end

section
variable {n : Fin 48} {s : State}

/-- A message of an explicit contract that nobody acknowledges is followed by Hard Reset (R298). -/
theorem execPdMessageFailed_hardReset (hup : PolicyUp n s) (hexp : s.rd (PRT.PDSTS.EXPLICIT n) = 1) (htc : s.tc n = 6)
    (hhr : (s.port n).hr = .none) : Completes (.pdMessageFailed n false) s (fun t =>
      (t.port n).hr = .waitPs ∧ Out.pd n .hardReset ∈ t.outs) := by
  refine Completes.guarded rfl hup.pcUp ?_
  rw [if_neg (by decide), if_pos (by simp [hexp])]
  exact State.hardReset_sent (s := s.fresh) htc hhr

/-- A Request that does not come in an explicit contract: Hard Reset, shown and counted (R298, R350). -/
theorem execSenderResponseTimeout_hardReset (hup : PolicyUp n s) (hawait : (s.port n).awaitReq = true)
    (hexp : s.rd (PRT.PDSTS.EXPLICIT n) = 1) (htc : s.tc n = 6) (hhr : (s.port n).hr = .none) :
    Completes (.senderResponseTimeout n) s (fun t => (t.port n).hr = .waitPs ∧ Out.pd n .hardReset ∈ t.outs ∧
      t.rd PWR.EVT.IGNHR = 1 ∧ CountsUp PWR.CNT.IGNHR s t) := by
  refine Completes.guarded rfl hup.pcUp ?_
  rw [if_pos hawait, if_pos (by simp [hexp])]
  obtain ⟨hwait, hout⟩ := State.hardReset_sent (s := s.fresh) htc hhr
  refine ⟨hwait, hout, ?_, CountsUp.bump ?_⟩
  · rw [State.bump_eq_wr, State.rd_wr_ne _ _ (by decide), State.raise_eq_wr, State.rd_wr_self]
    rfl
  · rw [State.raise_eq_wr, State.rd_wr_ne _ _ (by decide)]
    exact State.hardReset_rd s.fresh n true (by decide) (by decide)

/-! ## The supply goes off in a hard reset (R302 step 2) -/

section
variable {s : State} {n : Nat}

theorem State.vconnOff_port (s : State) (n m : Nat) : (s.vconnOff n).port m = s.port m :=
  Only.port (State.vconnOff_only (.refl _ _) n nofun nofun nofun)

/-- The gate is off, and what is on VBUS is still there. -/
theorem State.gateOff_port (s : State) (n : Nat) (fast : Bool) :
    ((s.gateOff n fast).port n).gate = false ∧ ((s.gateOff n fast).port n).vbus = (s.port n).vbus := by
  unfold State.gateOff
  extract_lets s1 s2
  have h1 : s1.port n = s.port n := by
    dsimp only [s1]
    split <;> rfl
  have hpg : ((s1.pgFall n).port n).vbus = (s1.port n).vbus := by
    unfold State.pgFall
    split
    · rw [State.port_modPort_self]
      rfl
    · rfl
  have h2 : (s2.port n).vbus = (s.port n).vbus := by
    rw [OffPd.port (State.setC_offPd _ n 0), ← h1, ← hpg]
    rfl
  rw [State.port_modPort_self]
  exact ⟨rfl, h2⟩

/-- A discharge keeps the gate, the hard reset and what is known of VBUS. -/
theorem State.discharge_port (s : State) (n : Nat) : ((s.discharge n).port n).gate = (s.port n).gate ∧
    ((s.discharge n).port n).hr = (s.port n).hr ∧ ((s.discharge n).port n).vbus = (s.port n).vbus := by
  unfold State.discharge
  split
  · rw [State.port_modPort_self]
    exact ⟨rfl, rfl, rfl⟩
  · rename_i hv
    unfold State.vbusGone
    extract_lets s1
    have h1 : s1.port n = s.port n := by
      dsimp only [s1]
      split <;> rfl
    rw [OffPd.port (State.setK_offPd _ n 0), State.port_modPort_self, h1]
    exact ⟨rfl, rfl, by simpa using hv⟩

theorem State.discharge_tc (s : State) (n : Nat) : (s.discharge n).tc n = s.tc n := by
  apply Only.rd
  apply State.discharge_only (.refl _ _)
  all_goals (intros; first | exact Part.field_ne rfl (by show _ ≠ (0x10000 + 0x400 * (n % 48) + 0x10) * 32 + 0; omega) | exact nofun)

theorem State.vbusLoss_tc (s : State) (n : Nat) : (s.vbusLoss n).tc n = s.tc n := by
  apply Only.rd
  apply State.vbusLoss_only (.refl _ _)
  all_goals (intros; first | exact Part.field_ne rfl (by show _ ≠ (0x10000 + 0x400 * (n % 48) + 0x10) * 32 + 0; omega) | exact nofun)

end

/-- VCONN and the gate off; VBUS is discharged, or gone already (R302 step 2). -/
theorem execPsHardResetExpire_off (hhr : (s.port n).hr = .waitPs) : Completes (.psHardResetExpire n) s (fun t =>
    t.tc n = 3 ∧ (t.port n).gate = false ∧ (t.port n).hr = (if (s.port n).vbus then .discharge else .recover)) := by
  refine Completes.guarded rfl (by rw [hhr]; rfl) ?_
  extract_lets s1 s2
  obtain ⟨hgate, hvbus⟩ := State.gateOff_port (s.fresh.vconnOff n) n false
  rw [State.vconnOff_port] at hvbus
  have h2 : (s2.port n).gate = false ∧ (s2.port n).hr = .discharge ∧ (s2.port n).vbus = (s.port n).vbus ∧ s2.tc n = 3 := by
    obtain ⟨hg, hh, hv⟩ := State.discharge_port (s1.modPort n (fun p => { p with hr := .discharge })) n
    rw [State.port_modPort_self] at hg hh hv
    refine ⟨hg.trans hgate, hh, hv.trans hvbus, (State.discharge_tc ..).trans ?_⟩
    show (s1.modPort n _).rd (PRT.TCSTS.TCSTATE n) = 3
    rw [State.rd_modPort, State.rd_wr_self]
    rfl
  clear_value s2
  obtain ⟨hg, hh, hv, htc⟩ := h2
  rw [hv]
  split
  · exact ⟨htc, hg, hh⟩
  · have h3 := ((Wanes.refl (s2.modPort n (fun p => { p with hr := .recover }))).vbusLoss n).port n
    rw [State.port_modPort_self] at h3
    exact ⟨(State.vbusLoss_tc ..).trans htc, h3.gate.trans hg, h3.hr⟩

end

/-! ## The request for vSafe5V (R344) -/

/-- Port `n` supplies vSafe5V: a source with the gate on, and the request is met (R155, R344). -/
structure Supplies (n : Nat) (t : State) : Prop where
  tc : t.tc n = 6
  gate : (t.port n).gate = true
  ask : (t.port n).ask = false
  role : t.rd (PRT.PDSTS.PWRROLE n) = 1
  driven : Out.gate n true false ∈ t.outs

namespace Supplies

variable {n : Nat} {t : State}

theorem emit (h : Supplies n t) (o : Out) : Supplies n (t.emit o) :=
  ⟨h.tc, h.gate, h.ask, h.role, List.mem_append_left _ h.driven⟩

theorem wr (h : Supplies n t) (f : Field) (v : Nat) (htc : f.key ≠ (PRT.TCSTS.TCSTATE n).key)
    (hrole : f.key ≠ (PRT.PDSTS.PWRROLE n).key) : Supplies n (t.wr f v) :=
  ⟨(State.rd_wr_ne _ _ htc.symm).trans h.tc, h.gate, h.ask, (State.rd_wr_ne _ _ hrole.symm).trans h.role, h.driven⟩

theorem vconnOn (h : Supplies n t) : Supplies n (t.vconnOn n) := by
  refine (((h.emit _).wr _ 1 ?_ ?_).wr _ _ ?_ ?_).wr _ 1 ?_ ?_ <;> exact Field.key_ne rfl rfl (by omega)

theorem discovering (h : Supplies n t) : Supplies n (t.modPort n (fun p => { p with discovering := true })) := by
  refine ⟨h.tc, ?_, ?_, h.role, h.driven⟩ <;> rw [State.port_modPort_self]
  · exact h.gate
  · exact h.ask

/-- What PE0 grants is supplied. -/
theorem of_grantV5 (s : State) (n : Nat) : Supplies n (s.grantV5 n) := by
  unfold State.grantV5
  extract_lets s1 s2 s3 s4 s5
  have h2 : s2.tc n = 6 ∧ s2.rd (PRT.PDSTS.PWRROLE n) = 1 := by
    refine ⟨?_, State.rd_wr_self ..⟩
    exact (State.rd_wr_ne _ _ (Field.key_ne rfl rfl (by omega))).trans (State.rd_wr_self ..)
  clear_value s2
  have h3 : s3.tc n = 6 ∧ s3.rd (PRT.PDSTS.PWRROLE n) = 1 ∧ Out.gate n true false ∈ s3.outs := by
    obtain ⟨htc, hrole⟩ := h2
    have hset : Only (· = .field (PRT.IBUSMEAS.ISET n).key) s2 (s2.setIset n) := State.setIset_only (.refl _ _) n rfl
    refine ⟨?_, ?_, List.mem_append_right _ (List.mem_singleton_self _)⟩
    · refine (hset (.field (PRT.TCSTS.TCSTATE n).key) (mt Part.field.inj ?_) _ rfl).trans htc
      exact Field.key_ne rfl rfl (by omega)
    · refine (hset (.field (PRT.PDSTS.PWRROLE n).key) (mt Part.field.inj ?_) _ rfl).trans hrole
      exact Field.key_ne rfl rfl (by omega)
  clear_value s3
  obtain ⟨htc, hrole, hdriven⟩ := h3
  have h4 : Supplies n s4 := by
    refine ⟨htc, ?_, ?_, hrole, hdriven⟩ <;> rw [State.port_modPort_self]
  clear_value s4
  split
  · have h5 : Supplies n s5 := h4.vconnOn
    split
    · exact (h5.emit _).discovering
    · exact h5
  · exact h4

end Supplies

section
variable {n : Fin 48} {s : State}

/-- With the first trigger in hand, the request is served. -/
theorem execBudgetRequest_serves {P : State → Prop} (hask : (s.port n).ask = true) (hpow : s.mayPower n = true)
    (htc : s.tc n = 3) (hruns : s.runs 8 = true) (hwait : s.rd (PWR.PALLOW.WAIT n) = 0) (h : P (s.fresh.serveAsk n)) :
    Completes (.budgetRequest n none) s P :=
  Completes.guarded rfl (by simp [hask, hpow, htc, hruns, State.on, hwait]) h

/-- A request that does not fit waits, and the wait is shown (R344). -/
theorem State.serveAsk_waits (htc : s.tc n = 3) (h : s.fits n (s.v5Amount n - s.kOf n) = false) :
    (s.serveAsk n).rd (PWR.PALLOW.WAIT n) = 1 ∧ (s.serveAsk n).rd PWR.EVT.WAIT = 1 ∧ (s.serveAsk n).tc n = 3 := by
  have hrun : s.serveAsk n = (s.wr (PWR.PALLOW.WAIT n) 1).wr PWR.EVT.WAIT 1 := if_pos (by simp [h])
  rw [hrun]
  refine ⟨?_, State.rd_wr_self .., ?_⟩
  · have hne : (PWR.PALLOW.WAIT n).key ≠ PWR.EVT.WAIT.key := by
      show (0x9000 + 0x400 + 4 * (n.val % 48)) * 32 + 18 ≠ (0x9000 + 0x14) * 32 + 2
      omega
    rw [State.rd_wr_ne _ _ hne, State.rd_wr_self]
    rfl
  · refine ((State.rd_wr_ne _ _ (Field.key_ne rfl rfl (by omega))).trans ?_).trans htc
    exact State.rd_wr_ne _ _ (Field.key_ne rfl rfl (by omega))

/-- A request that fits, from a port that is not held back, is granted (R344). -/
theorem State.serveAsk_supplies (hheld : s.heldBack n = false) (h : s.fits n (s.v5Amount n - s.kOf n) = true) :
    Supplies n (s.serveAsk n) := by
  have hrun : s.serveAsk n = s.grantV5 n := if_neg (by simp [hheld, h])
  rw [hrun]
  exact Supplies.of_grantV5 s n

end

/-- Settles O38: each command as the policy engine's timers and PE0 have it, with Rp, the limit and the books apart from
the PD words, and with the hard reset and the gate kept by the hub events that a loss of VBUS brings. -/
theorem pdTimersComplete : Obligations.PdTimersComplete := by
  intro n r s hup
  refine ⟨fun hrun hacc => execSrcTransitionExpire_target hup hrun hacc, ?_,
    fun hdue hpg hpd htc hcount => execSourceCapabilitiesSend_sent hup hdue hpg hpd htc hcount,
    fun hawait hexp htc hhr => execSenderResponseTimeout_hardReset hup hawait hexp htc hhr,
    fun hexp htc hhr => execPdMessageFailed_hardReset hup hexp htc hhr, execPsHardResetExpire_off,
    execSrcRecoverExpire_ends, fun hsink hseq htc hams => execSinkTxExpire_alert hup hsink hseq htc hams, ?_, ?_⟩
  · intro hacc hrun hramp hwin hpg htc
    obtain ⟨t, hdone, hout, hin, hnone⟩ := execPsRdySend_contract hup hacc hrun hramp hwin hpg htc
    exact ⟨t, hdone, hout, hin.explicit, hin.objpos, hin.vsel, hin.opcurr, hnone⟩
  · intro hask hpow htc hruns hwait hheld hfits
    have h : Supplies n (s.fresh.serveAsk n) := State.serveAsk_supplies hheld hfits
    exact execBudgetRequest_serves hask hpow htc hruns hwait ⟨h.tc, h.gate, h.ask, h.role, h.driven⟩
  · intro hask hpow htc hruns hwait hfits
    exact execBudgetRequest_serves hask hpow htc hruns hwait (State.serveAsk_waits (s := s.fresh) htc hfits)

end Sys2Proof.Machine
end

section
/-! PROOFS. RESET_N and the power-on reset: what holding the core die, sampling the straps and starting it show. -/

namespace Sys2Proof.Machine

section
variable {s t : State}

theorem Only.phase (h : Only (· ≠ .phase) s t) : t.phase = s.phase := h _ (not_not_intro rfl)
theorem Only.resetN (h : Only (· ≠ .resetN) s t) : t.resetN = s.resetN := h _ (not_not_intro rfl)
theorem Only.por (h : Only (· ≠ .por) s t) : t.por = s.por := h _ (not_not_intro rfl)

end

/-! ## The held core die (R60, R72) -/

section
variable (s : State) (cause : Nat)

@[simp] theorem State.holdReset_phase : (s.holdReset cause).phase = .held := rfl

@[simp] theorem State.holdReset_resetN : (s.holdReset cause).resetN = s.resetN := rfl

/-- Of two causes the lower stands, and that of a power-on reset that has not ended is the lowest (R97). -/
theorem State.holdReset_cause : (s.holdReset cause).rd BOOT.RSTCAUSE.CAUSE =
    (if s.vioDue then 1 else if s.phase = .held then min cause s.retain.cause else cause) %
      2 ^ BOOT.RSTCAUSE.CAUSE.width := by
  simp only [← beq_iff_eq (a := s.phase)]
  exact State.rd_wr_self ..

end

/-! ## The straps (R52, R58) -/

section
variable (s : State) (strap : BitVec 5)

@[simp] theorem State.sampleStraps_resetN (k : Nat) : (s.sampleStraps k).resetN = s.resetN := rfl

@[simp] theorem State.sampleStraps_mode :
    (s.sampleStraps strap.toNat).rd SYS.STRAP.MODE = strap.toNat % 4 := by
  rw [State.sampleStraps, State.rd_wr_ne _ _ (by decide), State.rd_wr_self]
  exact Nat.mod_mod ..

@[simp] theorem State.sampleStraps_adr : (s.sampleStraps strap.toNat).rd SYS.STRAP.ADR = strap.toNat / 4 := by
  have hlt : strap.toNat < 2 ^ 5 := strap.isLt
  rw [State.sampleStraps, State.rd_wr_self]
  exact Nat.mod_eq_of_lt (show strap.toNat / 4 < 2 ^ 3 by omega)

@[simp] theorem State.sampleStraps_vio33 (k : Nat) :
    (s.sampleStraps k).rd SYS.STRAP.VIO33 = s.rd SYS.STRAP.VIO33 := by
  rw [State.sampleStraps, State.rd_wr_ne _ _ (by decide), State.rd_wr_ne _ _ (by decide)]

end

/-! ## The core die starts (R52, R90) -/

section
variable (s : State)

theorem State.bootStart_phase : s.bootStart.phase = s.phase := by
  apply Only.phase
  apply State.bootStart_only (.refl _ _)
  all_goals exact nofun

/-- Flash release comes first where the straps ask for it (R52). -/
@[simp] theorem State.startBoot_phase :
    s.startBoot.phase = if s.rd SYS.STRAP.MODE = 2 then .flashRelease else .running := by
  unfold State.startBoot
  split
  · rfl
  · exact State.bootStart_phase _

@[simp] theorem State.startBoot_resetN : s.startBoot.resetN = s.resetN := by
  apply Only.resetN
  apply State.startBoot_only (.refl _ _)
  all_goals exact nofun

@[simp] theorem State.startBoot_por : s.startBoot.por = s.por := by
  apply Only.por
  apply State.startBoot_only (.refl _ _)
  all_goals exact nofun

/-- The start of boot writes words of BOOT alone. -/
theorem State.startBoot_rd {f : Field} (h : f.key < 0x1000 * 32) : s.startBoot.rd f = s.rd f := by
  apply Only.rd
  apply State.startBoot_only (.refl _ _)
  all_goals first | exact Part.field_ne rfl (by omega) | exact nofun

@[simp] theorem State.startBoot_mode : s.startBoot.rd SYS.STRAP.MODE = s.rd SYS.STRAP.MODE := s.startBoot_rd (by decide)

@[simp] theorem State.startBoot_adr : s.startBoot.rd SYS.STRAP.ADR = s.rd SYS.STRAP.ADR := s.startBoot_rd (by decide)

@[simp] theorem State.startBoot_vio33 : s.startBoot.rd SYS.STRAP.VIO33 = s.rd SYS.STRAP.VIO33 :=
  s.startBoot_rd (by decide)

end

/-! ## The end of a power-on reset (R52, R58, R59) -/

/-- The state with the power-on reset ended: what was due is chosen and sampled (R52, R58). -/
def State.porEnded (s : State) (strap : BitVec 5) (vio33 : Bool) : State :=
  let s1 : State := { s.fresh with por := false, vioDue := false, strapDue := false }
  let s2 := if s.vioDue then s1.flag SYS.STRAP.VIO33 vio33 else s1
  if s.strapDue ∧ !s.resetN then s2.sampleStraps strap.toNat else s2

section
variable (s : State) (strap : BitVec 5) (vio33 : Bool)

@[simp] theorem State.porEnded_phase : (s.porEnded strap vio33).phase = s.phase := by
  unfold State.porEnded
  split <;> split <;> rfl

@[simp] theorem State.porEnded_por : (s.porEnded strap vio33).por = false := by
  unfold State.porEnded
  split <;> split <;> rfl

theorem State.porEnded_vio33 (h : s.vioDue = true) : (s.porEnded strap vio33).rd SYS.STRAP.VIO33 = vio33.toNat := by
  have hbit : vio33.toNat % 2 ^ SYS.STRAP.VIO33.width = vio33.toNat := by cases vio33 <;> rfl
  simp only [State.porEnded, if_pos h]
  split
  · exact (State.sampleStraps_vio33 ..).trans ((State.rd_wr_self ..).trans hbit)
  · exact (State.rd_wr_self ..).trans hbit

theorem State.porEnded_straps (h : s.strapDue = true) (hn : s.resetN = false) :
    (s.porEnded strap vio33).rd SYS.STRAP.MODE = strap.toNat % 4 ∧
      (s.porEnded strap vio33).rd SYS.STRAP.ADR = strap.toNat / 4 := by
  simp [State.porEnded, h, hn]

end

/-! ## The commands -/

section
variable {strap : BitVec 5} {vio33 : Bool} {s : State}

theorem execResetNAssert_held (hvio : s.good .vddio = true) :
    Completes (.resetNAssert) s (fun t => t.phase = .held ∧ t.resetN = true ∧ t.rd BOOT.RSTCAUSE.CAUSE =
      (if s.vioDue then 1 else if s.phase = .held then min 2 s.retain.cause else 2) %
        2 ^ BOOT.RSTCAUSE.CAUSE.width) :=
  ⟨State.holdReset { s.fresh with resetN := true } 2, congrArg Host.Outcome.next (if_pos hvio), State.holdReset_phase ..,
    State.holdReset_resetN .., State.holdReset_cause ..⟩

theorem execResetNRelease_starts (hlow : s.resetN = true) (hvio : s.good .vddio = true) (hheld : s.phase = .held)
    (hpor : s.por = false) :
    Completes (.resetNRelease strap) s (fun t => t.resetN = false ∧ t.rd SYS.STRAP.MODE = strap.toNat % 4 ∧
      t.rd SYS.STRAP.ADR = strap.toNat / 4 ∧
      t.phase = (if strap.toNat % 4 = 2 then .flashRelease else .running)) := by
  let s1 : State := { s.fresh with resetN := false }
  let s2 : State := { s1.sampleStraps strap.toNat with strapDue := false }
  have hmode : s2.rd SYS.STRAP.MODE = strap.toNat % 4 := s1.sampleStraps_mode strap
  have hadr : s2.rd SYS.STRAP.ADR = strap.toNat / 4 := s1.sampleStraps_adr strap
  have hrun : exec (.resetNRelease strap) s = .next s2.startBoot :=
    congrArg Host.Outcome.next ((if_pos ⟨hlow, hvio, hheld⟩).trans (if_neg (by simp [hpor])))
  exact ⟨_, hrun, by simp [s2, s1], by simp [hmode], by simp [hadr], by simp [hmode]⟩

section
variable (hpor : s.por = true) (hcore : s.coreGood = true) (hnw : s.good .vddNw = true)
include hpor hcore hnw

theorem execPowerOnResetEnd_starts (hphase : s.phase = .held ∨ s.phase = .unpowered) (hn : s.resetN = false) :
    Completes (.powerOnResetEnd strap vio33) s (fun t => t.por = false ∧
      (s.strapDue = true → t.rd SYS.STRAP.MODE = strap.toNat % 4 ∧ t.rd SYS.STRAP.ADR = strap.toNat / 4) ∧
      (s.vioDue = true → t.rd SYS.STRAP.VIO33 = vio33.toNat) ∧
      t.phase = (if t.rd SYS.STRAP.MODE = 2 then .flashRelease else .running)) := by
  have hne : ¬s.phase = .rescue := by rcases hphase with h | h <;> simp [h]
  have hrun : exec (.powerOnResetEnd strap vio33) s = .next (s.porEnded strap vio33).startBoot :=
    (doneIf_true _ _ (by rcases hphase with h | h <;> simp [h, hpor, hcore, hnw])).trans
      (congrArg Host.Outcome.next ((if_neg hne).trans (if_neg (by simp [hn]))))
  refine ⟨_, hrun, by simp, fun h => ?_, fun h => ?_, by simp⟩
  · simpa using s.porEnded_straps strap vio33 h hn
  · simpa using s.porEnded_vio33 strap vio33 h

theorem execPowerOnResetEnd_rescue (hphase : s.phase = .rescue) :
    Completes (.powerOnResetEnd strap vio33) s (fun t => t.phase = .rescue ∧ t.por = false ∧
      (s.vioDue = true → t.rd SYS.STRAP.VIO33 = vio33.toNat)) := by
  have hrun : exec (.powerOnResetEnd strap vio33) s = .next (s.porEnded strap vio33) :=
    (doneIf_true _ _ (by simp [hphase, hpor, hcore, hnw])).trans (congrArg Host.Outcome.next (if_pos hphase))
  exact ⟨_, hrun, by simp [hphase], by simp, s.porEnded_vio33 strap vio33⟩

end
end

/-- Settles O22: RESET_N low, its release, and the end of the power-on reset out of Reset and in rescue (log entry 65). -/
theorem pinAndPowerResetsComplete : Obligations.PinAndPowerResetsComplete :=
  fun _ _ _ =>
    ⟨execResetNAssert_held, execResetNRelease_starts, fun hphase hpor hcore hnw hn =>
      execPowerOnResetEnd_starts hpor hcore hnw hphase hn, fun hphase hpor hcore hnw =>
      execPowerOnResetEnd_rescue hpor hcore hnw hphase⟩

end Sys2Proof.Machine
end

section
/-! SUPPORT. The ports cut from Nightwatch's regulator (R56) through the operations that have a law of the parts
they change. -/

namespace Sys2Proof.Machine

theorem Only.vbusHigh {s t : State} (h : Only (· ≠ .vbusHigh) s t) : t.vbusHigh = s.vbusHigh :=
  h _ (not_not_intro rfl)

theorem Only.of_vbusHigh {s t : State} (h : t.vbusHigh = s.vbusHigh) : Only (· ≠ .vbusHigh) s t := by
  intro p hp
  cases not_not.mp hp
  exact h

theorem FaultMay.vbusHigh : FaultMay (· ≠ .vbusHigh) := by
  constructor <;> (intros; nofun)

section
variable (s : State)

/-! ## Ports, interrupts, faults and restarts -/

@[simp] theorem State.sumBooks_vbusHigh : s.sumBooks.vbusHigh = s.vbusHigh :=
  Only.vbusHigh (by apply State.sumBooks_only (.refl _ _) <;> (intros; nofun))
@[simp] theorem State.setC_vbusHigh (n c : Nat) : (s.setC n c).vbusHigh = s.vbusHigh :=
  Only.vbusHigh (by apply State.setC_only (.refl _ _) <;> (intros; nofun))
@[simp] theorem State.setK_vbusHigh (n k : Nat) : (s.setK n k).vbusHigh = s.vbusHigh :=
  Only.vbusHigh (by apply State.setK_only (.refl _ _) <;> (intros; nofun))
@[simp] theorem State.fbiDrive_vbusHigh (n code : Nat) : (s.fbiDrive n code).vbusHigh = s.vbusHigh :=
  Only.vbusHigh (State.fbiDrive_only (.refl _ _) _ _ nofun nofun)
@[simp] theorem State.vbusGone_vbusHigh (n : Nat) : (s.vbusGone n).vbusHigh = s.vbusHigh :=
  Only.vbusHigh (by apply State.vbusGone_only (.refl _ _) <;> (intros; nofun))
@[simp] theorem State.discharge_vbusHigh (n : Nat) : (s.discharge n).vbusHigh = s.vbusHigh :=
  Only.vbusHigh (by apply State.discharge_only (.refl _ _) <;> (intros; nofun))
@[simp] theorem State.pdForget_vbusHigh (n : Nat) : (s.pdForget n).vbusHigh = s.vbusHigh :=
  Only.vbusHigh (State.pdForget_only (.refl _ _) _ nofun)
@[simp] theorem State.pgFall_vbusHigh (n : Nat) : (s.pgFall n).vbusHigh = s.vbusHigh :=
  Only.vbusHigh (State.pgFall_only (.refl _ _) _ nofun nofun nofun)
@[simp] theorem State.gateOff_vbusHigh (n : Nat) (fast : Bool) : (s.gateOff n fast).vbusHigh = s.vbusHigh :=
  Only.vbusHigh (by apply State.gateOff_only (.refl _ _) <;> (intros; nofun))
@[simp] theorem State.modeExit_vbusHigh (n : Nat) : (s.modeExit n).vbusHigh = s.vbusHigh :=
  Only.vbusHigh (by apply State.modeExit_only (.refl _ _) <;> (intros; nofun))
@[simp] theorem State.clockUs_vbusHigh : s.clockUs.2.vbusHigh = s.vbusHigh :=
  Only.vbusHigh (State.clockUs_only (.refl _ _) nofun)
@[simp] theorem State.edgeAtMeridian_vbusHigh (i : Nat) : (s.edgeAtMeridian i).vbusHigh = s.vbusHigh :=
  Only.vbusHigh (State.edgeAtMeridian_only (.refl _ _) _ nofun)
@[simp] theorem State.setEntry_vbusHigh (n : Nat) (e : RosterEntry) : (s.setEntry n e).vbusHigh = s.vbusHigh :=
  Only.vbusHigh (by apply State.setEntry_only (.refl _ _) <;> nofun)
@[simp] theorem State.fallSettle_vbusHigh : s.fallSettle.vbusHigh = s.vbusHigh :=
  Only.vbusHigh (State.fallSettle_only (.refl _ _) nofun nofun)
@[simp] theorem State.setPool_vbusHigh (v : Nat) : (s.setPool v).vbusHigh = s.vbusHigh :=
  Only.vbusHigh (by apply State.setPool_only (.refl _ _) <;> nofun)
@[simp] theorem State.dropPkt_vbusHigh (id : Nat) : (s.dropPkt id).vbusHigh = s.vbusHigh :=
  Only.vbusHigh (by apply State.dropPkt_only (.refl _ _) <;> (intros; nofun))
@[simp] theorem State.dropHeld_vbusHigh (n : Nat) (k : Key) : (s.dropHeld n k).vbusHigh = s.vbusHigh :=
  Only.vbusHigh (by apply State.dropHeld_only (.refl _ _) <;> (intros; nofun))
@[simp] theorem State.rtQueue_vbusHigh (u a : Nat) (port : Option Nat) (hs : Bool) :
    (s.rtQueue u a port hs).vbusHigh = s.vbusHigh :=
  Only.vbusHigh (State.rtQueue_only (.refl _ _) _ _ _ _ nofun)
@[simp] theorem State.setHub_vbusHigh (n st : Nat) : (s.setHub n st).vbusHigh = s.vbusHigh :=
  Only.vbusHigh (by apply State.setHub_only (.refl _ _) <;> nofun)
@[simp] theorem State.holdEnd_vbusHigh (n a : Nat) : (s.holdEnd n a).vbusHigh = s.vbusHigh :=
  Only.vbusHigh (State.holdEnd_only (.refl _ _) _ _ nofun)
@[simp] theorem State.ttReset_vbusHigh (n : Nat) : (s.ttReset n).vbusHigh = s.vbusHigh :=
  Only.vbusHigh (State.ttReset_only (.refl _ _) _ nofun nofun)
@[simp] theorem State.ttAndAlmanac_vbusHigh (n : Nat) (cut counted : Bool) :
    (s.ttAndAlmanac n cut counted).vbusHigh = s.vbusHigh :=
  Only.vbusHigh (by apply State.ttAndAlmanac_only (.refl _ _) <;> nofun)
@[simp] theorem State.hubDisconnect_vbusHigh (n : Nat) : (s.hubDisconnect n).vbusHigh = s.vbusHigh :=
  Only.vbusHigh (by apply State.hubDisconnect_only (.refl _ _) <;> (intros; nofun))
@[simp] theorem State.vbusLoss_vbusHigh (n : Nat) : (s.vbusLoss n).vbusHigh = s.vbusHigh :=
  Only.vbusHigh (by apply State.vbusLoss_only (.refl _ _) <;> (intros; nofun))
@[simp] theorem State.vconnOff_vbusHigh (n : Nat) : (s.vconnOff n).vbusHigh = s.vbusHigh :=
  Only.vbusHigh (State.vconnOff_only (.refl _ _) _ nofun nofun nofun)
@[simp] theorem State.powerCut_vbusHigh (n : Nat) : (s.powerCut n).vbusHigh = s.vbusHigh :=
  Only.vbusHigh (by apply State.powerCut_only (.refl _ _) <;> (intros; nofun))
@[simp] theorem State.clearMark_vbusHigh (n : Nat) : (s.clearMark n).vbusHigh = s.vbusHigh :=
  Only.vbusHigh (State.clearMark_only (.refl _ _) _ nofun)
@[simp] theorem State.tryApply_vbusHigh (n : Nat) : (s.tryApply n).vbusHigh = s.vbusHigh :=
  Only.vbusHigh (State.tryApply_only (.refl _ _) _ nofun nofun nofun)
@[simp] theorem State.deliver_vbusHigh (a : Nat) : (s.deliver a).vbusHigh = s.vbusHigh :=
  Only.vbusHigh (State.deliver_only (.refl _ _) _ nofun nofun nofun)
@[simp] theorem State.mbxRelease_vbusHigh (m : Nat) : (s.mbxRelease m).vbusHigh = s.vbusHigh :=
  Only.vbusHigh (by apply State.mbxRelease_only (.refl _ _) <;> nofun)
@[simp] theorem State.wetEnd_vbusHigh (n : Nat) : (s.wetEnd n).vbusHigh = s.vbusHigh :=
  Only.vbusHigh (by apply State.wetEnd_only (.refl _ _) <;> nofun)
@[simp] theorem State.dropPower_vbusHigh (n : Nat) : (s.dropPower n).vbusHigh = s.vbusHigh :=
  Only.vbusHigh (by apply State.dropPower_only (.refl _ _) <;> (intros; nofun))
@[simp] theorem State.demandFall_vbusHigh (n : Nat) : (s.demandFall n).vbusHigh = s.vbusHigh :=
  Only.vbusHigh (by apply State.demandFall_only (.refl _ _) <;> (intros; nofun))
@[simp] theorem State.ccOn_vbusHigh (n : Nat) : (s.ccOn n).vbusHigh = s.vbusHigh :=
  Only.vbusHigh (by apply State.ccOn_only (.refl _ _) <;> nofun)
@[simp] theorem State.evalDemand_vbusHigh (n : Nat) : (s.evalDemand n).vbusHigh = s.vbusHigh :=
  Only.vbusHigh (by apply State.evalDemand_only (.refl _ _) <;> (intros; nofun))
@[simp] theorem State.updAbort_vbusHigh (r : Nat) : (s.updAbort r).vbusHigh = s.vbusHigh :=
  Only.vbusHigh (by apply State.updAbort_only (.refl _ _) <;> nofun)
@[simp] theorem State.detachPers_vbusHigh (u : Nat) : (s.detachPers u).vbusHigh = s.vbusHigh :=
  Only.vbusHigh (by apply State.detachPers_only (.refl _ _) <;> (intros; nofun))
@[simp] theorem State.fbiHiZ_vbusHigh (n : Nat) : (s.fbiHiZ n).vbusHigh = s.vbusHigh :=
  Only.vbusHigh (State.fbiHiZ_only (.refl _ _) _ nofun nofun)
@[simp] theorem State.toTransit_vbusHigh (n : Nat) : (s.toTransit n).vbusHigh = s.vbusHigh :=
  Only.vbusHigh (by apply State.toTransit_only (.refl _ _) <;> (intros; nofun))
@[simp] theorem State.handoverRestart_vbusHigh (n : Nat) : (s.handoverRestart n).vbusHigh = s.vbusHigh :=
  Only.vbusHigh (by apply State.handoverRestart_only (.refl _ _) <;> (intros; nofun))
@[simp] theorem State.attachPers_vbusHigh (u : Nat) : (s.attachPers u).vbusHigh = s.vbusHigh :=
  Only.vbusHigh (State.attachPers_only (.refl _ _) _ nofun nofun nofun)
@[simp] theorem State.leaveTo_vbusHigh (n st : Nat) : (s.leaveTo n st).vbusHigh = s.vbusHigh :=
  Only.vbusHigh (by apply State.leaveTo_only (.refl _ _) <;> nofun)
@[simp] theorem State.mtrPause_vbusHigh (n : Nat) : (s.mtrPause n).vbusHigh = s.vbusHigh :=
  Only.vbusHigh (State.mtrPause_only (.refl _ _) _ nofun)
@[simp] theorem State.iqThrough_vbusHigh (k : Nat) (bs : List Byte) : (s.iqThrough k bs).vbusHigh = s.vbusHigh :=
  Only.vbusHigh (State.iqThrough_only (.refl _ _) _ _ nofun nofun nofun)
@[simp] theorem State.iqPass_vbusHigh (k : Nat) (bs : List Byte) : (s.iqPass k bs).vbusHigh = s.vbusHigh :=
  Only.vbusHigh (State.iqPass_only (.refl _ _) _ _ nofun nofun nofun)
@[simp] theorem State.errorRecovery_vbusHigh (n : Nat) : (s.errorRecovery n).vbusHigh = s.vbusHigh :=
  Only.vbusHigh (by apply State.errorRecovery_only (.refl _ _) <;> (intros; nofun))
@[simp] theorem State.condEnd_vbusHigh (b : FBlk) (k : Nat) : (s.condEnd b k).vbusHigh = s.vbusHigh :=
  Only.vbusHigh (State.condEnd_only (.refl _ _) _ _ nofun)
@[simp] theorem State.ldsConnect_vbusHigh (n time : Nat) : (s.ldsConnect n time).vbusHigh = s.vbusHigh :=
  Only.vbusHigh (by apply State.ldsConnect_only (.refl _ _) <;> nofun)
@[simp] theorem State.detach_vbusHigh (n : Nat) : (s.detach n).vbusHigh = s.vbusHigh :=
  Only.vbusHigh (by apply State.detach_only (.refl _ _) <;> (intros; nofun))
@[simp] theorem State.ldsAttach_vbusHigh (n : Nat) : (s.ldsAttach n).vbusHigh = s.vbusHigh :=
  Only.vbusHigh (by apply State.ldsAttach_only (.refl _ _) <;> nofun)

/-! ## Power, Type-C and the electronic fuse -/

@[simp] theorem State.readvertise_vbusHigh (n : Nat) (paced : Bool) : (s.readvertise n paced).vbusHigh = s.vbusHigh :=
  Only.vbusHigh (State.readvertise_only (.refl _ _) _ _ nofun nofun)
@[simp] theorem State.setIset_vbusHigh (n : Nat) : (s.setIset n).vbusHigh = s.vbusHigh :=
  Only.vbusHigh (State.setIset_only (.refl _ _) _ nofun)
@[simp] theorem State.rpFollow_vbusHigh (n : Nat) : (s.rpFollow n).vbusHigh = s.vbusHigh :=
  Only.vbusHigh (by apply State.rpFollow_only (.refl _ _) <;> (intros; nofun))
@[simp] theorem State.grantV5_vbusHigh (n : Nat) : (s.grantV5 n).vbusHigh = s.vbusHigh :=
  Only.vbusHigh (by apply State.grantV5_only (.refl _ _) <;> (intros; nofun))
@[simp] theorem State.serveAsk_vbusHigh (n : Nat) : (s.serveAsk n).vbusHigh = s.vbusHigh :=
  Only.vbusHigh (by apply State.serveAsk_only (.refl _ _) <;> (intros; nofun))
@[simp] theorem State.walkReduce_vbusHigh (l : List Nat) : (s.walkReduce l).vbusHigh = s.vbusHigh :=
  Only.vbusHigh (by apply State.walkReduce_only (.refl _ _) <;> (intros; nofun))
@[simp] theorem State.walkOff_vbusHigh (l : List Nat) : (s.walkOff l).vbusHigh = s.vbusHigh :=
  Only.vbusHigh (by apply State.walkOff_only (.refl _ _) <;> (intros; nofun))
@[simp] theorem State.walkFail_vbusHigh (q : Nat) (l : List Nat) : (s.walkFail q l).vbusHigh = s.vbusHigh :=
  Only.vbusHigh (by apply State.walkFail_only (.refl _ _) <;> (intros; nofun))
@[simp] theorem State.endMarks_vbusHigh (l : List Nat) : (s.endMarks l).vbusHigh = s.vbusHigh :=
  Only.vbusHigh (by apply State.endMarks_only (.refl _ _) <;> (intros; nofun))
@[simp] theorem State.poolEffect_vbusHigh : s.poolEffect.vbusHigh = s.vbusHigh :=
  Only.vbusHigh (by apply State.poolEffect_only (.refl _ _) <;> (intros; nofun))
@[simp] theorem State.qcapEffect_vbusHigh (q : Nat) : (s.qcapEffect q).vbusHigh = s.vbusHigh :=
  Only.vbusHigh (by apply State.qcapEffect_only (.refl _ _) <;> (intros; nofun))
@[simp] theorem State.pmaxShed_vbusHigh (n : Nat) : (s.pmaxShed n).vbusHigh = s.vbusHigh :=
  Only.vbusHigh (by apply State.pmaxShed_only (.refl _ _) <;> (intros; nofun))
@[simp] theorem State.pcfgEffect_vbusHigh (n : Nat) : (s.pcfgEffect n).vbusHigh = s.vbusHigh :=
  Only.vbusHigh (by apply State.pcfgEffect_only (.refl _ _) <;> (intros; nofun))
@[simp] theorem State.alertQuad_vbusHigh (q : Nat) : (s.alertQuad q).vbusHigh = s.vbusHigh :=
  Only.vbusHigh (State.alertQuad_only (.refl _ _) _ (fun _ => nofun) (fun _ => nofun))
@[simp] theorem State.trip_vbusHigh (n cause : Nat) : (s.trip n cause).vbusHigh = s.vbusHigh :=
  Only.vbusHigh (by apply State.trip_only (.refl _ _) <;> (intros; nofun))
@[simp] theorem State.rearmEffect_vbusHigh (n : Nat) : (s.rearmEffect n).vbusHigh = s.vbusHigh :=
  Only.vbusHigh (by apply State.rearmEffect_only (.refl _ _) <;> nofun)
@[simp] theorem State.fbicapEffect_vbusHigh (q : Nat) : (s.fbicapEffect q).vbusHigh = s.vbusHigh :=
  Only.vbusHigh (by apply State.fbicapEffect_only (.refl _ _) <;> (intros; nofun))
@[simp] theorem State.kickEffect_vbusHigh (n : Nat) : (s.kickEffect n).vbusHigh = s.vbusHigh :=
  Only.vbusHigh (by apply State.kickEffect_only (.refl _ _) <;> (intros; nofun))
@[simp] theorem State.hardReset_vbusHigh (n : Nat) (sent : Bool) : (s.hardReset n sent).vbusHigh = s.vbusHigh :=
  Only.vbusHigh (by apply State.hardReset_only (.refl _ _) <;> (intros; nofun))
@[simp] theorem State.rpSettle_vbusHigh (n : Nat) : (s.rpSettle n).vbusHigh = s.vbusHigh :=
  Only.vbusHigh (by apply State.rpSettle_only (.refl _ _) <;> (intros; nofun))
@[simp] theorem State.upUnattached_vbusHigh (u : Nat) : (s.upUnattached u).vbusHigh = s.vbusHigh :=
  Only.vbusHigh (by apply State.upUnattached_only (.refl _ _) <;> nofun)
@[simp] theorem State.sendCaps_vbusHigh (n : Nat) : (s.sendCaps n).vbusHigh = s.vbusHigh :=
  Only.vbusHigh (State.sendCaps_only (.refl _ _) _ nofun nofun)
@[simp] theorem State.hresetRun_vbusHigh (n : Nat) : (s.hresetRun n).vbusHigh = s.vbusHigh :=
  Only.vbusHigh (by apply State.hresetRun_only (.refl _ _) <;> (intros; nofun))
@[simp] theorem State.amsRun_vbusHigh (n : Nat) : (s.amsRun n).vbusHigh = s.vbusHigh :=
  Only.vbusHigh (by apply State.amsRun_only (.refl _ _) <;> (intros; nofun))
@[simp] theorem State.receive_vbusHigh (n : Nat) (m : PdRx) : (s.receive n m).vbusHigh = s.vbusHigh :=
  Only.vbusHigh (by apply State.receive_only (.refl _ _) <;> (intros; nofun))
@[simp] theorem State.deliverStored_vbusHigh (n : Nat) : (s.deliverStored n).vbusHigh = s.vbusHigh :=
  Only.vbusHigh (by apply State.deliverStored_only (.refl _ _) <;> (intros; nofun))
@[simp] theorem State.attachSource_vbusHigh (n : Nat) (cc2 ra : Bool) :
    (s.attachSource n cc2 ra).vbusHigh = s.vbusHigh :=
  Only.vbusHigh (by apply State.attachSource_only (.refl _ _) <;> nofun)
@[simp] theorem State.upSink_vbusHigh (u : Nat) : (s.upSink u).vbusHigh = s.vbusHigh :=
  Only.vbusHigh (State.upSink_only (.refl _ _) _ nofun nofun)
@[simp] theorem State.upSeen_vbusHigh (u : Nat) (sight : Sys2Proof.CcSight) :
    (s.upSeen u sight).vbusHigh = s.vbusHigh :=
  Only.vbusHigh (by apply State.upSeen_only (.refl _ _) <;> nofun)
@[simp] theorem State.upDebounced_vbusHigh (u : Nat) : (s.upDebounced u).vbusHigh = s.vbusHigh :=
  Only.vbusHigh (State.upDebounced_only (.refl _ _) _ nofun nofun)
@[simp] theorem State.upTryDebounced_vbusHigh (u : Nat) (cc2 : Bool) (cur : Nat) :
    (s.upTryDebounced u cc2 cur).vbusHigh = s.vbusHigh :=
  Only.vbusHigh (by apply State.upTryDebounced_only (.refl _ _) <;> nofun)

/-! ## Hubs, translators and Meteor -/

@[simp] theorem State.enEffect_vbusHigh (u : Nat) : (s.enEffect u).vbusHigh = s.vbusHigh :=
  Only.vbusHigh (by apply State.enEffect_only (.refl _ _) <;> (intros; nofun))
@[simp] theorem State.almclrEffect_vbusHigh (n : Nat) : (s.almclrEffect n).vbusHigh = s.vbusHigh :=
  Only.vbusHigh (State.almclrEffect_only (.refl _ _) _ nofun nofun nofun)
@[simp] theorem State.almenEffect_vbusHigh (n : Nat) : (s.almenEffect n).vbusHigh = s.vbusHigh :=
  Only.vbusHigh (State.almenEffect_only (.refl _ _) _ nofun nofun nofun)
@[simp] theorem State.dataAns_vbusHigh (u : Nat) (d : Option (List Byte)) (len : Nat) :
    (s.dataAns u d len).vbusHigh = s.vbusHigh :=
  Only.vbusHigh (State.dataAns_only (.refl _ _) _ _ _ nofun)
@[simp] theorem State.newSetup_vbusHigh (u : Nat) : (s.newSetup u).vbusHigh = s.vbusHigh :=
  Only.vbusHigh (by apply State.newSetup_only (.refl _ _) <;> nofun)
@[simp] theorem State.getSts_vbusHigh (u len : Nat) : (s.getSts u len).vbusHigh = s.vbusHigh :=
  Only.vbusHigh (by apply State.getSts_only (.refl _ _) <;> nofun)
@[simp] theorem State.rescState_vbusHigh (d a : Nat) : (s.rescState d a).vbusHigh = s.vbusHigh :=
  Only.vbusHigh (State.rescState_only (.refl _ _) _ _ nofun)
@[simp] theorem State.setAddr_vbusHigh (u a : Nat) : (s.setAddr u a).vbusHigh = s.vbusHigh :=
  Only.vbusHigh (by apply State.setAddr_only (.refl _ _) <;> nofun)
@[simp] theorem State.setConfig_vbusHigh (u c : Nat) : (s.setConfig u c).vbusHigh = s.vbusHigh :=
  Only.vbusHigh (by apply State.setConfig_only (.refl _ _) <;> (intros; nofun))
@[simp] theorem State.setIface_vbusHigh (u a : Nat) : (s.setIface u a).vbusHigh = s.vbusHigh :=
  Only.vbusHigh (by apply State.setIface_only (.refl _ _) <;> (intros; nofun))
@[simp] theorem State.testMode_vbusHigh (u sel : Nat) : (s.testMode u sel).vbusHigh = s.vbusHigh :=
  Only.vbusHigh (by apply State.testMode_only (.refl _ _) <;> nofun)
@[simp] theorem State.portSof_vbusHigh (n m : Nat) : (s.portSof n m).vbusHigh = s.vbusHigh :=
  Only.vbusHigh (State.portSof_only (.refl _ _) _ _ nofun nofun nofun)
@[simp] theorem State.sendLed_vbusHigh (i : Nat) : (s.sendLed i).vbusHigh = s.vbusHigh :=
  Only.vbusHigh (State.sendLed_only (.refl _ _) _ nofun (fun _ => nofun) nofun)
@[simp] theorem State.almSee_vbusHigh (n m : Nat) (k : Key) (iso low hub : Bool) :
    (s.almSee n m k iso low hub).vbusHigh = s.vbusHigh :=
  Only.vbusHigh (State.almSee_only (.refl _ _) _ _ _ _ _ _ nofun nofun)
@[simp] theorem State.holdBegin_vbusHigh (n a ep m : Nat) (r : Setup) :
    (s.holdBegin n a ep m r).vbusHigh = s.vbusHigh :=
  Only.vbusHigh (State.holdBegin_only (.refl _ _) _ _ _ _ _ nofun)
@[simp] theorem State.holdTouch_vbusHigh (n a ep m : Nat) : (s.holdTouch n a ep m).vbusHigh = s.vbusHigh :=
  Only.vbusHigh (State.holdTouch_only (.refl _ _) _ _ _ _ nofun)
@[simp] theorem State.ctlAnswer_vbusHigh (u n : Nat) (bf : NpBuf) (h_ : Held) :
    (s.ctlAnswer u n bf h_).vbusHigh = s.vbusHigh :=
  Only.vbusHigh (by apply State.ctlAnswer_only (.refl _ _) <;> (intros; nofun))
@[simp] theorem State.wireFree_vbusHigh (n : Nat) : (s.wireFree n).vbusHigh = s.vbusHigh :=
  Only.vbusHigh (State.wireFree_only (.refl _ _) _ nofun nofun)
@[simp] theorem State.stopTt_vbusHigh (n : Nat) : (s.stopTt n).vbusHigh = s.vbusHigh :=
  Only.vbusHigh (State.stopTt_only (.refl _ _) _ nofun nofun)
@[simp] theorem State.badIn_vbusHigh (r : Nat) : (s.badIn r).vbusHigh = s.vbusHigh :=
  Only.vbusHigh (State.badIn_only (.refl _ _) _ nofun nofun)
@[simp] theorem State.almToggle_vbusHigh (n : Nat) (k : Key) (pid : Nat) :
    (s.almToggle n k pid).vbusHigh = s.vbusHigh :=
  Only.vbusHigh (State.almToggle_only (.refl _ _) _ _ _ nofun)
@[simp] theorem State.pipe_vbusHigh (n a : Nat) (l : List PerRec) : (s.pipe n a l).vbusHigh = s.vbusHigh :=
  Only.vbusHigh (State.pipe_only (.refl _ _) _ _ _ nofun nofun nofun)
@[simp] theorem State.clearTt_vbusHigh (n v : Nat) : (s.clearTt n v).vbusHigh = s.vbusHigh :=
  Only.vbusHigh (State.clearTt_only (.refl _ _) _ _ nofun)
@[simp] theorem State.polledOutcome_vbusHigh (n : Nat) (key : Key) (mode : Nat) (h_ : Option Held) (d : Dev) :
    (s.polledOutcome n key mode h_ d).vbusHigh = s.vbusHigh :=
  Only.vbusHigh (State.polledOutcome_only (.refl _ _) _ _ _ _ _ nofun)
@[simp] theorem State.driveK_vbusHigh (n : Nat) : (s.driveK n).vbusHigh = s.vbusHigh :=
  Only.vbusHigh (by apply State.driveK_only (.refl _ _) <;> nofun)
@[simp] theorem State.partResume_vbusHigh (u : Nat) : (s.partResume u).vbusHigh = s.vbusHigh :=
  Only.vbusHigh (by apply State.partResume_only (.refl _ _) <;> (intros; nofun))
@[simp] theorem State.startResume_vbusHigh (n : Nat) : (s.startResume n).vbusHigh = s.vbusHigh :=
  Only.vbusHigh (by apply State.startResume_only (.refl _ _) <;> nofun)
@[simp] theorem State.hubDo_vbusHigh (n : Nat) (a : HubAct) : (s.hubDo n a).vbusHigh = s.vbusHigh :=
  Only.vbusHigh (by apply State.hubDo_only (.refl _ _) <;> (intros; nofun))
@[simp] theorem State.viewPower_vbusHigh (u n : Nat) (b : Bool) : (s.viewPower u n b).vbusHigh = s.vbusHigh :=
  Only.vbusHigh (State.viewPower_only (.refl _ _) _ _ _ nofun)
@[simp] theorem State.busResetEffect_vbusHigh (u : Nat) (hs : Bool) : (s.busResetEffect u hs).vbusHigh = s.vbusHigh :=
  Only.vbusHigh (by apply State.busResetEffect_only (.refl _ _) <;> (intros; nofun))
@[simp] theorem State.wake_vbusHigh (u n : Nat) : (s.wake u n).vbusHigh = s.vbusHigh :=
  Only.vbusHigh (by apply State.wake_only (.refl _ _) <;> (intros; nofun))
@[simp] theorem State.resumePort_vbusHigh (u n : Nat) : (s.resumePort u n).vbusHigh = s.vbusHigh :=
  Only.vbusHigh (by apply State.resumePort_only (.refl _ _) <;> nofun)

/-! ## The switch, packet memory, ownership and Lodestar -/

@[simp] theorem State.modPkt_vbusHigh (id : Nat) (g : Pkt → Pkt) : (s.modPkt id g).vbusHigh = s.vbusHigh :=
  Only.vbusHigh (State.modPkt_only (.refl _ _) _ _ nofun)
@[simp] theorem State.hbMiss_vbusHigh (n : Nat) : (s.hbMiss n).vbusHigh = s.vbusHigh :=
  Only.vbusHigh (by apply State.hbMiss_only (.refl _ _) <;> nofun)
@[simp] theorem State.ownHold_vbusHigh (n tgt code : Nat) : (s.ownHold n tgt code).vbusHigh = s.vbusHigh :=
  Only.vbusHigh (State.ownHold_only (.refl _ _) _ _ _ nofun nofun)
@[simp] theorem State.rgnEffect_vbusHigh (d oldSize : Nat) : (s.rgnEffect d oldSize).vbusHigh = s.vbusHigh :=
  Only.vbusHigh (by apply State.rgnEffect_only (.refl _ _) <;> (intros; nofun))
@[simp] theorem State.slotlimEffect_vbusHigh (old : Nat) : (s.slotlimEffect old).vbusHigh = s.vbusHigh :=
  Only.vbusHigh (State.slotlimEffect_only (.refl _ _) _ (fun _ => nofun))
@[simp] theorem State.modSlot_vbusHigh (n : Nat) (k : Key) (iso : Bool) (g : Slot → Slot) :
    (s.modSlot n k iso g).vbusHigh = s.vbusHigh :=
  Only.vbusHigh (State.modSlot_only (.refl _ _) _ _ _ _ nofun)
@[simp] theorem State.giveStop_vbusHigh (u n : Nat) (x : Slot) : (s.giveStop u n x).vbusHigh = s.vbusHigh :=
  Only.vbusHigh (State.giveStop_only (.refl _ _) _ _ _ nofun nofun nofun)
@[simp] theorem State.admNak_vbusHigh (u : Nat) : (s.admNak u).vbusHigh = s.vbusHigh :=
  Only.vbusHigh (State.admNak_only (.refl _ _) _ nofun nofun)
@[simp] theorem State.ownOut_vbusHigh (u ep : Nat) : (s.ownOut u ep).vbusHigh = s.vbusHigh :=
  Only.vbusHigh (State.ownOut_only (.refl _ _) _ _ nofun)
@[simp] theorem State.needPing_vbusHigh (n : Nat) (k : Key) (b : Bool) : (s.needPing n k b).vbusHigh = s.vbusHigh :=
  Only.vbusHigh (State.needPing_only (.refl _ _) _ _ _ nofun)
@[simp] theorem State.outError_vbusHigh (n : Nat) (p : Pkt) : (s.outError n p).vbusHigh = s.vbusHigh :=
  Only.vbusHigh (by apply State.outError_only (.refl _ _) <;> (intros; nofun))
@[simp] theorem State.rtApply_vbusHigh (u : Nat) : (s.rtApply u).vbusHigh = s.vbusHigh :=
  Only.vbusHigh (by apply State.rtApply_only (.refl _ _) <;> (intros; nofun))
@[simp] theorem State.pnote_vbusHigh (d : Option Nat) : (s.pnote d).vbusHigh = s.vbusHigh :=
  Only.vbusHigh (State.pnote_only (.refl _ _) _ nofun nofun)
@[simp] theorem State.modFence_vbusHigh (g : FenceX → FenceX) : (s.modFence g).vbusHigh = s.vbusHigh :=
  Only.vbusHigh (State.modFence_only (.refl _ _) _ nofun)
@[simp] theorem State.showPend_vbusHigh : s.showPend.vbusHigh = s.vbusHigh :=
  Only.vbusHigh (State.showPend_only (.refl _ _) nofun)
@[simp] theorem State.listLine_vbusHigh (line : Nat) (head : Bool) : (s.listLine line head).vbusHigh = s.vbusHigh :=
  Only.vbusHigh (State.listLine_only (.refl _ _) _ _ nofun nofun nofun)
@[simp] theorem State.lineHolder_vbusHigh (d : Option Nat) : (s.lineHolder d).2.vbusHigh = s.vbusHigh :=
  Only.vbusHigh (State.lineHolder_only (.refl _ _) _ nofun)
@[simp] theorem State.granule_vbusHigh (queued back : Bool) : (s.granule queued back).vbusHigh = s.vbusHigh :=
  Only.vbusHigh (State.granule_only (.refl _ _) _ _ nofun nofun)
@[simp] theorem State.fenceEnd_vbusHigh (result : Nat) : (s.fenceEnd result).vbusHigh = s.vbusHigh :=
  Only.vbusHigh (by apply State.fenceEnd_only (.refl _ _) <;> nofun)
@[simp] theorem State.retire_vbusHigh (g : Nat) (spare : Bool) : (s.retire g spare).vbusHigh = s.vbusHigh :=
  Only.vbusHigh (by apply State.retire_only (.refl _ _) <;> nofun)
@[simp] theorem State.freePoolLine_vbusHigh : s.freePoolLine.2.vbusHigh = s.vbusHigh :=
  Only.vbusHigh (State.freePoolLine_only (.refl _ _) nofun)
@[simp] theorem State.ldsSend_vbusHigh (n adr : Nat) (step : LdsStep) (r : Setup) (data : List Byte) :
    (s.ldsSend n adr step r data).vbusHigh = s.vbusHigh :=
  Only.vbusHigh (by apply State.ldsSend_only (.refl _ _) <;> nofun)
@[simp] theorem State.ldsGet_vbusHigh (n adr : Nat) (step : LdsStep) (v idx len : Nat) :
    (s.ldsGet n adr step v idx len).vbusHigh = s.vbusHigh :=
  Only.vbusHigh (by apply State.ldsGet_only (.refl _ _) <;> nofun)
@[simp] theorem State.ldsReset_vbusHigh (n : Nat) : (s.ldsReset n).vbusHigh = s.vbusHigh :=
  Only.vbusHigh (by apply State.ldsReset_only (.refl _ _) <;> (intros; nofun))
@[simp] theorem State.toReleasing_vbusHigh (n tgt code : Nat) : (s.toReleasing n tgt code).vbusHigh = s.vbusHigh :=
  Only.vbusHigh (by apply State.toReleasing_only (.refl _ _) <;> (intros; nofun))

/-! ## Boot, accesses and Nightwatch -/

@[simp] theorem State.cfgEffect_vbusHigh (i : Nat) (oldEn : Bool) (oldT : Nat) :
    (s.cfgEffect i oldEn oldT).vbusHigh = s.vbusHigh :=
  Only.vbusHigh (State.cfgEffect_only (.refl _ _) _ _ _ nofun (fun _ => nofun) (fun _ => nofun))
@[simp] theorem State.tctlEffect_vbusHigh (t_ : Nat) : (s.tctlEffect t_).vbusHigh = s.vbusHigh :=
  Only.vbusHigh (by apply State.tctlEffect_only (.refl _ _) <;> nofun)
@[simp] theorem State.clrpendEffect_vbusHigh (i : Nat) : (s.clrpendEffect i).vbusHigh = s.vbusHigh :=
  Only.vbusHigh (State.clrpendEffect_only (.refl _ _) _ nofun (fun _ => nofun))
@[simp] theorem State.showBoot_vbusHigh : s.showBoot.vbusHigh = s.vbusHigh :=
  Only.vbusHigh (by apply State.showBoot_only (.refl _ _) <;> nofun)
@[simp] theorem State.ackEffect_vbusHigh (b : FBlk) : (s.ackEffect b).vbusHigh = s.vbusHigh :=
  Only.vbusHigh (State.ackEffect_only (.refl _ _) _ nofun nofun)
@[simp] theorem State.faultpinEffect_vbusHigh : s.faultpinEffect.vbusHigh = s.vbusHigh :=
  Only.vbusHigh (State.faultpinEffect_only (.refl _ _) nofun nofun)
@[simp] theorem State.clearMarks_vbusHigh (m : Nat) : (s.clearMarks m).vbusHigh = s.vbusHigh :=
  Only.vbusHigh (by apply State.clearMarks_only (.refl _ _) <;> nofun)
@[simp] theorem State.rbStart_vbusHigh (v : Nat) : (s.rbStart v).vbusHigh = s.vbusHigh :=
  Only.vbusHigh (State.rbStart_only (.refl _ _) _ nofun nofun)
@[simp] theorem State.goEffect_vbusHigh (m code : Nat) : (s.goEffect m code).vbusHigh = s.vbusHigh :=
  Only.vbusHigh (by apply State.goEffect_only (.refl _ _) <;> nofun)
@[simp] theorem State.pdctlEffect_vbusHigh (n v old : Nat) : (s.pdctlEffect n v old).vbusHigh = s.vbusHigh :=
  Only.vbusHigh (by apply State.pdctlEffect_only (.refl _ _) <;> (intros; nofun))
@[simp] theorem State.bulkRelease_vbusHigh (m : Nat) : (s.bulkRelease m).vbusHigh = s.vbusHigh :=
  Only.vbusHigh (State.bulkRelease_only (.refl _ _) _ nofun nofun)
@[simp] theorem State.selEffect_vbusHigh (m : Nat) : (s.selEffect m).vbusHigh = s.vbusHigh :=
  Only.vbusHigh (by apply State.selEffect_only (.refl _ _) <;> nofun)
@[simp] theorem State.wireStatus_vbusHigh (onI2c : Bool) (clocked : Nat) :
    (s.wireStatus onI2c clocked).vbusHigh = s.vbusHigh :=
  Only.vbusHigh (State.wireStatus_only (.refl _ _) _ _ nofun nofun)
@[simp] theorem State.vendorSetup_vbusHigh (u : Fin 5) : (s.vendorSetup u).vbusHigh = s.vbusHigh :=
  Only.vbusHigh (by apply State.vendorSetup_only (.refl _ _) <;> nofun)
@[simp] theorem State.icuFlush_vbusHigh : s.icuFlush.vbusHigh = s.vbusHigh :=
  Only.vbusHigh (State.icuFlush_only (.refl _ _) nofun (fun _ => nofun) (fun _ => nofun))
@[simp] theorem State.sleepAbort_vbusHigh (block : Nat) (tmo : Bool) :
    (s.sleepAbort block tmo).vbusHigh = s.vbusHigh :=
  Only.vbusHigh (by apply State.sleepAbort_only (.refl _ _) <;> nofun)
@[simp] theorem State.sleepRefuse_vbusHigh (k : Nat) (tmo : Bool) : (s.sleepRefuse k tmo).vbusHigh = s.vbusHigh :=
  Only.vbusHigh (by apply State.sleepRefuse_only (.refl _ _) <;> nofun)
@[simp] theorem State.enterDusk_vbusHigh : s.enterDusk.vbusHigh = s.vbusHigh :=
  Only.vbusHigh (by apply State.enterDusk_only (.refl _ _) <;> (intros; nofun))
@[simp] theorem State.enterEclipse_vbusHigh : s.enterEclipse.vbusHigh = s.vbusHigh :=
  Only.vbusHigh (by apply State.enterEclipse_only (.refl _ _) <;> (intros; nofun))
@[simp] theorem State.wakeEvent_vbusHigh (cause src detail : Nat) :
    (s.wakeEvent cause src detail).vbusHigh = s.vbusHigh :=
  Only.vbusHigh (by apply State.wakeEvent_only (.refl _ _) <;> nofun)
@[simp] theorem State.identFail_vbusHigh (q : Nat) : (s.identFail q).vbusHigh = s.vbusHigh :=
  Only.vbusHigh (State.identFail_only (.refl _ _) _ nofun)
@[simp] theorem State.linkLost_vbusHigh (i : Nat) : (s.linkLost i).vbusHigh = s.vbusHigh :=
  Only.vbusHigh (by apply State.linkLost_only (.refl _ _) <;> nofun)
@[simp] theorem State.linkBack_vbusHigh (n : Nat) : (s.linkBack n).vbusHigh = s.vbusHigh :=
  Only.vbusHigh (by apply State.linkBack_only (.refl _ _) <;> (intros; nofun))

/-! ## Operations that can record a fault -/

@[simp] theorem State.edge_vbusHigh (i : Nat) : (s.edge i).vbusHigh = s.vbusHigh :=
  Only.vbusHigh (by apply State.edge_only (.refl _ _) <;> (intros; nofun))
@[simp] theorem State.countRecovery_vbusHigh (b : FBlk) : (s.countRecovery b).vbusHigh = s.vbusHigh :=
  Only.vbusHigh (State.countRecovery_only (.refl _ _) _ nofun nofun)
@[simp] theorem State.targetReset_vbusHigh (t_ : Nat) : (s.targetReset t_).vbusHigh = s.vbusHigh :=
  Only.vbusHigh (by apply State.targetReset_only (.refl _ _) <;> (intros; nofun))
@[simp] theorem State.engineStop_vbusHigh (e : Nat) : (s.engineStop e).vbusHigh = s.vbusHigh :=
  Only.vbusHigh (by apply State.engineStop_only (.refl _ _) <;> (intros; nofun))
@[simp] theorem State.ringFlush_vbusHigh : s.ringFlush.vbusHigh = s.vbusHigh :=
  Only.vbusHigh (State.ringFlush_only (.refl _ _) nofun nofun nofun)
@[simp] theorem State.journal_vbusHigh (code inst outcome slot reason arg : Nat) :
    (s.journal code inst outcome slot reason arg).vbusHigh = s.vbusHigh :=
  Only.vbusHigh (by apply State.journal_only (.refl _ _) <;> nofun)
@[simp] theorem State.portToImage_vbusHigh (n : Nat) : (s.portToImage n).vbusHigh = s.vbusHigh :=
  Only.vbusHigh (State.portToImage_only (.refl _ _) _ nofun (fun _ _ => nofun) nofun)
@[simp] theorem State.queueReset_vbusHigh (k : Nat) : (s.queueReset k).vbusHigh = s.vbusHigh :=
  Only.vbusHigh (by apply State.queueReset_only (.refl _ _) <;> (intros; nofun))
@[simp] theorem State.takeAction_vbusHigh (b : FBlk) (k sev : Nat) : (s.takeAction b k sev).vbusHigh = s.vbusHigh :=
  Only.vbusHigh (State.takeAction_only (.refl _ _) _ _ _ FaultMay.vbusHigh)
@[simp] theorem State.record_vbusHigh (b : FBlk) (k : Nat) : (s.record b k).vbusHigh = s.vbusHigh :=
  Only.vbusHigh (State.record_only (.refl _ _) _ _ FaultMay.vbusHigh)
@[simp] theorem State.dieShed_vbusHigh (q : Nat) : (s.dieShed q).vbusHigh = s.vbusHigh :=
  Only.vbusHigh (State.dieShed_only (.refl _ _) _ FaultMay.vbusHigh)
@[simp] theorem State.condBegin_vbusHigh (b : FBlk) (k : Nat) : (s.condBegin b k).vbusHigh = s.vbusHigh :=
  Only.vbusHigh (State.condBegin_only (.refl _ _) _ _ FaultMay.vbusHigh)
@[simp] theorem State.claim_vbusHigh (a : Nat) : (s.claim a).2.vbusHigh = s.vbusHigh :=
  Only.vbusHigh (by apply State.claim_only (.refl _ _) <;> (intros; nofun))
@[simp] theorem State.doneEffect_vbusHigh (t_ v : Nat) : (s.doneEffect t_ v).vbusHigh = s.vbusHigh :=
  Only.vbusHigh (State.doneEffect_only (.refl _ _) _ _ FaultMay.vbusHigh nofun)
@[simp] theorem State.armSector_vbusHigh (i : Nat) : (s.armSector i).vbusHigh = s.vbusHigh :=
  Only.vbusHigh (State.armSector_only (.refl _ _) _ nofun (fun _ => nofun) nofun)
@[simp] theorem State.handoverRelease_vbusHigh (n : Nat) : (s.handoverRelease n).vbusHigh = s.vbusHigh :=
  Only.vbusHigh (State.handoverRelease_only (.refl _ _) _ nofun)
@[simp] theorem State.sectorArm_vbusHigh (i : Nat) : (s.sectorArm i).vbusHigh = s.vbusHigh :=
  Only.vbusHigh (by apply State.sectorArm_only (.refl _ _) <;> (intros; nofun))
@[simp] theorem State.recordPresent_vbusHigh (b : FBlk) : (s.recordPresent b).vbusHigh = s.vbusHigh :=
  Only.vbusHigh (State.recordPresent_only (.refl _ _) _ FaultMay.vbusHigh)
@[simp] theorem State.rebuild_vbusHigh : s.rebuild.vbusHigh = s.vbusHigh :=
  Only.vbusHigh (State.rebuild_only (.refl _ _) nofun nofun)
@[simp] theorem State.recall_vbusHigh : s.recall.vbusHigh = s.vbusHigh :=
  Only.vbusHigh (State.recall_only (.refl _ _) nofun nofun)
@[simp] theorem State.startBoot_vbusHigh : s.startBoot.vbusHigh = s.vbusHigh :=
  Only.vbusHigh (by apply State.startBoot_only (.refl _ _) <;> nofun)
@[simp] theorem State.trim_vbusHigh (p : Pkt) : (s.trim p).vbusHigh = s.vbusHigh :=
  Only.vbusHigh (by apply State.trim_only (.refl _ _) <;> nofun)
@[simp] theorem State.latchOff_vbusHigh (n : Nat) : (s.latchOff n).vbusHigh = s.vbusHigh :=
  Only.vbusHigh (State.latchOff_only (.refl _ _) _ nofun nofun)
@[simp] theorem State.updWake_vbusHigh : s.updWake.vbusHigh = s.vbusHigh :=
  Only.vbusHigh (by apply State.updWake_only (.refl _ _) <;> nofun)
@[simp] theorem State.updStart_vbusHigh (cmd slot code : Nat) : (s.updStart cmd slot code).vbusHigh = s.vbusHigh :=
  Only.vbusHigh (by apply State.updStart_only (.refl _ _) <;> nofun)
@[simp] theorem State.engineRun_vbusHigh (e : Nat) : (s.engineRun e).vbusHigh = s.vbusHigh :=
  Only.vbusHigh (State.engineRun_only (.refl _ _) _ nofun nofun nofun)
@[simp] theorem State.voidPkt_vbusHigh (id : Nat) (wire : Bool) : (s.voidPkt id wire).vbusHigh = s.vbusHigh :=
  Only.vbusHigh (by apply State.voidPkt_only (.refl _ _) <;> (intros; nofun))
@[simp] theorem State.produce_vbusHigh (p : Pkt) : (s.produce p).vbusHigh = s.vbusHigh :=
  Only.vbusHigh (State.produce_only (.refl _ _) _ FaultMay.vbusHigh)
@[simp] theorem State.begin_vbusHigh (inp out : Nat) (kind : PktKind) (key : Key) (pid age : Nat) (bs : List Byte)
    (t_ : Tail) (await : Bool) :
    (s.begin inp out kind key pid age bs t_ await).vbusHigh = s.vbusHigh :=
  Only.vbusHigh (State.begin_only (.refl _ _) _ _ _ _ _ _ _ _ _ FaultMay.vbusHigh)
@[simp] theorem State.relaySetup_vbusHigh (u a ep : Nat) (r : Setup) (ok : Bool) :
    (s.relaySetup u a ep r ok).vbusHigh = s.vbusHigh :=
  Only.vbusHigh (State.relaySetup_only (.refl _ _) _ _ _ _ _ FaultMay.vbusHigh nofun)
@[simp] theorem State.getDesc_vbusHigh (u wValue len : Nat) : (s.getDesc u wValue len).vbusHigh = s.vbusHigh :=
  Only.vbusHigh (by apply State.getDesc_only (.refl _ _) <;> nofun)
@[simp] theorem State.ownSetup_vbusHigh (u : Nat) (r : Setup) : (s.ownSetup u r).vbusHigh = s.vbusHigh :=
  Only.vbusHigh (State.ownSetup_only (.refl _ _) _ _ FaultMay.vbusHigh nofun nofun)
@[simp] theorem State.relayOut_vbusHigh (u a ep : Nat) (tog : Bool) (bs : List Byte) :
    (s.relayOut u a ep tog bs).vbusHigh = s.vbusHigh :=
  Only.vbusHigh (State.relayOut_only (.refl _ _) _ _ _ _ _ FaultMay.vbusHigh nofun)
@[simp] theorem State.askIn_vbusHigh (u n : Nat) (k : Key) (iso : Bool) : (s.askIn u n k iso).vbusHigh = s.vbusHigh :=
  Only.vbusHigh (State.askIn_only (.refl _ _) _ _ _ _ FaultMay.vbusHigh)
@[simp] theorem State.relayIn_vbusHigh (u a ep : Nat) (acked : Bool) :
    (s.relayIn u a ep acked).vbusHigh = s.vbusHigh :=
  Only.vbusHigh (State.relayIn_only (.refl _ _) _ _ _ _ FaultMay.vbusHigh nofun)
@[simp] theorem State.copyBeat_vbusHigh (p : Pkt) : (s.copyBeat p).vbusHigh = s.vbusHigh :=
  Only.vbusHigh (by apply State.copyBeat_only (.refl _ _) <;> (intros; nofun))
@[simp] theorem State.voidTail_vbusHigh (p : Pkt) (crcOk : Bool) : (s.voidTail p crcOk).vbusHigh = s.vbusHigh :=
  Only.vbusHigh (State.voidTail_only (.refl _ _) _ _ FaultMay.vbusHigh (fun _ => nofun))
@[simp] theorem State.inEmpty_vbusHigh (n : Nat) (p : Pkt) (g : Slot → Slot) :
    (s.inEmpty n p g).vbusHigh = s.vbusHigh :=
  Only.vbusHigh (by apply State.inEmpty_only (.refl _ _) <;> (intros; nofun))
@[simp] theorem State.stepRec_vbusHigh (code inst : Nat) (x : StepOut) :
    (s.stepRec code inst x).vbusHigh = s.vbusHigh :=
  Only.vbusHigh (by apply State.stepRec_only (.refl _ _) <;> nofun)
@[simp] theorem State.setMark_vbusHigh (k : Nat) : (s.setMark k).vbusHigh = s.vbusHigh :=
  Only.vbusHigh (by apply State.setMark_only (.refl _ _) <;> nofun)
@[simp] theorem State.stepFail_vbusHigh (x : StepOut) : (s.stepFail x).vbusHigh = s.vbusHigh :=
  Only.vbusHigh (by apply State.stepFail_only (.refl _ _) <;> nofun)
@[simp] theorem State.usesAlt_vbusHigh (k : Nat) : (s.usesAlt k).vbusHigh = s.vbusHigh :=
  Only.vbusHigh (State.usesAlt_only (.refl _ _) _ nofun)
@[simp] theorem State.showHeader_vbusHigh (h_ : Header) : (s.showHeader h_).vbusHigh = s.vbusHigh :=
  Only.vbusHigh (by apply State.showHeader_only (.refl _ _) <;> nofun)
@[simp] theorem State.cacheWrite_vbusHigh (ofs : Nat) (bs : List Byte) :
    (s.cacheWrite ofs bs).vbusHigh = s.vbusHigh :=
  Only.vbusHigh (State.cacheWrite_only (.refl _ _) _ _ nofun nofun)
@[simp] theorem State.identStep_vbusHigh (q : Nat) (quick : Bool) (mem : Option (List Byte)) :
    (s.identStep q quick mem).2.vbusHigh = s.vbusHigh :=
  Only.vbusHigh (by apply State.identStep_only (.refl _ _) (hF := FaultMay.vbusHigh) <;> (intros; nofun))
@[simp] theorem State.linkStep_vbusHigh (i : Nat) (full reduced : Bool) :
    (s.linkStep i full reduced).2.vbusHigh = s.vbusHigh :=
  Only.vbusHigh (by apply State.linkStep_only (.refl _ _) (hF := FaultMay.vbusHigh) <;> nofun)
@[simp] theorem State.writeHeader_vbusHigh (h_ : Header) : (s.writeHeader h_).vbusHigh = s.vbusHigh :=
  Only.vbusHigh (by apply State.writeHeader_only (.refl _ _) <;> nofun)
@[simp] theorem State.begun_vbusHigh : s.begun.vbusHigh = s.vbusHigh :=
  Only.vbusHigh (by apply State.begun_only (.refl _ _) <;> nofun)
@[simp] theorem State.sampleStraps_vbusHigh (strap : Nat) : (s.sampleStraps strap).vbusHigh = s.vbusHigh :=
  Only.vbusHigh (State.sampleStraps_only (.refl _ _) _ nofun nofun)
@[simp] theorem State.commitLand_vbusHigh (x : UpdX) : (s.commitLand x).vbusHigh = s.vbusHigh :=
  Only.vbusHigh (by apply State.commitLand_only (.refl _ _) <;> nofun)
@[simp] theorem State.updDone_vbusHigh (x : UpdX) (readBack : Bool) : (s.updDone x readBack).vbusHigh = s.vbusHigh :=
  Only.vbusHigh (by apply State.updDone_only (.refl _ _) <;> nofun)
@[simp] theorem State.ldsRecord_vbusHigh (n i : Nat) : (s.ldsRecord n i).vbusHigh = s.vbusHigh :=
  Only.vbusHigh (by apply State.ldsRecord_only (.refl _ _) <;> nofun)
@[simp] theorem State.ldsData_vbusHigh (n : Nat) (bs : List Byte) : (s.ldsData n bs).vbusHigh = s.vbusHigh :=
  Only.vbusHigh (by apply State.ldsData_only (.refl _ _) <;> (intros; nofun))
@[simp] theorem State.ldsAck_vbusHigh (n : Nat) : (s.ldsAck n).vbusHigh = s.vbusHigh :=
  Only.vbusHigh (by apply State.ldsAck_only (.refl _ _) <;> nofun)
@[simp] theorem State.ldsBad_vbusHigh (n : Nat) (stall : Bool) : (s.ldsBad n stall).vbusHigh = s.vbusHigh :=
  Only.vbusHigh (by apply State.ldsBad_only (.refl _ _) <;> (intros; nofun))
@[simp] theorem State.errAt_vbusHigh (a : Sys2Proof.ErrAt) : (s.errAt a).vbusHigh = s.vbusHigh :=
  Only.vbusHigh (by apply State.errAt_only (.refl _ _) <;> (intros; nofun))
@[simp] theorem State.ldsReturn_vbusHigh : s.ldsReturn.vbusHigh = s.vbusHigh :=
  Only.vbusHigh (by apply State.ldsReturn_only (.refl _ _) <;> (intros; nofun))
@[simp] theorem State.hubReplay_vbusHigh (n : Nat) : (s.hubReplay n).vbusHigh = s.vbusHigh :=
  Only.vbusHigh (by apply State.hubReplay_only (.refl _ _) <;> (intros; nofun))
@[simp] theorem State.pe1Return_vbusHigh : s.pe1Return.vbusHigh = s.vbusHigh :=
  Only.vbusHigh (State.pe1Return_only (.refl _ _) (fun _ => nofun))

/-! ## Words that a requester writes -/

@[simp] theorem State.setResult_vbusHigh (r : Requester) (c : Nat) : (s.setResult r c).vbusHigh = s.vbusHigh :=
  by cases r <;> rfl
end

end Sys2Proof.Machine
end

section
/-! SUPPORT. The ports cut from Nightwatch's regulator (R56) through the operations built from those. -/

namespace Sys2Proof.Machine

section
variable (s : State)

@[simp] theorem State.setView_vbusHigh (u n : Nat) (v : View) : (s.setView u n v).vbusHigh = s.vbusHigh := rfl
@[simp] theorem State.setAlm_vbusHigh (n k : Nat) (e : AlmEntry) : (s.setAlm n k e).vbusHigh = s.vbusHigh := rfl
@[simp] theorem State.modLds_vbusHigh (n : Nat) (g : LdsPort → LdsPort) : (s.modLds n g).vbusHigh = s.vbusHigh := rfl
@[simp] theorem State.elapsedUs_vbusHigh (a : Nat) : (s.elapsedUs a).2.vbusHigh = s.vbusHigh := rfl
@[simp] theorem State.hubEvt_vbusHigh (n k : Nat) : (s.hubEvt n k).vbusHigh = s.vbusHigh :=
  Only.vbusHigh (by apply Only.hubEvt (.refl _ _) <;> nofun)

end

section
variable {α β : Type} {c : Prop} {_ : Decidable c}

@[simp] theorem State.ite_vbusHigh (a b : State) :
    (if c then a else b).vbusHigh = if c then a.vbusHigh else b.vbusHigh := apply_ite ..

@[simp] theorem State.ite_snd_vbusHigh (a b : α × State) :
    (if c then a else b).2.vbusHigh = if c then a.2.vbusHigh else b.2.vbusHigh :=
  apply_ite (fun x : α × State => x.2.vbusHigh) ..

@[simp] theorem State.ite_snd_snd_vbusHigh (a b : α × β × State) :
    (if c then a else b).2.2.vbusHigh = if c then a.2.2.vbusHigh else b.2.2.vbusHigh :=
  apply_ite (fun x : α × β × State => x.2.2.vbusHigh) ..

/-- The operation leaves the cut as it is. -/
def SparesHigh (g : State → State) : Prop := ∀ u, (g u).vbusHigh = u.vbusHigh

@[simp] theorem sparesHigh_iff (g : State → State) : SparesHigh g ↔ ∀ u, (g u).vbusHigh = u.vbusHigh := ⟨id, id⟩

@[simp] theorem State.foldl_vbusHigh (l : List α) (g : State → α → State) (s : State) (h : ∀ a, SparesHigh (g · a)) :
    (l.foldl g s).vbusHigh = s.vbusHigh := foldl_same _ (fun u a => h a u) _ _

@[simp] theorem State.forEach_vbusHigh (s : State) (l : List Nat) (g : State → Nat → State)
    (h : ∀ a, SparesHigh (g · a)) : (s.forEach l g).vbusHigh = s.vbusHigh := State.foldl_vbusHigh l g s h

end

section
variable (s : State)

/-! ## Ports and faults -/

@[simp] theorem State.dropChanges_vbusHigh (n : Nat) : (s.dropChanges n).vbusHigh = s.vbusHigh := by
  simp [State.dropChanges]
@[simp] theorem State.portRestart_vbusHigh (n : Nat) : (s.portRestart n).vbusHigh = s.vbusHigh := by
  simp [State.portRestart]

/-! ## Thermal model and samples -/

@[simp] theorem State.recomputeAllowances_vbusHigh : s.recomputeAllowances.vbusHigh = s.vbusHigh := by
  simp [State.recomputeAllowances]
@[simp] theorem State.serveList_vbusHigh (l : List Nat) : (s.serveList l).vbusHigh = s.vbusHigh := by
  induction l generalizing s with
  | nil => rfl
  | cons n l ih => simp [State.serveList, ih]
@[simp] theorem State.serveWaiting_vbusHigh : s.serveWaiting.vbusHigh = s.vbusHigh := by
  simp [State.serveWaiting]
@[simp] theorem State.dsroleEffect_vbusHigh (n : Nat) : (s.dsroleEffect n).vbusHigh = s.vbusHigh := by
  simp [State.dsroleEffect]
@[simp] theorem State.upRoleEffect_vbusHigh (u : Nat) : (s.upRoleEffect u).vbusHigh = s.vbusHigh := by
  simp [State.upRoleEffect]

/-! ## Hubs -/

@[simp] theorem State.prstrtEffect_vbusHigh (n : Nat) : (s.prstrtEffect n).vbusHigh = s.vbusHigh := by
  simp [State.prstrtEffect]
@[simp] theorem State.vbusChange_vbusHigh (u : Nat) (present : Bool) :
    (s.vbusChange u present).vbusHigh = s.vbusHigh := by
  unfold State.vbusChange
  extract_lets s1
  have h1 : s1.vbusHigh = s.vbusHigh := rfl
  split
  · rw [State.attachPers_vbusHigh]
    split <;> simp [h1]
  · rw [State.detachPers_vbusHigh]
    split <;> simp [h1]

/-! ## The switch and Lodestar -/

@[simp] theorem State.ldsPollLost_vbusHigh (n : Nat) : (s.ldsPollLost n).vbusHigh = s.vbusHigh := by
  simp [State.ldsPollLost]
@[simp] theorem State.sampleRequests_vbusHigh : s.sampleRequests.vbusHigh = s.vbusHigh := by
  simp [State.sampleRequests]

/-! ## Resets and the flash -/

@[simp] theorem State.devReset_vbusHigh (cause : Nat) : (s.devReset cause).vbusHigh = s.vbusHigh := by
  simp [State.devReset]
@[simp] theorem State.restoreBlock_vbusHigh (b : FBlk) : (s.restoreBlock b).vbusHigh = s.vbusHigh := by
  unfold State.restoreBlock
  cases b <;> simp
@[simp] theorem State.recover_vbusHigh (b : FBlk) : (s.recover b).vbusHigh = s.vbusHigh := by
  simp [State.recover]
@[simp] theorem State.clrlatchEffect_vbusHigh (b : FBlk) (pass : Bool) :
    (s.clrlatchEffect b pass).vbusHigh = s.vbusHigh := by
  simp [State.clrlatchEffect]
@[simp] theorem State.rcClear_vbusHigh (f : Field) (v : Nat) : (s.rcClear f v).vbusHigh = s.vbusHigh := by
  simp [State.rcClear]
@[simp] theorem State.rcClearBit_vbusHigh (b : Nat) (f : Field) : (s.rcClearBit b f).vbusHigh = s.vbusHigh := by
  simp [State.rcClearBit]
@[simp] theorem State.recordAgain_vbusHigh (a v : Nat) : (s.recordAgain a v).vbusHigh = s.vbusHigh := by
  unfold State.recordAgain
  split <;> simp
@[simp] theorem State.readClear_vbusHigh (a w : Nat) (bit : Option Nat) :
    (s.readClear a w bit).vbusHigh = s.vbusHigh := by
  cases bit <;> simp [State.readClear]
@[simp] theorem State.readDone_vbusHigh (p : Place) (w : Nat) : (s.readDone p w).vbusHigh = s.vbusHigh := by
  unfold State.readDone
  split
  case h_1 => split <;> simp
  all_goals simp
@[simp] theorem State.sample_vbusHigh (r : Requester) (p : Place) : (s.sample r p).2.2.vbusHigh = s.vbusHigh := by
  unfold State.sample
  extract_lets c
  split
  · rfl
  · split
    case h_6 => split <;> simp
    all_goals rfl
@[simp] theorem State.rescueExit_vbusHigh : s.rescueExit.vbusHigh = s.vbusHigh := by
  simp [State.rescueExit]
@[simp] theorem State.mbxTake_vbusHigh : s.mbxTake.vbusHigh = s.vbusHigh := by
  simp [State.mbxTake]
@[simp] theorem State.flashOpen_vbusHigh : s.flashOpen.vbusHigh = s.vbusHigh := by
  simp [State.flashOpen]
@[simp] theorem State.enterRescue_vbusHigh (why : Nat) : (s.enterRescue why).vbusHigh = s.vbusHigh := by
  simp [State.enterRescue]
@[simp] theorem State.loadBudget_vbusHigh (bs : List Byte) : (s.loadBudget bs).vbusHigh = s.vbusHigh := by
  simp [State.loadBudget]
@[simp] theorem State.loadPers_vbusHigh (u : Nat) (r : List Byte) : (s.loadPers u r).vbusHigh = s.vbusHigh := by
  simp [State.loadPers]
@[simp] theorem State.loadTables_vbusHigh (base : Nat) (es : List Sect) :
    (s.loadTables base es).vbusHigh = s.vbusHigh := by
  unfold State.loadTables
  extract_lets get pers pd s1
  have h1 : s1.vbusHigh = s.vbusHigh := by simp [s1]
  clear_value s1
  exact h1
@[simp] theorem State.holdReset_vbusHigh (cause : Nat) : (s.holdReset cause).vbusHigh = s.vbusHigh := by
  simp [State.holdReset]
@[simp] theorem State.settle_vbusHigh : s.settle.vbusHigh = s.vbusHigh := by
  simp [State.settle]
@[simp] theorem State.powerLost_vbusHigh : s.powerLost.vbusHigh = s.vbusHigh := by
  simp [State.powerLost]
@[simp] theorem State.portDieOff_vbusHigh (n : Nat) : (s.portDieOff n).vbusHigh = s.vbusHigh := by
  simp [State.portDieOff]
@[simp] theorem State.dieDown_vbusHigh (i : Nat) : (s.dieDown i).vbusHigh = s.vbusHigh := by
  simp [State.dieDown]
@[simp] theorem State.coreLow_vbusHigh (x : Supply) : (s.coreLow x).vbusHigh = s.vbusHigh := by
  simp [State.coreLow]

/-! ## Accesses, boot and the Meridian -/

@[simp] theorem State.metOff_vbusHigh (off : Bool) : (s.metOff off).vbusHigh = s.vbusHigh := by
  simp [State.metOff]
@[simp] theorem State.shiftWords_vbusHigh (r : Requester) (a k : Nat) :
    (s.shiftWords r a k).2.vbusHigh = s.vbusHigh := by
  induction k generalizing s a with
  | zero => rfl
  | succ k ih => simp [State.shiftWords, ih]
@[simp] theorem State.readData_vbusHigh (r : Requester) (a n bad : Nat) :
    (s.readData r a n bad).2.2.vbusHigh = s.vbusHigh := by
  simp [State.readData]
@[simp] theorem State.lastErr_vbusHigh (r : Requester) (c : Nat) : (s.lastErr r c).vbusHigh = s.vbusHigh := by
  simp [State.lastErr]
@[simp] theorem State.wireRead_vbusHigh (onI2c : Bool) (hdr : List Byte) (clocked : Nat) :
    (s.wireRead onI2c hdr clocked).vbusHigh = s.vbusHigh := by
  simp [State.wireRead]
@[simp] theorem State.bootEffect_vbusHigh (r : Requester) (off v : Nat) :
    (s.bootEffect r off v).vbusHigh = s.vbusHigh := by
  simp [State.bootEffect]
@[simp] theorem State.icuEffect_vbusHigh (off v old : Nat) : (s.icuEffect off v old).vbusHigh = s.vbusHigh := by
  simp [State.icuEffect]
@[simp] theorem State.prtEffect_vbusHigh (r : Requester) (n off v old : Nat) :
    (s.prtEffect r n off v old).vbusHigh = s.vbusHigh := by
  simp [State.prtEffect]
@[simp] theorem State.wordEffect_vbusHigh (r : Requester) (a v old : Nat) (test : Option Bool) :
    (s.wordEffect r a v old test).vbusHigh = s.vbusHigh := by
  unfold State.wordEffect
  split
  · split
    · extract_lets s1
      have h1 : s1.vbusHigh = s.vbusHigh := by simp [s1]
      split
      · split <;> simp [h1]
      · exact h1
    · rfl
  · split <;> simp
@[simp] theorem State.commitWord_vbusHigh (r : Requester) (a v : Nat) (test : Option Bool) :
    (s.commitWord r a v test).vbusHigh = s.vbusHigh :=
  Only.vbusHigh (State.commitWord_only (.refl _ _) r a v test nofun nofun (fun _ _ => nofun)
    (fun _ _ h => h.trans (.of_vbusHigh (State.wordEffect_vbusHigh ..))))
@[simp] theorem State.writeWords_vbusHigh (k : State) (r : Requester) (a : Nat) (test : Option Bool) (l : List Nat) :
    (s.writeWords k r a test l).2.2.vbusHigh = s.vbusHigh := by
  induction l generalizing s a with
  | nil => rfl
  | cons v l ih =>
    rw [State.writeWords, ih]
    split
    · split
      · exact State.commitWord_vbusHigh ..
      · rfl
    · rfl
@[simp] theorem State.writeFrame_vbusHigh (r : Requester) (a : Nat) (vs : List Nat) (test : Option Bool) :
    (s.writeFrame r a vs test).2.vbusHigh = s.vbusHigh := by
  simp [State.writeFrame]
@[simp] theorem State.wireWrite_vbusHigh (onI2c : Bool) (bytes : List Byte) :
    (s.wireWrite onI2c bytes).vbusHigh = s.vbusHigh := by
  simp [State.wireWrite]
@[simp] theorem State.wireUnknown_vbusHigh (onI2c : Bool) : (s.wireUnknown onI2c).vbusHigh = s.vbusHigh := by
  simp [State.wireUnknown]
@[simp] theorem State.serveI2c_vbusHigh (f : I2cFrame) : (s.serveI2c f).vbusHigh = s.vbusHigh := by
  cases f <;> simp [State.serveI2c]
@[simp] theorem State.clearWords_vbusHigh (l : List (Nat × Nat)) (a : Nat) :
    (s.clearWords a l).vbusHigh = s.vbusHigh := by
  induction l generalizing s a with
  | nil => rfl
  | cons x l ih => simp [State.clearWords, ih]
@[simp] theorem State.sampleWords_vbusHigh (r : Requester) (a k : Nat) :
    (s.sampleWords r a k).2.vbusHigh = s.vbusHigh := by
  induction k generalizing s a with
  | zero => rfl
  | succ k ih => simp [State.sampleWords, ih]
@[simp] theorem State.setTj_vbusHigh (tj peak : Field) (v : Nat) : (s.setTj tj peak v).vbusHigh = s.vbusHigh := by
  simp [State.setTj]
@[simp] theorem State.takePort_vbusHigh (n : Nat) (m : PortSample) : (s.takePort n m).vbusHigh = s.vbusHigh := by
  simp [State.takePort]
@[simp] theorem State.quadHot_vbusHigh (q : Nat) : (s.quadHot q).vbusHigh = s.vbusHigh := by
  simp [State.quadHot]
@[simp] theorem State.quadNtc_vbusHigh (q : Nat) (bad : Bool) : (s.quadNtc q bad).vbusHigh = s.vbusHigh := by
  simp [State.quadNtc]
@[simp] theorem State.quadOver_vbusHigh (q : Nat) : (s.quadOver q).vbusHigh = s.vbusHigh := by
  simp [State.quadOver]
@[simp] theorem State.takeQuad_vbusHigh (q : Nat) (m : QuadSample) : (s.takeQuad q m).vbusHigh = s.vbusHigh := by
  simp [State.takeQuad]
@[simp] theorem State.dieCool_vbusHigh (i : Nat) : (s.dieCool i).vbusHigh = s.vbusHigh := by
  simp [State.dieCool]
@[simp] theorem State.takeDie_vbusHigh (i : Nat) (v : Nat) : (s.takeDie i v).vbusHigh = s.vbusHigh := by
  simp [State.takeDie]
@[simp] theorem State.takeCore_vbusHigh (v : Nat) : (s.takeCore v).vbusHigh = s.vbusHigh := by
  simp [State.takeCore]
@[simp] theorem State.takeSamples_vbusHigh (m : Samples) : (s.takeSamples m).vbusHigh = s.vbusHigh := by
  simp [State.takeSamples]
@[simp] theorem State.thermal_vbusHigh (m : Samples) (n : Nat) : (s.thermal m n).vbusHigh = s.vbusHigh := by
  unfold State.thermal
  split <;> simp
@[simp] theorem State.thermalAll_vbusHigh (m : Samples) : (s.thermalAll m).vbusHigh = s.vbusHigh := by
  simp [State.thermalAll]
@[simp] theorem State.showFbi_vbusHigh (n : Nat) : (s.showFbi n).vbusHigh = s.vbusHigh := by
  simp [State.showFbi]
@[simp] theorem State.trimStep_vbusHigh (n : Nat) : (s.trimStep n).vbusHigh = s.vbusHigh := by
  simp [State.trimStep]
@[simp] theorem State.showPort_vbusHigh (n : Nat) : (s.showPort n).vbusHigh = s.vbusHigh := by
  simp [State.showPort]
@[simp] theorem State.showAlm_vbusHigh (n : Nat) (e : Nat × AlmEntry) : (s.showAlm n e).vbusHigh = s.vbusHigh := by
  simp [State.showAlm]
@[simp] theorem State.showAlms_vbusHigh : s.showAlms.vbusHigh = s.vbusHigh := by
  simp [State.showAlms]
@[simp] theorem State.showBlocks_vbusHigh : s.showBlocks.vbusHigh = s.vbusHigh := by
  simp [State.showBlocks]
@[simp] theorem State.snapFaults_vbusHigh : s.snapFaults.vbusHigh = s.vbusHigh := by
  simp [State.snapFaults]
@[simp] theorem State.ldsHalt_vbusHigh (n : Nat) : (s.ldsHalt n).vbusHigh = s.vbusHigh := by
  simp [State.ldsHalt]
@[simp] theorem State.ldsBegin_vbusHigh (n : Nat) : (s.ldsBegin n).vbusHigh = s.vbusHigh := by
  simp [State.ldsBegin]
@[simp] theorem State.ldsStart_vbusHigh (n : Nat) : (s.ldsStart n).vbusHigh = s.vbusHigh := by
  simp [State.ldsStart]
@[simp] theorem State.ldsMeridian_vbusHigh : s.ldsMeridian.vbusHigh = s.vbusHigh := by
  simp [State.ldsMeridian]
@[simp] theorem State.showAgain_vbusHigh (n : Nat) : (s.showAgain n).vbusHigh = s.vbusHigh := by
  simp [State.showAgain]
@[simp] theorem State.showUps_vbusHigh (u : Nat) : (s.showUps u).vbusHigh = s.vbusHigh := by
  simp [State.showUps]
@[simp] theorem State.ledMeridian_vbusHigh (i : Nat) : (s.ledMeridian i).vbusHigh = s.vbusHigh := by
  simp [State.ledMeridian]
@[simp] theorem State.viewStep_vbusHigh (old : Store) (u n : Nat) : (s.viewStep old u n).vbusHigh = s.vbusHigh := by
  simp [State.viewStep]
@[simp] theorem State.showChanges_vbusHigh (n : Nat) : (s.showChanges n).vbusHigh = s.vbusHigh := by
  simp [State.showChanges]
@[simp] theorem State.publish_vbusHigh : s.publish.vbusHigh = s.vbusHigh := by
  simp [State.publish]
@[simp] theorem State.ageSlots_vbusHigh (n : Nat) : (s.ageSlots n).vbusHigh = s.vbusHigh := by
  simp [State.ageSlots]
@[simp] theorem State.routeMeridian_vbusHigh : s.routeMeridian.vbusHigh = s.vbusHigh := by
  simp [State.routeMeridian]
@[simp] theorem State.tick_vbusHigh : s.tick.vbusHigh = s.vbusHigh := by
  simp [State.tick]
@[simp] theorem State.meridianRun_vbusHigh (m : Samples) : (s.meridianRun m).vbusHigh = s.vbusHigh := by
  simp [State.meridianRun]
@[simp] theorem State.i2cFrame_vbusHigh (f : I2cFrame) : (s.i2cFrame f).vbusHigh = s.vbusHigh := by
  simp [State.i2cFrame]
@[simp] theorem State.releaseI2c_vbusHigh : s.releaseI2c.vbusHigh = s.vbusHigh := by
  unfold State.releaseI2c
  split <;> simp
@[simp] theorem State.runDue_vbusHigh : s.runDue.vbusHigh = s.vbusHigh := by
  simp [State.runDue]
@[simp] theorem State.ldsWake_vbusHigh (n : Nat) : (s.ldsWake n).vbusHigh = s.vbusHigh := by
  simp [State.ldsWake]
@[simp] theorem State.portBack_vbusHigh (n : Nat) : (s.portBack n).vbusHigh = s.vbusHigh := by
  simp [State.portBack]
@[simp] theorem State.vbusSync_vbusHigh : s.vbusSync.vbusHigh = s.vbusHigh := by
  simp [State.vbusSync]
@[simp] theorem State.resumeBack_vbusHigh (u : Nat) : (s.resumeBack u).vbusHigh = s.vbusHigh := by
  simp [State.resumeBack]
@[simp] theorem State.toStep_vbusHigh (k : Nat) : (s.toStep k).vbusHigh = s.vbusHigh := by
  simp [State.toStep]
@[simp] theorem State.stepDone_vbusHigh (x : StepOut) : (s.stepDone x).vbusHigh = s.vbusHigh := by
  simp [State.stepDone]
@[simp] theorem State.step1_vbusHigh : s.step1.vbusHigh = s.vbusHigh := by
  simp [State.step1]
@[simp] theorem State.step2_vbusHigh (ok : Bool) : (s.step2 ok).vbusHigh = s.vbusHigh := by
  unfold State.step2
  extract_lets forced due alt s1 s2
  have h1 : s1.vbusHigh = s.vbusHigh := by simp [s1]
  have h2 : s2.vbusHigh = s.vbusHigh := by
    unfold s2
    split <;> simp [h1]
  simp [h2]
@[simp] theorem State.step3_vbusHigh : s.step3.vbusHigh = s.vbusHigh := by
  unfold State.step3
  extract_lets bs
  split <;> simp
@[simp] theorem State.fullInstead_vbusHigh : s.fullInstead.vbusHigh = s.vbusHigh := by
  simp [State.fullInstead]
@[simp] theorem State.step4_vbusHigh : s.step4.vbusHigh = s.vbusHigh := by
  unfold State.step4
  extract_lets s1
  have h1 : s1.vbusHigh = s.vbusHigh := rfl
  split
  · simp [h1]
  · split <;> simp [h1]
@[simp] theorem State.combination_vbusHigh (restrict : Bool) : (s.combination restrict).vbusHigh = s.vbusHigh := by
  simp [State.combination]
@[simp] theorem State.step5_vbusHigh : s.step5.vbusHigh = s.vbusHigh := by
  unfold State.step5
  split
  · simp
  · split <;> simp
@[simp] theorem State.step6_vbusHigh (sramOk : Bool) : (s.step6 sramOk).vbusHigh = s.vbusHigh := by
  unfold State.step6
  split <;> simp
@[simp] theorem State.applyRecord_vbusHigh (r : RegRecord) : (s.applyRecord r).2.vbusHigh = s.vbusHigh := by
  simp [State.applyRecord]
@[simp] theorem State.applyRecords_vbusHigh (l : List RegRecord) (i : Nat) :
    (s.applyRecords i l).2.vbusHigh = s.vbusHigh := by
  induction l generalizing s i with
  | nil => rfl
  | cons r l ih => simp [State.applyRecords, ih]
@[simp] theorem State.restrictNow_vbusHigh : s.restrictNow.vbusHigh = s.vbusHigh := by
  simp [State.restrictNow]
@[simp] theorem State.takeImage_vbusHigh : s.takeImage.vbusHigh = s.vbusHigh := by
  simp [State.takeImage]
@[simp] theorem State.step7_vbusHigh : s.step7.vbusHigh = s.vbusHigh := by
  unfold State.step7
  extract_lets x
  have hx : x.2.vbusHigh = s.vbusHigh := State.applyRecords_vbusHigh ..
  split <;> simp [hx]
@[simp] theorem State.nextInst_vbusHigh (k : Nat) : (s.nextInst k).vbusHigh = s.vbusHigh := by
  simp [State.nextInst]
@[simp] theorem State.step8_vbusHigh (mem : Option (List Byte)) : (s.step8 mem).vbusHigh = s.vbusHigh := by
  simp [State.step8]
@[simp] theorem State.step9_vbusHigh (full reduced : Bool) : (s.step9 full reduced).vbusHigh = s.vbusHigh := by
  simp [State.step9]
@[simp] theorem State.stepA_vbusHigh (ok : Bool) (trim : Nat) : (s.stepA ok trim).vbusHigh = s.vbusHigh := by
  simp [State.stepA]
@[simp] theorem State.stepB_vbusHigh : s.stepB.vbusHigh = s.vbusHigh := by
  simp [State.stepB]
@[simp] theorem State.stepC_vbusHigh : s.stepC.vbusHigh = s.vbusHigh := by
  simp [State.stepC]
@[simp] theorem State.stepD_vbusHigh : s.stepD.vbusHigh = s.vbusHigh := by
  simp [State.stepD]
@[simp] theorem State.fallbackWrite_vbusHigh : s.fallbackWrite.vbusHigh = s.vbusHigh := by
  unfold State.fallbackWrite
  split <;> simp
@[simp] theorem State.stepE_vbusHigh : s.stepE.vbusHigh = s.vbusHigh := by
  simp [State.stepE]
end

end Sys2Proof.Machine
end

section
/-! SUPPORT. The ports cut from Nightwatch's regulator (R56) through every command but the two that move them. -/

namespace Sys2Proof.Machine

/-- The upstream ports cut from Nightwatch's regulator in the state that a command answers (R56). -/
def Res.vbusHigh : Res → List Nat
  | .next t => t.vbusHigh
  | .fault _ => []
  | .refused _ => []

@[simp] theorem Res.next_vbusHigh (t : State) : Res.vbusHigh (.next t) = t.vbusHigh := rfl

@[simp] theorem Res.doneIf_vbusHigh (c : Bool) (s t : State) :
    (doneIf c s t).vbusHigh = if c then t.vbusHigh else s.vbusHigh := State.ite_vbusHigh t s

@[simp] theorem Res.ite_vbusHigh {c : Prop} {_ : Decidable c} (a b : Res) :
    Res.vbusHigh (if c then a else b) = if c then a.vbusHigh else b.vbusHigh := apply_ite ..

section
variable (s : State)

@[simp] theorem State.wrVoted_vbusHigh (f : Field) (v : Nat) : (s.wrVoted f v).vbusHigh = s.vbusHigh := rfl

@[simp] theorem write1_vbusHigh (r : Requester) (a v : Nat) (test : Option Bool) :
    (s.write1 r a v test).vbusHigh = s.vbusHigh := by
  simp [State.write1]

@[simp] theorem read1_vbusHigh (r : Requester) (a : Nat) : (s.read1 r a).vbusHigh = s.vbusHigh := by
  simp [State.read1]

@[simp] theorem onI2c_vbusHigh (adr : Nat) (f : I2cFrame) : (s.onI2c adr f).vbusHigh = s.vbusHigh := by
  simp [State.onI2c]

@[simp] theorem vendorRun_vbusHigh (u : Fin 5) (ok : Bool) {t : State} (h : t.vbusHigh = s.vbusHigh) :
    (s.vendorRun u ok t).vbusHigh = s.vbusHigh := by
  simp [State.vendorRun, h]

@[simp] theorem State.hubReq_vbusHigh (u : Nat) (inAddress : Bool) (act : State → State) (h : SparesHigh act) :
    (s.hubReq u inAddress act).vbusHigh = s.vbusHigh := by
  simp [State.hubReq, (sparesHigh_iff act).mp h]

@[simp] theorem State.portReq_vbusHigh (u i : Nat) (bad : Bool) (own other : State → Nat → State)
    (hown : ∀ n, SparesHigh (own · n)) (hother : ∀ n, SparesHigh (other · n)) :
    (s.portReq u i bad own other).vbusHigh = s.vbusHigh := by
  refine State.hubReq_vbusHigh _ _ _ _ (fun t => ?_)
  split
  · rfl
  · next n _ => simp [(sparesHigh_iff _).mp (hown n), (sparesHigh_iff _).mp (hother n)]

@[simp] theorem State.ttReq_vbusHigh (u i : Nat) (own : State → Nat → State) (all : State → State)
    (hown : ∀ n, SparesHigh (own · n)) (hall : SparesHigh all) : (s.ttReq u i own all).vbusHigh = s.vbusHigh := by
  refine State.hubReq_vbusHigh _ _ _ _ (fun t => ?_)
  split
  · rfl
  · next n _ => simp [(sparesHigh_iff _).mp (hown n), (sparesHigh_iff _).mp hall]

@[simp] theorem State.relay_vbusHigh (u a : Nat) (act : State → Nat → State) (h : ∀ n, SparesHigh (act · n)) :
    (s.relay u a act).vbusHigh = s.vbusHigh := by
  unfold State.relay
  split
  · rfl
  · exact h _ _

end

section
variable (s : State)

@[simp] theorem execCcAttachSeen_vbusHigh (n : Fin 52) (sight : Sys2Proof.CcSight) :
    (execCcAttachSeen n sight s).vbusHigh = s.vbusHigh := by
  simp only [execCcAttachSeen, done_eq]
  (repeat' split) <;> simp

@[simp] theorem execCcDebounceExpire_vbusHigh (n : Fin 52) : (execCcDebounceExpire n s).vbusHigh = s.vbusHigh := by
  simp only [execCcDebounceExpire, done_eq, Res.next_vbusHigh]
  (repeat' split) <;> simp

@[simp] theorem execPe0Rebuild_vbusHigh : (execPe0Rebuild s).vbusHigh = s.vbusHigh := by
  unfold execPe0Rebuild
  extract_lets s0 s1 s2 s3 back pool more
  have h1 : s1.vbusHigh = s.vbusHigh :=
    State.forEach_vbusHigh _ _ _ (fun n t => by dsimp only; split <;> simp)
  have h3 : s3.vbusHigh = s.vbusHigh := by simp [s3, s2, h1]
  have hback : back.vbusHigh = s.vbusHigh := by simp [back, h3]
  simp [hback, s0]

@[simp] theorem execQuadFailEnter_vbusHigh (q : Fin 12) : (execQuadFailEnter q s).vbusHigh = s.vbusHigh := by
  simp only [execQuadFailEnter]
  split <;> simp

@[simp] theorem execSrcTransitionExpire_vbusHigh (n : Fin 48) :
    (execSrcTransitionExpire n s).vbusHigh = s.vbusHigh := by
  simp only [execSrcTransitionExpire]
  split <;> simp

@[simp] theorem execPsRdySend_vbusHigh (n : Fin 48) : (execPsRdySend n s).vbusHigh = s.vbusHigh := by
  simp only [execPsRdySend]
  split <;> simp

@[simp] theorem execBudgetRequest_vbusHigh (n : Fin 48) (raise : Option PdReq) :
    (execBudgetRequest n raise s).vbusHigh = s.vbusHigh := by
  simp only [execBudgetRequest, done_eq]
  split <;> simp

@[simp] theorem execGetPortStatus_vbusHigh (u : Fin 4) (i : Byte) :
    (execGetPortStatus u i s).vbusHigh = s.vbusHigh := by
  refine State.hubReq_vbusHigh _ _ _ _ (fun t => ?_)
  split <;> rfl

@[simp] theorem execPortResetEnd_vbusHigh (n : Fin 48) : (execPortResetEnd n s).vbusHigh = s.vbusHigh := by
  simp only [execPortResetEnd]
  (repeat' split) <;> simp

@[simp] theorem execStatusChangeIn_vbusHigh (u : Fin 4) : (execStatusChangeIn u s).vbusHigh = s.vbusHigh := by
  simp [execStatusChangeIn]

@[simp] theorem execStatusChangeAck_vbusHigh (u : Fin 4) : (execStatusChangeAck u s).vbusHigh = s.vbusHigh := by
  simp [execStatusChangeAck]

@[simp] theorem execSsplitNonperiodic_vbusHigh (u : Fin 4) (i : BitVec 7) (adr : BitVec 7) (ep : BitVec 4)
    (tok : Sys2Proof.SplitTok) (low crcOk : Bool) :
    (execSsplitNonperiodic u i adr ep tok low crcOk s).vbusHigh = s.vbusHigh := by
  simp only [execSsplitNonperiodic, done_eq, Res.next_vbusHigh]
  (repeat' split) <;> simp

@[simp] theorem execCsplitNonperiodic_vbusHigh (u : Fin 4) (i : BitVec 7) (adr : BitVec 7) (ep : BitVec 4)
    (dirIn : Bool) : (execCsplitNonperiodic u i adr ep dirIn s).vbusHigh = s.vbusHigh := by
  simp only [execCsplitNonperiodic, done_eq, Res.next_vbusHigh]
  (repeat' split) <;> simp

@[simp] theorem execTtTransactionComplete_vbusHigh (n : Fin 48) (d : Dev) :
    (execTtTransactionComplete n d s).vbusHigh = s.vbusHigh := by
  simp only [execTtTransactionComplete, done_eq, Res.next_vbusHigh]
  (repeat' split) <;> simp

@[simp] theorem execSsplitPeriodic_vbusHigh (u : Fin 4) (i : BitVec 7) (adr : BitVec 7) (ep : BitVec 4)
    (dirIn iso low behindHub tog : Bool) (bytes : List Byte) :
    (execSsplitPeriodic u i adr ep dirIn iso low behindHub tog bytes s).vbusHigh = s.vbusHigh := by
  simp only [execSsplitPeriodic, done_eq, Res.next_vbusHigh]
  (repeat' split) <;> simp

@[simp] theorem execCsplitPeriodic_vbusHigh (u : Fin 4) (i : BitVec 7) (adr : BitVec 7) (ep : BitVec 4)
    (tok : Sys2Proof.CsplitTok) : (execCsplitPeriodic u i adr ep tok s).vbusHigh = s.vbusHigh := by
  simp only [execCsplitPeriodic, done_eq, Res.next_vbusHigh]
  (repeat' split) <;> simp

@[simp] theorem execClearTtBuffer_vbusHigh (u : Fin 4) (wValue : BitVec 16) (i : Byte) :
    (execClearTtBuffer u wValue i s).vbusHigh = s.vbusHigh := by
  refine State.ttReq_vbusHigh _ _ _ _ _ (fun n t => ?_) (fun t => ?_)
  · simp
  · split <;> simp

@[simp] theorem execTtNonperiodicStart_vbusHigh (at_ : Sys2Proof.PortTime) :
    (execTtNonperiodicStart at_ s).vbusHigh = s.vbusHigh := by
  simp only [execTtNonperiodicStart]
  split <;> simp

@[simp] theorem execPrefetchOutcome_vbusHigh (n : Fin 48) (k : Fin 16) (d : Dev) :
    (execPrefetchOutcome n k d s).vbusHigh = s.vbusHigh := by
  simp only [execPrefetchOutcome, done_eq, Res.next_vbusHigh]
  (repeat' split) <;> simp

@[simp] theorem execHostPing_vbusHigh (u : Fin 4) (adr : BitVec 7) (ep : BitVec 4) :
    (execHostPing u adr ep s).vbusHigh = s.vbusHigh := by
  unfold execHostPing
  rw [done_eq, Res.next_vbusHigh, State.ite_vbusHigh, State.relay_vbusHigh]
  · simp
  intro n t
  beta_reduce
  split <;> simp

@[simp] theorem execHostIn_vbusHigh (u : Fin 4) (adr : BitVec 7) (ep : BitVec 4) (acked : Bool) :
    (execHostIn u adr ep acked s).vbusHigh = s.vbusHigh := by
  obtain ⟨t, ht, _⟩ := execStatusChangeIn_keeps s u
  obtain ⟨v, hv, _⟩ := execStatusChangeAck_keeps t u
  have hin : t.vbusHigh = s.vbusHigh := by simpa [ht] using execStatusChangeIn_vbusHigh s u
  have hack : v.vbusHigh = t.vbusHigh := by simpa [hv] using execStatusChangeAck_vbusHigh t u
  simp [execHostIn, ht, hv, hin, hack]

@[simp] theorem execHostIsoIn_vbusHigh (u : Fin 4) (adr : BitVec 7) (ep : BitVec 4) :
    (execHostIsoIn u adr ep s).vbusHigh = s.vbusHigh := by
  unfold execHostIsoIn
  rw [done_eq, Res.next_vbusHigh, State.ite_vbusHigh, State.relay_vbusHigh]
  · simp
  intro n t
  beta_reduce
  split
  · simp
  extract_lets k s1
  have h1 : s1.vbusHigh = t.vbusHigh := by simp [s1]
  split
  · simp [h1]
  · extract_lets s2
    have h2 : s2.vbusHigh = t.vbusHigh := by
      unfold s2
      split <;> simp [h1]
    simp [h2]

@[simp] theorem execHostIsoOut_vbusHigh (u : Fin 4) (adr : BitVec 7) (ep : BitVec 4) (pid : Fin 4)
    (bytes : List Byte) (crcOk : Bool) : (execHostIsoOut u adr ep pid bytes crcOk s).vbusHigh = s.vbusHigh := by
  unfold execHostIsoOut
  rw [done_eq, Res.next_vbusHigh, State.ite_vbusHigh, State.relay_vbusHigh]
  · simp
  intro n t
  beta_reduce
  split
  · simp
  split
  · simp
  extract_lets id s1
  have h1 : s1.vbusHigh = t.vbusHigh := by simp [s1]
  split <;> simp [h1]

@[simp] theorem execIsoOutLateDiscard_vbusHigh (id : Nat) : (execIsoOutLateDiscard id s).vbusHigh = s.vbusHigh := by
  simp only [execIsoOutLateDiscard, done_eq, Res.next_vbusHigh]
  split <;> simp

@[simp] theorem execIsoHeldExpire_vbusHigh (n : Fin 48) (adr : BitVec 7) (ep : BitVec 4) :
    (execIsoHeldExpire n adr ep s).vbusHigh = s.vbusHigh := by
  simp only [execIsoHeldExpire, done_eq, Res.next_vbusHigh]
  split <;> simp

@[simp] theorem execCutThroughStart_vbusHigh (id : Nat) : (execCutThroughStart id s).vbusHigh = s.vbusHigh := by
  simp only [execCutThroughStart, done_eq, Res.next_vbusHigh]
  split <;> simp

@[simp] theorem execFabricBeat_vbusHigh (id : Nat) (out : Fin 53) :
    (execFabricBeat id out s).vbusHigh = s.vbusHigh := by
  simp only [execFabricBeat, done_eq, Res.next_vbusHigh]
  split <;> simp

@[simp] theorem execPacketTail_vbusHigh (id : Nat) (crcOk : Bool) :
    (execPacketTail id crcOk s).vbusHigh = s.vbusHigh := by
  simp only [execPacketTail, done_eq, Res.next_vbusHigh]
  (repeat' split) <;> simp

@[simp] theorem execPacketRelease_vbusHigh (id : Nat) : (execPacketRelease id s).vbusHigh = s.vbusHigh := by
  simp only [execPacketRelease, done_eq, Res.next_vbusHigh]
  (repeat' split) <;> simp

@[simp] theorem execDownstreamOutResponse_vbusHigh (n : Fin 48) (d : Dev) :
    (execDownstreamOutResponse n d s).vbusHigh = s.vbusHigh := by
  simp only [execDownstreamOutResponse, done_eq, Res.next_vbusHigh]
  (repeat' split) <;> simp

@[simp] theorem execDownstreamInResponse_vbusHigh (n : Fin 48) (adr : BitVec 7) (ep : BitVec 4) (d : Dev) :
    (execDownstreamInResponse n adr ep d s).vbusHigh = s.vbusHigh := by
  simp only [execDownstreamInResponse, done_eq, Res.next_vbusHigh]
  (repeat' split) <;> simp

@[simp] theorem execRelaySlotFree_vbusHigh (n : Fin 48) (adr : BitVec 7) (ep : BitVec 4) (dirIn : Bool) :
    (execRelaySlotFree n adr ep dirIn s).vbusHigh = s.vbusHigh := by
  simp only [execRelaySlotFree, done_eq, Res.next_vbusHigh]
  split <;> simp

@[simp] theorem execFenceStart_vbusHigh : (execFenceStart s).vbusHigh = s.vbusHigh := by
  simp only [execFenceStart, done_eq, Res.next_vbusHigh]
  split <;> simp

@[simp] theorem execFenceTestComplete_vbusHigh (pass : Bool) :
    (execFenceTestComplete pass s).vbusHigh = s.vbusHigh := by
  simp only [execFenceTestComplete, done_eq, Res.next_vbusHigh]
  (repeat' split) <;> simp

@[simp] theorem execReplacementAvailable_vbusHigh : (execReplacementAvailable s).vbusHigh = s.vbusHigh := by
  simp only [execReplacementAvailable, done_eq, Res.next_vbusHigh]
  (repeat' split) <;> simp

@[simp] theorem execHandoverReleasing_vbusHigh (n : Fin 48) : (execHandoverReleasing n s).vbusHigh = s.vbusHigh := by
  simp only [execHandoverReleasing, done_eq, Res.next_vbusHigh]
  split <;> simp

@[simp] theorem execHandoverClaiming_vbusHigh (n : Fin 48) : (execHandoverClaiming n s).vbusHigh = s.vbusHigh := by
  unfold execHandoverClaiming
  extract_lets p st tgt s1
  have h1 : s1.vbusHigh = s.vbusHigh := by simp [s1]
  simp [h1]

@[simp] theorem execHandoverOwned_vbusHigh (n : Fin 48) : (execHandoverOwned n s).vbusHigh = s.vbusHigh := by
  unfold execHandoverOwned
  extract_lets p s1 s2
  have h2 : s2.vbusHigh = s.vbusHigh := by simp [s2, s1]
  simp [h2]

@[simp] theorem execInitialOwnershipApply_vbusHigh : (execInitialOwnershipApply s).vbusHigh = s.vbusHigh := by
  unfold execInitialOwnershipApply
  extract_lets s1 boot s2
  have h2 : s2.vbusHigh = s.vbusHigh := by simp [s2, s1]
  simp [h2]

@[simp] theorem execLdsEnumWaitEnd_vbusHigh (n : Fin 48) : (execLdsEnumWaitEnd n s).vbusHigh = s.vbusHigh := by
  simp only [execLdsEnumWaitEnd, done_eq, Res.next_vbusHigh]
  (repeat' split) <;> simp

@[simp] theorem execLdsControlComplete_vbusHigh (n : Fin 48) (d : Dev) :
    (execLdsControlComplete n d s).vbusHigh = s.vbusHigh := by
  simp only [execLdsControlComplete, done_eq, Res.next_vbusHigh]
  (repeat' split) <;> simp

@[simp] theorem execLdsHeartbeatOutcome_vbusHigh (n : Fin 48) (d : Dev) :
    (execLdsHeartbeatOutcome n d s).vbusHigh = s.vbusHigh := by
  simp only [execLdsHeartbeatOutcome, done_eq, Res.next_vbusHigh]
  (repeat' split) <;> simp

@[simp] theorem execUpdateCommandComplete_vbusHigh (readBack : Bool) :
    (execUpdateCommandComplete readBack s).vbusHigh = s.vbusHigh := by
  simp only [execUpdateCommandComplete, done_eq, Res.next_vbusHigh]
  split <;> simp

@[simp] theorem execFuseBlowComplete_vbusHigh : (execFuseBlowComplete s).vbusHigh = s.vbusHigh := by
  simp only [execFuseBlowComplete, done_eq, Res.next_vbusHigh]
  split <;> simp

@[simp] theorem execEngineWatchdogMiss_vbusHigh (e : Fin 11) : (execEngineWatchdogMiss e s).vbusHigh = s.vbusHigh := by
  simp only [execEngineWatchdogMiss]
  split <;> simp

@[simp] theorem execRetentionParityError_vbusHigh (area : RetArea) :
    (execRetentionParityError area s).vbusHigh = s.vbusHigh := by
  simp only [execRetentionParityError, done_eq, Res.next_vbusHigh]
  split <;> simp

@[simp] theorem execSupplyLow_vbusHigh (x : Supply) : (execSupplyLow x s).vbusHigh = s.vbusHigh := by
  simp only [execSupplyLow]
  split <;> simp

@[simp] theorem execSupplyRestored_vbusHigh (x : Supply) : (execSupplyRestored x s).vbusHigh = s.vbusHigh := by
  simp only [execSupplyRestored]
  split <;> simp

@[simp] theorem execVoteDisagree_vbusHigh (addr : BitVec 24) (lo : Fin 32) (copy : Fin 3) (v : Word) :
    (execVoteDisagree addr lo copy v s).vbusHigh = s.vbusHigh := by
  simp only [execVoteDisagree, done_eq]
  (repeat' split) <;> simp

@[simp] theorem execVoteRewrite_vbusHigh (addr : BitVec 24) (lo : Fin 32) :
    (execVoteRewrite addr lo s).vbusHigh = s.vbusHigh := by
  simp only [execVoteRewrite, done_eq]
  split <;> simp

@[simp] theorem execFixedWakeEvent_vbusHigh (ev : Sys2Proof.FixedWake) :
    (execFixedWakeEvent ev s).vbusHigh = s.vbusHigh := by
  simp only [execFixedWakeEvent, done_eq]
  split <;> simp

@[simp] theorem execMeridian_vbusHigh (smp : Samples) : (execMeridian smp s).vbusHigh = s.vbusHigh := by
  simp only [execMeridian, done_eq, Res.next_vbusHigh]
  split <;> simp

@[simp] theorem execBootStepComplete_vbusHigh (rep : Sys2Proof.StepReport) :
    (execBootStepComplete rep s).vbusHigh = s.vbusHigh := by
  simp only [execBootStepComplete]
  split <;> simp

@[simp] theorem execBootTimeout_vbusHigh : (execBootTimeout s).vbusHigh = s.vbusHigh := by
  simp only [execBootTimeout]
  (repeat' split) <;> simp

@[simp] theorem execIdentityRereadComplete_vbusHigh (q : Fin 12) (mem : Option (List Byte)) :
    (execIdentityRereadComplete q mem s).vbusHigh = s.vbusHigh := by
  simp only [execIdentityRereadComplete]
  split <;> simp

end

/-! ## All commands -/

/-- The commands by which ports are cut from Nightwatch's regulator or taken back to it (R56). -/
inductive MovesHigh : Sys2Proof.Instr → Prop
  | upstreamVbusChange (u present) : MovesHigh (.upstreamVbusChange u present)
  | upstreamVbusOvervoltage (u) : MovesHigh (.upstreamVbusOvervoltage u)

theorem exec_vbusHigh (c : Sys2Proof.Instr) (s : State) (hc : ¬ MovesHigh c) :
    Res.vbusHigh (exec c s) = s.vbusHigh := by
  cases c with
  | upstreamVbusChange u present => exact absurd (.upstreamVbusChange u present) hc
  | upstreamVbusOvervoltage u => exact absurd (.upstreamVbusOvervoltage u) hc
  -- Type-C
  | ccAttachSeen | ccDebounceExpire | ccTerminationLost | drpToggle | drpTryExpire | tryCcDebounceExpire | tryTimeout
  | srcDisconnect | sinkVbusLost | ccOvervoltage | errorRecoveryEnd | moistureCheckComplete | wetRetest =>
    simp [exec, execCcTerminationLost, execDrpToggle, execDrpTryExpire, execTryCcDebounceExpire, execTryTimeout,
      execSrcDisconnect, execSinkVbusLost, execCcOvervoltage, execErrorRecoveryEnd, execMoistureCheckComplete,
      execWetRetest]
  -- the budget
  | shedStart | readvExpire | pe0Rebuild | quadWarnEnter | quadWarnExit | quadFailEnter | quadFailExit | failShedTimeout
  | quadOverpower =>
    simp [exec, execShedStart, execReadvExpire, execQuadWarnEnter, execQuadWarnExit, execQuadFailExit,
      execFailShedTimeout, execQuadOverpower]
  -- the e-fuse
  | gateFullyOn | powerGood | powerGoodFall | limitEngage | limitRelease | hardShort | overvoltageTrip | overloadTrip
  | voltageTrip | selfTestStart | selfTestComplete | retryWaitEnd | cleanPowerGood | vbusDischarged | fbiTrimLimit
  | rampEnd | portDieOvertemp =>
    simp [exec, execGateFullyOn, execPowerGood, execPowerGoodFall, execLimitEngage, execLimitRelease, execHardShort,
      execOvervoltageTrip, execOverloadTrip, execVoltageTrip, execSelfTestStart, execSelfTestComplete, execRetryWaitEnd,
      execCleanPowerGood, execVbusDischarged, execFbiTrimLimit, execRampEnd, execPortDieOvertemp]
  -- Power Delivery
  | psHardResetExpire | srcRecoverExpire | srcTransitionExpire | psRdySend | sinkTxExpire | request | getSourceCap
  | softReset | prSwap | vconnSwap | vconnSwapAccept | psRdyReceived | getStatusPd | unsupportedMessage
  | sourceCapabilitiesReceived | hardResetReceived | discoverIdentity | discoverSvids | discoverModes | enterMode
  | exitMode | otherVdm | cableIdentityResponse | sourceCapabilitiesSend | senderResponseTimeout | pdMessageFailed
  | budgetRequest | vconnOvercurrent =>
    simp [exec, execPsHardResetExpire, execSrcRecoverExpire, execSinkTxExpire, execRequest, execGetSourceCap,
      execSoftReset, execPrSwap, execVconnSwap, execVconnSwapAccept, execPsRdyReceived, execGetStatusPd,
      execUnsupportedMessage, execSourceCapabilitiesReceived, execHardResetReceived, execDiscoverIdentity,
      execDiscoverSvids, execDiscoverModes, execEnterMode, execExitMode, execOtherVdm, execCableIdentityResponse,
      execSourceCapabilitiesSend, execSenderResponseTimeout, execPdMessageFailed, execVconnOvercurrent]
  -- downstream ports
  | getHubStatus | clearHubFeature | setHubFeature | setHubDescriptor | getPortStatus | setPortFeaturePortReset
  | setPortFeaturePortSuspend | setPortFeaturePortTest | setPortFeaturePortIndicator | setPortFeaturePortEnable
  | setPortFeaturePortPower | clearPortFeaturePortPower | clearPortFeaturePortEnable | clearPortFeaturePortSuspend
  | clearPortFeaturePortIndicator | clearPortFeatureChange | usbConnect | usbDisconnect | deviceChirp | portResetEnd
  | portBabble | disablingComplete | deviceResumeK | resumeDriveEnd | sendEorComplete | portRestartEnd
  | ledFrameRefresh =>
    simp [exec, execGetHubStatus, execClearHubFeature, execSetHubFeature, execSetHubDescriptor,
      execSetPortFeaturePortReset, execSetPortFeaturePortSuspend, execSetPortFeaturePortTest,
      execSetPortFeaturePortIndicator, execSetPortFeaturePortEnable, execSetPortFeaturePortPower,
      execClearPortFeaturePortPower, execClearPortFeaturePortEnable, execClearPortFeaturePortSuspend,
      execClearPortFeaturePortIndicator, execClearPortFeatureChange, execUsbConnect, execUsbDisconnect, execDeviceChirp,
      execPortBabble, execDisablingComplete, execDeviceResumeK, execResumeDriveEnd, execSendEorComplete,
      execPortRestartEnd, execLedFrameRefresh]
  -- hub personalities
  | busReset | setAddress | setConfiguration | setInterface | getDescriptor | getStatus | setFeatureTestMode
  | newSetupAbort | getHubDescriptor | statusChangeIn | statusChangeAck | suspend | wakeQualify | upstreamKStart
  | upstreamKEnd | hostResume | resumeEop | upstreamCrcErrors =>
    simp [exec, execBusReset, execSetAddress, execSetConfiguration, execSetInterface, execGetDescriptor, execGetStatus,
      execSetFeatureTestMode, execNewSetupAbort, execGetHubDescriptor, execSuspend, execWakeQualify, execUpstreamKStart,
      execUpstreamKEnd, execHostResume, execResumeEop, execUpstreamCrcErrors]
  -- transaction translators
  | hostSof | almanacLearningTimeout | fsFrameStart | ssplitNonperiodic | csplitNonperiodic | ttTransactionComplete
  | ssplitPeriodic | periodicReady | csplitPeriodic | clearTtBuffer | resetTt | stopTt | getTtState =>
    simp [exec, execHostSof, execAlmanacLearningTimeout, execFsFrameStart, execPeriodicReady, execResetTt, execStopTt,
      execGetTtState]
  -- Meteor
  | ttNonperiodicStart | prefetchStart | prefetchOutcome | heldHandshakeExpire | controlHoldTimeout | meteorRearm =>
    simp [exec, execPrefetchStart, execHeldHandshakeExpire, execControlHoldTimeout, execMeteorRearm]
  -- relay and switch
  | hostSetup | hostOut | hostPing | hostIn | hostIsoIn | hostIsoOut | isoOutLateDiscard | isoHeldExpire
  | cutThroughStart | fabricBeat | packetTail | packetRelease | downstreamOutResponse | downstreamInResponse
  | relaySlotFree | granuleReturn =>
    simp [exec, execHostSetup, execHostOut, execGranuleReturn]
  -- packet memory
  | correctedError | fenceStart | fenceTestComplete | replacementAvailable | overlayWritebackComplete =>
    simp [exec, execCorrectedError, execOverlayWritebackComplete]
  -- ownership
  | handoverReleasing | handoverTransit | handoverClaiming | handoverOwned | initialOwnershipApply =>
    simp [exec, execHandoverTransit]
  -- Lodestar
  | ldsEnumStart | ldsConnectWaitEnd | ldsEnumWaitEnd | ldsControlComplete | ldsRequestTimeout | ldsRecordDelayEnd
  | ldsHeartbeatPoll | ldsHeartbeatOutcome | uncorrectableError =>
    simp [exec, execLdsEnumStart, execLdsConnectWaitEnd, execLdsRequestTimeout, execLdsRecordDelayEnd,
      execLdsHeartbeatPoll, execUncorrectableError]
  -- boot and reset
  | updateCommandComplete | fuseBlowComplete | softwareFullReset | bootRetryReset =>
    simp [exec, execSoftwareFullReset, execBootRetryReset]
  -- interrupts and faults
  | coalesceTimeout | quietEnd | graceExpire | recoveryWindowExpire | engineWatchdogMiss | wardenTimerExpire
  | coreDieOvertemp | faultNWidthEnd | clkNwOutOfRange | clkNwCalibrate | retentionParityError =>
    simp [exec, execCoalesceTimeout, execQuietEnd, execGraceExpire, execRecoveryWindowExpire, execWardenTimerExpire,
      execCoreDieOvertemp, execFaultNWidthEnd, execClkNwOutOfRange, execClkNwCalibrate]
  -- supplies and links
  | linkFrameCrcFail | linkLockLost | linkRestored | linkRestoreTimeout | resetNAssert | resetNRelease | powerOnResetEnd
  | portDiePorEnd | supplyLow | supplyRestored | engineRestartComplete =>
    simp [exec, execLinkFrameCrcFail, execLinkLockLost, execLinkRestored, execLinkRestoreTimeout, execResetNAssert,
      execResetNRelease, execPowerOnResetEnd, execPortDiePorEnd, execEngineRestartComplete]
  -- mailboxes
  | mbxCaptureStart | mbxCaptureComplete | bulkBufferTimeout =>
    simp [exec, execMbxCaptureStart, execMbxCaptureComplete, execBulkBufferTimeout]
  -- register writes
  | rescueRstreq | failclr | updcmdOpen | updcmdErase | updcmdProgram | updcmdVerify | updcmdCommit | updcmdAbort
  | rbctrWrite | resetreq | registerWrite | bitAliasWrite | mbxSelWrite | mbxGo | mbxPartWrite | personalityEnWrite
  | rgnWrite | ownerGo | prstrt | oosWrite | rearm | fbicapWrite | pdctlResend | pdctlHreset | pdctlVcswap
  | pdctlSoppdisc | pdenWrite | altmuxKick | poolWrite | qcapWrite | pcfgWrite | ttrst | almclr | almenWrite | icuDone
  | trst | clrpend | swtrig | srcCfgWrite | tctlWrite | fltackAck | clrlatch | icuClaim | mbxData3Read | voteDisagree
  | voteRewrite =>
    simp [exec, execRescueRstreq, execFailclr, execUpdcmdOpen, execUpdcmdErase, execUpdcmdProgram, execUpdcmdVerify,
      execUpdcmdCommit, execUpdcmdAbort, execRbctrWrite, execResetreq, execRegisterWrite, execBitAliasWrite,
      execMbxSelWrite, execMbxGo, execMbxPartWrite, execPersonalityEnWrite, execRgnWrite, execOwnerGo, execPrstrt,
      execOosWrite, execRearm, execFbicapWrite, execPdctlResend, execPdctlHreset, execPdctlVcswap, execPdctlSoppdisc,
      execPdenWrite, execAltmuxKick, execPoolWrite, execQcapWrite, execPcfgWrite, execTtrst, execAlmclr, execAlmenWrite,
      execIcuDone, execTrst, execClrpend, execSwtrig, execSrcCfgWrite, execTctlWrite, execFltackAck, execClrlatch,
      execIcuClaim, execMbxData3Read]
  -- frames
  | spiRead | spiWrite | spiStatus | vendorRead | vendorWrite | vendorStatus =>
    simp [exec, execSpiRead, execSpiWrite, execSpiStatus, execVendorRead, execVendorWrite, execVendorStatus]
  -- Nightwatch
  | idleTimerExpire | sleepBlockAnswer | sleepAnswerTimeout | fixedWakeEvent | watchedSourceWake | wakeNAssert
  | i2cAddressMatch | i2cRead | i2cWrite | i2cStatus | shortFrame | spiUnknownCommand | duskReturnComplete | eclipseWake
  | energyCountTick =>
    simp [exec, execIdleTimerExpire, execSleepBlockAnswer, execSleepAnswerTimeout, execWatchedSourceWake,
      execWakeNAssert, execI2cAddressMatch, execI2cRead, execI2cWrite, execI2cStatus, execShortFrame,
      execSpiUnknownCommand, execDuskReturnComplete, execEclipseWake, execEnergyCountTick]
  -- the Meridian
  | meridian =>
    simp [exec]
  -- boot steps
  | bootStepComplete | engineReadyTimeout | bootTimeout | identityRereadComplete | sectorRestartComplete =>
    simp [exec, execEngineReadyTimeout, execSectorRestartComplete]

end Sys2Proof.Machine
end

section
/-! PROOFS. The fuses and the pins follow their own commands (R49, R60, R101, R138). -/

namespace Sys2Proof.Machine

/-! ## The commands that move a pin -/

theorem Answers.of_next {r : Res} {P : State → Prop} {t : State} (h : Answers r P) (ht : r = .next t) : P t := by
  obtain ⟨u, hu, hP⟩ := h
  cases hu.symm.trans ht
  exact hP

/-- A guarded command that moves a pin: where the guard holds, the rest of its effect starts from the moved pin. -/
theorem Answers.guardedFrom {c : Bool} {s s1 t : State} (h : Keeps s1 t) :
    Answers (doneIf c s.fresh t) (fun u => Keeps s1 u ∨ Keeps s u) := by
  cases c with
  | true => exact ⟨t, rfl, .inl h⟩
  | false => exact ⟨s.fresh, rfl, .inr (fresh_keeps s)⟩

section
variable (s : State)

/-- The end of a blow adds one to the fused counter (R101). -/
theorem execFuseBlowComplete_pins :
    Answers (execFuseBlowComplete s) (fun t => Keeps { s.fresh with fuses := s.fuses + 1 } t ∨ Keeps s t) := by
  refine .done ?_
  split
  · exact .inr (fresh_keeps s)
  · extract_lets src s1
    have h1 : Keeps { s.fresh with fuses := s.fuses + 1 } s1 := (Keeps.refl _).wr _ _
    exact .inl (.ite h1 (State.journal_keeps ((h1.upd rfl).flag _ _) _ _ _ _ _ _))

theorem execResetNAssert_pins : Answers (execResetNAssert s) (Keeps { s.fresh with resetN := true }) :=
  .done (.ite (State.holdReset_keeps (.refl _) _) (.refl _))

theorem execResetNRelease_pins (strap : BitVec 5) :
    Answers (execResetNRelease strap s) (Keeps { s.fresh with resetN := false }) := by
  unfold execResetNRelease
  extract_lets src s1 src2 s2
  have h2 : Keeps s1 s2 := (State.sampleStraps_keeps (.refl s1) _).upd rfl
  exact .done (.ite (.ite h2 (State.startBoot_keeps h2)) (.refl s1))

theorem execSupplyLow_pins (x : Supply) :
    Answers (execSupplyLow x s) (fun t => Keeps { s.fresh with low := s.low ++ [x] } t ∨ Keeps s t) := by
  unfold execSupplyLow
  extract_lets src s1 runs s2
  refine .guardedFrom ?_
  have h2 : Keeps s1 s2 := .ite (State.edge_keeps (.refl s1) _) (.refl s1)
  cases x with
  | vddCore | vddPhy | vdd33Phy | vddio => exact State.coreLow_keeps (.refl s1) _
  | vddNw => exact .ite (State.powerLost_keeps (.refl s1)) h2
  | vdd5 i => exact .ite (State.dieDown_keeps h2 _) (State.settle_keeps (h2.modSec _ _))
  | vconnIn i =>
    exact .ite (.orBits (.wr (h2.forEach _ _ (fun _ _ k => State.vconnOff_keeps k _)) _ _) _ _) (State.settle_keeps h2)

theorem execSupplyRestored_pins (x : Supply) : Answers (execSupplyRestored x s)
    (fun t => Keeps { s.fresh with low := s.low.filter (· != x) } t ∨ Keeps s t) := by
  unfold execSupplyRestored
  extract_lets src s1
  refine .guardedFrom ?_
  have h : Keeps s1 s1 := .refl s1
  split
  · exact .ite (h.raise _) (State.settle_keeps h)
  · exact State.settle_keeps (State.condEnd_keeps h _ _)
  · exact .ite (State.holdReset_keeps h _) (State.settle_keeps h)
  · exact State.settle_keeps h

theorem execUpstreamVbusChange_pins (u : Fin 4) (present : Bool) :
    Answers (execUpstreamVbusChange u present s)
      (fun t => Keeps { s.fresh with
        vbusU := if present then s.vbusU ++ [u.val] else s.vbusU.filter (· != u.val)
        vbusHigh := s.vbusHigh.filter (· != u.val) } t ∨ Keeps s t) := by
  unfold execUpstreamVbusChange
  extract_lets src s1
  refine .guardedFrom ?_
  have h : Keeps s1 s1 := .refl s1
  refine .ite (State.powerLost_keeps h) ?_
  change Keeps s1 _
  split
  · exact State.vbusChange_keeps h _ _
  · exact State.rescueVbus_keeps h _ _
  · exact .ite (State.enterRescue_keeps h _) h
  · exact .ite (State.enterRescue_keeps h _) (State.settle_keeps h)
  · exact h
  · exact h
  · exact h

end

/-! ## Which pin each command moves -/

section
variable {c : Sys2Proof.Instr} {s t : State}

theorem movesHigh_of_ne (h : exec c s = .next t) (hne : t.vbusHigh ≠ s.vbusHigh) : MovesHigh c := by
  by_contra hc
  have hkeep := exec_vbusHigh c s hc
  rw [h] at hkeep
  exact hne hkeep

/-- The pins and the fuses that no command but their own moves. -/
def PinsFollow (c : Sys2Proof.Instr) (s t : State) : Prop :=
  (s.fuses ≤ t.fuses ∧ t.fuses ≤ s.fuses + 1) ∧
  (t.fuses ≠ s.fuses → c = .fuseBlowComplete) ∧
  (t.resetN ≠ s.resetN → c = .resetNAssert ∨ ∃ x, c = .resetNRelease x) ∧
  (t.low ≠ s.low → ∃ x, c = .supplyLow x ∨ c = .supplyRestored x) ∧
  (t.vbusU ≠ s.vbusU → ∃ u b, c = .upstreamVbusChange u b)

theorem Keeps.pinsFollow (h : Keeps s t) : PinsFollow c s t := by
  simp [PinsFollow, h.fuses, h.resetN, h.low, h.vbusU]

theorem exec_pinsFollow (h : exec c s = .next t) : PinsFollow c s t := by
  by_cases hc : MovesPin c
  case neg => exact ((exec_keeps c s hc).of_next h).pinsFollow
  cases hc with
  | fuseBlowComplete =>
    obtain k | k := (execFuseBlowComplete_pins s).of_next h
    · simp [PinsFollow, k.fuses, k.resetN, k.low, k.vbusU]
    · exact k.pinsFollow
  | resetNAssert =>
    have k := (execResetNAssert_pins s).of_next h
    simp [PinsFollow, k.fuses, k.low, k.vbusU]
  | resetNRelease strap =>
    have k := (execResetNRelease_pins s strap).of_next h
    simp [PinsFollow, k.fuses, k.low, k.vbusU]
  | supplyLow x =>
    obtain k | k := (execSupplyLow_pins s x).of_next h
    · simp [PinsFollow, k.fuses, k.resetN, k.vbusU]
    · exact k.pinsFollow
  | supplyRestored x =>
    obtain k | k := (execSupplyRestored_pins s x).of_next h
    · simp [PinsFollow, k.fuses, k.resetN, k.vbusU]
    · exact k.pinsFollow
  | upstreamVbusChange u present =>
    obtain k | k := (execUpstreamVbusChange_pins s u present).of_next h
    · simp [PinsFollow, k.fuses, k.resetN, k.low]
    · exact k.pinsFollow

end

/-- Settles O6: of the commands only the six of `MovesPin` move a level of the block's inputs or the fuses, each its
own alone, and only the two of `MovesHigh` move the cut of upstream VBUS. -/
theorem fusesAndPinsFollowTheirCommands : Obligations.FusesAndPinsFollowTheirCommands := by
  intro c s t h
  obtain ⟨hstep, hfuse, hreset, hlow, hvbus⟩ := exec_pinsFollow h
  refine ⟨hstep, hfuse, hreset, hlow, hvbus, fun hne => ?_⟩
  cases movesHigh_of_ne h hne with
  | upstreamVbusChange u present => exact ⟨u, .inr ⟨present, rfl⟩⟩
  | upstreamVbusOvervoltage u => exact ⟨u, .inl rfl⟩

end Sys2Proof.Machine
end

section
/-! PROOFS. Two statements refuted by a concrete state: the fault conditions and the frames of the system. -/

namespace Sys2Proof.Machine

/-- The part runs while VDD_NW is low, and the VBUS of upstream port 0 alone supplies Nightwatch (R24). -/
def fedByUpstreamVbus : State := { State.reset with low := [.vddNw], vbusU := [0] }

/-- Refutes O44: the only VBUS that supplies Nightwatch rises above 6.0 V and is cut from its regulator (R56), so a
power-on reset follows (R24), which leaves FLTSTS of the personality at 0. -/
theorem not_faultConditionsComplete : ¬ Obligations.FaultConditionsComplete := by
  intro h
  obtain ⟨-, -, hovervoltage, -⟩ := h 0 0 0 0 .trim fedByUpstreamVbus
  exact not_completes rfl (by decide +kernel) (hovervoltage rfl)

/-- PE0 runs again while the pool trigger that was in force when it stopped is still noted, and no port holds a commit. -/
def poolTriggerStale : State := { State.reset with stopped := [], poolTrig := true }

/-- Refutes O59: PE0_REBUILD judges the pool trigger anew from the books (R352, R353), and here ends it; the trigger
stands in none of the spots of its frame. -/
theorem not_framesOfTheSystem : ¬ Obligations.FramesOfTheSystem := by
  intro h
  obtain ⟨-, -, hrebuild, -⟩ := h
  have hends : ∃ t, exec .pe0Rebuild poolTriggerStale = .next t ∧ t.poolTrig = false := ⟨_, rfl, by decide +kernel⟩
  obtain ⟨t, ht, hended⟩ := hends
  have hkept : t.poolTrig = poolTriggerStale.poolTrig :=
    hrebuild _ t ht .poolTrig (by simp [bookSpots, Spot.reg, Spot.regs, Spot.has])
  exact Bool.false_ne_true (hended.symm.trans hkept)

end Sys2Proof.Machine
end

section
/-! PROOFS. Every step keeps the canonical form. -/

namespace Sys2Proof.Machine

/-- Settles O4: an idle step changes nothing, and a command keeps the canonical form whatever is left in the queue, which
is no part of it. -/
theorem stepsKeepStatesWellKept : Obligations.StepsKeepStatesWellKept := by
  intro s t hs ht
  unfold step at ht
  split at ht
  next => exact Host.Outcome.next.inj ht ▸ hs
  next c rest _ =>
    have hrest : WellKept { s with pending := rest } := { hs with }
    exact ((exec_keepsQueue c _).of_next ht).wf hrest

end Sys2Proof.Machine
end

section
/-! PROOFS. The resets that the part brings about itself: what boot's start leaves of a device-level reset. -/

namespace Sys2Proof.Machine

/-! ## The journal -/

/-- From `s` to `t` records were journaled: of retention the records and their number change, of the boot record the
place in the ring (R90, R91). -/
structure Journaled (s t : State) : Prop where
  retain : t.retain = { s.retain with journal := t.retain.journal, jseq := t.retain.jseq }
  boot : t.boot = { s.boot with jPos := t.boot.jPos, jFlash := t.boot.jFlash }

namespace Journaled

variable {s t u : State}

theorem refl (s : State) : Journaled s s := ⟨rfl, rfl⟩

theorem trans (h : Journaled s t) (k : Journaled t u) : Journaled s u :=
  ⟨by rw [k.retain, h.retain], by rw [k.boot, h.boot]⟩

theorem cause (h : Journaled s t) : t.retain.cause = s.retain.cause := by rw [h.retain]
theorem consec (h : Journaled s t) : t.retain.consec = s.retain.consec := by rw [h.retain]
theorem step (h : Journaled s t) : t.boot.step = s.boot.step := by rw [h.boot]

end Journaled

section
variable (s : State)

theorem State.ringWrite_retain (r : JRec) : (s.ringWrite r).retain = s.retain := by
  dsimp only [State.ringWrite]
  split <;> rfl

theorem State.ringWrite_boot (r : JRec) :
    (s.ringWrite r).boot = { s.boot with jPos := (s.boot.jPos + 1) % 2048, jFlash := r.seq } := by
  dsimp only [State.ringWrite]
  split <;> rfl

theorem State.ringWrite_journaled (r : JRec) : Journaled s (s.ringWrite r) :=
  ⟨by rw [State.ringWrite_retain], by rw [State.ringWrite_boot]⟩

theorem State.ringFlush_journaled : Journaled s s.ringFlush := by
  unfold State.ringFlush
  split
  next =>
    generalize s.retain.journal.reverse.filter (fun r => decide (s.boot.jFlash < r.seq)) = rs
    clear * -
    induction rs generalizing s with
    | nil => exact .refl s
    | cons r rs ih => exact (s.ringWrite_journaled r).trans (ih _)
  next => exact .refl s

theorem State.journal_journaled (code inst outcome slot reason arg : Nat) :
    Journaled s (s.journal code inst outcome slot reason arg) := by
  dsimp only [State.journal]
  refine .trans ?_ (State.ringFlush_journaled _)
  exact ⟨rfl, rfl⟩

/-! ## The start of boot (R88, R90) -/

theorem State.recall_cause : s.recall.retain.cause = s.retain.cause := by
  unfold State.recall
  split <;> rfl

theorem State.recall_step : s.recall.boot.step = s.boot.step := by
  unfold State.recall
  split <;> rfl

theorem State.recall_of_kept (h : s.retain.lost = false) : s.recall = s := by
  simp [State.recall, h]

/-- Boot's start journals on top of what was recalled. -/
theorem State.bootStart_of_recall : s.bootStart.retain.cause = s.recall.retain.cause ∧
    s.bootStart.retain.consec = s.recall.retain.consec ∧ s.bootStart.boot.step = s.recall.boot.step := by
  unfold State.bootStart
  extract_lets s0 src1 src2 s1 s2
  have h2 : Journaled s1 s2 := Journaled.trans ⟨rfl, rfl⟩ (State.journal_journaled ..)
  have h3 : Journaled s2 (s2.journal 0x24 0xFF 0 0xFF 0 0) := State.journal_journaled ..
  split
  · exact ⟨h3.cause.trans h2.cause, h3.consec.trans h2.consec, h3.step.trans h2.step⟩
  · exact ⟨h2.cause, h2.consec, h2.step⟩

theorem State.startBoot_cause : s.startBoot.retain.cause = s.retain.cause := by
  unfold State.startBoot
  split
  · rfl
  · obtain ⟨hcause, -, -⟩ := State.bootStart_of_recall { s with phase := .running }
    rw [hcause, State.recall_cause]

theorem State.startBoot_step : s.startBoot.boot.step = s.boot.step := by
  unfold State.startBoot
  split
  · rfl
  · obtain ⟨-, -, hstep⟩ := State.bootStart_of_recall { s with phase := .running }
    rw [hstep, State.recall_step]

theorem State.startBoot_consec (h : s.retain.lost = false) : s.startBoot.retain.consec = s.retain.consec := by
  unfold State.startBoot
  split
  · rfl
  · obtain ⟨-, hconsec, -⟩ := State.bootStart_of_recall { s with phase := .running }
    rw [hconsec, State.recall_of_kept { s with phase := .running } h]

/-- The start of boot writes the words of the failure memory, the boot counts and the journal's number alone. -/
theorem State.startBoot_rd_of {f : Field} (h : f.key < 0x1004 * 32 ∨ 0x1014 * 32 < f.key) :
    s.startBoot.rd f = s.rd f := by
  apply Only.rd
  apply State.startBoot_only (.refl _ _)
  any_goals exact Part.field_ne rfl (by omega)
  all_goals exact nofun

theorem State.startBoot_resetDue : s.startBoot.resetDue = s.resetDue := by
  refine (State.startBoot_only (P := (· ≠ .resetDue)) (.refl _ _) ?_ ?_ ?_ ?_ ?_ ?_ ?_ ?_ ?_ ?_ ?_ ?_ ?_ ?_ ?_)
    .resetDue (not_not_intro rfl)
  all_goals exact nofun

end

/-! ## Device-level resets (R96, R97) -/

section
variable (s : State) (cause : Nat)

theorem State.devReset_rstcause : (s.devReset cause).rd BOOT.RSTCAUSE.CAUSE = cause % 2 ^ BOOT.RSTCAUSE.CAUSE.width :=
  State.rd_wr_self ..

theorem State.devReset_mode : (s.devReset cause).rd SYS.STRAP.MODE = s.rd SYS.STRAP.MODE % 4 := by
  simp (disch := decide) only [State.devReset, State.rd_wr_ne, State.rd_wr_self]
  rfl

end

/-- The core die starts out of a device-level reset, or out of a state that shows no less of it. -/
theorem RestartsBoot.of_startBoot {s u : State} {cause : Nat} (hc : u.rd BOOT.RSTCAUSE.CAUSE = cause)
    (hr : u.retain.cause = cause) (hb : u.boot.step = 1) (hm : u.rd SYS.STRAP.MODE = s.rd SYS.STRAP.MODE % 4) :
    RestartsBoot cause s u.startBoot :=
  ⟨(u.startBoot_rd_of (by decide)).trans hc, u.startBoot_cause.trans hr, u.startBoot_step.trans hb,
    u.startBoot_mode.trans hm,
    hm ▸ u.startBoot_phase⟩

theorem RestartsBoot.of_devReset {s u : State} {cause : Nat} (hc : cause < 2 ^ 8)
    (hm : u.rd SYS.STRAP.MODE = s.rd SYS.STRAP.MODE) : RestartsBoot cause s (u.devReset cause).startBoot :=
  .of_startBoot ((u.devReset_rstcause cause).trans (Nat.mod_eq_of_lt hc)) rfl rfl (hm ▸ u.devReset_mode cause)

/-! ## The commands -/

section
variable {s : State}

theorem execWardenTimerExpire_restarts (h : s.phase = .running ∨ s.phase = .rescue) :
    Completes .wardenTimerExpire s (RestartsBoot 4 s) :=
  .guarded rfl (by rcases h with h | h <;> simp [State.active, h]) (.of_devReset (by decide) rfl)

theorem execSoftwareFullReset_restarts (h : s.resetDue = true) :
    Completes .softwareFullReset s (fun t => RestartsBoot 5 s t ∧ t.resetDue = false) :=
  .guarded rfl h ⟨.of_devReset (by decide) rfl, State.startBoot_resetDue _⟩

theorem execBootRetryReset_restarts (hrun : s.phase = .running) (hretry : s.boot.retry = true)
    (hkept : s.retain.lost = false) :
    Completes .bootRetryReset s (fun t => RestartsBoot 6 s t ∧ t.retain.consec = min 3 (s.retain.consec + 1)) :=
  .guarded rfl (by simp [State.active, hrun, hretry])
    ⟨.of_devReset (by decide) rfl, State.startBoot_consec _ hkept⟩

theorem execEclipseWake_restarts (hphase : s.phase = .eclipse) (hwoken : s.sleep.woken = true) :
    Completes .eclipseWake s (fun t => RestartsBoot 9 s t ∧
      t.rd NW.WAKE.CAUSE = s.rd NW.WAKE.CAUSE % 2 ^ NW.WAKE.CAUSE.width ∧
      t.rd NW.WAKE.SRC = s.rd NW.WAKE.SRC % 2 ^ NW.WAKE.SRC.width ∧
      t.rd NW.WAKE.DETAIL = s.rd NW.WAKE.DETAIL % 2 ^ NW.WAKE.DETAIL.width) := by
  refine .guarded rfl (by simp [hphase, hwoken]) ⟨.of_startBoot ?_ rfl rfl ?_, ?_, ?_, ?_⟩
  all_goals simp only [List.foldl_cons, List.foldl_nil]
  · simp (disch := decide) only [State.rd_wr_ne, State.devReset_rstcause]
    rfl
  · simp (disch := decide) only [State.rd_wr_ne, State.devReset_mode, State.rd_fresh]
  all_goals
    rw [State.startBoot_rd_of _ (by decide)]
    simp (disch := decide) only [State.rd_wr_ne, State.rd_wr_self]

end

/-- Settles O23: each reset is a device-level reset with its cause, and the core die then starts. -/
theorem internalResetsComplete : Obligations.InternalResetsComplete :=
  fun _ => ⟨execWardenTimerExpire_restarts, execSoftwareFullReset_restarts, execBootRetryReset_restarts,
    execEclipseWake_restarts⟩

end Sys2Proof.Machine
end

section
/-! PROOFS. Two statements refuted by a concrete state: the end of boot and the requests of BOOT. -/

namespace Sys2Proof.Machine

/-- The frame of an I2C write of FLTACK.CLRLATCH (R381) of PE0's fault block, at 0x910C. -/
def clearPe0Latch : List Byte := [0xA2, 0x00, 0x91, 0x0C, 0x00, 0x02, 0x00, 0x00, 0x00]

/-- Step 0x0E of a boot in which PE0's fault block has latched, while the transfer that woke the part waits (R398). -/
def latchClearedAtBootEnd : State :=
  { State.reset.wr (FLT.FLTTIMERS.STATE .pwr) 4 with
    boot := { BootX.reset with step := 0xE, started := true }
    heldI2c := some (.write clearPe0Latch) }

/-- A step's report in which everything is in order. -/
def soundReport : StepReport := ⟨true, true, none, true, true, true, 0⟩

/-- Refutes O25: the transfer served at the end of boot (R398) clears the latch of a device block, whose restore is a
device-level reset (R378, R381), so boot is at step 0x01 again. -/
theorem not_bootStepsComplete : ¬ Obligations.BootStepsComplete := by
  intro h
  obtain ⟨-, -, -, -, -, -, hend, -⟩ := h soundReport 0 0 none latchClearedAtBootEnd rfl rfl
  have hagain : ∃ t, exec (.bootStepComplete soundReport) latchClearedAtBootEnd = .next t ∧ t.boot.step ≠ 0 :=
    ⟨_, rfl, by decide +kernel⟩
  obtain ⟨t, ht, hstep⟩ := hagain
  exact not_completes ht (fun ⟨hdone, _⟩ => hstep hdone) (hend rfl)

/-- A record of the ring with the NVM probe ALTERED (R87, R90). What R88 does not read of it is left as erased flash. -/
def nvmAltered : List Byte :=
  let body : List Byte := 0x01 :: List.replicate 7 0xFF ++ 0x02 :: List.replicate 19 0xFF
  body ++ leBytes 4 (crc32 body)

/-- Rescue, its personality Configured, with no valid boot state in retention and one record in the ring. -/
def rescueBootStateLost : State :=
  { State.reset with
    phase := .rescue
    rescue := { RescueX.reset with devstate := 4 }
    retain := { Retain.reset with lost := true }
    flash := programBytes [] 0x10000 nvmAltered }

/-- Refutes O28: at the rescue exit the failure memory is cleared, but where retention holds no valid boot state the boot
that follows takes it from the ring (R88), which holds the mark NVM. -/
theorem not_bootWritesComplete : ¬ Obligations.BootWritesComplete := by
  intro h
  obtain ⟨hexit, -⟩ := h .rescue 1 false rescueBootStateLost
  have haccepted : Accepts .rescue 0x1010 (1 : Word).toNat rescueBootStateLost :=
    ⟨rfl, rfl, by decide, by decide +kernel⟩
  have hmark : ∃ t, exec (.rescueRstreq .rescue 1) rescueBootStateLost = .next t ∧ t.retain.failMem ≠ 0 :=
    ⟨_, rfl, by decide +kernel⟩
  obtain ⟨t, ht, hne⟩ := hmark
  exact not_completes ht (fun ⟨_, _, hclear, _⟩ => hne hclear) (hexit haccepted rfl rfl rfl)

end Sys2Proof.Machine
end

section
/-! PROOFS. The ends of update commands and of fuse blowing. -/

namespace Sys2Proof.Machine

section
variable {s t : State}

theorem Only.upd_eq (h : Only (· ≠ .upd) s t) : t.upd = s.upd := h _ (not_not_intro rfl)
theorem Only.fuses (h : Only (· ≠ .fuses) s t) : t.fuses = s.fuses := h _ (not_not_intro rfl)
theorem Only.fuseGoal (h : Only (· ≠ .fuseGoal) s t) : t.fuseGoal = s.fuseGoal := h _ (not_not_intro rfl)

end

section
variable (s : State)

/-! ## What a journal record and a header record leave alone -/

section
variable (code inst outcome slot reason arg : Nat)

@[simp] theorem State.journal_upd : (s.journal code inst outcome slot reason arg).upd = s.upd := by
  apply Only.upd_eq
  apply State.journal_only (.refl _ _)
  all_goals exact nofun

@[simp] theorem State.journal_fuses : (s.journal code inst outcome slot reason arg).fuses = s.fuses := by
  apply Only.fuses
  apply State.journal_only (.refl _ _)
  all_goals exact nofun

@[simp] theorem State.journal_fuseGoal : (s.journal code inst outcome slot reason arg).fuseGoal = s.fuseGoal := by
  apply Only.fuseGoal
  apply State.journal_only (.refl _ _)
  all_goals exact nofun

theorem State.journal_rd {f : Field} (h : f.key ≠ BOOT.JSEQ.JSEQ.key) :
    (s.journal code inst outcome slot reason arg).rd f = s.rd f := by
  apply Only.rd
  apply State.journal_only (.refl _ _)
  all_goals simp [h.symm]

@[simp] theorem State.journalOpen_upd (arg : Option Nat) :
    (s.journalOpen code inst outcome slot reason arg).upd = s.upd := by
  cases arg <;> exact State.journal_upd ..

theorem State.journalOpen_rd {f : Field} (arg : Option Nat) (h : f.key ≠ BOOT.JSEQ.JSEQ.key) :
    (s.journalOpen code inst outcome slot reason arg).rd f = s.rd f := by
  cases arg <;> exact State.journal_rd _ _ _ _ _ _ _ h

end

section
variable (x : Header)

@[simp] theorem State.writeHeader_upd : (s.writeHeader x).upd = s.upd := by
  apply Only.upd_eq
  apply State.writeHeader_only (.refl _ _)
  all_goals exact nofun

/-- A header write shows itself in the words HEADER and HDRSEQ alone. -/
theorem State.writeHeader_rd {f : Field} (h : 0x1020 * 32 ≤ f.key) : (s.writeHeader x).rd f = s.rd f := by
  apply Only.rd
  apply State.writeHeader_only (.refl _ _)
  any_goals exact Part.field_ne rfl (by omega)
  all_goals exact nofun

end

/-! ## The end of an update command (R98) -/

/-- The update record is no register. -/
theorem State.rd_setUpd (x : Option UpdX) (f : Field) : { s with upd := x }.rd f = s.rd f := rfl

theorem State.commitLand_rd (x : UpdX) {f : Field} (h : 0x1020 * 32 ≤ f.key) : (s.commitLand x).rd f = s.rd f := by
  rw [State.commitLand, State.rd_setUpd, State.writeHeader_rd _ _ h]

/-- The length that VERIFY found is no register. -/
theorem State.rd_setVerLen (n : Nat) (f : Field) : { s with boot := { s.boot with verLen := n } }.rd f = s.rd f := rfl

section
variable (x : UpdX) (rb : Bool)

theorem State.updDone_upd : (s.updDone x rb).upd = none := by
  unfold State.updDone
  split <;> simp [State.updIdle]

/-- BUSY stays while fuses are blown (R101). -/
theorem State.updDone_busy : (s.updDone x rb).rd BOOT.UPDSTS.BUSY = s.fuseGoal.isSome.toNat := by
  unfold State.updDone
  split <;> simp (disch := decide) only [State.updIdle, State.flag_eq_wr, State.rd_wr_ne, State.journal_rd,
    State.journalOpen_rd, State.writeHeader_rd, State.rd_setUpd, State.rd_setVerLen, State.rd_wr_self] <;>
    exact Nat.mod_eq_of_lt (Bool.toNat_lt _)

/-- OPEN ends with the session OPEN. -/
theorem State.updDone_open (h : x.cmd = 1) : (s.updDone x rb).rd BOOT.UPDSTS.SESSION = 1 := by
  simp (disch := decide) only [State.updDone, h, State.rd_wr_ne, State.rd_wr_self]
  rfl

/-- VERIFY ends with the session VERIFIED where it found nothing. -/
theorem State.updDone_verify (h : x.cmd = 4) :
    (s.updDone x rb).rd BOOT.UPDSTS.SESSION = if x.result = 0 then 2 else 1 := by
  simp (disch := decide) only [State.updDone, h, State.flag_eq_wr, State.rd_wr_ne, State.journalOpen_rd,
    State.rd_setVerLen, State.rd_wr_self]
  split <;> rfl

/-- COMMIT and ABORT end the session. -/
theorem State.updDone_idle (h : x.cmd = 5 ∨ x.cmd = 6) :
    (s.updDone x rb).rd BOOT.UPDSTS.SESSION = 0 ∧ (s.updDone x rb).rd BOOT.UPDSTS.OWNER = 7 := by
  rcases h with h | h <;>
    simp (disch := decide) only [State.updDone, h, State.updIdle, State.rd_wr_ne, State.rd_wr_self] <;> exact ⟨rfl, rfl⟩

end
end

/-! ## The commands -/

section
variable {s : State} {x : UpdX} {rb : Bool}

section
variable (hx : s.upd = some x) (hw : x.waiting = false) (hup : s.svUp = true)
include hx hw hup

theorem execUpdateCommandComplete_ends (hlanded : x.cmd ≠ 5 ∨ x.landed = true) :
    Completes (.updateCommandComplete rb) s (fun t => t.upd = none ∧
      t.rd BOOT.UPDSTS.BUSY = s.fuseGoal.isSome.toNat ∧ (x.cmd = 1 → t.rd BOOT.UPDSTS.SESSION = 1) ∧
      (x.cmd = 4 → t.rd BOOT.UPDSTS.SESSION = (if x.result = 0 then 2 else 1)) ∧
      (x.cmd = 5 → t.rd BOOT.UPDSTS.SESSION = 0 ∧ t.rd BOOT.UPDSTS.OWNER = 7) ∧
      (x.cmd = 6 → t.rd BOOT.UPDSTS.SESSION = 0 ∧ t.rd BOOT.UPDSTS.OWNER = 7)) := by
  have hrun : exec (.updateCommandComplete rb) s = .next (s.fresh.updDone x rb) := by
    have hlast : (x.cmd = 5 && !x.landed) = false := by rcases hlanded with h | h <;> simp [h]
    simp [exec, execUpdateCommandComplete, hx, hw, hup, hlast]
  exact ⟨_, hrun, State.updDone_upd .., State.updDone_busy .., State.updDone_open _ x rb, State.updDone_verify _ x rb,
    fun h => State.updDone_idle _ x rb (.inl h), fun h => State.updDone_idle _ x rb (.inr h)⟩

/-- A COMMIT's header record lands before its end (R99). -/
theorem execUpdateCommandComplete_lands (hcmd : x.cmd = 5) (hlanded : x.landed = false) :
    Completes (.updateCommandComplete rb) s (fun t => t.upd = some { x with landed := true } ∧
      t.rd BOOT.UPDSTS.BUSY = s.rd BOOT.UPDSTS.BUSY ∧ t.rd BOOT.UPDSTS.SESSION = s.rd BOOT.UPDSTS.SESSION) := by
  have hrun : exec (.updateCommandComplete rb) s = .next (s.fresh.commitLand x) := by
    simp [exec, execUpdateCommandComplete, hx, hw, hup, hcmd, hlanded]
  exact ⟨_, hrun, rfl, State.commitLand_rd _ _ (by decide), State.commitLand_rd _ _ (by decide)⟩

end

theorem execFuseBlowComplete_blows {v : Nat} (hgoal : s.fuseGoal = some v) :
    Completes .fuseBlowComplete s (fun t => t.fuses = s.fuses + 1 ∧
      t.rd BOOT.RBCTR.VALUE = (s.fuses + 1) % 2 ^ BOOT.RBCTR.VALUE.width ∧
      (v ≤ s.fuses + 1 → t.fuseGoal = none ∧ t.rd BOOT.UPDSTS.BUSY = s.upd.isSome.toNat)) := by
  let s1 : State := { s.fresh with fuses := s.fuses + 1 }.wr BOOT.RBCTR.VALUE (s.fuses + 1)
  by_cases hmore : s.fuses + 1 < v
  · have hrun : exec .fuseBlowComplete s = .next s1 := by simp [exec, execFuseBlowComplete, hgoal, hmore, s1]
    exact ⟨_, hrun, rfl, State.rd_wr_self .., fun hlast => absurd hmore (by omega)⟩
  · have hrun : exec .fuseBlowComplete s =
        .next (({ s1 with fuseGoal := none }.flag BOOT.UPDSTS.BUSY s.upd.isSome).journal 0x25 0xFF 0 0xFF 0 v) := by
      simp [exec, execFuseBlowComplete, hgoal, hmore, s1]
    refine ⟨_, hrun, by simp [s1], ?_, fun _ => ⟨by simp, ?_⟩⟩
    · rw [State.journal_rd _ _ _ _ _ _ _ (by decide), State.flag_eq_wr, State.rd_wr_ne _ _ (by decide)]
      exact State.rd_wr_self ..
    · rw [State.journal_rd _ _ _ _ _ _ _ (by decide), State.flag_eq_wr, State.rd_wr_self]
      exact Nat.mod_eq_of_lt (Bool.toNat_lt _)

end

/-- Settles O27: both stages of a COMMIT, the end of each update command, and each fuse blown. -/
theorem updateAndFuseCompletionsComplete : Obligations.UpdateAndFuseCompletionsComplete :=
  fun _ _ _ _ => ⟨execUpdateCommandComplete_ends, execUpdateCommandComplete_lands, execFuseBlowComplete_blows⟩

end Sys2Proof.Machine
end

section
/-! SUPPORT. The spots of a frame as a set of parts that may change, and how a frame is proved from it. -/

namespace Sys2Proof.Machine

/-- Every part of the spots of a list may change. -/
def May (P : Part → Prop) (l : List Spot) : Prop := ∀ x ∈ l, ∀ p, x.has p → P p

section
variable {P : Part → Prop} {l : List Spot}

@[simp] theorem May.nil : May P [] := List.forall_mem_nil _
@[simp] theorem May.append {m : List Spot} : May P (l ++ m) ↔ May P l ∧ May P m := List.forall_mem_append
@[simp] theorem May.one {q : Part} : May P (.one q :: l) ↔ P q ∧ May P l :=
  List.forall_mem_cons.trans (and_congr_left' (Spot.may_one q))
@[simp] theorem May.reg {f : Field} : May P (.reg f :: l) ↔ P (.field f.key) ∧ May P l := May.one
@[simp] theorem May.all {f : Nat → Part} : May P (.all f :: l) ↔ (∀ i, P (f i)) ∧ May P l :=
  List.forall_mem_cons.trans (and_congr_left' (Spot.may_all f))
@[simp] theorem May.regs {f : Nat → Field} : May P (.regs f :: l) ↔ (∀ i, P (.field (f i).key)) ∧ May P l := May.all
@[simp] theorem May.any {f : Nat → List Field} :
    May P (.any f :: l) ↔ (∀ i, ∀ g ∈ f i, P (.field g.key)) ∧ May P l :=
  List.forall_mem_cons.trans (and_congr_left' (Spot.may_any f))
@[simp] theorem May.blks {f : FBlk → Field} : May P (.blks f :: l) ↔ (∀ b, P (.field (f b).key)) ∧ May P l :=
  List.forall_mem_cons.trans (and_congr_left' (Spot.may_blks f))
@[simp] theorem May.tab {f : Nat → Nat → Field} :
    May P (.tab f :: l) ↔ (∀ i j, P (.field (f i j).key)) ∧ May P l :=
  List.forall_mem_cons.trans (and_congr_left' (Spot.may_tab f))
@[simp] theorem May.at_cons {f : Nat → Field} {fs : List (Nat → Field)} {n : Nat} :
    May P (Spot.at (f :: fs) n) ↔ P (.field (f n).key) ∧ May P (Spot.at fs n) := May.one
@[simp] theorem May.at_nil {n : Nat} : May P (Spot.at [] n) := May.nil
@[simp] theorem May.each_cons {f : Nat → Field} {fs : List (Nat → Field)} :
    May P (Spot.each (f :: fs)) ↔ (∀ i, P (.field (f i).key)) ∧ May P (Spot.each fs) := May.all
@[simp] theorem May.each_nil : May P (Spot.each []) := May.nil

theorem May.fault (h : May P faultSpots) : FaultMay P := .of_spots h

end

/-- A frame, for any set of parts that holds its spots. -/
theorem Frame.of_may {c : Sys2Proof.Instr} {l : List (List Spot)}
    (h : ∀ (s t : State) (P : Part → Prop), exec c s = .next t → May P l.flatten → Only P s t) : Frame c l :=
  fun s t ht => .of_only (h s t _ ht fun x hx _ hp => ⟨x, hx, hp⟩)

/-- A frame of a command that can record a fault. -/
theorem Frame.of_fault {c : Sys2Proof.Instr} {l : List (List Spot)}
    (h : ∀ (s t : State) (P : Part → Prop), exec c s = .next t → May P faultSpots → May P l.flatten → Only P s t) :
    Frame c (faultSpots :: l) :=
  .of_may fun s t P ht hP => by
    obtain ⟨hf, hl⟩ := May.append.mp hP
    exact h s t P ht hf hl

section
variable {P : Part → Prop} {s t u : State} {c : Bool}

/-- A command under a condition, which else only clears the answers of the step before. -/
theorem Only.guarded (ht : doneIf c s.fresh u = .next t) (ho : P .outs) (h : Only P s.fresh u) : Only P s t := by
  have hf : Only P s s.fresh := (Only.refl P s).fresh ho
  cases Host.Outcome.next.inj ht
  exact .ite (hf.trans h) hf

/-- A command that starts from the fresh state. -/
theorem Only.done (ht : Machine.done u = .next t) (ho : P .outs) (h : Only P s.fresh u) : Only P s t := by
  cases Host.Outcome.next.inj ht
  exact ((Only.refl P s).fresh ho).trans h
end

/-! ## A part of the state set anew -/

section
variable {P : Part → Prop} {s t : State}

theorem Only.setShedDue (h : Only P s t) (b : Bool) (hp : P .shedDue) : Only P s { t with shedDue := b } := by
  apply Only.upd h
  all_goals simp [hp]

theorem Only.setMissed (h : Only P s t) (l : List (Nat × Nat)) (hp : P .missed) : Only P s { t with missed := l } := by
  apply Only.upd h
  all_goals simp [hp]

theorem Only.setVbusHigh (h : Only P s t) (l : List Nat) (hp : P .vbusHigh) : Only P s { t with vbusHigh := l } := by
  apply Only.upd h
  all_goals simp [hp]

theorem Only.setRetain (h : Only P s t) (r : Retain) (hp : P .retain) : Only P s { t with retain := r } := by
  apply Only.upd h
  all_goals simp [hp]

theorem Only.setBoot (h : Only P s t) (b : BootX) (hp : P .boot) : Only P s { t with boot := b } := by
  apply Only.upd h
  all_goals simp [hp]

theorem Only.setFuses (h : Only P s t) (k : Nat) (hp : P .fuses) : Only P s { t with fuses := k } := by
  apply Only.upd h
  all_goals simp [hp]

theorem Only.setFuseGoal (h : Only P s t) (g : Option Nat) (hp : P .fuseGoal) : Only P s { t with fuseGoal := g } := by
  apply Only.upd h
  all_goals simp [hp]

theorem Only.setResetN (h : Only P s t) (b : Bool) (hp : P .resetN) : Only P s { t with resetN := b } := by
  apply Only.upd h
  all_goals simp [hp]

theorem Only.setStrapDue (h : Only P s t) (b : Bool) (hp : P .strapDue) : Only P s { t with strapDue := b } := by
  apply Only.upd h
  all_goals simp [hp]

theorem Only.setPhase (h : Only P s t) (p : Phase) (hp : P .phase) : Only P s { t with phase := p } := by
  apply Only.upd h
  all_goals simp [hp]

theorem Only.endPor (h : Only P s t) (hp : P .por) (hv : P .vioDue) (hs : P .strapDue) :
    Only P s { t with por := false, vioDue := false, strapDue := false } := by
  apply Only.upd h
  all_goals simp [hp, hv, hs]

theorem Only.setOuts (h : Only P s t) (l : List Out) (hp : P .outs) : Only P s { t with outs := l } := by
  apply Only.upd h
  all_goals simp [hp]

theorem Only.setUpd (h : Only P s t) (x : Option UpdX) (hp : P .upd) : Only P s { t with upd := x } := by
  apply Only.upd h
  all_goals simp [hp]

theorem Only.ite_neg {c : Prop} [Decidable c] {a b : State} (hc : ¬c) (h : Only P s b) :
    Only P s (if c then a else b) := by
  rwa [if_neg hc]

/-- A command whose result is known against the state before it cleared the answers. -/
theorem Only.doneTail {u : State} (ht : Machine.done u = .next t) (h : Only P s u) : Only P s t := by
  cases Host.Outcome.next.inj ht
  exact h

end

end Sys2Proof.Machine
end

section
/-! PROOFS. Frames of faults. -/

namespace Sys2Proof.Machine

section
variable {P : Part → Prop} {s t : State}

namespace FaultMay

variable (hF : FaultMay P)
include hF

theorem edge (h : Only P s t) (i : Nat) : Only P s (t.edge i) :=
  State.edge_only h i hF.icuTimer (hF.icu_src_sts_lost _) (hF.icu_src_sts_lostcnt _) (hF.icu_src_sts_pend _)
    hF.icu_tstat_held hF.icu_tstat_line

theorem engineStop (h : Only P s t) (e : Nat) : Only P s (t.engineStop e) :=
  State.engineStop_only h e hF.icuTimer hF.icu_src_sts_insvc (hF.icu_tstat_held _) (hF.icu_tstat_insvc _)
    (hF.icu_tstat_line _) (hF.icu_tstat_orderr _) (hF.sec_evt_events _) (hF.sec_evt_events _) (hF.sec_sts_pcrun _)
    (hF.sec_sts_serun _) hF.stopped

end FaultMay

namespace May

variable (hf : May P faultSpots)
include hf

theorem powerCut (h : Only P s t) (n : Nat) : Only P s (t.powerCut n) := by
  simp [faultSpots, poolSpots, downFields, hubFields, chgFields, rosterFields, bookSpots] at hf
  apply State.powerCut_only h
  all_goals simp [hf]

end May
end

theorem execQuadFailEnter_frame (q : Fin 12) : Frame (.quadFailEnter q)
    [faultSpots, [.one .shedDue, .reg (QD.EVT.FAILIN q), .reg (QD.STS.FAIL q), .reg (QD.STS.FAILWAS q)]] := by
  refine .of_fault fun s t P ht hf hP => ?_
  simp at hP
  obtain ⟨hshed, hin, hfail, hwas⟩ := hP
  have h2 := (((((Only.refl P s.fresh).raise _ hfail).raise _ hwas).raise _ hin).modQuad q
    (fun x => { x with failTrig := true, failNew := true }) (hf.fault.quad q)).setShedDue true hshed
  exact .guarded ht hf.fault.outs (.ite h2 (State.dieShed_only h2 _ hf.fault))

theorem execFailShedTimeout_frame (q : Fin 12) : Frame (.failShedTimeout q) [faultSpots] :=
  .of_fault fun _ _ _ ht hf _ => .guarded ht hf.fault.outs (State.dieShed_only (.refl _ _) _ hf.fault)

theorem execQuadOverpower_frame (q : Fin 12) : Frame (.quadOverpower q) [faultSpots] :=
  .of_fault fun _ _ _ ht hf _ => .guarded ht hf.fault.outs (State.condBegin_only (.refl _ _) _ _ hf.fault)

theorem execGraceExpire_frame (b : Fin 74) : Frame (.graceExpire b) [faultSpots] :=
  .of_fault fun _ _ _ ht hf _ => .guarded ht hf.fault.outs (State.takeAction_only (.refl _ _) _ _ _ hf.fault)

theorem execRecoveryWindowExpire_frame (b : Fin 74) :
    Frame (.recoveryWindowExpire b) [[.one .outs, .reg (FLT.RECOV.WINDOW (FBlk.ofIdx b))]] := by
  refine .of_may fun s t P ht hP => ?_
  simp at hP
  exact .guarded ht hP.1 ((Only.refl _ _).wr _ _ hP.2)

theorem execEngineWatchdogMiss_frame (e : Fin 11) : Frame (.engineWatchdogMiss e) [faultSpots, [.one .missed]] := by
  refine .of_fault fun s t P ht hf hP => .guarded ht hf.fault.outs ?_
  simp at hP
  extract_lets x src once src2
  have hx : Only P s.fresh x.2 := by
    unfold x
    split
    · exact (Only.refl _ _).elapsedUs _ hf.fault.freeCtr
    · exact .refl _ _
  have h1 : Only P s.fresh once := hx.setMissed _ hP
  refine .ite (.ite ?_ (.ite ?_ ?_)) (.setMissed (hf.fault.engineStop (hf.fault.edge hx _) _) _ hP)
  all_goals exact State.record_only h1 _ _ hf.fault

theorem execCoreDieOvertemp_frame : Frame .coreDieOvertemp [faultSpots] :=
  .of_fault fun _ _ _ ht hf _ =>
    .guarded ht hf.fault.outs (State.condBegin_only (hf.fault.edge (.refl _ _) _) _ _ hf.fault)

theorem execClkNwOutOfRange_frame : Frame .clkNwOutOfRange [faultSpots] :=
  .of_fault fun _ _ _ ht hf _ => .guarded ht hf.fault.outs (State.record_only (.refl _ _) _ _ hf.fault)

theorem execRetentionParityError_frame (area : RetArea) : Frame (.retentionParityError area)
    [faultSpots, [.reg BOOT.BOOTCNT.BOOTNO, .reg BOOT.BOOTCNT.CONSEC, .reg BOOT.FAILMEM.CAL, .reg BOOT.FAILMEM.LINK,
      .reg BOOT.FAILMEM.NVM, .reg BOOT.FAILMEM.QID, .reg BOOT.FAILMEM.SLOTA, .reg BOOT.FAILMEM.SLOTB]] := by
  refine .of_fault fun s t P ht hf hP => .done ht hf.fault.outs ?_
  simp at hP
  have h0 : Only P s.fresh (s.fresh.record .nw 1) := State.record_only (.refl _ _) _ _ hf.fault
  cases area with
  | bootState =>
    apply State.showBoot_only (State.rebuild_only h0 hf.fault.boot hf.fault.retain)
    all_goals simp [hP]
  | _ => exact h0.setRetain _ hf.fault.retain

theorem execFbiTrimLimit_frame (n : Fin 48) : Frame (.fbiTrimLimit n) [faultSpots] :=
  .of_fault fun _ _ _ ht hf _ => .guarded ht hf.fault.outs (State.record_only (.refl _ _) _ _ hf.fault)

theorem execPortDieOvertemp_frame (i : Fin 4) : Frame (.portDieOvertemp i) [faultSpots] := by
  refine .of_fault fun s t P ht hf _ => .guarded ht hf.fault.outs (State.condBegin_only (.orBits (.modSec ?_ _ _
    (hf.fault.sec _)) _ _ (hf.fault.sec_evt_events _)) _ _ hf.fault)
  exact (Only.refl _ _).forEach _ _ fun u n hu => .ite (hf.powerCut hu n) hu

theorem execUpstreamCrcErrors_frame (u : Fin 4) : Frame (.upstreamCrcErrors u) [faultSpots] :=
  .of_fault fun _ _ _ ht hf _ =>
    .guarded ht hf.fault.outs (State.record_only ((Only.refl _ _).modUp _ _ (hf.fault.up _)) _ _ hf.fault)

theorem execLinkRestoreTimeout_frame (i : Fin 4) : Frame (.linkRestoreTimeout i) [faultSpots] :=
  .of_fault fun _ _ _ ht hf _ =>
    .guarded ht hf.fault.outs (State.condBegin_only ((Only.refl _ _).modSec _ _ (hf.fault.sec _)) _ _ hf.fault)

end Sys2Proof.Machine
end

section
/-! PROOFS. Frames of trips, of the self-test and of the ends of a discharge. -/

namespace Sys2Proof.Machine

section
variable {P : Part → Prop} {s t : State}

theorem May.trip {n cause : Nat} (hP : May P (tripSpots n)) (hc : P (.field (causeBit n cause).key)) (h : Only P s t) :
    Only P s (t.trip n cause) := by
  simp [tripSpots, poolSpots, hubFields, chgFields, rosterFields, bookSpots] at hP
  apply State.trip_only h
  all_goals simp [hP, hc]

theorem May.trip_outs {n : Nat} (hP : May P (tripSpots n)) : P .outs := by
  simp [tripSpots, poolSpots, hubFields, chgFields, rosterFields, bookSpots] at hP
  simp only [hP]

/-- The frame of a command that trips a port where its condition holds. -/
theorem Frame.of_trip {c : Sys2Proof.Instr} {n cause : Nat} {cond : State → Bool}
    (hc : ∀ s, exec c s = doneIf (cond s) s.fresh (s.fresh.trip n cause)) :
    Frame c [tripSpots n, [.reg (causeBit n cause)]] := by
  refine .of_may fun s t P ht hP => ?_
  simp at hP
  obtain ⟨htrip, hbit⟩ := hP
  exact .guarded ((hc s).symm.trans ht) htrip.trip_outs (htrip.trip hbit (.refl _ _))

end

theorem execHardShort_frame (n : Fin 48) : Frame (.hardShort n) [tripSpots n, [.reg (causeBit n 2)]] :=
  .of_trip (cond := fun s => (s.port n).gate) fun _ => rfl

theorem execOvervoltageTrip_frame (n : Fin 48) : Frame (.overvoltageTrip n) [tripSpots n, [.reg (causeBit n 4)]] :=
  .of_trip (cond := fun s => (s.port n).gate) fun _ => rfl

theorem execOverloadTrip_frame (n : Fin 48) : Frame (.overloadTrip n) [tripSpots n, [.reg (causeBit n 1)]] :=
  .of_trip (cond := fun s => (s.port n).gate && s.on (PRT.FUSSTS.LIMIT n)) fun _ => rfl

theorem execVoltageTrip_frame (n : Fin 48) : Frame (.voltageTrip n) [tripSpots n, [.reg (causeBit n 5)]] :=
  .of_trip (cond := fun s => (s.port n).gate) fun _ => rfl

theorem execSelfTestComplete_frame (n : Fin 48) (pass : Bool) : Frame (.selfTestComplete n pass)
    [faultSpots, [.reg (PRT.FUSEVT.LATCHED n), .reg (PRT.FUSEVT.SENSEFLT n), .reg (PRT.FUSSTS.SENSE n),
      .reg (PRT.TCSTS.LEAKMIN n)]] := by
  refine .of_fault fun s t P ht hf hP => .guarded ht hf.fault.outs ?_
  simp at hP
  obtain ⟨hlatched, hsensefault, hsense, hleak⟩ := hP
  extract_lets s1 k s2
  have h1 : Only P s.fresh s1 := (Only.refl _ _).modPort _ _ (hf.fault.port n)
  have h2 : Only P s.fresh s2 := .ite (hf.powerCut h1 _) h1
  refine .ite ?_ (.ite ?_ (.ite (h1.modPort _ _ (hf.fault.port n)) ?_))
  · exact State.record_only
      (State.latchOff_only ((h2.raise _ hsense).raise _ hsensefault) _ (hf.fault.port n) hlatched) _ _ hf.fault
  · exact State.tryApply_only h1 _ (hf.fault.port n) hleak (hf.fault.prt_tcsts_moistok n)
  · exact State.record_only (State.latchOff_only h1 _ (hf.fault.port n) hlatched) _ _ hf.fault

theorem execVbusDischarged_frame (n : Fin 48) : Frame (.vbusDischarged n)
    [poolSpots, Spot.at hubFields n, Spot.at chgFields n, Spot.at rosterFields n, bookSpots,
      [.one .freeCtr, .all .port, .all .up, .reg LDS.CHG0.P00_P31, .reg LDS.CHG1.P32_P47, .reg (PRT.HUBSTS.CONNECTION n),
        .reg (PRT.HUBSTS.HIGHSPD n), .reg (PRT.HUBSTS.LOWSPD n), .reg (PRT.MTRCNT.DATAHIT n), .reg (PRT.MTRCNT.NAKHIT n),
        .reg (PRT.MTRSTS.STRANDED n), .reg (PRT.MTRSTS.WITHDRAWN n), .reg (PRT.QSTS.STOPPED n),
        .reg (PRT.TCSTS.LEAKMIN n), .reg (PRT.TCSTS.MOISTOK n), .reg (PWR.PBOOK.COMMIT n), .regs SWX.CNTA.STALE,
        .regs SWX.CNTB.RLYWD]] := by
  refine .of_may fun s t P ht hP => ?_
  simp [poolSpots, hubFields, chgFields, rosterFields, bookSpots] at hP
  refine .guarded ht (by simp only [hP]) ?_
  extract_lets s1
  have h1 : Only P s.fresh s1 := by
    apply State.vbusGone_only (.refl _ _)
    all_goals simp [hP]
  refine .ite ?_ ?_
  · apply State.vbusLoss_only (h1.modPort _ _ (by simp [hP]))
    all_goals simp [hP]
  · apply State.tryApply_only h1
    all_goals simp [hP]

theorem execPsHardResetExpire_frame (n : Fin 48) : Frame (.psHardResetExpire n)
    [poolSpots, Spot.at hubFields n, Spot.at chgFields n, Spot.at rosterFields n, bookSpots,
      [.one .freeCtr, .all .port, .all .up, .reg LDS.CHG0.P00_P31, .reg LDS.CHG1.P32_P47, .reg (PRT.FUSEVT.PGOFF n),
        .reg (PRT.FUSSTS.FOLD n), .reg (PRT.FUSSTS.GATEON n), .reg (PRT.FUSSTS.LIMIT n), .reg (PRT.FUSSTS.PG n),
        .reg (PRT.HUBSTS.CONNECTION n), .reg (PRT.HUBSTS.HIGHSPD n), .reg (PRT.HUBSTS.LOWSPD n),
        .reg (PRT.MTRCNT.DATAHIT n), .reg (PRT.MTRCNT.NAKHIT n), .reg (PRT.MTRSTS.STRANDED n),
        .reg (PRT.MTRSTS.WITHDRAWN n), .reg (PRT.PDSTS.VCSRC n), .reg (PRT.QSTS.STOPPED n), .reg (PRT.TCSTS.TCSTATE n),
        .reg (PRT.VCONN.ON n), .reg (PWR.PBOOK.COMMIT n), .reg (PWR.PBOOK.CONTRACT n), .regs SWX.CNTA.STALE,
        .regs SWX.CNTB.RLYWD]] := by
  refine .of_may fun s t P ht hP => ?_
  simp [poolSpots, hubFields, chgFields, rosterFields, bookSpots] at hP
  refine .guarded ht (by simp only [hP]) ?_
  extract_lets s1 s2
  have h1 : Only P s.fresh s1 := by
    refine .wr ?_ _ _ (by simp [hP])
    apply State.gateOff_only (State.vconnOff_only (.refl _ _) _ _ _ _)
    all_goals simp [hP]
  have h2 : Only P s.fresh s2 := by
    apply State.discharge_only (h1.modPort _ _ (by simp [hP]))
    all_goals simp [hP]
  refine .ite h2 ?_
  apply State.vbusLoss_only (h2.modPort _ _ (by simp [hP]))
  all_goals simp [hP]

theorem execSrcRecoverExpire_frame (n : Fin 48) : Frame (.srcRecoverExpire n)
    [[.one .outs, .one (.port n), .reg (PRT.TCSTS.LEAKMIN n), .reg (PRT.TCSTS.MOISTOK n)]] := by
  refine .of_may fun s t P ht hP => ?_
  simp at hP
  obtain ⟨houts, hport, hleak, hmoist⟩ := hP
  refine .guarded ht houts (State.tryApply_only ?_ _ hport hleak hmoist)
  exact State.handoverRelease_only ((Only.refl _ _).modPort _ _ hport) _ hport

theorem execVconnOvercurrent_frame (n : Fin 48) : Frame (.vconnOvercurrent n)
    [faultSpots, [.reg (PRT.IBUSMEAS.ISET n), .reg (PRT.VCONN.OCCNT n)]] := by
  refine .of_fault fun s t P ht hf hP => .guarded ht hf.fault.outs (State.record_only ?_ _ _ hf.fault)
  simp [faultSpots, poolSpots, downFields, hubFields, chgFields, rosterFields, bookSpots] at hf
  simp at hP
  apply State.rpSettle_only
  · refine .modPort (.orBits (.bump (State.vconnOff_only (.refl _ _) _ ?_ ?_ ?_) _ _ ?_) _ _ ?_) _ _ ?_
    all_goals simp [hf, hP]
  all_goals simp [hf, hP]

end Sys2Proof.Machine
end

section
/-! PROOFS. Frames of fences, of the boot, of updates and of the mailboxes. -/

namespace Sys2Proof.Machine

theorem State.nwUp_of_vddNw {s : State} (h : s.good .vddNw = true) : s.nwUp = true := by
  rw [State.nwUp, h, Bool.true_or]

theorem execFenceStart_frame : Frame .fenceStart
    [[.one .edgeDue, .one .freeCtr, .one .outs, .one .sw, .reg PKM.FENCE.ACTIVE, .reg PKM.FENCE.FALLBACK,
      .reg PKM.FENCE.LINE, .reg PKM.FENCE.PEND, .reg PKM.FENCE.RESULT, .reg PKM.FREESTS.WAS, .reg PKM.GCNT0.FREE,
      .reg PKM.GCNT0.QUEUED, .reg PKM.GCNT1.FENCED, .reg PKM.GCNT2.POOLFREE, .reg PKM.PNOTE0.P00_P31,
      .reg PKM.PNOTE1.P32_P47]] := by
  refine .of_may fun s t P ht hP => ?_
  simp at hP
  refine .done ht (by simp only [hP]) ?_
  split
  · next line rest hact hpend =>
    refine .ite (.refl _ _) ?_
    extract_lets d mode whole h q left s1 s2 s3
    have hh : Only P s.fresh h.2 := .ite2 (.refl _ _) (State.lineHolder_only (.refl _ _) _ (by simp [hP]))
    have h1 : Only P s.fresh s1 := State.modFence_only (hh.modSw _ (by simp [hP])) _ (by simp [hP])
    have h2 : Only P s.fresh s2 :=
      (((((State.showPend_only h1 (by simp [hP])).wr _ _ (by simp [hP])).raise _ (by simp [hP])).wr _ _
        (by simp [hP])).flag _ _ (by simp [hP])).raise _ (by simp [hP])
    have h3 : Only P s.fresh s3 := by
      apply State.pnote_only (State.granule_only h2 _ _ _ _)
      all_goals simp [hP]
    refine .ite ?_ h3
    apply State.setPool_only h3
    all_goals simp [hP]
  · exact .refl _ _

theorem execFenceTestComplete_frame (pass : Bool) : Frame (.fenceTestComplete pass)
    [faultSpots, [.reg PKM.FENCE.ACTIVE, .reg PKM.FENCE.RESULT, .reg PKM.GCNT1.FENCED, .reg PKM.GCNT1.RETIRED,
      .reg PKM.GCNT2.SPAREUSED, .reg PKM.LINECNT.LASTING, .reg PKM.LINECNT.TRANSIENT]] := by
  refine .of_fault fun s t P ht hf hP => .done ht hf.fault.outs ?_
  have hF := hf.fault
  simp [faultSpots, poolSpots, downFields, hubFields, chgFields, rosterFields, bookSpots] at hf
  simp at hP
  refine .ite (.refl _ _) (.ite ?_ ?_)
  · apply State.fenceEnd_only ((Only.refl _ _).bump _ _ _)
    all_goals simp [hP, hf]
  · extract_lets s1 x
    have h1 : Only P s.fresh s1 := (Only.refl _ _).bump _ _ (by simp [hP])
    have hx : Only P s.fresh x.2 := State.freePoolLine_only h1 (by simp [hf])
    split
    · apply State.retire_only h1
      all_goals simp [hP, hf]
    · split
      · apply State.retire_only hx
        all_goals simp [hP, hf]
      · exact State.condBegin_only (State.modFence_only (hx.wr _ _ (by simp [hP])) _ (by simp [hf])) _ _ hF

theorem execReplacementAvailable_frame : Frame .replacementAvailable
    [[.one .edgeDue, .all .flt, .one .freeCtr, .one .outs, .one .sw, .reg PKM.FENCE.ACTIVE, .reg PKM.FENCE.FALLBACK,
      .reg PKM.FENCE.RESULT, .reg PKM.FREESTS.WAS, .reg PKM.GCNT0.FREE, .reg PKM.GCNT0.QUEUED, .reg PKM.GCNT1.FENCED,
      .reg PKM.GCNT1.RETIRED, .reg PKM.GCNT2.POOLFREE, .reg PKM.GCNT2.SPAREUSED]] := by
  refine .of_may fun s t P ht hP => ?_
  simp at hP
  refine .done ht (by simp only [hP]) (.ite (.refl _ _) ?_)
  extract_lets x
  have hx : Only P s.fresh x.2 := State.freePoolLine_only (.refl _ _) (by simp [hP])
  split
  · apply State.retire_only (State.condEnd_only hx _ _ _)
    all_goals simp [hP]
  · exact .refl _ _

theorem execEngineReadyTimeout_frame (e : Fin 11) : Frame (.engineReadyTimeout e)
    [[.one .boot, .one .flash, .one .freeCtr, .one .outs, .one .retain, .reg BOOT.BOOTCNT.BOOTNO,
      .reg BOOT.BOOTCNT.CONSEC, .reg BOOT.FAILMEM.CAL, .reg BOOT.FAILMEM.LINK, .reg BOOT.FAILMEM.NVM,
      .reg BOOT.FAILMEM.QID, .reg BOOT.FAILMEM.SLOTA, .reg BOOT.FAILMEM.SLOTB, .reg BOOT.JSEQ.JSEQ]] := by
  refine .of_may fun s t P ht hP => ?_
  simp at hP
  refine .guarded ht (by simp only [hP]) (.ite ((Only.refl _ _).setBoot _ (by simp only [hP])) ?_)
  apply State.stepFail_only (.refl _ _)
  all_goals simp [hP]

theorem execBootTimeout_frame : Frame .bootTimeout
    [[.one .boot, .one .flash, .one .freeCtr, .one .outs, .one .retain, .reg BOOT.BOOTCNT.BOOTNO,
      .reg BOOT.BOOTCNT.CONSEC, .reg BOOT.FAILMEM.CAL, .reg BOOT.FAILMEM.LINK, .reg BOOT.FAILMEM.NVM,
      .reg BOOT.FAILMEM.QID, .reg BOOT.FAILMEM.SLOTA, .reg BOOT.FAILMEM.SLOTB, .reg BOOT.JSEQ.JSEQ]] := by
  refine .of_may fun s t P ht hP => ?_
  simp at hP
  refine .guarded ht (by simp only [hP]) ?_
  extract_lets inst s1 s2 s3
  have hmark (u : State) (m : Nat) (hu : Only P s.fresh u) : Only P s.fresh (u.setMark m) := by
    apply State.setMark_only hu
    all_goals simp [hP]
  have h1 : Only P s.fresh s1 := by
    apply State.stepRec_only
    · apply State.begun_only (.refl _ _)
      all_goals simp [hP]
    all_goals simp [hP]
  have h2 : Only P s.fresh s2 := by
    unfold s2
    split
    · exact hmark _ _ h1
    · exact h1
  have h3 : Only P s.fresh s3 := .ite (hmark _ _ h2) h2
  exact h3.setBoot _ (by simp only [hP])

theorem execSectorRestartComplete_frame (i : Fin 4) (rep : Sys2Proof.SectorReport) :
    Frame (.sectorRestartComplete i rep)
    [faultSpots, [.one .image, .reg BOOT.BOOTCNT.BOOTNO, .reg BOOT.BOOTCNT.CONSEC, .reg BOOT.FAILMEM.CAL,
      .reg BOOT.FAILMEM.LINK, .reg BOOT.FAILMEM.NVM, .reg BOOT.FAILMEM.QID, .reg BOOT.FAILMEM.SLOTA,
      .reg BOOT.FAILMEM.SLOTB, .regs PRT.FUSCFG.ILIM, .regs QD.EVT.IDFAIL, .regs QD.ID.BOARDREV, .regs QD.ID.RSHUNT,
      .regs QD.STS.IDSRC, .reg (SEC.STS.HOLD i), .reg (SEC.STS.LINK i), .reg (SEC.STS.RATE i)]] := by
  refine .of_fault fun s t P ht hf hP => .guarded ht hf.fault.outs ?_
  have hF := hf.fault
  have hrec (u : State) (k inst : Nat) (x : StepOut) (hu : Only P s.fresh u) : Only P s.fresh (u.stepRec k inst x) := by
    apply State.stepRec_only hu
    all_goals simp [hF.boot, hF.flash, hF.freeCtr, hF.outs, hF.boot_jseq_jseq, hF.retain]
  have hrun (u : State) (e : Nat) (hu : Only P s.fresh u) : Only P s.fresh (u.engineRun e) :=
    State.engineRun_only hu _ (hF.sec_sts_pcrun _) (hF.sec_sts_serun _) hF.stopped
  simp at hP
  extract_lets load s1 s2 x s3 up s4 s5
  have h1 : Only P s.fresh s1 := hrec _ _ _ _ (.refl _ _)
  have h2 : Only P s.fresh s2 := h1.forEach _ _ fun u k hu => hrec _ _ _ _ (by
    apply State.identStep_only hu _ _ _ hF
    all_goals simp [hP])
  have hx : Only P s.fresh x.2 := by
    apply State.linkStep_only h2 _ _ _ hF
    all_goals simp [hP]
  have h4 : Only P s.fresh s4 := hrec _ _ _ _ (hrec _ _ _ _ hx)
  have h5 : Only P s.fresh s5 := .ite (hrun _ _ (hrun _ _ h4)) h4
  exact (h5.modSec _ _ (hF.sec _)).orBits _ _ (hF.sec_evt_events _)

theorem execUpdateCommandComplete_frame (readBack : Bool) : Frame (.updateCommandComplete readBack)
    [[.one .boot, .one .flash, .one .freeCtr, .one .outs, .one .retain, .one .upd, .reg BOOT.HDRSEQ.SEQ,
      .reg BOOT.HEADER.ACTIVE, .reg BOOT.HEADER.STATEA, .reg BOOT.HEADER.STATEB, .reg BOOT.JSEQ.JSEQ,
      .reg BOOT.UPDSTS.BUSY, .reg BOOT.UPDSTS.OWNER, .reg BOOT.UPDSTS.REASON, .reg BOOT.UPDSTS.RESTRICT,
      .reg BOOT.UPDSTS.RESULT, .reg BOOT.UPDSTS.SESSION]] := by
  refine .of_may fun s t P ht hP => ?_
  simp at hP
  refine .done ht (by simp only [hP]) ?_
  split
  · next x hx =>
    refine .ite (.refl _ _) (.ite ?_ ?_)
    · apply State.commitLand_only (.refl _ _)
      all_goals simp [hP]
    · apply State.updDone_only (.refl _ _)
      all_goals simp [hP]
  · exact .refl _ _

theorem execFuseBlowComplete_frame : Frame .fuseBlowComplete
    [[.one .boot, .one .flash, .one .freeCtr, .one .fuseGoal, .one .fuses, .one .outs, .one .retain,
      .reg BOOT.JSEQ.JSEQ, .reg BOOT.RBCTR.VALUE, .reg BOOT.UPDSTS.BUSY]] := by
  refine .of_may fun s t P ht hP => ?_
  simp at hP
  refine .done ht (by simp only [hP]) ?_
  split
  · exact .refl _ _
  · next v hv =>
    extract_lets src s1
    have h1 : Only P s.fresh s1 := ((Only.refl P s.fresh).setFuses _ (by simp only [hP])).wr _ _ (by simp [hP])
    refine .ite h1 ?_
    apply State.journal_only ((h1.setFuseGoal _ _).flag _ _ _)
    all_goals simp [hP]

theorem execMbxCaptureStart_frame (m : Fin 8) : Frame (.mbxCaptureStart m)
    [[.one (.mb m), .one .outs, .reg (MBX.CTRL.PART m)]] := by
  refine .of_may fun s t P ht hP => ?_
  simp at hP
  obtain ⟨hmb, houts, hpart⟩ := hP
  have h1 := (Only.refl P s.fresh).wr (MBX.CTRL.PART m) 0 hpart
  exact .guarded ht houts (.ite (h1.modMb _ _ hmb) (h1.modMb _ _ hmb))

section
variable {P : Part → Prop} {s t : State}

/-- What a start of the boot may write. -/
def bootSpots : List Spot :=
  [.one .boot, .one .flash, .one .freeCtr, .one .outs, .one .phase, .one .retain, .reg BOOT.BOOTCNT.BOOTNO,
    .reg BOOT.BOOTCNT.CONSEC, .reg BOOT.FAILMEM.CAL, .reg BOOT.FAILMEM.LINK, .reg BOOT.FAILMEM.NVM, .reg BOOT.FAILMEM.QID,
    .reg BOOT.FAILMEM.SLOTA, .reg BOOT.FAILMEM.SLOTB, .reg BOOT.JSEQ.JSEQ]

theorem May.startBoot (hP : May P bootSpots) (h : Only P s t) : Only P s t.startBoot := by
  simp [bootSpots] at hP
  apply State.startBoot_only h
  all_goals simp [hP]

end

theorem execResetNRelease_frame (strap : BitVec 5) : Frame (.resetNRelease strap)
    [[.one .boot, .one .flash, .one .freeCtr, .one .outs, .one .phase, .one .resetN, .one .retain, .one .strapDue,
      .reg BOOT.BOOTCNT.BOOTNO, .reg BOOT.BOOTCNT.CONSEC, .reg BOOT.FAILMEM.CAL, .reg BOOT.FAILMEM.LINK,
      .reg BOOT.FAILMEM.NVM, .reg BOOT.FAILMEM.QID, .reg BOOT.FAILMEM.SLOTA, .reg BOOT.FAILMEM.SLOTB,
      .reg BOOT.JSEQ.JSEQ, .reg SYS.STRAP.ADR, .reg SYS.STRAP.MODE]] := by
  refine .of_may fun s t P ht hP => ?_
  simp at hP
  have hboot : May P bootSpots := by simp [bootSpots, hP]
  have h1 := (Only.refl P s.fresh).setResetN false (by simp only [hP])
  refine .done ht (by simp only [hP]) (.ite ?_ h1)
  have h2 := (State.sampleStraps_only h1 strap.toNat (by simp [hP]) (by simp [hP])).setStrapDue false (by simp only [hP])
  exact .ite h2 (hboot.startBoot h2)

theorem execPowerOnResetEnd_frame (strap : BitVec 5) (vio33 : Bool) : Frame (.powerOnResetEnd strap vio33)
    [[.one .boot, .one .flash, .one .freeCtr, .one .outs, .one .phase, .one .por, .one .retain, .one .strapDue,
      .one .vioDue, .reg BOOT.BOOTCNT.BOOTNO, .reg BOOT.BOOTCNT.CONSEC, .reg BOOT.FAILMEM.CAL, .reg BOOT.FAILMEM.LINK,
      .reg BOOT.FAILMEM.NVM, .reg BOOT.FAILMEM.QID, .reg BOOT.FAILMEM.SLOTA, .reg BOOT.FAILMEM.SLOTB,
      .reg BOOT.JSEQ.JSEQ, .reg SYS.STRAP.ADR, .reg SYS.STRAP.MODE, .reg SYS.STRAP.VIO33]] := by
  refine .of_may fun s t P ht hP => ?_
  simp at hP
  have hboot : May P bootSpots := by simp [bootSpots, hP]
  refine .guarded ht (by simp only [hP]) ?_
  extract_lets src s1 s2 s3
  have h1 : Only P s.fresh s1 := (Only.refl P s.fresh).endPor (by simp only [hP]) (by simp only [hP]) (by simp only [hP])
  have h2 : Only P s.fresh s2 := .ite (h1.flag _ _ (by simp [hP])) h1
  have h3 : Only P s.fresh s3 := .ite (State.sampleStraps_only h2 _ (by simp [hP]) (by simp [hP])) h2
  exact .ite h3 (.ite (h3.setPhase _ (by simp only [hP])) (hboot.startBoot h3))

/-- VBUS of an upstream port rises above 6.0 V, while VDD_NW still supplies Nightwatch (R24, R56). -/
theorem execUpstreamVbusOvervoltage_frame (u : Fin 4) {s t : State} (hnw : s.good .vddNw = true)
    (ht : exec (.upstreamVbusOvervoltage u) s = .next t) :
    ChangesOnly ([.one .vbusHigh] :: [faultSpots]).flatten s t := by
  refine .of_only ?_
  generalize hQ : (fun p => ∃ x ∈ ([.one .vbusHigh] :: [faultSpots]).flatten, x.has p) = P
  have hP : May P ([.one .vbusHigh] :: [faultSpots]).flatten := fun x hx p hp => hQ ▸ ⟨x, hx, hp⟩
  simp at hP
  obtain ⟨hhigh, hf⟩ := hP
  refine .done ht hf.fault.outs ?_
  have h1 (l : List Nat) : Only P s.fresh { s.fresh with vbusHigh := l } := (Only.refl _ _).setVbusHigh _ hhigh
  have hup (v : State) (hv : v.low = s.low) : ¬(s.nwUp && !v.nwUp) = true := by
    simp [State.nwUp_of_vddNw (s := v) (by rw [State.good, hv]; exact hnw)]
  exact .ite_neg (hup _ rfl) (.ite (State.record_only (h1 _) _ _ hf.fault) (h1 _))

end Sys2Proof.Machine
end

section
/-! PROOFS. Frames of relayed packets. -/

namespace Sys2Proof.Machine

section
variable {P : Part → Prop} {s t : State}

end

theorem execHostSetup_frame (u : Fin 4) (adr : BitVec 7) (ep : BitVec 4) (req : BitVec 64) (crcOk : Bool) :
    Frame (.hostSetup u adr ep req crcOk)
    [faultSpots, [.one .rescue, .reg (SWX.CNTA.BADTAIL u), .reg (UPS.EVT.CONFIG u)]] := by
  refine .of_fault fun s t P ht hf hP => ?_
  have hF := hf.fault
  simp at hP
  obtain ⟨hresc, hbad, hconfig⟩ := hP
  have h0 : Only P s s.fresh := (Only.refl _ _).fresh hF.outs
  have hown := State.ownSetup_only h0 u (Setup.ofBits req) hF hconfig hresc
  refine .doneTail ht (.ite (.ite hown (h0.emit _ hF.outs)) (.ite (.ite hown (h0.emit _ hF.outs)) ?_))
  exact State.relaySetup_only h0 _ _ _ _ _ hF hbad

theorem execHostOut_frame (u : Fin 4) (adr : BitVec 7) (ep : BitVec 4) (tog : Bool) (bytes : List Byte) :
    Frame (.hostOut u adr ep tog bytes) [faultSpots, [.reg (SWX.CNTB.ADMNAK u)]] := by
  refine .of_fault fun s t P ht hf hP => .done ht hf.fault.outs ?_
  simp at hP
  exact .ite (State.ownOut_only (.refl _ _) _ _ hf.fault.outs) (State.relayOut_only (.refl _ _) _ _ _ _ _ hf.fault hP)

section
variable {P : Part → Prop} {s t : State} {u : Fin 4}

theorem Only.statusChangeIn (ht : execStatusChangeIn u s = .next t) (ho : P .outs) (hu : P (.up u)) : Only P s t :=
  .guarded ht ho (.ite ((Only.refl _ _).emit _ ho) (.ite (((Only.refl _ _).emit _ ho).modUp _ _ hu)
    ((Only.refl _ _).emit _ ho)))

theorem Only.statusChangeAck (ht : execStatusChangeAck u s = .next t) (ho : P .outs) (hu : P (.up u)) : Only P s t :=
  .guarded ht ho (((Only.refl _ _).forEach _ _ fun _ _ h => h.setView _ _ _ hu).modUp _ _ hu)

end

theorem execHostIn_frame (u : Fin 4) (adr : BitVec 7) (ep : BitVec 4) (acked : Bool) :
    Frame (.hostIn u adr ep acked) [faultSpots, [.reg (SWX.CNTC.NOSLOT u)]] := by
  refine .of_fault fun s t P ht hf hP => ?_
  have ho := hf.fault.outs
  have hu := hf.fault.up u
  simp at hP
  change execHostIn u adr ep acked s = .next t at ht
  unfold execHostIn at ht
  split at ht
  · split at ht
    · split at ht
      · next a ha =>
        have h1 : Only P s a := .statusChangeIn ha ho hu
        split at ht
        · split at ht
          · next v hv => exact .doneTail ht ((h1.trans (.statusChangeAck hv ho hu)).setOuts _ ho)
          · next hno => exact absurd ht (hno t)
        · exact Host.Outcome.next.inj ht ▸ h1
      · next hno => exact absurd ht (hno t)
    · exact .done ht ho ((Only.refl _ _).emit _ ho)
  · exact .done ht ho (State.relayIn_only (.refl _ _) _ _ _ _ hf.fault hP)

theorem execHostIsoIn_frame (u : Fin 4) (adr : BitVec 7) (ep : BitVec 4) : Frame (.hostIsoIn u adr ep)
    [faultSpots, [.reg (SWX.CNTC.NOSLOT u)]] := by
  refine .of_fault fun s t P ht hf hP => .done ht hf.fault.outs ?_
  have hF := hf.fault
  have ho := hF.outs
  simp at hP
  simp [faultSpots, poolSpots, downFields, hubFields, chgFields, rosterFields, bookSpots] at hf
  refine .ite ((Only.refl _ _).emit _ ho) (State.relay_only (.refl _ _) _ _ _ (fun v n hv => .ite (hv.emit _ ho) ?_) ho)
  extract_lets s1
  have h1 : Only P s.fresh s1 := State.modSlot_only hv _ _ _ _ (hF.port n)
  split
  · exact (h1.bump _ _ hP).emit _ ho
  · refine State.askIn_only ?_ _ _ _ _ hF
    split
    · apply State.dropHeld_only (State.modSlot_only (h1.emit _ ho) _ _ _ _ (hF.port n))
      all_goals simp [hf]
    · exact h1.emit _ ho

theorem execHostIsoOut_frame (u : Fin 4) (adr : BitVec 7) (ep : BitVec 4) (pid : Fin 4) (bytes : List Byte)
    (crcOk : Bool) : Frame (.hostIsoOut u adr ep pid bytes crcOk)
    [faultSpots, [.reg (SWX.CNTA.BADTAIL u), .reg (SWX.CNTC.ISODROP u)]] := by
  refine .of_fault fun s t P ht hf hP => .done ht hf.fault.outs ?_
  have hF := hf.fault
  have ho := hF.outs
  simp at hP
  obtain ⟨hbad, hdrop⟩ := hP
  simp [faultSpots, poolSpots, downFields, hubFields, chgFields, rosterFields, bookSpots] at hf
  refine .ite ((Only.refl _ _).emit _ ho) (State.relay_only (.refl _ _) _ _ _ (fun v n hv => ?_) ho)
  refine .ite (hv.bump _ _ hdrop) (.ite (.bump (.bump ?_ _ _ hdrop) _ _ hbad) ?_)
  · apply State.iqThrough_only hv
    all_goals simp [hf]
  · extract_lets id s1
    have h1 : Only P s.fresh s1 := State.begin_only hv _ _ _ _ _ _ _ _ _ hF
    split
    · apply State.trim_only h1
      all_goals simp [hf]
    · exact h1

theorem execFabricBeat_frame (id : Nat) (out : Fin 53) : Frame (.fabricBeat id out) [faultSpots] := by
  refine .of_fault fun s t P ht hf _ => .done ht hf.fault.outs ?_
  have hF := hf.fault
  simp [faultSpots, poolSpots, downFields, hubFields, chgFields, rosterFields, bookSpots] at hf
  split
  · exact .refl _ _
  · next p hp =>
    refine .ite (.refl _ _) (.ite (.ite ?_ (.refl _ _)) (.ite (.refl _ _) ?_))
    · apply State.copyBeat_only (.refl _ _)
      all_goals simp [hf]
    · refine State.record_only (hF.edge ?_ _) _ _ hF
      apply State.voidPkt_only (.refl _ _)
      all_goals simp [hf]

theorem execPacketTail_frame (id : Nat) (crcOk : Bool) : Frame (.packetTail id crcOk)
    [faultSpots, [.regs SWX.CNTA.BADTAIL, .regs SWX.CNTB.ADMNAK]] := by
  refine .of_fault fun s t P ht hf hP => .done ht hf.fault.outs ?_
  have hF := hf.fault
  have ho := hF.outs
  simp at hP
  obtain ⟨hbad, hnak⟩ := hP
  simp [faultSpots, poolSpots, downFields, hubFields, chgFields, rosterFields, bookSpots] at hf
  split
  · exact .refl _ _
  · next p hp =>
    have h0 : Only P s.fresh (s.fresh.modPkt id fun x => { x with tail := .good }) :=
      State.modPkt_only (.refl _ _) _ _ (by simp [hf])
    refine .ite (.refl _ _) (.ite ?_ (.ite (State.voidTail_only (.refl _ _) _ _ hF hbad) ?_))
    · apply State.dropPkt_only (State.produce_only h0 _ hF)
      all_goals simp [hf]
    · extract_lets s1 s2
      have h1 : Only P s.fresh s1 := by
        apply State.fallSettle_only (State.produce_only (State.trim_only h0 _ _ _ _ _) _ hF)
        all_goals simp [hf]
      have h2 : Only P s.fresh s2 := .ite (h1.modUp _ _ (hF.up _)) h1
      refine .ite ?_ (.ite ((h2.bump _ _ (hnak _)).emit _ ho) (h2.emit _ ho))
      split
      · exact .ite h1 (h1.emit _ ho)
      · exact h1

theorem execDownstreamInResponse_frame (n : Fin 48) (adr : BitVec 7) (ep : BitVec 4) (d : Dev) :
    Frame (.downstreamInResponse n adr ep d) [faultSpots] := by
  refine .of_fault fun s t P ht hf _ => ?_
  have hF := hf.fault
  have h0 : Only P s s.fresh := (Only.refl _ _).fresh hF.outs
  simp [faultSpots, poolSpots, downFields, hubFields, chgFields, rosterFields, bookSpots] at hf
  have hempty (p : Pkt) (g : Slot → Slot) : Only P s (s.fresh.inEmpty n p g) := by
    apply State.inEmpty_only h0
    all_goals simp [hf]
  refine .doneTail ht ?_
  split
  · exact h0
  · next p hp =>
    split
    · exact State.produce_only (State.modPkt_only h0 _ _ (by simp [hf])) _ hF
    · exact hempty _ _
    · exact hempty _ _
    · exact hempty _ _

end Sys2Proof.Machine
end

section
/-! PROOFS. Frames of Lodestar, of memory errors and of restarts and handovers. -/

namespace Sys2Proof.Machine

theorem execLdsControlComplete_frame (n : Fin 48) (d : Dev) : Frame (.ldsControlComplete n d)
    [poolSpots, Spot.at hubFields n, Spot.at rosterFields n,
      [.one .freeCtr, .all .port, .all .up, .reg LDS.CHG0.P00_P31, .reg LDS.CHG1.P32_P47, .reg LDS.CNT0.ENUMFAIL,
        .reg (PKM.IQPTR.WPTR 52), .reg (PKM.IQPTR.WPTR n), .reg (PRT.HUBSTS.HIGHSPD n), .reg (PRT.MTRCNT.DATAHIT n),
        .reg (PRT.MTRCNT.NAKHIT n), .reg (PRT.MTRSTS.STRANDED n), .reg (PRT.MTRSTS.WITHDRAWN n),
        .reg (PRT.QSTS.STOPPED n), .reg (SWX.CNTA.BADTAIL (cntIdx 4)), .regs SWX.CNTA.STALE, .regs SWX.CNTB.RLYWD]] := by
  refine .of_may fun s t P ht hP => ?_
  simp [poolSpots, hubFields, rosterFields] at hP
  have hbad (u : State) (stall : Bool) (hu : Only P s.fresh u) : Only P s.fresh (u.ldsBad n stall) := by
    apply State.ldsBad_only hu
    all_goals simp [hP]
  refine .done ht (by simp only [hP]) (.ite (.refl _ _) ?_)
  split
  · apply State.ldsData_only (State.iqPass_only (.refl _ _) _ _ _ _ _)
    all_goals simp [hP]
  · apply State.ldsAck_only (.refl _ _)
    all_goals simp [hP]
  · exact hbad _ _ (.refl _ _)
  · exact hbad _ _ (State.badIn_only (.refl _ _) _ (by simp [hP]) (by simp [hP]))
  · exact .refl _ _

theorem execLdsRequestTimeout_frame (n : Fin 48) : Frame (.ldsRequestTimeout n)
    [poolSpots, Spot.at hubFields n, Spot.at rosterFields n,
      [.one .freeCtr, .all .port, .all .up, .reg LDS.CHG0.P00_P31, .reg LDS.CHG1.P32_P47, .reg LDS.CNT0.ENUMFAIL,
        .reg LDS.CNT1.CTLTMO, .reg (PKM.IQPTR.WPTR 52), .reg (PRT.HUBSTS.HIGHSPD n), .reg (PRT.MTRCNT.DATAHIT n),
        .reg (PRT.MTRCNT.NAKHIT n), .reg (PRT.MTRSTS.STRANDED n), .reg (PRT.MTRSTS.WITHDRAWN n),
        .reg (PRT.QSTS.STOPPED n), .regs SWX.CNTA.STALE, .regs SWX.CNTB.RLYWD]] := by
  refine .of_may fun s t P ht hP => ?_
  simp [poolSpots, hubFields, rosterFields] at hP
  refine .guarded ht (by simp only [hP]) ?_
  apply State.ldsBad_only ((Only.refl _ _).bump _ _ _)
  all_goals simp [hP]

theorem execLdsRecordDelayEnd_frame (n : Fin 48) : Frame (.ldsRecordDelayEnd n)
    [Spot.at rosterFields n, [.one .edgeDue, .one .freeCtr, .one .outs, .one (.port n), .one .sw,
      .reg LDS.CHG0.P00_P31, .reg LDS.CHG1.P32_P47, .reg (PKM.IQPTR.RPTR 52), .reg (PKM.IQPTR.WPTR 52),
      .reg (SWX.CNTA.STALE 4)]] := by
  refine .of_may fun s t P ht hP => ?_
  simp [rosterFields] at hP
  refine .guarded ht (by simp only [hP]) ?_
  apply State.ldsRecord_only (.refl _ _)
  all_goals simp [hP]

theorem execUncorrectableError_frame (line : Sys2Proof.ErrLine) (at_ : Sys2Proof.ErrAt) :
    Frame (.uncorrectableError line at_)
    [poolSpots, Spot.each hubFields, Spot.each rosterFields,
      [.one .freeCtr, .one .icuTimer, .all .port, .all .up, .reg (ICU.SRC_STS.LOST 4), .reg (ICU.SRC_STS.LOSTCNT 4),
        .reg (ICU.SRC_STS.PEND 4), .regs ICU.TSTAT.HELD, .regs ICU.TSTAT.LINE, .reg LDS.CHG0.P00_P31,
        .reg LDS.CHG1.P32_P47, .reg LDS.CNT0.ENUMFAIL, .reg PKM.ECCCNT.NOFENCE, .reg PKM.ECCCNT.UNCORR,
        .reg PKM.FENCE.PEND, .reg (PKM.IQPTR.WPTR 52), .reg PKM.PNOTE0.P00_P31, .reg PKM.PNOTE1.P32_P47,
        .regs PRT.HUBSTS.HIGHSPD, .regs PRT.MTRCNT.DATAHIT, .regs PRT.MTRCNT.NAKHIT, .regs PRT.MTRSTS.STRANDED,
        .regs PRT.MTRSTS.WITHDRAWN, .regs PRT.QSTS.STOPPED, .regs SWX.CNTA.STALE, .regs SWX.CNTB.RLYWD]] := by
  refine .of_may fun s t P ht hP => ?_
  simp [poolSpots, hubFields, rosterFields] at hP
  have h1 : Only P s.fresh (((s.fresh.errAt at_).bump PKM.ECCCNT.UNCORR).edge 4) := by
    have h0 : Only P s.fresh (s.fresh.errAt at_) := by
      apply State.errAt_only (.refl _ _)
      all_goals simp [hP]
    apply State.edge_only (h0.bump _ _ _)
    all_goals simp [hP]
  refine .done ht (by simp only [hP]) (.ite ?_ ?_)
  · exact State.pnote_only h1 _ (by simp [hP]) (by simp [hP])
  · exact State.pnote_only (State.listLine_only h1 _ _ (by simp [hP]) (by simp [hP]) (by simp [hP])) _ (by simp [hP])
      (by simp [hP])

theorem execPortRestartEnd_frame (n : Fin 48) : Frame (.portRestartEnd n)
    [poolSpots, Spot.at hubFields n, Spot.at rosterFields n, bookSpots,
      [.one .copies, .one .freeCtr, .any (fun _ => portImageFields n), .all .port, .all .up, .reg LDS.CHG0.P00_P31,
        .reg LDS.CHG1.P32_P47, .reg (PRT.ALTMUX.ACTIVE n), .regs PRT.ALTMUX.QBUSY, .regs PRT.ALTMUX.QHOLD,
        .reg (PRT.FUSEVT.PGOFF n), .reg (PRT.FUSSTS.FOLD n), .reg (PRT.FUSSTS.GATEON n), .reg (PRT.FUSSTS.LIMIT n),
        .reg (PRT.FUSSTS.PG n), .reg (PRT.HUBSTS.CONNECTION n), .reg (PRT.HUBSTS.HIGHSPD n), .reg (PRT.HUBSTS.LOWSPD n),
        .reg (PRT.HUBSTS.OVERCUR n), .reg (PRT.HUBSTS.POWER n), .reg (PRT.MTRCNT.DATAHIT n), .reg (PRT.MTRCNT.NAKHIT n),
        .reg (PRT.MTRSTS.STRANDED n), .reg (PRT.MTRSTS.WITHDRAWN n), .reg (PRT.PDSTS.ALTMODE n), .reg (PRT.PDSTS.EVT n),
        .reg (PRT.PDSTS.EXPLICIT n), .reg (PRT.PDSTS.OBJPOS n), .reg (PRT.PDSTS.OPCURR n), .reg (PRT.PDSTS.PWRROLE n),
        .reg (PRT.PDSTS.VCSRC n), .reg (PRT.PDSTS.VSEL n), .reg (PRT.QSTS.STOPPED n), .reg (PRT.TCEVT.OOS n),
        .reg (PRT.TCEVT.WETOUT n), .reg (PRT.TCSTS.MOISTOK n), .reg (PRT.TCSTS.OOS n), .reg (PRT.TCSTS.ORIENT n),
        .reg (PRT.TCSTS.RPADV n), .reg (PRT.TCSTS.TCSTATE n), .reg (PRT.TCSTS.WET n), .reg (PRT.TCSTS.WETGND n),
        .reg (PRT.TCSTS.WETPIN n), .reg (PRT.TCSTS.WETVBUS n), .reg (PRT.VCONN.ON n), .reg (PWR.PALLOW.SHED n),
        .reg (PWR.PALLOW.WAIT n), .reg (PWR.PBOOK.COMMIT n), .reg (PWR.PBOOK.CONTRACT n), .regs SWX.CNTA.STALE,
        .regs SWX.CNTB.RLYWD]] := by
  refine .of_may fun s t P ht hP => ?_
  simp [poolSpots, hubFields, rosterFields, bookSpots] at hP
  have himage : ∀ f ∈ portImageFields n, P (.field f.key) := by simpa [hP] using hP
  refine .guarded ht (by simp only [hP]) ?_
  extract_lets s1 s2
  have h1 : Only P s.fresh s1 := by
    refine .modPort ?_ _ _ (by simp [hP])
    apply State.ttReset_only (State.portToImage_only (.refl _ _) _ _ himage _)
    all_goals simp [hP]
  have h2 : Only P s.fresh s2 := .ite (h1.setView _ _ _ (by simp [hP])) h1
  apply State.evalDemand_only (State.handoverRelease_only h2 _ _)
  all_goals simp [hP]

theorem execEngineRestartComplete_frame (e : Fin 11) : Frame (.engineRestartComplete e)
    [poolSpots, Spot.each hubFields, Spot.each rosterFields, bookSpots,
      [.one .boot, .one .copies, .one .flash, .one .freeCtr, .all .port, .one .retain, .one .stopped, .all .up, .one .upd,
        .reg BOOT.JSEQ.JSEQ, .reg LDS.CHG0.P00_P31, .reg LDS.CHG1.P32_P47, .regs PRT.ALTMUX.ACTIVE,
        .regs PRT.ALTMUX.NAKCNT, .regs PRT.ALTMUX.QBUSY, .regs PRT.ALTMUX.QHOLD, .regs PRT.HUBSTS.HIGHSPD,
        .regs PRT.HUBSTS.TESTSEL, .regs PRT.IBUSMEAS.ISET, .regs PRT.MTRCNT.DATAHIT, .regs PRT.MTRCNT.NAKHIT,
        .regs PRT.MTRSTS.STRANDED, .regs PRT.MTRSTS.WITHDRAWN, .regs PRT.OWNER.OWN, .regs PRT.OWNER.STATE,
        .regs PRT.PDCNT.HRRCVD, .regs PRT.PDCNT.HRSENT, .regs PRT.PDCNT.REJECTS, .regs PRT.PDSTS.ALTMODE,
        .regs PRT.PDSTS.CABLE, .regs PRT.PDSTS.EVT, .regs PRT.PDSTS.EXPLICIT, .regs PRT.PDSTS.OBJPOS,
        .regs PRT.PDSTS.OPCURR, .regs PRT.PDSTS.REV, .regs PRT.PDSTS.VCSRC, .regs PRT.PDSTS.VSEL, .regs PRT.QSTS.STOPPED,
        .regs PRT.TCSTS.LEAKMIN, .regs PRT.TCSTS.MOISTOK, .regs PRT.TCSTS.RPADV, .regs PRT.VCONN.ON, .regs PRT.VCONN.PIN,
        .regs PRT.VCONN.SWAPCNT, .reg PWR.CNT.REJECTS, .regs PWR.PBOOK.COMMIT, .regs PWR.PBOOK.CONTRACT,
        .reg (SEC.STS.PCRUN (e - 4)), .reg (SEC.STS.SERUN e), .regs SWX.CNTA.STALE, .regs SWX.CNTB.RLYWD]] := by
  refine .of_may fun s t P ht hP => ?_
  simp [poolSpots, hubFields, rosterFields, bookSpots] at hP
  refine .guarded ht (by simp only [hP]) ?_
  extract_lets s1
  have h1 : Only P s.fresh s1 := State.engineRun_only (.refl _ _) _ (by simp [hP]) (by simp [hP]) (by simp only [hP])
  have hretry (u : State) (n : Nat) (hu : Only P s.fresh u) : Only P s.fresh (u.tryApply n) :=
    State.tryApply_only hu _ (by simp [hP]) (by simp [hP]) (by simp [hP])
  refine .ite (.forEach ?_ _ _ fun u n hu => hretry u n hu) (.ite (h1.forEach _ _ fun u n hu => hretry _ n ?_)
    (.ite (h1.forEach _ _ fun u n hu => ?_) (.ite ?_ h1)))
  · apply State.pe1Return_only h1
    all_goals simp [hP]
  · have hrun : Only P s.fresh (u.hresetRun n) := by
      apply State.hresetRun_only hu
      all_goals simp [hP]
    apply State.deliverStored_only hrun
    all_goals simp [hP]
  · apply State.hubReplay_only hu
    all_goals simp [hP]
  · have hwake : Only P s.fresh s1.updWake := by
      apply State.updWake_only h1
      all_goals simp [hP]
    apply State.ldsReturn_only hwake
    all_goals simp [hP]

theorem execGetDescriptor_frame (u : Fin 4) (wValue wIndex wLength : BitVec 16) :
    Frame (.getDescriptor u wValue wIndex wLength) [ep0Spots u, [.one .rescue]] := by
  refine .of_may fun s t P ht hP => ?_
  simp [ep0Spots] at hP
  refine .done ht (by simp only [hP]) ?_
  apply State.getDesc_only (.refl _ _)
  all_goals simp [hP]

theorem execHandoverReleasing_frame (n : Fin 48) : Frame (.handoverReleasing n)
    [poolSpots, Spot.at hubFields n, Spot.at rosterFields n,
      [.one .copies, .one .freeCtr, .all .port, .all .up, .reg LDS.CHG0.P00_P31, .reg LDS.CHG1.P32_P47,
        .reg (PRT.MTRCNT.DATAHIT n), .reg (PRT.MTRCNT.NAKHIT n), .reg (PRT.MTRSTS.STRANDED n),
        .reg (PRT.MTRSTS.WITHDRAWN n), .reg (PRT.OWNER.LASTBY n), .reg (PRT.OWNER.LASTRES n), .reg (PRT.OWNER.NEXT n),
        .reg (PRT.OWNER.OWN n), .reg (PRT.OWNER.STATE n), .reg (PRT.QSTS.STOPPED n), .regs SWX.CNTA.STALE,
        .regs SWX.CNTB.RLYWD, .reg SWX.GEN.GEN0, .reg SWX.GEN.GEN1, .reg SWX.GEN.GEN2, .reg SWX.GEN.GEN3,
        .tab SWX.RT.GEN, .tab SWX.RT.HSDEV, .tab SWX.RT.PORT, .tab SWX.RT.VALID]] := by
  refine .of_may fun s t P ht hP => ?_
  simp [poolSpots, hubFields, rosterFields] at hP
  refine .done ht (by simp only [hP]) ?_
  split
  · exact .refl _ _
  · next tgt code hreq =>
    refine .ite (.refl _ _) ?_
    extract_lets s1
    have h1 : Only P s.fresh s1 := by
      apply State.toReleasing_only (.refl _ _)
      all_goals simp [hP]
    refine .ite (.modPort ?_ _ _ (by simp [hP])) h1
    apply State.toTransit_only h1
    all_goals simp [hP]

end Sys2Proof.Machine
end

section
/-! PROOFS. Frames of the writes and reads of one word. -/

namespace Sys2Proof.Machine

section
variable {P : Part → Prop} {s t : State}

/-! ## Writes of one word -/

theorem May.writePre {r : Requester} {a : Nat} (h : May P (writeSpots r a)) : WritePre P r a := by
  unfold writeSpots at h
  rw [May.append, May.append] at h
  obtain ⟨⟨hreject, hown⟩, hword⟩ := h
  simp at hown
  obtain ⟨hoff, hcopies, hdusk⟩ := hown
  exact ⟨hreject, hoff, hcopies, hdusk, fun f hf => hword _ (List.mem_map_of_mem hf) _ rfl⟩

/-- The frame of a write of one word, from the frame of the word's own effect. -/
theorem Frame.of_write {c : Sys2Proof.Instr} {r : Requester} {a v : Nat} {l : List (List Spot)}
    (hc : ∀ s, exec c s = s.write1 r a v none) (hp : placeOf a = .word a none)
    (he : ∀ (s u : State) (P : Part → Prop) (old : Nat), May P (writeSpots r a) → May P l.flatten → Only P s u →
      Only P s (u.wordEffect r a v old none)) : Frame c (writeSpots r a :: l) :=
  .of_may fun s t P ht hP => by
    obtain ⟨hw, hl⟩ := May.append.mp hP
    exact State.write1_only r a v none hw.writePre hp (fun u old hu => he s u P old hw hl hu) t ((hc s).symm.trans ht)

theorem placeOf_word {a : Nat} (h : a < 0x400000) : placeOf a = .word a none := by
  rw [placeOf, if_pos h]

section
variable (u : State) {r : Requester} {a v old o k : Nat}

theorem State.wordEffect_prt (hf : faultWord a = none) (hb : blockOf a = some (.prt k, o)) :
    u.wordEffect r a v old none = u.prtEffect r k o v old := by
  simp only [State.wordEffect, hf, hb]

theorem State.wordEffect_icu (hf : faultWord a = none) (hb : blockOf a = some (.icu, o)) :
    u.wordEffect r a v old none = u.icuEffect o v old := by
  simp only [State.wordEffect, hf, hb]

theorem State.wordEffect_boot (hf : faultWord a = none) (hb : blockOf a = some (.boot, o)) :
    u.wordEffect r a v old none = u.bootEffect r o v := by
  simp only [State.wordEffect, hf, hb]

/-- A write of FLTACK without CLRLATCH. -/
theorem State.wordEffect_fltack {b : FBlk} (hf : faultWord a = some (b, 3))
    (hclr : pulses v (FLT.FLTACK.CLRLATCH b) = false) :
    u.wordEffect r a v old none = if pulses v (FLT.FLTACK.ACK b) then u.ackEffect b else u := by
  simp [State.wordEffect, hf, hclr]

end

/-! ## A port restart -/

theorem State.dropChanges_only (h : Only P s t) (n : Nat) (h1 : P (.port n))
    (h2 : P (.field (PRT.HUBCHG.C_CONNECTION n).key)) (h3 : P (.field (PRT.HUBCHG.C_ENABLE n).key))
    (h4 : P (.field (PRT.HUBCHG.C_SUSPEND n).key)) (h5 : P (.field (PRT.HUBCHG.C_OVERCUR n).key))
    (h6 : P (.field (PRT.HUBCHG.C_RESET n).key)) : Only P s (t.dropChanges n) :=
  (((((h.wr _ _ h2).wr _ _ h3).wr _ _ h4).wr _ _ h5).wr _ _ h6).modPort _ _ h1

section
variable (hf : May P faultSpots)
include hf

theorem May.evalDemand (h : Only P s t) (n : Nat) : Only P s (t.evalDemand n) := by
  simp [faultSpots, poolSpots, downFields, hubFields, chgFields, rosterFields, bookSpots] at hf
  apply State.evalDemand_only h
  all_goals simp [hf]

theorem May.portRestart (h : Only P s t) (n : Nat) : Only P s (t.portRestart n) := by
  simp [faultSpots, poolSpots, downFields, hubFields, chgFields, rosterFields, bookSpots] at hf
  unfold State.portRestart
  extract_lets u had s1 s2
  have hu : Only P s u := by
    apply State.dropChanges_only h
    all_goals simp [hf]
  have h1 : Only P s s1 := by
    refine .ite ?_ ?_
    · apply State.demandFall_only hu
      all_goals simp [hf]
    · have hdrop : Only P s (u.dropPower n) := by
        apply State.dropPower_only hu
        all_goals simp [hf]
      apply State.discharge_only hdrop
      all_goals simp [hf]
  have htt : Only P s (s1.ttAndAlmanac n false true) := by
    apply State.ttAndAlmanac_only h1
    all_goals simp [hf]
  have hq : Only P s ((s1.ttAndAlmanac n false true).queueReset n) := by
    apply State.queueReset_only htt
    all_goals simp [hf]
  have h2 : Only P s s2 := by
    apply State.handoverRestart_only hq
    all_goals simp [hf]
  refine .modPort ?_ _ _ (by simp [hf])
  apply State.setHub_only h2
  all_goals simp [hf]

theorem May.prstrtEffect (h : Only P s t) (n : Nat) : Only P s (t.prstrtEffect n) :=
  hf.portRestart (State.record_only h _ _ hf.fault) n

end
end

/-! ## Writes of a port's CTL word -/

theorem faultWord_eq_none {a : Nat} (h : ∀ b : FBlk, ¬(b.base ≤ a ∧ a < b.base + 24)) : faultWord a = none := by
  rw [faultWord, Option.map_eq_none_iff, List.find?_eq_none]
  intro b _
  simpa using h b

theorem faultWord_prtCtl (n : Fin 48) : faultWord (0x10008 + 0x400 * n) = none := by
  refine faultWord_eq_none fun b => ?_
  cases b <;> simp only [FBlk.base] <;> omega

theorem blockOf_prtCtl (n : Fin 48) : blockOf (0x10008 + 0x400 * n) = some (Blk.prt n, 8) := by
  have hn : (0x10008 + 0x400 * n.val - 0x10000) / 0x400 = n.val := by omega
  have ho : (0x10008 + 0x400 * n.val - 0x10000) % 0x400 = 8 := by omega
  simp (disch := omega) only [blockOf, if_neg, if_pos, hn, ho]

/-- What a write of a port's CTL word may do: the demand is evaluated anew, and a port restart (R163, R165). -/
theorem May.prtCtl {P : Part → Prop} {s u : State} (hf : May P faultSpots) {r : Requester} (n : Fin 48) (v old : Nat)
    (h : Only P s u) : Only P s (u.wordEffect r (0x10008 + 0x400 * n) v old none) := by
  rw [State.wordEffect_prt _ (faultWord_prtCtl n) (blockOf_prtCtl n)]
  simp only [State.prtEffect, if_pos]
  have h1 := Only.ite (c := inWord old (PRT.CTL.OOS n) ≠ u.rd (PRT.CTL.OOS n)) (hf.evalDemand h n) h
  exact .ite (hf.prstrtEffect h1 n) h1

theorem execPrstrt_frame (r : Requester) (n : Fin 48) (w : Word) :
    Frame (.prstrt r n w) [writeSpots r (0x10008 + 0x400 * n), faultSpots] := by
  refine .of_write (fun _ => rfl) (placeOf_word (by omega)) fun s u P old _ hf hu => ?_
  rw [List.flatten_singleton] at hf
  exact hf.prtCtl n _ old hu

theorem execOosWrite_frame (r : Requester) (n : Fin 48) (w : Word) :
    Frame (.oosWrite r n w) [writeSpots r (0x10008 + 0x400 * n), faultSpots] := by
  refine .of_write (fun _ => rfl) (placeOf_word (by omega)) fun s u P old _ hf hu => ?_
  rw [List.flatten_singleton] at hf
  exact hf.prtCtl n _ old hu

/-! ## Writes of DONE and of FLTACK -/

theorem faultWord_icuDone (t : Fin 13) : faultWord (0x5004 + 0x40 * t) = none := by
  refine faultWord_eq_none fun b => ?_
  cases b <;> simp only [FBlk.base] <;> omega

theorem blockOf_icuDone (t : Fin 13) : blockOf (0x5004 + 0x40 * t) = some (Blk.icu, 0x1004 + 0x40 * t.val) := by
  have ho : 0x5004 + 0x40 * t.val - 0x4000 = 0x1004 + 0x40 * t.val := by omega
  simp (disch := omega) only [blockOf, if_neg, if_pos, ho]

theorem State.icuEffect_done (u : State) (t : Fin 13) (v old : Nat) :
    u.icuEffect (0x1004 + 0x40 * t) v old = u.doneEffect t (inWord v (ICU.DONE.SRC t)) := by
  have hsrc : ¬0x1004 + 0x40 * t.val < 0x1000 := by omega
  have hctl : ¬0x1004 + 0x40 * t.val = 0x1800 := by omega
  have hoff : (0x1004 + 0x40 * t.val) % 0x40 = 4 := by omega
  have ht : (0x1004 + 0x40 * t.val - 0x1000) / 0x40 = t.val := by omega
  simp only [State.icuEffect, if_neg hsrc, if_neg hctl, hoff, ht, if_pos]

theorem execIcuDone_frame (r : Requester) (t : Fin 13) (w : Word) : Frame (.icuDone r t w)
    [writeSpots r (0x5004 + 0x40 * t), faultSpots, [.reg (ICU.TCNT.ORDCNT t)]] := by
  refine .of_write (fun _ => rfl) (placeOf_word (by omega)) fun s u P old _ hP hu => ?_
  obtain ⟨hf, hord⟩ := May.append.mp hP
  simp at hord
  rw [State.wordEffect_icu _ (faultWord_icuDone t) (blockOf_icuDone t), State.icuEffect_done]
  exact State.doneEffect_only hu _ _ hf.fault hord

theorem faultWord_fltack : ∀ b : Fin 74, faultWord ((FBlk.ofIdx b).base + 12) = some (FBlk.ofIdx b, 3) := by
  decide +kernel

theorem FBlk.base_lt (b : FBlk) : b.base < 0x20000 := by
  cases b <;> simp only [FBlk.base] <;> omega

theorem bitAt_withBit_zero (v : Nat) (h : bitAt v 1 = false) : bitAt (withBit v 0 true) 1 = false := by
  unfold withBit
  split
  · rwa [if_pos rfl]
  · next h0 =>
    rw [if_pos rfl]
    simp only [bitAt, beq_iff_eq, beq_eq_false_iff_ne, ne_eq] at h h0 ⊢
    omega

theorem pulses_clrlatch (v : Nat) (b : FBlk) : pulses v (FLT.FLTACK.CLRLATCH b) = bitAt v 1 := by
  have hlt : v / 2 ^ 1 % 2 ^ 1 < 2 := Nat.mod_lt _ (by omega)
  simp only [pulses, inWord, FLT.FLTACK.CLRLATCH, bitsOf, bitAt]
  rw [Bool.eq_iff_iff, bne_iff_ne, beq_iff_eq]
  omega

theorem execFltackAck_frame (r : Requester) (b : Fin 74) (w : Word) (hw : bitAt w.toNat 1 = false) :
    Frame (.fltackAck r b w) [writeSpots r ((FBlk.ofIdx b).base + 12),
      [.one (.flt (FBlk.ofIdx b).idx), .reg (FLT.FLTTIMERS.STATE (FBlk.ofIdx b))]] := by
  refine .of_write (fun _ => rfl) (placeOf_word ?_) fun s u P old _ hP hu => ?_
  · have hlt := (FBlk.ofIdx b).base_lt
    omega
  simp at hP
  obtain ⟨hflt, hstate⟩ := hP
  have hclr : pulses (withBit w.toNat 0 true) (FLT.FLTACK.CLRLATCH (FBlk.ofIdx b)) = false := by
    rw [pulses_clrlatch, bitAt_withBit_zero _ hw]
  rw [State.wordEffect_fltack _ (faultWord_fltack b) hclr]
  exact .ite (State.ackEffect_only hu _ hflt hstate) hu

/-! ## Update commands -/

section
variable {P : Part → Prop} {s t : State}

theorem Only.updWake_of {x : UpdX} (hx : t.upd = some x) (h : Only P s t) (hb : Only P s (t.updBegin x)) :
    Only P s t.updWake := by
  unfold State.updWake
  rw [hx]
  exact .ite hb h

/-- A command of the update port: its request's fields, and what its beginning may change. -/
theorem Only.updStart (h : Only P s t) (cmd slot code : Nat) (hupd : P .upd) (hbusy : P (.field BOOT.UPDSTS.BUSY.key))
    (hopen : cmd = 1 → P (.field BOOT.UPDSTS.OWNER.key) ∧ P (.field BOOT.UPDSTS.TARGET.key))
    (hprogram : cmd = 3 → P (.field BOOT.UPDSTS.SESSION.key))
    (hbegin : ∀ v x, x.cmd = cmd → Only P s v → Only P s (v.updBegin x)) : Only P s (t.updStart cmd slot code) := by
  unfold State.updStart
  extract_lets tgt s1 s2
  have h1 : Only P s s1 := h.raise _ hbusy
  have h2 : Only P s s2 := by
    unfold s2
    split
    · next hc => exact (h1.wr _ _ (hopen hc).1).wr _ _ (hopen hc).2
    · split
      · next hc => exact h1.wr _ _ (hprogram hc)
      · exact h1
  have h3 := h2.setUpd (some ⟨cmd, tgt, t.rd BOOT.UPDLEN.LEN, 0, 0, some 0, false, true, false⟩) hupd
  exact .updWake_of rfl h3 (hbegin _ _ rfl h3)

end

theorem faultWord_updcmd : faultWord 0x1020 = none := by
  refine faultWord_eq_none fun b => ?_
  cases b <;> simp only [FBlk.base] <;> omega

theorem State.wordEffect_updcmd (u : State) (r : Requester) {v cmd : Nat} (old : Nat)
    (hc : inWord v BOOT.UPDCMD.CMD = cmd + 1) : u.wordEffect r 0x1020 v old none =
      u.updStart (cmd + 1) (inWord v BOOT.UPDCMD.SLOT) r.code := by
  have hb : blockOf 0x1020 = some (.boot, 0x20) := rfl
  rw [State.wordEffect_boot _ faultWord_updcmd hb]
  simp [State.bootEffect, hc]

theorem execUpdcmdOpen_frame (r : Requester) (slot : Bool) : Frame (.updcmdOpen r slot)
    [writeSpots r 0x1020, [.one .boot, .one .flash, .one .freeCtr, .one .outs, .one .retain, .one .upd,
      .reg BOOT.JSEQ.JSEQ, .reg BOOT.UPDSTS.BUSY, .reg BOOT.UPDSTS.OWNER, .reg BOOT.UPDSTS.TARGET]] := by
  refine .of_write (fun _ => rfl) (placeOf_word (by omega)) fun s u P old _ hP hu => ?_
  simp at hP
  rw [State.wordEffect_updcmd (cmd := 0) _ _ _ (by cases slot <;> rfl)]
  refine hu.updStart _ _ _ (by simp only [hP]) (by simp [hP]) (fun _ => by simp [hP]) nofun fun v x hx hv => ?_
  simp only [State.updBegin, hx]
  refine .setUpd ?_ _ (by simp only [hP])
  apply State.journal_only hv
  all_goals simp [hP]

theorem execUpdcmdErase_frame (r : Requester) : Frame (.updcmdErase r)
    [writeSpots r 0x1020, [.one .flash, .one .outs, .one .upd, .reg BOOT.UPDSTS.BUSY]] := by
  refine .of_write (fun _ => rfl) (placeOf_word (by omega)) fun s u P old _ hP hu => ?_
  simp at hP
  obtain ⟨hflash, houts, hupd, hbusy⟩ := hP
  rw [State.wordEffect_updcmd (cmd := 1) _ _ _ rfl]
  refine hu.updStart _ _ _ hupd hbusy nofun nofun fun v x hx hv => ?_
  simp only [State.updBegin, hx]
  exact (hv.flashErase _ _ hflash houts).setUpd _ hupd

theorem execUpdcmdProgram_frame (r : Requester) : Frame (.updcmdProgram r)
    [writeSpots r 0x1020, [.one .flash, .one .outs, .one .upd, .reg BOOT.UPDSTS.BUSY, .reg BOOT.UPDSTS.SESSION]] := by
  refine .of_write (fun _ => rfl) (placeOf_word (by omega)) fun s u P old _ hP hu => ?_
  simp at hP
  obtain ⟨hflash, houts, hupd, hbusy, hsession⟩ := hP
  rw [State.wordEffect_updcmd (cmd := 2) _ _ _ rfl]
  refine hu.updStart _ _ _ hupd hbusy nofun (fun _ => hsession) fun v x hx hv => ?_
  simp only [State.updBegin, hx]
  exact (hv.flashProgram _ _ hflash houts).setUpd _ hupd

theorem execUpdcmdVerify_frame (r : Requester) : Frame (.updcmdVerify r)
    [writeSpots r 0x1020, [.one .upd, .reg BOOT.UPDSTS.BUSY]] := by
  refine .of_write (fun _ => rfl) (placeOf_word (by omega)) fun s u P old _ hP hu => ?_
  simp at hP
  obtain ⟨hupd, hbusy⟩ := hP
  rw [State.wordEffect_updcmd (cmd := 3) _ _ _ rfl]
  refine hu.updStart _ _ _ hupd hbusy nofun nofun fun v x hx hv => ?_
  simp only [State.updBegin, hx]
  split
  · exact hv.setUpd _ hupd
  · exact hv.setUpd _ hupd

theorem execUpdcmdCommit_frame (r : Requester) : Frame (.updcmdCommit r)
    [writeSpots r 0x1020, [.one .upd, .reg BOOT.UPDSTS.BUSY]] := by
  refine .of_write (fun _ => rfl) (placeOf_word (by omega)) fun s u P old _ hP hu => ?_
  simp at hP
  obtain ⟨hupd, hbusy⟩ := hP
  rw [State.wordEffect_updcmd (cmd := 4) _ _ _ rfl]
  refine hu.updStart _ _ _ hupd hbusy nofun nofun fun v x hx hv => ?_
  simp only [State.updBegin, hx]
  exact hv.setUpd _ hupd

theorem execUpdcmdAbort_frame (r : Requester) : Frame (.updcmdAbort r)
    [writeSpots r 0x1020, [.one .upd, .reg BOOT.UPDSTS.BUSY]] := by
  refine .of_write (fun _ => rfl) (placeOf_word (by omega)) fun s u P old _ hP hu => ?_
  simp at hP
  obtain ⟨hupd, hbusy⟩ := hP
  rw [State.wordEffect_updcmd (cmd := 5) _ _ _ rfl]
  refine hu.updStart _ _ _ hupd hbusy nofun nofun fun v x hx hv => ?_
  simp only [State.updBegin, hx]
  exact hv.setUpd _ hupd

/-! ## Reads that claim and that step the record -/

/-- The frame of a read of one word, from what its sampling and its completion may change. -/
theorem Frame.of_read {c : Sys2Proof.Instr} {r : Requester} {a : Nat} {l : List Spot}
    (hc : ∀ s, exec c s = s.read1 r a) (hp : placeOf a = .word a none)
    (hs : ∀ (s u : State) (P : Part → Prop), May P l → Only P s u → Only P s (u.sample r (.word a none)).2.2)
    (hd : ∀ (s u : State) (P : Part → Prop) (v : Nat), May P l → Only P s u → Only P s (u.readDone (.word a none) v)) :
    Frame c [rejectSpots r, .reg SYS.OFFCNT.COUNT :: l] :=
  .of_may fun s t P ht hP => by
    simp at hP
    obtain ⟨hreject, hoff, hl⟩ := hP
    refine State.read1_only r a hoff hreject (fun u hu => ?_) (fun u v hu => ?_) t ((hc s).symm.trans ht)
    · exact hp ▸ hs s u P hl hu
    · exact hp ▸ hd s u P v hl hu

theorem State.sample_claim {P : Part → Prop} {s u : State} {r : Requester} {a t : Nat} (ht : claimTarget a = some t)
    (h : Only P s u) (hc : Only P s (u.claim t).2) : Only P s (u.sample r (.word a none)).2.2 := by
  simp only [State.sample, ht]
  split
  · exact h
  · exact hc

theorem State.sample_word {P : Part → Prop} {s u : State} {r : Requester} {a : Nat} (ht : claimTarget a = none)
    (ha : a ≠ 0x2008) (h : Only P s u) : Only P s (u.sample r (.word a none)).2.2 := by
  simp only [State.sample, ht, if_neg ha]
  split
  · exact h
  · exact h

theorem blockOf_claim (t : Fin 13) : blockOf (0x5000 + 0x40 * t) = some (Blk.icu, 0x1000 + 0x40 * t.val) := by
  have ho : 0x5000 + 0x40 * t.val - 0x4000 = 0x1000 + 0x40 * t.val := by omega
  simp (disch := omega) only [blockOf, if_neg, if_pos, ho]

theorem wordFields_claim (t : Fin 13) : wordFields (0x5000 + 0x40 * t) = [ICU.CLAIM.SRC t] := by
  have hcfg : ¬(0x1000 + 0x40 * t.val < 0x1000 ∧ (0x1000 + 0x40 * t.val) % 8 = 0 ∧
      srcExists ((0x1000 + 0x40 * t.val) / 8) = true) := by omega
  have hsts : ¬(0x1000 + 0x40 * t.val < 0x1000 ∧ (0x1000 + 0x40 * t.val) % 8 = 4 ∧
      srcExists ((0x1000 + 0x40 * t.val) / 8) = true) := by omega
  have hclaim : 0x1000 ≤ 0x1000 + 0x40 * t.val ∧ 0x1000 + 0x40 * t.val < 0x1340 ∧ (0x1000 + 0x40 * t.val) % 0x40 = 0 := by
    omega
  have ht : (0x1000 + 0x40 * t.val - 0x1000) / 0x40 = t.val := by omega
  simp only [wordFields, blockOf_claim]
  change ICU.fields _ = _
  rw [ICU.fields, if_neg hcfg, if_neg hsts, if_pos hclaim, ht]

theorem find?_base_claim (t : Fin 13) : FBlk.all.find? (fun b => b.base == 0x5000 + 0x40 * t.val) = none := by
  rw [List.find?_eq_none]
  intro b _
  rw [beq_iff_eq]
  cases b <;> simp only [FBlk.base] <;> omega

/-- A read of CLAIM clears no field (R129). -/
theorem State.readDone_claim (u : State) (t : Fin 13) (v : Nat) : u.readDone (.word (0x5000 + 0x40 * t) none) v = u := by
  have hm : mbxData (0x5000 + 0x40 * t) = none := by
    rw [mbxData, if_neg (by omega)]
  simp [State.readDone, hm, State.readClear, wordFields_claim, State.rcClear, ICU.CLAIM.SRC, State.recordAgain,
    find?_base_claim]

theorem execIcuClaim_frame (r : Requester) (t : Fin 13) : Frame (.icuClaim r t)
    [rejectSpots r, [.reg SYS.OFFCNT.COUNT, .regs ICU.SRC_STS.INSVC, .regs ICU.SRC_STS.PEND, .reg (ICU.TCNT.SPUR t),
      .reg (ICU.TSTAT.INSVC t), .reg (ICU.TSTAT.LINE t)]] := by
  refine .of_read (fun _ => rfl) (placeOf_word (by omega)) (fun s u P hP hu => ?_) fun s u P v _ hu => ?_
  · have ht : claimTarget (0x5000 + 0x40 * t) = some t.val := by
      rw [claimTarget, if_pos (by omega)]
      congr 1
      omega
    simp at hP
    refine State.sample_claim ht hu ?_
    apply State.claim_only hu
    all_goals simp [hP]
  · rwa [State.readDone_claim]

theorem execMbxData3Read_frame (r : Requester) (m : Fin 8) : Frame (.mbxData3Read r m)
    [rejectSpots r, [.reg SYS.OFFCNT.COUNT, .reg (MBX.CTRL.PART m)]] := by
  refine .of_read (fun _ => rfl) (placeOf_word (by omega)) (fun s u P _ hu => ?_) fun s u P v hP hu => ?_
  · have ht : claimTarget (0x801C + 0x20 * m) = none := by
      rw [claimTarget, if_neg (by omega)]
    exact State.sample_word ht (by omega) hu
  · have hm : mbxData (0x801C + 0x20 * m) = some (m.val, 3) := by
      rw [mbxData, if_pos (by omega)]
      congr 2 <;> omega
    simp at hP
    simp only [State.readDone, hm]
    exact .ite (hu.wr _ _ hP) hu

end Sys2Proof.Machine
end

section
/-! PROOFS. The frames of faults, trips, restarts, relays and updates. -/

namespace Sys2Proof.Machine

/-- Settles O60: each command's frame, from the frames of the operations it is made of. -/
theorem framesOfFaultsAndTrips : Obligations.FramesOfFaultsAndTrips :=
  ⟨execQuadFailEnter_frame, execFailShedTimeout_frame, execQuadOverpower_frame, execGraceExpire_frame,
    execRecoveryWindowExpire_frame, execEngineWatchdogMiss_frame, execCoreDieOvertemp_frame,
    execClkNwOutOfRange_frame, execRetentionParityError_frame, execHardShort_frame, execOvervoltageTrip_frame,
    execOverloadTrip_frame, execVoltageTrip_frame, execSelfTestComplete_frame, execVbusDischarged_frame,
    execFbiTrimLimit_frame, execPortDieOvertemp_frame, execHostSetup_frame, execHostOut_frame, execHostIn_frame,
    execHostIsoIn_frame, execHostIsoOut_frame, execFabricBeat_frame, execPacketTail_frame,
    execDownstreamInResponse_frame, execPsHardResetExpire_frame, execSrcRecoverExpire_frame,
    execVconnOvercurrent_frame, execFenceStart_frame, execFenceTestComplete_frame, execReplacementAvailable_frame,
    execEngineReadyTimeout_frame, execBootTimeout_frame, execSectorRestartComplete_frame,
    execUpdateCommandComplete_frame, execFuseBlowComplete_frame, execLdsControlComplete_frame,
    execLdsRequestTimeout_frame, execLdsRecordDelayEnd_frame, execUncorrectableError_frame, execPortRestartEnd_frame,
    execMbxCaptureStart_frame, execLinkRestoreTimeout_frame, execResetNRelease_frame, execPowerOnResetEnd_frame,
    execEngineRestartComplete_frame, execGetDescriptor_frame, execUpstreamCrcErrors_frame,
    execHandoverReleasing_frame, execPrstrt_frame, execOosWrite_frame, execIcuDone_frame, execUpdcmdOpen_frame,
    execUpdcmdErase_frame, execUpdcmdProgram_frame, execUpdcmdVerify_frame, execUpdcmdCommit_frame,
    execUpdcmdAbort_frame, execFltackAck_frame, execIcuClaim_frame, execMbxData3Read_frame,
    fun u _ _ => execUpstreamVbusOvervoltage_frame u⟩

end Sys2Proof.Machine
end

section
/-! PROOFS. Two statements of the register interface refuted by one state, where what a read clears raises FAULT_N. -/

namespace Sys2Proof.Machine

/-- Personality 0 is configured and may read every block; source 1 of its fault block is recorded with its condition
still present, and its severity has been made critical since (R375, R381). -/
def staleFault : State :=
  ((((State.reset.wr (UPS.STS.DEVSTATE 0) 4).wr (UPS.ACCMASK.RD 0) 0x80).wr (FLT.FLTSEV.SEV (.ups 1) 0) 3).wr
    (FLT.FLTSTS.SRC (.ups 1)) 1).modFlt (.ups 1) (fun x => { x with present := 1 })

/-- Refutes O32: the word read is the FLTSTS of `staleFault`; the read clears it, the condition is recorded again at once
with its new severity, and FAULT_N goes out before the frame's own bytes. -/
theorem not_wireFramesComplete : ¬ Obligations.WireFramesComplete := by
  intro h
  obtain ⟨-, -, -, -, -, hread, -⟩ := h false 0 0x00 0xC5 0x00 0 0 5 [] staleFault (by decide)
  have hruns : ∃ t, exec (.spiRead [0xA1, 0x00, 0xC5, 0x00, 0] 5) staleFault = .next t ∧ t.outs.length = 2 :=
    ⟨_, rfl, by decide +kernel⟩
  obtain ⟨t, ht, htwo⟩ := hruns
  refine not_completes ht (fun ⟨_, houts⟩ => ?_)
    (hread (by decide +kernel) (by decide) (by decide) (by decide) (by decide +kernel))
  rw [houts] at htwo
  exact absurd htwo (by decide)

/-- Refutes O33: the same word of `staleFault` read by a vendor request; the status stage clears it, and FAULT_N goes out
after the data. -/
theorem not_vendorRequestsComplete : ¬ Obligations.VendorRequestsComplete := by
  intro h
  obtain ⟨hread, -⟩ := h 0 0xC500 0 0 staleFault (by decide +kernel) (by decide +kernel) (by decide) (by decide)
    (by decide)
  have hruns : ∃ t, exec (.vendorRead 0 0xC0 0xC500 0 4 true) staleFault = .next t ∧ t.outs.length = 2 :=
    ⟨_, rfl, by decide +kernel⟩
  obtain ⟨t, ht, htwo⟩ := hruns
  refine not_completes ht (fun ⟨_, houts⟩ => ?_) (hread (by decide +kernel))
  rw [houts] at htwo
  exact absurd htwo (by decide)

end Sys2Proof.Machine
end

section
/-! PROOFS. The frames of requests and register writes refuted: a reset of the port's TT also stops a heartbeat poll. -/

namespace Sys2Proof.Machine

/-- Port 0 is authorised on profile 0, which leaves a device unauthorised at its first missed heartbeat, and a heartbeat
poll of the port is under way (R281). -/
def heartbeatPolled : State :=
  ({ State.reset with ldsProfiles := List.replicate 31 1 }.modLds 0 fun l =>
    { l with polling := true, entry := { l.entry with state := 4, profile := 0 } }).wr (LDS.RSUM.STATE 0) 4

/-- The sources due at the next Meridian are no part of the frame of TTRST. -/
theorem edgeDue_not_in_ttrst (a n : Nat) (x : Spot)
    (hx : x ∈ [writeSpots .spi a, [.one (.port n), .reg (PRT.MTRSTS.STRANDED n), .reg (PRT.MTRSTS.WITHDRAWN n),
      .reg (PRT.QSTS.STOPPED n)]].flatten) : ¬x.has .edgeDue := by
  revert x
  simp [writeSpots, rejectSpots, or_imp, forall_and, Spot.reg, Spot.has]

/-- Refutes O56: TTRST of port 0 drops the poll that is under way, which counts as a missed heartbeat (R202, R281); the
port's Roster state falls and source 431 is due at the next Meridian, and neither stands in the spots of `ttrst`. -/
theorem not_framesOfRequests : ¬ Obligations.FramesOfRequests := by
  intro h
  obtain ⟨-, -, -, -, -, -, -, -, -, -, -, -, -, -, -, -, -, -, -, -, -, -, -, -, -, -, -, -, -, -, -, -, -, -, -, -, -,
    -, -, -, -, -, -, -, -, -, -, -, -, -, -, -, -, -, -, -, httrst, -⟩ := h
  have hmissed : ∃ t, exec (.ttrst .spi 0 0) heartbeatPolled = .next t ∧ t.edgeDue = [431] :=
    ⟨_, rfl, by decide +kernel⟩
  obtain ⟨t, ht, hdue⟩ := hmissed
  have hkept : t.edgeDue = heartbeatPolled.edgeDue :=
    httrst .spi 0 0 _ t ht .edgeDue (edgeDue_not_in_ttrst _ _)
  exact List.cons_ne_nil _ _ (hdue.symm.trans hkept)

end Sys2Proof.Machine
end

section
/-! PROOFS. Frames that are refused: what a refusal leaves, and the codes of R110 and R113. -/

namespace Sys2Proof.Machine

/-! ## What a refusal leaves (R114) -/

/-- A part that one of the spots names. -/
def Spot.Named (l : List Spot) (p : Part) : Prop := ∃ x ∈ l, x.has p

section
variable {r : Requester} {l : List Spot} {s t u : State} {c : Nat}

theorem State.resultIs_setResult (u : State) (r : Requester) (c : Nat) : ResultIs r c (u.setResult r c) := by
  cases r <;> simp [ResultIs, State.setResult]

@[simp] theorem State.rd_setResult (u : State) (r : Requester) (c : Nat) (f : Field) :
    (u.setResult r c).rd f = u.rd f := by
  cases r <;> rfl

theorem Requester.code_lt (r : Requester) : r.code < 8 := by
  cases r <;> simp only [Requester.code] <;> omega

/-- The result and SYS.LASTERR are all that a refusal with a code writes. -/
theorem Rejects.of_only (h0 : c ≠ 0) (hc : c < 256) (h : Only (Spot.Named (rejectSpots r ++ l)) s u) :
    Rejects r c l s ((u.lastErr r c).setResult r c) := by
  have hr : ∀ x ∈ rejectSpots r, ∀ p, x.has p → Spot.Named (rejectSpots r ++ l) p :=
    fun x hx p hp => ⟨x, List.mem_append_left _ hx, hp⟩
  have hcode := r.code_lt
  refine ⟨State.resultIs_setResult _ r c, ?_, ?_,
    .of_only (State.setResult_only (State.lastErrOf_only h r c hr) r c hr)⟩
  · rw [State.rd_setResult, State.lastErr, if_neg h0, State.rd_wr_ne _ _ (by decide), State.rd_wr_self]
    exact Nat.mod_eq_of_lt hc
  · rw [State.rd_setResult, State.lastErr, if_neg h0, State.rd_wr_self]
    exact Nat.mod_eq_of_lt hcode

theorem named_outs : Spot.Named (rejectSpots r ++ l) .outs := ⟨.one .outs, by simp [rejectSpots], rfl⟩

theorem only_fresh : Only (Spot.Named (rejectSpots r ++ l)) s s.fresh := .fresh (.refl _ _) named_outs

theorem Rejects.emit (h : Rejects r c l s t) (o : Out) : Rejects r c l s (t.emit o) := by
  obtain ⟨hres, hcode, hreq, hsame⟩ := h
  refine ⟨?_, hcode, hreq, .of_only (.emit (fun p hp => hsame p fun x hx hxp => hp ⟨x, hx, hxp⟩) o named_outs)⟩
  cases r <;> exact hres

end

/-! ## One write refused (R113, R114, R120) -/

theorem firstCode_lt (l : List Nat) : firstCode l < 10 := by
  rw [firstCode]
  cases h : checkOrder.find? l.contains with
  | none => decide
  | some c =>
    have hmem := List.mem_of_find?_eq_some h
    simp only [checkOrder, List.mem_cons, List.not_mem_nil, or_false] at hmem
    simp only [Option.getD_some]
    omega

theorem State.writeCode_lt (s lk : State) (r : Requester) (p : Place) (v : Nat) : s.writeCode lk r p v < 10 := by
  unfold State.writeCode
  split
  · decide
  · cases p with
    | word a bit => cases bit <;> exact firstCode_lt _
    | winWord a n => exact firstCode_lt _
    | chipId | portInt | unlisted n => simp

theorem frameCode_one {a : Nat} (ha : a < 0x1000000) : frameCode a 1 = if a % 4 = 0 then 0 else 5 := by
  by_cases h : a % 4 = 0
  · rw [frameCode, if_neg (not_not_intro h), if_neg (by omega), if_pos h]
  · rw [frameCode, if_pos h, if_neg h]

/-- The code of a write of one word: misaligned, or what the check of R113 finds. -/
def State.write1Code (s : State) (r : Requester) (a v : Nat) : Nat :=
  if a % 4 = 0 then s.writeCode s r (placeOf a) v else 5

/-- A one-word write frame that is refused. -/
theorem State.writeFrame_refused {s : State} {r : Requester} {a v : Nat} (test : Option Bool) (ha : a < 0x1000000)
    (hc : s.write1Code r a v ≠ 0) :
    s.writeFrame r a [v] test = (s.write1Code r a v,
      (s.metOff (s.write1Code r a v == 1)).lastErr r (s.write1Code r a v)) := by
  unfold State.write1Code at hc ⊢
  by_cases hal : a % 4 = 0
  · rw [if_pos hal] at hc ⊢
    simp [State.writeFrame, frameCode_one ha, hal, State.writeWords, hc]
  · simp [State.writeFrame, frameCode_one ha, hal, State.metOff]

theorem State.metOff_only {P : Part → Prop} {s t : State} (h : Only P s t) (off : Bool)
    (hp : off = true → P (.field SYS.OFFCNT.COUNT.key)) : Only P s (t.metOff off) := by
  unfold State.metOff
  split
  next hoff => exact h.bump _ _ (hp hoff)
  next => exact h

theorem State.write1Code_lt (s : State) (r : Requester) (a v : Nat) : s.write1Code r a v < 10 := by
  unfold State.write1Code
  split
  · exact s.writeCode_lt s r _ v
  · omega

theorem State.write1_refused {c : Sys2Proof.Instr} {r : Requester} {a v code : Nat} {l : List Spot} {s : State}
    (test : Option Bool) (he : exec c s = s.write1 r a v test) (ha : a < 0x1000000) (hsend : s.canSend r = true)
    (hcode : s.fresh.write1Code r a v = code) (hne : code ≠ 0)
    (hoff : code = 1 → Spot.Named (rejectSpots r ++ l) (.field SYS.OFFCNT.COUNT.key)) :
    Completes c s (fun t => Rejects r code l s t) := by
  have hlt := s.fresh.write1Code_lt r a v
  have hrej : Rejects r code l s (((s.fresh.metOff (code == 1)).lastErr r code).setResult r code) :=
    .of_only hne (by omega) (State.metOff_only only_fresh _ fun h => hoff (by simpa using h))
  refine .guarded (he.trans rfl) hsend ?_
  rw [State.writeFrame_refused test ha (hcode ▸ hne), hcode]
  exact hrej

/-! ## The commands that are one write -/

theorem exec_of_writeOf {c : Sys2Proof.Instr} {r : Requester} {a v : Nat} (h : writeOf c = some (r, a, v)) :
    a < 0x1000000 ∧ ∃ test, ∀ s, exec c s = s.write1 r a v test := by
  unfold writeOf at h
  split at h
  all_goals cases h
  case h_41 b _ =>
    have hb := (FBlk.ofIdx b).base_lt
    exact ⟨by omega, _, fun _ => rfl⟩
  case h_42 b _ _ =>
    have hb := (FBlk.ofIdx b).base_lt
    exact ⟨by omega, _, fun _ => rfl⟩
  all_goals exact ⟨by omega, _, fun _ => rfl⟩

/-- Settles O7: the frame of one word is refused as a whole, and a code of 1 alone is counted (R120). -/
theorem refusedWritesStoreNothing : Obligations.RefusedWritesStoreNothing := by
  intro c r a v s hw hsend hne
  obtain ⟨ha, test, he⟩ := exec_of_writeOf hw
  exact State.write1_refused test (he s) ha hsend rfl hne fun _ =>
    ⟨.reg SYS.OFFCNT.COUNT, by simp, rfl⟩

/-! ## Whole aligned words inside the address space (R110) -/

theorem frameCode_of_bad {a k c : Nat} (h : BadFrame a k c) : frameCode a k = c ∧ c ≠ 0 ∧ c < 256 := by
  obtain ⟨hal, rfl⟩ | ⟨hal, hk, hover, rfl⟩ := h
  · rw [frameCode, if_pos hal]
    decide
  · rw [frameCode, if_neg (not_not_intro hal), if_pos (by omega)]
    decide

section
variable {r : Requester} {l : List Spot} {s u : State} {a k c : Nat}

/-- A write frame whose address or length R110 refuses. -/
theorem State.writeFrame_bad (u : State) (r : Requester) {vs : List Nat} (hk : vs.length = k) (h : BadFrame a k c)
    (test : Option Bool) : u.writeFrame r a vs test = (c, u.lastErr r c) := by
  obtain ⟨hcode, hne, _⟩ := frameCode_of_bad h
  subst hk
  simp only [State.writeFrame, hcode, if_pos hne]

theorem length_wordsOf {bs : List Byte} (h : 4 * k ≤ bs.length) : (wordsOf bs k).length = k := by
  rw [wordsOf, List.length_map, List.length_range]
  omega

/-- A write frame on a wire, complete and with a CRC that checks, to a refused address (R105, R106, R110). -/
theorem State.wireWrite_bad (onI2c : Bool) (bs : List Byte) (hcmd : fieldAt bs 0 1 = 0xA2)
    (hlen : 5 + 4 * hdrCount bs + (if s.crcOn onI2c then 1 else 0) ≤ bs.length)
    (hcrc : s.crcOn onI2c = true → fieldAt bs (5 + 4 * hdrCount bs) 1 = crc8 (bs.take (5 + 4 * hdrCount bs)))
    (h : BadFrame (hdrAddr bs) (hdrCount bs) c) : Rejects (wire onI2c) c l s (s.fresh.wireWrite onI2c bs) := by
  obtain ⟨-, hne, hlt⟩ := frameCode_of_bad h
  have hrej : Rejects (wire onI2c) c l s ((s.fresh.lastErr (wire onI2c) c).setResult (wire onI2c) c) :=
    .of_only hne hlt only_fresh
  have hlong : ¬bs.length < 5 + 4 * hdrCount bs := by omega
  have hfive : ¬bs.length < 5 := by omega
  have hwords : (wordsOf (bs.drop 5) (hdrCount bs)).length = hdrCount bs :=
    length_wordsOf (by rw [List.length_drop]; omega)
  have hframe := State.writeFrame_bad s.fresh (wire onI2c) hwords h none
  cases hon : s.crcOn onI2c with
  | false =>
    have hoff : s.fresh.crcOn onI2c = false := hon
    simp only [State.wireWrite, hcmd, hfive, hoff, hlong, hframe]
    cases onI2c
    · simpa using hrej.emit _
    · simpa using hrej
  | true =>
    have hoff : s.fresh.crcOn onI2c = true := hon
    have hfull : ¬bs.length < 5 + 4 * hdrCount bs + 1 := by
      rw [hon] at hlen
      simp only [if_pos] at hlen
      omega
    simp only [State.wireWrite, hcmd, hfive, hoff, hlong, hfull, hcrc hon, hframe]
    cases onI2c
    · simpa using hrej.emit _
    · simpa using hrej

/-- A read frame on a wire, clocked to its STS, from a refused address (R104, R106, R110). -/
theorem State.wireRead_bad (onI2c : Bool) (bs : List Byte) (clocked : Nat) (hcmd : fieldAt bs 0 1 = 0xA1)
    (hlen : (if s.crcOn onI2c then 6 else 5) ≤ bs.length)
    (hcrc : s.crcOn onI2c = true → fieldAt bs 5 1 = crc8 (bs.take 5))
    (hall : 4 * hdrCount bs + (if s.crcOn onI2c then 1 else 0) < clocked)
    (h : BadFrame (hdrAddr bs) (hdrCount bs) c) : Rejects (wire onI2c) c l s (s.fresh.wireRead onI2c bs clocked) := by
  obtain ⟨hcode, hne, hlt⟩ := frameCode_of_bad h
  have hrej : Rejects (wire onI2c) c l s ((s.fresh.lastErr (wire onI2c) c).setResult (wire onI2c) c) :=
    .of_only hne hlt only_fresh
  have hon : s.fresh.crcOn onI2c = s.crcOn onI2c := rfl
  have hgood : ¬(s.crcOn onI2c = true ∧ fieldAt bs 5 1 ≠ crc8 (bs.take 5)) := fun ⟨h1, h2⟩ => h2 (hcrc h1)
  have hshort : ¬bs.length < if s.crcOn onI2c then 6 else 5 := by omega
  have hsts : 4 * hdrCount bs + (s.crcOn onI2c).toNat < clocked := by
    cases hc : s.crcOn onI2c <;> simpa [hc] using hall
  simp only [State.wireRead, hon, hcmd, hshort, if_neg hgood, hcode, State.readData, if_pos hne, if_pos hsts]
  simpa using hrej.emit _

/-- An I2C transfer at the target's address that is served at once (R106, R398). -/
theorem State.onI2c_served {c : Sys2Proof.Instr} {f : I2cFrame} {adr : Nat} {P : State → Prop}
    (he : exec c s = s.onI2c adr f) (hadr : adr = s.i2cAddr)
    (hawake : s.phase = .running ∨ s.on NW.CTL.I2CWAKE = false) (hup : s.mgmtUp = true)
    (h : P (s.fresh.serveI2c f)) : Completes c s P := by
  refine ⟨_, he, ?_⟩
  have hgo : (s.fresh.mgmtUp && !(s.fresh.phase == .dusk && s.fresh.on NW.CTL.I2CWAKE)) = true := by
    have hfresh : s.fresh.mgmtUp = true := hup
    rw [State.on_eq] at hawake ⊢
    obtain hrun | hoff := hawake
    · simp [hfresh, hrun]
    · simp [hfresh, hoff]
  rwa [if_pos hadr, State.i2cFrame, if_pos hgo]

/-- The spots of an EP0 request stand for what its SETUP ends (R144). -/
theorem only_vendorSetup (u : Fin 5) : Only (Spot.Named (rejectSpots r ++ [.one (.up u), .one .rescue,
    .reg (UPS.CNT0.ABORTCNT u), .reg (UPS.EVT.CTLABORT u), .reg (UPS.STS.STAGED u)])) s (s.fresh.vendorSetup u) := by
  apply State.vendorSetup_only only_fresh
  all_goals exact ⟨.one _, List.mem_append_right _ (by simp [Spot.reg]), rfl⟩

/-- A vendor request that keeps to the table of R107 by a requester that can send. -/
theorem vendorRun_accepted {i : Sys2Proof.Instr} {n : Fin 5} {t : State} {bm want : Nat} {wIndex len : BitVec 16}
    {P : State → Prop} (he : exec i s = s.vendorRun n (vendorOk bm want wIndex.toNat len.toNat) t) (hbm : bm = want)
    (hseen : s.vendorSeen n = true) (hsend : s.canSend (vendorOf n) = true) (hi : wIndex.toNat < 256)
    (h4 : 4 ≤ len.toNat) (hmax : len.toNat ≤ 1024) (hal : len.toNat % 4 = 0) (h : P t) : Completes i s P := by
  have hok : vendorOk bm want wIndex.toNat len.toNat = true := by
    simp [vendorOk, hbm, h4, hmax, hal, Nat.div_eq_of_lt hi]
  exact ⟨t, he.trans (by simp [State.vendorRun, hseen, hok, hsend, Machine.done]), h⟩

end

/-- Settles O9: each clause by what its frame does with a code of R110. -/
theorem unalignedAndOverlongFramesDoNothing : Obligations.UnalignedAndOverlongFramesDoNothing := by
  intro bs adr k c r addr w u v i len status s
  refine ⟨?spiWrite, ?i2cWrite, ?spiRead, ?i2cRead, ?vendorRead, ?vendorWrite, ?registerWrite⟩
  case spiWrite =>
    intro hup hcmd hlen hcrc hbad
    exact .guarded rfl hup (State.wireWrite_bad false bs hcmd hlen hcrc hbad)
  case i2cWrite =>
    intro hadr hawake hup hcmd hlen hcrc hbad
    exact State.onI2c_served rfl hadr hawake hup (State.wireWrite_bad true bs hcmd hlen hcrc hbad)
  case spiRead =>
    intro hup hcmd hlen hcrc hall hbad
    exact .guarded rfl hup (State.wireRead_bad false bs k hcmd hlen hcrc hall hbad)
  case i2cRead =>
    intro hadr hawake hup hcmd hlen hcrc hall hbad
    exact State.onI2c_served rfl hadr hawake hup (State.wireRead_bad true bs k hcmd hlen hcrc hall hbad)
  case vendorRead =>
    intro hseen hsend hi h4 hmax hal hbad
    obtain ⟨hcode, hne, hlt⟩ := frameCode_of_bad hbad
    refine vendorRun_accepted rfl rfl hseen hsend hi h4 hmax hal ?_
    rw [vendorAddr, hcode, if_pos hne]
    exact ⟨(Rejects.of_only hne hlt (only_vendorSetup u)).emit _, List.mem_append_right _ (List.mem_singleton_self _)⟩
  case vendorWrite =>
    intro hseen hsend hi h4 hmax hal hbad hbytes
    obtain ⟨hcode, hne, hlt⟩ := frameCode_of_bad hbad
    refine vendorRun_accepted rfl rfl hseen hsend hi h4 hmax hal ?_
    rw [if_neg (by simpa using hbytes), vendorAddr,
      State.writeFrame_bad _ _ (length_wordsOf (by omega)) hbad]
    dsimp only
    rw [if_neg hne]
    exact ⟨(Rejects.of_only hne hlt (only_vendorSetup u)).emit _, List.mem_append_right _ (List.mem_singleton_self _)⟩
  case registerWrite =>
    intro hsend hbad
    obtain ⟨hcode, hne, hlt⟩ := frameCode_of_bad hbad
    refine .guarded rfl hsend ?_
    rw [State.writeFrame_bad _ _ rfl hbad]
    exact .of_only hne hlt only_fresh

end Sys2Proof.Machine
end

section
/-! PROOFS. A frozen field stands: the codes that the block of a word can give, and the order of the checks. -/

namespace Sys2Proof.Machine

/-! ## The codes of a block's own checks (R113) -/

/-- A block's own check of a word gives E_LOCK, E_RANGE, E_BUSY or E_STATE. -/
def BlockCodes (l : List Nat) : Prop := ∀ c ∈ l, c = 3 ∨ c = 4 ∨ c = 8 ∨ c = 9

@[simp] theorem BlockCodes.nil : BlockCodes [] := by simp [BlockCodes]

@[simp] theorem BlockCodes.codeIf (b : Bool) {c : Nat} (hc : c = 3 ∨ c = 4 ∨ c = 8 ∨ c = 9) :
    BlockCodes (codeIf b c) := by
  cases b <;> simp [BlockCodes, Machine.codeIf, hc]

@[simp] theorem blockCodes_append {l m : List Nat} : BlockCodes (l ++ m) ↔ BlockCodes l ∧ BlockCodes m := by
  simp only [BlockCodes, List.mem_append, or_imp, forall_and]

@[simp] theorem blockCodes_ite {p : Prop} [Decidable p] {l m : List Nat} :
    BlockCodes (if p then l else m) ↔ (p → BlockCodes l) ∧ (¬p → BlockCodes m) := by
  split <;> simp [*]

/-- Only a mailbox's GO is refused for what its selection reaches (R116, R123); every other block leaves E_ACCESS to the
checks before its own. -/
theorem State.judgeBlock_codes (s lk : State) (r : Requester) {a v : Nat} (hm : ∀ m o, blockOf a ≠ some (.mbx m, o)) :
    BlockCodes (s.judgeBlock lk r a v) := by
  unfold State.judgeBlock
  dsimp only
  split
  · simp [State.judgeFault]
  · split
    case h_5 h => exact absurd h (hm _ _)
    all_goals simp [State.judgeSys, State.judgeBoot, State.judgeNw, State.judgeIcu, State.judgePwr, State.judgePkm,
      State.judgeSwx, State.judgeUps, State.judgeQd, State.judgePrt, State.judgeLds]

/-- E_LOCK is the answer where a lock freezes the word and no check before it fails. -/
theorem firstCode_eq_lock {l : List Nat} (h3 : 3 ∈ l) (h7 : 7 ∉ l) (h2 : 2 ∉ l) (h1 : 1 ∉ l) (h6 : 6 ∉ l) (h8 : 8 ∉ l) :
    firstCode l = 3 := by
  simp [firstCode, checkOrder, List.find?, List.contains_eq_mem, *]

/-- A mailbox holds no field that a lock freezes. -/
theorem not_lockable_mbx {m o : Nat} {f : Field} (hf : f ∈ MBX.fields m o) : f.lockable = false := by
  unfold MBX.fields at hf
  split_ifs at hf <;> simp at hf <;> aesop

/-- The codes of a word that a lock freezes, in a block that is on and outside Dusk: E_LOCK and what stands behind it. -/
theorem State.writeCode_frozen {s : State} {r : Requester} {a v : Nat} {b : Blk} {o : Nat} {f : Field}
    (hrun : s.phase = .running) (hword : a < 0x400000) (hreach : s.inReach r (.word a none) true = true)
    (hon : s.isOff a = false) (hro : readOnlyWord a = false) (hb : blockOf a = some (b, o)) (hfrozen : s.frozen b = true)
    (hf : f ∈ wordFields a) (hlock : f.acc = .rwl ∨ f.acc = .trv) (hchange : inWord v f ≠ s.rd f)
    (hbusy : 8 ∉ s.judgeBlock s r a v) : s.writeCode s r (placeOf a) v = 3 := by
  have hfield : f.lockable = true := by obtain h | h := hlock <;> simp [Field.lockable, h]
  have hwrite : f.writable = true := by obtain h | h := hlock <;> simp [Field.writable, h]
  have hne : (wordFields a).isEmpty = false := List.isEmpty_eq_false_iff.mpr (List.ne_nil_of_mem hf)
  have hlocked : (wordFields a).any (fun g => g.lockable && s.changes v g) = true :=
    List.any_eq_true.mpr ⟨f, hf, by simp [hfield, State.changes, hwrite, hchange]⟩
  have hawake : s.duskBarred a v = false := by simp [State.duskBarred, hrun]
  have hmbx : ∀ m o, blockOf a ≠ some (.mbx m, o) := fun m o h => by
    rw [wordFields, h] at hf
    exact Bool.false_ne_true ((not_lockable_mbx hf).symm.trans hfield)
  have hcodes : s.wordCodes s r a v =
      3 :: (codeIf (v &&& packFields (wordFields a) (fun f => 2 ^ f.width - 1) != v) 4 ++ s.judgeBlock s r a v) := by
    simp [State.wordCodes, hne, hro, hb, hfrozen, hlocked, hon, hawake, codeIf]
  have hblock := s.judgeBlock_codes s r (v := v) hmbx
  have hbehind : ∀ c, c ≠ 3 → c ≠ 4 → c ∉ s.judgeBlock s r a v → c ∉ s.wordCodes s r a v := by
    intro c h3 h4 hj
    simp [hcodes, codeIf, h3, h4, hj]
  have hearly : ∀ c ∈ [7, 2, 1, 6], c ∉ s.wordCodes s r a v := by
    intro c hc
    simp only [List.mem_cons, List.not_mem_nil, or_false] at hc
    refine hbehind c (by omega) (by omega) fun hj => ?_
    have hgiven := hblock c hj
    omega
  rw [placeOf_word hword]
  unfold State.writeCode
  rw [hreach, Bool.not_true, if_neg Bool.false_ne_true]
  exact firstCode_eq_lock (by simp [hcodes]) (hearly 7 (by simp)) (hearly 2 (by simp)) (hearly 1 (by simp))
    (hearly 6 (by simp)) (hbehind 8 (by decide) (by decide) hbusy)

/-- Settles O8: E_LOCK is the code of such a word, and the refusal stores nothing. -/
theorem frozenFieldsStand : Obligations.FrozenFieldsStand := by
  intro r addr w b o f s hrun hsend hal hword hreach hon hro hb hfrozen hf hlock hchange hbusy
  have hcode : s.fresh.write1Code r addr.toNat w.toNat = 3 := by
    rw [State.write1Code, if_pos hal]
    exact State.writeCode_frozen (s := s.fresh) hrun hword hreach hon hro hb hfrozen hf hlock hchange hbusy
  exact State.write1_refused none rfl (by omega) hsend hcode (by decide) nofun

end Sys2Proof.Machine
end

section
/-! PROOFS. Mailboxes: the words SEL and CTRL, the data words, the capture and the bulk buffer. -/

namespace Sys2Proof.Machine

/-! ## A write that is accepted, and the words of a mailbox -/

section
variable {c : Sys2Proof.Instr} {r : Requester} {a v : Nat} {s : State} {P : State → Prop}

theorem State.resultOk_setResult (u : State) (r : Requester) : ResultOk r (u.setResult r 0) := by
  cases r <;> simp [ResultOk, State.setResult]

@[simp] theorem State.mb_setResult (u : State) (r : Requester) (k m : Nat) : (u.setResult r k).mb m = u.mb m := by
  cases r <;> rfl

@[simp] theorem State.outs_setResult (u : State) (r : Requester) (k : Nat) : (u.setResult r k).outs = u.outs := by
  cases r <;> rfl

/-- An accepted write of a native word commits it, with the result E_OK (R114). -/
theorem State.write1_accepted (test : Option Bool) (he : exec c s = s.write1 r a v test) (h : Accepts r a v s)
    (hword : a < 0x400000) (hP : ResultOk r ((s.fresh.commitWord r a v test).setResult r 0) →
      P ((s.fresh.commitWord r a v test).setResult r 0)) : Completes c s P := by
  obtain ⟨hsend, hal, hlt, hcode⟩ := h
  have hframe : s.fresh.writeFrame r a [v] test = (0, s.fresh.commitWord r a v test) := by
    rw [placeOf_word hword] at hcode
    simp [State.writeFrame, frameCode_one hlt, hal, State.writeWords, placeOf_word hword, hcode, State.target]
  refine .guarded (he.trans rfl) hsend ?_
  rw [hframe]
  exact hP (State.resultOk_setResult _ r)

end

section
variable (s : State) (r : Requester) (m : Fin 8) (v : Nat)

theorem blockOf_mbx {o : Nat} (ho : o < 0x20) : blockOf (0x8000 + 0x20 * m + o) = some (.mbx m, o) := by
  have hm : (0x8000 + 0x20 * m.val + o - 0x8000) / 0x20 = m.val := by omega
  have hr : (0x8000 + 0x20 * m.val + o - 0x8000) % 0x20 = o := by omega
  simp (disch := omega) only [blockOf, if_neg, if_pos, hm, hr]

theorem faultWord_mbx {o : Nat} (ho : o < 0x20) : faultWord (0x8000 + 0x20 * m + o) = none := by
  refine faultWord_eq_none fun b => ?_
  cases b <;> simp only [FBlk.base] <;> omega

theorem wordFields_mbx {o : Nat} (ho : o < 0x20) : wordFields (0x8000 + 0x20 * m + o) = MBX.fields m o := by
  simp only [wordFields, blockOf_mbx m ho, Blk.fields]

/-- The effect of a mailbox word is immediate in Dusk as well (R390). -/
theorem State.commitWord_mbx {o : Nat} (ho : o < 0x20) (test : Option Bool) :
    s.commitWord r (0x8000 + 0x20 * m + o) v test = (s.storeWord (0x8000 + 0x20 * m + o) v).wordEffect r
      (0x8000 + 0x20 * m + o) v (s.liveWord (0x8000 + 0x20 * m + o)) test := by
  simp [State.commitWord, blockOf_mbx m ho]

theorem readOnlyWord_mbx {o : Nat} (ho : o < 0x20) : readOnlyWord (0x8000 + 0x20 * m + o) = false := by
  simp only [readOnlyWord, Bool.or_eq_false_iff, beq_eq_false_iff_ne]
  omega

theorem State.storeWord_sel : s.storeWord (0x8000 + 0x20 * m + 0) v =
    (s.wr (MBX.SEL.CODE m) (inWord v (MBX.SEL.CODE m))).wr (MBX.SEL.INDEX m) (inWord v (MBX.SEL.INDEX m)) := by
  simp only [State.storeWord, readOnlyWord_mbx m (o := 0) (by decide), wordFields_mbx m (o := 0) (by decide)]
  rfl

theorem State.storeWord_ctrl :
    s.storeWord (0x8000 + 0x20 * m + 4) v = s.wr (MBX.CTRL.PART m) (inWord v (MBX.CTRL.PART m)) := by
  simp only [State.storeWord, readOnlyWord_mbx m (o := 4) (by decide), wordFields_mbx m (o := 4) (by decide)]
  rfl

/-- A SEL word that is committed (R123). -/
theorem State.commitWord_sel (test : Option Bool) : s.commitWord r (0x8000 + 0x20 * m) v test =
    ((s.wr (MBX.SEL.CODE m) (inWord v (MBX.SEL.CODE m))).wr (MBX.SEL.INDEX m)
      (inWord v (MBX.SEL.INDEX m))).selEffect m := by
  have hcommit := s.commitWord_mbx r m v (o := 0) (by decide) test
  rw [State.storeWord_sel] at hcommit
  refine hcommit.trans ?_
  simp only [State.wordEffect, faultWord_mbx m (o := 0) (by decide), blockOf_mbx m (o := 0) (by decide), if_pos]

/-- A CTRL word that is committed: with GO the old PART stands (R123). -/
theorem State.commitWord_ctrl (test : Option Bool) : s.commitWord r (0x8004 + 0x20 * m) v test =
    if pulses v (MBX.CTRL.GO m) then
      ((s.wr (MBX.CTRL.PART m) (inWord v (MBX.CTRL.PART m))).wr (MBX.CTRL.PART m)
        (inWord (s.liveWord (0x8004 + 0x20 * m)) (MBX.CTRL.PART m))).goEffect m r.code
    else s.wr (MBX.CTRL.PART m) (inWord v (MBX.CTRL.PART m)) := by
  have ha : 0x8004 + 0x20 * m.val = 0x8000 + 0x20 * m + 4 := by omega
  have hsel : ¬4 = 0 := by decide
  rw [ha, s.commitWord_mbx r m v (by decide), State.storeWord_ctrl]
  simp only [State.wordEffect, faultWord_mbx m (o := 4) (by decide), blockOf_mbx m (o := 4) (by decide), if_neg hsel,
    if_pos]

end

/-! ## GO and PART in a word (R123) -/

theorem withBit_zero_eq (w : Nat) (b : Bool) : withBit w 0 b = w / 2 * 2 + b.toNat := by
  obtain h | h := Nat.mod_two_eq_zero_or_one w <;> cases b <;> simp [withBit, bitAt, h] <;> omega

theorem pulses_go_withBit (w m : Nat) (b : Bool) : pulses (withBit w 0 b) (MBX.CTRL.GO m) = b := by
  have hbit : (w / 2 * 2 + b.toNat) / 2 ^ 0 % 2 ^ 1 = b.toNat := by
    have hb := b.toNat_le
    omega
  rw [withBit_zero_eq]
  change ((w / 2 * 2 + b.toNat) / 2 ^ 0 % 2 ^ 1 != 0) = b
  rw [hbit]
  cases b <;> rfl

theorem inWord_part_withBit (w m : Nat) :
    inWord (withBit w 0 false) (MBX.CTRL.PART m) = inWord w (MBX.CTRL.PART m) := by
  rw [withBit_zero_eq]
  change (w / 2 * 2 + 0) / 2 ^ 16 % 2 ^ 9 = w / 2 ^ 16 % 2 ^ 9
  omega

theorem inWord_mod_width (v : Nat) (f : Field) : inWord v f % 2 ^ f.width = inWord v f := Nat.mod_mod _ _

/-! ## What SEL and GO leave (R123, R126) -/

section
variable (s : State) (m : Fin 8) (code : Nat)

theorem State.bulkRelease_rd {f : Field} (h1 : f.key ≠ MBX.BULK.HELD.key) (h2 : f.key ≠ MBX.BULK.HOLDER.key) (k : Nat) :
    (s.bulkRelease k).rd f = s.rd f := by
  unfold State.bulkRelease
  split
  · rw [State.rd_wr_ne _ _ h2, State.rd_wr_ne _ _ h1]
  · rfl

theorem State.selEffect_sel {f : Field} (hf : f = MBX.SEL.CODE m ∨ f = MBX.SEL.INDEX m) :
    (s.selEffect m).rd f = s.rd f := by
  obtain rfl | rfl := hf <;> unfold State.selEffect <;>
    simp (disch := with_unfolding_all refine Field.key_ne rfl rfl ?_; omega) only [State.rd_wr_ne, State.bulkRelease_rd]

theorem State.selEffect_ctrl : (s.selEffect m).rd (MBX.CTRL.VALID m) = 0 ∧ (s.selEffect m).rd (MBX.CTRL.ERR m) = 0 ∧
    (s.selEffect m).rd (MBX.CTRL.PART m) = 0 := by
  unfold State.selEffect
  simp (disch := with_unfolding_all refine Field.key_ne rfl rfl ?_; omega) only [State.rd_wr_ne, State.rd_wr_self,
    Nat.zero_mod, and_self]

theorem State.goEffect_ctrl : (s.goEffect m code).rd (MBX.CTRL.BUSY m) = 1 ∧
    (s.goEffect m code).rd (MBX.CTRL.VALID m) = 0 := by
  unfold State.goEffect
  dsimp only
  constructor <;> split <;>
    simp (disch := with_unfolding_all refine Field.key_ne rfl rfl ?_; omega) only [State.raise_eq_wr, State.rd_modMb,
      State.rd_wr_ne, State.rd_wr_self] <;> rfl

theorem State.goEffect_mb : ((s.goEffect m code).mb m).due = true ∧ ((s.goEffect m code).mb m).req = code := by
  unfold State.goEffect
  dsimp only
  split <;> simp

theorem State.goEffect_bulk (h : selBulk (s.rd (MBX.SEL.CODE m)) = true) :
    (s.goEffect m code).rd MBX.BULK.HELD = 1 ∧ (s.goEffect m code).rd MBX.BULK.HOLDER = m := by
  unfold State.goEffect
  dsimp only
  rw [if_pos h, State.rd_wr_self, State.rd_wr_ne _ _ (by decide)]
  exact ⟨State.rd_wr_self _ _ 1, Nat.mod_eq_of_lt m.isLt⟩

end

/-! ## The data words -/

theorem mbxData_data3 (m : Fin 8) : mbxData (0x801C + 0x20 * m) = some (m.val, 3) := by
  rw [mbxData, if_pos (by omega)]
  congr 2 <;> omega

theorem ResultOk.emit {r : Requester} {t : State} (h : ResultOk r t) (o : Out) : ResultOk r (t.emit o) := by
  cases r <;> exact h

/-- A read of one word that meets no refusal (R104, R112). -/
theorem State.read1_accepted {c : Sys2Proof.Instr} {r : Requester} {a w : Nat} {s t : State} {P : State → Prop}
    (he : exec c s = s.read1 r a) (hsend : s.canSend r = true) (hw : s.fresh.sample r (placeOf a) = (w, 0, t))
    (h : ResultOk r (((t.readDone (placeOf a) w).setResult r 0).emit (.tokel (leBytes 4 w ++ [0]))) →
      P (((t.readDone (placeOf a) w).setResult r 0).emit (.tokel (leBytes 4 w ++ [0])))) : Completes c s P := by
  refine .guarded (he.trans rfl) hsend ?_
  have hshift : s.fresh.shiftWords r a 1 = ([(w, 0)], t.readDone (placeOf a) w) := by
    simp [State.shiftWords, hw]
  rw [hshift]
  simpa [readFrameCode, State.metOff, State.lastErr, wordBytes, leBytes] using
    h ((State.resultOk_setResult _ r).emit _)

/-- A data word that may be read holds valid data (R113, R123). -/
theorem State.valid_of_readCode {s : State} {r : Requester} {a m i : Nat} (hd : mbxData a = some (m, i))
    (h : s.readCode r (.word a none) = 0) : s.on (MBX.CTRL.VALID m) = true := by
  unfold State.readCode at h
  by_contra hv
  simp only [hd, Option.any_some] at h
  split_ifs at h
  simp_all

/-- DATA3 of a mailbox sampled (R123). -/
theorem State.sample_data3 {s : State} {r : Requester} (m : Fin 8)
    (h : s.readCode r (.word (0x801C + 0x20 * m) none) = 0) :
    s.sample r (.word (0x801C + 0x20 * m) none) = (s.mbxWord m 3, 0, s) := by
  have hclaim : claimTarget (0x801C + 0x20 * m) = none := by rw [claimTarget, if_neg (by omega)]
  have hopen : ¬0x801C + 0x20 * m.val = 0x2008 := by omega
  simp [State.sample, h, hclaim, if_neg hopen, State.wordValue, mbxData_data3]

/-- A read of DATA3 advances PART (R123). -/
theorem State.readDone_data3 {s : State} (m : Fin 8) (w : Nat) (hv : s.on (MBX.CTRL.VALID m) = true) :
    s.readDone (.word (0x801C + 0x20 * m) none) w =
      s.wr (MBX.CTRL.PART m) ((s.rd (MBX.CTRL.PART m) + 1) % selParts (s.rd (MBX.SEL.CODE m))) := by
  simp only [State.readDone, mbxData_data3]
  rw [if_pos ⟨trivial, hv⟩]

/-- Settles O31: each command by the rule of the operation it is made of. -/
theorem mailboxCommandsComplete : Obligations.MailboxCommandsComplete := by
  intro r m w ok s
  refine ⟨?sel, ?go, ?part, ?data3, ?captureStart, ?captureComplete, ?bulkTimeout⟩
  case sel =>
    refine fun h => State.write1_accepted none rfl h (by omega) fun hok => ⟨hok, ?_⟩
    rw [State.commitWord_sel]
    obtain ⟨hvalid, herr, hpart⟩ := State.selEffect_ctrl ((s.fresh.wr (MBX.SEL.CODE m)
      (inWord w.toNat (MBX.SEL.CODE m))).wr (MBX.SEL.INDEX m) (inWord w.toNat (MBX.SEL.INDEX m))) m
    simp only [State.rd_setResult, hvalid, herr, hpart, and_true, State.selEffect_sel _ m (.inl rfl),
      State.selEffect_sel _ m (.inr rfl), State.rd_wr_self, inWord_mod_width]
    simp (disch := with_unfolding_all refine Field.key_ne rfl rfl ?_; omega) only [State.rd_wr_ne, State.rd_wr_self,
      inWord_mod_width]
  case go =>
    refine fun h => State.write1_accepted none rfl h (by omega) fun hok => ⟨hok, ?_⟩
    rw [State.commitWord_ctrl, pulses_go_withBit, if_pos rfl]
    simp only [State.rd_setResult, State.mb_setResult]
    refine ⟨(State.goEffect_ctrl _ m _).1, (State.goEffect_ctrl _ m _).2, (State.goEffect_mb _ m _).1,
      (State.goEffect_mb _ m _).2, fun hbulk => State.goEffect_bulk _ m _ ?_⟩
    simp (disch := with_unfolding_all refine Field.key_ne rfl rfl ?_; omega) only [State.rd_wr_ne]
    exact hbulk
  case part =>
    refine fun h => State.write1_accepted none rfl h (by omega) fun hok => ⟨hok, ?_⟩
    rw [State.commitWord_ctrl, pulses_go_withBit, if_neg Bool.false_ne_true, State.rd_setResult, State.rd_wr_self,
      inWord_mod_width, inWord_part_withBit]
  case data3 =>
    intro hsend hcode
    have hvalid := State.valid_of_readCode (mbxData_data3 m) hcode
    have hplace : placeOf (0x801C + 0x20 * m) = .word (0x801C + 0x20 * m) none := placeOf_word (by omega)
    refine State.read1_accepted rfl hsend (hplace ▸ State.sample_data3 (s := s.fresh) m hcode) fun hok => ⟨hok, ?_⟩
    rw [hplace, State.readDone_data3 (s := s.fresh) m _ hvalid]
    have hword : s.fresh.mbxWord m 3 = s.mbxWord m 3 := rfl
    constructor
    · simp [hword]
    · simp
  case captureStart =>
    intro hdue hcapture
    refine .guarded rfl (by simpa [hdue] using hcapture) ?_
    dsimp only
    split <;> simp
  case captureComplete =>
    intro hrun
    refine .guarded rfl hrun ?_
    have hbusy : (((s.fresh.wr (MBX.CTRL.BUSY m) 0).modMb m fun x => { x with running := false }).rd
        (MBX.CTRL.BUSY m)) = 0 := by simp
    dsimp only
    split
    next hflash =>
      refine ⟨?_, by simp, fun _ hfetched => ?_⟩
      · simpa (disch := with_unfolding_all refine Field.key_ne rfl rfl ?_; omega) only [State.rd_wr_ne] using hbusy
      · simp only [Bool.and_eq_true] at hflash
        simp [hfetched hflash.1] at hflash
    next =>
      split
      next herr =>
        refine ⟨?_, by simp, fun hnone => absurd hnone herr⟩
        simpa (disch := with_unfolding_all refine Field.key_ne rfl rfl ?_; omega) only [State.rd_wr_ne] using hbusy
      next =>
        refine ⟨?_, by simp, fun _ _ => State.rd_wr_self _ _ 1⟩
        rw [State.raise_eq_wr]
        simpa (disch := with_unfolding_all refine Field.key_ne rfl rfl ?_; omega) only [State.rd_wr_ne] using hbusy
  case bulkTimeout =>
    intro hheld hholder hvalid
    refine .guarded rfl (by simp [hheld, hholder, hvalid]) ?_
    rw [hholder]
    have hrelease : s.fresh.bulkRelease m = (s.fresh.wr MBX.BULK.HELD 0).wr MBX.BULK.HOLDER 0 := by
      simp [State.bulkRelease, hheld, hholder]
    rw [hrelease, State.rd_wr_self]
    simp (disch := with_unfolding_all refine Field.key_ne rfl rfl ?_; omega) only [State.rd_wr_ne, State.rd_wr_self,
      Nat.zero_mod, and_self]

end Sys2Proof.Machine
end

section
/-! SUPPORT. The requests of a hub personality: the state that they act on, the ports that they name, and the port
requests of R140. -/

namespace Sys2Proof.Machine

/-! ## Views and ports through the shared updates -/

section
variable (s : State) (u n : Nat) (v : View)

theorem Only.up {s t : State} {u : Nat} (h : Only (· ≠ .up u) s t) : t.up u = s.up u := h _ (not_not_intro rfl)

@[simp] theorem State.view_setView_self : (s.setView u n v).view u n = v := by
  simp [State.view, State.setView, KMap.get_put_self]

@[simp] theorem State.rd_setView (f : Field) : (s.setView u n v).rd f = s.rd f := rfl
@[simp] theorem State.port_setView (m : Nat) : (s.setView u n v).port m = s.port m := rfl
@[simp] theorem State.outs_setView : (s.setView u n v).outs = s.outs := rfl
@[simp] theorem State.hub_setView (m : Nat) : (s.setView u n v).hub m = s.hub m := rfl
@[simp] theorem State.view_emit (o : Out) : (s.emit o).view u n = s.view u n := rfl
@[simp] theorem State.view_wr (f : Field) (k : Nat) : (s.wr f k).view u n = s.view u n := rfl
@[simp] theorem State.view_modPort (m : Nat) (g : PortX → PortX) : (s.modPort m g).view u n = s.view u n := rfl
@[simp] theorem State.hub_emit (o : Out) : (s.emit o).hub n = s.hub n := rfl
@[simp] theorem State.hub_modPort (m : Nat) (g : PortX → PortX) : (s.modPort m g).hub n = s.hub n := rfl
@[simp] theorem State.outs_modPort (m : Nat) (g : PortX → PortX) : (s.modPort m g).outs = s.outs := rfl
@[simp] theorem State.outs_modUp (g : UpX → UpX) : (s.modUp u g).outs = s.outs := rfl

/-- The port is in the hub state that it enters (R170). -/
@[simp] theorem State.hub_setHub (st : Nat) : (s.setHub n st).hub n = st % 16 := by
  unfold State.hub State.setHub
  simp (disch := with_unfolding_all refine Field.key_ne rfl rfl ?_; omega) only [State.flag_eq_wr, State.rd_wr_ne,
    State.rd_wr_self]
  rfl

@[simp] theorem State.port_setHub (st m : Nat) : (s.setHub n st).port m = s.port m := rfl
@[simp] theorem State.up_setHub (st m : Nat) : (s.setHub n st).up m = s.up m := rfl
@[simp] theorem State.outs_setHub (st : Nat) : (s.setHub n st).outs = s.outs := rfl

end

/-! ## The state that a request acts on (R144) -/

/-- A request on EP0 of personality `u` acts on `t`: nothing is answered yet, and a vendor write being staged is
discarded (R144). -/
structure Requested (u : Nat) (s t : State) : Prop where
  outs : t.outs = []
  phase : t.phase = s.phase
  stopped : t.stopped = s.stopped
  boot : t.boot = s.boot
  port : ∀ n, t.port n = s.port n
  up : t.up u = { s.up u with ctl := .request }
  rd : ∀ f : Field, f.key ≠ (UPS.CNT0.ABORTCNT u).key → f.key ≠ (UPS.EVT.CTLABORT u).key →
    f.key ≠ (UPS.STS.STAGED u).key → t.rd f = s.rd f

namespace Requested

theorem of_newSetup (s : State) (u : Nat) : Requested u s (s.fresh.newSetup u) := by
  have hup : (s.fresh.newSetup u).up u = { s.up u with ctl := .request } := by
    unfold State.newSetup State.ctlAbort
    rw [State.up_modUp_self, State.up_modUp_self]
    split <;> rfl
  have honly {p : Part} (h : p ≠ .field (UPS.CNT0.ABORTCNT u).key) (h' : p ≠ .field (UPS.EVT.CTLABORT u).key)
      (h'' : p ≠ .field (UPS.STS.STAGED u).key) (hu : p ≠ .up u) : p.same s.fresh (s.fresh.newSetup u) :=
    State.newSetup_only (P := (· ≠ p)) (.refl _ _) u h.symm h'.symm h''.symm hu.symm p (not_not_intro rfl)
  exact ⟨honly (p := .outs) nofun nofun nofun nofun, honly (p := .phase) nofun nofun nofun nofun,
    honly (p := .stopped) nofun nofun nofun nofun, honly (p := .boot) nofun nofun nofun nofun,
    fun n => honly (p := .port n) nofun nofun nofun nofun, hup, fun f h h' h'' =>
      honly (p := .field f.key) (by simpa using h) (by simpa using h') (by simpa using h'') nofun f rfl⟩

variable {u : Nat} {s t : State} (h : Requested u s t)
include h

theorem seUp (n : Nat) : t.seUp n = s.seUp n := by
  simp [State.seUp, State.active, State.runs, h.phase, h.stopped]

theorem hub (n : Nat) : t.hub n = s.hub n := by
  unfold State.hub
  simp (disch := with_unfolding_all refine Field.key_ne rfl rfl ?_; omega) only [h.rd]

theorem owns (n : Nat) : t.owns u n = s.owns u n := by
  unfold State.owns State.owned State.owner
  simp (disch := with_unfolding_all refine Field.key_ne rfl rfl ?_; omega) only [h.rd]

theorem view (n : Nat) : t.view u n = s.view u n := by rw [State.view, h.up, State.view]

theorem partition : t.partition u = s.partition u := by
  unfold State.partition State.inPartition State.restricted
  simp (disch := with_unfolding_all refine Field.key_ne rfl rfl ?_; omega) only [h.rd, h.boot]

theorem hubPort (i : Nat) : t.hubPort u i = s.hubPort u i := by rw [State.hubPort, h.partition, State.hubPort]

theorem hs : t.rd (UPS.STS.HS u) = s.rd (UPS.STS.HS u) := by
  simp (disch := with_unfolding_all refine Field.key_ne rfl rfl ?_; omega) only [h.rd]

theorem pwrmode : t.rd (UPS.CTL.PWRMODE u) = s.rd (UPS.CTL.PWRMODE u) := by
  simp (disch := with_unfolding_all refine Field.key_ne rfl rfl ?_; omega) only [h.rd]

end Requested

/-! ## Hub-class requests to a Configured personality (R140) -/

section
variable {c : Sys2Proof.Instr} {u : Nat} {s : State} {P : State → Prop}

/-- A hub-class request to a Configured personality takes effect. -/
theorem Completes.hubReq {b : Bool} {act : State → State} (he : exec c s = done (s.fresh.hubReq u b act))
    (hconf : s.rd (UPS.STS.DEVSTATE u) = 4) (h : ∀ t, Requested u s t → P (act t)) : Completes c s P := by
  refine ⟨_, he, ?_⟩
  have hact : s.fresh.hubReq u b act = act (s.fresh.newSetup u) := by simp [State.hubReq, hconf]
  rw [hact]
  exact h _ (.of_newSetup s u)

/-- A port request to a port that the personality owns takes effect and is acknowledged. -/
theorem Completes.portReq {i n : Nat} {bad : Bool} {own other : State → Nat → State}
    (he : exec c s = done (s.fresh.portReq u i bad own other)) (hport : HubPortOf u i n s) (hbad : bad = false)
    (h : ∀ t, Requested u s t → P ((own t n).emit (.usb u .ack))) : Completes c s P := by
  obtain ⟨hconf, hname, howns⟩ := hport
  refine .hubReq he hconf fun t ht => ?_
  rw [ht.hubPort, hname]
  simpa [hbad, ht.owns, howns] using h t ht

/-- A port request that is refused for every port of the partition is STALLed. -/
theorem Completes.portReq_stall {i n : Nat} {bad : Bool} {own other : State → Nat → State}
    (he : exec c s = done (s.fresh.portReq u i bad own other)) (hport : HubPortOf u i n s) (hbad : bad = true) :
    Completes c s (fun t => t.outs = [.usb u .stall]) := by
  obtain ⟨hconf, hname, -⟩ := hport
  refine .hubReq he hconf fun t ht => ?_
  rw [ht.hubPort, hname]
  simp [hbad, ht.outs]

end

end Sys2Proof.Machine
end

section
/-! PROOFS. The hub-level requests of R135 and R140. -/

namespace Sys2Proof.Machine

theorem Requested.hubDesc {u : Nat} {s t : State} (h : Requested u s t) : t.hubDesc u = s.hubDesc u := by
  unfold State.hubDesc State.on
  simp (disch := with_unfolding_all refine Field.key_ne rfl rfl ?_; omega) only [h.rd]

/-- Settles O14: each request answers by its own row. -/
theorem hubRequestsComplete : Obligations.HubRequestsComplete := by
  intro u j sel len n s hconf
  have answer {c : Sys2Proof.Instr} {b : Bool} {a : Ans} (he : exec c s = done (s.fresh.hubReq u b (·.emit (.usb u a)))) :
      Completes c s (fun t => t.outs = [.usb u a]) := .hubReq he hconf fun t ht => by simp [ht.outs]
  refine ⟨answer rfl, answer rfl, answer rfl, answer rfl, answer rfl, ?hubDescriptor, ?portStatus⟩
  case hubDescriptor =>
    exact .hubReq rfl hconf fun t ht => by simp [State.dataAns, ht.outs, ht.hubDesc]
  case portStatus =>
    intro hname
    refine .hubReq rfl hconf fun t ht => ?_
    rw [ht.hubPort, hname]
    simp [ht.outs, ht.view, ht.pwrmode]

end Sys2Proof.Machine
end

section
/-! SUPPORT. What a TT reset, the reset of a port and the evaluation of its demand leave: the wires, the transactions,
the hub state, the answers and the hub views. -/

namespace Sys2Proof.Machine

/-- Two fields whose keys are written out and differ are different parts. -/
theorem Part.fields_ne {f g : Field} {a b i j v w x y : Nat} {c d : Acc} {p q : Bool} (hf : f = ⟨a, i, v, c, x, p⟩)
    (hg : g = ⟨b, j, w, d, y, q⟩) (h : a * 32 + i ≠ b * 32 + j) : Part.field f.key ≠ Part.field g.key :=
  fun e => Field.key_ne hf hg h (Part.field.inj e)

/-! ## The end of control holds and a TT reset (R182, R204) -/

/-- From `p` to `q` only control holds, their transfers and what the Almanac holds beside its states change (R204). -/
structure PortX.Unheld (p q : PortX) : Prop where
  np : q.np = p.np
  per : q.per = p.per
  sofOn : q.sofOn = p.sofOn
  st : ∀ e ∈ q.alm, ∃ d ∈ p.alm, d.2.st = e.2.st

namespace PortX.Unheld

theorem refl (p : PortX) : p.Unheld p := ⟨rfl, rfl, rfl, fun e he => ⟨e, he, rfl⟩⟩

theorem trans {p q r : PortX} (h : p.Unheld q) (k : q.Unheld r) : p.Unheld r := by
  refine ⟨k.np.trans h.np, k.per.trans h.per, k.sofOn.trans h.sofOn, fun e he => ?_⟩
  obtain ⟨d, hd, hde⟩ := k.st e he
  obtain ⟨c, hc, hcd⟩ := h.st d hd
  exact ⟨c, hc, hcd.trans hde⟩

end PortX.Unheld

section
variable (s : State) (n : Nat)

theorem State.holdEnd_unheld (a : Nat) : (s.port n).Unheld ((s.holdEnd n a).port n) := by
  unfold State.holdEnd
  split
  · exact .refl _
  · rw [State.port_modPort_self]
    refine ⟨rfl, rfl, rfl, fun e he => ?_⟩
    obtain ⟨d, hd, rfl⟩ := List.mem_map.mp he
    refine ⟨d, hd, ?_⟩
    split <;> rfl

theorem State.holdEnds_unheld (l : List Nat) :
    (s.port n).Unheld ((s.forEach l (fun t a => t.holdEnd n a)).port n) := by
  induction l generalizing s with
  | nil => exact .refl _
  | cons a l ih => exact (s.holdEnd_unheld n a).trans (ih _)

theorem State.holdsEnd_unheld : (s.port n).Unheld ((s.holdsEnd n).port n) := by
  rw [State.holdsEnd, State.port_modPort_self]
  obtain ⟨hnp, hper, hsof, hst⟩ := s.holdEnds_unheld n ((s.port n).holds.map (·.1))
  exact ⟨hnp, hper, hsof, hst⟩

theorem State.holdsEnd_ctls : ((s.holdsEnd n).port n).ctls = [] := by rw [State.holdsEnd, State.port_modPort_self]

/-- What a TT reset takes from a port at once: its buffers and records, but for one on the wire, whose result is
discarded, and the polls that wait for a prefetch (R182). -/
def PortX.ttDrop (p : PortX) : PortX :=
  { p with
    np := (p.np.filter (fun b => b.st == .wire)).map (fun b => { b with dead := true }),
    per := (p.per.filter (fun r => r.st == .wire && !p.alm.any (fun e => e.2.polled && e.2.key == r.key))).map
      (fun r => { r with dead := true }),
    alm := p.alm.map (fun e => (e.1, { e.2 with polled := false })), stopDue := false }

theorem State.ttReset_eq :
    s.ttReset n = ((s.modPort n PortX.ttDrop).wr (PRT.QSTS.STOPPED n) 0).holdsEnd n := rfl

theorem State.ttReset_unheld : (s.port n).ttDrop.Unheld ((s.ttReset n).port n) := by
  rw [State.ttReset_eq]
  simpa using State.holdsEnd_unheld ((s.modPort n PortX.ttDrop).wr (PRT.QSTS.STOPPED n) 0) n

/-- No transaction that a TT reset leaves is alive. -/
theorem State.ttReset_live : ((s.ttReset n).port n).npLive = [] ∧ ((s.ttReset n).port n).perLive = [] := by
  obtain ⟨hnp, hper, -, -⟩ := s.ttReset_unheld n
  constructor
  · rw [PortX.npLive, hnp, List.filter_eq_nil_iff]
    intro b hb
    obtain ⟨c, -, rfl⟩ := List.mem_map.mp hb
    simp
  · rw [PortX.perLive, hper, List.filter_eq_nil_iff]
    intro b hb
    obtain ⟨c, -, rfl⟩ := List.mem_map.mp hb
    simp

theorem State.ttReset_sofOn : ((s.ttReset n).port n).sofOn = (s.port n).sofOn := (s.ttReset_unheld n).sofOn

/-- A TT reset leaves the Almanac's entries in their states. -/
theorem State.ttReset_alm {st : Nat} (h : ∀ e ∈ (s.port n).alm, e.2.st = st) :
    ∀ e ∈ ((s.ttReset n).port n).alm, e.2.st = st := by
  intro e he
  obtain ⟨d, hd, hde⟩ := (s.ttReset_unheld n).st e he
  obtain ⟨c, hc, rfl⟩ := List.mem_map.mp hd
  exact hde.symm.trans (h c hc)

theorem State.ttReset_ctls : ((s.ttReset n).port n).ctls = [] := by rw [State.ttReset_eq, State.holdsEnd_ctls]

theorem State.ttReset_stopped : (s.ttReset n).rd (PRT.QSTS.STOPPED n) = 0 := by
  rw [State.ttReset_eq, Only.rd (State.holdsEnd_only (.refl _ _) n nofun), State.rd_wr_self, Nat.zero_mod]

@[simp] theorem State.ttReset_outs : (s.ttReset n).outs = s.outs := Only.outs (State.ttReset_only (.refl _ _) n nofun nofun)

/-! ## The reset of a port (R161) -/

/-- A port that is reset drives SE0, and nothing else is sent. -/
theorem State.startReset_outs : (s.startReset n).outs = s.outs ++ [.se0 n] := by
  unfold State.startReset
  extract_lets s1 s2
  have h2 : s2.outs = s1.outs := by
    apply Only.outs
    apply State.rtDropOwner_only
    · apply State.relayReset_only
      apply State.ttAndAlmanac_only (.refl _ _)
      all_goals (intros; exact nofun)
    · exact fun _ => nofun
  rw [State.outs_modPort, h2]
  rfl

theorem State.startReset_hub : (s.startReset n).hub n = HS.resetting := by
  unfold State.startReset
  extract_lets s1 s2
  have h2 : s2.hub n = s1.hub n := by
    apply Only.rd
    apply State.rtDropOwner_only
    · apply State.relayReset_only
      apply State.ttAndAlmanac_only (.refl _ _)
      all_goals intros
      any_goals exact Part.fields_ne rfl rfl (by omega)
      all_goals exact nofun
    · exact fun _ => nofun
  have h1 : s1.hub n = ((s.emit (.se0 n)).setHub n HS.resetting).hub n := by
    apply State.rd_wr_ne
    exact Field.key_ne rfl rfl (by omega)
  rw [State.hub_modPort, h2, h1, State.hub_setHub]
  rfl

theorem State.startReset_port :
    ((s.startReset n).port n).chirped = false ∧ ((s.startReset n).port n).sofOn = false := by
  rw [State.startReset, State.port_modPort_self]
  exact ⟨rfl, rfl⟩

end

/-! ## The hub views through the demand (R154) -/

section
variable (s : State) (u n m : Nat)

theorem State.view_of_up {s t : State} {u : Nat} (h : Only (· ≠ .up u) s t) (m : Nat) : t.view u m = s.view u m := by
  rw [State.view, h.up, State.view]

theorem State.rtQueue_view (k a : Nat) (port : Option Nat) (hs : Bool) :
    (s.rtQueue k a port hs).view u m = s.view u m := by
  unfold State.view State.rtQueue
  by_cases h : u = k
  · subst h
    rw [State.up_modUp_self]
  · rw [State.up_modUp_ne _ _ h]

theorem State.rtDropOwner_view : (s.rtDropOwner n).view u m = s.view u m := by
  unfold State.rtDropOwner State.rtDropPort State.forEach
  split
  · exact foldl_same (State.view · u m) (fun t a => t.rtQueue_view u m _ a _ _) _ _
  · rfl

theorem State.demandFall_view : (s.demandFall n).view u m = s.view u m := by
  have hpower : (s.dropPower n).up u = s.up u := by
    apply Only.up
    apply State.dropPower_only (.refl _ _)
    all_goals (intros; exact nofun)
  have hdisch (t : State) : (t.discharge n).up u = t.up u := by
    apply Only.up
    apply State.discharge_only (.refl _ _)
    all_goals (intros; exact nofun)
  have hdrop (t : State) : (t.hubDrop n HS.off).up u = t.up u := by
    apply Only.up
    apply State.hubDrop_only (.refl _ _)
    all_goals (intros; exact nofun)
  have hoff : ((((s.dropPower n).clearMark n).discharge n).hubDrop n HS.off).view u m = s.view u m := by
    rw [State.view, hdrop, hdisch, State.clearMark, State.up_wr, hpower, State.view]
  rw [State.demandFall, State.view_modPort, State.view_wr, State.hubDown, State.rtDropOwner_view]
  exact hoff

theorem State.evalDemand_view : (s.evalDemand n).view u m = s.view u m := by
  have hshow : (s.oosShow n).view u m = s.view u m :=
    State.view_of_up (State.oosShow_only (.refl _ _) n nofun nofun) m
  have hrise (t : State) : (t.demandRise n).view u m = t.view u m := by
    apply State.view_of_up
    apply State.demandRise_only (.refl _ _)
    all_goals exact nofun
  unfold State.evalDemand
  extract_lets t
  split
  · exact hshow
  split
  · exact (hrise t).trans hshow
  split
  · split
    · exact hshow
    · exact (t.demandFall_view u n m).trans hshow
  · exact hshow

end

end Sys2Proof.Machine
end

section
/-! PROOFS. The port requests of R140 to an owned hub port. -/

namespace Sys2Proof.Machine

section
variable {s : State} {n : Nat}

/-- With the sector engine running a hub-class action is carried out at once (R16). -/
theorem State.hubDo_of_seUp (h : s.seUp n = true) (a : HubAct) : s.hubDo n a = s.hubAct n a := if_pos h

theorem State.viewPower_individual {u : Nat} (h : s.rd (UPS.CTL.PWRMODE u) = 0) (b : Bool) :
    s.viewPower u n b = s.setView u n { s.view u n with pwr := b } := if_neg (by simp [h])

end

/-- Settles O15: each request by its own row, on a port in a hub state that the row names. -/
theorem hubPortFeaturesComplete : Obligations.HubPortFeaturesComplete := by
  intro u j sel c n s hport
  refine ⟨?reset, ?suspend, ?test, ?indicator, .portReq_stall rfl hport rfl, ?power, ?noPower, ?disable, ?resume, ?auto,
    ?change⟩
  case reset =>
    intro hse hst
    refine .portReq rfl hport rfl fun t ht => ?_
    have hact : t.hubDo n .reset = t.startReset n := by
      rw [State.hubDo_of_seUp ((ht.seUp n).trans hse)]
      exact if_pos (ht.hub n ▸ hst)
    obtain ⟨hchirp, hsof⟩ := t.startReset_port n
    dsimp only
    rw [hact, ht.hub, State.on_eq, ht.hs]
    split
    · simp [State.startReset_hub, State.startReset_outs, hchirp, hsof]
    · next hno =>
      have hfs : s.rd (UPS.STS.HS u) ≠ 1 := fun hhs => hno ⟨hst, by simp [hhs]⟩
      simp [State.startReset_hub, State.startReset_outs, hchirp, hsof, hfs]
  case suspend =>
    intro hse hst
    refine .portReq rfl hport rfl fun t ht => ?_
    have hact : t.hubDo n .suspend = (t.leaveTo n HS.suspended).modPort n (fun p => { p with sofOn := false }) := by
      rw [State.hubDo_of_seUp ((ht.seUp n).trans hse)]
      exact if_pos ((ht.hub n).trans hst)
    dsimp only
    rw [hact, ht.hub, State.on_eq, ht.hs]
    split
    · simp [State.leaveTo, ht.outs, HS.suspended]
    · next hno =>
      have hfs : s.rd (UPS.STS.HS u) ≠ 1 := fun hhs => hno ⟨hst, by simp [hhs]⟩
      simp [State.leaveTo, ht.outs, HS.suspended, hfs]
  case test =>
    intro hlo hhi hse hst
    refine .portReq rfl hport (by simp [hlo, hhi]) fun t ht => ?_
    have hact : t.hubDo n (.test sel.toNat) =
        ((t.setHub n HS.test).wr (PRT.HUBSTS.TESTSEL n) sel.toNat).emit (.testMode n sel.toNat) := by
      rw [State.hubDo_of_seUp ((ht.seUp n).trans hse)]
      exact if_pos (ht.hub n ▸ hst)
    have hhub : ((t.setHub n HS.test).wr (PRT.HUBSTS.TESTSEL n) sel.toNat).hub n = HS.test :=
      (State.rd_wr_ne _ _ (Field.key_ne rfl rfl (by omega))).trans (t.hub_setHub n HS.test)
    have hsel : sel.toNat % 2 ^ (PRT.HUBSTS.TESTSEL n).width = sel.toNat := Nat.mod_eq_of_lt (show _ < 8 by omega)
    rw [hact]
    simp [hhub, hsel, ht.outs]
  case indicator =>
    intro hsel hind hmode
    refine .portReq rfl hport (by simpa using hsel) fun t ht => ?_
    have hauto : t.on (UPS.HUBCFG.IND u) = true ∧ t.rd (PRT.CTL.INDMODE n) = 0 := by
      unfold State.on
      simp (disch := with_unfolding_all refine Field.key_ne rfl rfl ?_; omega) only [ht.rd]
      simp [hind, hmode]
    rw [if_pos hauto]
    simp [ht.outs]
  case power =>
    intro hmode
    refine .portReq rfl hport rfl fun t ht => ?_
    simp [State.viewPower_individual (ht.pwrmode.trans hmode), State.evalDemand_view]
  case noPower =>
    intro hmode
    refine .portReq rfl hport rfl fun t ht => ?_
    simp [State.viewPower_individual (ht.pwrmode.trans hmode), State.evalDemand_view]
  case disable =>
    intro hse hst
    refine .portReq rfl hport rfl fun t ht => ?_
    have hact : t.hubDo n .disable =
        ((t.modPort n (fun p => { p with sofOn := false })).ttReset n).setHub n HS.disabling := by
      rw [State.hubDo_of_seUp ((ht.seUp n).trans hse)]
      exact if_pos ((ht.hub n).trans hst)
    rw [hact]
    simp [State.ttReset_sofOn, ht.outs, HS.disabling]
  case resume =>
    intro hse hst
    refine .portReq rfl hport rfl fun t ht => ?_
    have hact : t.hubDo n .resume = (t.emit (.kDrive n)).setHub n HS.resuming := by
      rw [State.hubDo_of_seUp ((ht.seUp n).trans hse)]
      exact if_pos ((ht.hub n).trans hst)
    rw [hact]
    simp [ht.outs, HS.resuming]
  case auto => exact .portReq rfl hport rfl fun t ht => by simp [ht.outs]
  case change => exact .portReq rfl hport rfl fun t ht => by simp [ht.outs, ht.view]

end Sys2Proof.Machine
end

section
/-! PROOFS. Bus reset and the standard requests of a running personality. -/

namespace Sys2Proof.Machine

/-! ## Standard requests (R134, R138) -/

section
variable {c : Sys2Proof.Instr} {u : Nat} {s : State} {P : State → Prop}

theorem State.resc_of_running (h : s.phase = .running) (u : Nat) : s.resc u = false := by simp [State.resc, h]

/-- A standard request to a personality in Default, Address or Configured takes effect. -/
theorem Completes.stdReq {act rescue : State → State} (he : exec c s = done (s.fresh.stdReq u act rescue))
    (hrun : s.phase = .running) (hlo : 2 ≤ s.rd (UPS.STS.DEVSTATE u)) (hhi : s.rd (UPS.STS.DEVSTATE u) ≤ 4)
    (h : ∀ t, Requested u s t → P (act t)) : Completes c s P := by
  refine ⟨_, he, ?_⟩
  have hact : s.fresh.stdReq u act rescue = act (s.fresh.newSetup u) := by
    simp [State.stdReq, State.resc_of_running (s := s.fresh) hrun, State.active, hrun, hlo, hhi]
  rw [hact]
  exact h _ (.of_newSetup s u)

end

namespace Requested

variable {u : Nat} {s t : State} (h : Requested u s t)
include h

theorem devstate : t.rd (UPS.STS.DEVSTATE u) = s.rd (UPS.STS.DEVSTATE u) := by
  simp (disch := with_unfolding_all refine Field.key_ne rfl rfl ?_; omega) only [h.rd]

theorem altset : t.rd (UPS.STS.ALTSET u) = s.rd (UPS.STS.ALTSET u) := by
  simp (disch := with_unfolding_all refine Field.key_ne rfl rfl ?_; omega) only [h.rd]

theorem rwakeen : t.rd (UPS.STS.RWAKEEN u) = s.rd (UPS.STS.RWAKEEN u) := by
  simp (disch := with_unfolding_all refine Field.key_ne rfl rfl ?_; omega) only [h.rd]

theorem descriptor (ty idx : Nat) : t.descriptor u ty idx = s.descriptor u ty idx := by
  unfold State.descriptor State.devDesc State.cfgDesc State.ifaceDesc State.on
  simp (disch := with_unfolding_all refine Field.key_ne rfl rfl ?_; omega) only [h.rd, h.up]

end Requested

@[simp] theorem State.outs_ans (s : State) (u : Nat) (ok : Bool) :
    (s.ans u ok).outs = s.outs ++ [.usb u (if ok then .ack else .stall)] := rfl

@[simp] theorem State.rd_ans (s : State) (u : Nat) (ok : Bool) (f : Field) : (s.ans u ok).rd f = s.rd f := rfl

/-! ## Bus reset (R138, R145) -/

/-- What a bus reset shows: Default at address 0, at the speed of the link, neither suspended nor allowed to wake. -/
theorem State.busResetEffect_shows (s : State) (u : Nat) (hs : Bool) :
    (s.busResetEffect u hs).rd (UPS.STS.DEVSTATE u) = 2 ∧ (s.busResetEffect u hs).rd (UPS.STS.ADDR u) = 0 ∧
      (s.busResetEffect u hs).rd (UPS.STS.HS u) = hs.toNat ∧ (s.busResetEffect u hs).rd (UPS.STS.SUSP u) = 0 ∧
      (s.busResetEffect u hs).rd (UPS.STS.RWAKEEN u) = 0 ∧ (s.busResetEffect u hs).rd (UPS.EVT.BUSRST u) = 1 := by
  unfold State.busResetEffect
  extract_lets s1 s2 s3
  have h3 : s3.rd (UPS.STS.DEVSTATE u) = 2 ∧ s3.rd (UPS.STS.ADDR u) = 0 ∧ s3.rd (UPS.STS.HS u) = hs.toNat ∧
      s3.rd (UPS.STS.SUSP u) = 0 ∧ s3.rd (UPS.STS.RWAKEEN u) = 0 ∧ s3.rd (UPS.EVT.BUSRST u) = 1 := by
    simp (disch := with_unfolding_all refine Field.key_ne rfl rfl ?_; omega) only [s3, s2, State.rd_modUp,
      State.raise_eq_wr, State.flag_eq_wr, State.bump_eq_wr, State.rd_wr_ne, State.rd_wr_self]
    exact ⟨rfl, rfl, Nat.mod_eq_of_lt hs.toNat_lt, rfl, rfl, rfl⟩
  split
  · exact h3
  · simpa (disch := with_unfolding_all refine Field.key_ne rfl rfl ?_; omega) only [State.raise_eq_wr, State.rd_wr_ne]
      using h3

/-! ## The end of a transfer in progress (R144) -/

/-- A vendor write that is being staged is discarded by a new SETUP, and the abort is shown. -/
theorem State.newSetup_staged {s : State} {u a : Nat} {bs : List Byte} (h : (s.up u).ctl = .vendorWrite a bs) :
    (s.newSetup u).rd (UPS.EVT.CTLABORT u) = 1 ∧ (s.newSetup u).rd (UPS.STS.STAGED u) = 0 := by
  unfold State.newSetup State.ctlAbort
  rw [h]
  simp (disch := with_unfolding_all refine Field.key_ne rfl rfl ?_; omega) only [State.rd_modUp, State.raise_eq_wr,
    State.bump_eq_wr, State.rd_wr_ne, State.rd_wr_self]
  exact ⟨rfl, rfl⟩

/-- A TT reset writes QSTS.STOPPED alone. -/
theorem State.ttResets_rd (s : State) (l : List Nat) {f : Field} (h : ∀ n, f.key ≠ (PRT.QSTS.STOPPED n).key) :
    (s.forEach l (fun t n => t.ttReset n)).rd f = s.rd f :=
  Only.rd (.forEach (.refl _ _) l _ fun _ n ht => State.ttReset_only ht n nofun (by simpa using (h n).symm))

/-- Settles O16: each request by its own row, in a device state that the row names. -/
theorem upstreamRequestsComplete : Obligations.UpstreamRequestsComplete := by
  intro u hs adr v i len bs sel a s hrun
  refine ⟨?busReset, ?setAddress, ?setConfiguration, ?setInterface, ?getDescriptor, ?getStatus, ?testMode, ?abort⟩
  case busReset =>
    intro hlo hhi
    refine ⟨_, rfl, ?_⟩
    rw [if_neg (by simp [State.resc_of_running hrun]), if_pos (by simp [State.active, hrun, hlo, hhi])]
    exact s.fresh.busResetEffect_shows u hs
  case setAddress =>
    intro hd
    refine .stdReq rfl hrun (by omega) (by omega) fun t ht => ?_
    have hstate : t.rd (UPS.STS.DEVSTATE u) ≤ 3 := by
      rw [ht.devstate]
      omega
    have hlt : adr.toNat < 2 ^ 7 := adr.isLt
    rw [if_pos hstate]
    simp (disch := with_unfolding_all refine Field.key_ne rfl rfl ?_; omega) only [State.rd_ans, State.outs_ans,
      State.rd_wr_ne, State.rd_wr_self, State.wr_outs, ht.outs]
    refine ⟨Nat.mod_eq_of_lt hlt, ?_, rfl⟩
    split <;> rfl
  case setConfiguration =>
    intro hd
    refine .stdReq rfl hrun (by omega) (by omega) fun t ht => ?_
    dsimp only
    rw [if_pos ⟨rfl, .inl (ht.devstate.trans hd)⟩]
    simp (disch := with_unfolding_all refine Field.key_ne rfl rfl ?_; omega) only [State.rd_ans, State.outs_ans,
      State.raise_eq_wr, State.rd_wr_ne, State.rd_wr_self, State.wr_outs, State.outs_modUp, ht.outs]
    exact ⟨rfl, rfl, rfl, rfl⟩
  case setInterface =>
    intro hd hhs halt
    refine .stdReq rfl hrun (by omega) (by omega) fun t ht => ?_
    have hon : t.on (UPS.STS.HS u) = true := by simp [ht.hs, hhs]
    have hnew : ¬ (1 : Byte).toNat = t.rd (UPS.STS.ALTSET u) := by simp [ht.altset, halt]
    dsimp only
    rw [if_pos ⟨ht.devstate.trans hd, .inr ⟨rfl, hon⟩⟩, if_neg hnew]
    simp (disch := intro n; with_unfolding_all refine Field.key_ne rfl rfl ?_; omega) only [State.rd_ans,
      State.ttResets_rd, State.outs_ans]
    simp (disch := with_unfolding_all refine Field.key_ne rfl rfl ?_; omega) only [State.raise_eq_wr, State.rd_wr_ne,
      State.rd_wr_self]
    exact ⟨rfl, rfl, List.mem_append_right _ (List.mem_singleton_self _)⟩
  case getDescriptor =>
    intro hlo hhi hdesc
    exact .stdReq rfl hrun hlo hhi fun t ht => by simp [State.dataAns, ht.descriptor, hdesc, ht.outs]
  case getStatus =>
    intro hlo hhi
    exact .stdReq rfl hrun hlo hhi fun t ht => by simp [State.dataAns, ht.rwakeen, ht.outs, b]
  case testMode =>
    intro hd hlo hhi
    have ht := Requested.of_newSetup s u
    refine ⟨_, rfl, ?_⟩
    unfold State.testMode
    rw [if_neg (by simp [State.resc_of_running (s := s.fresh) hrun]), if_pos ⟨by simp [State.active, hrun], hd⟩]
    dsimp only
    rw [if_pos ⟨hlo, hhi⟩]
    simp only [State.rd_modUp, State.rd_emit, State.rd_wr_self, State.outs_modUp, State.emit_outs, State.wr_outs,
      State.outs_ans, ht.outs]
    exact ⟨rfl, rfl⟩
  case abort =>
    intro hd hctl
    refine .guarded rfl (by simp [State.active, hrun, hd]) ?_
    obtain ⟨habort, hstaged⟩ := State.newSetup_staged (s := s.fresh) hctl
    exact ⟨habort, hstaged, by rw [(Requested.of_newSetup s u).up]⟩

end Sys2Proof.Machine
end

section
/-! PROOFS. The status-change endpoint, suspend, wake and resume of a personality. -/

namespace Sys2Proof.Machine

/-- A field whose key is written out lies below a bound. -/
theorem Field.key_lt {f : Field} {a i v w k : Nat} {c : Acc} {b : Bool} (hf : f = ⟨a, i, v, c, w, b⟩)
    (h : a * 32 + i < k) : f.key < k := by
  subst hf
  exact h

/-! ## An effect repeated over ports -/

section
variable {g : State → Nat → State}

theorem State.forEach_keep {Q : State → Prop} (hkeep : ∀ t k, Q t → Q (g t k)) (l : List Nat) {s : State} (h : Q s) :
    Q (s.forEach l g) := by
  induction l generalizing s with
  | nil => exact h
  | cons a l ih => exact ih (hkeep s a h)

/-- What each step gives its own index and no other step takes, the whole list has. -/
theorem State.forEach_mem {Q : Nat → State → Prop} (hset : ∀ t k, Q k (g t k)) (hkeep : ∀ t k j, Q j t → Q j (g t k))
    (s : State) (l : List Nat) : ∀ k ∈ l, Q k (s.forEach l g) := by
  induction l generalizing s with
  | nil => exact nofun
  | cons a l ih =>
    intro k hk
    obtain rfl | hk := List.mem_cons.mp hk
    · exact State.forEach_keep (fun t a => hkeep t a k) l (hset s k)
    · exact ih (g s a) k hk

end

/-! ## The status-change endpoint (R143) -/

section
variable (s : State) (u n : Nat)

theorem State.view_setView_ne {m : Nat} (v : View) (h : m ≠ n) : (s.setView u n v).view u m = s.view u m := by
  simp [State.view, State.setView, KMap.get_put_ne _ _ _ _ h]

/-- The ports that the endpoint carried stop being newly reportable. -/
theorem State.reported_views (l : List Nat) : ∀ k ∈ l,
    ((s.forEach l (fun t n => t.setView u n { t.view u n with fresh := false })).view u k).fresh = false := by
  refine State.forEach_mem (Q := fun k t => (t.view u k).fresh = false) (fun t k => ?_) (fun t k j hj => ?_) s l
  · rw [State.view_setView_self]
  · by_cases h : j = k
    · rw [h, State.view_setView_self]
    · rwa [State.view_setView_ne _ _ _ _ h]

theorem State.reported_toggle (l : List Nat) :
    ((s.forEach l (fun t n => t.setView u n { t.view u n with fresh := false })).up u).sentTog = (s.up u).sentTog :=
  foldl_same (fun t => (t.up u).sentTog) (fun t k => by simp [State.setView]) l s

/-! ## Suspend (R146) -/

/-- SOF stops on a port of a partition that is suspended. -/
def State.sofStop (s : State) (n : Nat) : State :=
  (s.mtrPause n).modPort n (fun p => { p with sofOn := false, frameM := 16384 })

theorem State.sofStops_port (l : List Nat) : ∀ k ∈ l, ((s.forEach l State.sofStop).port k).sofOn = false := by
  refine State.forEach_mem (Q := fun k t => (t.port k).sofOn = false) (fun t k => ?_) (fun t k j hj => ?_) s l
  · rw [State.sofStop, State.port_modPort_self]
  · by_cases h : j = k
    · rw [h, State.sofStop, State.port_modPort_self]
    · rwa [State.sofStop, State.port_modPort_ne _ _ h, State.mtrPause, State.port_modPort_ne _ _ h]

theorem State.sofStops_rd (l : List Nat) (f : Field) : (s.forEach l State.sofStop).rd f = s.rd f :=
  foldl_same (State.rd · f) (g := State.sofStop) (fun _ _ => rfl) l s

/-! ## K on a port, and the resume of a partition (R147, R148) -/

theorem State.driveK_up (k : Nat) : (s.driveK n).up k = s.up k := rfl

theorem State.driveK_outs : (s.driveK n).outs = s.outs ++ [.kDrive n] := rfl

theorem State.driveK_waking (m : Nat) : ((s.driveK m).port n).waking = (s.port n).waking := by
  unfold State.driveK State.leaveTo
  by_cases h : n = m
  · subst h
    simp
  · simp [State.port_modPort_ne _ _ h]

/-- A waking port is among those of its partition, and is marked (R147). -/
theorem State.wake_shows : n ∈ ((s.wake u n).up u).wakers ∧ ((s.wake u n).port n).waking = true := by
  unfold State.wake
  extract_lets h ws take s1 s2
  have h2 : n ∈ (s2.up u).wakers ∧ (s2.port n).waking = true := by
    simp only [s2, State.up_modPort, State.up_modUp_self, State.port_modPort_self, and_true]
    split
    · next hin => exact List.contains_iff_mem.mp hin
    · exact List.mem_append_right _ (List.mem_singleton_self n)
  refine State.forEach_keep (Q := fun t => n ∈ (t.up u).wakers ∧ (t.port n).waking = true) (fun t k ht => ?_) _ h2
  rwa [State.driveK_up, State.driveK_waking]

theorem State.partResume_up (k : Nat) : (s.partResume u).up k = s.up k := by
  apply Only.up
  apply State.partResume_only (.refl _ _)
  all_goals (intros; exact nofun)

/-- The resume of a partition writes words of its ports alone. -/
theorem State.partResume_rd {f : Field} (h : f.key < 0x10000 * 32) : (s.partResume u).rd f = s.rd f := by
  apply Only.rd
  apply State.partResume_only (.refl _ _)
  all_goals intros
  any_goals exact Part.field_ne rfl (by omega)
  all_goals exact nofun

theorem State.mem_partResume_outs {o : Out} (h : o ∈ s.outs) : o ∈ (s.partResume u).outs := by
  unfold State.partResume
  refine State.forEach_keep (Q := fun t => o ∈ t.outs) (g := fun t n => t.setHub n HS.restartS) (fun _ _ ht => ht) _ ?_
  refine State.forEach_keep (Q := fun t => o ∈ t.outs) (fun t k ht => ?_) _ h
  rw [State.driveK_outs]
  exact List.mem_append_left _ ht

theorem State.resumePorts_rd (l : List Nat) {f : Field} (h : f.key < 0x10000 * 32) :
    (s.forEach l (fun t n => t.resumePort u n)).rd f = s.rd f := by
  refine Only.rd (.forEach (.refl _ _) l _ fun t n ht => ?_)
  apply State.resumePort_only ht
  any_goals exact Part.field_ne rfl (by omega)
  all_goals exact nofun

end

/-- Settles O17: each event of the endpoint and of the bus by its own row. -/
theorem statusChangeAndSuspendComplete : Obligations.StatusChangeAndSuspendComplete := by
  intro u n s hrun
  have hact : s.active = true := by simp [State.active, hrun]
  refine ⟨?data, ?nak, ?stall, ?ack, ?suspend, ?wake, ?ignored, ?kStart, ?hostResume, ?kEnd, ?eop⟩
  case data =>
    intro hd hhalt hany
    refine .guarded rfl (by simp [hact, hd]) ?_
    rw [if_neg (by simp [hhalt]), if_pos hany, State.up_modUp_self]
    exact ⟨rfl, rfl⟩
  case nak =>
    intro hd hhalt hany
    refine .guarded rfl (by simp [hact, hd]) ?_
    rw [if_neg (by simp [hhalt]), if_neg (by simp [hany])]
    rfl
  case stall =>
    intro hd hhalt
    refine .guarded rfl (by simp [hact, hd]) ?_
    rw [if_pos hhalt]
    rfl
  case ack =>
    intro hsent
    refine .guarded rfl (by simp [hact, hsent]) ?_
    refine ⟨by rw [State.up_modUp_self], ?_, fun k hk => ?_⟩
    · rw [State.up_modUp_self, State.reported_toggle]
      rfl
    · rw [State.view, State.up_modUp_self]
      exact State.reported_views s.fresh u _ k hk
  case suspend =>
    intro hd hsusp
    refine .guarded rfl (by simp [hact, hd, hsusp]) ?_
    refine ⟨(State.sofStops_rd ..).trans ?_, (State.sofStops_rd ..).trans ?_, State.sofStops_port _ _⟩
    · simp (disch := with_unfolding_all refine Field.key_ne rfl rfl ?_; omega) only [State.raise_eq_wr, State.rd_wr_ne,
        State.rd_wr_self]
      rfl
    · exact State.rd_wr_self _ _ 1
  case wake =>
    intro hsusp hse howner howned hhub hen
    have hon : s.on (UPS.STS.RWAKEEN (s.owner n)) = true := by simp [howner, hen]
    refine .guarded rfl (by simp [hse, howner, howned, State.partSusp, hsusp, hhub]) ?_
    rw [if_pos hon, howner]
    exact s.fresh.wake_shows u n
  case ignored =>
    intro hsusp hse howner howned hhub hen
    have hoff : ¬ s.on (UPS.STS.RWAKEEN (s.owner n)) = true := by simp [howner, hen]
    refine .guarded rfl (by simp [hse, howner, howned, State.partSusp, hsusp, hhub]) ?_
    rw [if_neg hoff, howner]
    exact CountsUp.bump rfl
  case kStart =>
    intro hsusp hwake hhost hk
    refine .guarded rfl (by simp [hsusp, hwake, hhost, hk]) ⟨?_, rfl⟩
    rw [State.up_emit, State.up_modUp_self]
  case hostResume =>
    intro hsusp hwake hhost hk
    refine .guarded rfl (by simp [hact, hsusp]) ?_
    rw [if_pos (by simp [hwake, hhost, hk])]
    refine ⟨by rw [State.partResume_up, State.up_modUp_self], ?_⟩
    rw [State.partResume_rd _ _ (by with_unfolding_all refine Field.key_lt rfl ?_; omega)]
    exact State.rd_wr_self _ _ 1
  case kEnd =>
    intro hsusp hk
    refine .guarded rfl (by simp [hsusp, hk]) ?_
    extract_lets s1
    have hup : (s1.up u).kStarted = false ∧ (s1.up u).hostResume = true := by simp [s1]
    have hout : Out.upRelease u ∈ s1.outs := List.mem_singleton_self _
    split
    · exact ⟨hup.1, hup.2, hout⟩
    · rw [State.partResume_up]
      exact ⟨hup.1, hup.2, State.mem_partResume_outs _ _ hout⟩
  case eop =>
    intro hsusp hhost
    refine .guarded rfl (by simp [hact, hsusp, hhost]) ?_
    extract_lets s0 s1 s2
    have h1 : s1.rd (UPS.STS.SUSP u) = 0 ∧ ((s.up u).resumeSeen = false → s1.rd (UPS.EVT.RESUME u) = 1) := by
      have h0 : s0.rd (UPS.STS.SUSP u) = 0 := State.rd_wr_self _ _ 0
      unfold s1
      split
      · next hseen => exact ⟨h0, fun hno => absurd hseen (by simp [hno])⟩
      · exact ⟨(State.rd_wr_ne _ _ (Field.key_ne rfl rfl (by omega))).trans h0, fun _ => State.rd_wr_self _ _ 1⟩
    have h2 : s2.rd (UPS.STS.SUSP u) = 0 ∧ ((s.up u).resumeSeen = false → s2.rd (UPS.EVT.RESUME u) = 1) ∧
        ((s.up u).wakers ≠ [] → s2.rd (UPS.EVT.RWAKE u) = 1) := by
      obtain ⟨hsus, hres⟩ := h1
      unfold s2
      split
      · simp (disch := with_unfolding_all refine Field.key_ne rfl rfl ?_; omega) only [State.raise_eq_wr,
          State.bump_eq_wr, State.rd_wr_ne, State.rd_wr_self]
        exact ⟨hsus, hres, fun _ => rfl⟩
      · next hnone => exact ⟨hsus, hres, fun hw => absurd (by simpa using hw) hnone⟩
    simp (disch := with_unfolding_all refine Field.key_lt rfl ?_; omega) only [State.rd_modUp, State.up_modUp_self,
      State.resumePorts_rd, true_and]
    obtain ⟨hsus, hres, hwake⟩ := h2
    exact ⟨hsus, hres, hwake⟩

end Sys2Proof.Machine
end

section
/-! SUPPORT. A word of a port or of a personality that a requester writes: what is stored, and the effect of the
word. -/

namespace Sys2Proof.Machine

/-! ## Bits of a written word -/

theorem bitAt_withBit_self (v i : Nat) : bitAt (withBit v i true) i = true := by
  unfold withBit
  split
  · next h => exact h
  · next h =>
    simp only [bitAt, beq_iff_eq, if_pos, Nat.add_div_right _ (Nat.two_pow_pos i)] at h ⊢
    omega

theorem pulses_eq_bitAt (v : Nat) {f : Field} (h : f.width = 1) : pulses v f = bitAt v f.lo := by
  have hlt : v / 2 ^ f.lo % 2 ^ 1 < 2 := Nat.mod_lt _ (by omega)
  rw [pulses, inWord, bitsOf, h, bitAt, Bool.eq_iff_iff, bne_iff_ne, beq_iff_eq]
  omega

/-- A command bit that the word sets is given. -/
theorem pulses_withBit (v : Nat) {f : Field} {i : Nat} (h : f.width = 1) (hi : f.lo = i) :
    pulses (withBit v i true) f = true := by
  rw [pulses_eq_bitAt _ h, hi, bitAt_withBit_self]

/-! ## The words of a port -/

section
variable (s : State) (r : Requester) (n : Fin 48) (v : Nat) {o : Nat}

theorem blockOf_prt (ho : o < 0x400) : blockOf (0x10000 + 0x400 * n + o) = some (.prt n, o) := by
  have hn : (0x10000 + 0x400 * n.val + o - 0x10000) / 0x400 = n.val := by omega
  have hr : (0x10000 + 0x400 * n.val + o - 0x10000) % 0x400 = o := by omega
  simp (disch := omega) only [blockOf, if_neg, if_pos, hn, hr]

theorem faultWord_prt (ho : o < 0x100) : faultWord (0x10000 + 0x400 * n + o) = none := by
  refine faultWord_eq_none fun b => ?_
  cases b <;> simp only [FBlk.base] <;> omega

theorem wordFields_prt (ho : o < 0x400) : wordFields (0x10000 + 0x400 * n + o) = PRT.fields n o := by
  simp only [wordFields, blockOf_prt n ho, Blk.fields]

theorem readOnlyWord_prt : readOnlyWord (0x10000 + 0x400 * n + o) = false := by
  simp only [readOnlyWord, Bool.or_eq_false_iff, beq_eq_false_iff_ne]
  omega

/-- In Active a port's word is stored and its effect follows at once (R31, R390). -/
theorem State.commitWord_prt (hrun : s.phase = .running) (ho : o < 0x100) :
    s.commitWord r (0x10000 + 0x400 * n + o) v none = (s.storeWord (0x10000 + 0x400 * n + o) v).prtEffect r n o v
      (s.liveWord (0x10000 + 0x400 * n + o)) := by
  rw [← State.wordEffect_prt _ (faultWord_prt n ho) (blockOf_prt n (Nat.lt_trans ho (by decide)))]
  simp [State.commitWord, hrun]

theorem State.storeWord_owner : s.storeWord (0x10000 + 0x400 * n + 0xC) v =
    s.wr (PRT.OWNER.REQTO n) (inWord v (PRT.OWNER.REQTO n)) := by
  simp only [State.storeWord, readOnlyWord_prt, wordFields_prt n (o := 0xC) (by decide)]
  rfl

theorem State.storeWord_qcfg : s.storeWord (0x10000 + 0x400 * n + 0x60) v =
    s.wr (PRT.QCFG.ALMEN n) (inWord v (PRT.QCFG.ALMEN n)) := by
  simp only [State.storeWord, readOnlyWord_prt, wordFields_prt n (o := 0x60) (by decide)]
  rfl

theorem State.liveWord_qcfg : inWord (s.liveWord (0x10000 + 0x400 * n + 0x60)) (PRT.QCFG.ALMEN n) =
    s.rd (PRT.QCFG.ALMEN n) % 2 := by
  have hlive : s.liveWord (0x10000 + 0x400 * n + 0x60) = s.rd (PRT.QCFG.ALMEN n) % 2 := by
    rw [State.liveWord, wordFields_prt n (by decide)]
    show s.rd (PRT.QCFG.ALMEN n) % 2 * 1 + 0 = _
    omega
  rw [hlive]
  show s.rd (PRT.QCFG.ALMEN n) % 2 / 1 % 2 = _
  omega

theorem State.storeWord_oos : (s.storeWord (0x10000 + 0x400 * n + 8) v).rd (PRT.CTL.OOS n) =
    inWord v (PRT.CTL.OOS n) := by
  simp only [State.storeWord, readOnlyWord_prt, wordFields_prt n (o := 8) (by decide)]
  change (((((s.wr (PRT.CTL.OOS n) (inWord v (PRT.CTL.OOS n))).wr (PRT.CTL.INDMODE n) (inWord v (PRT.CTL.INDMODE n))).wr
    (PRT.CTL.INDSW n) (inWord v (PRT.CTL.INDSW n))).wr (PRT.CTL.FSONLY n) (inWord v (PRT.CTL.FSONLY n))).wr
    (PRT.CTL.LOCK n) (inWord v (PRT.CTL.LOCK n))).rd (PRT.CTL.OOS n) = _
  simp (disch := with_unfolding_all refine Field.key_ne rfl rfl ?_; omega) only [State.rd_wr_ne, State.rd_wr_self,
    inWord_mod_width]

@[simp] theorem State.port_setResult (c m : Nat) : (s.setResult r c).port m = s.port m := by
  cases r <;> rfl

/-- An accepted write of a port's word completes with E_OK and the effect of the word. -/
theorem Completes.prtWord {c : Sys2Proof.Instr} {a : Nat} {P : State → Prop} (he : exec c s = s.write1 r a v none)
    (ha : a = 0x10000 + 0x400 * n + o) (ho : o < 0x100) (hrun : s.phase = .running) (hacc : Accepts r a v s)
    (h : P (((s.fresh.storeWord a v).prtEffect r n o v (s.fresh.liveWord a)).setResult r 0)) :
    Completes c s (fun t => ResultOk r t ∧ P t) := by
  subst ha
  refine State.write1_accepted none he hacc (by omega) fun hok => ?_
  rw [State.commitWord_prt s.fresh r n v hrun ho] at hok ⊢
  exact ⟨hok, h⟩

end

end Sys2Proof.Machine
end

section
/-! PROOFS. Transaction translator requests, and the commands TTRST, ALMCLR and ALMEN. -/

namespace Sys2Proof.Machine

/-! ## The requests (R140, R181 to R183) -/

/-- A TT request in alternate setting 1 acts on the port that it names (R140). -/
theorem Completes.ttReq {c : Sys2Proof.Instr} {u i n : Nat} {s : State} {P : State → Prop} {own : State → Nat → State}
    {all : State → State} (he : exec c s = done (s.fresh.ttReq u i own all)) (hport : HubPortOf u i n s)
    (halt : s.rd (UPS.STS.ALTSET u) = 1) (h : ∀ t, Requested u s t → P ((own t n).emit (.usb u .ack))) :
    Completes c s P := by
  obtain ⟨hconf, hname, howns⟩ := hport
  refine .hubReq he hconf fun t ht => ?_
  rw [ht.hubPort, hname]
  simpa [ht.altset, halt, ht.owns, howns] using h t ht

section
variable (s : State) (n : Nat)

/-- After ClearTTBuffer no live buffer of the endpoint is left. -/
theorem State.clearTt_npLive (v : Nat) (hty : bitsOf v 11 2 = 0 ∨ bitsOf v 11 2 = 2) :
    ∀ b ∈ ((s.clearTt n v).port n).npLive, b.key ≠ (⟨bitsOf v 4 7, v % 16, bitAt v 15⟩ : Key) := by
  unfold State.clearTt
  extract_lets key ty s1
  have h1 : ∀ b ∈ (s1.port n).npLive, b.key ≠ key := by
    intro b hb
    simp only [s1, State.port_modPort_self, PortX.npLive] at hb
    obtain ⟨hmem, hlive⟩ := List.mem_filter.mp hb
    obtain ⟨c, -, rfl⟩ := List.mem_map.mp hmem
    by_cases hc : c.key = key
    · simp [hc] at hlive
    · rwa [if_neg (by simpa using hc)]
  split
  · split
    · rw [State.port_modPort_self, PortX.npLive, (s1.holdEnd_unheld n key.addr).np]
      exact h1
    · exact h1
  · next hnone =>
    intro b hb hkey
    exact hnone ⟨hty, List.any_eq_true.mpr ⟨b, hb, by simpa using hkey⟩⟩

theorem State.clearTt_outs (v : Nat) : (s.clearTt n v).outs = s.outs :=
  Only.outs (State.clearTt_only (.refl _ _) n v nofun)

/-- With nothing on the wire a StopTT stops the TT at once (R183). -/
theorem State.stopTt_idle (h : (s.port n).busBusy = false) : (s.stopTt n).rd (PRT.QSTS.STOPPED n) = 1 := by
  have hgo : ((s.modPort n (fun p => { p with stopDue := true })).port n).stopDue &&
      !((s.modPort n (fun p => { p with stopDue := true })).port n).busBusy := by
    rw [State.port_modPort_self]
    exact congrArg (!·) h
  unfold State.stopTt State.wireFree
  rw [if_pos hgo]
  exact State.rd_wr_self _ _ 1

/-- With a transaction on the wire a StopTT waits for its end (R183). -/
theorem State.stopTt_busy (h : (s.port n).busBusy = true) :
    s.stopTt n = s.modPort n (fun p => { p with stopDue := true }) := by
  have hwait : ¬(((s.modPort n (fun p => { p with stopDue := true })).port n).stopDue &&
      !((s.modPort n (fun p => { p with stopDue := true })).port n).busBusy) = true := by
    rw [State.port_modPort_self]
    exact fun hgo => Bool.false_ne_true ((congrArg (!·) h).symm.trans hgo)
  exact if_neg hwait

theorem State.stopTt_outs : (s.stopTt n).outs = s.outs := Only.outs (State.stopTt_only (.refl _ _) n nofun nofun)

/-! ## The commands of QCFG (R182, R189) -/

/-- Every entry of the port's Almanac is FREE. -/
def AlmFree (n : Nat) (t : State) : Prop := ∀ e ∈ (t.port n).alm, e.2.st = 0

theorem AlmEntry.drop_st (e : AlmEntry) : e.drop.st = 0 := by
  unfold AlmEntry.drop
  split <;> rfl

theorem State.almclrEffect_free : AlmFree n (s.almclrEffect n) := by
  intro e he
  rw [State.almclrEffect, State.almClear, State.port_modPort_self] at he
  obtain ⟨d, -, rfl⟩ := List.mem_map.mp (List.mem_filter.mp he).1
  exact d.2.drop_st

theorem State.almclrEffect_almen (m : Fin 48) : (s.almclrEffect m).rd (PRT.QCFG.ALMEN m) = s.rd (PRT.QCFG.ALMEN m) := by
  apply Only.rd
  apply State.almclrEffect_only (.refl _ _) m nofun
  all_goals exact Part.fields_ne rfl rfl (by omega)

theorem State.ldsPollLost_unheld : (s.port n).Unheld ((s.ldsPollLost n).port n) := by
  have hmiss (g : LdsPort → LdsPort) (t : State) : (t.port n).Unheld ((t.modLds n g).port n) := by
    rw [State.modLds, State.port_modPort_self]
    exact ⟨rfl, rfl, rfl, fun e he => ⟨e, he, rfl⟩⟩
  have hentry (e : RosterEntry) (t : State) : (t.port n).Unheld ((t.setEntry n e).port n) := by
    unfold State.setEntry State.ldsChange
    extract_lets old s1 s2
    have h1 : (t.port n).Unheld (s1.port n) := hmiss _ t
    have h2 : (t.port n).Unheld (s2.port n) := by simpa [s2] using h1
    split
    · split <;> exact h2
    · exact h2
  unfold State.ldsPollLost State.hbMiss
  extract_lets lim m s1
  have h1 : (s.port n).Unheld (s1.port n) := hmiss _ s
  clear_value s1
  split
  · split
    · exact h1.trans (hentry _ s1)
    · exact h1
  · exact .refl _

theorem State.ldsPollLost_rd {f : Field} (h : f.key < 0x20000 * 32) : (s.ldsPollLost n).rd f = s.rd f := by
  unfold State.ldsPollLost
  split
  · apply Only.rd
    apply State.hbMiss_only (.refl _ _)
    any_goals exact Part.field_ne rfl (by omega)
    all_goals exact nofun
  · rfl

end

section
variable (s : State) (r : Requester) (n : Fin 48) (v old : Nat)

/-- What TTRST in a word of QCFG does last. -/
def State.ttrstEffect (s : State) (n v : Nat) : State :=
  if pulses v (PRT.QCFG.TTRST n) then (s.ttReset n).ldsPollLost n else s

theorem State.prtEffect_qcfg : s.prtEffect r n 0x60 v old =
    (if pulses v (PRT.QCFG.ALMCLR n) then
      (if inWord old (PRT.QCFG.ALMEN n) ≠ s.rd (PRT.QCFG.ALMEN n) then s.almenEffect n else s).almclrEffect n
    else if inWord old (PRT.QCFG.ALMEN n) ≠ s.rd (PRT.QCFG.ALMEN n) then s.almenEffect n else s).ttrstEffect n v := rfl

theorem State.ttrstEffect_free {m : Nat} (h : AlmFree m s) : AlmFree m (s.ttrstEffect m v) := by
  unfold State.ttrstEffect
  split
  · intro e he
    obtain ⟨d, hd, hde⟩ := ((s.ttReset m).ldsPollLost_unheld m).st e he
    exact hde.symm.trans (s.ttReset_alm m h d hd)
  · exact h

theorem State.ttrstEffect_rd {m : Nat} {f : Field} (h : f.key < 0x20000 * 32) (hs : f.key ≠ (PRT.QSTS.STOPPED m).key) :
    (s.ttrstEffect m v).rd f = s.rd f := by
  unfold State.ttrstEffect
  split
  · rw [State.ldsPollLost_rd _ _ h]
    exact Only.rd (State.ttReset_only (.refl _ _) m nofun (by simpa using hs.symm))
  · rfl

end

section
variable {s : State} {r : Requester} {n : Fin 48} (hrun : s.phase = .running)
include hrun

/-- A write of QCFG stores ALMEN and then takes its effect. -/
theorem Completes.qcfg {c : Sys2Proof.Instr} {v : Nat} {P : State → Prop}
    (he : exec c s = s.write1 r (0x10060 + 0x400 * n) v none) (hacc : Accepts r (0x10060 + 0x400 * n) v s)
    (h : ∀ (t : State) (old : Nat), t.rd (PRT.QCFG.ALMEN n) = inWord v (PRT.QCFG.ALMEN n) →
      inWord old (PRT.QCFG.ALMEN n) = s.rd (PRT.QCFG.ALMEN n) % 2 →
      P ((t.prtEffect r n 0x60 v old).setResult r 0)) :
    Completes c s (fun t => ResultOk r t ∧ P t) := by
  have hword : 0x10060 + 0x400 * n.val = 0x10000 + 0x400 * n + 0x60 := by omega
  refine .prtWord s r n v he hword (by decide) hrun hacc ?_
  rw [hword, State.storeWord_qcfg]
  exact h _ _ (by rw [State.rd_wr_self, inWord_mod_width]) (State.liveWord_qcfg _ n)

theorem ttrst_stops (x : Word) (hacc : Accepts r (0x10060 + 0x400 * n) (withBit x.toNat 2 true) s) :
    Completes (.ttrst r n x) s (fun t => ResultOk r t ∧ (t.port n).npLive = [] ∧ (t.port n).perLive = [] ∧
      t.rd (PRT.QSTS.STOPPED n) = 0) := by
  refine .qcfg hrun rfl hacc fun t old _ _ => ?_
  have hgo : pulses (withBit x.toNat 2 true) (PRT.QCFG.TTRST n) = true := pulses_withBit _ rfl rfl
  rw [State.prtEffect_qcfg]
  generalize (if pulses _ _ = true then _ else _ : State) = y
  rw [State.ttrstEffect, if_pos hgo]
  obtain ⟨hnp, hper, -, -⟩ := (y.ttReset n).ldsPollLost_unheld n
  obtain ⟨hnone, hnone'⟩ := y.ttReset_live n
  rw [State.port_setResult, State.rd_setResult,
    State.ldsPollLost_rd _ _ (by with_unfolding_all refine Field.key_lt rfl ?_; omega)]
  exact ⟨by rw [PortX.npLive, hnp]; exact hnone, by rw [PortX.perLive, hper]; exact hnone', y.ttReset_stopped n⟩

theorem almclr_frees (x : Word) (hacc : Accepts r (0x10060 + 0x400 * n) (withBit x.toNat 1 true) s) :
    Completes (.almclr r n x) s (fun t => ResultOk r t ∧ AlmFree n t) := by
  refine .qcfg hrun rfl hacc fun t old _ _ => ?_
  have hgo : pulses (withBit x.toNat 1 true) (PRT.QCFG.ALMCLR n) = true := pulses_withBit _ rfl rfl
  rw [State.prtEffect_qcfg, if_pos hgo, AlmFree, State.port_setResult]
  generalize (if inWord old _ ≠ _ then _ else t : State) = y
  exact (y.almclrEffect n).ttrstEffect_free _ (y.almclrEffect_free n)

theorem almen_zero_frees (x : Word) (hon : s.rd (PRT.QCFG.ALMEN n) = 1)
    (hzero : inWord x.toNat (PRT.QCFG.ALMEN n) = 0) (hacc : Accepts r (0x10060 + 0x400 * n) x.toNat s) :
    Completes (.almenWrite r n x) s (fun t => ResultOk r t ∧ t.rd (PRT.QCFG.ALMEN n) = 0 ∧ AlmFree n t) := by
  refine .qcfg hrun rfl hacc fun t old hlive hold => ?_
  rw [hzero] at hlive
  have hchange : inWord old (PRT.QCFG.ALMEN n) ≠ t.rd (PRT.QCFG.ALMEN n) := by
    rw [hold, hon, hlive]
    decide
  have heff : t.almenEffect n = t.almclrEffect n := if_neg (by simp [hlive])
  rw [State.prtEffect_qcfg, if_pos hchange, heff, AlmFree, State.port_setResult, State.rd_setResult,
    State.ttrstEffect_rd (f := PRT.QCFG.ALMEN n) _ _ (by with_unfolding_all refine Field.key_lt rfl ?_; omega)
      (Field.key_ne rfl rfl (by omega))]
  have hoff : (t.almclrEffect n).rd (PRT.QCFG.ALMEN n) = 0 := (t.almclrEffect_almen n).trans hlive
  split
  · exact ⟨(State.almclrEffect_almen _ n).trans hoff, State.ttrstEffect_free _ _ (State.almclrEffect_free _ n)⟩
  · exact ⟨hoff, State.ttrstEffect_free _ _ (t.almclrEffect_free n)⟩

end

/-- Settles O45: the requests by their rows, and each command as the effect of its word. -/
theorem ttCommandsComplete : Obligations.TtCommandsComplete := by
  intro u j w r x n s
  have hword : 0x10060 + 0x400 * n.val = 0x10000 + 0x400 * n + 0x60 := by omega
  refine ⟨?clear, ?reset, ?stop, ?stopLater, ?ttrst, ?almclr, ?almen⟩
  case clear =>
    intro hport halt hty
    exact .ttReq rfl hport halt fun t ht =>
      ⟨t.clearTt_npLive n w.toNat hty, by rw [State.emit_outs, State.clearTt_outs, ht.outs]; rfl⟩
  case reset =>
    intro hport halt
    refine .ttReq rfl hport halt fun t ht => ?_
    obtain ⟨hnp, hper⟩ := t.ttReset_live n
    rw [State.port_emit, State.rd_emit]
    exact ⟨hnp, hper, t.ttReset_ctls n, t.ttReset_stopped n, by simp [ht.outs]⟩
  case stop =>
    intro hport hidle
    refine .portReq rfl hport rfl fun t ht => ⟨?_, by simp [State.stopTt_outs, ht.outs]⟩
    exact t.stopTt_idle n (by rw [ht.port, hidle])
  case stopLater =>
    intro hport hbusy
    refine .portReq rfl hport rfl fun t ht => ?_
    have hsts : t.rd (PRT.QSTS.STOPPED n) = s.rd (PRT.QSTS.STOPPED n) := by
      simp (disch := with_unfolding_all refine Field.key_ne rfl rfl ?_; omega) only [ht.rd]
    rw [State.stopTt_busy t n (by rw [ht.port, hbusy])]
    simp [hsts, ht.outs]
  case ttrst => exact fun hrun => ttrst_stops hrun x
  case almclr => exact fun hrun => almclr_frees hrun x
  case almen => exact fun hrun => almen_zero_frees hrun x

end Sys2Proof.Machine
end

section
/-! PROOFS. Ownership of a port: the handover, and the writes of OWNER, of PRSTRT and OOS, and of a personality's EN. -/

namespace Sys2Proof.Machine

/-! ## What a handover step shows (R260, R264) -/

section
variable (s : State) (n : Fin 48)

@[simp] theorem State.rd_wrVoted (f g : Field) (v : Nat) : (s.wrVoted f v).rd g = (s.wr f v).rd g := rfl

/-- The field stands in the OWNER word of the port. -/
structure OwnerField (n : Fin 48) (f : Field) : Prop where
  low : (0x1000C + 0x400 * n) * 32 ≤ f.key
  high : f.key < (0x10010 + 0x400 * n) * 32

theorem OwnerField.of_eq {f : Field} {a i v w : Nat} {c : Acc} {b : Bool} (hf : f = ⟨a, i, v, c, w, b⟩)
    (ha : a = 0x1000C + 0x400 * n ∧ i < 32) : OwnerField n f := by
  subst hf
  exact ⟨show _ ≤ a * 32 + i by omega, show a * 32 + i < _ by omega⟩

/-- The OWNER word as the losing owner's port is released. -/
def State.releaseWord (s : State) (n tgt code : Nat) : State :=
  (((s.wrVoted (PRT.OWNER.STATE n) 1).wr (PRT.OWNER.NEXT n) tgt).wr (PRT.OWNER.LASTBY n) code).wr (PRT.OWNER.LASTRES n) 0

/-- The work of RELEASING on the port writes nothing of OWNER but what the handover itself writes. -/
theorem State.toReleasing_owner (tgt code : Nat) {f : Field} (hf : OwnerField n f) :
    (s.toReleasing n tgt code).rd f = (s.releaseWord n tgt code).rd f := by
  obtain ⟨hlo, hhi⟩ := hf
  have hwork (t : State) : (((t.ldsRelease n).ttAndAlmanac n false true).relayReset n false).rd f = t.rd f := by
    apply Only.rd
    apply State.relayReset_only
    apply State.ttAndAlmanac_only
    apply State.ldsRelease_only (.refl _ _)
    all_goals intros
    any_goals exact Part.field_ne rfl (by omega)
    all_goals exact nofun
  have hstale (t : State) (sel : Pkt → Bool) : (t.dropStale sel).rd f = t.rd f := by
    apply Only.rd
    apply State.dropStale_only (.refl _ _)
    all_goals intros
    any_goals exact Part.field_ne rfl (by omega)
    all_goals exact nofun
  have hrt (t : State) (u : Nat) : ((t.rtDropPort u n).rtApply u).rd f = t.rd f := by
    apply Only.rd
    apply State.rtApply_only
    apply State.rtDropPort_only (.refl _ _)
    all_goals intros
    any_goals exact Part.field_ne rfl (by omega)
    all_goals exact nofun
  have hhub (t : State) (st : Nat) : (t.setHub n st).rd f = t.rd f := by
    apply Only.rd
    apply State.setHub_only (.refl _ _)
    all_goals exact Part.field_ne rfl (by omega)
  unfold State.toReleasing
  extract_lets s1 s2 s3 s4 st s5
  have h3 : s3.rd f = s1.rd f := (hstale s2 _).trans (hwork s1)
  have h4 : s4.rd f = s1.rd f := by
    simp only [s4]
    split
    · rw [hrt, h3]
    · exact h3
  rw [State.rd_modPort]
  simp only [s5]
  split
  · rw [hhub]
    split <;> exact h4
  · exact h4

/-- OWNER after RELEASING (R260): the target, who asked, and the owner that still stands. -/
theorem State.toReleasing_shows (tgt code : Nat) : (s.toReleasing n tgt code).rd (PRT.OWNER.STATE n) = 1 ∧
    (s.toReleasing n tgt code).rd (PRT.OWNER.NEXT n) = tgt % 8 ∧
    (s.toReleasing n tgt code).rd (PRT.OWNER.LASTBY n) = code % 8 ∧
    (s.toReleasing n tgt code).rd (PRT.OWNER.LASTRES n) = 0 ∧ (s.toReleasing n tgt code).owner n = s.owner n := by
  simp (disch := with_unfolding_all refine OwnerField.of_eq n rfl ?_; omega) only [State.owner,
    State.toReleasing_owner]
  simp (disch := with_unfolding_all refine Field.key_ne rfl rfl ?_; omega) only [State.releaseWord, State.rd_wr_ne,
    State.rd_wrVoted, State.rd_wr_self, and_true]
  exact ⟨rfl, rfl, rfl, rfl⟩

theorem State.toReleasing_request (tgt code : Nat) : ((s.toReleasing n tgt code).port n).request = none := by
  unfold State.toReleasing
  rw [State.port_modPort_self]

theorem State.toTransit_state : (s.toTransit n).rd (PRT.OWNER.STATE n) = 2 := by
  unfold State.toTransit
  simp (disch := with_unfolding_all refine Field.key_ne rfl rfl ?_; omega) only [State.rd_wr_ne, State.rd_wrVoted,
    State.rd_wr_self]
  rfl

theorem State.toTransit_own : (s.toTransit n).owner n = 7 := by
  rw [State.owner, State.toTransit, State.rd_wrVoted, State.rd_wr_self]
  rfl

theorem State.toTransit_next : (s.toTransit n).rd (PRT.OWNER.NEXT n) = s.rd (PRT.OWNER.NEXT n) := by
  apply Only.rd
  apply State.toTransit_only (.refl _ _)
  any_goals exact Part.fields_ne rfl rfl (by omega)
  all_goals intros
  any_goals exact Part.fields_ne rfl rfl (by omega)
  all_goals exact nofun

end

/-! ## A held request -/

section
variable (s : State) (n : Nat)

/-- The request that the port holds. -/
def State.heldRequest (s : State) (n : Nat) : Option (Nat × Nat) := (s.port n).request

theorem State.heldRequest_modPort (m : Nat) (g : PortX → PortX) (hg : ∀ p, (g p).request = p.request) :
    (s.modPort m g).heldRequest n = s.heldRequest n := by
  unfold State.heldRequest
  by_cases h : n = m
  · rw [h, State.port_modPort_self, hg]
  · rw [State.port_modPort_ne _ _ h]

theorem State.heldRequest_dropStale (sel : Pkt → Bool) : (s.dropStale sel).heldRequest n = s.heldRequest n := by
  refine foldl_same (State.heldRequest · n) (fun t p => ?_) _ s
  extract_lets t1
  have h1 : t1.heldRequest n = t.heldRequest n :=
    congrArg PortX.request (Only.port (s := t) (t := t.dropPkt p.id) (by
      apply State.dropPkt_only (.refl _ _) <;> (intros; nofun)))
  split
  · rw [← h1]
    exact t1.heldRequest_modPort n _ _ (fun _ => rfl)
  · exact h1

theorem State.heldRequest_setEntry (m : Nat) (e : RosterEntry) : (s.setEntry m e).heldRequest n = s.heldRequest n := by
  unfold State.setEntry State.ldsChange
  extract_lets old s1 s2
  have h2 : s2.heldRequest n = s.heldRequest n :=
    s.heldRequest_modPort n m (fun p => { p with lds := { p.lds with entry := e } }) (fun _ => rfl)
  split
  · split <;> exact h2
  · exact h2

theorem State.heldRequest_toTransit (m : Nat) : (s.toTransit m).heldRequest n = s.heldRequest n := by
  unfold State.toTransit
  extract_lets s1 e s2
  have h1 : s1.heldRequest n = s.heldRequest n := s.heldRequest_dropStale n _
  show s2.heldRequest n = _
  rw [← h1]
  simp only [s2]
  split
  · rfl
  · split
    · exact s1.heldRequest_setEntry n m _
    · exact s1.heldRequest_modPort n m _ (fun _ => rfl)

end

/-! ## The demand of a port -/

/-- A word that a change of demand leaves alone: the first of a personality, and CTL, OWNER and OWNCNT of a port. -/
def Undemanded (a : Nat) : Prop := 0xC000 ≤ a ∧ a < 0xD000 ∧ a % 0x400 = 0 ∨
  0x10000 ≤ a ∧ a < 0x1C000 ∧ (a % 0x400 = 8 ∨ a % 0x400 = 0xC ∨ a % 0x400 = 0x18)

theorem State.evalDemand_rd (s : State) (m : Nat) {f : Field} {a i v w : Nat} {c : Acc} {b : Bool}
    (hf : f = ⟨a, i, v, c, w, b⟩) (hi : i < 32) (ha : Undemanded a) : (s.evalDemand m).rd f = s.rd f := by
  unfold Undemanded at ha
  apply Only.rd
  apply State.evalDemand_only (.refl _ _)
  all_goals intros
  any_goals exact Part.fields_ne rfl hf (by omega)
  all_goals exact nofun

/-! ## The handover commands -/

section
variable {s : State} {n : Fin 48} (hrun : s.phase = .running)
include hrun

/-- A sampled request of an owned port is taken up at once (R260). -/
theorem exec_handoverReleasing {tgt c : Nat} (hreq : (s.port n).request = some (tgt, c))
    (hsampled : (s.port n).reqSampled = true) (howned : s.owned n = true) : exec (.handoverReleasing n) s =
      done (if (s.port n).restart || (s.port n).hr != .none || (s.sec (secOf n)).restarting then
        ((s.fresh.toReleasing n tgt c).toTransit n).modPort n (fun p => { p with hoHold := true, hoEnded := false })
      else s.fresh.toReleasing n tgt c) := by
  have hactive : s.active = true := by simp [State.active, hrun]
  show execHandoverReleasing n s = _
  simp only [execHandoverReleasing, hreq, howned, hactive, hsampled, Bool.not_true, Bool.or_self, Bool.false_eq_true,
    if_false]

theorem handoverReleasing_releases {tgt c : Nat} (hreq : (s.port n).request = some (tgt, c))
    (hsampled : (s.port n).reqSampled = true) (howned : s.owned n = true) (hrestart : (s.port n).restart = false)
    (hhr : (s.port n).hr = .none) (hsec : (s.sec (secOf n)).restarting = false) :
    Completes (.handoverReleasing n) s (fun t => t.rd (PRT.OWNER.STATE n) = 1 ∧ t.rd (PRT.OWNER.NEXT n) = tgt % 8 ∧
      t.rd (PRT.OWNER.LASTBY n) = c % 8 ∧ t.rd (PRT.OWNER.LASTRES n) = 0 ∧ t.owner n = s.owner n ∧
      (t.port n).request = none) := by
  obtain ⟨hstate, hnext, hby, hres, hown⟩ := s.fresh.toReleasing_shows n tgt c
  refine ⟨_, (exec_handoverReleasing hrun hreq hsampled howned).trans (congrArg done (if_neg ?_)), hstate, hnext, hby,
    hres, hown, s.fresh.toReleasing_request n tgt c⟩
  simp [hrestart, hhr, hsec]

/-- With a restart or hard reset running the port goes through RELEASING to TRANSIT at once (R264). -/
theorem handoverReleasing_transits {tgt c : Nat} (hreq : (s.port n).request = some (tgt, c))
    (hsampled : (s.port n).reqSampled = true) (howned : s.owned n = true)
    (hbusy : (s.port n).restart = true ∨ (s.port n).hr ≠ .none ∨ (s.sec (secOf n)).restarting = true) :
    Completes (.handoverReleasing n) s (fun t => t.rd (PRT.OWNER.STATE n) = 2 ∧ t.owner n = 7 ∧
      t.rd (PRT.OWNER.NEXT n) = tgt % 8 ∧ (t.port n).request = none) := by
  refine ⟨_, (exec_handoverReleasing hrun hreq hsampled howned).trans (congrArg done (if_pos ?_)), ?_⟩
  · simpa [or_assoc] using hbusy
  · obtain ⟨-, hnext, -⟩ := s.fresh.toReleasing_shows n tgt c
    rw [State.owner, State.rd_modPort, State.rd_modPort, State.rd_modPort, State.port_modPort_self]
    exact ⟨State.toTransit_state _ n, State.toTransit_own _ n, (State.toTransit_next _ n).trans hnext,
      (State.heldRequest_toTransit _ n n).trans (s.fresh.toReleasing_request n tgt c)⟩

/-- CLAIMING shows the new owner, and nothing is held any longer (R260). -/
theorem handoverClaiming_claims (hgo : (if (s.port n).hoHold then (s.port n).hoEnded &&
      (s.rd (PRT.OWNER.STATE n) == 2 || s.rd (PRT.OWNER.STATE n) == 3) else s.rd (PRT.OWNER.STATE n) == 2) = true) :
    Completes (.handoverClaiming n) s (fun t => t.rd (PRT.OWNER.STATE n) = 3 ∧
      t.owner n = s.rd (PRT.OWNER.NEXT n) % 8 ∧ (t.port n).hoHold = false) := by
  refine .guarded rfl (by simp only [State.active, hrun, hgo, beq_self_eq_true, Bool.and_self]) ?_
  extract_lets s1
  have h1 : s1.rd (PRT.OWNER.STATE n) = 3 ∧ s1.owner n = s.rd (PRT.OWNER.NEXT n) % 8 ∧ (s1.port n).hoHold = false := by
    simp (disch := with_unfolding_all refine Field.key_ne rfl rfl ?_; omega) only [s1, State.owner, State.rd_modPort,
      State.rd_wr_ne, State.rd_wrVoted, State.rd_wr_self, State.port_modPort_self, and_true]
    exact ⟨rfl, rfl⟩
  clear_value s1
  split
  · exact h1
  · exact h1

/-- The new owner holds the port (R260, R261). -/
theorem handoverOwned_owns (hstate : s.rd (PRT.OWNER.STATE n) = 3) (hhold : (s.port n).hoHold = false) :
    Completes (.handoverOwned n) s (fun t => t.rd (PRT.OWNER.STATE n) = 0 ∧ t.rd (PRT.OWNER.NEXT n) = 7 ∧
      t.owner n = s.owner n ∧ CountsUp (PRT.OWNCNT.DONE n) s t) := by
  refine .guarded rfl (by simp [State.active, hrun, hstate, hhold]) ?_
  extract_lets s1 s2
  have hkeep {f : Field} {a i v w : Nat} {c : Acc} {b : Bool} (hf : f = ⟨a, i, v, c, w, b⟩)
      (ha : a = 0x1000C + 0x400 * n ∧ i < 32 ∨ a = 0x10018 + 0x400 * n ∧ i < 16) :
      ((s2.modPort n (fun p => { p with hoEnded := false, claimDue := s.owner n == 4 })).evalDemand n).rd f =
        s1.rd f := by
    rw [State.evalDemand_rd _ n hf (by omega) (by unfold Undemanded; omega), State.rd_modPort]
    simp only [s2]
    split
    · exact State.rd_wr_ne _ _ (Field.key_ne hf rfl (by omega))
    · rfl
  have h1 : s1.rd (PRT.OWNER.STATE n) = 0 ∧ s1.rd (PRT.OWNER.NEXT n) = 7 ∧ s1.owner n = s.owner n := by
    simp (disch := with_unfolding_all refine Field.key_ne rfl rfl ?_; omega) only [s1, State.owner, State.bump,
      State.rd_wr_ne, State.rd_wrVoted, State.rd_wr_self]
    exact ⟨rfl, rfl, rfl⟩
  have hcount : CountsUp (PRT.OWNCNT.DONE n) s s1 := by
    apply CountsUp.bump
    simp (disch := with_unfolding_all refine Field.key_ne rfl rfl ?_; omega) only [State.rd_wr_ne, State.rd_wrVoted,
      State.rd_fresh]
  obtain ⟨hst, hnext, hown⟩ := h1
  exact ⟨(hkeep rfl (by omega)).trans hst, (hkeep rfl (by omega)).trans hnext, (hkeep rfl (by omega)).trans hown,
    (hkeep rfl (by omega)).trans hcount⟩

end

/-! ## The writes of OWNER and CTL (R165, R166, R256) -/

section
variable (s : State) (r : Requester) (n : Fin 48) (v old : Nat)

theorem State.prtEffect_owner : s.prtEffect r n 0xC v old =
    if pulses v (PRT.OWNER.GO n) then s.ownHold n (s.rd (PRT.OWNER.REQTO n)) r.code else s := rfl

theorem State.prtEffect_ctl : s.prtEffect r n 8 v old =
    if pulses v (PRT.CTL.PRSTRT n) then
      (if inWord old (PRT.CTL.OOS n) ≠ s.rd (PRT.CTL.OOS n) then s.evalDemand n else s).prstrtEffect n
    else if inWord old (PRT.CTL.OOS n) ≠ s.rd (PRT.CTL.OOS n) then s.evalDemand n else s := rfl

theorem State.ownHold_request (m tgt code : Nat) : ((s.ownHold m tgt code).port m).request = some (tgt, code) := by
  rw [State.ownHold, State.port_modPort_self]

theorem State.portRestart_shows (m : Nat) :
    ((s.portRestart m).port m).restart = true ∧ (s.portRestart m).hub m = HS.off := by
  unfold State.portRestart
  extract_lets
  rw [State.port_modPort_self, State.hub_modPort, State.hub_setHub]
  exact ⟨rfl, rfl⟩

end

/-! ## The words of a personality -/

section
variable (s : State) (r : Requester) (u : Fin 4) (v old : Nat)

theorem blockOf_ups : blockOf (0xC000 + 0x400 * u) = some (.ups u, 0) := by
  have hu : (0xC000 + 0x400 * u.val - 0xC000) / 0x400 = u.val := by omega
  have hr : (0xC000 + 0x400 * u.val - 0xC000) % 0x400 = 0 := by omega
  simp (disch := omega) only [blockOf, if_neg, if_pos, hu, hr]

theorem faultWord_ups : faultWord (0xC000 + 0x400 * u) = none := by
  refine faultWord_eq_none fun b => ?_
  cases b <;> simp only [FBlk.base] <;> omega

theorem readOnlyWord_ups : readOnlyWord (0xC000 + 0x400 * u) = false := by
  simp only [readOnlyWord, Bool.or_eq_false_iff, beq_eq_false_iff_ne]
  omega

theorem State.storeWord_en : (s.storeWord (0xC000 + 0x400 * u) v).rd (UPS.CTL.EN u) = inWord v (UPS.CTL.EN u) := by
  have hfields : wordFields (0xC000 + 0x400 * u) = UPS.fields u 0 := by
    simp only [wordFields, blockOf_ups, Blk.fields]
  simp only [State.storeWord, readOnlyWord_ups, hfields]
  change ((((((s.wr (UPS.CTL.EN u) (inWord v (UPS.CTL.EN u))).wr (UPS.CTL.PWRMODE u) (inWord v (UPS.CTL.PWRMODE u))).wr
    (UPS.CTL.RWAKEOK u) (inWord v (UPS.CTL.RWAKEOK u))).wr (UPS.CTL.CONNWAKE u) (inWord v (UPS.CTL.CONNWAKE u))).wr
    (UPS.CTL.BINTERVAL u) (inWord v (UPS.CTL.BINTERVAL u))).wr (UPS.CTL.LOCK u) (inWord v (UPS.CTL.LOCK u))).rd
    (UPS.CTL.EN u) = _
  simp (disch := with_unfolding_all refine Field.key_ne rfl rfl ?_; omega) only [State.rd_wr_ne, State.rd_wr_self,
    inWord_mod_width]

theorem State.enEffect_en : (s.enEffect u).rd (UPS.CTL.EN u) = s.rd (UPS.CTL.EN u) := by
  apply Only.rd
  apply State.enEffect_only (.refl _ _)
  all_goals intros
  any_goals exact Part.fields_ne rfl rfl (by omega)
  all_goals exact nofun

/-- What a write of a personality's first word does leaves EN as written (R138). -/
theorem State.wordEffect_en : (s.wordEffect r (0xC000 + 0x400 * u) v old none).rd (UPS.CTL.EN u) =
    s.rd (UPS.CTL.EN u) := by
  simp only [State.wordEffect, faultWord_ups, blockOf_ups, if_true]
  have h1 : (if inWord old (UPS.CTL.EN u) ≠ s.rd (UPS.CTL.EN u) then s.enEffect u else s).rd (UPS.CTL.EN u) =
      s.rd (UPS.CTL.EN u) := by
    split
    · exact s.enEffect_en u
    · rfl
  split
  · exact (foldl_same (State.rd · (UPS.CTL.EN u)) (fun t m => t.evalDemand_rd m rfl (by decide) (by unfold Undemanded; omega)) _ _).trans h1
  · exact h1

end

/-- Settles O53: the handover step by step, and each write as what its word stores and does. -/
theorem ownershipCommandsComplete : Obligations.OwnershipCommandsComplete := by
  intro r n u w tgt c s hrun
  have hctl : 0x10008 + 0x400 * n.val = 0x10000 + 0x400 * n + 8 := by omega
  refine ⟨?go, handoverReleasing_releases hrun, handoverReleasing_transits hrun, ?transit, ?claiming, ?claimingHeld,
    handoverOwned_owns hrun, ?prstrt, ?oos, ?en⟩
  case go =>
    intro hacc
    have hword : 0x1000C + 0x400 * n.val = 0x10000 + 0x400 * n + 0xC := by omega
    have hgo : pulses (withBit w.toNat 11 true) (PRT.OWNER.GO n) = true := pulses_withBit _ rfl rfl
    refine .prtWord s r n _ rfl hword (by decide) hrun hacc ?_
    rw [State.port_setResult, State.prtEffect_owner, if_pos hgo, State.ownHold_request, hword, State.storeWord_owner,
      State.rd_wr_self, inWord_mod_width]
  case transit =>
    intro hstate
    exact .guarded rfl (by simp [State.active, hrun, hstate]) ⟨s.fresh.toTransit_state n, s.fresh.toTransit_own n⟩
  case claiming =>
    intro hstate hhold
    obtain ⟨t, ht, hst, hown, -⟩ := handoverClaiming_claims (n := n) hrun (by simp [hstate, hhold])
    exact ⟨t, ht, hst, hown⟩
  case claimingHeld =>
    intro hstate hhold hended
    exact handoverClaiming_claims hrun (by simpa [hhold, hended] using hstate)
  case prstrt =>
    intro hacc
    have hgo : pulses (withBit w.toNat 0 true) (PRT.CTL.PRSTRT n) = true := pulses_withBit _ rfl rfl
    refine .prtWord s r n _ rfl hctl (by decide) hrun hacc ?_
    rw [State.prtEffect_ctl, if_pos hgo, State.port_setResult, State.hub, State.rd_setResult]
    exact State.portRestart_shows _ n
  case oos =>
    intro hacc hno
    have hgo : ¬pulses w.toNat (PRT.CTL.PRSTRT n) = true := by
      rw [pulses_eq_bitAt _ rfl]
      exact ne_true_of_eq_false hno
    refine .prtWord s r n _ rfl hctl (by decide) hrun hacc ?_
    rw [hctl, State.prtEffect_ctl, if_neg hgo, State.rd_setResult]
    split
    · exact (State.evalDemand_rd _ n rfl (by decide) (by unfold Undemanded; omega)).trans (State.storeWord_oos _ n _)
    · exact State.storeWord_oos _ n _
  case en =>
    intro hacc
    refine State.write1_accepted none rfl hacc (by omega) fun hok => ⟨hok, ?_⟩
    have hcommit : s.fresh.commitWord r (0xC000 + 0x400 * u) w.toNat none = (s.fresh.storeWord (0xC000 + 0x400 * u)
        w.toNat).wordEffect r (0xC000 + 0x400 * u) w.toNat (s.fresh.liveWord (0xC000 + 0x400 * u)) none := by
      simp [State.commitWord, hrun]
    rw [State.rd_setResult, hcommit, State.wordEffect_en, State.storeWord_en]

end Sys2Proof.Machine
end

section
/-! PROOFS. The Type-C events refuted by one state, where the port die holds and error recovery waits. -/

namespace Sys2Proof.Machine

/-- Port 0 is Attached.SRC while the link of its sector is lost and its port die runs in autonomous hold (R15). -/
def attachedInHold : State :=
  (State.reset.modSec 0 fun x => { x with lost := true, dieUp := true }).wr (PRT.TCSTS.TCSTATE 0) 6

/-- Refutes O19: CC rises above 5.5 V on a port in autonomous hold. The error recovery is the policy core's work, which
is due when the link is restored, so TCSTATE stays at 6. -/
theorem not_typeCEventsComplete : ¬ Obligations.TypeCEventsComplete := by
  intro h
  obtain ⟨-, -, -, -, -, -, -, -, -, -, hovervoltage, -⟩ := h 0 false false 0 ⟨0, 0, 0, 0, 0, 0, 0, 0⟩ attachedInHold
  have hstays : ∃ t, exec (.ccOvervoltage 0) attachedInHold = .next t ∧ t.tc 0 = 6 := ⟨_, rfl, by decide +kernel⟩
  obtain ⟨t, ht, hsix⟩ := hstays
  exact not_completes ht (fun ⟨hnine, _⟩ => absurd (hsix.symm.trans hnine) (by decide))
    (hovervoltage (by decide +kernel) (by decide +kernel))

end Sys2Proof.Machine
end

section
/-! SUPPORT. A port's restart in progress through the evaluation of its demand (R154, R165). -/

namespace Sys2Proof.Machine

section
variable (s : State) (n m : Nat)

/-! ## Updates of a port's record -/

@[simp] theorem State.modPort_restart {g : PortX → PortX} (hg : ∀ p, (g p).restart = p.restart) :
    ((s.modPort n g).port m).restart = (s.port m).restart := by
  by_cases h : m = n
  · rw [h, State.port_modPort_self, hg]
  · rw [State.port_modPort_ne _ _ h]

@[simp] theorem State.modLds_restart (g : LdsPort → LdsPort) :
    ((s.modLds n g).port m).restart = (s.port m).restart := s.modPort_restart n m (fun _ => rfl)

/-! ## Lodestar's work on the port -/

theorem State.ldsChange_port : (s.ldsChange n).port m = s.port m := by
  unfold State.ldsChange
  split <;> rfl

@[simp] theorem State.setEntry_restart (e : RosterEntry) : ((s.setEntry n e).port m).restart = (s.port m).restart := by
  unfold State.setEntry
  extract_lets old s1 s2
  have h2 : (s2.port m).restart = (s.port m).restart := s.modLds_restart n m fun l => { l with entry := e }
  split
  · rw [State.ldsChange_port, h2]
  · exact h2

@[simp] theorem State.ldsEnd_restart (result st : Nat) :
    ((s.ldsEnd n result st).port m).restart = (s.port m).restart := by
  unfold State.ldsEnd
  extract_lets t e s1 s2
  have h2 : (s2.port m).restart = (s.port m).restart := by
    dsimp only [s2, s1]
    rw [State.modLds_restart, State.setEntry_restart]
    rfl
  split <;> exact h2

@[simp] theorem State.ldsDetach_restart : ((s.ldsDetach n).port m).restart = (s.port m).restart := by
  unfold State.ldsDetach
  extract_lets s1
  have h1 : (s1.port m).restart = (s.port m).restart := s.modLds_restart n m _
  split
  · rfl
  split
  · exact h1
  split
  · rw [State.ldsEnd_restart, h1]
  split
  · rw [State.setEntry_restart, h1]
  · exact h1

/-! ## The translator, the Almanac and the relay -/

@[simp] theorem State.restrand_restart (sel : Key → Bool) :
    ((s.restrand n sel).port m).restart = (s.port m).restart := by
  unfold State.restrand
  extract_lets
  split <;> simp

@[simp] theorem State.withdrawAll_restart (counted : Bool) :
    ((s.withdrawAll n counted).port m).restart = (s.port m).restart := by
  unfold State.withdrawAll
  split <;> simp

@[simp] theorem State.unpoll_restart : ((s.unpoll n).port m).restart = (s.port m).restart := by
  unfold State.unpoll
  extract_lets
  split <;> simp

/-- A translator that is cut off with its Almanac leaves the restart of its port. -/
@[simp] theorem State.ttAndAlmanac_cut_restart (counted : Bool) :
    ((s.ttAndAlmanac n true counted).port m).restart = (s.port m).restart := by
  unfold State.ttAndAlmanac State.almClear State.ttCut
  cases counted <;> simp

theorem State.dropPkt_port (id : Nat) : (s.dropPkt id).port m = s.port m := by
  apply Only.port
  apply State.dropPkt_only (.refl _ _)
  all_goals (intros; exact nofun)

@[simp] theorem State.withdrawSlot_restart (k : Key) : ((s.withdrawSlot n k).port m).restart = (s.port m).restart := by
  unfold State.withdrawSlot
  split
  · rfl
  · split <;> simp [State.dropHeld_port]

theorem State.withdrawSlots_restart (sel : Slot → Bool) :
    ((s.withdrawSlots n sel).port m).restart = (s.port m).restart :=
  foldl_same (fun t : State => (t.port m).restart) (fun t _ => t.withdrawSlot_restart n m _) _ s

theorem State.dropStale_restart (sel : Pkt → Bool) : ((s.dropStale sel).port m).restart = (s.port m).restart := by
  refine foldl_same (fun t : State => (t.port m).restart) (fun t p => ?_) _ s
  split <;> simp [State.dropPkt_port]

@[simp] theorem State.relayReset_restart (stale : Bool) :
    ((s.relayReset n stale).port m).restart = (s.port m).restart := by
  unfold State.relayReset
  split <;> simp [State.dropStale_restart, State.withdrawSlots_restart]

/-! ## The port's hub state -/

@[simp] theorem State.rtDropOwner_port : (s.rtDropOwner n).port m = s.port m :=
  Only.port (State.rtDropOwner_only (.refl _ _) n fun _ => nofun)

@[simp] theorem State.hubDown_restart (st : Nat) : ((s.hubDown n st).port m).restart = (s.port m).restart := by
  have hend : (s.endDrive n).port m = s.port m := Only.port (State.endDrive_only (.refl _ _) n nofun)
  simp [State.hubDown, State.hubDrop, hend]

/-! ## VBUS, VCONN and the contract -/

theorem State.setK_port (k : Nat) : (s.setK n k).port m = s.port m := OffPd.port (s.setK_offPd n k) m
theorem State.setC_port (k : Nat) : (s.setC n k).port m = s.port m := OffPd.port (s.setC_offPd n k) m

@[simp] theorem State.discharge_restart : ((s.discharge n).port m).restart = (s.port m).restart := by
  unfold State.discharge State.vbusGone
  split
  · simp
  · split <;> simp [State.setK_port]

@[simp] theorem State.pgFall_restart : ((s.pgFall n).port m).restart = (s.port m).restart := by
  unfold State.pgFall
  split <;> simp

theorem State.gateOff_restart (fast : Bool) : ((s.gateOff n fast).port m).restart = (s.port m).restart := by
  unfold State.gateOff
  split <;> simp [State.setC_port]

theorem State.endContract_restart : ((s.endContract n).port m).restart = (s.port m).restart := by
  unfold State.endContract State.pdForget
  split <;> simp

theorem PortX.hrStop_restart (p : PortX) : p.hrStop.restart = p.restart := by
  unfold PortX.hrStop
  split <;> rfl

theorem State.dropPower_restart : ((s.dropPower n).port m).restart = (s.port m).restart := by
  have hexit (t : State) : (t.modeExit n).port m = t.port m := by
    apply Only.port
    apply State.modeExit_only (.refl _ _)
    all_goals (intros; exact nofun)
  have hwet (t : State) : (t.wetEnd n).port m = t.port m :=
    Only.port (State.wetEnd_only (.refl _ _) n nofun nofun nofun nofun nofun)
  simp [State.dropPower, State.unwait, State.ccOpen, PortX.hrStop_restart, hwet, hexit, State.vconnOff_port,
    State.gateOff_restart, State.endContract_restart]

/-! ## The demand (R154) -/

theorem State.demandRise_restart : ((s.demandRise n).port m).restart = (s.port m).restart := by
  unfold State.demandRise State.ccOn
  split <;> simp

theorem State.demandFall_restart : ((s.demandFall n).port m).restart = (s.port m).restart := by
  simp [State.demandFall, State.clearMark, State.dropPower_restart]

/-- The evaluation of a demand neither begins nor ends a restart. -/
theorem State.evalDemand_restart : ((s.evalDemand n).port m).restart = (s.port m).restart := by
  have hshow : (s.oosShow n).port m = s.port m := Only.port (State.oosShow_only (.refl _ _) n nofun nofun)
  unfold State.evalDemand
  extract_lets t
  rw [← hshow]
  split
  · rfl
  split
  · exact t.demandRise_restart n m
  split
  · split
    · rfl
    · exact t.demandFall_restart n m
  · rfl

theorem State.handoverRelease_restart : ((s.handoverRelease n).port m).restart = (s.port m).restart := by
  unfold State.handoverRelease
  split <;> simp

end

end Sys2Proof.Machine
end

section
/-! PROOFS. The line events of a downstream port. -/

namespace Sys2Proof.Machine

/-! ## The hub words of a port through shared operations -/

/-- The field stands in HUBSTS or HUBCHG of the port (R170). -/
structure HubField (n : Nat) (f : Field) : Prop where
  low : (0x10000 + 0x400 * (n % 48)) * 32 ≤ f.key
  high : f.key < (0x10008 + 0x400 * (n % 48)) * 32

theorem HubField.of_eq {n : Nat} {f : Field} {a i v w : Nat} {c : Acc} {b : Bool} (hf : f = ⟨a, i, v, c, w, b⟩)
    (ha : 0x10000 + 0x400 * (n % 48) ≤ a ∧ a < 0x10008 + 0x400 * (n % 48) ∧ i < 32) : HubField n f := by
  subst hf
  exact ⟨show _ ≤ a * 32 + i by omega, show a * 32 + i < _ by omega⟩

section
variable (s : State) (n : Nat)

/-- As a device goes, its translator, its relay and its resets of addresses write nothing of the hub words. -/
theorem State.deviceGone_rd {f : Field} (hf : HubField n f) :
    (((s.ttAndAlmanac n true true).relayReset n true).rtDropOwner n).rd f = s.rd f := by
  obtain ⟨hlo, hhi⟩ := hf
  apply Only.rd
  apply State.rtDropOwner_only
  · apply State.relayReset_only
    apply State.ttAndAlmanac_only (.refl _ _)
    all_goals intros
    any_goals exact Part.field_ne rfl (by omega)
    all_goals exact nofun
  · exact fun _ => nofun

theorem State.ldsAttach_rd {f : Field} (hf : HubField n f) : (s.ldsAttach n).rd f = s.rd f := by
  obtain ⟨hlo, hhi⟩ := hf
  apply Only.rd
  apply State.ldsAttach_only (.refl _ _)
  any_goals exact Part.field_ne rfl (by omega)
  all_goals exact nofun

theorem State.ldsDetach_rd {f : Field} (hf : HubField n f) : (s.ldsDetach n).rd f = s.rd f := by
  obtain ⟨hlo, hhi⟩ := hf
  apply Only.rd
  apply State.ldsDetach_only (.refl _ _)
  any_goals exact Part.field_ne rfl (by omega)
  all_goals exact nofun

/-! ## Hub events (R142, R170) -/

section
variable (f : Field)

theorem State.hubEvt_connection_rd : (s.hubEvt n 0).rd f = (s.wr (PRT.HUBCHG.C_CONNECTION n) 1).rd f := rfl
theorem State.hubEvt_enable_rd : (s.hubEvt n 1).rd f = (s.wr (PRT.HUBCHG.C_ENABLE n) 1).rd f := rfl
theorem State.hubEvt_suspend_rd : (s.hubEvt n 2).rd f = (s.wr (PRT.HUBCHG.C_SUSPEND n) 1).rd f := rfl
theorem State.hubEvt_reset_rd : (s.hubEvt n 4).rd f = (s.wr (PRT.HUBCHG.C_RESET n) 1).rd f := rfl

end

/-! ## What each event shows -/

/-- A device goes from an enabled port: the port is Disconnected, and the change is shown (R161). -/
theorem State.hubDisconnect_shows (h : s.hub n = HS.enabled) :
    (s.hubDisconnect n).hub n = HS.disconnected ∧ (s.hubDisconnect n).rd (PRT.HUBSTS.CONNECTION n) = 0 ∧
      (s.hubDisconnect n).rd (PRT.HUBCHG.C_CONNECTION n) = 1 := by
  unfold State.hubDisconnect
  extract_lets st s1 s2 s3
  have hst : st = HS.enabled := h
  have h3 {f : Field} (hf : HubField n f) : s3.rd f = s2.rd f := s2.deviceGone_rd n hf
  have h2 : s2.hub n = HS.disconnected ∧ s2.rd (PRT.HUBSTS.CONNECTION n) = 0 ∧
      s2.rd (PRT.HUBCHG.C_CONNECTION n) = 1 := by
    simp (disch := with_unfolding_all refine Field.key_ne rfl rfl ?_; omega) only [s2, s1, State.hub, State.setHub,
      State.hubEvt_connection_rd, State.flag_eq_wr, State.rd_wr_ne, State.rd_wr_self]
    exact ⟨rfl, rfl, rfl⟩
  rw [if_pos (by rw [hst]; rfl)]
  simpa (disch := with_unfolding_all refine HubField.of_eq rfl ?_; omega) only [State.hub, State.ldsDetach_rd,
    State.rd_modPort, h3] using h2

theorem State.ledFrame_fresh (i : Nat) : s.fresh.ledFrame i = s.ledFrame i := rfl

/-- An LED frame sends the indicators as they are (R168). -/
theorem State.sendLed_outs (i : Nat) : (s.sendLed i).outs = s.outs ++ [.led i (s.ledFrame i)] :=
  foldl_same State.outs (fun _ _ => rfl) (secPorts i) (s.emit (.led i (s.ledFrame i)))

end

/-- The end of a port reset (R161): the port is Enabled at the speed that the chirp gave. -/
theorem execPortResetEnd_shows {s : State} {n : Fin 48} (hse : s.seUp n = true) (hst : s.hub n = HS.resetting) :
    Completes (.portResetEnd n) s (fun t => t.hub n = HS.enabled ∧
      t.rd (PRT.HUBSTS.HIGHSPD n) = (s.port n).chirped.toNat ∧ t.rd (PRT.HUBCHG.C_RESET n) = 1 ∧
      t.outs = [.endSignal n]) := by
  refine .guarded rfl (by simp [hse, hst]) ?_
  extract_lets hs s1 s2
  have h1 : s1.hub n = HS.enabled ∧ s1.rd (PRT.HUBSTS.HIGHSPD n) = hs.toNat ∧ s1.rd (PRT.HUBCHG.C_RESET n) = 1 ∧
      s1.outs = [.endSignal n] := by
    simp (disch := with_unfolding_all refine Field.key_ne rfl rfl ?_; omega) only [s1, State.hub, State.setHub,
      State.hubEvt_reset_rd, State.flag_eq_wr, State.rd_modPort, State.rd_wr_ne, State.rd_wr_self]
    exact ⟨rfl, Nat.mod_eq_of_lt hs.toNat_lt, rfl, rfl⟩
  have h2 : s2.hub n = HS.enabled ∧ s2.rd (PRT.HUBSTS.HIGHSPD n) = hs.toNat ∧ s2.rd (PRT.HUBCHG.C_RESET n) = 1 ∧
      s2.outs = [.endSignal n] := by
    unfold s2
    split <;> exact h1
  split <;> exact h2

/-- Settles O18: each event by the operation that it is made of. -/
theorem hubPortEventsComplete : Obligations.HubPortEventsComplete := by
  intro n i low s
  refine ⟨?connect, ?disconnect, ?chirp, execPortResetEnd_shows, ?babble, ?disabling, ?resumeK, ?resumeEnd,
    ?eor, ?restartEnd, ?led⟩
  case connect =>
    intro hse hst htc hre
    refine .guarded rfl (by simp [hse, hst, htc, hre]) ?_
    simp (disch := with_unfolding_all refine HubField.of_eq rfl ?_; omega) only [State.hub, State.ldsAttach_rd]
    simp (disch := with_unfolding_all refine Field.key_ne rfl rfl ?_; omega) only [State.setHub,
      State.hubEvt_connection_rd, State.raise_eq_wr, State.flag_eq_wr, State.rd_wr_ne, State.rd_wr_self]
    exact ⟨rfl, rfl, Nat.mod_eq_of_lt low.toNat_lt, rfl⟩
  case disconnect =>
    intro hse hst hre
    exact .guarded rfl (by simp [hse, hre]) (s.fresh.hubDisconnect_shows n hst)
  case chirp =>
    intro hse hst hlow hfs hown
    refine .guarded rfl (by simp [hse, hst, hlow, hfs, hown]) ⟨?_, rfl⟩
    rw [State.port_modPort_self]
  case babble =>
    intro hse hst
    refine .guarded rfl (by simp [hse, hst]) ⟨?_, ?_, ?_⟩
    · rw [State.hub_modPort, State.leaveTo, State.hub_setHub]
      rfl
    · simp (disch := with_unfolding_all refine Field.key_ne rfl rfl ?_; omega) only [State.leaveTo, State.setHub,
        State.hubEvt_enable_rd, State.flag_eq_wr, State.rd_modPort, State.rd_wr_ne]
      exact State.rd_wr_self _ _ 1
    · rw [State.port_modPort_self]
  case disabling =>
    intro hse hst
    refine .guarded rfl (by simp [hse, hst]) ?_
    rw [State.leaveTo, State.hub_setHub]
    rfl
  case resumeK =>
    intro hse hst hsusp
    refine .guarded rfl (by simp [hse, hsusp]) ?_
    have hstart : s.fresh.startResume n = (s.fresh.emit (.kDrive n)).setHub n HS.resuming := if_pos hst
    rw [hstart]
    exact ⟨State.hub_setHub _ _ _, rfl⟩
  case resumeEnd =>
    intro hse hst
    refine .guarded rfl (by simp [hse, hst]) ?_
    rw [if_neg (by rw [hst]; nofun)]
    exact ⟨State.hub_setHub _ _ _, rfl⟩
  case eor =>
    intro hse hst
    refine .guarded rfl (by simp [hse, hst]) ⟨?_, ?_, ?_⟩
    · rw [State.hub_modPort, State.hub_setHub]
      rfl
    · simp (disch := with_unfolding_all refine Field.key_ne rfl rfl ?_; omega) only [State.setHub,
        State.hubEvt_suspend_rd, State.flag_eq_wr, State.rd_modPort, State.rd_wr_ne]
      exact State.rd_wr_self _ _ 1
    · rw [State.port_modPort_self]
  case restartEnd =>
    intro hse hre
    obtain ⟨hact, -⟩ := Bool.and_eq_true_iff.mp hse
    refine .guarded rfl (by simp only [hre, hact, Bool.and_self]) ?_
    extract_lets s1 s2
    have h1 : (s1.port n).restart = false := by rw [State.port_modPort_self]
    have h2 : (s2.port n).restart = false := by
      unfold s2
      split
      · rw [State.port_setView, h1]
      · exact h1
    rw [State.evalDemand_restart, State.handoverRelease_restart, h2]
  case led =>
    intro hrun hlink
    refine .guarded rfl (by simp [State.active, hrun, hlink]) ?_
    rw [State.sendLed_outs, State.ledFrame_fresh]
    exact List.mem_append_right _ (List.mem_singleton_self _)

end Sys2Proof.Machine
end

section
/-! SUPPORT. What the operations shared by splits leave of a port's transactions and of its Almanac, and what they
answer. -/

namespace Sys2Proof.Machine

/-- A map changed entry by entry, its default left alone, reads each value changed. -/
theorem KMap.get_map {α : Type} {d : α} {g : α → α} (hg : g d = d) (m : KMap α) (k : Nat) :
    KMap.get d (m.map (fun e => (e.1, g e.2))) k = g (KMap.get d m k) := by
  induction m with
  | nil => exact hg.symm
  | cons e m ih =>
    by_cases hk : e.1 = k <;> simp [KMap.get, hk, ih]

section
variable (s : State) (n k : Nat)

@[simp] theorem State.almE_setAlm_self (e : AlmEntry) : (s.setAlm n k e).almE n k = e := by
  rw [State.almE, State.setAlm, State.port_modPort_self]
  exact KMap.get_put_self _ _ _ _

/-! ## The wire and the ingress queue -/

@[simp] theorem State.iqPass_port (bs : List Byte) (m : Nat) : (s.iqPass k bs).port m = s.port m :=
  Only.port (State.iqPass_only (.refl _ _) k bs nofun nofun nofun)

@[simp] theorem State.iqPass_outs (bs : List Byte) : (s.iqPass k bs).outs = s.outs :=
  Only.outs (State.iqPass_only (.refl _ _) k bs nofun nofun nofun)

@[simp] theorem State.badIn_port (m : Nat) : (s.badIn k).port m = s.port m := rfl

@[simp] theorem State.wireFree_outs : (s.wireFree n).outs = s.outs :=
  Only.outs (State.wireFree_only (.refl _ _) n nofun nofun)

/-- The end of a transaction on the wire leaves the port's buffers. -/
@[simp] theorem State.wireFree_np : ((s.wireFree n).port n).np = (s.port n).np := by
  unfold State.wireFree State.mtrPause
  split <;> simp

/-- The end of a transaction on the wire leaves what an Almanac entry holds and awaits. -/
theorem State.almE_wireFree : ((s.wireFree n).almE n k).held = (s.almE n k).held ∧
    ((s.wireFree n).almE n k).pfWire = (s.almE n k).pfWire := by
  unfold State.wireFree
  split
  · rw [State.almE, State.port_modPort_self, State.mtrPause, State.port_modPort_self,
      KMap.get_map (g := fun e : AlmEntry => { e with winOk := false }) rfl]
    exact ⟨rfl, rfl⟩
  · exact ⟨rfl, rfl⟩

/-! ## Control holds (R203, R204) -/

@[simp] theorem State.holdTouch_np (a ep m : Nat) : ((s.holdTouch n a ep m).port n).np = (s.port n).np := by
  unfold State.holdTouch
  split <;> simp

@[simp] theorem State.holdTouch_rd (a ep m : Nat) (f : Field) : (s.holdTouch n a ep m).rd f = s.rd f :=
  Only.rd (State.holdTouch_only (.refl _ _) n a ep m nofun)

@[simp] theorem State.holdTouch_outs (a ep m : Nat) : (s.holdTouch n a ep m).outs = s.outs :=
  Only.outs (State.holdTouch_only (.refl _ _) n a ep m nofun)

@[simp] theorem State.holdTouch_inRoom (a ep m i l : Nat) (setup : Bool) :
    (s.holdTouch n a ep m).inRoom i l setup = s.inRoom i l setup := by
  unfold State.holdTouch
  split <;> rfl

@[simp] theorem State.holdBegin_np (a ep m : Nat) (r : Setup) :
    ((s.holdBegin n a ep m r).port n).np = (s.port n).np := by
  rw [State.holdBegin, State.port_modPort_self]

/-- A control hold that begins holds its address. -/
theorem State.holdBegin_holds (a ep m : Nat) (r : Setup) :
    ((s.holdBegin n a ep m r).port n).holds.any (fun x => x.1 == a) = true := by
  rw [State.holdBegin, State.port_modPort_self]
  simp

@[simp] theorem State.holdEnd_np (a : Nat) : ((s.holdEnd n a).port n).np = (s.port n).np := (s.holdEnd_unheld n a).np

/-! ## The end of an observed control transfer -/

@[simp] theorem State.setAlm_np (e : AlmEntry) : ((s.setAlm n k e).port n).np = (s.port n).np := by simp [State.setAlm]

@[simp] theorem State.restrand_np (sel : Key → Bool) : ((s.restrand n sel).port n).np = (s.port n).np := by
  unfold State.restrand
  extract_lets
  split <;> simp

@[simp] theorem State.withdrawEntry_np : ((s.withdrawEntry n k).port n).np = (s.port n).np := by
  unfold State.withdrawEntry
  extract_lets e s1
  have h1 : (s1.port n).np = (s.port n).np := by simp [s1]
  split <;> simpa using h1

@[simp] theorem State.freeAddr_np (a : Nat) : ((s.freeAddr n a).port n).np = (s.port n).np := by
  rw [State.freeAddr, State.restrand_np]
  exact foldl_same (fun t : State => (t.port n).np) (fun t i => by simp) _ s

@[simp] theorem State.withdrawSlot_np (x : Key) : ((s.withdrawSlot n x).port n).np = (s.port n).np := by
  unfold State.withdrawSlot
  split
  · rfl
  · split <;> simp [State.dropHeld_port]

@[simp] theorem State.withdrawSlots_np (sel : Slot → Bool) : ((s.withdrawSlots n sel).port n).np = (s.port n).np :=
  foldl_same (fun t : State => (t.port n).np) (fun t _ => t.withdrawSlot_np n _) _ s

@[simp] theorem State.takeSizes_np (l : List (Key × Nat)) : ((s.takeSizes n l).port n).np = (s.port n).np := by
  simp [State.takeSizes]

@[simp] theorem State.rtQueue_port (u a : Nat) (p : Option Nat) (hs : Bool) (m : Nat) :
    (s.rtQueue u a p hs).port m = s.port m := rfl

/-- What a finished control transfer changes leaves the translator's buffers. -/
@[simp] theorem State.ctlDone_np (u a : Nat) (r : Setup) (got : List Byte) :
    ((s.ctlDone u n a r got).port n).np = (s.port n).np := by
  unfold State.ctlDone
  extract_lets a' s1 k' s2
  have h1 : (s1.port n).np = (s.port n).np := by simp [s1]
  have h2 : (s2.port n).np = (s.port n).np := by simp [s2]
  split
  · split
    · simpa using h1
    · exact h1
  split
  · simp
  split
  · split
    · simpa using h2
    · exact h2
  split
  · simp
  split
  · simp
  split
  · simp
  · rfl

/-- An answered control transaction leaves the translator's buffers. -/
@[simp] theorem State.ctlAnswer_np (u : Nat) (bf : NpBuf) (h : Held) :
    ((s.ctlAnswer u n bf h).port n).np = (s.port n).np := by
  unfold State.ctlAnswer
  split
  · rfl
  next c _ =>
  extract_lets status fin good
  have hfin (t : State) (ht : (t.port n).np = (s.port n).np) : ((fin t).port n).np = (s.port n).np := by
    simpa [fin] using ht
  have hgood : (good.port n).np = (s.port n).np := by
    unfold good
    split
    · simp
    · rfl
  split
  · split
    · exact hfin _ hgood
    · split <;> simp
  · split
    · exact hfin _ hgood
    · rfl
  · split
    · exact hfin _ rfl
    · rfl
  · rfl

@[simp] theorem State.ctlAnswer_outs (u : Nat) (bf : NpBuf) (h : Held) : (s.ctlAnswer u n bf h).outs = s.outs := by
  apply Only.outs
  apply State.ctlAnswer_only (.refl _ _)
  all_goals (intros; exact nofun)

/-! ## An SSPLIT seen by the Almanac -/

@[simp] theorem State.setAlm_per (e : AlmEntry) :
    ((s.setAlm n k e).port n).per = (s.port n).per := by simp [State.setAlm]

@[simp] theorem State.almSee_per (m : Nat) (x : Key) (iso low hub : Bool) :
    ((s.almSee n m x iso low hub).port n).per = (s.port n).per := by
  unfold State.almSee
  split
  · rfl
  split
  · split <;> simp
  · split
    · extract_lets d
      split <;> simp
    · split <;> simp

end

end Sys2Proof.Machine
end

section
/-! PROOFS. Frames of a port's bus, the Almanac's timeout, and Meteor's prefetches, holds and re-arm. -/

namespace Sys2Proof.Machine

section
variable {u : Fin 4} {n : Fin 48} {k : Fin 16} {s : State}

/-! ## SOF (R173, R180) -/

/-- The SOF on its ports leaves the microframe count that the personality took from it. -/
theorem execHostSof_marks {frame : BitVec 11} {uf : BitVec 3} (hrun : s.phase = .running)
    (hstate : 2 ≤ s.rd (UPS.STS.DEVSTATE u)) (hhs : s.rd (UPS.STS.HS u) = 1) (hsusp : s.rd (UPS.STS.SUSP u) = 0) :
    Completes (.hostSof u frame uf) s (fun t => (t.up u).frameM = 8 * frame.toNat + uf.toNat) := by
  refine .guarded rfl (by simp [State.active, hrun, hstate, hhs, hsusp]) ?_
  have hports (v : State) (l : List Nat) (m : Nat) : (v.forEach l (fun t n => t.portSof n m)).up u = v.up u :=
    Only.up ((Only.refl _ v).forEach l _ fun _ n hw => State.portSof_only hw n m nofun nofun nofun)
  rw [hports, State.up_modUp_self]

/-- The SOF of the full-speed frame goes out, and no record of an earlier frame is left alive. -/
theorem execFsFrameStart_frees (hruns : s.ttRuns n = true) (hsof : (s.port n).sofOn = true)
    (hframe : (s.port n).frameM < 16384) :
    Completes (.fsFrameStart n) s (fun t => t.outs = [.sof n ((s.port n).frameM / 8)] ∧
      ∀ r ∈ (t.port n).perLive, mDiff r.y ((s.port n).frameM - (s.port n).frameM % 8) < 8) := by
  refine .guarded rfl (by simp [hruns, hsof, hframe]) ⟨?_, fun r hr => ?_⟩
  · have hf : ((s.port n).frameM - (s.port n).frameM % 8) / 8 = (s.port n).frameM / 8 := by omega
    simp [hf]
  · rw [PortX.perLive, State.port_modPort_self] at hr
    obtain ⟨hmem, hlive⟩ := List.mem_filter.mp hr
    obtain ⟨x, -, rfl⟩ := List.mem_map.mp hmem
    by_cases hkeep : mDiff x.y ((s.port n).frameM - (s.port n).frameM % 8) < 8
    · simp [hkeep]
    · simp [hkeep] at hlive

/-! ## The Almanac and Meteor's slots (R186, R197 to R201) -/

theorem execAlmanacLearningTimeout_frees (hst : (s.almE n k).st = 1) (hheld : heldData (s.almE n k).held = false) :
    Completes (.almanacLearningTimeout n k) s (fun t => t.almE n k = AlmEntry.free) :=
  .guarded rfl (by simp [hst, hheld]) (State.almE_setAlm_self _ _ _ _)

theorem execPrefetchStart_starts {bt : Nat} (hruns : s.ttRuns n = true) (hsof : (s.port n).sofOn = true)
    (hmtr : s.mtrBlock n = 0) (hbus : (s.port n).busBusy = false)
    (hper : (s.port n).per.any (s.port n).ready = false) (hroom : s.inRoom n (s.almE n k).mps false = true)
    (hmay : s.mayPrefetch n k bt = true)
    (hfirst : ∀ i ∈ List.range 16, s.mayPrefetch n i bt = true → s.goesFirst n k i = true) :
    Completes (.prefetchStart n k bt) s (fun t => t.outs = [.deviceIn n (s.almE n k).key] ∧
      (t.almE n k).pfWire = some (s.rd (PRT.MTRCFG.MODE n))) := by
  have hall : (List.range 16).all (fun j => !s.mayPrefetch n j bt || s.goesFirst n k j) = true := by
    refine List.all_eq_true.mpr fun j hj => ?_
    cases hj' : s.mayPrefetch n j bt
    · rfl
    · exact hfirst j hj hj'
  refine .guarded rfl (by simp only [hruns, hsof, hmtr, hbus, hper, hroom, hmay, hall]; rfl) ⟨rfl, ?_⟩
  exact congrArg AlmEntry.pfWire (State.almE_setAlm_self s.fresh n k _)

/-- Only DATA of the device makes a prefetch hold DATA. -/
theorem heldData_prefetchHeld {mode mps : Nat} {d : Dev} (h : heldData (prefetchHeld mode mps d) = true) :
    ∃ pid bs, d = .data pid bs := by
  cases d with
  | data pid bs => exact ⟨pid, bs, rfl⟩
  | _ => cases h

theorem execPrefetchOutcome_holds {d : Dev} {mode : Nat} (hwire : (s.almE n k).pfWire = some mode)
    (hpoll : (s.almE n k).polled = false) (hwd : (s.almE n k).wd = false) :
    Completes (.prefetchOutcome n k d) s (fun t => (t.almE n k).held = prefetchHeld mode (s.almE n k).mps d ∧
      (t.almE n k).pfWire = none ∧
      (heldData (prefetchHeld mode (s.almE n k).mps d) = true → t.outs = [.deviceAck n])) := by
  refine ⟨_, rfl, ?_⟩
  beta_reduce
  split
  case h_1 hnone => cases hwire.symm.trans hnone
  next m hm =>
  obtain rfl : mode = m := Option.some.inj (hwire.symm.trans hm)
  extract_lets h tog e1 s1 e2 s2
  rw [if_neg (by simp [hpoll]), if_neg (by simp [hwd])]
  obtain ⟨hheld, hpf⟩ := (s1.setAlm n k { e1 with held := h }).almE_wireFree n k
  rw [hheld, hpf, State.almE_setAlm_self]
  refine ⟨rfl, rfl, fun hdata => ?_⟩
  obtain ⟨pid, bs, rfl⟩ := heldData_prefetchHeld hdata
  have hack : s1 = (s.fresh.emit (.deviceAck n)).iqPass n bs := by
    unfold s1
    dsimp only
    rw [if_pos hdata]
  rw [State.wireFree_outs, State.setAlm, State.modPort_outs, hack, State.iqPass_outs]
  rfl

theorem execHeldHandshakeExpire_drops (hheld : (s.almE n k).held = some .nak ∨ (s.almE n k).held = some .stall)
    (hpast : (s.almE n k).pfFor.all (fun x => reached (s.port n).frameM x && (s.port n).frameM != x) = true) :
    Completes (.heldHandshakeExpire n k) s (fun t => (t.almE n k).held = none) := by
  refine .guarded rfl (Bool.and_eq_true_iff.mpr ⟨by simpa using hheld, ?_⟩)
    (congrArg AlmEntry.held (State.almE_setAlm_self s.fresh n k _))
  split
  next x hx =>
    rw [hx] at hpast
    exact hpast
  · rfl

/-! ## Control holds and the re-arm (R204) -/

/-- A control hold that ends is gone. -/
theorem State.holdEnd_holds (m a : Nat) : ((s.holdEnd m a).port m).holds.any (fun x => x.1 == a) = false := by
  unfold State.holdEnd
  split
  next hnone => simpa using hnone
  · rw [State.port_modPort_self]
    simp

theorem execControlHoldTimeout_abandons {adr : BitVec 7}
    (hdue : (s.port n).holds.any (fun x => x.1 == adr.toNat && reached (s.port n).frameM x.2 &&
      decide (256 ≤ mDiff (s.port n).frameM x.2)) = true) :
    Completes (.controlHoldTimeout n adr) s (fun t => (t.port n).holds.any (fun x => x.1 == adr.toNat) = false ∧
      (t.port n).ctls.any (fun x => x.addr == adr.toNat) = false) := by
  refine .guarded rfl hdue ?_
  rw [State.port_modPort_self]
  exact ⟨State.holdEnd_holds n adr.toNat, by simp⟩

theorem execMeteorRearm_arms (hdue : (s.almE n k).rearm.any (reached (s.port n).frameM) = true)
    (hst : 2 ≤ (s.almE n k).st) (harm : s.armable n (s.almE n k) = true)
    (hmiss : (s.almE n k).miss < s.rd (PRT.MTRCFG.MISSLIM n)) :
    Completes (.meteorRearm n k) s (fun t => (t.almE n k).rearm = none ∧ (t.almE n k).armed = true) := by
  refine .guarded rfl hdue ?_
  rw [State.almE_setAlm_self]
  exact ⟨rfl, by simp [hst, harm, hmiss]⟩

end

/-- Settles O46: each command under its own conditions. -/
theorem framesAndAlmanacComplete : Obligations.FramesAndAlmanacComplete :=
  fun _ _ _ _ _ _ _ _ _ _ =>
    ⟨execHostSof_marks, execFsFrameStart_frees, execAlmanacLearningTimeout_frees, execPrefetchStart_starts,
      execPrefetchOutcome_holds, execHeldHandshakeExpire_drops, execControlHoldTimeout_abandons,
      execMeteorRearm_arms⟩

end Sys2Proof.Machine
end

section
/-! PROOFS. Start-splits and complete-splits. -/

namespace Sys2Proof.Machine

section
variable {u : Fin 4} {i adr : BitVec 7} {ep : BitVec 4} {n : Fin 48} {s : State}

/-- A split whose hub address names a port of the sender acts on that port's translator. -/
theorem Completes.split {c : Sys2Proof.Instr} {j m : Nat} {a : State} {f : Nat → State} {P : State → Prop}
    (hport : s.splitPort u j = some m)
    (he : exec c s = done (match s.fresh.splitPort u j with
      | none => a
      | some k => f k)) (h : P (f m)) : Completes c s P := by
  have hfresh : s.fresh.splitPort u j = some m := hport
  rw [hfresh] at he
  exact ⟨_, he, h⟩

/-- A slot that holds nothing gives nothing. -/
theorem AlmEntry.slotAt_none {e : AlmEntry} (h : e.held = none) (m : Nat) : e.slotAt m = none := by
  unfold AlmEntry.slotAt
  rw [h]
  split
  · rfl
  · split
    · exact ite_self _
    · rfl

/-! ## Non-periodic splits (R174, R203) -/

/-- The token asks the device for data. -/
def tokIn (tok : Sys2Proof.SplitTok) : Bool :=
  match tok with
  | .inTok => true
  | _ => false

variable (hport : s.splitPort u i.toNat = some n.val)
include hport

/-- A start-split takes a free buffer where the translator and the ingress queue have room; a SETUP begins a control
hold with it. -/
theorem execSsplitNonperiodic_takes {tok : Sys2Proof.SplitTok} {low crcOk : Bool}
    (hcrc : (!tokIn tok && !crcOk) = false) (hstop : s.rd (PRT.QSTS.STOPPED n) = 0)
    (hroom : s.inRoom (48 + u) (tokLen tok) (tokSetup tok) = true)
    (hkey : ∀ b ∈ (s.port n).npLive, b.key ≠ (⟨adr.toNat, ep.toNat, tokIn tok⟩ : Key))
    (hfour : (s.port n).npLive.length < 4) :
    Completes (.ssplitNonperiodic u i adr ep tok low crcOk) s (fun t => t.outs = [.usb u .ack] ∧
      ∃ b ∈ (t.port n).np, b.key = (⟨adr.toNat, ep.toNat, tokIn tok⟩ : Key) ∧ b.st = .queued ∧ b.dead = false ∧
      (tokSetup tok = true → (t.port n).holds.any (fun x => x.1 == adr.toNat) = true)) := by
  refine .split hport rfl ?_
  extract_lets inn key p m s0 buf s1
  have hbuf : buf.key = key ∧ buf.st = .queued ∧ buf.dead = false := by
    unfold buf
    cases tok <;> exact ⟨rfl, rfl, rfl⟩
  have hgood : (!inn && !crcOk) = false := hcrc
  have hnone : p.npLive.any (fun b => b.key == key) = false :=
    List.any_eq_false.mpr fun b hb h => hkey b hb (eq_of_beq h)
  have hfree : (s0.on (PRT.QSTS.STOPPED n) || p.npLive.any (fun b => b.key == key) || decide (4 ≤ p.npLive.length) ||
      !s0.inRoom (48 + u) (tokLen tok) (tokSetup tok)) = false := by
    have hlen : ¬4 ≤ p.npLive.length := Nat.not_le.mpr hfour
    have hstop0 : s0.on (PRT.QSTS.STOPPED n) = false := by simp [s0, hstop]
    have hroom0 : s0.inRoom (48 + u) (tokLen tok) (tokSetup tok) = true :=
      (State.holdTouch_inRoom ..).trans hroom
    rw [hstop0, hnone, hroom0, decide_eq_false hlen]
    rfl
  have houts : s1.outs = [.usb u .ack] := by simp [s1, s0]
  have hmem : buf ∈ (s1.port n).np := by simp [s1]
  obtain ⟨hk, hst, hdead⟩ := hbuf
  rw [if_neg (Bool.eq_false_iff.mp hgood), if_neg (Bool.eq_false_iff.mp hfree)]
  cases tok with
  | setup req =>
    rw [← s1.holdBegin_np n adr.toNat ep.toNat m (Setup.ofBits req)] at hmem
    exact ⟨houts, buf, hmem, hk, hst, hdead, fun _ => s1.holdBegin_holds ..⟩
  | out tog bytes => exact ⟨houts, buf, hmem, hk, hst, hdead, nofun⟩
  | inTok => exact ⟨houts, buf, hmem, hk, hst, hdead, nofun⟩

/-- A complete-split of a buffer that is done takes its outcome to the host and frees the buffer. -/
theorem execCsplitNonperiodic_answers {d : Bool} {bf : NpBuf} {o : Held}
    (hbf : (s.port n).np.find? (fun b => b.key == (⟨adr.toNat, ep.toNat, d⟩ : Key) && !b.dead) = some bf)
    (hdone : bf.st = .done o) :
    Completes (.csplitNonperiodic u i adr ep d) s (fun t => t.outs = [.usb u (if o = .err then .nothing else o.ans)] ∧
      ∀ b ∈ (t.port n).npLive, b.key ≠ (⟨adr.toNat, ep.toNat, d⟩ : Key)) := by
  refine .split hport rfl ?_
  extract_lets key s0
  have hfind : (s0.port n).np.find? (fun b => b.key == key && !b.dead) = some bf := by
    rw [State.holdTouch_np]
    exact hbf
  rw [hfind]
  dsimp only
  rw [hdone]
  dsimp only
  refine ⟨?_, ?_⟩
  · rw [State.ctlAnswer_outs, State.emit_outs, State.modPort_outs, State.holdTouch_outs]
    cases o <;> rfl
  · rw [PortX.npLive, State.ctlAnswer_np, State.port_emit, State.port_modPort_self]
    intro b hb hk
    obtain ⟨hmem, hlive⟩ := List.mem_filter.mp hb
    obtain ⟨-, hfreed⟩ := List.mem_filter.mp hmem
    simp [hk, key, hlive] at hfreed

/-! ## Periodic splits (R176, R177) -/

/-- A start-split takes a record, where the Almanac's slot of its endpoint is empty. -/
theorem execSsplitPeriodic_records {d iso low hub tog : Bool} {bs : List Byte}
    (hstop : s.rd (PRT.QSTS.STOPPED n) = 0)
    (hroom : s.perRoom n (⟨⟨adr.toNat, ep.toNat, d⟩, iso, low, hub, ((s.up u).frameM + 1) % 16384, tog.toNat, bs, [],
      .queued, false⟩ : PerRec) = true)
    (hslot : ∀ e ∈ (s.port n).alm, e.2.key = (⟨adr.toNat, ep.toNat, d⟩ : Key) → e.2.held = none ∧ e.2.pfWire = none) :
    Completes (.ssplitPeriodic u i adr ep d iso low hub tog bs) s (fun t => (⟨⟨adr.toNat, ep.toNat, d⟩, iso, low, hub,
      ((s.up u).frameM + 1) % 16384, tog.toNat, bs, [], .queued, false⟩ : PerRec) ∈ (t.port n).per) := by
  refine .split hport rfl ?_
  extract_lets key m r e k full stopped room put see t1
  have he : e.held = none ∧ e.pfWire = none := by
    unfold e
    split
    next x hx =>
      have hsel := List.find?_some hx
      simp only [Bool.and_eq_true, beq_iff_eq] at hsel
      exact hslot x (List.mem_of_find?_eq_some hx) hsel.2
    · exact ⟨rfl, rfl⟩
  obtain ⟨hheld, hwire⟩ := he
  have hfull : full = none := AlmEntry.slotAt_none hheld m
  have hgo : (stopped || !room) = false := by
    have hrun : stopped = false := by simp [stopped, hstop]
    have hroom' : room = true := hroom
    rw [hrun, hroom']
    rfl
  rw [if_neg (Bool.eq_false_iff.mp hgo), hfull]
  dsimp only
  rw [if_neg (by simp [hwire]), if_neg (by simp [hheld])]
  simp [see, put, r, key, m]

section
variable {d : Bool} {rc : PerRec} {pid : Nat} {bs : List Byte}
  (hrc : (s.port n).per.find? (fun r => r.key == (⟨adr.toNat, ep.toNat, d⟩ : Key) && !r.dead) = some rc)
include hrc

/-- A complete-split takes the data of a done record and frees it. -/
theorem execCsplitPeriodic_data (hst : rc.st = .done (.data pid bs)) (hlen : rc.iso = true → bs.length ≤ 188) :
    Completes (.csplitPeriodic u i adr ep ⟨d, bs⟩) s (fun t =>
      t.outs = [.usb u (.data (if rc.iso then 0 else pid) bs)] ∧ rc ∉ (t.port n).per) := by
  refine .split hport rfl ?_
  simp only [State.port_fresh, hrc, hst]
  rw [if_neg (by simpa using hlen)]
  simp

/-- More than 188 bytes of an isochronous IN go to the host in pieces (log entry 74). -/
theorem execCsplitPeriodic_piece (hst : rc.st = .done (.data pid bs)) (hiso : rc.iso = true) (hlen : 188 < bs.length) :
    Completes (.csplitPeriodic u i adr ep ⟨d, []⟩) s (fun t => t.outs = [.usb u (.mdata (bs.take 188))] ∧
      ∃ x ∈ (t.port n).per, x.key = rc.key ∧ x.st = .done (.data pid (bs.drop 188))) := by
  refine .split hport rfl ?_
  simp only [State.port_fresh, hrc, hst]
  rw [if_pos (by simp [hiso, hlen])]
  refine ⟨rfl, ?_⟩
  rw [State.port_emit, State.port_modPort_self]
  exact ⟨{ rc with st := .done (.data pid (bs.drop 188)) },
    List.mem_map.mpr ⟨rc, List.mem_of_find?_eq_some hrc, if_pos rfl⟩, rfl, rfl⟩

/-- An isochronous IN on the wire gives what has arrived (R177). -/
theorem execCsplitPeriodic_arrived (hst : rc.st = .wire) (hiso : rc.iso = true) (hin : d = true) :
    Completes (.csplitPeriodic u i adr ep ⟨d, bs⟩) s (fun t => t.outs = [.usb u (.mdata (bs.take 188))]) := by
  refine .split hport rfl ?_
  simp only [State.port_fresh, hrc, hst]
  rw [if_pos (by simp [hiso, hin])]
  rfl

end
end

/-- Settles O47: each start-split that is taken, and each complete-split of what the translator has for it. -/
theorem splitTransactionsComplete : Obligations.SplitTransactionsComplete := by
  intro u i adr ep d iso low hub tog crcOk bs req n bf o pid rc s hport
  refine ⟨?inTok, ?out, ?setup, execCsplitNonperiodic_answers hport, execSsplitPeriodic_records hport,
    execCsplitPeriodic_data hport, execCsplitPeriodic_piece hport, execCsplitPeriodic_arrived hport⟩
  case inTok =>
    intro hstop hroom hkey hfour
    obtain ⟨t, ht, houts, b, hb, hk, hst, hdead, -⟩ :=
      execSsplitNonperiodic_takes (low := low) (crcOk := crcOk) hport rfl hstop hroom hkey hfour
    exact ⟨t, ht, houts, b, hb, hk, hst, hdead⟩
  case out =>
    intro hstop hroom hkey hfour
    obtain ⟨t, ht, houts, b, hb, hk, hst, hdead, -⟩ :=
      execSsplitNonperiodic_takes (low := low) (crcOk := true) hport (Bool.and_false _) hstop hroom hkey hfour
    exact ⟨t, ht, houts, b, hb, hk, hst, hdead⟩
  case setup =>
    intro hstop hroom hkey hfour
    obtain ⟨t, ht, houts, b, hb, hk, hst, hdead, hhold⟩ :=
      execSsplitNonperiodic_takes (low := low) (crcOk := true) hport (Bool.and_false _) hstop hroom hkey hfour
    exact ⟨t, ht, houts, b, hb, hk, hst, hdead, hhold rfl⟩

end Sys2Proof.Machine
end

section
/-! PROOFS. The translator's transactions on the port's bus. -/

namespace Sys2Proof.Machine

section
variable {n : Fin 48} {bt : Nat} {s : State}

/-- The oldest waiting buffer goes to the wire. -/
theorem execTtNonperiodicStart_starts {bf : NpBuf} (hruns : s.ttRuns n = true) (hsof : (s.port n).sofOn = true)
    (hstop : s.rd (PRT.QSTS.STOPPED n) = 0) (hbus : (s.port n).busBusy = false)
    (hper : (s.port n).per.any (s.port n).ready = false) (hroom : s.inRoom n 64 false = true)
    (hmtr : (s.mtrBlock n == 0 && (List.range 16).any (fun j => s.mayPrefetch n j bt)) = false)
    (hbf : (s.port n).np.find? (fun b => b.st == .queued && !b.dead) = some bf) :
    Completes (.ttNonperiodicStart ⟨n, bt⟩) s (fun t => t.outs = [if bf.key.dirIn then .deviceIn n bf.key else
      .device n bf.key (if bf.setup.isSome then 0x2D else bf.pid) bf.bytes] ∧ ∃ b ∈ (t.port n).np, b.key = bf.key ∧
      b.st = .wire) := by
  have hlive := List.find?_some hbf
  simp only [Bool.and_eq_true, Bool.not_eq_true'] at hlive
  refine .guarded rfl (by simp only [hruns, hsof, State.on_eq, hstop, hbus, hper, hroom, hmtr]; rfl) ?_
  rw [hbf]
  refine ⟨rfl, ?_⟩
  rw [State.port_modPort_self]
  refine ⟨{ bf with st := .wire }, List.mem_map.mpr ⟨bf, List.mem_of_find?_eq_some hbf, if_pos ?_⟩, rfl, rfl⟩
  simp [hlive]

/-- What the device answers is stored in the buffer whose transaction was on the wire. -/
theorem execTtTransactionComplete_stores {bf : NpBuf} {d : Dev}
    (hbf : (s.port n).np.find? (fun b => b.st == .wire) = some bf) (hdead : bf.dead = false) :
    Completes (.ttTransactionComplete n d) s (fun t => ∃ b ∈ (t.port n).np, b.key = bf.key ∧
      b.st = .done (npHeld bf.key.dirIn d)) := by
  have hwire : (bf.st == .wire) = true := List.find?_some (p := fun b : NpBuf => b.st == .wire) hbf
  refine ⟨_, rfl, ?_⟩
  beta_reduce
  split
  case h_2 hnone => cases hbf.symm.trans hnone
  next b hb =>
  obtain rfl : bf = b := Option.some.inj (hbf.symm.trans hb)
  extract_lets h s1
  have h1 : s1.port n = s.port n := by
    unfold s1
    clear_value h
    split
    · simp
    · split <;> simp
  rw [State.wireFree_np, State.port_modPort_self, h1]
  refine ⟨{ bf with st := .done h }, List.mem_map.mpr ⟨bf, ?_, if_pos hwire⟩, rfl, rfl⟩
  exact List.mem_filter.mpr ⟨List.mem_of_find?_eq_some hbf, by simp [hdead]⟩

/-- A ready record that ends before the late limit goes to the wire (R179). -/
theorem State.pipe_fits {m : Nat} {r : PerRec} {rs : List PerRec}
    (hfit : bt + ttCost r.low r.behindHub r.iso (s.lenOf m r) ≤ 1496) :
    s.pipe m bt (r :: rs) =
      (s.emit (if r.key.dirIn then .deviceIn m r.key else .device m r.key r.pid r.bytes)).modPort m
      (fun p => { p with per := p.per.map (fun x => if x = r then { x with st := .wire } else x) }) := if_pos hfit

theorem execPeriodicReady_fits {rc : PerRec} {rs : List PerRec} (hruns : s.ttRuns n = true)
    (hsof : (s.port n).sofOn = true) (hstop : s.rd (PRT.QSTS.STOPPED n) = 0) (hbus : (s.port n).busBusy = false)
    (hready : (s.port n).per.filter (s.port n).ready = rc :: rs)
    (hfit : bt + ttCost rc.low rc.behindHub rc.iso (s.lenOf n rc) ≤ 1496) :
    Completes (.periodicReady n bt) s (fun t => t.outs = [if rc.key.dirIn then .deviceIn n rc.key else .device n
      rc.key rc.pid rc.bytes] ∧ ∃ x ∈ (t.port n).per, x.key = rc.key ∧ x.st = .wire) := by
  have hmem : rc ∈ (s.port n).per := List.mem_of_mem_filter (hready ▸ List.mem_cons_self)
  refine .guarded rfl (by simp only [hruns, hsof, State.on_eq, hstop, hbus]; rfl) ?_
  rw [hready, State.pipe_fits (s := s.fresh) hfit]
  refine ⟨rfl, ?_⟩
  rw [State.port_modPort_self]
  exact ⟨{ rc with st := .wire }, List.mem_map.mpr ⟨rc, hmem, if_pos rfl⟩, rfl, rfl⟩

end

/-- Settles O48: the start of a buffer, its end, and the start of a record. -/
theorem ttBusComplete : Obligations.TtBusComplete :=
  fun _ _ _ _ _ _ _ => ⟨execTtNonperiodicStart_starts, execTtTransactionComplete_stores, execPeriodicReady_fits⟩

end Sys2Proof.Machine
end

section
/-! PROOFS. Frames of the relay and of packet memory. -/

namespace Sys2Proof.Machine

theorem execHostPing_frame (u : Fin 4) (adr : BitVec 7) (ep : BitVec 4) : Frame (.hostPing u adr ep)
    [[.one .outs, .all .port, .one (.up u), .reg (SWX.CNTB.ADMNAK u)]] := by
  refine .of_may fun s t P ht hP => ?_
  simp at hP
  obtain ⟨houts, hport, hup, hnak⟩ := hP
  refine .done ht houts (.ite (State.ownOut_only (.refl _ _) _ _ houts) ?_)
  refine State.relay_only (.refl _ _) _ _ _ (fun v n hv => ?_) houts
  split
  · exact State.giveStop_only hv _ _ _ houts (hport n) hup
  · exact .ite (hv.emit _ houts) (State.admNak_only hv _ houts hnak)

section
variable {P : Part → Prop} {s t : State}

/-- The places of `poolSpots` hold what the end of a packet may write. -/
theorem May.dropPkt (hP : May P poolSpots) (h : Only P s t) (id : Nat) : Only P s (t.dropPkt id) := by
  simp [poolSpots] at hP
  apply State.dropPkt_only h
  all_goals simp [hP]

theorem May.dropHeld (hP : May P poolSpots) (h : Only P s t) (n : Nat) (k : Key) : Only P s (t.dropHeld n k) :=
  h.foldl _ _ fun _ p hu => hP.dropPkt hu p.id

theorem May.pool_outs (hP : May P poolSpots) : P .outs := by
  simp [poolSpots] at hP
  exact hP.2.1

theorem May.pool_sw (hP : May P poolSpots) : P .sw := by
  simp [poolSpots] at hP
  exact hP.2.2.1

end

theorem execIsoOutLateDiscard_frame (id : Nat) :
    Frame (.isoOutLateDiscard id) [poolSpots, [.regs SWX.CNTC.ISODROP]] := by
  refine .of_may fun s t P ht hP => ?_
  simp at hP
  obtain ⟨hpool, hdrop⟩ := hP
  refine .done ht hpool.pool_outs ?_
  split
  · exact .refl _ _
  · exact .ite ((hpool.dropPkt (.refl _ _) _).bump _ _ (hdrop _)) (.refl _ _)

theorem execIsoHeldExpire_frame (n : Fin 48) (adr : BitVec 7) (ep : BitVec 4) : Frame (.isoHeldExpire n adr ep)
    [poolSpots, [.one (.port n), .regs SWX.CNTC.ISODROP]] := by
  refine .of_may fun s t P ht hP => ?_
  simp at hP
  obtain ⟨hpool, hport, hdrop⟩ := hP
  refine .done ht hpool.pool_outs ?_
  split
  · exact .ite ((hpool.dropHeld (State.modSlot_only (.refl _ _) _ _ _ _ hport) _ _).bump _ _ (hdrop _)) (.refl _ _)
  · exact .refl _ _

theorem execCutThroughStart_frame (id : Nat) : Frame (.cutThroughStart id) [[.one .outs, .one .sw]] := by
  refine .of_may fun s t P ht hP => ?_
  simp at hP
  obtain ⟨houts, hsw⟩ := hP
  refine .done ht houts ?_
  split
  · exact .refl _ _
  · exact .ite (State.modPkt_only (.refl _ _) _ _ hsw) (.refl _ _)

theorem execPacketRelease_frame (id : Nat) : Frame (.packetRelease id)
    [poolSpots, [.all .port, .regs SWX.CNTA.STALE, .regs SWX.CNTC.ISODROP]] := by
  refine .of_may fun s t P ht hP => ?_
  simp at hP
  obtain ⟨hpool, hport, hstale, hdrop⟩ := hP
  refine .done ht hpool.pool_outs ?_
  split
  · exact .refl _ _
  next p hp =>
  extract_lets older busy ready s1
  have h1 : Only P s.fresh s1 := (hpool.dropPkt (.refl _ _) _).bump _ _ (hstale _)
  have hmod (u : State) (g : Pkt → Pkt) (hu : Only P s.fresh u) : Only P s.fresh (u.modPkt id g) :=
    State.modPkt_only hu _ _ hpool.pool_sw
  refine .ite (.refl _ _) (.ite ?_ (.ite (.refl _ _) ?_))
  · split
    · exact .ite (State.modSlot_only h1 _ _ _ _ (hport _)) h1
    · exact h1
  · split
    · exact State.modSlot_only (hmod _ _ (.refl _ _)) _ _ _ _ (hport _)
    · refine .ite (.refl _ _) (.ite ?_ ?_)
      · exact hpool.dropPkt ((Only.refl _ _).emit _ hpool.pool_outs) _
      · exact (hpool.dropPkt (.refl _ _) _).bump _ _ (hdrop _)
    · exact hmod _ _ ((Only.refl _ _).emit _ hpool.pool_outs)

theorem execDownstreamOutResponse_frame (n : Fin 48) (d : Dev) : Frame (.downstreamOutResponse n d)
    [poolSpots, [.one (.port n)]] := by
  refine .of_may fun s t P ht hP => ?_
  simp at hP
  obtain ⟨hpool, hport⟩ := hP
  refine .done ht hpool.pool_outs ?_
  split
  · exact .refl _ _
  next p hp =>
  have hping (u : State) (b : Bool) (hu : Only P s.fresh u) : Only P s.fresh (u.needPing n p.key b) :=
    State.needPing_only hu _ _ _ hport
  have hretry (g : Pkt → Pkt) : Only P s.fresh (s.fresh.modPkt p.id g) :=
    State.modPkt_only (.refl _ _) _ _ hpool.pool_sw
  have hdrop : Only P s.fresh (s.fresh.dropPkt p.id) := hpool.dropPkt (.refl _ _) _
  have herr : Only P s.fresh (s.fresh.outError n p) := by
    simp [poolSpots] at hpool
    apply State.outError_only (.refl _ _)
    all_goals simp [hpool, hport]
  split
  case h_1 => exact .ite (hping _ _ (hretry _)) (hping _ _ hdrop)
  case h_2 => exact .ite herr (hping _ _ hdrop)
  case h_3 => exact .ite (hretry _) (hping _ _ (hretry _))
  case h_4 =>
    have hall := hdrop.foldl (s.fresh.sw.packets.filter (fun q => q.out == n.val && q.kind == .out && q.key == p.key))
      (fun t q => t.dropPkt q.id) fun _ q hu => hpool.dropPkt hu q.id
    exact State.modSlot_only (hping _ _ hall) _ _ _ _ hport
  case h_5 => exact herr

theorem execRelaySlotFree_frame (n : Fin 48) (adr : BitVec 7) (ep : BitVec 4) (dirIn : Bool) :
    Frame (.relaySlotFree n adr ep dirIn) [[.one .outs, .one (.port n)]] := by
  refine .of_may fun s t P ht hP => ?_
  simp at hP
  obtain ⟨houts, hport⟩ := hP
  refine .done ht houts ?_
  split
  · exact .ite ((Only.refl _ _).modPort _ _ hport) (.refl _ _)
  · exact .refl _ _

theorem execGranuleReturn_frame : Frame .granuleReturn
    [[.one .outs, .reg PKM.GCNT0.FREE, .reg PKM.GCNT1.INFLIGHT]] := by
  refine .of_may fun s t P ht hP => ?_
  simp at hP
  obtain ⟨houts, hfree, hfly⟩ := hP
  exact .done ht houts (((Only.refl _ _).wr _ _ hfly).wr _ _ hfree)

theorem execCorrectedError_frame (line : Fin 32768) : Frame (.correctedError line)
    [[.one .edgeDue, .one .outs, .one .sw, .reg PKM.ECCCNT.CORR, .reg PKM.ECCCNT.NOFENCE, .reg PKM.FENCE.PEND]] := by
  refine .of_may fun s t P ht hP => ?_
  simp at hP
  obtain ⟨hedge, houts, hsw, hcorr, hnofence, hpend⟩ := hP
  exact .done ht houts
    (State.listLine_only (State.edgeAtMeridian_only ((Only.refl _ _).bump _ _ hcorr) _ hedge) _ _ hnofence hpend hsw)

theorem execOverlayWritebackComplete_frame :
    Frame .overlayWritebackComplete [[.one .outs, .one .sw, .reg PKM.FENCE.FALLBACK]] := by
  refine .of_may fun s t P ht hP => ?_
  simp at hP
  obtain ⟨houts, hsw, hfall⟩ := hP
  exact .guarded ht houts (((Only.refl _ _).modSw _ hsw).wr _ _ hfall)

end Sys2Proof.Machine
end

section
/-! PROOFS. Frames of the transaction translators, the Almanac and Meteor. -/

namespace Sys2Proof.Machine

theorem execHostSof_frame (u : Fin 4) (frame : BitVec 11) (uf : BitVec 3) : Frame (.hostSof u frame uf)
    [[.one .outs, .all .port, .one (.up u), .regs PRT.MTRSTS.NOFIT, .regs PRT.MTRSTS.STRANDED]] := by
  refine .of_may fun s t P ht hP => ?_
  simp at hP
  obtain ⟨houts, hport, hup, hnofit, hstrand⟩ := hP
  exact .guarded ht houts (((Only.refl _ _).modUp _ _ hup).forEach _ _ fun _ n hv =>
    State.portSof_only hv n _ (hport n) (hnofit n) (hstrand n))

theorem execAlmanacLearningTimeout_frame (n : Fin 48) (k : Fin 16) :
    Frame (.almanacLearningTimeout n k) [[.one .outs, .one (.port n)]] := by
  refine .of_may fun s t P ht hP => ?_
  simp at hP
  exact .guarded ht hP.1 ((Only.refl _ _).setAlm _ _ _ hP.2)

theorem execFsFrameStart_frame (n : Fin 48) :
    Frame (.fsFrameStart n) [[.one .outs, .one (.port n), .reg (PRT.QSTS.LATECNT n)]] := by
  refine .of_may fun s t P ht hP => ?_
  simp at hP
  obtain ⟨houts, hport, hlate⟩ := hP
  exact .guarded ht houts ((((Only.refl _ _).emit _ houts).bump _ _ hlate).modPort _ _ hport)

theorem execSsplitNonperiodic_frame (u : Fin 4) (i adr : BitVec 7) (ep : BitVec 4) (tok : Sys2Proof.SplitTok)
    (low crcOk : Bool) : Frame (.ssplitNonperiodic u i adr ep tok low crcOk)
    [[.one .outs, .all .port, .one .sw, .reg (PKM.IQPTR.RPTR (48 + u)), .reg (PKM.IQPTR.WPTR (48 + u)),
      .reg (SWX.CNTA.BADTAIL u)]] := by
  refine .of_may fun s t P ht hP => ?_
  simp at hP
  obtain ⟨houts, hport, hsw, hrptr, hwptr, hbad⟩ := hP
  refine .done ht houts ?_
  split
  · exact (Only.refl _ _).emit _ houts
  next n hn =>
  extract_lets inn key p m s0 buf s1
  have h0 : Only P s.fresh s0 := State.holdTouch_only (.refl _ _) _ _ _ _ (hport n)
  have h1 : Only P s.fresh s1 :=
    (State.iqPass_only (h0.modPort _ _ (hport n)) _ _ hrptr hwptr hsw).emit _ houts
  refine .ite ((h0.bump _ _ hbad).emit _ houts) (.ite (h0.emit _ houts) ?_)
  split
  · exact State.holdBegin_only h1 _ _ _ _ _ (hport n)
  · exact h1

theorem execCsplitNonperiodic_frame (u : Fin 4) (i adr : BitVec 7) (ep : BitVec 4) (dirIn : Bool) :
    Frame (.csplitNonperiodic u i adr ep dirIn)
    [poolSpots, [.all .port, .one (.up u), .regs PRT.MTRSTS.STRANDED, .regs PRT.MTRSTS.WITHDRAWN,
      .regs SWX.CNTB.RLYWD]] := by
  refine .of_may fun s t P ht hP => ?_
  simp [poolSpots] at hP
  have houts : P .outs := by simp only [hP]
  have hport (n : Nat) : P (.port n) := by simp only [hP]
  refine .done ht houts ?_
  split
  · exact (Only.refl _ _).emit _ houts
  next n hn =>
  extract_lets key s0
  have h0 : Only P s.fresh s0 := State.holdTouch_only (.refl _ _) _ _ _ _ (hport n)
  split
  · exact h0.emit _ houts
  · split
    · apply State.ctlAnswer_only ((h0.modPort _ _ (hport n)).emit _ houts)
      all_goals simp [hP]
    · exact h0.emit _ houts

theorem execTtTransactionComplete_frame (n : Fin 48) (d : Dev) : Frame (.ttTransactionComplete n d)
    [[.one .freeCtr, .one .outs, .one (.port n), .one .sw, .reg (PKM.IQPTR.RPTR n), .reg (PKM.IQPTR.WPTR n),
      .reg (PRT.QSTS.STOPPED n), .regs SWX.CNTA.BADTAIL]] := by
  refine .of_may fun s t P ht hP => ?_
  simp at hP
  obtain ⟨hfree, houts, hport, hsw, hrptr, hwptr, hstopped, hbad⟩ := hP
  have hpass (v : State) (bs : List Byte) (hv : Only P s.fresh v) : Only P s.fresh (v.iqPass n bs) :=
    State.iqPass_only hv _ _ hrptr hwptr hsw
  have hfail (c : Prop) [Decidable c] (r : Nat) : Only P s.fresh (if c then s.fresh.badIn r else s.fresh) :=
    .ite (State.badIn_only (.refl _ _) _ hfree (hbad _)) (.refl _ _)
  have hend (v : State) (g : PortX → PortX) (hv : Only P s.fresh v) : Only P s.fresh ((v.modPort n g).wireFree n) :=
    State.wireFree_only (hv.modPort _ _ hport) _ hport hstopped
  have hack : Only P s.fresh (s.fresh.emit (.deviceAck n)) := (Only.refl _ _).emit _ houts
  have htog (v : State) (k : Key) (pid : Nat) (hv : Only P s.fresh v) : Only P s.fresh (v.almToggle n k pid) :=
    State.almToggle_only hv _ _ _ hport
  refine .done ht houts ?_
  split
  · refine hend _ _ ?_
    split
    · exact hpass _ _ hack
    · exact hfail _ _
  · split
    · exact .refl _ _
    · refine hend _ _ ?_
      split
      · exact .ite (hpass _ _ (.refl _ _)) (hpass _ _ (htog _ _ _ hack))
      · exact htog _ _ _ (.refl _ _)
      · exact hfail _ _

theorem execSsplitPeriodic_frame (u : Fin 4) (i adr : BitVec 7) (ep : BitVec 4) (dirIn iso low behindHub tog : Bool)
    (bytes : List Byte) : Frame (.ssplitPeriodic u i adr ep dirIn iso low behindHub tog bytes)
    [[.one .outs, .all .port, .one .sw, .reg (PKM.IQPTR.RPTR (48 + u)), .reg (PKM.IQPTR.WPTR (48 + u)),
      .regs PRT.MTRCNT.DATAHIT, .regs PRT.MTRCNT.NAKHIT, .regs PRT.QSTS.ALMFULL, .regs PRT.QSTS.LATECNT,
      .regs PRT.QSTS.OVFCNT]] := by
  refine .of_may fun s t P ht hP => ?_
  simp at hP
  obtain ⟨houts, hport, hsw, hrptr, hwptr, hdata, hnak, hfull, hlate, hovf⟩ := hP
  refine .done ht houts ?_
  split
  · exact .refl _ _
  next n hn =>
  extract_lets key m r e k full stopped room put see t1
  have hput (v : State) (x : PerRec) (hv : Only P s.fresh v) : Only P s.fresh (put v x) :=
    State.iqPass_only (hv.modPort _ _ (hport n)) _ _ hrptr hwptr hsw
  have hsee (v : State) (hv : Only P s.fresh v) : Only P s.fresh (see v) :=
    State.almSee_only hv _ _ _ _ _ _ (hport n) (hfull n)
  have hset (v : State) (a : AlmEntry) (hv : Only P s.fresh v) : Only P s.fresh (v.setAlm n k a) :=
    hv.setAlm _ _ _ (hport n)
  have h1 : Only P s.fresh t1 := .ite ((Only.refl _ _).bump _ _ (hlate n)) ((Only.refl _ _).bump _ _ (hovf n))
  have hrec (x : PerRec) (a : AlmEntry) : Only P s.fresh ((put s.fresh x).setAlm n k a) :=
    hset _ _ (hput _ _ (.refl _ _))
  clear_value full
  refine .ite (.ite h1 (hsee _ h1)) ?_
  split
  next h =>
    extract_lets t2
    have h2 : Only P s.fresh t2 := hrec _ _
    refine hsee _ ?_
    split
    · exact (h2.bump _ _ (hdata n)).modPort _ _ (hport n)
    · exact h2
    · exact (h2.bump _ _ (hnak n)).modPort _ _ (hport n)
  · exact .ite (hsee _ (hrec _ _)) (.ite (hsee _ (hrec _ _)) (hsee _ (hput _ _ (.refl _ _))))

theorem execPeriodicReady_frame (n : Fin 48) (t : Nat) :
    Frame (.periodicReady n t) [[.one .outs, .one (.port n), .reg (PRT.QSTS.LATECNT n)]] := by
  refine .of_may fun s t P ht hP => ?_
  simp at hP
  obtain ⟨houts, hport, hlate⟩ := hP
  exact .guarded ht houts (State.pipe_only (.refl _ _) _ _ _ houts hport hlate)

theorem execCsplitPeriodic_frame (u : Fin 4) (i adr : BitVec 7) (ep : BitVec 4) (tok : Sys2Proof.CsplitTok) :
    Frame (.csplitPeriodic u i adr ep tok) [[.one .outs, .all .port]] := by
  refine .of_may fun s t P ht hP => ?_
  simp at hP
  obtain ⟨houts, hport⟩ := hP
  have hans (n : Nat) (g : PortX → PortX) (o : Out) : Only P s.fresh ((s.fresh.modPort n g).emit o) :=
    ((Only.refl _ _).modPort _ _ (hport n)).emit _ houts
  have hout (o : Out) : Only P s.fresh (s.fresh.emit o) := (Only.refl _ _).emit _ houts
  refine .done ht houts ?_
  split
  · exact hout _
  · extract_lets key
    split
    · exact hout _
    · split
      · exact .ite (hans _ _ _) (hans _ _ _)
      · exact hans _ _ _
      · exact hans _ _ _
      · exact .ite (hans _ _ _) (hout _)
      · exact hout _

section
variable {P : Part → Prop} {s t : State} {u : Nat}

/-- The places of `ep0Spots` hold what a TT request may write beside what it asks for. -/
theorem May.ttReq (hP : May P (ep0Spots u)) (h : Only P s t) (i : Nat) {own : State → Nat → State} {all : State → State}
    (hown : ∀ v n, Only P s v → Only P s (own v n)) (hall : ∀ v, Only P s v → Only P s (all v)) :
    Only P s (t.ttReq u i own all) := by
  simp [ep0Spots] at hP
  apply State.ttReq_only h _ _ _ _ hown hall
  all_goals simp [hP]

theorem May.ep0_outs (hP : May P (ep0Spots u)) : P .outs := by
  simp [ep0Spots] at hP
  exact hP.1

end

theorem execClearTtBuffer_frame (u : Fin 4) (wValue : BitVec 16) (i : Byte) :
    Frame (.clearTtBuffer u wValue i) [ep0Spots u, [.all .port]] := by
  refine .of_may fun s t P ht hP => ?_
  simp at hP
  obtain ⟨hep0, hport⟩ := hP
  have hclear (v : State) (n : Nat) (hv : Only P s.fresh v) : Only P s.fresh (v.clearTt n wValue.toNat) :=
    State.clearTt_only hv _ _ (hport n)
  refine .done ht hep0.ep0_outs (hep0.ttReq (.refl _ _) _ hclear fun v hv => ?_)
  split
  · exact .ite (hclear _ _ hv) hv
  · exact hv

theorem execResetTt_frame (u : Fin 4) (i : Byte) :
    Frame (.resetTt u i) [ep0Spots u, [.all .port, .regs PRT.QSTS.STOPPED]] := by
  refine .of_may fun s t P ht hP => ?_
  simp at hP
  obtain ⟨hep0, hport, hstopped⟩ := hP
  have hreset (v : State) (n : Nat) (hv : Only P s.fresh v) : Only P s.fresh (v.ttReset n) :=
    State.ttReset_only hv _ (hport n) (hstopped n)
  exact .done ht hep0.ep0_outs (hep0.ttReq (.refl _ _) _ hreset fun v hv => hv.forEach _ _ hreset)

theorem execStopTt_frame (u : Fin 4) (i : Byte) :
    Frame (.stopTt u i) [ep0Spots u, [.all .port, .regs PRT.QSTS.STOPPED]] := by
  refine .of_may fun s t P ht hP => ?_
  simp at hP
  obtain ⟨hep0, hport, hstopped⟩ := hP
  refine .done ht hep0.ep0_outs ?_
  simp [ep0Spots] at hep0
  apply State.portReq_only (.refl _ _) _ _ _ _ _ (fun v n hv => State.stopTt_only hv n (hport n) (hstopped n))
    fun _ _ hv => hv
  all_goals simp [hep0]

theorem execGetTtState_frame (u : Fin 4) (i : Byte) : Frame (.getTtState u i) [ep0Spots u] := by
  refine .of_may fun s t P ht hP => ?_
  simp [ep0Spots] at hP
  refine .done ht hP.1 ?_
  apply State.hubReq_only (.refl _ _) _ _ _ fun v hv => hv.emit _ hP.1
  all_goals simp [hP]

theorem execTtNonperiodicStart_frame (at_ : Sys2Proof.PortTime) :
    Frame (.ttNonperiodicStart at_) [[.one .outs, .one (.port at_.port)]] := by
  refine .of_may fun s t P ht hP => ?_
  simp at hP
  obtain ⟨houts, hport⟩ := hP
  refine .guarded ht houts ?_
  split
  · exact .refl _ _
  · exact ((Only.refl _ _).emit _ houts).modPort _ _ hport

theorem execPrefetchStart_frame (n : Fin 48) (k : Fin 16) (t : Nat) :
    Frame (.prefetchStart n k t) [[.one .outs, .one (.port n)]] := by
  refine .of_may fun s t P ht hP => ?_
  simp at hP
  exact .guarded ht hP.1 (((Only.refl _ _).setAlm _ _ _ hP.2).emit _ hP.1)

theorem execPrefetchOutcome_frame (n : Fin 48) (k : Fin 16) (d : Dev) : Frame (.prefetchOutcome n k d)
    [[.one .freeCtr, .one .outs, .one (.port n), .one .sw, .reg (PKM.IQPTR.RPTR n), .reg (PKM.IQPTR.WPTR n),
      .reg (PRT.MTRSTS.WITHDRAWN n), .reg (PRT.QSTS.STOPPED n), .regs SWX.CNTA.BADTAIL]] := by
  refine .of_may fun s t P ht hP => ?_
  simp at hP
  obtain ⟨hfree, houts, hport, hsw, hrptr, hwptr, hwd, hstopped, hbad⟩ := hP
  refine .done ht houts ?_
  split
  · exact .refl _ _
  extract_lets h tog e1 s1 e2 s2
  have h1 : Only P s.fresh s1 := by
    unfold s1
    split
    · exact State.iqPass_only (.ite ((Only.refl _ _).emit _ houts) (.refl _ _)) _ _ hrptr hwptr hsw
    · exact .ite (State.badIn_only (.refl _ _) _ hfree (hbad _)) (.refl _ _)
  have hset (a : AlmEntry) : Only P s.fresh (s1.setAlm n k a) := h1.setAlm _ _ _ hport
  have hend (v : State) (hv : Only P s.fresh v) : Only P s.fresh (v.wireFree n) :=
    State.wireFree_only hv _ hport hstopped
  have h2 : Only P s.fresh s2 := hend _ (hset _)
  refine .ite (hend _ (State.polledOutcome_only (hset _) _ _ _ _ _ hport)) (.ite ?_ (hend _ (hset _)))
  exact .ite (h2.bump _ _ hwd) h2

theorem execHeldHandshakeExpire_frame (n : Fin 48) (k : Fin 16) :
    Frame (.heldHandshakeExpire n k) [[.one .outs, .one (.port n)]] := by
  refine .of_may fun s t P ht hP => ?_
  simp at hP
  exact .guarded ht hP.1 ((Only.refl _ _).setAlm _ _ _ hP.2)

theorem execControlHoldTimeout_frame (n : Fin 48) (adr : BitVec 7) :
    Frame (.controlHoldTimeout n adr) [[.one .outs, .one (.port n)]] := by
  refine .of_may fun s t P ht hP => ?_
  simp at hP
  exact .guarded ht hP.1 ((State.holdEnd_only (.refl _ _) _ _ hP.2).modPort _ _ hP.2)

theorem execMeteorRearm_frame (n : Fin 48) (k : Fin 16) : Frame (.meteorRearm n k) [[.one .outs, .one (.port n)]] := by
  refine .of_may fun s t P ht hP => ?_
  simp at hP
  exact .guarded ht hP.1 ((Only.refl _ _).setAlm _ _ _ hP.2)

end Sys2Proof.Machine
end

section
/-! PROOFS. Frames of Lodestar and of the handover of ports. -/

namespace Sys2Proof.Machine

section
variable {P : Part → Prop} {s t : State} {n : Nat}

/-- The Roster's summary and change bits of a port hold what a new entry of it may write. -/
theorem May.setEntry (hP : May P (Spot.at rosterFields n)) (h0 : P (.field LDS.CHG0.P00_P31.key))
    (h1 : P (.field LDS.CHG1.P32_P47.key)) (hp : P (.port n)) (h : Only P s t) (e : RosterEntry) :
    Only P s (t.setEntry n e) := by
  simp [rosterFields] at hP
  apply State.setEntry_only h
  all_goals simp [hP, h0, h1, hp]

theorem May.hbMiss (hP : May P (Spot.at rosterFields n)) (h0 : P (.field LDS.CHG0.P00_P31.key))
    (h1 : P (.field LDS.CHG1.P32_P47.key)) (hp : P (.port n)) (he : P .edgeDue) (h : Only P s t) :
    Only P s (t.hbMiss n) := by
  simp [rosterFields] at hP
  apply State.hbMiss_only h
  all_goals simp [hP, h0, h1, hp, he]

end

theorem execLdsEnumStart_frame (n : Fin 48) : Frame (.ldsEnumStart n)
    [Spot.at rosterFields n, [.one .outs, .one (.port n), .reg LDS.CHG0.P00_P31, .reg LDS.CHG1.P32_P47]] := by
  refine .of_may fun s t P ht hP => ?_
  obtain ⟨hroster, hP⟩ := May.append.mp hP
  simp at hP
  obtain ⟨houts, hport, h0, h1⟩ := hP
  exact .guarded ht houts ((hroster.setEntry h0 h1 hport (.refl _ _) _).modLds _ _ hport)

theorem execLdsConnectWaitEnd_frame (n : Fin 48) : Frame (.ldsConnectWaitEnd n)
    [poolSpots, Spot.at hubFields n, [.all .port, .all .up, .reg (PRT.HUBSTS.HIGHSPD n), .reg (PRT.MTRCNT.DATAHIT n),
      .reg (PRT.MTRCNT.NAKHIT n), .reg (PRT.MTRSTS.STRANDED n), .reg (PRT.MTRSTS.WITHDRAWN n),
      .reg (PRT.QSTS.STOPPED n), .regs SWX.CNTA.STALE, .regs SWX.CNTB.RLYWD]] := by
  refine .of_may fun s t P ht hP => ?_
  simp [poolSpots, hubFields] at hP
  refine .guarded ht (by simp only [hP]) ?_
  apply State.ldsReset_only (.refl _ _)
  all_goals simp [hP]

theorem execLdsEnumWaitEnd_frame (n : Fin 48) : Frame (.ldsEnumWaitEnd n)
    [[.one .outs, .one (.port n), .one .sw, .reg (PKM.IQPTR.RPTR 52), .reg (PKM.IQPTR.WPTR 52),
      .reg (SWX.CNTA.STALE 4)]] := by
  refine .of_may fun s t P ht hP => ?_
  simp at hP
  obtain ⟨houts, hport, hsw, hrptr, hwptr, hstale⟩ := hP
  have hget (adr : Nat) (step : LdsStep) (v idx len : Nat) : Only P s.fresh (s.fresh.ldsGet n adr step v idx len) :=
    State.ldsGet_only (.refl _ _) _ _ _ _ _ _ houts hport hrptr hwptr hstale hsw
  refine .done ht houts (.ite (.refl _ _) ?_)
  split
  · exact hget _ _ _ _ _
  · exact hget _ _ _ _ _
  · exact .refl _ _

theorem execLdsHeartbeatPoll_frame (n : Fin 48) (behind : Bool) : Frame (.ldsHeartbeatPoll n behind)
    [Spot.at rosterFields n, [.one .edgeDue, .one .outs, .one (.port n), .reg LDS.CHG0.P00_P31,
      .reg LDS.CHG1.P32_P47, .reg LDS.CNT0.HBDROP]] := by
  refine .of_may fun s t P ht hP => ?_
  obtain ⟨hroster, hP⟩ := May.append.mp hP
  simp at hP
  obtain ⟨hedge, houts, hport, h0, h1, hdrop⟩ := hP
  refine .guarded ht houts ?_
  extract_lets s1
  have hs1 : Only P s.fresh s1 := (Only.refl _ _).modLds _ _ hport
  exact .ite (hroster.hbMiss h0 h1 hport hedge (hs1.bump _ _ hdrop)) ((hs1.emit _ houts).modLds _ _ hport)

theorem execLdsHeartbeatOutcome_frame (n : Fin 48) (d : Dev) : Frame (.ldsHeartbeatOutcome n d)
    [Spot.at rosterFields n, [.one .edgeDue, .one .freeCtr, .one .outs, .one (.port n), .one .sw,
      .reg LDS.CHG0.P00_P31, .reg LDS.CHG1.P32_P47, .reg LDS.CNT1.HBSTALL, .reg (PKM.IQPTR.RPTR 52),
      .reg (PKM.IQPTR.RPTR n), .reg (PKM.IQPTR.WPTR 52), .reg (PKM.IQPTR.WPTR n),
      .reg (SWX.CNTA.BADTAIL (cntIdx 4)), .reg (SWX.CNTA.STALE 4)]] := by
  refine .of_may fun s t P ht hP => ?_
  obtain ⟨hroster, hP⟩ := May.append.mp hP
  simp at hP
  obtain ⟨hedge, hfree, houts, hport, hsw, h0, h1, hstall, hr52, hrn, hw52, hwn, hbad, hstale⟩ := hP
  have hmiss (v : State) (hv : Only P s.fresh v) : Only P s.fresh (v.hbMiss n) := hroster.hbMiss h0 h1 hport hedge hv
  refine .done ht houts (.ite (.refl _ _) ?_)
  split
  · refine (hroster.setEntry h0 h1 hport (State.clockUs_only ?_ hfree) _).modLds _ _ hport
    exact State.iqPass_only ((Only.refl _ _).emit _ houts) _ _ hrn hwn hsw
  · exact hmiss _ (State.ldsSend_only ((Only.refl _ _).bump _ _ hstall) _ _ _ _ _ houts hport hr52 hw52 hstale hsw)
  · exact hmiss _ (State.badIn_only (.refl _ _) _ hfree hbad)
  · exact hmiss _ (.refl _ _)

theorem execHandoverTransit_frame (n : Fin 48) : Frame (.handoverTransit n)
    [poolSpots, Spot.at rosterFields n, [.one .copies, .all .port, .reg LDS.CHG0.P00_P31, .reg LDS.CHG1.P32_P47,
      .reg (PRT.OWNER.OWN n), .reg (PRT.OWNER.STATE n), .regs SWX.CNTA.STALE]] := by
  refine .of_may fun s t P ht hP => ?_
  simp [poolSpots, rosterFields] at hP
  refine .guarded ht (by simp only [hP]) ?_
  apply State.toTransit_only (.refl _ _)
  all_goals simp [hP]

theorem execHandoverClaiming_frame (n : Fin 48) : Frame (.handoverClaiming n)
    [[.one .copies, .one .outs, .one (.port n), .all .up, .reg (PRT.OWNER.OWN n), .reg (PRT.OWNER.STATE n)]] := by
  refine .of_may fun s t P ht hP => ?_
  simp at hP
  obtain ⟨hcopies, houts, hport, hup, hown, hstate⟩ := hP
  refine .guarded ht houts ?_
  extract_lets s1 view
  have h1 : Only P s.fresh s1 :=
    (((Only.refl _ _).wrVoted _ _ hown hcopies).wrVoted _ _ hstate hcopies).modPort _ _ hport
  exact .ite (h1.setView _ _ _ (hup _)) h1

theorem execHandoverOwned_frame (n : Fin 48) : Frame (.handoverOwned n)
    [poolSpots, Spot.at hubFields n, Spot.at rosterFields n, bookSpots, [.one .copies, .one .freeCtr, .all .port,
      .all .up, .reg LDS.CHG0.P00_P31, .reg LDS.CHG1.P32_P47, .reg (PRT.ALTMUX.ACTIVE n), .regs PRT.ALTMUX.QBUSY,
      .regs PRT.ALTMUX.QHOLD, .reg (PRT.FUSEVT.PGOFF n), .reg (PRT.FUSSTS.FOLD n), .reg (PRT.FUSSTS.GATEON n),
      .reg (PRT.FUSSTS.LIMIT n), .reg (PRT.FUSSTS.PG n), .reg (PRT.HUBSTS.CONNECTION n), .reg (PRT.HUBSTS.HIGHSPD n),
      .reg (PRT.HUBSTS.LOWSPD n), .reg (PRT.HUBSTS.POWER n), .reg (PRT.MTRCNT.DATAHIT n), .reg (PRT.MTRCNT.NAKHIT n),
      .reg (PRT.MTRSTS.STRANDED n), .reg (PRT.MTRSTS.WITHDRAWN n), .reg (PRT.OWNCNT.DONE n), .reg (PRT.OWNCNT.RSTHO n),
      .reg (PRT.OWNER.NEXT n), .reg (PRT.OWNER.STATE n), .reg (PRT.PDSTS.ALTMODE n), .reg (PRT.PDSTS.EVT n),
      .reg (PRT.PDSTS.EXPLICIT n), .reg (PRT.PDSTS.OBJPOS n), .reg (PRT.PDSTS.OPCURR n), .reg (PRT.PDSTS.PWRROLE n),
      .reg (PRT.PDSTS.VCSRC n), .reg (PRT.PDSTS.VSEL n), .reg (PRT.QSTS.STOPPED n), .reg (PRT.TCEVT.OOS n),
      .reg (PRT.TCEVT.WETOUT n), .reg (PRT.TCSTS.MOISTOK n), .reg (PRT.TCSTS.OOS n), .reg (PRT.TCSTS.ORIENT n),
      .reg (PRT.TCSTS.RPADV n), .reg (PRT.TCSTS.TCSTATE n), .reg (PRT.TCSTS.WET n), .reg (PRT.TCSTS.WETGND n),
      .reg (PRT.TCSTS.WETPIN n), .reg (PRT.TCSTS.WETVBUS n), .reg (PRT.VCONN.ON n), .reg (PWR.PALLOW.SHED n),
      .reg (PWR.PALLOW.WAIT n), .reg (PWR.PBOOK.COMMIT n), .reg (PWR.PBOOK.CONTRACT n), .regs SWX.CNTA.STALE,
      .regs SWX.CNTB.RLYWD]] := by
  refine .of_may fun s t P ht hP => ?_
  simp [poolSpots, hubFields, rosterFields, bookSpots] at hP
  refine .guarded ht (by simp only [hP]) ?_
  extract_lets s1 s2
  have h1 : Only P s.fresh s1 := by
    refine (((Only.refl _ _).wrVoted _ _ ?_ ?_).wr _ _ ?_).bump _ _ ?_
    all_goals simp only [hP]
  have h2 : Only P s.fresh s2 := .ite (h1.bump _ _ (by simp only [hP])) h1
  apply State.evalDemand_only (h2.modPort _ _ (by simp only [hP]))
  all_goals simp [hP]

theorem execInitialOwnershipApply_frame : Frame .initialOwnershipApply
    [poolSpots, Spot.each downFields, Spot.each hubFields, Spot.each rosterFields, bookSpots, [.one .boot, .one .copies,
      .one .freeCtr, .all .port, .all .up, .reg LDS.CHG0.P00_P31, .reg LDS.CHG1.P32_P47, .regs PRT.HUBSTS.POWER,
      .regs PRT.OWNER.OWN, .regs PRT.OWNER.STATE, .regs PRT.TCEVT.OOS, .regs PRT.TCSTS.OOS, .regs PRT.TCSTS.RPADV,
      .regs SWX.CNTA.STALE, .regs SWX.CNTB.RLYWD]] := by
  refine .of_may fun s t P ht hP => ?_
  simp [poolSpots, downFields, hubFields, rosterFields, bookSpots] at hP
  refine .guarded ht (by simp only [hP]) ?_
  extract_lets s1 boot s2
  have h1 : Only P s.fresh s1 := (Only.refl _ _).forEach _ _ fun v n hv => by
    refine (hv.wrVoted _ _ ?_ ?_).wrVoted _ _ ?_ ?_
    all_goals simp only [hP]
  have h2 : Only P s.fresh s2 := h1.setBoot _ (by simp only [hP])
  refine h2.forEach _ _ fun v n hv => ?_
  apply State.evalDemand_only (hv.modPort _ _ (by simp only [hP]))
  all_goals simp [hP]

end Sys2Proof.Machine
end

section
/-! PROOFS. The frames of translators, relay, packet memory, ownership and Lodestar. -/

namespace Sys2Proof.Machine

/-- Settles O58: each command's frame, from the frames of the operations it is made of. -/
theorem framesOfTransfers : Obligations.FramesOfTransfers :=
  ⟨execHostPing_frame, execIsoOutLateDiscard_frame, execIsoHeldExpire_frame, execCutThroughStart_frame,
    execPacketRelease_frame, execDownstreamOutResponse_frame, execRelaySlotFree_frame, execGranuleReturn_frame,
    execHostSof_frame, execAlmanacLearningTimeout_frame, execFsFrameStart_frame, execSsplitNonperiodic_frame,
    execCsplitNonperiodic_frame, execTtTransactionComplete_frame, execSsplitPeriodic_frame, execPeriodicReady_frame,
    execCsplitPeriodic_frame, execClearTtBuffer_frame, execResetTt_frame, execStopTt_frame, execGetTtState_frame,
    execTtNonperiodicStart_frame, execPrefetchStart_frame, execPrefetchOutcome_frame, execHeldHandshakeExpire_frame,
    execControlHoldTimeout_frame, execMeteorRearm_frame, execCorrectedError_frame, execOverlayWritebackComplete_frame,
    execLdsEnumStart_frame, execLdsConnectWaitEnd_frame, execLdsEnumWaitEnd_frame, execLdsHeartbeatPoll_frame,
    execLdsHeartbeatOutcome_frame, execHandoverTransit_frame, execHandoverClaiming_frame, execHandoverOwned_frame,
    execInitialOwnershipApply_frame⟩

end Sys2Proof.Machine
end

section
/-! SUPPORT. What recording a fault of packet memory or of the switch leaves alone: the switch's FLTSTS, and its counts of
bad tails (R375, R379). -/

namespace Sys2Proof.Machine

/-! ## Where these fields lie -/

/-- A field of the switch's block that the safe state leaves alone: what the loss of a port counts, and the state of a fault
block that the safe state ends, lie elsewhere. -/
structure Field.SparedSwx (g : Field) : Prop where
  lo : 0xB000 * 32 ≤ g.key
  hi : g.key < 0xC000 * 32
  stale : ∀ i, Part.field (SWX.CNTA.STALE i).key ≠ .field g.key
  rlywd : ∀ i, Part.field (SWX.CNTB.RLYWD i).key ≠ .field g.key
  timers : ∀ b, Part.field (FLT.FLTTIMERS.STATE b).key ≠ .field g.key
  latched : ∀ b, Part.field (FLT.RECOV.LATCHED b).key ≠ .field g.key

/-- The fault words of the other blocks lie below the switch's words or above its block. -/
theorem FBlk.base_apart (b : FBlk) : b.base ≤ 0xA100 ∨ b.base = 0xB100 ∨ 0xC100 ≤ b.base := by
  cases b with
  | prt n | qd n | sec n | ups n => exact .inr (.inr (Nat.le_add_right_of_le (by decide)))
  | swx => exact .inr (.inl rfl)
  | pkm | pwr | icu | nw | sys => exact .inl (by decide)

/-- A field of a later fault word of a block is not the block's FLTSTS. -/
theorem FBlk.later_ne {b : FBlk} {f : Field} {o l w v : Nat} {c : Acc} {z : Bool} (hf : f = ⟨b.base + o, l, w, c, v, z⟩)
    (ho : 0 < o) : Part.field f.key ≠ .field (FLT.FLTSTS.SRC b).key :=
  Part.field_ne hf (show _ ≠ (b.base + 0) * 32 + 0 by omega)

theorem SWX.CNTA.BADTAIL_key (r : Nat) : (SWX.CNTA.BADTAIL r).key = (0xB000 + 0x10 + 0x10 * (r % 5)) * 32 + 16 := rfl

theorem SWX.CNTA.BADTAIL_spared (r : Nat) : (SWX.CNTA.BADTAIL r).SparedSwx := by
  have hg := SWX.CNTA.BADTAIL_key r
  exact ⟨by omega, by omega, fun i => Part.field_ne rfl (by omega), fun i => Part.field_ne rfl (by omega),
    fun b => Part.field_ne rfl (by have := b.base_apart; omega), fun b => Part.field_ne rfl (by have := b.base_apart; omega)⟩

theorem FLT.FLTSTS.SRC_swx_spared : (FLT.FLTSTS.SRC .swx).SparedSwx := by
  have hg : (FLT.FLTSTS.SRC .swx).key = 0xB100 * 32 := rfl
  exact ⟨by omega, by omega, fun i => Part.field_ne rfl (by omega), fun i => Part.field_ne rfl (by omega),
    fun b => Part.field_ne rfl (by have := b.base_apart; omega), fun b => Part.field_ne rfl (by have := b.base_apart; omega)⟩

/-! ## The safe state, and what takes it -/

section
variable {g : Field} (hg : g.SparedSwx)
include hg

theorem State.demandFall_sparesSwx (s : State) (n : Nat) : Only (· ≠ .field g.key) s (s.demandFall n) := by
  obtain ⟨lo, hi, stale, rlywd, -, -⟩ := hg
  apply State.demandFall_only (.refl _ _)
  all_goals
    intros
    first
      | with_reducible exact stale _
      | with_reducible exact rlywd _
      | exact Part.field_ne rfl (by omega)
      | exact nofun

theorem State.detachPers_sparesSwx (s : State) (u : Nat) : Only (· ≠ .field g.key) s (s.detachPers u) := by
  obtain ⟨lo, hi, stale, rlywd, -, -⟩ := hg
  apply State.detachPers_only (.refl _ _)
  all_goals
    intros
    first
      | with_reducible exact stale _
      | with_reducible exact rlywd _
      | exact Part.field_ne rfl (by omega)
      | exact nofun

theorem State.engineStop_sparesSwx (s : State) (e : Nat) : Only (· ≠ .field g.key) s (s.engineStop e) := by
  obtain ⟨lo, hi, -, -, -, -⟩ := hg
  apply State.engineStop_only (.refl _ _)
  all_goals (intros; first | exact Part.field_ne rfl (by omega) | exact nofun)

theorem State.edge_sparesSwx (s : State) (i : Nat) : Only (· ≠ .field g.key) s (s.edge i) := by
  obtain ⟨lo, hi, -, -, -, -⟩ := hg
  apply State.edge_only (.refl _ _)
  all_goals (intros; first | exact Part.field_ne rfl (by omega) | exact nofun)

theorem State.faultPin_sparesSwx (s : State) (sev : Nat) : Only (· ≠ .field g.key) s (s.faultPin sev) := by
  obtain ⟨lo, hi, -, -, -, -⟩ := hg
  apply State.faultPin_only (.refl _ _)
  all_goals first | exact Part.field_ne rfl (by omega) | exact nofun

theorem State.journal_sparesSwx (s : State) (code inst outcome slot reason arg : Nat) :
    Only (· ≠ .field g.key) s (s.journal code inst outcome slot reason arg) := by
  obtain ⟨lo, hi, -, -, -, -⟩ := hg
  apply State.journal_only (.refl _ _)
  all_goals first | exact Part.field_ne rfl (by omega) | exact nofun

theorem State.safeState_sparesSwx (s : State) (b : FBlk) (k : Nat) : Only (· ≠ .field g.key) s (s.safeState b k) := by
  unfold State.safeState
  extract_lets s1 s2 s3
  have k1 : Only (· ≠ .field g.key) s s1 := Only.forEach (.refl _ _) _ _ fun u n hu =>
    State.fbiHiZ_only (.ite (hu.trans (State.demandFall_sparesSwx hg u n)) hu) n nofun nofun
  have k2 : Only (· ≠ .field g.key) s s2 :=
    k1.forEach _ _ fun u n hu => hu.trans (State.detachPers_sparesSwx hg u n)
  have k3 : Only (· ≠ .field g.key) s s3 :=
    k2.foldl _ _ fun u c hu => .ite (hu.wr _ _ (hg.timers c)) hu
  have k4 := k3.forEach (List.range 11) _ fun u e hu => hu.trans (State.engineStop_sparesSwx hg u e)
  exact (k4.setSafe true nofun).trans (State.journal_sparesSwx hg _ _ _ _ _ _ _)

variable {b : FBlk} (hb : b = .pkm ∨ b = .swx)
include hb

/-- The action of packet memory's block, or of the switch's, is the safe state (R378). -/
theorem State.takeAction_sparesSwx (s : State) (k sev : Nat) : Only (· ≠ .field g.key) s (s.takeAction b k sev) := by
  have heff (u : State) : u.actionEffect b k = u.safeState b k := by rcases hb with rfl | rfl <;> rfl
  unfold State.takeAction
  extract_lets latch s1 t1 s2
  have k1 : Only (· ≠ .field g.key) s s1 := (Only.refl _ s).modFlt _ _ nofun
  have k2 : Only (· ≠ .field g.key) s s2 := by
    have ht : Only (· ≠ .field g.key) s t1 := (k1.wr _ _ (hg.timers b)).raise _ (hg.latched b)
    refine .ite ?_ (k1.wr _ _ (hg.timers b))
    rcases hb with rfl | rfl <;> exact ht
  refine .ite (.refl _ _) ?_
  rw [if_neg (by rcases hb with rfl | rfl <;> nofun), heff]
  exact (k2.trans (State.faultPin_sparesSwx hg s2 sev)).trans (State.safeState_sparesSwx hg _ b k)

/-- What follows the record of a fault (R375). -/
theorem State.record_after_recordOnly (s : State) (k : Nat) :
    Only (· ≠ .field g.key) (s.recordOnly b k) (s.record b k) := by
  unfold State.record
  extract_lets sev s1 s2
  have k2 : Only (· ≠ .field g.key) s1 s2 := (Only.refl _ s1).modFlt _ _ nofun
  exact .ite (.refl _ _) (.ite (State.takeAction_sparesSwx hg hb s1 k sev)
    (.ite (.ite (k2.wr _ _ (hg.timers b)) k2) (.refl _ _)))

end

/-- A recorded source of the switch shows in its FLTSTS (R375). -/
theorem State.record_swx_shows (s : State) {k : Nat} (hk : k < 16) :
    bitAt ((s.record .swx k).rd (FLT.FLTSTS.SRC .swx)) k = true := by
  have hg := FLT.FLTSTS.SRC_swx_spared
  rw [Only.rd (State.record_after_recordOnly hg (.inr rfl) s k)]
  unfold State.recordOnly
  extract_lets sev s1 s2 s3
  have k2 : Only (· ≠ .field (FLT.FLTSTS.SRC .swx).key) s1 s2 := by
    refine .ite (.refl _ _) (.wr (.raise (.wr (.wr (.refl _ _) _ _ ?_) _ _ ?_) _ ?_) _ _ ?_)
    all_goals exact FBlk.later_ne (b := .swx) rfl (by decide)
  have k3 : Only (· ≠ .field (FLT.FLTSTS.SRC .swx).key) s1 s3 :=
    .ite (k2.bump _ _ (FBlk.later_ne (b := .swx) rfl (by decide))) k2
  rw [Only.rd (k3.trans (State.edge_sparesSwx hg s3 _))]
  simp only [s1, State.orBits_eq_wr, State.rd_wr_self]
  exact bitAt_orBit _ 16 hk

/-- A fault of packet memory is shown outside the switch's block. -/
theorem State.record_pkm_sparesSwx {g : Field} (hg : g.SparedSwx) (s : State) (k : Nat) :
    Only (· ≠ .field g.key) s (s.record .pkm k) := by
  refine .trans ?_ (State.record_after_recordOnly hg (.inl rfl) s k)
  obtain ⟨lo, hi, -, -, -, -⟩ := hg
  have hpkm : FBlk.pkm.base = 0xA100 := rfl
  apply State.recordOnly_only (.refl _ _)
  all_goals (intros; first | exact Part.field_ne rfl (by omega) | exact nofun)

theorem State.voidPkt_sparesSwx {g : Field} (hg : g.SparedSwx) (s : State) (id : Nat) (wire : Bool) :
    Only (· ≠ .field g.key) s (s.voidPkt id wire) := by
  obtain ⟨lo, hi, -, -, -, -⟩ := hg
  apply State.voidPkt_only (.refl _ _)
  all_goals (intros; first | exact Part.field_ne rfl (by omega) | exact nofun)

/-- A producer, even one whose ingress queue is full, counts nothing in the switch's block (R240, R241). -/
theorem State.produce_sparesSwx {g : Field} (hg : g.SparedSwx) (s : State) (p : Pkt) :
    Only (· ≠ .field g.key) s (s.produce p) := by
  have hw (k : Nat) : Part.field (PKM.IQPTR.WPTR k).key ≠ .field g.key := Part.field_ne rfl (by have := hg.lo; omega)
  have hr (k : Nat) : Part.field (PKM.IQPTR.RPTR k).key ≠ .field g.key := Part.field_ne rfl (by have := hg.lo; omega)
  unfold State.produce
  extract_lets ws wrote s1
  have hwrote (u : State) (hu : Only (· ≠ .field g.key) s u) : Only (· ≠ .field g.key) s (wrote u) :=
    State.modPkt_only hu _ _ nofun
  have h1 : Only (· ≠ .field g.key) s s1 := hwrote _ (State.iqPush_only (.refl _ _) _ _ (hw _) nofun)
  exact .ite (hwrote _ ((Only.refl _ _).modSw _ nofun))
    (.ite ((State.voidPkt_sparesSwx hg s _ _).trans (State.record_pkm_sparesSwx hg _ 1))
      (.ite (State.iqPop_only h1 _ _ (hr _)) h1))

end Sys2Proof.Machine
end

section
/-! PROOFS. Packets in the switch: cut-through, the fabric's beats, the tail, the release and the late discard. -/

namespace Sys2Proof.Machine

/-! ## What the switch's own operations show -/

section
variable {s : State} {id : Nat} {p : Pkt}

theorem State.id_of_pkt (hp : s.pkt id = some p) : p.id = id := by simpa using List.find?_some hp

theorem State.mem_of_pkt (hp : s.pkt id = some p) : p ∈ s.sw.packets := List.mem_of_find?_eq_some hp

end

/-- A packet that is changed is in the switch as the change makes it. -/
theorem State.mem_modPkt {s : State} {p : Pkt} (hp : p ∈ s.sw.packets) (g : Pkt → Pkt) :
    g p ∈ (s.modPkt p.id g).sw.packets := by
  rw [State.packets_modPkt]
  exact List.mem_map.mpr ⟨p, hp, if_pos rfl⟩

theorem State.dropPkt_gone (s : State) (id : Nat) : ∀ q ∈ (s.dropPkt id).sw.packets, q.id ≠ id := by simp

/-- The end of a packet writes packet memory's block alone. -/
theorem State.dropPkt_rd (s : State) (id : Nat) {g : Field} (h : 0xB000 * 32 ≤ g.key) :
    (s.dropPkt id).rd g = s.rd g := by
  apply Only.rd
  apply State.dropPkt_only (.refl _ _)
  all_goals (intros; first | exact Part.field_ne rfl (by omega) | exact nofun)

theorem State.outs_dropPkt (s : State) (id : Nat) : (s.dropPkt id).outs = s.outs := by
  apply Only.outs
  apply State.dropPkt_only (.refl _ _)
  all_goals (intros; exact nofun)

theorem State.outs_fallSettle (s : State) : s.fallSettle.outs = s.outs :=
  Only.outs (State.fallSettle_only (.refl _ _) nofun nofun)

theorem State.port_fallSettle (s : State) (n : Nat) : s.fallSettle.port n = s.port n :=
  Only.port (State.fallSettle_only (.refl _ _) nofun nofun)

@[simp] theorem State.beats_fallSettle (s : State) : s.fallSettle.sw.beats = s.sw.beats := by
  unfold State.fallSettle
  extract_lets
  split <;> rfl

@[simp] theorem State.lastIn_fallSettle (s : State) : s.fallSettle.sw.lastIn = s.sw.lastIn := by
  unfold State.fallSettle
  extract_lets
  split <;> rfl

/-- One beat of a packet (R212): up to two of its words are read. -/
theorem State.copyBeat_shows {s : State} {p : Pkt} (hmem : p ∈ s.sw.packets) :
    (s.copyBeat p).sw.beats = s.sw.beats + 1 ∧ (s.copyBeat p).sw.lastIn = p.inp ∧
      ∃ q ∈ (s.copyBeat p).sw.packets, q.id = p.id ∧ q.rdW = p.rdW + min 2 (p.wrW - p.rdW) := by
  unfold State.copyBeat
  extract_lets k used at_ s1 s2 d
  have hs2 : s2.sw = s1.sw := by dsimp only [s2]; split <;> rfl
  have hbeats : s2.sw.beats = s.sw.beats := (congrArg SwX.beats hs2).trans rfl
  have hpk : ∃ q ∈ s2.sw.packets, q.id = p.id ∧ q.rdW = p.rdW + k := by
    rw [hs2]
    exact ⟨_, State.mem_modPkt hmem _, rfl, rfl⟩
  rw [State.beats_fallSettle, State.lastIn_fallSettle, State.packets_fallSettle]
  exact ⟨congrArg (· + 1) hbeats, rfl, hpk⟩

/-! ## Cut-through and the late isochronous OUT -/

section
variable {id : Nat} {p : Pkt} {s : State} (hp : s.pkt id = some p)
include hp

theorem execIsoOutLateDiscard_late (hkind : p.kind = .isoOut) (hlate : mDiff (s.up p.side).frameM p.age ≠ 0) :
    Completes (.isoOutLateDiscard id) s (fun t => (∀ q ∈ t.sw.packets, q.id ≠ id) ∧
      CountsUp (SWX.CNTC.ISODROP (cntIdx p.side)) s t) := by
  refine ⟨(s.fresh.dropPkt id).bump (SWX.CNTC.ISODROP (cntIdx p.side)), ?_, State.dropPkt_gone s.fresh id,
    CountsUp.bump (State.dropPkt_rd _ _ (SWX.CNTC.ISODROP_key _))⟩
  show execIsoOutLateDiscard id s = _
  unfold execIsoOutLateDiscard
  simp only [hp, hkind, hlate, ne_eq, not_false_eq_true, and_self, if_true, done_eq]

theorem execCutThroughStart_ready (hstarted : p.started = false) (hask : p.asking = false) (hhead : s.atHead p = true)
    (hready : p.tail ≠ .receiving ∨ s.rd PKM.CTL.CUTTHR ≤ p.wrW) :
    Completes (.cutThroughStart id) s (fun t => ∃ q ∈ t.sw.packets, q.id = id ∧ q.started = true) := by
  obtain rfl := State.id_of_pkt hp
  refine ⟨s.fresh.modPkt p.id (fun q => { q with started := true }), ?_, _,
    State.mem_modPkt (s := s.fresh) (State.mem_of_pkt hp) _, rfl, rfl⟩
  show execCutThroughStart p.id s = _
  unfold execCutThroughStart
  have hcond : (p.tail != .receiving || decide (s.rd PKM.CTL.CUTTHR ≤ p.wrW)) = true := by simpa using hready
  simp only [hp, hstarted, hask, hhead, hcond, Bool.not_false, Bool.and_self, if_true, done_eq]

/-! ## The fabric's beats -/

variable {out : Fin 53} (hcopy : s.copyable p = true) (hturn : s.nextIn = some p.inp)
include hcopy hturn

theorem execFabricBeat_permitted (hok : s.pairOk p.inp out = true) (hout : p.out = out) :
    Completes (.fabricBeat id out) s (fun t => t.sw.beats = s.sw.beats + 1 ∧ t.sw.lastIn = p.inp ∧
      ∃ q ∈ t.sw.packets, q.id = id ∧ q.rdW = p.rdW + min 2 (p.wrW - p.rdW)) := by
  obtain rfl := State.id_of_pkt hp
  refine ⟨s.fresh.copyBeat p, ?_, State.copyBeat_shows (s := s.fresh) (State.mem_of_pkt hp)⟩
  show execFabricBeat p.id out s = _
  unfold execFabricBeat
  simp [hp, hcopy, hturn, hok, hout]

/-- A beat towards an output that R214 does not permit is recorded as SWX source 0 (R214, R375). -/
theorem execFabricBeat_refused (hno : s.pairOk p.inp out = false) (hout : p.out ≠ out) :
    Completes (.fabricBeat id out) s (fun t => bitAt (t.rd (FLT.FLTSTS.SRC .swx)) 0 = true) := by
  refine ⟨_, ?_, State.record_swx_shows (((s.fresh.voidPkt id false).edge 5)) (k := 0) (by decide)⟩
  show execFabricBeat id out s = _
  unfold execFabricBeat
  simp [hp, hcopy, hturn, hno, Ne.symm hout]

end

/-! ## A packet's tail (R216, R219, R240) -/

/-- Trimming a reservation answers nothing, and leaves the ingress queues and the ports as they are. -/
theorem State.trim_leaves (s : State) (p : Pkt) (k : Nat) :
    (s.trim p).outs = s.outs ∧ (s.trim p).port k = s.port k ∧ (s.trim p).iqWords k = s.iqWords k ∧
      (s.trim p).iqHeld k = s.iqHeld k := by
  refine ⟨?outs, ?port, ?iq⟩
  case outs =>
    apply Only.outs
    apply State.trim_only (.refl _ _)
    all_goals exact nofun
  case port =>
    apply Only.port
    apply State.trim_only (.refl _ _)
    all_goals exact nofun
  case iq =>
    unfold State.trim
    extract_lets own g pool s1
    split
    · exact ⟨rfl, rfl⟩
    · split
      · exact State.iq_setPool s1 _ k
      · exact ⟨rfl, rfl⟩

/-- Trimming a reservation changes no packet's tail. -/
theorem State.trim_tail {s : State} {id : Nat} {t : Tail} (p : Pkt) (h : ∃ q ∈ s.sw.packets, q.id = id ∧ q.tail = t) :
    ∃ q ∈ (s.trim p).sw.packets, q.id = id ∧ q.tail = t := by
  unfold State.trim
  extract_lets own g pool s1
  have h1 : ∃ q ∈ s1.sw.packets, q.id = id ∧ q.tail = t := by
    obtain ⟨q, hq, hid⟩ := h
    refine ⟨_, List.mem_map_of_mem hq, ?_⟩
    split <;> exact hid
  split
  · exact h
  · split
    · rwa [State.packets_setPool]
    · exact h1

theorem State.port_produce_of_room (s : State) (p : Pkt) (n : Nat)
    (room : p.pair = 2 ∨ s.iqHeld p.inp + (p.written - p.wrW) ≤ s.iqWords p.inp) :
    (s.produce p).port n = s.port n := by
  unfold State.produce
  extract_lets ws wrote s1
  have hws : ws.length ≤ p.written - p.wrW := by simp only [ws, List.length_take]; omega
  split
  · rfl
  · rename_i hp
    have := room.resolve_left hp
    rw [if_neg (by omega)]
    split <;> rfl

/-- The state in which a good tail is answered: the packet's last words written, its reservation trimmed. -/
def State.tailIn (s : State) (p : Pkt) : State :=
  (((s.modPkt p.id (fun x => { x with tail := .good })).trim p).produce { p with tail := .good }).fallSettle

section
variable {s : State} {p : Pkt} (hmem : p ∈ s.sw.packets)
  (room : s.iqHeld p.inp + ((p.bytes.length + 7) / 8 - p.wrW) ≤ s.iqWords p.inp)
include hmem room

theorem State.tailIn_of_room : (s.tailIn p).outs = s.outs ∧ (∀ n, (s.tailIn p).port n = s.port n) ∧
    ∃ q ∈ (s.tailIn p).sw.packets, q.id = p.id ∧ q.tail = .good := by
  unfold State.tailIn
  let p' : Pkt := { p with tail := .good }
  let s0 := s.modPkt p.id (fun x => { x with tail := .good })
  let s1 := s0.trim p
  have hmem0 : p' ∈ s0.sw.packets := State.mem_modPkt hmem fun x => { x with tail := .good }
  have hleaves := s0.trim_leaves p
  obtain ⟨houts, -, hwords, hheld⟩ := hleaves p.inp
  have hroom : p'.pair = 2 ∨ s1.iqHeld p'.inp + (p'.written - p'.wrW) ≤ s1.iqWords p'.inp := by
    right
    show s1.iqHeld p.inp + ((p.bytes.length + 7) / 8 - p.wrW) ≤ s1.iqWords p.inp
    rw [hwords, hheld]
    exact room
  obtain ⟨hpk, hsame⟩ := s1.produce_of_room p' hroom
  refine ⟨?_, fun n => ?_, ?_⟩
  · exact (State.outs_fallSettle _).trans (hsame.trans houts)
  · exact (State.port_fallSettle _ n).trans ((s1.port_produce_of_room p' n hroom).trans (hleaves n).2.1)
  · rw [State.packets_fallSettle, hpk]
    obtain ⟨q, hq, hid, htail⟩ := State.trim_tail p ⟨p', hmem0, rfl, rfl⟩
    exact ⟨_, List.mem_map_of_mem hq, by split <;> exact ⟨hid, htail⟩⟩

end

/-- A packet whose tail is bad is voided, and counted for its side (R219). -/
theorem State.voidTail_bad (s : State) (p : Pkt) :
    (∀ q ∈ (s.voidTail p false).sw.packets, q.id ≠ p.id) ∧
      CountsUp (SWX.CNTA.BADTAIL (cntIdx p.side)) s (s.voidTail p false) := by
  unfold State.voidTail
  extract_lets s0 s1 s2
  have hbad := SWX.CNTA.BADTAIL_spared (cntIdx p.side)
  have h0 : s0.rd (SWX.CNTA.BADTAIL (cntIdx p.side)) = s.rd (SWX.CNTA.BADTAIL (cntIdx p.side)) :=
    (Only.rd (State.produce_sparesSwx hbad _ _)).trans (State.rd_modPkt ..)
  have h2 : CountsUp (SWX.CNTA.BADTAIL (cntIdx p.side)) s s2 :=
    (State.dropPkt_rd s1 p.id hbad.lo).trans (CountsUp.bump h0)
  have hgone : ∀ q ∈ s2.sw.packets, q.id ≠ p.id := s1.dropPkt_gone p.id
  split
  · exact ⟨hgone, h2⟩
  · split
    · split
      · exact ⟨by rwa [State.packets_modSlot], (State.modSlot_rd ..).trans h2⟩
      · exact ⟨hgone, h2⟩
    · exact ⟨hgone, h2⟩

section
variable {id : Nat} {p : Pkt} {x : Slot} {s : State} (hp : s.pkt id = some p) (htail : p.tail = .receiving)
  (hrel : p.released = false)
include hp htail hrel

/-- A host OUT with a good tail, and room left for a further packet, is ACKed. -/
theorem execPacketTail_out (hvoid : p.void = false) (hdest : s.destOk p = true)
    (room : s.iqHeld p.inp + ((p.bytes.length + 7) / 8 - p.wrW) ≤ s.iqWords p.inp) (hkind : p.kind = .out)
    (hnyet : p.nyet = false) :
    Completes (.packetTail id true) s (fun t => t.outs = [.usb p.side .ack] ∧ ∃ q ∈ t.sw.packets, q.id = id ∧
      q.tail = .good) := by
  obtain rfl := State.id_of_pkt hp
  obtain ⟨houts, -, hpk⟩ := State.tailIn_of_room (s := s.fresh) (State.mem_of_pkt hp) room
  let s2 := if p.bytes.isEmpty then (s.fresh.tailIn p).modUp p.side (fun x => { x with
      xfers := x.xfers.filter (fun c => c.1 != p.key.addr || c.2.ep != p.key.ep || c.2.statusIn) })
    else s.fresh.tailIn p
  have hs2 : s2.outs = [] ∧ s2.sw = (s.fresh.tailIn p).sw := by
    dsimp only [s2]
    split <;> exact ⟨houts, rfl⟩
  refine ⟨s2.emit (.usb p.side .ack), ?_, congrArg (· ++ [_]) hs2.1, ?_⟩
  · show execPacketTail p.id true s = _
    unfold execPacketTail
    simp [hp, htail, hrel, hvoid, hdest, hkind, hnyet, s2, State.tailIn]
  · show ∃ q ∈ s2.sw.packets, _
    rw [hs2.2]
    exact hpk

/-- A device's DATA with a good tail is ACKed, but for an isochronous one. -/
theorem execPacketTail_inData (hvoid : p.void = false) (hdest : s.destOk p = true)
    (room : s.iqHeld p.inp + ((p.bytes.length + 7) / 8 - p.wrW) ≤ s.iqWords p.inp) (hkind : p.kind = .inData)
    (hx : s.slot p.inp p.key = some x) (hiso : x.iso = false) :
    Completes (.packetTail id true) s (fun t => t.outs = [.deviceAck p.inp] ∧ ∃ q ∈ t.sw.packets, q.id = id ∧
      q.tail = .good) := by
  obtain rfl := State.id_of_pkt hp
  obtain ⟨houts, hport, hpk⟩ := State.tailIn_of_room (s := s.fresh) (State.mem_of_pkt hp) room
  have hx1 : (s.fresh.tailIn p).slot p.inp p.key = some x := by
    unfold State.slot
    rw [hport]
    exact hx
  refine ⟨(s.fresh.tailIn p).emit (.deviceAck p.inp), ?_, congrArg (· ++ [_]) houts, hpk⟩
  show execPacketTail p.id true s = _
  unfold execPacketTail
  rw [hp]
  dsimp only
  rw [if_neg (by simp [htail, hrel]), if_neg (by simp [hvoid]), if_neg (by simp [hdest]), if_pos hkind]
  change done (match (s.fresh.tailIn p).slot p.inp p.key with | some x => _ | none => _) = _
  rw [hx1]
  exact congrArg done (if_neg (by simp [hiso]))

theorem execPacketTail_bad :
    Completes (.packetTail id false) s (fun t => (∀ q ∈ t.sw.packets, q.id ≠ id) ∧
      CountsUp (SWX.CNTA.BADTAIL (cntIdx p.side)) s t) := by
  obtain rfl := State.id_of_pkt hp
  refine ⟨s.fresh.voidTail p false, ?_, State.voidTail_bad s.fresh p⟩
  show execPacketTail p.id false s = _
  unfold execPacketTail
  simp [hp, htail, hrel]

end

/-! ## A packet's release (R213, R219, R222) -/

section
variable {id : Nat} {p : Pkt} {x : Slot} {s : State} (hp : s.pkt id = some p) (htail : p.tail = .good) (hcopied : p.copied = true)
  (hrel : p.released = false)
  (hfirst : s.sw.packets.any (fun q => q.inp == p.inp && q.out == p.out && decide (q.id < p.id) && !q.released) = false)
  (hdest : s.destOk p = true)
include hp htail hcopied hrel hfirst hdest

/-- A device's DATA goes into its relay slot. -/
theorem execPacketRelease_inData (hse : s.seUp p.inp = true) (hkind : p.kind = .inData)
    (hx : s.slot p.inp p.key = some x) :
    Completes (.packetRelease id) s (fun t => ∃ y ∈ (t.port p.inp).slots, y.key = p.key ∧
      y.held = some (.data p.pid p.bytes) ∧ y.asked = false) := by
  obtain ⟨hmem, hkey⟩ := Slot.key_of_slot hx
  let g : Slot → Slot := fun y => { y with asked := false, errors := 0, idle := 0, held := some (.data p.pid p.bytes) }
  let s1 := s.fresh.modPkt id (fun x => { x with released := true })
  refine ⟨s1.modSlot p.inp p.key false g, ?_, g x, ?_, hkey, rfl, rfl⟩
  · show execPacketRelease id s = _
    unfold execPacketRelease
    simp [hp, htail, hcopied, hrel, hfirst, hdest, hkind, hse, s1, g]
  · rw [State.slots_modSlot (s := s1) hx]
    exact List.mem_map.mpr ⟨x, hmem, if_pos hkey⟩

section
variable (hbusy : s.sw.packets.any (fun q => q.out == p.out && q.kind != .inData && q.released) = false)
  (hhub : s.hub p.out = HS.enabled)
include hbusy hhub

/-- A SETUP, or an OUT that needs no PING, goes to the wire of its Enabled port. -/
theorem execPacketRelease_out
    (hkind : p.kind = .setup ∨ p.kind = .out ∧ (s.port p.out).pingKeys.contains p.key = false) :
    Completes (.packetRelease id) s (fun t => t.outs = [.device p.out p.key p.pid p.bytes] ∧
      ∃ q ∈ t.sw.packets, q.id = id ∧ q.released = true) := by
  obtain rfl := State.id_of_pkt hp
  refine ⟨(s.fresh.emit (.device p.out p.key p.pid p.bytes)).modPkt p.id
    (fun x => { x with released := true, pinging := false }), ?_, rfl, _,
    State.mem_modPkt (s := s.fresh.emit _) (State.mem_of_pkt hp) _, rfl, rfl⟩
  show execPacketRelease p.id s = _
  unfold execPacketRelease
  rcases hkind with hk | ⟨hk, hping⟩
  · simp [hp, htail, hcopied, hrel, hfirst, hdest, hbusy, hhub, hk,
      show (PktKind.setup == PktKind.out) = false from rfl]
  · simp only [List.contains_eq_mem, decide_eq_false_iff_not] at hping
    simp [hp, htail, hcopied, hrel, hfirst, hdest, hbusy, hhub, hk, hping]

/-- An isochronous OUT goes to the wire in the microframe after its arrival, and is done (R222). -/
theorem execPacketRelease_isoOut (hkind : p.kind = .isoOut) (hage : mDiff (s.up p.side).frameM p.age = 1) :
    Completes (.packetRelease id) s (fun t => t.outs = [.device p.out p.key p.pid p.bytes] ∧
      ∀ q ∈ t.sw.packets, q.id ≠ id) := by
  refine ⟨(s.fresh.emit (.device p.out p.key p.pid p.bytes)).dropPkt id, ?_, State.outs_dropPkt _ _,
    State.dropPkt_gone _ id⟩
  show execPacketRelease id s = _
  unfold execPacketRelease
  simp [hp, htail, hcopied, hrel, hfirst, hdest, hbusy, hhub, hkind, hage]

end
end

/-- Settles O50: each command that moves a packet through the switch, in the state of the packet that it acts on. -/
theorem fabricCommandsComplete : Obligations.FabricCommandsComplete :=
  fun _ _ _ _ _ hp =>
    ⟨execIsoOutLateDiscard_late hp, execCutThroughStart_ready hp, execFabricBeat_permitted hp, execFabricBeat_refused hp,
      execPacketTail_out hp, execPacketTail_inData hp, execPacketTail_bad hp,
      execPacketRelease_inData hp, execPacketRelease_out hp, execPacketRelease_isoOut hp⟩

end Sys2Proof.Machine
end

section
/-! PROOFS. The packet memory commands refuted by a write of a read-only region descriptor. -/

namespace Sys2Proof.Machine

/-- Refutes O52, by its last clause, which takes in the read-only descriptors 153 and 154 (R235): a word of 0 written by
SPI to RGN[153] in Active is ignored with E_OK, so its BASE stays at 19,456, the default carve of R234. -/
theorem not_packetMemoryCommandsComplete : ¬ Obligations.PacketMemoryCommandsComplete := by
  intro h
  obtain ⟨-, -, -, -, -, -, -, -, -, -, hwrite⟩ := h 0 false .idle [] .spi 153 0 0 0 State.reset
  have haccepted : Accepts .spi (0xA400 + 4 * (153 : Fin 155)) (0 : Word).toNat State.reset :=
    ⟨rfl, rfl, by decide, by decide +kernel⟩
  have hstays : ∃ t, exec (.rgnWrite .spi 153 0) State.reset = .next t ∧ t.rd (PKM.RGN.BASE 153) = 19456 :=
    ⟨_, rfl, by decide +kernel⟩
  obtain ⟨t, ht, hbase⟩ := hstays
  exact not_completes ht (fun ⟨_, hzero, _⟩ => absurd (hbase.symm.trans hzero) (by decide)) (hwrite rfl haccepted)

end Sys2Proof.Machine
end

section
/-! PROOFS. The queue of waiting commands: a step runs its front, and steps drain it. -/

namespace Sys2Proof.Machine

/-- Settles O1: both clauses are the two cases of `step`. -/
theorem stepRunsFrontCommand : Obligations.StepRunsFrontCommand := fun _ _ _ => ⟨rfl, rfl⟩

/-- A step with a command at the front is that command's answer on the state without it. -/
theorem step_of_pending {s : State} {c : Sys2Proof.Instr} {rest : List Sys2Proof.Instr} (h : s.pending = c :: rest) :
    step s = exec c { s with pending := rest } := by
  unfold step
  rw [h]

/-- With a command at the front, the steps after the first run on the command's answer, which has the rest of the queue. -/
theorem steps_succ_of_pending {s : State} {c : Sys2Proof.Instr} {rest : List Sys2Proof.Instr}
    (h : s.pending = c :: rest) :
    ∃ t, exec c { s with pending := rest } = .next t ∧ t.pending = rest ∧ ∀ k, steps (k + 1) s = steps k t := by
  obtain ⟨t, ht, hrest⟩ := commandsAnswerAndKeepTheQueue c { s with pending := rest }
  refine ⟨t, ht, hrest, fun k => ?_⟩
  rw [steps, step_of_pending h, ht]

/-- After as many steps as there are commands in `l` at the front, what follows `l` waits. -/
theorem steps_pending (k : Nat) : ∀ s : State, k ≤ s.pending.length → (steps k s).pending = s.pending.drop k := by
  induction k with
  | zero => exact fun s _ => rfl
  | succ k ih =>
    intro s hk
    cases h : s.pending with
    | nil => simp [h] at hk
    | cons c rest =>
      obtain ⟨t, -, hrest, hsteps⟩ := steps_succ_of_pending h
      rw [hsteps, ih t (by simpa [h, hrest] using hk), hrest, List.drop_succ_cons]

/-- The command at place `k` of the queue runs on the state that the `k` before it left. -/
theorem exec_steps (k : Nat) : ∀ (s : State) (c : Sys2Proof.Instr), s.pending[k]? = some c →
    exec c { steps k s with pending := s.pending.drop (k + 1) } = .next (steps (k + 1) s) := by
  induction k with
  | zero =>
    intro s c hc
    cases h : s.pending with
    | nil => simp [h] at hc
    | cons d rest =>
      obtain rfl : d = c := by simpa [h] using hc
      obtain ⟨t, ht, -, hsteps⟩ := steps_succ_of_pending h
      rw [hsteps]
      exact ht
  | succ k ih =>
    intro s c hc
    cases h : s.pending with
    | nil => simp [h] at hc
    | cons d rest =>
      obtain ⟨t, -, hrest, hsteps⟩ := steps_succ_of_pending h
      have hk := ih t c (by simpa [h, hrest] using hc)
      rw [hsteps, hsteps, List.drop_succ_cons, ← hrest]
      exact hk

/-- Settles O3, by induction on the number of steps. -/
theorem queueDrainsInOrder : Obligations.QueueDrainsInOrder :=
  fun s => ⟨fun k hk => steps_pending k s hk, fun k c hc => exec_steps k s c hc⟩

end Sys2Proof.Machine
end

section
/-! PROOFS. Frames of the e-fuse and of Power Delivery. -/

namespace Sys2Proof.Machine

/-! ## The e-fuse -/

theorem execGateFullyOn_frame (n : Fin 48) :
    Frame (.gateFullyOn n) [[.one .outs, .one (.port n), .reg (PRT.FUSSTS.GATEON n)]] := by
  refine .of_may fun s t P ht hP => ?_
  simp at hP
  obtain ⟨houts, hport, hgateon⟩ := hP
  exact .guarded ht houts (((Only.refl _ _).raise _ hgateon).modPort _ _ hport)

theorem execPowerGood_frame (n : Fin 48) : Frame (.powerGood n) [bookSpots, [.one .outs, .one (.port n),
    .reg (PRT.FUSEVT.PGON n), .reg (PRT.FUSSTS.PG n), .reg (PRT.HUBSTS.OVERCUR n), .reg (PWR.PBOOK.COMMIT n),
    .reg (PWR.PBOOK.CONTRACT n)]] := by
  refine .of_may fun s t P ht hP => ?_
  simp [bookSpots] at hP
  refine .guarded ht (by simp only [hP]) ?_
  extract_lets s1 c s2
  have h1 : Only P s.fresh s1 := by
    refine .wr (.raise (.raise (.refl _ _) _ ?_) _ ?_) _ _ ?_
    all_goals simp [hP]
  have hC : Only P s.fresh (s1.setC n c) := by
    apply State.setC_only h1
    all_goals simp [hP]
  refine .modPort (.ite hC ?_) _ _ (by simp [hP])
  apply State.setK_only hC
  all_goals simp [hP]

theorem execPowerGoodFall_frame (n : Fin 48) : Frame (.powerGoodFall n)
    [[.one .outs, .one (.port n), .reg (PRT.FUSEVT.PGOFF n), .reg (PRT.FUSSTS.PG n)]] := by
  refine .of_may fun s t P ht hP => ?_
  simp at hP
  obtain ⟨houts, hport, hpgoff, hpg⟩ := hP
  exact .guarded ht houts (.modPort (State.pgFall_only (.refl _ _) n hport hpgoff hpg) _ _ hport)

theorem execLimitEngage_frame (n : Fin 48) : Frame (.limitEngage n) [[.one .outs, .one (.port n),
    .reg (PRT.FUSEVT.LIMITIN n), .reg (PRT.FUSEVT.QUALRST n), .reg (PRT.FUSSTS.LIMIT n)]] := by
  refine .of_may fun s t P ht hP => ?_
  simp at hP
  obtain ⟨houts, hport, hlimitin, hqualrst, hlimit⟩ := hP
  have h1 := ((Only.refl P s.fresh).raise _ hlimit).raise _ hlimitin
  exact .guarded ht houts (.ite ((h1.raise _ hqualrst).modPort _ _ hport) h1)

theorem execLimitRelease_frame (n : Fin 48) : Frame (.limitRelease n)
    [[.one .outs, .one (.port n), .reg (PRT.FUSSTS.FOLD n), .reg (PRT.FUSSTS.LIMIT n)]] := by
  refine .of_may fun s t P ht hP => ?_
  simp at hP
  obtain ⟨houts, hport, hfold, hlimit⟩ := hP
  exact .guarded ht houts ((((Only.refl _ _).wr _ 0 hlimit).wr _ 0 hfold).modPort _ _ hport)

theorem execSelfTestStart_frame (n : Fin 48) : Frame (.selfTestStart n) [[.one .outs, .one (.port n)]] := by
  refine .of_may fun s t P ht hP => ?_
  simp at hP
  obtain ⟨houts, hport⟩ := hP
  exact .guarded ht houts ((Only.refl _ _).modPort _ _ hport)

theorem execRetryWaitEnd_frame (n : Fin 48) : Frame (.retryWaitEnd n)
    [[.one .outs, .one (.port n), .reg (PRT.TCSTS.LEAKMIN n), .reg (PRT.TCSTS.MOISTOK n)]] := by
  refine .of_may fun s t P ht hP => ?_
  simp at hP
  obtain ⟨houts, hport, hleak, hmoist⟩ := hP
  exact .guarded ht houts (State.tryApply_only ((Only.refl _ _).modPort _ _ hport) n hport hleak hmoist)

theorem execCleanPowerGood_frame (n : Fin 48) : Frame (.cleanPowerGood n)
    [[.one .outs, .one (.port n), .reg (PRT.FUSEVT.CLEAN n), .reg (PRT.FUSSTS.TRIPS n)]] := by
  refine .of_may fun s t P ht hP => ?_
  simp at hP
  obtain ⟨houts, hport, hclean, htrips⟩ := hP
  exact .guarded ht houts ((((Only.refl _ _).wr _ 0 htrips).raise _ hclean).modPort _ _ hport)

theorem execRampEnd_frame (n : Fin 48) : Frame (.rampEnd n) [[.one .outs, .one (.port n)]] := by
  refine .of_may fun s t P ht hP => ?_
  simp at hP
  obtain ⟨houts, hport⟩ := hP
  have h1 := fun g => (Only.refl P s.fresh).modPort n g hport
  exact .guarded ht houts (.ite ((h1 _).emit _ houts) (h1 _))

/-! ## The policy timers -/

theorem execSrcTransitionExpire_frame (n : Fin 48) : Frame (.srcTransitionExpire n)
    [[.one .outs, .one (.port n), .reg (PRT.IBUSMEAS.ISET n)]] := by
  refine .of_may fun s t P ht hP => ?_
  simp at hP
  obtain ⟨houts, hport, hiset⟩ := hP
  refine .guarded ht houts ?_
  split
  · exact (Only.refl _ _).modPort _ _ hport
  · extract_lets code want s1 fall s2 s3
    have h1 : Only P s.fresh s1 := .ite ((Only.refl _ _).wr _ _ hiset) (.refl _ _)
    have h2 : Only P s.fresh s2 := State.fbiDrive_only h1 _ _ houts hport
    have h3 : Only P s.fresh s3 := .ite (h2.emit _ houts) h2
    exact .ite (h1.modPort _ _ hport) (h3.modPort _ _ hport)

theorem execPsRdySend_frame (n : Fin 48) : Frame (.psRdySend n) [bookSpots, [.one .outs, .one (.port n),
    .reg (PRT.IBUSMEAS.ISET n), .reg (PRT.PDSTS.EVT n), .reg (PRT.PDSTS.EXPLICIT n), .reg (PRT.PDSTS.OBJPOS n),
    .reg (PRT.PDSTS.OPCURR n), .reg (PRT.PDSTS.VSEL n), .reg (PRT.TCSTS.RPADV n), .reg (PWR.PBOOK.COMMIT n),
    .reg (PWR.PBOOK.CONTRACT n)]] := by
  refine .of_may fun s t P ht hP => ?_
  simp [bookSpots] at hP
  refine .guarded ht (by simp only [hP]) ?_
  split
  · exact .refl _ _
  · extract_lets same s1 s2 s3 c s4
    have h3 : Only P s.fresh s3 := by
      refine .modPort (.wr (.wr (.wr (.raise (.emit (.refl _ _) _ ?_) _ ?_) _ _ ?_) _ _ ?_) _ _ ?_) _ _ ?_
      all_goals simp [hP]
    have hbooks : Only P s.fresh ((s3.setC n c).setK n c) := by
      apply State.setK_only
      · apply State.setC_only h3
        all_goals simp [hP]
      all_goals simp [hP]
    have h4 : Only P s.fresh s4 := by
      apply State.rpSettle_only (State.setIset_only hbooks _ (by simp only [hP]))
      all_goals simp [hP]
    exact .ite h4 (h4.orBits _ _ (by simp [hP]))

theorem execSourceCapabilitiesSend_frame (n : Fin 48) :
    Frame (.sourceCapabilitiesSend n) [[.one .outs, .one (.port n)]] := by
  refine .of_may fun s t P ht hP => ?_
  simp at hP
  obtain ⟨houts, hport⟩ := hP
  exact .guarded ht houts ((State.sendCaps_only (.refl _ _) n houts hport).modPort _ _ hport)

theorem execSinkTxExpire_frame (n : Fin 48) : Frame (.sinkTxExpire n) [poolSpots, Spot.at rosterFields n, bookSpots,
    [.one .copies, .all .port, .reg LDS.CHG0.P00_P31, .reg LDS.CHG1.P32_P47, .reg (PRT.ALTMUX.ACTIVE n),
      .regs PRT.ALTMUX.QBUSY, .regs PRT.ALTMUX.QHOLD, .reg (PRT.IBUSMEAS.ISET n), .reg (PRT.OWNER.OWN n),
      .reg (PRT.OWNER.STATE n), .reg (PRT.PDCNT.ALERTS n), .reg (PRT.PDCNT.HRRCVD n), .reg (PRT.PDCNT.HRSENT n),
      .reg (PRT.PDSTS.ALTMODE n), .reg (PRT.PDSTS.EVT n), .reg (PRT.PDSTS.EXPLICIT n), .reg (PRT.PDSTS.OBJPOS n),
      .reg (PRT.PDSTS.OPCURR n), .reg (PRT.PDSTS.VCSRC n), .reg (PRT.PDSTS.VSEL n), .reg (PRT.TCSTS.RPADV n),
      .reg (PRT.VCONN.ON n), .reg (PWR.PBOOK.COMMIT n), .reg (PWR.PBOOK.CONTRACT n), .regs SWX.CNTA.STALE]] := by
  refine .of_may fun s t P ht hP => ?_
  simp [poolSpots, rosterFields, bookSpots] at hP
  refine .guarded ht (by simp only [hP]) ?_
  apply State.rpSettle_only
  · apply State.amsRun_only (.refl _ _)
    all_goals simp [hP]
  all_goals simp [hP]

theorem execPdMessageFailed_frame (n : Fin 48) (toCable : Bool) : Frame (.pdMessageFailed n toCable)
    [poolSpots, Spot.at rosterFields n, bookSpots, [.one .copies, .all .port, .reg LDS.CHG0.P00_P31,
      .reg LDS.CHG1.P32_P47, .reg (PRT.ALTMUX.ACTIVE n), .regs PRT.ALTMUX.QBUSY, .regs PRT.ALTMUX.QHOLD,
      .reg (PRT.IBUSMEAS.ISET n), .reg (PRT.OWNER.OWN n), .reg (PRT.OWNER.STATE n), .reg (PRT.PDCNT.HRRCVD n),
      .reg (PRT.PDCNT.HRSENT n), .reg (PRT.PDSTS.ALTMODE n), .reg (PRT.PDSTS.CABLE n), .reg (PRT.PDSTS.EVT n),
      .reg (PRT.PDSTS.EXPLICIT n), .reg (PRT.PDSTS.OBJPOS n), .reg (PRT.PDSTS.OPCURR n), .reg (PRT.PDSTS.VCSRC n),
      .reg (PRT.PDSTS.VSEL n), .reg (PRT.TCSTS.RPADV n), .reg (PRT.VCONN.ON n), .reg (PWR.PBOOK.COMMIT n),
      .reg (PWR.PBOOK.CONTRACT n), .regs SWX.CNTA.STALE]] := by
  refine .of_may fun s t P ht hP => ?_
  simp [poolSpots, rosterFields, bookSpots] at hP
  refine .guarded ht (by simp only [hP]) (.ite (.ite ?_ (.refl _ _)) (.ite ?_ (.ite ?_ (.refl _ _))))
  · apply State.rpSettle_only (.modPort (.wr (.refl _ _) _ _ _) _ _ _)
    all_goals simp [hP]
  · apply State.hardReset_only (.refl _ _)
    all_goals simp [hP]
  · exact (Only.refl _ _).modPort _ _ (by simp [hP])

/-! ## Messages -/

section
variable {P : Part → Prop} {s t : State} {n : Nat}

/-- A message taken up by the policy core stays within the spots of a PD message. -/
theorem May.receive (hP : May P (pdSpots n)) (h : Only P s t) (m : PdRx) : Only P s (t.receive n m) := by
  simp [pdSpots] at hP
  apply State.receive_only h
  all_goals simp [hP]

theorem May.pd_outs (hP : May P (pdSpots n)) : P .outs := by
  simp [pdSpots] at hP
  simp only [hP]

/-- The frame of a command that brings a message. -/
theorem Frame.of_receive {c : Sys2Proof.Instr} {m : PdRx} (hc : ∀ s, exec c s = done (s.fresh.receive n m)) :
    Frame c [pdSpots n] := by
  refine .of_may fun s t P ht hP => ?_
  simp at hP
  exact .done ((hc s).symm.trans ht) hP.pd_outs (hP.receive (.refl _ _) m)

end

theorem execUnsupportedMessage_frame (n : Fin 48) (unstructuredVdm : Bool) :
    Frame (.unsupportedMessage n unstructuredVdm) [pdSpots n] := by
  refine .of_may fun s t P ht hP => ?_
  simp at hP
  exact .done ht hP.pd_outs (.ite (.refl _ _) (hP.receive (.refl _ _) _))

theorem execOtherVdm_frame (n : Fin 48) (cmd : BitVec 5) : Frame (.otherVdm n cmd) [pdSpots n] := by
  refine .of_may fun s t P ht hP => ?_
  simp at hP
  exact .done ht hP.pd_outs (Only.setOuts (hP.receive (.refl _ _) _) _ hP.pd_outs)

theorem execBudgetRequest_frame (n : Fin 48) (raise : Option PdReq) : Frame (.budgetRequest n raise)
    [pdSpots n, [.reg (PRT.PDSTS.PWRROLE n), .reg (PRT.TCSTS.TCSTATE n), .reg PWR.EVT.WAIT,
      .reg (PWR.PALLOW.WAIT n)]] := by
  refine .of_may fun s t P ht hP => ?_
  obtain ⟨hpd, hP⟩ := May.append.mp hP
  cases raise with
  | some r => exact .done ht hpd.pd_outs (hpd.receive (.refl _ _) _)
  | none =>
    simp [pdSpots] at hpd
    simp at hP
    refine .guarded ht (by simp only [hpd]) ?_
    apply State.serveAsk_only (.refl _ _)
    all_goals simp [hpd, hP]

/-! ## No Request within its time (R298, R350) -/

section
variable {P : Part → Prop} {s t : State} {n : Nat}

theorem May.hardReset (hP : May P (pdctlSpots n)) (h : Only P s t) (sent : Bool) : Only P s (t.hardReset n sent) := by
  simp [pdctlSpots, poolSpots, hubFields, chgFields, rosterFields, bookSpots] at hP
  apply State.hardReset_only h
  all_goals simp [hP]

theorem May.errorRecovery (hP : May P (pdctlSpots n)) (h : Only P s t) : Only P s (t.errorRecovery n) := by
  simp [pdctlSpots, poolSpots, hubFields, chgFields, rosterFields, bookSpots] at hP
  apply State.errorRecovery_only h
  all_goals simp [hP]

theorem May.rpSettle (hP : May P (pdctlSpots n)) (h : Only P s t) : Only P s (t.rpSettle n) := by
  simp [pdctlSpots, poolSpots, hubFields, chgFields, rosterFields, bookSpots] at hP
  apply State.rpSettle_only h
  all_goals simp [hP]

end

theorem execSenderResponseTimeout_frame (n : Fin 48) : Frame (.senderResponseTimeout n)
    [pdctlSpots n, [.reg PWR.CNT.IGNHR, .reg PWR.EVT.IGNHR]] := by
  refine .of_may fun s t P ht hP => ?_
  obtain ⟨hpd, hP⟩ := May.append.mp hP
  simp at hP
  obtain ⟨hcount, hevent⟩ := hP
  have hall := hpd
  simp [pdctlSpots, poolSpots, hubFields, chgFields, rosterFields, bookSpots] at hall
  have hport : P (.port n) := by simp only [hall]
  have hhard := hpd.hardReset (.refl P s.fresh) true
  refine .guarded ht (by simp only [hall]) (.ite (.ite ?_ (.ite ?_ ?_)) (.ite ?_ (.refl _ _)))
  · exact (hhard.raise _ hevent).bump _ _ hcount
  · exact hhard.modPort _ _ hport
  · exact hpd.errorRecovery (.refl _ _)
  · exact hpd.rpSettle ((Only.refl _ _).modPort _ _ hport)

end Sys2Proof.Machine
end

section
/-! PROOFS. Frames of Type-C, and the frames of ports. -/

namespace Sys2Proof.Machine

/-! ## Attach -/

theorem execCcAttachSeen_frame (n : Fin 52) (sight : Sys2Proof.CcSight) : Frame (.ccAttachSeen n sight)
    [[.one .outs, .one (.port n), .all .up, .reg (PRT.TCSTS.ORIENT n), .reg (PRT.TCSTS.TCSTATE n),
      .regs UPS.TCSTS.ORIENT, .regs UPS.TCSTS.RPSEEN, .regs UPS.TCSTS.TCSTATE]] := by
  refine .of_may fun s t P ht hP => ?_
  simp at hP
  obtain ⟨houts, hport, hup, horient, htc, huorient, hurpseen, hutc⟩ := hP
  change execCcAttachSeen n sight s = _ at ht
  simp only [execCcAttachSeen] at ht
  split at ht
  · exact .done ht houts (State.upSeen_only (.refl _ _) _ sight (huorient _) (hurpseen _) (hutc _) (hup _))
  · refine .guarded ht houts ?_
    have h1 : Only P s.fresh (s.fresh.wr (PRT.TCSTS.TCSTATE n) 2) := (Only.refl _ _).wr _ _ htc
    cases sight with
    | rd cc2 ra => exact (h1.wr _ _ horient).modPort _ _ hport
    | accessory => exact h1.modPort _ _ hport
    | rp cc2 cur => exact (h1.wr _ _ horient).modPort _ _ hport

theorem execCcDebounceExpire_frame (n : Fin 52) : Frame (.ccDebounceExpire n) [[.one .outs, .one (.port n), .all .up,
    .reg (PRT.PDSTS.PWRROLE n), .reg (PRT.TCEVT.ACCESS n), .reg (PRT.TCEVT.ATTACH n), .reg (PRT.TCEVT.FOREIGN n),
    .reg (PRT.TCSTS.LEAKMIN n), .reg (PRT.TCSTS.MOISTOK n), .reg (PRT.TCSTS.ORIENT n), .reg (PRT.TCSTS.TCSTATE n),
    .regs UPS.TCSTS.TCSTATE]] := by
  refine .of_may fun s t P ht hP => ?_
  simp at hP
  obtain ⟨houts, hport, hup, hrole, haccess, hattach, hforeign, hleak, hmoist, horient, htc, hutc⟩ := hP
  have h0 : Only P s.fresh s.fresh := .refl _ _
  refine .done ht houts (.ite (State.upDebounced_only h0 _ (hutc _) (hup _)) (.ite h0 (.ite ?_ (.ite ?_ h0))))
  · split
    · exact State.attachSource_only h0 n _ _ hport hattach hleak hmoist horient htc
    · exact (h0.wr _ _ htc).modPort _ _ hport
    · exact (h0.wr _ _ htc).raise _ haccess
  · exact (((h0.wr _ _ htc).wr _ _ hrole).raise _ hforeign).modPort _ _ hport

theorem execTryCcDebounceExpire_frame (n : Fin 52) (cc2 : Bool) (far : Sys2Proof.FarEnd) :
    Frame (.tryCcDebounceExpire n cc2 far) [[.one .outs, .one (.port n), .all .up, .reg (PRT.TCEVT.ATTACH n),
      .reg (PRT.TCSTS.LEAKMIN n), .reg (PRT.TCSTS.MOISTOK n), .reg (PRT.TCSTS.ORIENT n), .reg (PRT.TCSTS.TCSTATE n),
      .regs UPS.TCSTS.NOSRC, .regs UPS.TCSTS.ORIENT, .regs UPS.TCSTS.RPSEEN, .regs UPS.TCSTS.TCSTATE]] := by
  refine .of_may fun s t P ht hP => ?_
  simp at hP
  obtain ⟨houts, hport, hup, hattach, hleak, hmoist, horient, htc, hunosrc, huorient, hurpseen, hutc⟩ := hP
  change execTryCcDebounceExpire n cc2 far s = _ at ht
  rw [execTryCcDebounceExpire] at ht
  split at ht
  · exact .done ht houts
      (State.upTryDebounced_only (.refl _ _) _ cc2 _ (hunosrc _) (huorient _) (hurpseen _) (hutc _) (hup _))
  · exact .guarded ht houts (State.attachSource_only (.refl _ _) n cc2 _ hport hattach hleak hmoist horient htc)

theorem execDrpToggle_frame (n : Fin 52) : Frame (.drpToggle n) [[.one .outs, .one (.port n), .all .up]] := by
  refine .of_may fun s t P ht hP => ?_
  simp at hP
  obtain ⟨houts, hport, hup⟩ := hP
  change execDrpToggle n s = _ at ht
  rw [execDrpToggle] at ht
  split at ht
  · exact .guarded ht houts ((Only.refl _ _).modUp _ _ (hup _))
  · exact .guarded ht houts ((Only.refl _ _).modPort _ _ hport)

theorem execDrpTryExpire_frame (n : Fin 52) : Frame (.drpTryExpire n) [[.one .outs, .one (.port n), .all .up,
    .reg (PRT.TCSTS.ORIENT n), .reg (PRT.TCSTS.TCSTATE n)]] := by
  refine .of_may fun s t P ht hP => ?_
  simp at hP
  obtain ⟨houts, hport, hup, horient, htc⟩ := hP
  change execDrpTryExpire n s = _ at ht
  rw [execDrpTryExpire] at ht
  split at ht
  · exact .guarded ht houts ((Only.refl _ _).modUp _ _ (hup _))
  · exact .guarded ht houts (.ite ((Only.refl _ _).modPort _ _ hport) (((Only.refl _ _).wr _ _ htc).wr _ _ horient))

/-! ## Detach -/

theorem execCcTerminationLost_frame (n : Fin 52) : Frame (.ccTerminationLost n) [[.one .outs, .all .up,
    .reg (PRT.TCSTS.ORIENT n), .reg (PRT.TCSTS.TCSTATE n), .regs UPS.TCSTS.NOSRC, .regs UPS.TCSTS.ORIENT,
    .regs UPS.TCSTS.RPSEEN, .regs UPS.TCSTS.TCSTATE]] := by
  refine .of_may fun s t P ht hP => ?_
  simp at hP
  obtain ⟨houts, hup, horient, htc, hunosrc, huorient, hurpseen, hutc⟩ := hP
  change execCcTerminationLost n s = _ at ht
  rw [execCcTerminationLost] at ht
  split at ht
  · exact .guarded ht houts
      (State.upUnattached_only (.refl _ _) _ (hunosrc _) (huorient _) (hurpseen _) (hutc _) (hup _))
  · exact .guarded ht houts (((Only.refl _ _).wr _ _ htc).wr _ _ horient)

theorem execTryTimeout_frame (n : Fin 52) : Frame (.tryTimeout n) [[.one .outs, .one (.port n), .all .up,
    .reg (PRT.TCSTS.ORIENT n), .reg (PRT.TCSTS.TCSTATE n), .regs UPS.TCSTS.NOSRC, .regs UPS.TCSTS.ORIENT,
    .regs UPS.TCSTS.RPSEEN, .regs UPS.TCSTS.TCSTATE]] := by
  refine .of_may fun s t P ht hP => ?_
  simp at hP
  obtain ⟨houts, hport, hup, horient, htc, hunosrc, huorient, hurpseen, hutc⟩ := hP
  change execTryTimeout n s = _ at ht
  rw [execTryTimeout] at ht
  split at ht
  · exact .guarded ht houts
      (State.upUnattached_only (.refl _ _) _ (hunosrc _) (huorient _) (hurpseen _) (hutc _) (hup _))
  · exact .guarded ht houts ((((Only.refl _ _).wr _ _ htc).wr _ _ horient).modPort _ _ hport)

theorem execSrcDisconnect_frame (n : Fin 52) : Frame (.srcDisconnect n) [poolSpots, Spot.at hubFields n,
    Spot.at chgFields n, Spot.at rosterFields n, bookSpots, [.one .freeCtr, .all .port, .all .up,
      .reg LDS.CHG0.P00_P31, .reg LDS.CHG1.P32_P47, .reg (PRT.ALTMUX.ACTIVE n), .regs PRT.ALTMUX.QBUSY,
      .regs PRT.ALTMUX.QHOLD, .reg (PRT.FUSEVT.PGOFF n), .reg (PRT.FUSSTS.FOLD n), .reg (PRT.FUSSTS.GATEON n),
      .reg (PRT.FUSSTS.LIMIT n), .reg (PRT.FUSSTS.PG n), .reg (PRT.HUBSTS.CONNECTION n), .reg (PRT.HUBSTS.HIGHSPD n),
      .reg (PRT.HUBSTS.LOWSPD n), .reg (PRT.MTRCNT.DATAHIT n), .reg (PRT.MTRCNT.NAKHIT n),
      .reg (PRT.MTRSTS.STRANDED n), .reg (PRT.MTRSTS.WITHDRAWN n), .reg (PRT.PDSTS.ALTMODE n),
      .reg (PRT.PDSTS.CABLE n), .reg (PRT.PDSTS.EVT n), .reg (PRT.PDSTS.EXPLICIT n), .reg (PRT.PDSTS.OBJPOS n),
      .reg (PRT.PDSTS.OPCURR n), .reg (PRT.PDSTS.PWRROLE n), .reg (PRT.PDSTS.REV n), .reg (PRT.PDSTS.VCSRC n),
      .reg (PRT.PDSTS.VSEL n), .reg (PRT.QSTS.STOPPED n), .reg (PRT.TCEVT.DETACH n), .reg (PRT.TCEVT.WETOUT n),
      .reg (PRT.TCSTS.MOISTOK n), .reg (PRT.TCSTS.ORIENT n), .reg (PRT.TCSTS.RPADV n), .reg (PRT.TCSTS.TCSTATE n),
      .reg (PRT.TCSTS.WET n), .reg (PRT.TCSTS.WETGND n), .reg (PRT.TCSTS.WETPIN n), .reg (PRT.TCSTS.WETVBUS n),
      .reg (PRT.VCONN.ON n), .reg (PWR.PALLOW.SHED n), .reg (PWR.PALLOW.WAIT n), .reg (PWR.PBOOK.COMMIT n),
      .reg (PWR.PBOOK.CONTRACT n), .regs SWX.CNTA.STALE, .regs SWX.CNTB.RLYWD, .regs UPS.TCSTS.NOSRC,
      .regs UPS.TCSTS.ORIENT, .regs UPS.TCSTS.RPSEEN, .regs UPS.TCSTS.TCSTATE]] := by
  refine .of_may fun s t P ht hP => ?_
  simp [poolSpots, hubFields, chgFields, rosterFields, bookSpots] at hP
  have h0 : Only P s.fresh s.fresh := .refl _ _
  refine .done ht (by simp only [hP]) (.ite (.ite ?_ h0) (.ite (.ite ?_ ?_) (.ite ?_ h0)))
  · apply State.upUnattached_only h0
    all_goals simp [hP]
  · have hoff : Only P s.fresh (((s.fresh.modeExit n).vconnOff n).gateOff n false) := by
      apply State.gateOff_only
      · apply State.vconnOff_only
        · apply State.modeExit_only h0
          all_goals simp [hP]
        all_goals simp [hP]
      all_goals simp [hP]
    refine .modPort ?_ _ _ (by simp [hP])
    apply State.discharge_only hoff
    all_goals simp [hP]
  · apply State.detach_only h0
    all_goals simp [hP]
  · refine .raise (.wr (.wr h0 _ _ ?_) _ _ ?_) _ ?_
    all_goals simp [hP]

theorem execSinkVbusLost_frame (n : Fin 48) : Frame (.sinkVbusLost n) [[.one .outs, .one (.port n),
    .reg (PRT.PDSTS.PWRROLE n), .reg (PRT.TCSTS.ORIENT n), .reg (PRT.TCSTS.TCSTATE n)]] := by
  refine .of_may fun s t P ht hP => ?_
  simp at hP
  obtain ⟨houts, hport, hrole, horient, htc⟩ := hP
  have h1 : Only P s.fresh (s.fresh.pdForget n) := State.pdForget_only (.refl _ _) n hport
  exact .guarded ht houts (((h1.wr _ _ htc).wr _ _ horient).wr _ _ hrole)

/-! ## Error recovery and moisture -/

theorem execCcOvervoltage_frame (n : Fin 48) : Frame (.ccOvervoltage n) [poolSpots, Spot.at hubFields n,
    Spot.at chgFields n, Spot.at rosterFields n, bookSpots, [.one .freeCtr, .all .port, .all .up,
      .reg LDS.CHG0.P00_P31, .reg LDS.CHG1.P32_P47, .reg (PRT.ALTMUX.ACTIVE n), .regs PRT.ALTMUX.QBUSY,
      .regs PRT.ALTMUX.QHOLD, .reg (PRT.FUSEVT.PGOFF n), .reg (PRT.FUSSTS.FOLD n), .reg (PRT.FUSSTS.GATEON n),
      .reg (PRT.FUSSTS.LIMIT n), .reg (PRT.FUSSTS.PG n), .reg (PRT.HUBSTS.CONNECTION n), .reg (PRT.HUBSTS.HIGHSPD n),
      .reg (PRT.HUBSTS.LOWSPD n), .reg (PRT.MTRCNT.DATAHIT n), .reg (PRT.MTRCNT.NAKHIT n),
      .reg (PRT.MTRSTS.STRANDED n), .reg (PRT.MTRSTS.WITHDRAWN n), .reg (PRT.PDSTS.ALTMODE n), .reg (PRT.PDSTS.EVT n),
      .reg (PRT.PDSTS.EXPLICIT n), .reg (PRT.PDSTS.OBJPOS n), .reg (PRT.PDSTS.OPCURR n), .reg (PRT.PDSTS.PWRROLE n),
      .reg (PRT.PDSTS.VCSRC n), .reg (PRT.PDSTS.VSEL n), .reg (PRT.QSTS.STOPPED n), .reg (PRT.TCEVT.CCOV n),
      .reg (PRT.TCEVT.ERRREC n), .reg (PRT.TCEVT.WETOUT n), .reg (PRT.TCSTS.MOISTOK n), .reg (PRT.TCSTS.ORIENT n),
      .reg (PRT.TCSTS.TCSTATE n), .reg (PRT.TCSTS.WET n), .reg (PRT.TCSTS.WETGND n), .reg (PRT.TCSTS.WETPIN n),
      .reg (PRT.TCSTS.WETVBUS n), .reg (PRT.VCONN.ON n), .reg (PWR.PALLOW.SHED n), .reg (PWR.PALLOW.WAIT n),
      .reg (PWR.PBOOK.COMMIT n), .reg (PWR.PBOOK.CONTRACT n), .regs SWX.CNTA.STALE, .regs SWX.CNTB.RLYWD]] := by
  refine .of_may fun s t P ht hP => ?_
  simp [poolSpots, hubFields, chgFields, rosterFields, bookSpots] at hP
  refine .guarded ht (by simp only [hP]) (.raise ?_ _ (by simp [hP]))
  apply State.errorRecovery_only (.refl _ _)
  all_goals simp [hP]

theorem execErrorRecoveryEnd_frame (n : Fin 48) : Frame (.errorRecoveryEnd n)
    [[.one .outs, .one (.port n), .reg (PRT.TCSTS.RPADV n), .reg (PRT.TCSTS.TCSTATE n)]] := by
  refine .of_may fun s t P ht hP => ?_
  simp at hP
  obtain ⟨houts, hport, hrpadv, htc⟩ := hP
  exact .guarded ht houts (((((Only.refl _ _).emit _ houts).wr _ _ htc).wr _ _ hrpadv).modPort _ _ hport)

theorem execMoistureCheckComplete_frame (n : Fin 48) (leak : Sys2Proof.LeakSet) :
    Frame (.moistureCheckComplete n leak) [[.one .outs, .one (.port n), .reg (PRT.TCEVT.WETIN n),
      .reg (PRT.TCEVT.WETOUT n), .reg (PRT.TCSTS.LEAKMIN n), .reg (PRT.TCSTS.MOISTOK n), .reg (PRT.TCSTS.TCSTATE n),
      .reg (PRT.TCSTS.WET n), .reg (PRT.TCSTS.WETGND n), .reg (PRT.TCSTS.WETPIN n), .reg (PRT.TCSTS.WETVBUS n)]] := by
  refine .of_may fun s t P ht hP => ?_
  simp at hP
  obtain ⟨houts, hport, hwetin, hwetout, hleak, hmoist, htc, hwet, hgnd, hpin, hvbus⟩ := hP
  change execMoistureCheckComplete n leak s = _ at ht
  simp only [execMoistureCheckComplete] at ht
  have h1 (v : Nat) : Only P s.fresh ((s.fresh.modPort n (fun p => { p with checking := false })).wr
      (PRT.TCSTS.LEAKMIN n) v) := ((Only.refl _ _).modPort _ _ hport).wr _ _ hleak
  refine .guarded ht houts (.ite ?_ ?_)
  · refine .modPort (.raise (.wr ?_ _ _ htc) _ hmoist) _ _ hport
    apply State.wetEnd_only (h1 _)
    all_goals simp [*]
  · exact ((((((Only.ite (h1 _) ((h1 _).raise _ hwetin)).wr _ _ htc).raise _ hwet).wr _ _ hmoist).wr _ _ hpin).flag
      _ _ hgnd).flag _ _ hvbus

theorem execWetRetest_frame (n : Fin 48) : Frame (.wetRetest n) [[.one .outs, .one (.port n)]] := by
  refine .of_may fun s t P ht hP => ?_
  simp at hP
  obtain ⟨houts, hport⟩ := hP
  exact .guarded ht houts ((Only.refl _ _).modPort _ _ hport)

/-- Settles O57: each command's frame, from the frames of the operations it is made of. -/
theorem framesOfPorts : Obligations.FramesOfPorts :=
  ⟨execGateFullyOn_frame, execPowerGood_frame, execPowerGoodFall_frame, execLimitEngage_frame,
    execLimitRelease_frame, execSelfTestStart_frame, execRetryWaitEnd_frame, execCleanPowerGood_frame,
    execRampEnd_frame, execSrcTransitionExpire_frame, execPsRdySend_frame, execSinkTxExpire_frame,
    fun _ _ _ => .of_receive fun _ => rfl, fun _ => .of_receive fun _ => rfl, fun _ => .of_receive fun _ => rfl,
    fun _ => .of_receive fun _ => rfl, fun _ => .of_receive fun _ => rfl, fun _ => .of_receive fun _ => rfl,
    fun _ => .of_receive fun _ => rfl, fun _ => .of_receive fun _ => rfl, execUnsupportedMessage_frame,
    fun _ => .of_receive fun _ => rfl, fun _ => .of_receive fun _ => rfl, fun _ => .of_receive fun _ => rfl,
    fun _ => .of_receive fun _ => rfl, fun _ _ => .of_receive fun _ => rfl, fun _ _ _ => .of_receive fun _ => rfl,
    fun _ _ => .of_receive fun _ => rfl, execOtherVdm_frame, fun _ _ => .of_receive fun _ => rfl,
    execSourceCapabilitiesSend_frame, execSenderResponseTimeout_frame, execPdMessageFailed_frame,
    execBudgetRequest_frame, execCcAttachSeen_frame, execCcDebounceExpire_frame, execCcTerminationLost_frame,
    execDrpToggle_frame, execDrpTryExpire_frame, execTryCcDebounceExpire_frame, execTryTimeout_frame,
    execSrcDisconnect_frame, execSinkVbusLost_frame, execCcOvervoltage_frame, execErrorRecoveryEnd_frame,
    execMoistureCheckComplete_frame, execWetRetest_frame⟩

end Sys2Proof.Machine
end

section
/-! PROOFS. Power Delivery messages and structured VDMs to a source port that is ready. -/

namespace Sys2Proof.Machine

/-! ## A ready source answers at once (R297) -/

section
variable {n : Nat} {s : State} {c : Sys2Proof.Instr} {P : State → Prop}

theorem SourceReady.receive (h : SourceReady n s) (m : PdRx) : s.receive n m = s.answer n m := by
  obtain ⟨⟨hphase, hruns, hlost⟩, hpden, htc, hhr, hacc⟩ := h
  have hhandle : s.handle n m = s.answer n m := by
    unfold State.handle
    split
    · next hm => subst hm; rfl
    · rw [if_neg (by simp [hpden]), if_neg (by omega), if_neg (by simp [htc, hhr]), if_neg (by simp [hacc])]
  unfold State.receive
  rw [if_neg (by omega), if_neg (by simp [hphase, hlost]), if_neg (by simp [hruns]), hhandle]

/-- A message to a ready source completes with what its answer leaves. -/
theorem SourceReady.completes {m : PdRx} (h : SourceReady n s) (he : exec c s = done (s.fresh.receive n m))
    (hp : P (s.fresh.answer n m)) : Completes c s P :=
  ⟨_, he.trans (congrArg done (SourceReady.receive (s := s.fresh) h m)), hp⟩

end

/-! ## The books (R340) -/

section
variable {s : State} {n : Nat}

theorem State.sumBooks_kOf (s : State) (m : Nat) : s.sumBooks.kOf m = s.kOf m := by
  apply Only.rd
  apply State.sumBooks_only (.refl _ _)
  all_goals
    intros
    refine Part.field_ne rfl ?_
    show _ ≠ (0x9000 + 0x300 + 4 * (m % 48)) * 32 + 0
    omega

/-- The committed power is shown as far as its field goes. -/
theorem State.setK_kOf (h : s.runs 8 = true) (k : Nat) : (s.setK n k).kOf n = k % 2 ^ (PWR.PBOOK.COMMIT n).width := by
  rw [State.setK, if_pos h, State.sumBooks_kOf]
  exact State.rd_wr_self ..

end

/-! ## The revision of a message (R296) -/

section
variable {s : State} {n v : Nat}

theorem State.rd_wrRev_pwr {f : Field} (h : f.key < 0x10000 * 32) :
    (s.wr (PRT.PDSTS.REV n) v).rd f = s.rd f := by
  refine State.rd_wr_ne s v (Nat.ne_of_lt (h.trans_le ?_))
  show _ ≤ (0x10000 + 0x400 * (n % 48) + 0x20) * 32 + 4
  omega

theorem State.kOf_wrRev : (s.wr (PRT.PDSTS.REV n) v).kOf = s.kOf := by
  funext m
  refine State.rd_wrRev_pwr ?_
  show (0x9000 + 0x300 + 4 * (m % 48)) * 32 + 0 < _
  omega

theorem State.rpChoice_wrRev (m : Nat) : (s.wr (PRT.PDSTS.REV n) v).rpChoice m = s.rpChoice m := by
  have hpmax : (PWR.PCFG.PMAX m).key < 0x10000 * 32 := by
    show (0x9000 + 0x200 + 4 * (m % 48)) * 32 + 16 < _
    omega
  have hshed : (PWR.PALLOW.SHED m).key < 0x10000 * 32 := by
    show (0x9000 + 0x400 + 4 * (m % 48)) * 32 + 16 < _
    omega
  have hrpdef : (s.wr (PRT.PDSTS.REV n) v).rd (PRT.TCCTL.RPDEF m) = s.rd (PRT.TCCTL.RPDEF m) :=
    State.rd_wr_ne _ _ (Field.key_ne rfl rfl (by omega))
  simp only [State.rpChoice, State.rd_wrRev_pwr hpmax, State.rd_wrRev_pwr hshed, hrpdef]
  rfl

theorem State.kQuad_wrRev (q : Nat) : (s.wr (PRT.PDSTS.REV n) v).kQuad q = s.kQuad q := by
  rw [State.kQuad, State.kQuad, State.kOf_wrRev]

theorem State.kAll_wrRev : (s.wr (PRT.PDSTS.REV n) v).kAll = s.kAll := by
  rw [State.kAll, State.kAll, State.kOf_wrRev]

theorem State.fits_wrRev (m add : Nat) : (s.wr (PRT.PDSTS.REV n) v).fits m add = s.fits m add := by
  have hcap (q : Nat) : (PWR.QCAP.CAP q).key < 0x10000 * 32 := by
    show (0x9000 + 0x40 + 4 * (q % 12)) * 32 + 0 < _
    omega
  rw [State.fits, State.fits, State.kQuad_wrRev, State.kAll_wrRev, State.rd_wrRev_pwr (hcap _), State.rd_wrRev_pwr (f := PWR.POOL.POOL) (by decide)]

theorem State.heldBack_wrRev (m : Nat) : (s.wr (PRT.PDSTS.REV n) v).heldBack m = s.heldBack m := by
  have hwait (k : Nat) : (PWR.PALLOW.WAIT k).key < 0x10000 * 32 := by
    show (0x9000 + 0x400 + 4 * (k % 48)) * 32 + 18 < _
    omega
  have hcap (q : Nat) : (PWR.QCAP.CAP q).key < 0x10000 * 32 := by
    show (0x9000 + 0x40 + 4 * (q % 12)) * 32 + 0 < _
    omega
  have hpool : (s.wr (PRT.PDSTS.REV n) v).waitsOnPool = s.waitsOnPool := by
    funext k
    rw [State.waitsOnPool, State.waitsOnPool, State.v5Amount, State.v5Amount, State.rpChoice_wrRev, State.kQuad_wrRev,
      State.kAll_wrRev, State.on_eq, State.on_eq, State.rd_wrRev_pwr (hcap _), State.rd_wrRev_pwr (hwait _),
      State.rd_wrRev_pwr (f := PWR.POOL.POOL) (by decide)]
  simp only [State.heldBack, hpool, State.on_eq, State.rd_wrRev_pwr (hwait _)]

end

/-! ## Requests (R297, R342, R344) -/

/-- A Request that is valid, and within what is committed or fits without being held back. -/
structure Acceptable (n : Nat) (r : PdReq) (s : State) : Prop where
  runs : s.runs 8 = true
  valid : reqValid (s.port n).offer r = true
  fits : reqPower (s.port n).offer r ≤ s.kOf n ∨
    s.heldBack n = false ∧ s.fits n (reqPower (s.port n).offer r - s.kOf n) = true

/-- Request `r` is accepted at state `s`, which already shows the message's revision (R297). -/
structure Accepted (n : Nat) (r : PdReq) (s t : State) : Prop where
  outs : t.outs = [.pd n .accept]
  accepted : (t.port n).accepted = some r
  transRun : (t.port n).transRun = true
  committed : t.kOf n = max (s.kOf n) (reqPower (s.port n).offer r) % 2 ^ (PWR.PBOOK.COMMIT n).width
  rev : t.rd (PRT.PDSTS.REV n) = s.rd (PRT.PDSTS.REV n)

section
variable {n : Nat} {r : PdReq} {s : State}

theorem Acceptable.wrRev (h : Acceptable n r s) (v : Nat) : Acceptable n r (s.wr (PRT.PDSTS.REV n) v) where
  runs := h.runs
  valid := h.valid
  fits := by
    rw [State.kOf_wrRev, State.heldBack_wrRev, State.fits_wrRev]
    exact h.fits

/-- PD's own words are apart from the books. -/
theorem State.setK_rev (s : State) (n k : Nat) : (s.setK n k).rd (PRT.PDSTS.REV n) = s.rd (PRT.PDSTS.REV n) := by
  refine OffPd.rd (State.setK_offPd s n k) ?_ ?_
  · show _ ≤ (0x10000 + 0x400 * (n % 48) + 0x20) * 32 + 4
    omega
  · show (0x10000 + 0x400 * (n % 48) + 0x20) * 32 + 4 < _
    omega

theorem Acceptable.evalRequest (h : Acceptable n r s) (houts : s.outs = []) : Accepted n r s (s.evalRequest n r) := by
  obtain ⟨hruns, hvalid, hfits⟩ := h
  unfold State.evalRequest
  extract_lets s1 offer need
  have hfit : ¬ (s.kOf n < need ∧ (s.heldBack n = true ∨ (!s.fits n (need - s.kOf n)) = true)) := by
    rintro ⟨hlt, hno⟩
    obtain hle | ⟨hheld, hfit⟩ := hfits
    · exact absurd hle (Nat.not_le_of_lt hlt)
    · exact hno.elim (by simp [hheld]) (by simp [offer, need, hfit])
  rw [if_neg (by simp [hruns]), if_neg (by simp [offer, hvalid]), if_neg hfit]
  have hk := State.setK_kOf (s := s1) (n := n) hruns (max (s.kOf n) need)
  have hrev := State.setK_rev s1 n (max (s.kOf n) need)
  have hout := (OffPd.outs (State.setK_offPd s1 n (max (s.kOf n) need))).trans houts
  generalize s1.setK n (max (s.kOf n) need) = s2 at hk hrev hout
  exact ⟨congrArg (· ++ [Out.pd n .accept]) hout, by simp, by simp, hk, hrev⟩

/-- What stands of a port once its Request is rejected (R297). -/
structure Rejected (n : Nat) (s t : State) : Prop where
  outs : t.outs = [.pd n .reject]
  counted : CountsUp (PRT.PDCNT.REJECTS n) s t
  accepted : (t.port n).accepted = (s.port n).accepted

theorem State.rejectReq_rejected (houts : s.outs = []) : Rejected n s (s.rejectReq n) := by
  let s1 := (s.emit (.pd n .reject)).bump (PRT.PDCNT.REJECTS n)
  have h := State.rpSettle_offPd (s1.orBits (PRT.PDSTS.EVT n) 2) n
  have hcount : CountsUp (PRT.PDCNT.REJECTS n) s s1 := CountsUp.bump rfl
  refine ⟨(OffPd.outs h).trans (congrArg (· ++ [Out.pd n .reject]) houts), Eq.trans ?_ hcount,
    congrArg PortX.accepted (OffPd.port h n)⟩
  refine (OffPd.rd h ?_ ?_).trans (State.rd_wr_ne _ _ (Field.key_ne rfl rfl (by omega)))
  · show _ ≤ (0x10000 + 0x400 * (n % 48) + 0x30) * 32 + 16
    omega
  · show (0x10000 + 0x400 * (n % 48) + 0x30) * 32 + 16 < _
    omega

theorem State.evalRequest_invalid (hruns : s.runs 8 = true) (hvalid : reqValid (s.port n).offer r = false)
    (houts : s.outs = []) : Rejected n s (s.evalRequest n r) := by
  unfold State.evalRequest
  extract_lets s1 offer need
  rw [if_neg (by simp [hruns]), if_pos (by simp [offer, hvalid])]
  obtain ⟨h1, h2, h3⟩ := State.rejectReq_rejected (n := n) (s := s1) houts
  exact ⟨h1, h2, h3.trans (by simp [s1])⟩

theorem Rejected.wrRev {t : State} {v : Nat} (h : Rejected n (s.wr (PRT.PDSTS.REV n) v) t) : Rejected n s t := by
  obtain ⟨houts, hcount, hacc⟩ := h
  have hrd : (s.wr (PRT.PDSTS.REV n) v).rd (PRT.PDCNT.REJECTS n) = s.rd (PRT.PDCNT.REJECTS n) :=
    State.rd_wr_ne _ _ (Field.key_ne rfl rfl (by omega))
  exact ⟨houts, Eq.trans hcount (by rw [hrd]), hacc⟩

end

section
variable {n : Fin 48} {rev : Fin 4} {req : PdReq} {s : State}

/-- A Request that can be accepted is accepted, and its power committed (R297, R342). -/
theorem execRequest_accepts (hready : SourceReady n s) (h : Acceptable n req s) :
    Completes (.request n rev req) s (fun t => t.outs = [.pd n .accept] ∧ (t.port n).accepted = some req ∧
      (t.port n).transRun = true ∧
      t.kOf n = max (s.kOf n) (reqPower (s.port n).offer req) % 2 ^ (PWR.PBOOK.COMMIT n).width ∧
      (rev.val ≠ 0 → t.rd (PRT.PDSTS.REV n) = rev.val)) := by
  refine hready.completes (m := .request rev req) rfl ?_
  have h0 : Acceptable n req s.fresh := ⟨h.runs, h.valid, h.fits⟩
  unfold State.answer
  dsimp only
  split
  · next hrev =>
    obtain ⟨houts, hacc, htrans, hk, -⟩ := h0.evalRequest rfl
    exact ⟨houts, hacc, htrans, hk, fun hne => absurd hrev hne⟩
  · obtain ⟨houts, hacc, htrans, hk, hrev⟩ := (h0.wrRev rev.val).evalRequest rfl
    rw [State.kOf_wrRev] at hk
    refine ⟨houts, hacc, htrans, hk, fun _ => hrev.trans ?_⟩
    rw [State.rd_wr_self]
    exact Nat.mod_eq_of_lt rev.isLt

/-- The same where the policy core asks PE0 for the raise (R344). -/
theorem execBudgetRequest_accepts (hready : SourceReady n s) (h : Acceptable n req s) :
    Completes (.budgetRequest n (some req)) s (fun t => t.outs = [.pd n .accept] ∧ (t.port n).accepted = some req ∧
      (t.port n).transRun = true) := by
  refine hready.completes (m := .request 0 req) rfl ?_
  have h0 : Acceptable n req s.fresh := ⟨h.runs, h.valid, h.fits⟩
  obtain ⟨houts, hacc, htrans, -, -⟩ := h0.evalRequest rfl
  exact ⟨houts, hacc, htrans⟩

/-- A Request of an object that was not sent, or beyond it, is rejected (R297). -/
theorem execRequest_rejects (hready : SourceReady n s) (hruns : s.runs 8 = true)
    (hvalid : reqValid (s.port n).offer req = false) : Completes (.request n rev req) s (fun t =>
      t.outs = [.pd n .reject] ∧ CountsUp (PRT.PDCNT.REJECTS n) s t ∧ (t.port n).accepted = none) := by
  refine hready.completes (m := .request rev req) rfl ?_
  have hrej : Rejected n s (s.fresh.answer n (.request rev req)) := by
    unfold State.answer
    dsimp only
    split
    · obtain ⟨houts, hcount, hacc⟩ := State.evalRequest_invalid (s := s.fresh) hruns hvalid rfl
      exact ⟨houts, hcount, hacc⟩
    · obtain ⟨houts, hcount, hacc⟩ :=
        (State.evalRequest_invalid (s := s.fresh.wr (PRT.PDSTS.REV n) rev.val) hruns hvalid rfl).wrRev
      exact ⟨houts, hcount, hacc⟩
  obtain ⟨houts, hcount, hacc⟩ := hrej
  obtain ⟨-, -, -, -, hnone⟩ := hready
  exact ⟨houts, hcount, hacc.trans hnone⟩

end

/-! ## Source_Capabilities and the hard reset (R297, R299, R302) -/

section
variable {s : State} {n : Nat}

theorem State.sendCaps_sent (hpden : s.rd (PRT.PDCTL.PDEN n) = 1) :
    (s.sendCaps n).outs = s.outs ++ [.pd n (.srcCaps .sent (s.pdos n (s.rd (PWR.PALLOW.ALLOW n))))] ∧
      ((s.sendCaps n).port n).awaitReq = true := by
  unfold State.sendCaps
  rw [if_neg (by simp [hpden])]
  exact ⟨rfl, by simp⟩

/-- The end of a contract leaves no explicit contract. -/
theorem State.endContract_explicit (s : State) (n : Nat) : (s.endContract n).rd (PRT.PDSTS.EXPLICIT n) = 0 := by
  unfold State.endContract
  extract_lets s1 s2
  show s2.rd _ = 0
  refine (State.rd_wr_ne _ _ (Field.key_ne rfl rfl (by omega))).trans ?_
  refine (State.rd_wr_ne _ _ (Field.key_ne rfl rfl (by omega))).trans ?_
  exact State.rd_wr_self ..

/-- A Hard Reset received in Attached.SRC: counted, and step 1 of R302. -/
theorem State.hardReset_received (htc : s.tc n = 6) (hhr : (s.port n).hr = .none) :
    ((s.hardReset n false).port n).hr = .waitPs ∧ CountsUp (PRT.PDCNT.HRRCVD n) s (s.hardReset n false) ∧
      (s.hardReset n false).rd (PRT.PDSTS.EXPLICIT n) = 0 := by
  unfold State.hardReset
  extract_lets s1 s2 s3
  rw [if_neg (by rw [htc]; decide), if_neg (by simp [htc, hhr])]
  let s4 := s3.wr (PRT.TCSTS.RPADV n) (s3.rpChoice n)
  have hw : Wanes s4 ((s4.setIset n).handoverRestart n) := (Wanes.of_offPd (s4.setIset_offPd n)).handoverRestart n
  have hcount : CountsUp (PRT.PDCNT.HRRCVD n) s s1 :=
    (State.rd_wr_ne _ _ (Field.key_ne rfl rfl (by omega))).trans (CountsUp.bump (s := s) rfl)
  have hexit : Only (· ≠ .field (PRT.PDCNT.HRRCVD n).key) s1 (s1.modeExit n) := by
    apply State.modeExit_only (.refl _ _)
    all_goals (intros; first | exact Part.field_ne rfl (by show _ ≠ (0x10000 + 0x400 * (n % 48) + 0x30) * 32 + 8; omega) | exact nofun)
  have h2 : Only (· ≠ .field (PRT.PDCNT.HRRCVD n).key) s1 s2 := by
    refine .ite ?_ hexit
    apply State.vconnOff_only hexit
    all_goals (first | exact Part.field_ne rfl (by show _ ≠ (0x10000 + 0x400 * (n % 48) + 0x30) * 32 + 8; omega) | exact nofun)
  have h3 : Only (· ≠ .field (PRT.PDCNT.HRRCVD n).key) s1 (s2.endContract n) := by
    apply State.endContract_only h2
    all_goals (first | exact Part.field_ne rfl (by show _ ≠ (0x10000 + 0x400 * (n % 48) + 0x30) * 32 + 8; omega) | exact nofun)
  have hkeep {g : Field} (lo : (0x10020 + 0x400 * (n % 48)) * 32 ≤ g.key)
      (hi : g.key < (0x10054 + 0x400 * (n % 48)) * 32) :
      ((s4.setIset n).handoverRestart n).rd g = (s2.endContract n).rd g := by
    have hown : Only (· ≠ .field g.key) (s4.setIset n) ((s4.setIset n).handoverRestart n) := by
      apply State.handoverRestart_only (.refl _ _)
      all_goals (intros; first | exact Part.field_ne rfl (by omega) | exact nofun)
    have hrp : s4.rd g = s3.rd g := by
      refine State.rd_wr_ne _ _ (Nat.ne_of_gt (lt_of_lt_of_le ?_ lo))
      show (0x10000 + 0x400 * (n % 48) + 0x10) * 32 + 6 < _
      omega
    calc ((s4.setIset n).handoverRestart n).rd g
        _ = (s4.setIset n).rd g := hown.rd
        _ = s4.rd g := OffPd.rd (s4.setIset_offPd n) lo hi
        _ = ((s2.endContract n).setC n 0).rd g := hrp
        _ = (s2.endContract n).rd g := OffPd.rd (State.setC_offPd (s2.endContract n) n 0) lo hi
  refine ⟨?_, ?_, ?_⟩
  · exact (hw.port n).hr.trans (congrArg PortX.hr (State.port_modPort_self ((s2.endContract n).setC n 0) n
      (fun p => { p with hr := .waitPs, ocOff := false })))
  · refine Eq.trans (hkeep ?_ ?_) (h3.rd.trans hcount)
    · show _ ≤ (0x10000 + 0x400 * (n % 48) + 0x30) * 32 + 8
      omega
    · show (0x10000 + 0x400 * (n % 48) + 0x30) * 32 + 8 < _
      omega
  · refine (hkeep ?_ ?_).trans (s2.endContract_explicit n)
    · show _ ≤ (0x10000 + 0x400 * (n % 48) + 0x20) * 32 + 3
      omega
    · show (0x10000 + 0x400 * (n % 48) + 0x20) * 32 + 3 < _
      omega

end

section
variable {n : Fin 48} {rev : Fin 4} {req : PdReq} {s : State}

/-- Soft_Reset: Accept, then Source_Capabilities (R297). -/
theorem execSoftReset_offers (hready : SourceReady n s) : Completes (.softReset n) s (fun t =>
    t.outs = [.pd n .accept, .pd n (.srcCaps .sent (s.pdos n (s.rd (PWR.PALLOW.ALLOW n))))] ∧
      (t.port n).awaitReq = true) := by
  obtain ⟨-, hpden, -⟩ := id hready
  exact hready.completes (m := .softReset) rfl
    (State.sendCaps_sent (s := s.fresh.emit (.pd n .accept)) hpden)

/-- Get_Status at revision 3.x: the quad's temperature (R308). -/
theorem execGetStatusPd_answers (hready : SourceReady n s) (hrev : s.rd (PRT.PDSTS.REV n) ≥ 2) :
    Completes (.getStatusPd n) s (fun t =>
      t.outs = [.pd n (if s.on (QD.STS.WARN (quadOf n)) then .status 0 2 else .status 2 0)]) := by
  refine hready.completes (m := .getStatus) rfl ?_
  show (if s.rd (PRT.PDSTS.REV n) ≥ 2 then _ else _ : State).outs = _
  rw [if_pos hrev]
  rfl

/-- Only an unstructured VDM at revision 2.0 is ignored (R297). -/
theorem execUnsupportedMessage_answers {uv : Bool} (hready : SourceReady n s)
    (hanswered : uv = false ∨ s.rd (PRT.PDSTS.REV n) ≠ 1) : Completes (.unsupportedMessage n uv) s (fun t =>
      t.outs = [.pd n (if s.rd (PRT.PDSTS.REV n) = 1 then .reject else .notSupported)]) := by
  have hignored : (uv && s.rd (PRT.PDSTS.REV n) == 1 && (s.port n).accepted.isNone) = false := by
    obtain h | h := hanswered <;> simp [h]
  refine hready.completes (m := .unsupported) ?_ rfl
  show execUnsupportedMessage n uv s = _
  rw [execUnsupportedMessage, hignored, if_neg Bool.false_ne_true]

/-- Hard Reset received: step 1 of R302. -/
theorem execHardResetReceived_begins (hready : SourceReady n s) : Completes (.hardResetReceived n) s (fun t =>
    (t.port n).hr = .waitPs ∧ CountsUp (PRT.PDCNT.HRRCVD n) s t ∧ t.rd (PRT.PDSTS.EXPLICIT n) = 0) := by
  obtain ⟨-, -, htc, hhr, -⟩ := id hready
  exact hready.completes (m := .hardReset) rfl (State.hardReset_received (s := s.fresh) htc hhr)

end

/-- Settles O35: a source port that is ready answers each message at once. -/
theorem pdMessagesComplete : Obligations.PdMessagesComplete := by
  intro n rev req uv s hready
  have hpden : s.rd (PRT.PDCTL.PDEN n) = 1 := by
    obtain ⟨-, hpden, -⟩ := hready
    exact hpden
  refine ⟨fun hruns hvalid hfits => execRequest_accepts hready ⟨hruns, hvalid, hfits⟩,
    fun hruns hvalid hfits => execBudgetRequest_accepts hready ⟨hruns, hvalid, hfits⟩,
    execRequest_rejects hready, ?_, execSoftReset_offers hready, hready.completes (m := .prSwap) rfl rfl,
    execGetStatusPd_answers hready, execUnsupportedMessage_answers hready,
    hready.completes (m := .sourceCaps) rfl rfl, execHardResetReceived_begins hready⟩
  exact hready.completes (m := .getSourceCap) rfl (State.sendCaps_sent (s := s.fresh) hpden)

/-! ## Structured VDMs and the service console (R309 to R312) -/

section
variable {s : State} {n : Nat}

/-- Who holds a quad's service wires is shown apart from the mode of any port. -/
theorem State.setQuadHold_mode (s : State) (n : Nat) (held : Bool) (m : Nat) :
    (s.setQuadHold n held).rd (PRT.ALTMUX.ACTIVE m) = s.rd (PRT.ALTMUX.ACTIVE m) ∧
      (s.setQuadHold n held).rd (PRT.PDSTS.ALTMODE m) = s.rd (PRT.PDSTS.ALTMODE m) := by
  constructor
  all_goals
    apply Only.rd
    apply State.setQuadHold_only (.refl _ _)
    all_goals (intros; exact Part.fields_ne rfl rfl (by omega))

/-- Service-console mode ends: SBU isolated, nothing shown as active (R312). -/
theorem State.modeExit_active (hactive : s.rd (PRT.ALTMUX.ACTIVE n) = 1) :
    (s.modeExit n).outs = s.outs ++ [.sbu n false] ∧ (s.modeExit n).rd (PRT.ALTMUX.ACTIVE n) = 0 ∧
      (s.modeExit n).rd (PRT.PDSTS.ALTMODE n) = 0 := by
  unfold State.modeExit
  rw [if_pos (by simp [hactive])]
  let s1 := (((s.emit (.sbu n false)).wr (PRT.ALTMUX.ACTIVE n) 0).wr (PRT.PDSTS.ALTMODE n) 0).orBits (PRT.PDSTS.EVT n) 0x80
  obtain ⟨hact, halt⟩ := s1.setQuadHold_mode n false n
  refine ⟨s1.outs_setQuadHold n false, hact.trans ?_, halt.trans ?_⟩
  · refine (State.rd_wr_ne _ _ (Field.key_ne rfl rfl (by omega))).trans ?_
    refine (State.rd_wr_ne _ _ (Field.key_ne rfl rfl (by omega))).trans ?_
    exact State.rd_wr_self ..
  · refine (State.rd_wr_ne _ _ (Field.key_ne rfl rfl (by omega))).trans ?_
    exact State.rd_wr_self ..

/-- Service-console mode is entered: ACK, and then SBU connected (R311). -/
theorem State.enterMode_entered {svid : Nat} (hsvid : svid = s.consvid) (hcon : s.consvid ≠ 0)
    (hallow : s.rd (PRT.ALTMUX.ALLOW n) = 1) (hfree : ∀ m ∈ quadPorts (quadOf n), s.rd (PRT.ALTMUX.ACTIVE m) = 0) :
    (s.enterMode n svid 1).outs = s.outs ++ [.pd n (.vdmAck 4 []), .sbu n true] ∧
      (s.enterMode n svid 1).rd (PRT.ALTMUX.ACTIVE n) = 1 ∧ (s.enterMode n svid 1).rd (PRT.PDSTS.ALTMODE n) = 1 := by
  have hown : n ∈ quadPorts (quadOf n) := List.mem_map.mpr ⟨n % 4, List.mem_range.mpr (Nat.mod_lt _ (by decide)),
    Nat.div_add_mod n 4⟩
  have hnone : (quadPorts (quadOf n)).any (fun m => s.on (PRT.ALTMUX.ACTIVE m)) = false :=
    List.any_eq_false.mpr (fun m hm => by simp [hfree m hm])
  unfold State.enterMode
  rw [if_pos ⟨hsvid, hsvid ▸ hcon, rfl, by simp [hallow], by simp [hfree n hown], by rw [hnone]; rfl⟩]
  let s1 := ((((s.emit (.pd n (.vdmAck 4 []))).emit (.sbu n true)).raise (PRT.ALTMUX.ACTIVE n)).raise
      (PRT.PDSTS.ALTMODE n)).orBits (PRT.PDSTS.EVT n) 0x80
  obtain ⟨hact, halt⟩ := s1.setQuadHold_mode n true n
  refine ⟨(s1.outs_setQuadHold n true).trans (List.append_assoc ..), hact.trans ?_, halt.trans ?_⟩
  · refine (State.rd_wr_ne _ _ (Field.key_ne rfl rfl (by omega))).trans ?_
    refine (State.rd_wr_ne _ _ (Field.key_ne rfl rfl (by omega))).trans ?_
    exact State.rd_wr_self ..
  · refine (State.rd_wr_ne _ _ (Field.key_ne rfl rfl (by omega))).trans ?_
    exact State.rd_wr_self ..

end

section
variable {n : Fin 48} {svid : BitVec 16} {cmd : BitVec 5} {s : State}

/-- A structured VDM to a ready source that may answer. -/
theorem SourceReady.completes_vdm {c : Sys2Proof.Instr} {m : PdRx} {t : State} {P : State → Prop} (h : SourceReady n s)
    (he : exec c s = done (s.fresh.receive n m)) (hm : s.fresh.answer n m = if s.vdmOk n then t else s.fresh)
    (hvdm : s.vdmOk n = true) (hp : P t) : Completes c s P :=
  h.completes he (by rw [hm, if_pos hvdm]; exact hp)

/-- The service-console SVID, where one is set (R310). -/
theorem execDiscoverSvids_answers (hready : SourceReady n s) (hvdm : s.vdmOk n = true) :
    Completes (.discoverSvids n) s (fun t =>
      t.outs = [.pd n (if s.consvid = 0 then .vdmNak 2 else .vdmAck 2 [s.consvid * 65536])]) := by
  refine hready.completes (m := .discoverSvids) rfl ?_
  show (if !s.vdmOk n then _ else _ : State).outs = _
  rw [if_neg (by simp [hvdm])]
  rfl

/-- The console's one mode, for its own SVID (R310). -/
theorem execDiscoverModes_answers (hready : SourceReady n s) (hvdm : s.vdmOk n = true) :
    Completes (.discoverModes n svid) s (fun t => t.outs = [.pd n (if s.consvid ≠ 0 ∧ svid.toNat = s.consvid then
      .vdmAck 3 [s.pdTable.2.2.2] else .vdmNak 3)]) := by
  refine hready.completes (m := .discoverModes svid.toNat) rfl ?_
  show (if !s.vdmOk n then _ else _ : State).outs = _
  rw [if_neg (by simp [hvdm])]
  rfl

theorem execEnterMode_acks (hready : SourceReady n s) (hvdm : s.vdmOk n = true) (hsvid : svid.toNat = s.consvid)
    (hcon : s.consvid ≠ 0) (hallow : s.rd (PRT.ALTMUX.ALLOW n) = 1)
    (hfree : ∀ m ∈ quadPorts (quadOf n), s.rd (PRT.ALTMUX.ACTIVE m) = 0) :
    Completes (.enterMode n svid 1) s (fun t => t.outs = [.pd n (.vdmAck 4 []), .sbu n true] ∧
      t.rd (PRT.ALTMUX.ACTIVE n) = 1 ∧ t.rd (PRT.PDSTS.ALTMODE n) = 1) :=
  hready.completes_vdm (m := .enterMode svid.toNat 1) rfl rfl hvdm
    (State.enterMode_entered (s := s.fresh) hsvid hcon hallow hfree)

/-- Another SVID is NAKed and counted (R311). -/
theorem execEnterMode_naks (hready : SourceReady n s) (hvdm : s.vdmOk n = true) (hsvid : svid.toNat ≠ s.consvid) :
    Completes (.enterMode n svid 1) s (fun t => t.outs = [.pd n (.vdmNak 4)] ∧ CountsUp (PRT.ALTMUX.NAKCNT n) s t) := by
  refine hready.completes_vdm (m := .enterMode svid.toNat 1) rfl rfl hvdm ?_
  unfold State.enterMode
  rw [if_neg (fun ⟨h, _⟩ => hsvid h)]
  exact ⟨rfl, CountsUp.bump rfl⟩

/-- The pins are isolated before the ACK (R312). -/
theorem execExitMode_acks (hready : SourceReady n s) (hvdm : s.vdmOk n = true) (hsvid : svid.toNat = s.consvid)
    (hcon : s.consvid ≠ 0) (hactive : s.rd (PRT.ALTMUX.ACTIVE n) = 1) : Completes (.exitMode n svid) s (fun t =>
      t.outs = [.sbu n false, .pd n (.vdmAck 5 [])] ∧ t.rd (PRT.ALTMUX.ACTIVE n) = 0 ∧
        t.rd (PRT.PDSTS.ALTMODE n) = 0) := by
  refine hready.completes_vdm (m := .exitMode svid.toNat) rfl rfl hvdm ?_
  obtain ⟨houts, hact, halt⟩ := State.modeExit_active (s := s.fresh) hactive
  unfold State.exitMode
  rw [if_pos ⟨hsvid, hsvid ▸ hcon, .inl (by simp [hactive])⟩]
  exact ⟨congrArg (· ++ [Out.pd n (.vdmAck 5 [])]) houts, hact, halt⟩

/-- Any other command is NAKed under its own number (R310). -/
theorem execOtherVdm_naks (hready : SourceReady n s) (hvdm : s.vdmOk n = true) :
    Completes (.otherVdm n cmd) s (fun t => t.outs = [.pd n (.vdmNak cmd.toNat)]) := by
  refine ⟨_, rfl, ?_⟩
  have hanswer : s.fresh.receive n .otherVdm = s.fresh.emit (.pd n (.vdmNak 0)) := by
    rw [SourceReady.receive (s := s.fresh) hready]
    exact if_pos hvdm
  rw [hanswer]
  show [if Out.pd n.val (PdTx.vdmNak 0) = .pd n.val (.vdmNak 0) then _ else _] = _
  rw [if_pos rfl]

end

/-- Settles O37: each structured VDM is answered as the PD table and the quad's service wires say. -/
theorem structuredVdmsComplete : Obligations.StructuredVdmsComplete := by
  intro n svid cmd s hready hvdm
  exact ⟨hready.completes_vdm (m := .discoverIdentity) rfl rfl hvdm rfl, execDiscoverSvids_answers hready hvdm,
    execDiscoverModes_answers hready hvdm, execEnterMode_acks hready hvdm,
    execEnterMode_naks hready hvdm, execExitMode_acks hready hvdm, execOtherVdm_naks hready hvdm⟩

end Sys2Proof.Machine
end

section
/-! PROOFS. Type-C on the upstream receptacles. -/

namespace Sys2Proof.Machine

section
variable {u : Fin 4} {cc2 ra : Bool} {cur : Fin 3} {s : State}

/-! ## Receptacle Uu is number 48 + u -/

theorem receptacle_le (u : Fin 4) : 48 ≤ (Fin.natAdd 48 u : Fin 52).val := Nat.le_add_right ..

theorem receptacle_sub (u : Fin 4) : (Fin.natAdd 48 u : Fin 52).val - 48 = u.val := Nat.add_sub_cancel_left ..

theorem State.upUnattached_tcstate (s : State) (u : Nat) : (s.upUnattached u).rd (UPS.TCSTS.TCSTATE u) = 1 := by
  unfold State.upUnattached
  rw [State.rd_modUp]
  refine (State.rd_wr_ne _ _ (Field.key_ne rfl rfl (by omega))).trans ?_
  refine (State.rd_wr_ne _ _ (Field.key_ne rfl rfl (by omega))).trans ?_
  refine (State.rd_wr_ne _ _ (Field.key_ne rfl rfl (by omega))).trans ?_
  exact State.rd_wr_self ..

theorem State.upSink_tcstate (s : State) (u : Nat) : (s.upSink u).rd (UPS.TCSTS.TCSTATE u) = 7 := by
  unfold State.upSink
  rw [State.rd_modUp]
  exact State.rd_wr_self ..

theorem State.upSink_rpseen (s : State) (u : Nat) :
    (s.upSink u).rd (UPS.TCSTS.RPSEEN u) = s.rd (UPS.TCSTS.RPSEEN u) := by
  unfold State.upSink
  rw [State.rd_modUp]
  exact State.rd_wr_ne _ _ (Field.key_ne rfl rfl (by omega))

/-! ## Unattached, AttachWait and Attached.SNK (R294) -/

/-- A source's Rp is seen while the receptacle presents Rd. -/
theorem State.upSeen_rp {u : Nat} (hactive : s.active = true) (htc : s.rd (UPS.TCSTS.TCSTATE u) ≤ 1)
    (hrd : (s.up u).presRp = false) : s.upSeen u (.rp cc2 cur) =
      (((s.wr (UPS.TCSTS.TCSTATE u) 2).wr (UPS.TCSTS.ORIENT u) (if cc2 then 2 else 1)).wr (UPS.TCSTS.RPSEEN u)
        (cur.val + 1)).modUp u (fun x => { x with path := .sink, debounced := false }) := by
  have hseen : ¬((!s.active) = true ∨ 1 < s.rd (UPS.TCSTS.TCSTATE u)) := by simp [hactive, htc]
  have hrp : ¬ (s.up u).presRp = true := by simp [hrd]
  exact (if_neg hseen).trans (if_neg hrp)

theorem execCcAttachSeen_up (hrun : s.phase = .running) (htc : s.rd (UPS.TCSTS.TCSTATE u) ≤ 1)
    (hrd : (s.up u).presRp = false) : Completes (.ccAttachSeen (Fin.natAdd 48 u) (.rp cc2 cur)) s (fun t =>
      t.rd (UPS.TCSTS.TCSTATE u) = 2 ∧ t.rd (UPS.TCSTS.ORIENT u) = (if cc2 then 2 else 1) ∧
        t.rd (UPS.TCSTS.RPSEEN u) = cur.val + 1) := by
  refine ⟨_, if_pos (receptacle_le u), ?_⟩
  rw [receptacle_sub, State.upSeen_rp (s := s.fresh) (by simp [State.active, hrun]) htc hrd]
  refine ⟨?_, ?_, ?_⟩
  · refine (State.rd_wr_ne _ _ (Field.key_ne rfl rfl (by omega))).trans ?_
    refine (State.rd_wr_ne _ _ (Field.key_ne rfl rfl (by omega))).trans ?_
    exact State.rd_wr_self ..
  · refine (State.rd_wr_ne _ _ (Field.key_ne rfl rfl (by omega))).trans ?_
    refine (State.rd_wr_self ..).trans (Nat.mod_eq_of_lt ?_)
    show (if cc2 then 2 else 1) < 4
    split <;> decide
  · refine (State.rd_wr_self ..).trans (Nat.mod_eq_of_lt ?_)
    show cur.val + 1 < 4
    omega

/-- With VBUS there at the end of tCCDebounce the receptacle is a sink. -/
theorem execCcDebounceExpire_up (htc : s.rd (UPS.TCSTS.TCSTATE u) = 2) (hpath : (s.up u).path = .sink)
    (hvbus : s.rd (UPS.STS.VBUS u) = 1) :
    Completes (.ccDebounceExpire (Fin.natAdd 48 u)) s (fun t => t.rd (UPS.TCSTS.TCSTATE u) = 7) := by
  refine ⟨_, rfl, ?_⟩
  rw [if_pos (receptacle_le u), receptacle_sub, State.upDebounced, if_neg (by simp [htc]), if_neg (by simp [hpath]),
    if_pos (by simp [hvbus])]
  exact State.upSink_tcstate ..

theorem execCcTerminationLost_up (htc : s.rd (UPS.TCSTS.TCSTATE u) = 2) :
    Completes (.ccTerminationLost (Fin.natAdd 48 u)) s (fun t => t.rd (UPS.TCSTS.TCSTATE u) = 1) := by
  refine .guarded (if_pos (receptacle_le u)) ?_ ?_
  · rw [receptacle_sub, htc]; rfl
  · rw [receptacle_sub]; exact State.upUnattached_tcstate ..

/-! ## Dual role (R289, R290) -/

theorem execDrpToggle_up (hrun : s.phase = .running) (hrole : s.rd (UPS.TCCTL.ROLE u) = 1)
    (htc : s.rd (UPS.TCSTS.TCSTATE u) = 1) (hboot : s.boot.step = 0) :
    Completes (.drpToggle (Fin.natAdd 48 u)) s (fun t => (t.up u).presRp = (!(s.up u).presRp)) := by
  refine .guarded (if_pos (receptacle_le u)) ?_ ?_
  · rw [receptacle_sub]; simp [State.active, State.upDrp, hrun, hrole, htc, hboot]
  · rw [receptacle_sub, State.up_modUp_self]; rfl

theorem execDrpTryExpire_up (htc : s.rd (UPS.TCSTS.TCSTATE u) = 5) (htry : (s.up u).tryWait = false) :
    Completes (.drpTryExpire (Fin.natAdd 48 u)) s (fun t => (t.up u).tryWait = true) := by
  refine .guarded (if_pos (receptacle_le u)) ?_ ?_
  · rw [receptacle_sub, htc, htry]; rfl
  · rw [receptacle_sub, State.up_modUp_self]

/-- A source seen in Try.SNK, with VBUS there. -/
theorem execTryCcDebounceExpire_up (htc : s.rd (UPS.TCSTS.TCSTATE u) = 5) (htry : (s.up u).tryWait = false)
    (hvbus : s.rd (UPS.STS.VBUS u) = 1) : Completes (.tryCcDebounceExpire (Fin.natAdd 48 u) cc2 ⟨ra, cur⟩) s (fun t =>
      t.rd (UPS.TCSTS.TCSTATE u) = 7 ∧ t.rd (UPS.TCSTS.RPSEEN u) = cur.val + 1) := by
  refine ⟨_, if_pos (receptacle_le u), ?_⟩
  rw [receptacle_sub, State.upTryDebounced, if_neg (by simp [htc]), if_neg (by simp [htry]), if_pos (by simp [hvbus])]
  refine ⟨State.upSink_tcstate .., (State.upSink_rpseen ..).trans ?_⟩
  refine (State.rd_wr_self ..).trans (Nat.mod_eq_of_lt ?_)
  show cur.val + 1 < 4
  omega

theorem execTryTimeout_up (htc : s.rd (UPS.TCSTS.TCSTATE u) = 5) (htry : (s.up u).tryWait = true) :
    Completes (.tryTimeout (Fin.natAdd 48 u)) s (fun t => t.rd (UPS.TCSTS.TCSTATE u) = 1) := by
  refine .guarded (if_pos (receptacle_le u)) ?_ ?_
  · rw [receptacle_sub, htc, htry]; rfl
  · rw [receptacle_sub]; exact State.upUnattached_tcstate ..

/-- A sink-only partner goes. -/
theorem execSrcDisconnect_up (htc : s.rd (UPS.TCSTS.TCSTATE u) = 6) :
    Completes (.srcDisconnect (Fin.natAdd 48 u)) s (fun t => t.rd (UPS.TCSTS.TCSTATE u) = 1) := by
  refine ⟨_, rfl, ?_⟩
  rw [if_pos (receptacle_le u), receptacle_sub, if_pos htc]
  exact State.upUnattached_tcstate ..

end

/-- Settles O20: each command on receptacle 48 + u leaves the Type-C state of R290 and R294. -/
theorem upstreamTypeCCompletes : Obligations.UpstreamTypeCCompletes := by
  intro u cc2 ra cur s hrun
  exact ⟨execCcAttachSeen_up hrun, execCcDebounceExpire_up, execCcTerminationLost_up, execDrpToggle_up hrun,
    execDrpTryExpire_up, execTryCcDebounceExpire_up, execTryTimeout_up, execSrcDisconnect_up⟩

end Sys2Proof.Machine
end

section
/-! PROOFS. Nightwatch: the wake events, the end of an attempt and the sleep handshake. -/

namespace Sys2Proof.Machine

section
variable {s : State}

/-! ## The end of an attempt (R395, R397) -/

/-- An attempt that ends shows the block, the cause and STATE 0. -/
theorem State.sleepAbort_shows (s : State) {block : Nat} (hblock : block < 32) (tmo : Bool) :
    (s.sleepAbort block tmo).rd NW.ABORT.BLOCK = block ∧ (s.sleepAbort block tmo).rd NW.ABORT.TMO = tmo.toNat ∧
      (s.sleepAbort block tmo).rd NW.STS.STATE = 0 ∧ (s.sleepAbort block tmo).sleep = SleepX.reset := by
  let s1 := ((s.wr NW.ABORT.BLOCK block).flag NW.ABORT.TMO tmo).flag NW.ABORT.TARGET s.sleep.eclipse
  let s2 := (s1.bump NW.ABORT.COUNT).wr NW.STS.STATE 0
  have h2 : s2.rd NW.ABORT.BLOCK = block ∧ s2.rd NW.ABORT.TMO = tmo.toNat ∧ s2.rd NW.STS.STATE = 0 := by
    simp (disch := decide) only [s2, s1, State.flag_eq_wr, State.bump_eq_wr, State.rd_wr_ne, State.rd_wr_self]
    exact ⟨Nat.mod_eq_of_lt hblock, Nat.mod_eq_of_lt tmo.toNat_lt, rfl⟩
  obtain ⟨hb, htmo, hstate⟩ := h2
  exact ⟨hb, htmo, hstate, rfl⟩

/-- A refusal ends the attempt too (R395). -/
theorem State.sleepRefuse_shows (s : State) {k : Nat} (hk : k < 32) (tmo : Bool) :
    (s.sleepRefuse k tmo).rd NW.STS.STATE = 0 ∧ (s.sleepRefuse k tmo).sleep.running = false ∧
      (s.sleepRefuse k tmo).rd NW.ABORT.BLOCK = k ∧ (s.sleepRefuse k tmo).rd NW.ABORT.TMO = tmo.toNat := by
  obtain ⟨hblock, htmo, hstate, hsleep⟩ := s.sleepAbort_shows hk tmo
  exact ⟨(State.rd_wr_ne _ _ (by decide)).trans hstate, congrArg SleepX.running hsleep,
    (State.rd_wr_ne _ _ (by decide)).trans hblock, (State.rd_wr_ne _ _ (by decide)).trans htmo⟩

/-- What is recorded of the last wake event stays. -/
theorem State.sleepAbort_keepsWake (s : State) (block : Nat) (tmo : Bool) {f : Field}
    (hf : f ∈ [NW.WAKE.VALID, NW.WAKE.CAUSE, NW.WAKE.SRC, NW.WAKE.DETAIL, NW.WAKE.FROM]) :
    (s.sleepAbort block tmo).rd f = s.rd f := by
  apply Only.rd
  have hk : f.key ∈ [0x2010 * 32, 0x2010 * 32 + 4, 0x2010 * 32 + 8, 0x2010 * 32 + 18, 0x2010 * 32 + 1] :=
    List.mem_map_of_mem (f := Field.key) hf
  have hrange : 0x2010 * 32 ≤ f.key := by
    simp only [List.mem_cons, List.not_mem_nil, or_false] at hk
    omega
  apply State.sleepAbort_only (.refl _ _)
  all_goals first | exact Part.field_ne rfl (by omega) | exact nofun

/-! ## Wake events (R396, R397) -/

/-- A wake event during the handshake. -/
theorem State.wakeEvent_endsEntry (hrun : s.sleep.running = true) (cause src detail : Nat) :
    EndsEntry s (s.fresh.wakeEvent cause src detail) := by
  have h : s.fresh.wakeEvent cause src detail = s.fresh.sleepAbort 18 false := if_pos hrun
  obtain ⟨hblock, -, hstate, hsleep⟩ := s.fresh.sleepAbort_shows (block := 18) (by decide) false
  rw [h]
  exact ⟨hblock, hstate, congrArg SleepX.running hsleep, rfl,
    State.sleepAbort_keepsWake _ _ _ (by simp), State.sleepAbort_keepsWake _ _ _ (by simp),
    State.sleepAbort_keepsWake _ _ _ (by simp), State.sleepAbort_keepsWake _ _ _ (by simp),
    State.sleepAbort_keepsWake _ _ _ (by simp)⟩

/-- The first wake event of Dusk or Eclipse. -/
theorem State.wakeEvent_wakes (h : AsleepUnwoken s) {cause src detail : Nat} (hcause : cause < 16) (hsrc : src < 1024)
    (hdetail : detail < 64) : WokenBy cause src detail s (s.fresh.wakeEvent cause src detail) := by
  obtain ⟨hphase, hrun, hwoken⟩ := h
  let s1 := (s.fresh.raise NW.WAKE.VALID).wr NW.WAKE.FROM (if s.phase = .dusk then 1 else 2)
  let s2 := ((s1.wr NW.WAKE.CAUSE cause).wr NW.WAKE.SRC src).wr NW.WAKE.DETAIL detail
  have hwake : s.fresh.wakeEvent cause src detail =
      { s2.wr NW.STS.STATE 3 with sleep := { s2.sleep with woken := true } } := by
    unfold State.wakeEvent
    rw [if_neg (by simp [hrun]), if_pos (by simpa [hwoken] using hphase)]
    rfl
  rw [hwake]
  let s3 := s2.wr NW.STS.STATE 3
  have h3 : s3.rd NW.WAKE.VALID = 1 ∧ s3.rd NW.WAKE.CAUSE = cause ∧ s3.rd NW.WAKE.SRC = src ∧
      s3.rd NW.WAKE.DETAIL = detail ∧ s3.rd NW.WAKE.FROM = (if s.phase = .dusk then 1 else 2) ∧
      s3.rd NW.STS.STATE = 3 := by
    simp (disch := decide) only [s3, s2, s1, State.raise_eq_wr, State.rd_wr_ne, State.rd_wr_self]
    refine ⟨rfl, Nat.mod_eq_of_lt hcause, Nat.mod_eq_of_lt hsrc, Nat.mod_eq_of_lt hdetail, ?_, rfl⟩
    split <;> rfl
  obtain ⟨hvalid, hc, hs, hd, hfrom, hstate⟩ := h3
  exact ⟨hvalid, hc, hs, hd, hfrom, hstate, rfl⟩

end

section
variable {i : Fin 512} {u : Fin 4} {n : Fin 48} {adr : BitVec 7} {s : State}

/-! ### Each event that can wake -/

/-- A watched source where its event can wake: in Eclipse only CC attach and detach. -/
theorem execWatchedSourceWake_wakes {P : State → Prop} (hen : s.rd (ICU.SRC_CFG.EN i) = 1)
    (hnww : s.rd (ICU.SRC_CFG.NWW i) = 1) (hcc : s.phase = .eclipse → 64 ≤ i.val ∧ i.val < 352 ∧ (i.val - 64) % 6 = 3)
    (h : P (s.fresh.wakeEvent 1 i 0x3F)) : Completes (.watchedSourceWake i) s P := by
  refine .guarded rfl ?_ h
  by_cases hecl : s.phase = .eclipse
  · obtain ⟨hlo, hhi, hmod⟩ := hcc hecl
    simp [hen, hnww, hlo, hhi, hmod]
  · simp [hen, hnww, hecl]

theorem execWakeNAssert_wakes {P : State → Prop} (h : P (s.fresh.wakeEvent 2 0x3FF 0x3F)) :
    Completes .wakeNAssert s P := ⟨_, rfl, h⟩

/-- The I2C address match where I2CWAKE is set. -/
theorem execI2cAddressMatch_wakes {P : State → Prop} (hwake : s.rd NW.CTL.I2CWAKE = 1)
    (hadr : adr.toNat = 0x38 + s.rd SYS.STRAP.ADR) (h : P (s.fresh.wakeEvent 3 0x3FF 0x3F)) :
    Completes (.i2cAddressMatch adr) s P := by
  refine .guarded rfl (beq_iff_eq.mpr hadr) ?_
  rw [if_pos (by simp [hwake])]
  exact h

theorem execFixedWakeEvent_upstreamLine_wakes {P : State → Prop} (hlit : s.phase ≠ .eclipse)
    (hsusp : s.rd (UPS.STS.SUSP u) = 1) (h : P (s.fresh.wakeEvent 4 0x3FF u)) :
    Completes (.fixedWakeEvent (.upstreamLine u)) s P := .guarded rfl (by simp [hlit, hsusp]) h

theorem execFixedWakeEvent_downstream_wakes {P : State → Prop} (hlit : s.phase ≠ .eclipse) (hown : s.owner n ≤ 4)
    (h : P (s.fresh.wakeEvent 5 0x3FF n)) : Completes (.fixedWakeEvent (.downstream n)) s P :=
  .guarded rfl (by simp [hlit, hown]) h

theorem execFixedWakeEvent_portDie_wakes {P : State → Prop} (hlit : s.phase ≠ .eclipse)
    (h : P (s.fresh.wakeEvent 6 0x3FF n)) : Completes (.fixedWakeEvent (.portDie n)) s P :=
  .guarded rfl (by simp [hlit]) h

theorem execFixedWakeEvent_uVbus_wakes {P : State → Prop} (h : P (s.fresh.wakeEvent 7 0x3FF u)) :
    Completes (.fixedWakeEvent (.uVbus u)) s P := ⟨_, rfl, h⟩

end

/-- Settles O11: in Dusk or Eclipse the event is recorded and wakes; during the handshake it ends the attempt. -/
theorem wakesDuringEntryAreHandledInActive : Obligations.WakesDuringEntryAreHandledInActive := by
  intro i u n adr s
  have hsrc : i.val < 1024 := i.isLt.trans (by decide)
  have hends (hrun : s.sleep.running = true) := State.wakeEvent_endsEntry (s := s) hrun
  have hlit (hphase : s.phase = .running) : s.phase ≠ .eclipse := by rw [hphase]; decide
  refine ⟨?_, ?_, ?_, ?_, ?_, ?_, ?_, ?_, ?_, ?_⟩
  · exact fun h hen hnww hcc => execWatchedSourceWake_wakes hen hnww hcc
      (State.wakeEvent_wakes h (by decide) hsrc (by decide))
  · exact fun h => execWakeNAssert_wakes (State.wakeEvent_wakes h (by decide) (by decide) (by decide))
  · exact fun h hwake hadr => execI2cAddressMatch_wakes hwake hadr
      (State.wakeEvent_wakes h (by decide) (by decide) (by decide))
  · exact fun hphase hrun hen hnww => execWatchedSourceWake_wakes hen hnww (fun he => absurd he (hlit hphase))
      (hends hrun ..)
  · exact fun _ hrun => execWakeNAssert_wakes (hends hrun ..)
  · exact fun _ hrun hwake hadr => execI2cAddressMatch_wakes hwake hadr (hends hrun ..)
  · exact fun hphase hrun hsusp => execFixedWakeEvent_upstreamLine_wakes (hlit hphase) hsusp (hends hrun ..)
  · exact fun hphase hrun hown => execFixedWakeEvent_downstream_wakes (hlit hphase) hown (hends hrun ..)
  · exact fun hphase hrun => execFixedWakeEvent_portDie_wakes (hlit hphase) (hends hrun ..)
  · exact fun _ hrun => execFixedWakeEvent_uVbus_wakes (hends hrun ..)

/-! ## The handshake (R391 to R395) -/

section
variable {s : State}

theorem State.regs_forEach_modPort (s : State) (l : List Nat) (g : PortX → PortX) :
    (s.forEach l (fun t n => t.modPort n g)).regs = s.regs := by
  induction l generalizing s with
  | nil => rfl
  | cons a l ih => exact ih (s.modPort a g)

theorem State.enterDusk_regs (s : State) : s.enterDusk.regs =
    (((s.wr NW.STS.STATE 2).wr NW.STS.BACKOFF 0).bump NW.CNT.DUSKCNT).regs := by
  unfold State.enterDusk
  dsimp only
  rw [State.regs_forEach_modPort]

/-- Dusk shows STATE 2 and no back-off. -/
theorem State.enterDusk_shows (s : State) : s.enterDusk.phase = .dusk ∧ s.enterDusk.rd NW.STS.STATE = 2 ∧
    s.enterDusk.rd NW.STS.BACKOFF = 0 := by
  refine ⟨rfl, ?_⟩
  rw [State.rd, State.rd, State.enterDusk_regs, ← State.rd, ← State.rd]
  simp (disch := decide) only [State.bump_eq_wr, State.rd_wr_ne, State.rd_wr_self]
  exact ⟨rfl, rfl⟩

/-- Eclipse shows the same. -/
theorem State.enterEclipse_shows (s : State) : s.enterEclipse.phase = .eclipse ∧ s.enterEclipse.rd NW.STS.STATE = 2 ∧
    s.enterEclipse.rd NW.STS.BACKOFF = 0 := by
  unfold State.enterEclipse
  extract_lets s0 s1
  have h1 : s1.rd NW.STS.STATE = 2 ∧ s1.rd NW.STS.BACKOFF = 0 := by
    simp (disch := decide) only [s1, State.bump_eq_wr, State.rd_wr_ne, State.rd_wr_self]
    exact ⟨rfl, rfl⟩
  clear_value s1
  exact ⟨rfl, h1⟩

theorem execIdleTimerExpire_begins (hidle : s.idle = true) (hrun : s.sleep.running = false) :
    Completes .idleTimerExpire s (fun t => t.rd NW.STS.STATE = 1 ∧ t.sleep.running = true ∧ t.sleep.next = 0) :=
  .guarded rfl (by simp [hidle, hrun]) ⟨State.rd_wr_self s.fresh NW.STS.STATE 1, rfl, rfl⟩

/-- A block that agrees, with the conditions of Eclipse where it is the target: the answer goes past the refusal. -/
theorem execSleepBlockAnswer_agrees {P : State → Prop} (hrun : s.sleep.running = true)
    (hagree : s.refuses s.sleep.next = false) (hecl : s.sleep.eclipse = true → s.eclipseOk = true)
    (h : P (if s.sleep.next < 17 then { s.fresh with sleep := { s.sleep with next := s.sleep.next + 1 } }
      else if s.sleep.eclipse then s.fresh.enterEclipse else s.fresh.enterDusk)) : Completes .sleepBlockAnswer s P := by
  refine .guarded rfl hrun ?_
  rw [if_neg (by simp [hagree]), if_neg (by rintro ⟨he, hno⟩; simp [hecl he] at hno)]
  exact h

theorem execSleepBlockAnswer_passes (hrun : s.sleep.running = true) (hagree : s.refuses s.sleep.next = false)
    (hecl : s.sleep.eclipse = true → s.eclipseOk = true) (hnext : s.sleep.next < 17) :
    Completes .sleepBlockAnswer s (fun t => t.sleep.next = s.sleep.next + 1 ∧ t.sleep.running = true) := by
  refine execSleepBlockAnswer_agrees hrun hagree hecl ?_
  rw [if_pos hnext]
  exact ⟨rfl, hrun⟩

theorem execSleepBlockAnswer_enters (hrun : s.sleep.running = true) (hagree : s.refuses s.sleep.next = false)
    (hecl : s.sleep.eclipse = true → s.eclipseOk = true) (hnext : s.sleep.next = 17) :
    Completes .sleepBlockAnswer s (fun t => t.phase = (if s.sleep.eclipse then .eclipse else .dusk) ∧
      t.rd NW.STS.STATE = 2 ∧ t.rd NW.STS.BACKOFF = 0) := by
  refine execSleepBlockAnswer_agrees hrun hagree hecl ?_
  rw [if_neg (by omega)]
  split
  · exact s.fresh.enterEclipse_shows
  · exact s.fresh.enterDusk_shows

theorem execSleepBlockAnswer_refuses (hrun : s.sleep.running = true) (hrefuse : s.refuses s.sleep.next = true)
    (hnext : s.sleep.next ≤ 17) : Completes .sleepBlockAnswer s (fun t => t.rd NW.STS.STATE = 0 ∧
      t.sleep.running = false ∧ t.rd NW.ABORT.BLOCK = s.sleep.next ∧ t.rd NW.ABORT.TMO = 0) := by
  refine .guarded rfl hrun ?_
  rw [if_pos hrefuse]
  exact State.sleepRefuse_shows _ (Nat.lt_of_le_of_lt hnext (by decide)) false

theorem execSleepAnswerTimeout_refuses (hrun : s.sleep.running = true) (hnext : s.sleep.next ≤ 17) :
    Completes .sleepAnswerTimeout s (fun t => t.rd NW.STS.STATE = 0 ∧ t.sleep.running = false ∧
      t.rd NW.ABORT.BLOCK = s.sleep.next ∧ t.rd NW.ABORT.TMO = 1) :=
  .guarded rfl hrun (State.sleepRefuse_shows _ (Nat.lt_of_le_of_lt hnext (by decide)) true)

end

/-- Settles O29: the handshake block by block, to its end in Dusk or Eclipse or in Active. -/
theorem sleepHandshakeCompletes : Obligations.SleepHandshakeCompletes := by
  intro s
  exact ⟨execIdleTimerExpire_begins, execSleepBlockAnswer_passes, execSleepBlockAnswer_enters,
    execSleepBlockAnswer_refuses, execSleepAnswerTimeout_refuses⟩

end Sys2Proof.Machine
end

section
/-! PROOFS. The return from Dusk, refuted by a concrete state. -/

namespace Sys2Proof.Machine

/-- A part in Dusk that an I2C transfer has woken (R398): the transfer that waits clears the latch of PE0's fault block,
and the strap pins were at flash release. -/
def latchClearedAtReturn : State :=
  { ((State.reset.wr (FLT.FLTTIMERS.STATE .pwr) 4).wr SYS.STRAP.MODE 2) with
    phase := .dusk
    sleep := ⟨false, false, 0, true⟩
    boot := { BootX.reset with step := 0, ownInForce := true }
    heldI2c := some (.write clearPe0Latch) }

/-- Refutes O30: the transfer served at the return (R398, R399) clears the latch of a device block, whose restore is a
device-level reset (R378, R381), so with the straps at flash release the part is not Active again. -/
theorem not_wakesAndReturnComplete : ¬ Obligations.WakesAndReturnComplete := by
  intro h
  obtain ⟨-, -, -, -, -, -, -, hreturn⟩ := h 0 0 0 0 0 latchClearedAtReturn
  have hreset : ∃ t, exec (.duskReturnComplete 0) latchClearedAtReturn = .next t ∧ t.phase ≠ .running :=
    ⟨_, rfl, by decide +kernel⟩
  obtain ⟨t, ht, hphase⟩ := hreset
  exact not_completes ht (fun ⟨hrun, _⟩ => hphase hrun) (hreturn rfl rfl)

end Sys2Proof.Machine
end

section
/-! SUPPORT. What the hub operations and the loss of supply leave of a port's e-fuse: its self-test, its latch, VBUS and
the discharge. -/

namespace Sys2Proof.Machine

/-- What of a port's e-fuse no hub event touches: the self-test, the latch, VBUS and its discharge. -/
def PortX.fuse (p : PortX) : SelfTest × Bool × Bool × Bool := (p.selfTest, p.latched, p.vbus, p.dsch)

section
variable (s : State) (n m : Nat)

/-! ## Lodestar's work on the port -/

theorem State.modPort_fuse {g : PortX → PortX} (hg : ∀ p, (g p).fuse = p.fuse) :
    ((s.modPort n g).port m).fuse = (s.port m).fuse := by
  by_cases h : m = n
  · rw [h, State.port_modPort_self, hg]
  · rw [State.port_modPort_ne _ _ h]

theorem State.modLds_fuse (g : LdsPort → LdsPort) : ((s.modLds n g).port m).fuse = (s.port m).fuse :=
  State.modPort_fuse _ n m fun _ => by rfl

theorem State.setEntry_fuse (e : RosterEntry) : ((s.setEntry n e).port m).fuse = (s.port m).fuse := by
  unfold State.setEntry
  extract_lets old s1 s2
  have h2 : (s2.port m).fuse = (s.port m).fuse := s.modLds_fuse n m fun l => { l with entry := e }
  split
  · rw [State.ldsChange_port, h2]
  · exact h2

theorem State.ldsEnd_fuse (result st : Nat) : ((s.ldsEnd n result st).port m).fuse = (s.port m).fuse := by
  unfold State.ldsEnd
  extract_lets t e s1 s2
  have h2 : (s2.port m).fuse = (s.port m).fuse :=
    (s1.modLds_fuse n m _).trans (t.2.setEntry_fuse n m _)
  split <;> exact h2

theorem State.ldsDetach_fuse : ((s.ldsDetach n).port m).fuse = (s.port m).fuse := by
  unfold State.ldsDetach
  extract_lets s1
  have h1 : (s1.port m).fuse = (s.port m).fuse := s.modLds_fuse n m _
  split
  · rfl
  split
  · exact h1
  split
  · rw [State.ldsEnd_fuse, h1]
  split
  · rw [State.setEntry_fuse, h1]
  · exact h1

/-! ## The translator, the Almanac and the relay -/

theorem State.restrand_fuse (sel : Key → Bool) : ((s.restrand n sel).port m).fuse = (s.port m).fuse := by
  unfold State.restrand
  extract_lets
  split
  · rfl
  · exact State.modPort_fuse _ n m fun _ => by rfl

theorem State.withdrawAll_fuse (counted : Bool) : ((s.withdrawAll n counted).port m).fuse = (s.port m).fuse := by
  unfold State.withdrawAll
  extract_lets k s1
  have h1 : (s1.port m).fuse = (s.port m).fuse := s.modPort_fuse n m fun _ => by rfl
  split
  · exact (s1.restrand_fuse n m _).trans h1
  · exact h1

theorem State.unpoll_fuse : ((s.unpoll n).port m).fuse = (s.port m).fuse := by
  unfold State.unpoll
  extract_lets
  split
  · rfl
  · exact State.modPort_fuse _ n m fun _ => by rfl

theorem State.ttCut_fuse : ((s.ttCut n).port m).fuse = (s.port m).fuse :=
  State.modPort_fuse s n m (g := fun p => { p with np := [], per := [], stopDue := false }) fun _ => by rfl

theorem State.almClear_fuse (cut : Bool) : ((s.almClear n cut).port m).fuse = (s.port m).fuse := State.modPort_fuse _ n m fun _ => by rfl

/-- A translator that is cut off with its Almanac. -/
theorem State.ttAndAlmanac_fuse (counted : Bool) :
    ((s.ttAndAlmanac n true counted).port m).fuse = (s.port m).fuse := by
  unfold State.ttAndAlmanac
  extract_lets s1 s2
  have h1 : (s1.port m).fuse = (s.port m).fuse := by
    refine (State.withdrawAll_fuse _ n m counted).trans ?_
    split
    · exact s.unpoll_fuse n m
    · rfl
  have h2 : (s2.port m).fuse = (s1.port m).fuse := s1.ttCut_fuse n m
  refine (State.modPort_fuse _ n m fun _ => by rfl).trans ?_
  exact (s2.almClear_fuse n m true).trans (h2.trans h1)

theorem State.withdrawSlot_fuse (k : Key) : ((s.withdrawSlot n k).port m).fuse = (s.port m).fuse := by
  unfold State.withdrawSlot
  split
  · rfl
  · extract_lets s1 s2
    have h2 : (s2.port m).fuse = (s.port m).fuse :=
      (congrArg PortX.fuse (s1.dropHeld_port n k m)).trans (s.modPort_fuse n m fun _ => by rfl)
    split <;> exact h2

theorem State.withdrawSlots_fuse (sel : Slot → Bool) : ((s.withdrawSlots n sel).port m).fuse = (s.port m).fuse :=
  foldl_same (fun t : State => (t.port m).fuse) (fun t _ => t.withdrawSlot_fuse n m _) _ s

theorem State.dropStale_fuse (sel : Pkt → Bool) : ((s.dropStale sel).port m).fuse = (s.port m).fuse := by
  refine foldl_same (fun t : State => (t.port m).fuse) (fun t p => ?_) _ s
  have h1 : (((t.dropPkt p.id).bump (SWX.CNTA.STALE (cntIdx p.side))).port m).fuse = (t.port m).fuse :=
    congrArg PortX.fuse (t.dropPkt_port m p.id)
  split
  · exact (State.modPort_fuse _ _ m fun _ => by rfl).trans h1
  · exact h1

theorem State.relayReset_fuse (stale : Bool) : ((s.relayReset n stale).port m).fuse = (s.port m).fuse := by
  unfold State.relayReset
  extract_lets s1
  have h1 : (s1.port m).fuse = (s.port m).fuse :=
    (State.modPort_fuse _ n m fun _ => by rfl).trans (s.withdrawSlots_fuse n m _)
  split
  · exact (s1.dropStale_fuse m _).trans h1
  · exact h1

/-! ## The port's hub state -/

theorem State.endDrive_port : (s.endDrive n).port m = s.port m := Only.port (State.endDrive_only (.refl _ _) n nofun)

/-- The Almanac, the translator and the relay as a device goes. -/
theorem State.deviceGone_fuse :
    ((((((s.wr (PRT.HUBSTS.CONNECTION n) 0).wr (PRT.HUBSTS.LOWSPD n) 0).wr (PRT.HUBSTS.HIGHSPD n) 0).ttAndAlmanac n
      true true).relayReset n true).port m).fuse = (s.port m).fuse :=
  (State.relayReset_fuse _ n m true).trans (State.ttAndAlmanac_fuse _ n m true)

theorem State.hubDown_fuse (st : Nat) : ((s.hubDown n st).port m).fuse = (s.port m).fuse := by
  unfold State.hubDown State.hubDrop
  extract_lets s1 s2
  have h2 : (s2.port m).fuse = (s.port m).fuse :=
    (State.deviceGone_fuse ((s.endDrive n).setHub n st) n m).trans (congrArg PortX.fuse (s.endDrive_port n m))
  rw [State.rtDropOwner_port, State.ldsDetach_fuse]
  exact (State.modPort_fuse _ n m fun _ => by rfl).trans h2

theorem State.hubEvt_fuse (k : Nat) : ((s.hubEvt n k).port m).fuse = (s.port m).fuse := by
  unfold State.hubEvt
  refine (State.modPort_fuse _ n m fun _ => by rfl).trans ?_
  repeat' split
  all_goals rfl

theorem State.dropReset_fuse : ((s.dropReset n).port m).fuse = (s.port m).fuse := by
  unfold State.dropReset
  split
  · exact State.modPort_fuse _ n m fun _ => by rfl
  · rfl

theorem State.hubDisconnect_fuse : ((s.hubDisconnect n).port m).fuse = (s.port m).fuse := by
  unfold State.hubDisconnect
  extract_lets st s1 s2 s3
  have h1 : (s1.port m).fuse = (s.port m).fuse := calc
    (s1.port m).fuse
    _ = (((s.endDrive n).dropReset n).port m).fuse := State.hubEvt_fuse ..
    _ = ((s.endDrive n).port m).fuse := State.dropReset_fuse ..
    _ = (s.port m).fuse := by rw [State.endDrive_port]
  have h3 : (s3.port m).fuse = (s.port m).fuse :=
    (congrArg PortX.fuse (State.rtDropOwner_port _ n m)).trans ((s1.deviceGone_fuse n m).trans h1)
  split
  · rw [State.ldsDetach_fuse]
    exact (State.modPort_fuse _ n m fun _ => by rfl).trans h3
  split
  · exact State.modPort_fuse _ n m fun _ => by rfl
  · rfl

/-- A loss of VBUS that the demand did not cause (R157). -/
theorem State.vbusLoss_fuse : ((s.vbusLoss n).port m).fuse = (s.port m).fuse := by
  unfold State.vbusLoss
  split
  · exact s.hubDown_fuse n m _
  · exact s.hubDisconnect_fuse n m

end

/-! ## The supply goes: the self-test and the latch stay -/

/-- The self-test and the latch of a port's e-fuse (R331, R332). -/
def PortX.test (p : PortX) : SelfTest × Bool := (p.selfTest, p.latched)

theorem PortX.test_of_fuse {p q : PortX} (h : q.fuse = p.fuse) : q.test = p.test :=
  congrArg (fun x => (x.1, x.2.1)) h

section
variable (s : State) (n m : Nat)

theorem State.modPort_test {g : PortX → PortX} (hg : ∀ p, (g p).test = p.test) :
    ((s.modPort n g).port m).test = (s.port m).test := by
  by_cases h : m = n
  · rw [h, State.port_modPort_self, hg]
  · rw [State.port_modPort_ne _ _ h]

theorem State.modeExit_port : (s.modeExit n).port m = s.port m := by
  apply Only.port
  apply State.modeExit_only (.refl _ _)
  all_goals (intros; exact nofun)

theorem State.wetEnd_port : (s.wetEnd n).port m = s.port m :=
  Only.port (State.wetEnd_only (.refl _ _) n nofun nofun nofun nofun nofun)

theorem State.endContract_test : ((s.endContract n).port m).test = (s.port m).test := by
  unfold State.endContract
  extract_lets s1 s2
  have h2 : s2.port m = s.port m := by
    dsimp only [s2, s1]
    split <;> rfl
  refine (State.modPort_test _ n m fun _ => by rfl).trans ((State.modPort_test _ n m fun _ => by rfl).trans ?_)
  rw [h2]

theorem State.discharge_test : ((s.discharge n).port m).test = (s.port m).test := by
  unfold State.discharge State.vbusGone
  split
  · exact State.modPort_test _ n m fun _ => by rfl
  · extract_lets s1
    have h1 : s1.port m = s.port m := by
      dsimp only [s1]
      split <;> rfl
    rw [State.setK_port]
    exact (State.modPort_test _ n m fun _ => by rfl).trans (congrArg PortX.test h1)

theorem State.pgFall_test : ((s.pgFall n).port m).test = (s.port m).test := by
  unfold State.pgFall
  split
  · exact State.modPort_test _ n m fun _ => by rfl
  · rfl

theorem State.gateOff_test (fast : Bool) : ((s.gateOff n fast).port m).test = (s.port m).test := by
  unfold State.gateOff
  extract_lets s1 s2
  have h1 : s1.port m = s.port m := by
    dsimp only [s1]
    split <;> rfl
  have h2 : (s2.port m).test = (s.port m).test := by
    rw [← h1]
    exact (congrArg PortX.test (State.setC_port _ n m 0)).trans (s1.pgFall_test n m)
  exact (State.modPort_test _ n m fun _ => by rfl).trans h2

theorem PortX.hrStop_test (p : PortX) : p.hrStop.test = p.test := by
  unfold PortX.hrStop
  split <;> rfl

theorem State.unwait_test : ((s.unwait n).port m).test = (s.port m).test :=
  State.modPort_test _ n m fun _ => by rfl

/-- A loss of supply that keeps the attach (R327, R348). -/
theorem State.powerCut_test : ((s.powerCut n).port m).test = (s.port m).test := by
  unfold State.powerCut
  extract_lets s1 s2 s3
  have h1 : (s1.port m).test = (s.port m).test := calc
    (s1.port m).test
    _ = (((((s.gateOff n true).vconnOff n).modeExit n).endContract n).port m).test := State.unwait_test ..
    _ = ((((s.gateOff n true).vconnOff n).modeExit n).port m).test := State.endContract_test ..
    _ = ((s.gateOff n true).port m).test := by rw [State.modeExit_port, State.vconnOff_port]
    _ = (s.port m).test := State.gateOff_test ..
  have h2 : (s2.port m).test = (s.port m).test :=
    (PortX.test_of_fuse (State.vbusLoss_fuse (s1.discharge n) n m)).trans ((s1.discharge_test n m).trans h1)
  have h3 : (s3.port m).test = (s.port m).test := by
    dsimp only [s3]
    rw [State.port_wr, State.modPort_test _ n m PortX.hrStop_test, State.port_wr, h2]
  split
  · rw [State.port_wr, h3]
  · exact h3

theorem State.ccOpen_test : ((s.ccOpen n).port m).test = (s.port m).test := by
  unfold State.ccOpen
  extract_lets s1
  refine (State.modPort_test s1 n m fun _ => by rfl).trans ?_
  rfl

theorem State.dropPower_test : ((s.dropPower n).port m).test = (s.port m).test := by
  unfold State.dropPower
  have hstop (p : PortX) : ({ p.hrStop with ocOff := false } : PortX).test = p.test := p.hrStop_test
  rw [State.modPort_test _ n m hstop, State.unwait_test, State.wetEnd_port, State.ccOpen_test, State.gateOff_test,
    State.vconnOff_port, State.endContract_test, State.modeExit_port]

/-! ## The demand and a port fault -/

theorem State.demandRise_test : ((s.demandRise n).port m).test = (s.port m).test := by
  unfold State.demandRise State.ccOn
  extract_lets s1
  refine (State.modPort_test _ n m fun _ => by rfl).trans ?_
  rw [State.raise_eq_wr, State.port_wr]
  split
  · rfl
  · refine (State.modPort_test _ n m fun _ => by rfl).trans ?_
    rfl

theorem State.demandFall_test : ((s.demandFall n).port m).test = (s.port m).test := by
  unfold State.demandFall
  extract_lets s1
  have h1 : (s1.port m).test = (s.port m).test := by
    dsimp only [s1]
    rw [State.discharge_test, State.clearMark, State.port_wr, State.dropPower_test]
  refine (State.modPort_test _ n m fun _ => by rfl).trans ?_
  rw [State.port_wr, PortX.test_of_fuse (s1.hubDown_fuse n m _), h1]

theorem State.evalDemand_test : ((s.evalDemand n).port m).test = (s.port m).test := by
  have hshow : (s.oosShow n).port m = s.port m := Only.port (State.oosShow_only (.refl _ _) n nofun nofun)
  unfold State.evalDemand
  extract_lets t
  rw [← hshow]
  split
  · rfl
  split
  · exact t.demandRise_test n m
  split
  · split
    · rfl
    · exact t.demandFall_test n m
  · rfl

/-- The action of a port's fault (R378). -/
theorem State.takeAction_prt_test (k sev : Nat) :
    ((s.takeAction (.prt n) k sev).port m).test = (s.port m).test := by
  unfold State.takeAction
  extract_lets latch s1 t1 s2
  have h2 : s2.port m = s.port m := by
    dsimp only [s2]
    split
    · split <;> rfl
    · rfl
  have hpin : (s2.faultPin sev).port m = s2.port m :=
    Only.port (State.faultPin_only (.refl _ _) sev nofun nofun nofun nofun)
  split
  · rfl
  · rw [if_neg nofun]
    exact (State.evalDemand_test (s2.faultPin sev) n m).trans (by rw [hpin, h2])

theorem State.recordOnly_port (b : FBlk) (k : Nat) : (s.recordOnly b k).port m = s.port m := by
  apply Only.port
  apply State.recordOnly_only (.refl _ _)
  all_goals (intros; exact nofun)

/-- The record of a port's fault, with its reaction (R375). -/
theorem State.record_prt_test (k : Nat) : ((s.record (.prt n) k).port m).test = (s.port m).test := by
  unfold State.record
  extract_lets sev s1 s2
  have h1 : s1.port m = s.port m := s.recordOnly_port m _ _
  split
  · rw [h1]
  split
  · exact (s1.takeAction_prt_test n m k sev).trans (by rw [h1])
  split
  · have h2 : s2.port m = s.port m := h1
    split
    · rw [State.port_wr, h2]
    · rw [h2]
  · rw [h1]

end

/-! ## The words that show them -/

section
variable {n : Nat} {g : Field}
  (hg : g.key = (0x10000 + 0x400 * (n % 48) + 0x44) * 32 + 11 ∨ g.key = (0x10000 + 0x400 * (n % 48) + 0x48) * 32 + 7)
include hg

/-- FUSSTS.SENSE and FUSEVT.LATCHED are apart from the port's fault block. -/
theorem FBlk.prt_later {f : Field} {o l w v : Nat} {c : Acc} {b : Bool}
    (hf : f = ⟨(FBlk.prt n).base + o, l, w, c, v, b⟩) : Part.field f.key ≠ Part.field g.key :=
  Part.field_ne hf (by show (0x10100 + 0x400 * (n % 48) + o) * 32 + l ≠ _; omega)

theorem State.evalDemand_sparesLatch (s : State) : Only (· ≠ .field g.key) s (s.evalDemand n) := by
  apply State.evalDemand_only (.refl _ _)
  all_goals (intros; first | exact Part.field_ne rfl (by omega) | exact nofun)

theorem State.takeAction_sparesLatch (s : State) (k sev : Nat) :
    Only (· ≠ .field g.key) s (s.takeAction (.prt n) k sev) := by
  unfold State.takeAction
  extract_lets latch s1 t1 s2
  have k1 : Only (· ≠ .field g.key) s s1 := (Only.refl _ s).modFlt _ _ nofun
  have k2 : Only (· ≠ .field g.key) s s2 := by
    have ht : Only (· ≠ .field g.key) s t1 :=
      (k1.wr _ _ (FBlk.prt_later hg rfl)).raise _ (FBlk.prt_later hg rfl)
    exact .ite (.ite (ht.raise _ (FBlk.prt_later hg rfl)) ht) (k1.wr _ _ (FBlk.prt_later hg rfl))
  have k3 : Only (· ≠ .field g.key) s (s2.faultPin sev) := by
    apply State.faultPin_only k2
    all_goals first | exact Part.field_ne rfl (by omega) | exact nofun
  refine .ite (.refl _ _) ?_
  rw [if_neg nofun]
  exact k3.trans (State.evalDemand_sparesLatch hg _)

theorem State.record_sparesLatch (s : State) (k : Nat) : Only (· ≠ .field g.key) s (s.record (.prt n) k) := by
  unfold State.record
  extract_lets sev s1 s2
  have k1 : Only (· ≠ .field g.key) s s1 := by
    apply State.recordOnly_only (.refl _ _)
    all_goals (intros; first | exact Part.field_ne rfl (by omega) | exact FBlk.prt_later hg rfl | exact nofun)
  have k2 : Only (· ≠ .field g.key) s s2 := k1.modFlt _ _ nofun
  exact .ite k1 (.ite (k1.trans (State.takeAction_sparesLatch hg s1 k sev))
    (.ite (.ite (k2.wr _ _ (FBlk.prt_later hg rfl)) k2) k1))

end

end Sys2Proof.Machine
end

section
/-! PROOFS. The e-fuse: trips, and the events of the gate, power-good, the limit, the self-test and the retry. -/

namespace Sys2Proof.Machine

/-! ## Trips (R326, R327) -/

section
variable {n : Nat}

/-- The gate's loss shows: power-good, GATEON and the gate itself are off. -/
theorem State.gateOff_shows (s : State) (n : Nat) (fast : Bool) :
    (s.gateOff n fast).rd (PRT.FUSSTS.PG n) = 0 ∧ (s.gateOff n fast).rd (PRT.FUSSTS.GATEON n) = 0 := by
  unfold State.gateOff
  extract_lets s1 s2
  let s3 := (((s1.pgFall n).wr (PRT.FUSSTS.GATEON n) 0).wr (PRT.FUSSTS.LIMIT n) 0).wr (PRT.FUSSTS.FOLD n) 0
  have hpg : (s1.pgFall n).rd (PRT.FUSSTS.PG n) = 0 := by
    unfold State.pgFall
    split
    · simp (disch := with_unfolding_all refine Field.key_ne rfl rfl ?_; omega) only
        [State.rd_modPort, State.raise_eq_wr, State.rd_wr_ne, State.rd_wr_self]
      rfl
    · next hoff => simpa using hoff
  have h3 : s3.rd (PRT.FUSSTS.PG n) = 0 ∧ s3.rd (PRT.FUSSTS.GATEON n) = 0 := by
    simp (disch := with_unfolding_all refine Field.key_ne rfl rfl ?_; omega) only [s3, State.rd_wr_ne, State.rd_wr_self]
    exact ⟨hpg, rfl⟩
  obtain ⟨hp, hg⟩ := h3
  have hkeep {g : Field} (hk : (0x10000 * 32) ≤ g.key) : (s3.setC n 0).rd g = s3.rd g := by
    apply Only.rd
    apply State.setC_only (.refl _ _)
    all_goals (intros; exact Part.field_ne rfl (by omega))
  exact ⟨(hkeep (by show _ ≤ (0x10000 + 0x400 * (n % 48) + 0x44) * 32 + 3; omega)).trans hp,
    (hkeep (by show _ ≤ (0x10000 + 0x400 * (n % 48) + 0x44) * 32 + 6; omega)).trans hg⟩

section
variable {g : Field}
  (hg : g.key = (0x10000 + 0x400 * (n % 48) + 0x44) * 32 + 3 ∨ g.key = (0x10000 + 0x400 * (n % 48) + 0x44) * 32 + 6)
include hg

/-- What follows the gate's loss leaves FUSSTS.PG and GATEON alone. -/
theorem State.powerCut_afterGate (s : State) : (s.powerCut n).rd g = (s.gateOff n true).rd g := by
  apply Only.rd
  unfold State.powerCut
  extract_lets s1 s2 s3
  have hexit : Only (· ≠ .field g.key) (s.gateOff n true) (((s.gateOff n true).vconnOff n).modeExit n) := by
    apply State.modeExit_only (State.vconnOff_only (.refl _ _) n nofun _ _)
    all_goals (intros; first | exact Part.field_ne rfl (by omega) | exact nofun)
  have h1 : Only (· ≠ .field g.key) (s.gateOff n true) s1 := by
    apply State.unwait_only
    apply State.endContract_only hexit
    all_goals (first | exact Part.field_ne rfl (by omega) | exact nofun)
  have h2 : Only (· ≠ .field g.key) (s.gateOff n true) s2 := by
    apply State.vbusLoss_only
    apply State.discharge_only h1
    all_goals (intros; first | exact Part.field_ne rfl (by omega) | exact nofun)
  have h3 : Only (· ≠ .field g.key) (s.gateOff n true) s3 := by
    refine ((h2.wr _ _ ?_).modPort _ _ nofun).wr _ _ ?_
    all_goals exact Part.field_ne rfl (by omega)
  exact .ite (h3.wr _ _ (Part.field_ne rfl (by omega))) h3

end

section
variable {g : Field}
  (hg : g.key = (0x10000 + 0x400 * (n % 48) + 0x44) * 32 + 8 ∨ g.key = (0x10000 + 0x400 * (n % 48) + 0x44) * 32 + 12 ∨
    g.key = (0x10000 + 0x400 * (n % 48) + 0x48) * 32 + 0 ∨ g.key = (0x10000 + 0x400 * (n % 48) + 0x0) * 32 + 3)
include hg

/-- A loss of supply leaves the cause, the count of trips, the event and PORT_OVER_CURRENT as shown. -/
theorem State.powerCut_sparesTrip (s : State) : (s.powerCut n).rd g = s.rd g := by
  apply Only.rd
  apply State.powerCut_only (.refl _ _)
  all_goals (intros; first | exact Part.field_ne rfl (by omega) | exact nofun)

end

theorem State.endContract_gate (s : State) (n : Nat) : ((s.endContract n).port n).gate = (s.port n).gate := by
  unfold State.endContract State.pdForget
  extract_lets s1 s2
  have h2 : s2.port n = s.port n := by
    dsimp only [s2, s1]
    split <;> rfl
  rw [State.port_modPort_self, State.port_modPort_self, h2]

theorem PortX.hrStop_gate (p : PortX) : p.hrStop.gate = p.gate := by
  unfold PortX.hrStop
  split <;> rfl

/-- A loss of supply that keeps the attach turns the gate off. -/
theorem State.powerCut_gate (s : State) (n : Nat) : ((s.powerCut n).port n).gate = false := by
  unfold State.powerCut
  extract_lets s1 s2 s3
  have h1 : (s1.port n).gate = false := by
    obtain ⟨hgate, -⟩ := s.gateOff_port n true
    dsimp only [s1]
    rw [State.unwait, State.port_modPort_self, State.port_wr, State.endContract_gate, State.modeExit_port,
      State.vconnOff_port, hgate]
  have h2 : (s2.port n).gate = false := by
    obtain ⟨hgate, -⟩ := s1.discharge_port n
    exact (((Wanes.refl (s1.discharge n)).vbusLoss n).port n).gate.trans (hgate.trans h1)
  have h3 : (s3.port n).gate = false := by
    dsimp only [s3]
    rw [State.port_wr, State.port_modPort_self, PortX.hrStop_gate, State.port_wr, h2]
  split
  · rw [State.port_wr, h3]
  · exact h3

theorem causeBit_key (n c : Nat) : (PRT.FUSEVT.TRIP n).key ≠ (causeBit n c).key := by
  unfold causeBit
  split
  · exact Field.key_ne rfl rfl (by omega)
  split
  · exact Field.key_ne rfl rfl (by omega)
  split
  · exact Field.key_ne rfl rfl (by omega)
  split <;> exact Field.key_ne rfl rfl (by omega)

/-- From `s` to `t` a trip is charged and shown, before the supply is cut. -/
structure Charged (n c : Nat) (s t : State) : Prop where
  trips : t.rd (PRT.FUSSTS.TRIPS n) = min 8 (s.rd (PRT.FUSSTS.TRIPS n) + 1)
  cause : t.rd (PRT.FUSSTS.CAUSE n) = c
  event : t.rd (PRT.FUSEVT.TRIP n) = 1
  overcur : t.rd (PRT.HUBSTS.OVERCUR n) = 1

/-- The cut of the supply and the self-test due make it a trip. -/
theorem Charged.tripped {c : Nat} {s t : State} (h : Charged n c s t) {g : PortX → PortX}
    (hgate : ∀ p, (g p).gate = p.gate) (htest : ∀ p, (g p).selfTest = .due) :
    Tripped n c s ((t.powerCut n).modPort n g) := by
  obtain ⟨htrips, hcause, hevent, hover⟩ := h
  obtain ⟨hpg, hgateon⟩ := t.gateOff_shows n true
  simp only [Tripped, State.rd_modPort, State.port_modPort_self, hgate, htest, State.powerCut_gate]
  refine ⟨?_, ?_, ?_, ?_, ?_, ?_, trivial, trivial⟩
  · exact (State.powerCut_sparesTrip (g := PRT.FUSSTS.TRIPS n) (.inr (.inl rfl)) t).trans htrips
  · exact (State.powerCut_sparesTrip (g := PRT.FUSSTS.CAUSE n) (.inl rfl) t).trans hcause
  · exact (State.powerCut_sparesTrip (g := PRT.FUSEVT.TRIP n) (.inr (.inr (.inl rfl))) t).trans hevent
  · exact (State.powerCut_sparesTrip (g := PRT.HUBSTS.OVERCUR n) (.inr (.inr (.inr rfl))) t).trans hover
  · exact (State.powerCut_afterGate (g := PRT.FUSSTS.PG n) (.inl rfl) t).trans hpg
  · exact (State.powerCut_afterGate (g := PRT.FUSSTS.GATEON n) (.inr rfl) t).trans hgateon

theorem State.hubEvt_overcur (s : State) (n : Nat) : s.hubEvt n 3 =
    (s.raise (PRT.HUBCHG.C_OVERCUR n)).modPort n (fun p => { p with chg := p.chg ||| 2 ^ 3 }) := rfl

/-- A trip, whatever its cause. -/
theorem State.trip_tripped (s : State) (n : Nat) {c : Nat} (hc : c < 8) : Tripped n c s (s.trip n c) := by
  unfold State.trip
  extract_lets s1 s2 s3 hot
  have hcount : min 8 (s.rd (PRT.FUSSTS.TRIPS n) + 1) < 16 := by omega
  have h1 : s1.rd (PRT.FUSEVT.TRIP n) = 1 := by
    have hcause : ((s.raise (PRT.FUSEVT.TRIP n)).raise (causeBit n c)).rd (PRT.FUSEVT.TRIP n) = 1 := by
      rw [State.raise_eq_wr, State.raise_eq_wr, State.rd_wr_ne _ _ (causeBit_key n c), State.rd_wr_self]
      rfl
    exact (State.rd_wr_ne _ _ (Field.key_ne rfl rfl (by omega))).trans hcause
  clear_value s1
  have h2 : Charged n c s ((s2.raise (PRT.HUBSTS.OVERCUR n)).hubEvt n 3) := by
    constructor
    all_goals simp (disch := with_unfolding_all refine Field.key_ne rfl rfl ?_; omega) only
      [State.hubEvt_overcur, s2, State.rd_modPort, State.raise_eq_wr, State.rd_wr_ne, State.rd_wr_self]
    · exact Nat.mod_eq_of_lt hcount
    · exact Nat.mod_eq_of_lt hc
    · exact h1
    · rfl
  exact h2.tripped (fun _ => rfl) (fun _ => rfl)

end

/-- Settles O13: every trip goes through the one charge of R327. -/
theorem tripsComplete : Obligations.TripsComplete := by
  intro n s hgate
  exact ⟨.guarded rfl hgate (s.fresh.trip_tripped n (by decide)), .guarded rfl hgate (s.fresh.trip_tripped n (by decide)),
    .guarded rfl hgate (s.fresh.trip_tripped n (by decide)),
    fun hlimit => .guarded rfl (by simp [hgate, hlimit]) (s.fresh.trip_tripped n (by decide))⟩

end Sys2Proof.Machine
end

section
/-! PROOFS. The events of the e-fuse: the gate, power-good, the limit, the self-test, the retry and the discharge. -/

namespace Sys2Proof.Machine

section
variable {s : State} {n : Nat} {g : Field}

theorem State.setC_sparesPort (s : State) (n c : Nat) (h : 0x10000 * 32 ≤ g.key) : (s.setC n c).rd g = s.rd g := by
  apply Only.rd
  apply State.setC_only (.refl _ _)
  all_goals (intros; exact Part.field_ne rfl (by omega))

theorem State.setK_sparesPort (s : State) (n k : Nat) (h : 0x10000 * 32 ≤ g.key) : (s.setK n k).rd g = s.rd g := by
  apply Only.rd
  apply State.setK_only (.refl _ _)
  all_goals (intros; exact Part.field_ne rfl (by omega))

/-- A loss of VBUS leaves PE0's words alone. -/
theorem State.vbusLoss_sparesPwr (s : State) (n : Nat) (lo : 0x9000 * 32 ≤ g.key) (hi : g.key < 0xA000 * 32) :
    (s.vbusLoss n).rd g = s.rd g := by
  apply Only.rd
  apply State.vbusLoss_only (.refl _ _)
  all_goals (intros; first | exact Part.field_ne rfl (by omega) | exact nofun)

theorem State.tryApply_sparesPwr (s : State) (n : Nat) (hi : g.key < 0xA000 * 32) : (s.tryApply n).rd g = s.rd g :=
  Only.rd (State.tryApply_only (.refl _ _) n nofun (Part.field_ne rfl (by omega)) (Part.field_ne rfl (by omega)))

end

section
variable {n : Fin 48} {s : State}

/-! ## The gate, power-good and the limit (R325, R328, R329) -/

theorem execGateFullyOn_shows (hgate : (s.port n).gate = true) (hoff : s.rd (PRT.FUSSTS.GATEON n) = 0) :
    Completes (.gateFullyOn n) s (fun t => t.rd (PRT.FUSSTS.GATEON n) = 1 ∧
      (t.port n).qual = (s.rd (PRT.FUSSTS.LIMIT n) == 0)) := by
  refine .guarded rfl (by simp [hgate, hoff]) ⟨?_, ?_⟩
  · rw [State.rd_modPort, State.raise_eq_wr, State.rd_wr_self]
    rfl
  · rw [State.port_modPort_self]
    simp [bne]

theorem execPowerGood_shows (hgate : (s.port n).gate = true) (hqual : (s.port n).qual = true)
    (hon : s.rd (PRT.FUSSTS.GATEON n) = 1) (hlimit : s.rd (PRT.FUSSTS.LIMIT n) = 0)
    (hpg : s.rd (PRT.FUSSTS.PG n) = 0) : Completes (.powerGood n) s (fun t => t.rd (PRT.FUSSTS.PG n) = 1 ∧
      t.rd (PRT.FUSEVT.PGON n) = 1 ∧ t.rd (PRT.HUBSTS.OVERCUR n) = 0 ∧ (t.port n).qual = false ∧
      (t.port n).cleanRun = true) := by
  refine .guarded rfl (by simp [hgate, hqual, hon, hlimit, hpg]) ?_
  extract_lets s1 c s2
  have h1 : s1.rd (PRT.FUSSTS.PG n) = 1 ∧ s1.rd (PRT.FUSEVT.PGON n) = 1 ∧ s1.rd (PRT.HUBSTS.OVERCUR n) = 0 := by
    simp (disch := with_unfolding_all refine Field.key_ne rfl rfl ?_; omega) only
      [s1, State.raise_eq_wr, State.rd_wr_ne, State.rd_wr_self]
    exact ⟨rfl, rfl, rfl⟩
  have h2 {g : Field} (h : 0x10000 * 32 ≤ g.key) : s2.rd g = s1.rd g := by
    dsimp only [s2]
    split
    · rw [State.setC_sparesPort _ _ _ h]
    · rw [State.setK_sparesPort _ _ _ h, State.setC_sparesPort _ _ _ h]
  obtain ⟨hp, he, ho⟩ := h1
  clear_value s2
  refine ⟨(h2 ?_).trans hp, (h2 ?_).trans he, (h2 ?_).trans ho, ?_, ?_⟩
  · show _ ≤ (0x10000 + 0x400 * (n.val % 48) + 0x44) * 32 + 3
    omega
  · show _ ≤ (0x10000 + 0x400 * (n.val % 48) + 0x48) * 32 + 9
    omega
  · show _ ≤ (0x10000 + 0x400 * (n.val % 48) + 0x0) * 32 + 3
    omega
  · rw [State.port_modPort_self]
  · rw [State.port_modPort_self]

theorem execPowerGoodFall_shows (hpg : s.rd (PRT.FUSSTS.PG n) = 1) : Completes (.powerGoodFall n) s (fun t =>
    t.rd (PRT.FUSSTS.PG n) = 0 ∧ t.rd (PRT.FUSEVT.PGOFF n) = 1 ∧ (t.port n).cleanRun = false) := by
  refine .guarded rfl (by simp [hpg]) ?_
  have hfall : s.fresh.pgFall n = ((s.fresh.wr (PRT.FUSSTS.PG n) 0).raise (PRT.FUSEVT.PGOFF n)).modPort n
      (fun p => { p with cleanRun := false }) := if_pos (by simp [hpg])
  rw [hfall]
  refine ⟨?_, ?_, by rw [State.port_modPort_self, State.port_modPort_self]⟩
  all_goals
    simp (disch := with_unfolding_all refine Field.key_ne rfl rfl ?_; omega) only
      [State.rd_modPort, State.raise_eq_wr, State.rd_wr_ne, State.rd_wr_self]
    rfl

theorem execLimitEngage_shows (hgate : (s.port n).gate = true) (hlimit : s.rd (PRT.FUSSTS.LIMIT n) = 0) :
    Completes (.limitEngage n) s (fun t => t.rd (PRT.FUSSTS.LIMIT n) = 1 ∧ t.rd (PRT.FUSEVT.LIMITIN n) = 1 ∧
      (t.port n).qual = false) := by
  refine .guarded rfl (by simp [hgate, hlimit]) ?_
  extract_lets s1
  split
  · refine ⟨?_, ?_, by rw [State.port_modPort_self]⟩
    all_goals
      simp (disch := with_unfolding_all refine Field.key_ne rfl rfl ?_; omega) only
        [s1, State.rd_modPort, State.raise_eq_wr, State.rd_wr_ne, State.rd_wr_self]
      rfl
  · next hqual =>
    refine ⟨?_, State.rd_wr_self .., ?_⟩
    · exact (State.rd_wr_ne _ _ (Field.key_ne rfl rfl (by omega))).trans (State.rd_wr_self ..)
    · exact Bool.eq_false_of_not_eq_true hqual

theorem execLimitRelease_shows (hlimit : s.rd (PRT.FUSSTS.LIMIT n) = 1) : Completes (.limitRelease n) s (fun t =>
    t.rd (PRT.FUSSTS.LIMIT n) = 0 ∧ t.rd (PRT.FUSSTS.FOLD n) = 0 ∧
      (t.port n).qual = (s.rd (PRT.FUSSTS.GATEON n) != 0 && s.rd (PRT.FUSSTS.PG n) == 0)) := by
  refine .guarded rfl (by simp [hlimit]) ⟨?_, ?_, ?_⟩
  · simp (disch := with_unfolding_all refine Field.key_ne rfl rfl ?_; omega) only
        [State.rd_modPort, State.rd_wr_ne, State.rd_wr_self]
    rfl
  · rw [State.rd_modPort, State.rd_wr_self]
    rfl
  · rw [State.port_modPort_self]
    simp [bne]

/-! ## The self-test (R331, R332) -/

theorem execSelfTestStart_runs (hdue : (s.port n).selfTest = .due) :
    Completes (.selfTestStart n) s (fun t => (t.port n).selfTest = .running) :=
  .guarded rfl (by rw [hdue]; rfl) (by rw [State.port_modPort_self])

/-- A pass within the budget starts the retry wait. -/
theorem execSelfTestComplete_waits (hrun : (s.port n).selfTest = .running)
    (hbudget : s.rd (PRT.FUSSTS.TRIPS n) ≤ s.rd (PRT.FUSCFG.RETRY n)) : Completes (.selfTestComplete n true) s (fun t =>
      (t.port n).selfTest = .none ∧
        (t.port n).waitLen = min 120 (s.rd (PRT.FUSCFG.RWAIT n) * 2 ^ (s.rd (PRT.FUSSTS.TRIPS n) - 1))) := by
  refine .guarded rfl (by rw [hrun]; rfl) ?_
  extract_lets s1 k s2
  rw [if_neg (by decide), if_neg (by rw [hrun]; decide), if_pos hbudget]
  rw [State.port_modPort_self, State.port_modPort_self]
  exact ⟨rfl, rfl⟩

theorem PortX.test_eq_iff {p : PortX} {x : SelfTest} {b : Bool} : p.test = (x, b) ↔ p.selfTest = x ∧ p.latched = b :=
  Prod.mk_inj

/-- The latch with SENSE (R331). -/
theorem State.senseLatch_shows {n : Nat} (s : State) (h : (s.port n).selfTest = .none) :
    ((((s.raise (PRT.FUSSTS.SENSE n)).raise (PRT.FUSEVT.SENSEFLT n)).latchOff n).port n).test = (.none, true) ∧
      (((s.raise (PRT.FUSSTS.SENSE n)).raise (PRT.FUSEVT.SENSEFLT n)).latchOff n).rd (PRT.FUSSTS.SENSE n) = 1 ∧
      (((s.raise (PRT.FUSSTS.SENSE n)).raise (PRT.FUSEVT.SENSEFLT n)).latchOff n).rd (PRT.FUSEVT.LATCHED n) = 1 := by
  refine ⟨?_, ?_, ?_⟩
  · unfold State.latchOff
    rw [State.port_modPort_self]
    exact PortX.test_eq_iff.mpr ⟨h, rfl⟩
  all_goals
    simp (disch := with_unfolding_all refine Field.key_ne rfl rfl ?_; omega) only
      [State.latchOff, State.rd_modPort, State.raise_eq_wr, State.rd_wr_ne, State.rd_wr_self]
    rfl

/-- A failure latches the port off with SENSE. -/
theorem execSelfTestComplete_latches (hrun : (s.port n).selfTest = .running) :
    Completes (.selfTestComplete n false) s (fun t => (t.port n).selfTest = .none ∧ t.rd (PRT.FUSSTS.SENSE n) = 1 ∧
      t.rd (PRT.FUSEVT.LATCHED n) = 1 ∧ (t.port n).latched = true) := by
  refine .guarded rfl (by rw [hrun]; rfl) ?_
  extract_lets s1 k s2
  rw [if_pos (by decide)]
  have h1 : (s1.port n).selfTest = .none := by rw [State.port_modPort_self]
  have h2 : (s2.port n).selfTest = .none := by
    refine Eq.trans (congrArg Prod.fst (?_ : (s2.port n).test = (s1.port n).test)) h1
    dsimp only [s2]
    split
    · exact s1.powerCut_test n n
    · rfl
  clear_value s2
  obtain ⟨htest, hsense, hlatched⟩ := s2.senseLatch_shows h2
  generalize ((s2.raise (PRT.FUSSTS.SENSE n)).raise (PRT.FUSEVT.SENSEFLT n)).latchOff n = s3 at htest hsense hlatched
  obtain ⟨hnone, hlatch⟩ := PortX.test_eq_iff.mp ((s3.record_prt_test n n 1).trans htest)
  exact ⟨hnone, (Only.rd (State.record_sparesLatch (g := PRT.FUSSTS.SENSE n) (.inl rfl) s3 1)).trans hsense,
    (Only.rd (State.record_sparesLatch (g := PRT.FUSEVT.LATCHED n) (.inr rfl) s3 1)).trans hlatched, hlatch⟩

/-! ## The retry, the clean run and the ramp (R319, R332, R334) -/

/-- The way back to vSafe5V leaves the retry wait as it is. -/
theorem State.tryApply_port (s : State) (n : Nat) : ((s.tryApply n).port n).waitRun = (s.port n).waitRun ∧
    ((s.tryApply n).port n).fuse = (s.port n).fuse := by
  unfold State.tryApply
  split
  · split
    · rw [State.port_modPort_self]
      exact ⟨rfl, rfl⟩
    · rw [State.port_modPort_self]
      exact ⟨rfl, rfl⟩
  · exact ⟨rfl, rfl⟩

theorem execRetryWaitEnd_ends (hwait : (s.port n).waitRun = true) (hruns : s.runs 9 = true) :
    Completes (.retryWaitEnd n) s (fun t => (t.port n).waitRun = false) := by
  refine .guarded rfl (by rw [hwait, hruns]; rfl) ?_
  obtain ⟨hkeep, -⟩ := (s.fresh.modPort n (fun p => { p with waitRun := false })).tryApply_port n
  rw [hkeep, State.port_modPort_self]

theorem execCleanPowerGood_restores (hpg : s.rd (PRT.FUSSTS.PG n) = 1) (hclean : (s.port n).cleanRun = true)
    (htrips : s.rd (PRT.FUSSTS.TRIPS n) ≠ 0) (hruns : s.runs 9 = true) : Completes (.cleanPowerGood n) s (fun t =>
      t.rd (PRT.FUSSTS.TRIPS n) = 0 ∧ t.rd (PRT.FUSEVT.CLEAN n) = 1) := by
  refine .guarded rfl (by simp [hpg, hclean, htrips, hruns]) ⟨?_, ?_⟩
  all_goals
    simp (disch := with_unfolding_all refine Field.key_ne rfl rfl ?_; omega) only
      [State.rd_modPort, State.raise_eq_wr, State.rd_wr_ne, State.rd_wr_self]
    rfl

theorem execRampEnd_trims (hramp : (s.port n).ramp = true) :
    Completes (.rampEnd n) s (fun t => (t.port n).ramp = false ∧ (t.port n).trimRun = true) := by
  refine .guarded rfl hramp ?_
  extract_lets s1
  have h1 : (s1.port n).ramp = false ∧ (s1.port n).trimRun = true := by
    dsimp only [s1]
    rw [State.port_modPort_self]
    exact ⟨rfl, rfl⟩
  split <;> exact h1

/-! ## The discharge (R345) -/

/-- VBUS is below 0.8 V: its discharge has ended, and what was committed is released. -/
theorem State.vbusGone_shows (s : State) (n : Nat) : ((s.vbusGone n).port n).vbus = false ∧
    ((s.vbusGone n).port n).dsch = false ∧ (s.runs 8 = true → (s.vbusGone n).rd (PWR.PBOOK.COMMIT n) = 0) := by
  unfold State.vbusGone
  extract_lets s1
  refine ⟨?_, ?_, fun hruns => ?_⟩
  · rw [State.setK_port, State.port_modPort_self]
  · rw [State.setK_port, State.port_modPort_self]
  · have hruns1 : (s1.modPort n (fun p => { p with vbus := false, dsch := false })).runs 8 = true := by
      dsimp only [s1]
      split <;> exact hruns
    exact State.setK_kOf hruns1 0

theorem execVbusDischarged_releases (hdsch : (s.port n).dsch = true) (hgate : (s.port n).gate = false) :
    Completes (.vbusDischarged n) s (fun t => (t.port n).vbus = false ∧ (t.port n).dsch = false ∧
      (s.runs 8 = true → t.rd (PWR.PBOOK.COMMIT n) = 0)) := by
  refine .guarded rfl (by rw [hdsch, hgate]; rfl) ?_
  extract_lets s1
  obtain ⟨hvbus, hoff, hk⟩ := s.fresh.vbusGone_shows n
  have hfuse {t : State} (h : (t.port n).fuse = (s1.port n).fuse) (hc : t.rd (PWR.PBOOK.COMMIT n) = s1.rd (PWR.PBOOK.COMMIT n)) :
      (t.port n).vbus = false ∧ (t.port n).dsch = false ∧ (s.runs 8 = true → t.rd (PWR.PBOOK.COMMIT n) = 0) :=
    ⟨(congrArg (fun x => x.2.2.1) h).trans hvbus, (congrArg (fun x => x.2.2.2) h).trans hoff,
      fun hr => hc.trans (hk hr)⟩
  clear_value s1
  split
  · have h2 := s1.modPort_fuse n n (g := fun p => { p with hr := .recover }) fun _ => by rfl
    have hk2 := s1.rd_modPort n (fun p => { p with hr := .recover }) (PWR.PBOOK.COMMIT n)
    generalize s1.modPort n (fun p => { p with hr := .recover }) = s2 at h2 hk2
    refine hfuse ((s2.vbusLoss_fuse n n).trans h2) (Eq.trans ?_ hk2)
    refine State.vbusLoss_sparesPwr s2 n ?_ ?_
    · show _ ≤ (0x9000 + 0x300 + 4 * (n.val % 48)) * 32 + 0
      omega
    · show (0x9000 + 0x300 + 4 * (n.val % 48)) * 32 + 0 < _
      omega
  · obtain ⟨-, happly⟩ := s1.tryApply_port n
    refine hfuse happly (State.tryApply_sparesPwr s1 n ?_)
    show (0x9000 + 0x300 + 4 * (n.val % 48)) * 32 + 0 < _
    omega

end

/-- Settles O12: each event of the e-fuse with what it shows. -/
theorem fuseEventsComplete : Obligations.FuseEventsComplete := by
  intro n s
  exact ⟨execGateFullyOn_shows, execPowerGood_shows, execPowerGoodFall_shows, execLimitEngage_shows,
    execLimitRelease_shows, execSelfTestStart_runs, execSelfTestComplete_waits, execSelfTestComplete_latches,
    execRetryWaitEnd_ends, execCleanPowerGood_restores, execRampEnd_trims, execVbusDischarged_releases⟩

end Sys2Proof.Machine
end

section
/-! PROOFS. The words POOL, QCAP and PCFG of the power budget. -/

namespace Sys2Proof.Machine

/-! ## The words of PE0 -/

section
variable {o : Nat} (u : State) (r : Requester) (v : Nat)

theorem blockOf_pwr (ho : o < 0x1000) : blockOf (0x9000 + o) = some (.pwr, o) := by
  simp (disch := omega) only [blockOf, if_neg, if_pos, Nat.add_sub_cancel_left]

theorem faultWord_pwr (ho : o < 0x100 ∨ 0x118 ≤ o) (hlt : o < 0x1000) : faultWord (0x9000 + o) = none := by
  refine faultWord_eq_none fun b => ?_
  cases b <;> simp only [FBlk.base] <;> omega

theorem wordFields_pwr (ho : o < 0x1000) : wordFields (0x9000 + o) = PWR.fields o := by
  simp only [wordFields, blockOf_pwr ho, Blk.fields]

theorem readOnlyWord_pwr (ho : o < 0x1000) : readOnlyWord (0x9000 + o) = false := by
  simp only [readOnlyWord, Bool.or_eq_false_iff, beq_eq_false_iff_ne]
  omega

theorem State.storeWord_pool : u.storeWord 0x9004 v = u.wr PWR.POOL.POOL (inWord v PWR.POOL.POOL) := by
  rfl

theorem State.storeWord_qcap (q : Fin 12) : u.storeWord (0x9040 + 4 * q) v =
    (u.wr (PWR.QCAP.CAP q) (inWord v (PWR.QCAP.CAP q))).wr (PWR.QCAP.FAILCAP q) (inWord v (PWR.QCAP.FAILCAP q)) := by
  have ha : 0x9040 + 4 * q.val = 0x9000 + (0x40 + 4 * q) := by omega
  have hq : (0x40 + 4 * q.val - 0x40) / 4 = q := by omega
  simp (disch := omega) only [State.storeWord, ha, readOnlyWord_pwr, wordFields_pwr, PWR.fields, if_neg, if_pos, hq]
  rfl

theorem State.storeWord_pcfg (n : Fin 48) : u.storeWord (0x9200 + 4 * n) v =
    (u.wr (PWR.PCFG.PRIO n) (inWord v (PWR.PCFG.PRIO n))).wr (PWR.PCFG.PMAX n) (inWord v (PWR.PCFG.PMAX n)) := by
  have ha : 0x9200 + 4 * n.val = 0x9000 + (0x200 + 4 * n) := by omega
  have hn : (0x200 + 4 * n.val - 0x200) / 4 = n := by omega
  simp (disch := omega) only [State.storeWord, ha, readOnlyWord_pwr, wordFields_pwr, PWR.fields, if_neg, if_pos, hn]
  rfl

/-- While the part runs the effect of a committed word is immediate. -/
theorem State.commitWord_running (a : Nat) (test : Option Bool) (hrun : u.phase = .running) :
    u.commitWord r a v test = (u.storeWord a v).wordEffect r a v (u.liveWord a) test := by
  simp [State.commitWord, hrun]

theorem State.wordEffect_pool (old : Nat) : u.wordEffect r 0x9004 v old none = u.poolEffect := by
  have hf : faultWord 0x9004 = none := faultWord_pwr (o := 4) (by omega) (by omega)
  have hb : blockOf 0x9004 = some (.pwr, 4) := blockOf_pwr (o := 4) (by omega)
  simp only [State.wordEffect, hf, hb, if_pos]

theorem State.wordEffect_qcap (q : Fin 12) (old : Nat) :
    u.wordEffect r (0x9040 + 4 * q) v old none = u.qcapEffect q := by
  have ha : 0x9040 + 4 * q.val = 0x9000 + (0x40 + 4 * q) := by omega
  have hq : (0x40 + 4 * q.val - 0x40) / 4 = q := by omega
  simp (disch := omega) only [State.wordEffect, ha, faultWord_pwr, blockOf_pwr, if_neg, if_pos, hq]

theorem State.wordEffect_pcfg (n : Fin 48) (old : Nat) :
    u.wordEffect r (0x9200 + 4 * n) v old none = u.pcfgEffect n := by
  have ha : 0x9200 + 4 * n.val = 0x9000 + (0x200 + 4 * n) := by omega
  have hn : (0x200 + 4 * n.val - 0x200) / 4 = n := by omega
  simp (disch := omega) only [State.wordEffect, ha, faultWord_pwr, blockOf_pwr, if_neg, if_pos, hn]

end

/-- An accepted write of a word while the part runs completes with E_OK, the word stored and its effect done. -/
theorem Completes.runWord {c : Sys2Proof.Instr} {r : Requester} {a v : Nat} {s : State} {P : State → Prop}
    (he : exec c s = s.write1 r a v none) (ha : a < 0x400000) (hrun : s.phase = .running) (hacc : Accepts r a v s)
    (h : P (((s.fresh.storeWord a v).wordEffect r a v (s.fresh.liveWord a) none).setResult r 0)) :
    Completes c s (fun t => ResultOk r t ∧ P t) := by
  refine State.write1_accepted none he hacc ha fun hok => ?_
  rw [State.commitWord_running s.fresh r v a none hrun] at hok ⊢
  exact ⟨hok, h⟩

/-! ## What the effects leave, and the trigger of shedding (R342, R351) -/

section
variable (s u : State)

/-- A word of PE0 below its bookkeeping leaves the committed power of every port. -/
theorem State.kOf_wr {f : Field} {v : Nat} (hf : f.key < 0x9300 * 32) : (s.wr f v).kOf = s.kOf := by
  funext m
  refine State.rd_wr_ne s v (Nat.ne_of_gt (hf.trans_le ?_))
  show _ ≤ (0x9000 + 0x300 + 4 * (m % 48)) * 32 + 0
  omega

theorem State.kAll_wr {f : Field} {v : Nat} (hf : f.key < 0x9300 * 32) : (s.wr f v).kAll = s.kAll := by
  rw [State.kAll, State.kAll, State.kOf_wr s hf]

theorem State.kQuad_wr {f : Field} {v : Nat} (q : Nat) (hf : f.key < 0x9300 * 32) :
    (s.wr f v).kQuad q = s.kQuad q := by
  rw [State.kQuad, State.kQuad, State.kOf_wr s hf]

theorem PWR.POOL.POOL_below : PWR.POOL.POOL.key < 0x9300 * 32 := by decide

/-- The settings POOL and QCAP stand below the books of PE0 and outside its events. -/
theorem State.poolEffect_keepsPool {g : Field} (hg : g.key = 0x9004 * 32) : u.poolEffect.rd g = u.rd g := by
  apply Only.rd
  apply State.poolEffect_only (.refl _ _)
  all_goals (intros; first | exact Part.field_ne rfl (by omega) | exact nofun)

theorem State.qcapEffect_keepsSettings {g : Field} (q : Nat) (lo : 0x9040 * 32 ≤ g.key) (hi : g.key < 0x9070 * 32) :
    (u.qcapEffect q).rd g = u.rd g := by
  apply Only.rd
  apply State.qcapEffect_only (.refl _ _)
  all_goals (intros; first | exact Part.field_ne rfl (by omega) | exact nofun)

theorem State.pcfgEffect_keepsSettings {g : Field} (n : Nat) (lo : 0x9200 * 32 ≤ g.key) (hi : g.key < 0x92C0 * 32) :
    (u.pcfgEffect n).rd g = u.rd g := by
  apply Only.rd
  apply State.pcfgEffect_only (.refl _ _)
  all_goals (intros; first | exact Part.field_ne rfl (by omega) | exact nofun)

theorem State.poolEffect_triggers (h8 : u.runs 8 = true) (h : u.rd PWR.POOL.POOL < u.kAll) :
    u.poolEffect = { u with poolTrig := true, shedDue := true } := by
  simp [State.poolEffect, h8, h]

theorem State.qcapEffect_triggers (q : Nat) (h8 : u.runs 8 = true) (h : u.rd (PWR.QCAP.CAP q) < u.kQuad q) :
    u.qcapEffect q = { u.modQuad q (fun x => { x with capTrig := true }) with shedDue := true } := by
  simp [State.qcapEffect, h8, h]

end

section
variable {s : State} {r : Requester} {w : Word}

theorem poolWrite_completes (hrun : s.phase = .running) (hacc : Accepts r 0x9004 w.toNat s) :
    Completes (.poolWrite r w) s (fun t => ResultOk r t ∧ t.rd PWR.POOL.POOL = inWord w.toNat PWR.POOL.POOL ∧
      (s.runs 8 = true → inWord w.toNat PWR.POOL.POOL < s.kAll → t.poolTrig = true ∧ t.shedDue = true)) := by
  refine .runWord rfl (by decide) hrun hacc ?_
  rw [State.wordEffect_pool, State.storeWord_pool]
  generalize hu : State.wr _ PWR.POOL.POOL _ = u
  have hpool : u.rd PWR.POOL.POOL = inWord w.toNat PWR.POOL.POOL := by
    rw [← hu, State.rd_wr_self, inWord_mod_width]
  refine ⟨?_, fun h8 hlow => ?_⟩
  · rw [State.rd_setResult _ _ _ _, State.poolEffect_keepsPool u rfl, hpool]
  · have hall : u.kAll = s.kAll := by
      rw [← hu, State.kAll_wr _ PWR.POOL.POOL_below]
      rfl
    have h8u : u.runs 8 = true := by rw [← hu]; exact h8
    rw [State.poolEffect_triggers u h8u (by rw [hpool, hall]; exact hlow)]
    cases r <;> exact ⟨rfl, rfl⟩

theorem qcapWrite_completes {q : Fin 12} (hrun : s.phase = .running) (hacc : Accepts r (0x9040 + 4 * q) w.toNat s) :
    Completes (.qcapWrite r q w) s (fun t => ResultOk r t ∧
      t.rd (PWR.QCAP.CAP q) = inWord w.toNat (PWR.QCAP.CAP q) ∧
      t.rd (PWR.QCAP.FAILCAP q) = inWord w.toNat (PWR.QCAP.FAILCAP q) ∧
      (s.runs 8 = true → inWord w.toNat (PWR.QCAP.CAP q) < s.kQuad q → (t.quad q).capTrig = true ∧ t.shedDue = true)) := by
  have hk : (PWR.QCAP.CAP q).key = (0x9040 + 4 * (q % 12)) * 32 + 0 := rfl
  have hk' : (PWR.QCAP.FAILCAP q).key = (0x9040 + 4 * (q % 12)) * 32 + 16 := rfl
  refine .runWord rfl (by omega) hrun hacc ?_
  rw [State.wordEffect_qcap, State.storeWord_qcap]
  generalize hu : State.wr _ (PWR.QCAP.FAILCAP q) _ = u
  have hcap : u.rd (PWR.QCAP.CAP q) = inWord w.toNat (PWR.QCAP.CAP q) := by
    rw [← hu, State.rd_wr_ne _ _ (by omega), State.rd_wr_self, inWord_mod_width]
  have hfail : u.rd (PWR.QCAP.FAILCAP q) = inWord w.toNat (PWR.QCAP.FAILCAP q) := by
    rw [← hu, State.rd_wr_self, inWord_mod_width]
  refine ⟨?_, ?_, fun h8 hlow => ?_⟩
  · rw [State.rd_setResult _ _ _ _, State.qcapEffect_keepsSettings u q (by omega) (by omega), hcap]
  · rw [State.rd_setResult _ _ _ _, State.qcapEffect_keepsSettings u q (by omega) (by omega), hfail]
  · have hquad : u.kQuad q = s.kQuad q := by
      rw [← hu, State.kQuad_wr _ _ (by omega), State.kQuad_wr _ _ (by omega)]
      rfl
    have h8u : u.runs 8 = true := by rw [← hu]; exact h8
    rw [State.qcapEffect_triggers u q h8u (by rw [hcap, hquad]; exact hlow)]
    have htrig : (u.modQuad q (fun x => { x with capTrig := true })).quad q = { u.quad q with capTrig := true } :=
      State.quad_modQuad_self _ _ _
    cases r <;> exact ⟨congrArg QuadX.capTrig htrig, rfl⟩

theorem pcfgWrite_completes {n : Fin 48} (hrun : s.phase = .running) (hacc : Accepts r (0x9200 + 4 * n) w.toNat s) :
    Completes (.pcfgWrite r n w) s (fun t => ResultOk r t ∧
      t.rd (PWR.PCFG.PMAX n) = inWord w.toNat (PWR.PCFG.PMAX n) ∧
      t.rd (PWR.PCFG.PRIO n) = inWord w.toNat (PWR.PCFG.PRIO n)) := by
  have hk : (PWR.PCFG.PRIO n).key = (0x9200 + 4 * (n % 48)) * 32 + 0 := rfl
  have hk' : (PWR.PCFG.PMAX n).key = (0x9200 + 4 * (n % 48)) * 32 + 16 := rfl
  refine .runWord rfl (by omega) hrun hacc ?_
  rw [State.wordEffect_pcfg, State.storeWord_pcfg, State.rd_setResult _ _ _ _, State.rd_setResult _ _ _ _,
    State.pcfgEffect_keepsSettings _ n (by omega) (by omega), State.pcfgEffect_keepsSettings _ n (by omega) (by omega)]
  refine ⟨?_, ?_⟩
  · rw [State.rd_wr_self, inWord_mod_width]
  · rw [State.rd_wr_ne _ _ (by omega), State.rd_wr_self, inWord_mod_width]

end

/-- Settles O41: the words stand outside what their effects change, and a total above the new limit is the trigger. -/
theorem budgetWritesComplete : Obligations.BudgetWritesComplete := by
  intro r q n w s hrun
  exact ⟨poolWrite_completes hrun, qcapWrite_completes hrun, pcfgWrite_completes hrun⟩

end Sys2Proof.Machine
end

section
/-! PROOFS. The bound of the current limit. -/

namespace Sys2Proof.Machine

/-! ## What the word FUSCFG is refused (R113, R324) -/

section
variable {s : State} {r : Requester} {n : Fin 48} {v : Nat}

theorem wordFields_fuscfg (n : Fin 48) : wordFields (0x10000 + 0x400 * n + 0x40) = [PRT.FUSCFG.ILIM n,
    PRT.FUSCFG.FTIME n, PRT.FUSCFG.RETRY n, PRT.FUSCFG.RWAIT n, PRT.FUSCFG.PGQ n, PRT.FUSCFG.REARM n] :=
  wordFields_prt n (by decide)

/-- A written word that gives every other field of FUSCFG its present value and no command. -/
structure AltersIlimAlone (n v : Nat) (s : State) : Prop where
  ftime : inWord v (PRT.FUSCFG.FTIME n) = s.rd (PRT.FUSCFG.FTIME n)
  rwait : inWord v (PRT.FUSCFG.RWAIT n) = s.rd (PRT.FUSCFG.RWAIT n)
  pgq : inWord v (PRT.FUSCFG.PGQ n) = s.rd (PRT.FUSCFG.PGQ n)
  rearm : inWord v (PRT.FUSCFG.REARM n) = 0

theorem AltersIlimAlone.of_word (h : ∀ f ∈ wordFields (0x10000 + 0x400 * n + 0x40), f ≠ PRT.FUSCFG.ILIM n →
    (f.writable = true → inWord v f = s.rd f) ∧ (f.acc = .w1p → inWord v f = 0)) : AltersIlimAlone n v s := by
  have other {f : Field} (hf : f ∈ wordFields (0x10000 + 0x400 * n + 0x40)) (hlo : f.lo ≠ 0) :=
    h f hf fun he => hlo (congrArg Field.lo he)
  rw [wordFields_fuscfg] at other
  exact ⟨(other (by simp) (by decide : 10 ≠ 0)).1 rfl, (other (by simp) (by decide : 22 ≠ 0)).1 rfl,
    (other (by simp) (by decide : 26 ≠ 0)).1 rfl, (other (by simp) (by decide : 29 ≠ 0)).2 rfl⟩

/-- The values of ILIM that a write is refused (R324). -/
def State.badIlim (s : State) (n x : Nat) : Bool := outside 10 600 x || decide (7000000 < x * s.rsense n)

theorem State.changesTo_same {f : Field} (bad : Nat → Bool) (h : inWord v f = s.rd f) : s.changesTo v f bad = false := by
  simp [State.changesTo, State.changes, h]

/-- With ILIM alone altered, FUSCFG is refused for ILIM alone. -/
theorem State.judgePrt_ilim (free locked : Bool) (h : AltersIlimAlone n v s) :
    s.judgePrt r free locked n 0x40 v = codeIf (s.changesTo v (PRT.FUSCFG.ILIM n) (s.badIlim n)) 4 := by
  obtain ⟨hftime, hrwait, hpgq, hrearm⟩ := h
  have hpulse : pulses v (PRT.FUSCFG.REARM n) = false := by simp [pulses, hrearm]
  simp [State.judgePrt, hpulse, State.changesTo_same, hftime, hrwait, hpgq, codeIf]
  rfl

/-- The code of such a write by a requester that reaches the word, in Active, with the port on and not frozen. -/
theorem State.writeCode_ilim (hrun : s.phase = .running)
    (hreach : s.inReach r (.word (0x10000 + 0x400 * n + 0x40) none) true = true)
    (hon : s.isOff (0x10000 + 0x400 * n + 0x40) = false) (hopen : s.frozen (.prt n) = false)
    (hknown : v &&& packFields (wordFields (0x10000 + 0x400 * n + 0x40)) (fun f => 2 ^ f.width - 1) = v)
    (h : AltersIlimAlone n v s) : s.writeCode s r (placeOf (0x10000 + 0x400 * n + 0x40)) v =
      if s.changesTo v (PRT.FUSCFG.ILIM n) (s.badIlim n) then 4 else 0 := by
  have hne : (wordFields (0x10000 + 0x400 * n + 0x40)).isEmpty = false := by rw [wordFields_fuscfg]; rfl
  have hawake : s.duskBarred (0x10000 + 0x400 * n + 0x40) v = false := by simp [State.duskBarred, hrun]
  have hblock : s.judgeBlock s r (0x10000 + 0x400 * n + 0x40) v =
      codeIf (s.changesTo v (PRT.FUSCFG.ILIM n) (s.badIlim n)) 4 := by
    simp only [State.judgeBlock, faultWord_prt n (o := 0x40) (by decide), blockOf_prt n (o := 0x40) (by decide)]
    exact State.judgePrt_ilim _ _ h
  have hcodes : s.wordCodes s r (0x10000 + 0x400 * n + 0x40) v =
      codeIf (s.changesTo v (PRT.FUSCFG.ILIM n) (s.badIlim n)) 4 := by
    simp [State.wordCodes, hne, readOnlyWord_prt, blockOf_prt n (o := 0x40) (by decide), hopen, hon, hawake, hknown,
      codeIf, hblock]
  rw [placeOf_word (by omega)]
  unfold State.writeCode
  rw [hreach, Bool.not_true, if_neg Bool.false_ne_true]
  simp only [hcodes]
  split
  next hbad => rw [hbad]; rfl
  next hgood => rw [Bool.eq_false_of_not_eq_true hgood]; rfl

/-! ## What a write of FUSCFG that is no command stores -/

/-- The measured limit follows the setting, which it leaves. -/
theorem State.setIset_keepsIlim (u : State) (n m : Nat) :
    (u.setIset n).rd (PRT.FUSCFG.ILIM m) = u.rd (PRT.FUSCFG.ILIM m) := by
  apply Only.rd
  apply State.setIset_only (.refl _ _)
  exact Part.fields_ne rfl rfl (by omega)

theorem State.storeWord_ilim (u : State) (n : Fin 48) (v : Nat) :
    (u.storeWord (0x10000 + 0x400 * n + 0x40) v).rd (PRT.FUSCFG.ILIM n) = inWord v (PRT.FUSCFG.ILIM n) := by
  simp only [State.storeWord, readOnlyWord_prt, wordFields_fuscfg]
  change (((((u.wr (PRT.FUSCFG.ILIM n) (inWord v (PRT.FUSCFG.ILIM n))).wr (PRT.FUSCFG.FTIME n)
    (inWord v (PRT.FUSCFG.FTIME n))).wr (PRT.FUSCFG.RETRY n) (inWord v (PRT.FUSCFG.RETRY n))).wr (PRT.FUSCFG.RWAIT n)
    (inWord v (PRT.FUSCFG.RWAIT n))).wr (PRT.FUSCFG.PGQ n) (inWord v (PRT.FUSCFG.PGQ n))).rd (PRT.FUSCFG.ILIM n) = _
  simp (disch := with_unfolding_all refine Field.key_ne rfl rfl ?_; omega) only [State.rd_wr_ne, State.rd_wr_self,
    inWord_mod_width]

theorem State.prtEffect_fuscfg (u : State) (n old : Nat) (hrearm : inWord v (PRT.FUSCFG.REARM n) = 0) :
    (u.prtEffect r n 0x40 v old).rd (PRT.FUSCFG.ILIM n) = u.rd (PRT.FUSCFG.ILIM n) := by
  have hpulse : ¬pulses v (PRT.FUSCFG.REARM n) = true := by simp [pulses, hrearm]
  have he : u.prtEffect r n 0x40 v old = if (u.port n).gate then u.setIset n else u := if_neg hpulse
  rw [he]
  split
  · exact u.setIset_keepsIlim n n
  · rfl

end

/-! ## The bound (R324) -/

theorem State.rsense_identified {s : State} {n : Nat} {id : Ident} {p : PortIdent}
    (hid : (s.quad (quadOf n)).ident = some id) (hp : id.ports[n % 4]? = some p) : s.rsense n = p.rsense := by
  simp [State.rsense, hid, hp]

theorem State.rsense_unidentified {s : State} {n : Nat} (hid : (s.quad (quadOf n)).ident = none) :
    s.rsense n = 15000 := by
  simp [State.rsense, hid]

theorem State.reset_ilim (n : Fin 48) : State.reset.rd (PRT.FUSCFG.ILIM n) = 385 := by
  rfl

/-- Settles O10: with ILIM alone altered the only check that can fail is the one of its range. -/
theorem currentLimitIsBounded : Obligations.CurrentLimitIsBounded := by
  intro r n addr w id p s
  refine ⟨?_, ?_, State.rsense_identified, State.rsense_unidentified, fun x hx => by omega, by decide, State.reset_ilim n⟩
  · intro hrun hsend haddr hreach hon hopen hothers hknown hchange hbad
    have ha : addr.toNat = 0x10000 + 0x400 * n + 0x40 := by omega
    rw [ha] at hreach hon hothers hknown
    have hrefused : s.changesTo w.toNat (PRT.FUSCFG.ILIM n) (s.badIlim n) = true := by
      have hout : s.badIlim n (inWord w.toNat (PRT.FUSCFG.ILIM n)) = true := by
        simpa [State.badIlim, outside, or_assoc] using hbad
      have hwrite : (PRT.FUSCFG.ILIM n).writable = true := rfl
      simp [State.changesTo, State.changes, hchange, hout, hwrite]
    have hcode : s.fresh.write1Code r addr.toNat w.toNat = 4 := by
      rw [State.write1Code, if_pos (by omega), ha]
      exact (State.writeCode_ilim (s := s.fresh) hrun hreach hon hopen hknown (.of_word hothers)).trans (if_pos hrefused)
    exact State.write1_refused none rfl (by omega) hsend hcode (by decide) nofun
  · intro hrun hsend haddr hreach hon hopen hothers hknown hlow hhigh hdrop
    have ha : addr.toNat = 0x10000 + 0x400 * n + 0x40 := by omega
    rw [ha] at hreach hon hothers hknown
    have hin : s.badIlim n (inWord w.toNat (PRT.FUSCFG.ILIM n)) = false := by
      simp [State.badIlim, outside]
      omega
    have hkept : s.changesTo w.toNat (PRT.FUSCFG.ILIM n) (s.badIlim n) = false := by simp [State.changesTo, hin]
    have halone : AltersIlimAlone n w.toNat s.fresh := .of_word hothers
    have hcode : s.fresh.writeCode s.fresh r (placeOf addr.toNat) w.toNat = 0 := by
      rw [ha]
      exact (State.writeCode_ilim (s := s.fresh) hrun hreach hon hopen hknown halone).trans (if_neg (by
        rw [show s.fresh.changesTo _ _ (s.fresh.badIlim n) = false from hkept]; exact Bool.false_ne_true))
    have hacc : Accepts r addr.toNat w.toNat s := ⟨hsend, by omega, by omega, hcode⟩
    refine State.write1_accepted none rfl hacc (by omega) fun _ => ⟨State.resultIs_setResult _ r 0, ?_⟩
    rw [State.rd_setResult _ _ _ _, ha, State.commitWord_prt s.fresh r n _ hrun (by decide),
      State.prtEffect_fuscfg _ n _ halone.rearm, State.storeWord_ilim]

end Sys2Proof.Machine
end

section
/-! PROOFS. The commands of Power Delivery: PDCTL, ALTMUX, FUSCFG.REARM and FBICAP. -/

namespace Sys2Proof.Machine

/-! ## The word PDCTL -/

/-- A code of the checks that a word accepted has not met. -/
theorem not_mem_of_firstCode {l : List Nat} {c : Nat} (h : firstCode l = 0) (hc : c ∈ checkOrder) : c ∉ l := by
  intro hl
  rw [firstCode] at h
  cases hfind : checkOrder.find? l.contains with
  | none => exact List.find?_eq_none.mp hfind c hc (by simpa using hl)
  | some d =>
    rw [hfind, Option.getD_some] at h
    exact absurd (h ▸ List.mem_of_find?_eq_some hfind : 0 ∈ checkOrder) (by decide)

section
variable {s : State} {r : Requester} {n : Fin 48} {v : Nat}

/-- The command bits of PDCTL. -/
def PRT.PDCTL.commands (n : Nat) : List Field :=
  [PRT.PDCTL.RESEND n, PRT.PDCTL.HRESET n, PRT.PDCTL.VCSWAP n, PRT.PDCTL.SOPPDISC n]

/-- A word of PDCTL that is accepted gives one command at most (R305). -/
theorem Accepts.pdctl_single (hacc : Accepts r (0x10000 + 0x400 * n + 0x24) v s) :
    ((PRT.PDCTL.commands n).filter (pulses v)).length ≤ 1 := by
  obtain ⟨-, -, -, hcode⟩ := hacc
  have hcodes : firstCode (s.fresh.wordCodes s.fresh r (0x10000 + 0x400 * n + 0x24) v) = 0 := by
    rw [placeOf_word (by omega)] at hcode
    unfold State.writeCode at hcode
    split at hcode
    · exact absurd hcode (by decide)
    · exact hcode
  have hbusy := not_mem_of_firstCode (c := 8) hcodes (by decide)
  have hne : (wordFields (0x10000 + 0x400 * n + 0x24)).isEmpty = false := by
    rw [wordFields_prt n (by decide)]; rfl
  simp only [State.wordCodes, hne, readOnlyWord_prt, Bool.false_eq_true, if_false, List.mem_append, not_or] at hbusy
  obtain ⟨-, hblock⟩ := hbusy
  simp only [State.judgeBlock, faultWord_prt n (o := 0x24) (by decide), blockOf_prt n (o := 0x24) (by decide)] at hblock
  by_contra hmany
  refine hblock (List.mem_append_left _ (List.mem_append_left _ ?_))
  have htwo : 1 < ((PRT.PDCTL.commands n).filter (pulses v)).length := by omega
  unfold PRT.PDCTL.commands at htwo
  simp [codeIf, htwo]

/-- Two commands of one word make it refused. -/
theorem pulses_of_single {f g : Field} {l : List Field} (h : (l.filter (pulses v)).length ≤ 1) (hf : pulses v f = true)
    (hsub : [g, f].Sublist l ∨ [f, g].Sublist l) : pulses v g = false := by
  by_contra hg
  have hg : pulses v g = true := by simpa using hg
  obtain hsub | hsub := hsub <;>
  · have hlen := (hsub.filter (pulses v)).length_le
    simp [hf, hg] at hlen
    omega

theorem State.storeWord_pdctl (u : State) (n : Fin 48) (v : Nat) : u.storeWord (0x10000 + 0x400 * n + 0x24) v =
    ((u.wr (PRT.PDCTL.VMAX n) (inWord v (PRT.PDCTL.VMAX n))).wr (PRT.PDCTL.PDEN n)
      (inWord v (PRT.PDCTL.PDEN n))).wr (PRT.PDCTL.IMAX n) (inWord v (PRT.PDCTL.IMAX n)) := by
  simp only [State.storeWord, readOnlyWord_prt, wordFields_prt n (o := 0x24) (by decide)]
  rfl

/-- The stored fields of PDCTL as the word read before a write gives them. -/
theorem State.liveWord_pdctl (u : State) (n : Fin 48) :
    inWord (u.liveWord (0x10000 + 0x400 * n + 0x24)) (PRT.PDCTL.VMAX n) = u.rd (PRT.PDCTL.VMAX n) % 4 ∧
    inWord (u.liveWord (0x10000 + 0x400 * n + 0x24)) (PRT.PDCTL.PDEN n) = u.rd (PRT.PDCTL.PDEN n) % 2 ∧
    inWord (u.liveWord (0x10000 + 0x400 * n + 0x24)) (PRT.PDCTL.IMAX n) = u.rd (PRT.PDCTL.IMAX n) % 512 := by
  have hlive : u.liveWord (0x10000 + 0x400 * n + 0x24) = u.rd (PRT.PDCTL.VMAX n) % 4 +
      (u.rd (PRT.PDCTL.PDEN n) % 2 * 8 + u.rd (PRT.PDCTL.IMAX n) % 512 * 16) := by
    rw [State.liveWord, wordFields_prt n (by decide)]
    show u.rd (PRT.PDCTL.VMAX n) % 4 * 1 + (u.rd (PRT.PDCTL.PDEN n) % 2 * 8 + (u.rd (PRT.PDCTL.IMAX n) % 512 * 16 +
      (0 % 2 * 0x10000 + (0 % 2 * 0x20000 + (0 % 2 * 0x40000 + (0 % 2 * 0x80000 + 0)))))) = _
    omega
  rw [hlive]
  generalize u.rd (PRT.PDCTL.VMAX n) = x
  generalize u.rd (PRT.PDCTL.PDEN n) = y
  generalize u.rd (PRT.PDCTL.IMAX n) = z
  refine ⟨?_, ?_, ?_⟩
  · show _ / 1 % 4 = _
    omega
  · show _ / 8 % 2 = _
    omega
  · show _ / 16 % 512 = _
    omega

/-! ## What the commands start (R300, R302, R304, R305) -/

theorem State.queueAms_queues (u : State) (n : Nat) (a : Ams) : a ∈ ((u.queueAms n a).port n).ams := by
  have h : a ∈ ((u.modPort n (fun p =>
      { p with ams := if p.ams.contains a then p.ams else p.ams ++ [a], sinkTx := true })).port n).ams := by
    rw [State.port_modPort_self]
    dsimp only
    split
    · next hc => simpa using hc
    · exact List.mem_append_right _ (List.mem_singleton_self a)
  unfold State.queueAms
  dsimp only
  split
  · rw [State.port_wr]
    exact h
  · exact h

theorem State.outs_queueAms (u : State) (n : Nat) (a : Ams) : (u.queueAms n a).outs = u.outs :=
  Only.outs (State.queueAms_only (.refl _ _) n a nofun nofun)

/-- What PDCTL does with the settings before its commands. -/
def State.pdctlSettings (u : State) (n old : Nat) : State :=
  let s1 := if inWord old (PRT.PDCTL.PDEN n) ≠ u.rd (PRT.PDCTL.PDEN n) then u.pdenEffect n else u
  if inWord old (PRT.PDCTL.VMAX n) ≠ u.rd (PRT.PDCTL.VMAX n) ∨ inWord old (PRT.PDCTL.IMAX n) ≠ u.rd (PRT.PDCTL.IMAX n)
  then s1.readvertise n false else s1

theorem State.pdctlEffect_resend (u : State) (old : Nat) (h : pulses v (PRT.PDCTL.RESEND n) = true) :
    u.pdctlEffect n v old = (u.pdctlSettings n old).queueAms n .resend := if_pos h

theorem State.pdctlEffect_hreset (u : State) (old : Nat) (h : pulses v (PRT.PDCTL.HRESET n) = true)
    (h1 : pulses v (PRT.PDCTL.RESEND n) = false) (hup : (u.pdctlSettings n old).pcUp n = true) :
    u.pdctlEffect n v old = (u.pdctlSettings n old).hardReset n true :=
  (if_neg (by simp [h1])).trans ((if_pos h).trans (if_pos hup))

theorem State.pdctlEffect_vcswap (u : State) (old : Nat) (h : pulses v (PRT.PDCTL.VCSWAP n) = true)
    (h1 : pulses v (PRT.PDCTL.RESEND n) = false) (h2 : pulses v (PRT.PDCTL.HRESET n) = false) :
    u.pdctlEffect n v old = (u.pdctlSettings n old).queueAms n .vcSwap :=
  (if_neg (by simp [h1])).trans ((if_neg (by simp [h2])).trans (if_pos h))

theorem State.pdctlEffect_soppdisc (u : State) (old : Nat) (h : pulses v (PRT.PDCTL.SOPPDISC n) = true)
    (h1 : pulses v (PRT.PDCTL.RESEND n) = false) (h2 : pulses v (PRT.PDCTL.HRESET n) = false)
    (h3 : pulses v (PRT.PDCTL.VCSWAP n) = false) :
    u.pdctlEffect n v old = (u.pdctlSettings n old).queueAms n .sopDisc :=
  (if_neg (by simp [h1])).trans ((if_neg (by simp [h2])).trans ((if_neg (by simp [h3])).trans (if_pos h)))

/-- A word that only gives commands starts nothing by its settings. -/
theorem State.pdctlSettings_onlyPulses (hpulse : OnlyPulses (0x10000 + 0x400 * n + 0x24) v s) :
    ((s.fresh.storeWord (0x10000 + 0x400 * n + 0x24) v).pdctlSettings n
      (s.fresh.liveWord (0x10000 + 0x400 * n + 0x24))) = s.fresh.storeWord (0x10000 + 0x400 * n + 0x24) v := by
  obtain ⟨hvmax, hpden, himax⟩ := s.fresh.liveWord_pdctl n
  have hmem : ∀ f ∈ [PRT.PDCTL.VMAX n, PRT.PDCTL.PDEN n, PRT.PDCTL.IMAX n],
      f ∈ wordFields (0x10000 + 0x400 * n + 0x24) := by
    rw [wordFields_prt n (by decide)]
    intro f hf
    exact List.mem_append_left [PRT.PDCTL.RESEND n, PRT.PDCTL.HRESET n, PRT.PDCTL.VCSWAP n, PRT.PDCTL.SOPPDISC n] hf
  have hv : s.fresh.rd (PRT.PDCTL.VMAX n) = inWord v (PRT.PDCTL.VMAX n) := (hpulse _ (hmem _ (by simp)) rfl).symm
  have hp : s.fresh.rd (PRT.PDCTL.PDEN n) = inWord v (PRT.PDCTL.PDEN n) := (hpulse _ (hmem _ (by simp)) rfl).symm
  have hi : s.fresh.rd (PRT.PDCTL.IMAX n) = inWord v (PRT.PDCTL.IMAX n) := (hpulse _ (hmem _ (by simp)) rfl).symm
  rw [hv] at hvmax
  rw [hp] at hpden
  rw [hi] at himax
  have hsv : (s.fresh.storeWord (0x10000 + 0x400 * n + 0x24) v).rd (PRT.PDCTL.VMAX n) = inWord v (PRT.PDCTL.VMAX n) := by
    simp (disch := with_unfolding_all refine Field.key_ne rfl rfl ?_; omega) only [State.storeWord_pdctl,
      State.rd_wr_ne, State.rd_wr_self, inWord_mod_width]
  have hsp : (s.fresh.storeWord (0x10000 + 0x400 * n + 0x24) v).rd (PRT.PDCTL.PDEN n) = inWord v (PRT.PDCTL.PDEN n) := by
    simp (disch := with_unfolding_all refine Field.key_ne rfl rfl ?_; omega) only [State.storeWord_pdctl,
      State.rd_wr_ne, State.rd_wr_self, inWord_mod_width]
  have hsi : (s.fresh.storeWord (0x10000 + 0x400 * n + 0x24) v).rd (PRT.PDCTL.IMAX n) = inWord v (PRT.PDCTL.IMAX n) := by
    rw [State.storeWord_pdctl, State.rd_wr_self, inWord_mod_width]
  have hwv : inWord v (PRT.PDCTL.VMAX n) % 4 = inWord v (PRT.PDCTL.VMAX n) := Nat.mod_mod _ _
  have hwp : inWord v (PRT.PDCTL.PDEN n) % 2 = inWord v (PRT.PDCTL.PDEN n) := Nat.mod_mod _ _
  have hwi : inWord v (PRT.PDCTL.IMAX n) % 512 = inWord v (PRT.PDCTL.IMAX n) := Nat.mod_mod _ _
  unfold State.pdctlSettings
  rw [hvmax, hpden, himax, hsv, hsp, hsi, hwv, hwp, hwi]
  simp

/-- Storing PDCTL leaves what a hard reset rests on. -/
theorem State.storeWord_pdctl_ready (hup : PolicyUp n s) (htc : s.tc n = 6) :
    (s.fresh.storeWord (0x10000 + 0x400 * n + 0x24) v).pcUp n = true ∧
      (s.fresh.storeWord (0x10000 + 0x400 * n + 0x24) v).tc n = 6 ∧
      (s.fresh.storeWord (0x10000 + 0x400 * n + 0x24) v).port n = s.port n := by
  rw [State.storeWord_pdctl]
  refine ⟨hup.pcUp, Eq.trans ?_ htc, rfl⟩
  unfold State.tc
  simp (disch := with_unfolding_all refine Field.key_ne rfl rfl ?_; omega) only [State.rd_wr_ne]
  rfl

section
variable (hrun : s.phase = .running)
include hrun

/-- An accepted write of PDCTL completes with its effect. -/
theorem Completes.pdctl {c : Sys2Proof.Instr} {P : State → Prop}
    (he : exec c s = s.write1 r (0x10024 + 0x400 * n) v none) (hacc : Accepts r (0x10024 + 0x400 * n) v s)
    (h : Accepts r (0x10000 + 0x400 * n + 0x24) v s →
      P (((s.fresh.storeWord (0x10000 + 0x400 * n + 0x24) v).pdctlEffect n v
        (s.fresh.liveWord (0x10000 + 0x400 * n + 0x24))).setResult r 0)) :
    Completes c s (fun t => ResultOk r t ∧ P t) := by
  have hword : 0x10024 + 0x400 * n.val = 0x10000 + 0x400 * n + 0x24 := by omega
  refine .prtWord s r n v he hword (by decide) hrun hacc ?_
  rw [hword]
  exact h (hword ▸ hacc)

theorem pdctlResend_completes (w : Word) (hacc : Accepts r (0x10024 + 0x400 * n) (withBit w.toNat 16 true) s) :
    Completes (.pdctlResend r n w) s (fun t => ResultOk r t ∧ Ams.resend ∈ (t.port n).ams) := by
  have hgo : pulses (withBit w.toNat 16 true) (PRT.PDCTL.RESEND n) = true := pulses_withBit _ rfl rfl
  refine .pdctl hrun rfl hacc fun _ => ?_
  rw [State.port_setResult, State.pdctlEffect_resend _ _ hgo]
  exact State.queueAms_queues _ _ _

theorem pdctlHreset_completes (w : Word) (hacc : Accepts r (0x10024 + 0x400 * n) (withBit w.toNat 17 true) s)
    (hpulse : OnlyPulses (0x10024 + 0x400 * n) (withBit w.toNat 17 true) s) (hup : PolicyUp n s) (htc : s.tc n = 6)
    (hhr : (s.port n).hr = .none) : Completes (.pdctlHreset r n w) s (fun t => ResultOk r t ∧
      (t.port n).hr = .waitPs ∧ Out.pd n .hardReset ∈ t.outs) := by
  have hword : 0x10024 + 0x400 * n.val = 0x10000 + 0x400 * n + 0x24 := by omega
  rw [hword] at hpulse
  refine .pdctl hrun rfl hacc fun hacc' => ?_
  have hgo : pulses (withBit w.toNat 17 true) (PRT.PDCTL.HRESET n) = true := pulses_withBit _ rfl rfl
  have hresend := pulses_of_single (g := PRT.PDCTL.RESEND n) hacc'.pdctl_single hgo (.inl (by simp [PRT.PDCTL.commands]))
  obtain ⟨hpc, htc', hport⟩ := State.storeWord_pdctl_ready (v := withBit w.toNat 17 true) hup htc
  have hsame := State.pdctlSettings_onlyPulses hpulse
  rw [State.port_setResult, State.outs_setResult, State.pdctlEffect_hreset _ _ hgo hresend (by rw [hsame]; exact hpc), hsame]
  exact State.hardReset_sent htc' (by rw [hport]; exact hhr)

theorem pdctlVcswap_completes (w : Word) (hacc : Accepts r (0x10024 + 0x400 * n) (withBit w.toNat 18 true) s) :
    Completes (.pdctlVcswap r n w) s (fun t => ResultOk r t ∧ Ams.vcSwap ∈ (t.port n).ams) := by
  refine .pdctl hrun rfl hacc fun hacc' => ?_
  have hgo : pulses (withBit w.toNat 18 true) (PRT.PDCTL.VCSWAP n) = true := pulses_withBit _ rfl rfl
  have hone := hacc'.pdctl_single
  rw [State.port_setResult, State.pdctlEffect_vcswap _ _ hgo
    (pulses_of_single hone hgo (.inl (by simp [PRT.PDCTL.commands])))
    (pulses_of_single hone hgo (.inl (by simp [PRT.PDCTL.commands])))]
  exact State.queueAms_queues _ _ _

theorem pdctlSoppdisc_completes (w : Word) (hacc : Accepts r (0x10024 + 0x400 * n) (withBit w.toNat 19 true) s) :
    Completes (.pdctlSoppdisc r n w) s (fun t => ResultOk r t ∧ Ams.sopDisc ∈ (t.port n).ams) := by
  refine .pdctl hrun rfl hacc fun hacc' => ?_
  have hgo : pulses (withBit w.toNat 19 true) (PRT.PDCTL.SOPPDISC n) = true := pulses_withBit _ rfl rfl
  have hone := hacc'.pdctl_single
  rw [State.port_setResult, State.pdctlEffect_soppdisc _ _ hgo
    (pulses_of_single hone hgo (.inl (by simp [PRT.PDCTL.commands])))
    (pulses_of_single hone hgo (.inl (by simp [PRT.PDCTL.commands])))
    (pulses_of_single hone hgo (.inl (by simp [PRT.PDCTL.commands])))]
  exact State.queueAms_queues _ _ _

end

/-- Nothing that a write of PDCTL starts changes its settings. -/
theorem State.pdctlEffect_keepsSettings {g : Field} (u : State) (n : Fin 48) (old : Nat)
    (hg : g.key = (0x10000 + 0x400 * (n % 48) + 0x24) * 32 + 3) : (u.pdctlEffect n v old).rd g = u.rd g := by
  apply Only.rd
  apply State.pdctlEffect_only (.refl _ _)
  all_goals (intros; first | exact Part.field_ne rfl (by omega) | exact nofun)

theorem pdenWrite_completes (w : Word) (hrun : s.phase = .running) (hacc : Accepts r (0x10024 + 0x400 * n) w.toNat s) :
    Completes (.pdenWrite r n w) s (fun t => ResultOk r t ∧
      t.rd (PRT.PDCTL.PDEN n) = inWord w.toNat (PRT.PDCTL.PDEN n)) := by
  refine .pdctl hrun rfl hacc fun _ => ?_
  rw [State.rd_setResult _ _ _ _, State.pdctlEffect_keepsSettings _ n _ rfl, State.storeWord_pdctl]
  simp (disch := with_unfolding_all refine Field.key_ne rfl rfl ?_; omega) only [State.rd_wr_ne, State.rd_wr_self,
    inWord_mod_width]

/-! ## KICK and REARM (R312, R334) -/

theorem State.storeWord_altmux (u : State) (n : Fin 48) (v : Nat) : u.storeWord (0x10000 + 0x400 * n + 0x2C) v =
    u.wr (PRT.ALTMUX.ALLOW n) (inWord v (PRT.ALTMUX.ALLOW n)) := by
  simp only [State.storeWord, readOnlyWord_prt, wordFields_prt n (o := 0x2C) (by decide)]
  rfl

theorem State.prtEffect_altmux (u : State) (r : Requester) (n old : Nat) (h : pulses v (PRT.ALTMUX.KICK n) = true) :
    u.prtEffect r n 0x2C v old = u.kickEffect n := if_pos h

theorem State.kickEffect_active {u : State} {n : Nat} (h : u.rd (PRT.ALTMUX.ACTIVE n) = 1) :
    (u.kickEffect n).rd (PRT.ALTMUX.ACTIVE n) = 0 ∧ Ams.attention ∈ ((u.kickEffect n).port n).ams ∧
      Out.sbu n false ∈ (u.kickEffect n).outs := by
  obtain ⟨houts, hoff, -⟩ := State.modeExit_active h
  have heff : u.kickEffect n = (u.modeExit n).queueAms n .attention := if_pos (by simp [h])
  have hkeep : ((u.modeExit n).queueAms n .attention).rd (PRT.ALTMUX.ACTIVE n) =
      (u.modeExit n).rd (PRT.ALTMUX.ACTIVE n) :=
    Only.rd (State.queueAms_only (.refl _ _) n _ nofun (Part.fields_ne rfl rfl (by omega)))
  rw [heff, hkeep, State.outs_queueAms, houts]
  exact ⟨hoff, State.queueAms_queues _ _ _, by simp⟩

theorem altmuxKick_completes (w : Word) (hrun : s.phase = .running)
    (hacc : Accepts r (0x1002C + 0x400 * n) (withBit w.toNat 1 true) s) (hactive : s.rd (PRT.ALTMUX.ACTIVE n) = 1) :
    Completes (.altmuxKick r n w) s (fun t => ResultOk r t ∧ t.rd (PRT.ALTMUX.ACTIVE n) = 0 ∧
      Ams.attention ∈ (t.port n).ams ∧ Out.sbu n false ∈ t.outs) := by
  have hword : 0x1002C + 0x400 * n.val = 0x10000 + 0x400 * n + 0x2C := by omega
  have hgo : pulses (withBit w.toNat 1 true) (PRT.ALTMUX.KICK n) = true := pulses_withBit _ rfl rfl
  refine .prtWord s r n _ rfl hword (by decide) hrun hacc ?_
  rw [State.port_setResult, State.outs_setResult, State.rd_setResult _ _ _ _, hword, State.prtEffect_altmux _ r n _ hgo]
  refine State.kickEffect_active ?_
  rw [State.storeWord_altmux]
  exact (State.rd_wr_ne _ _ (Field.key_ne rfl rfl (by omega))).trans hactive

/-- A rearm of a port that has tripped clears the count and the latch and tests the port anew. -/
theorem State.rearmEffect_tripped {u : State} {n : Nat} (h : u.rd (PRT.FUSSTS.TRIPS n) ≠ 0) :
    (u.rearmEffect n).rd (PRT.FUSSTS.TRIPS n) = 0 ∧ (u.rearmEffect n).rd (PRT.FUSEVT.REARMED n) = 1 ∧
      ((u.rearmEffect n).port n).latched = false ∧ ((u.rearmEffect n).port n).selfTest = .rearm := by
  unfold State.rearmEffect
  dsimp only
  rw [if_neg (by simp [State.on, h]), State.port_modPort_self]
  refine ⟨?_, ?_, rfl, rfl⟩ <;>
  · simp (disch := with_unfolding_all refine Field.key_ne rfl rfl ?_; omega) only [State.rd_modPort,
      State.raise_eq_wr, State.rd_wr_ne, State.rd_wr_self]
    rfl

theorem State.setIset_keepsTrips (u : State) (n : Nat) :
    (u.setIset n).rd (PRT.FUSSTS.TRIPS n) = u.rd (PRT.FUSSTS.TRIPS n) := by
  apply Only.rd
  apply State.setIset_only (.refl _ _)
  exact Part.fields_ne rfl rfl (by omega)

theorem State.storeWord_fuscfg_keepsTrips (u : State) (n : Fin 48) (v : Nat) :
    (u.storeWord (0x10000 + 0x400 * n + 0x40) v).rd (PRT.FUSSTS.TRIPS n) = u.rd (PRT.FUSSTS.TRIPS n) := by
  apply Only.rd
  refine State.storeWord_only (.refl _ _) _ v nofun fun f hf => ?_
  rw [wordFields_fuscfg] at hf
  simp only [List.mem_cons, List.not_mem_nil, or_false] at hf
  rcases hf with rfl | rfl | rfl | rfl | rfl | rfl <;> exact Part.fields_ne rfl rfl (by omega)

theorem State.prtEffect_rearm (u : State) (r : Requester) (n old : Nat) (h : pulses v (PRT.FUSCFG.REARM n) = true) :
    u.prtEffect r n 0x40 v old = (if (u.port n).gate then u.setIset n else u).rearmEffect n := if_pos h

theorem rearm_completes (w : Word) (hrun : s.phase = .running)
    (hacc : Accepts r (0x10040 + 0x400 * n) (withBit w.toNat 29 true) s) (htrips : s.rd (PRT.FUSSTS.TRIPS n) ≠ 0) :
    Completes (.rearm r n w) s (fun t => ResultOk r t ∧ t.rd (PRT.FUSSTS.TRIPS n) = 0 ∧
      t.rd (PRT.FUSEVT.REARMED n) = 1 ∧ (t.port n).latched = false ∧ (t.port n).selfTest = .rearm) := by
  have hword : 0x10040 + 0x400 * n.val = 0x10000 + 0x400 * n + 0x40 := by omega
  have hgo : pulses (withBit w.toNat 29 true) (PRT.FUSCFG.REARM n) = true := pulses_withBit _ rfl rfl
  refine .prtWord s r n _ rfl hword (by decide) hrun hacc ?_
  rw [State.port_setResult, State.rd_setResult _ _ _ _, State.rd_setResult _ _ _ _, hword]
  generalize hu : State.storeWord _ _ _ = u
  have hkept : u.rd (PRT.FUSSTS.TRIPS n) = s.rd (PRT.FUSSTS.TRIPS n) := by
    rw [← hu, State.storeWord_fuscfg_keepsTrips]
    rfl
  rw [State.prtEffect_rearm u r n _ hgo]
  refine State.rearmEffect_tripped ?_
  split
  · rw [State.setIset_keepsTrips, hkept]
    exact htrips
  · rw [hkept]
    exact htrips

end

/-! ## FBICAP (R318) -/

section
variable {q : Fin 12}

theorem blockOf_qdCtl (q : Fin 12) : blockOf (0xE020 + 0x200 * q) = some (.qd q, 0x20) := by
  have hq : (0xE020 + 0x200 * q.val - 0xE000) / 0x200 = q.val := by omega
  have ho : (0xE020 + 0x200 * q.val - 0xE000) % 0x200 = 0x20 := by omega
  simp (disch := omega) only [blockOf, if_neg, if_pos, hq, ho]

theorem faultWord_qdCtl (q : Fin 12) : faultWord (0xE020 + 0x200 * q) = none := by
  refine faultWord_eq_none fun b => ?_
  cases b <;> simp only [FBlk.base] <;> omega

theorem readOnlyWord_qdCtl (q : Fin 12) : readOnlyWord (0xE020 + 0x200 * q) = false := by
  simp only [readOnlyWord, Bool.or_eq_false_iff, beq_eq_false_iff_ne]
  omega

theorem State.storeWord_fbicap (u : State) (q : Fin 12) (v : Nat) :
    (u.storeWord (0xE020 + 0x200 * q) v).rd (QD.CTL.FBICAP q) = inWord v (QD.CTL.FBICAP q) := by
  simp only [State.storeWord, readOnlyWord_qdCtl, wordFields, blockOf_qdCtl, Blk.fields]
  change (((u.wr (QD.CTL.TBRDWARN q) (inWord v (QD.CTL.TBRDWARN q))).wr (QD.CTL.FBICAP q)
    (inWord v (QD.CTL.FBICAP q))).wr (QD.CTL.LOCK q) (inWord v (QD.CTL.LOCK q))).rd (QD.CTL.FBICAP q) = _
  simp (disch := with_unfolding_all refine Field.key_ne rfl rfl ?_; omega) only [State.rd_wr_ne, State.rd_wr_self,
    inWord_mod_width]

/-- Nothing that the cap starts changes it. -/
theorem State.fbicapEffect_keepsCap {g : Field} (u : State) (q : Fin 12)
    (hg : g.key = (0xE000 + 0x200 * (q % 12) + 0x20) * 32 + 8) : (u.fbicapEffect q).rd g = u.rd g := by
  apply Only.rd
  apply State.fbicapEffect_only (.refl _ _)
  all_goals (intros; first | exact Part.field_ne rfl (by omega) | exact nofun)

theorem fbicapWrite_completes {s : State} {r : Requester} (w : Word) (hrun : s.phase = .running)
    (hacc : Accepts r (0xE020 + 0x200 * q) w.toNat s) : Completes (.fbicapWrite r q w) s (fun t => ResultOk r t ∧
      t.rd (QD.CTL.FBICAP q) = inWord w.toNat (QD.CTL.FBICAP q)) := by
  refine .runWord rfl (by omega) hrun hacc ?_
  rw [State.rd_setResult _ _ _ _]
  simp only [State.wordEffect, faultWord_qdCtl, blockOf_qdCtl]
  split
  · rw [State.fbicapEffect_keepsCap _ q rfl, State.storeWord_fbicap]
  · exact State.storeWord_fbicap _ q _

end

/-- Settles O39: each word stores its settings, its one command is queued or done, and the cap stays as written. -/
theorem pdWritesComplete : Obligations.PdWritesComplete := by
  intro r n q w s hrun
  exact ⟨fun hacc _ => pdctlResend_completes hrun w hacc, pdctlHreset_completes hrun w,
    fun hacc _ => pdctlVcswap_completes hrun w hacc, fun hacc _ => pdctlSoppdisc_completes hrun w hacc,
    pdenWrite_completes w hrun, altmuxKick_completes w hrun, fun hacc _ => rearm_completes w hrun hacc,
    fbicapWrite_completes w hrun⟩

end Sys2Proof.Machine
end

section
/-! PROOFS. Lodestar: its work on a port, its requests on the wire, the records and the heartbeat. -/

namespace Sys2Proof.Machine

/-! ## Lodestar's work on a port through the reset of the port (R161) -/

section
variable (s : State) (n m : Nat)

theorem State.modPort_lds {g : PortX → PortX} (hg : ∀ p, (g p).lds = p.lds) :
    ((s.modPort n g).port m).lds = (s.port m).lds := by
  by_cases h : m = n
  · rw [h, State.port_modPort_self, hg]
  · rw [State.port_modPort_ne _ _ h]

theorem State.restrand_lds (sel : Key → Bool) : ((s.restrand n sel).port m).lds = (s.port m).lds := by
  unfold State.restrand
  extract_lets
  split
  · rfl
  · exact State.modPort_lds _ n m fun _ => by rfl

theorem State.withdrawAll_lds (counted : Bool) : ((s.withdrawAll n counted).port m).lds = (s.port m).lds := by
  unfold State.withdrawAll
  extract_lets k s1
  have h1 : (s1.port m).lds = (s.port m).lds := s.modPort_lds n m fun _ => by rfl
  split
  · exact (s1.restrand_lds n m _).trans h1
  · exact h1

theorem State.unpoll_lds : ((s.unpoll n).port m).lds = (s.port m).lds := by
  unfold State.unpoll
  extract_lets
  split
  · rfl
  · exact State.modPort_lds _ n m fun _ => by rfl

theorem State.holdEnd_lds (a : Nat) : ((s.holdEnd n a).port m).lds = (s.port m).lds := by
  unfold State.holdEnd
  split
  · rfl
  · exact State.modPort_lds _ n m fun _ => by rfl

theorem State.holdsEnd_lds : ((s.holdsEnd n).port m).lds = (s.port m).lds :=
  (State.modPort_lds _ n m fun _ => by rfl).trans (foldl_same (fun t : State => (t.port m).lds) (fun t a => t.holdEnd_lds n m a) _ s)

theorem State.ttReset_lds : ((s.ttReset n).port m).lds = (s.port m).lds := by
  rw [State.ttReset_eq]
  exact (State.holdsEnd_lds _ n m).trans (s.modPort_lds n m (g := PortX.ttDrop) fun _ => by rfl)

/-- A translator that is reset with its Almanac. -/
theorem State.ttAndAlmanac_lds (counted : Bool) :
    ((s.ttAndAlmanac n false counted).port m).lds = (s.port m).lds := by
  unfold State.ttAndAlmanac
  extract_lets s1 s2
  have h1 : (s1.port m).lds = (s.port m).lds := by
    refine (State.withdrawAll_lds _ n m counted).trans ?_
    split
    · exact s.unpoll_lds n m
    · rfl
  have h2 : (s2.port m).lds = (s1.port m).lds := s1.ttReset_lds n m
  refine (State.modPort_lds _ n m fun _ => by rfl).trans ?_
  exact (State.modPort_lds s2 n m fun _ => by rfl).trans (h2.trans h1)

theorem State.withdrawSlot_lds (k : Key) : ((s.withdrawSlot n k).port m).lds = (s.port m).lds := by
  unfold State.withdrawSlot
  split
  · rfl
  · extract_lets s1 s2
    have h2 : (s2.port m).lds = (s.port m).lds :=
      (congrArg PortX.lds (s1.dropHeld_port n k m)).trans (s.modPort_lds n m fun _ => by rfl)
    split <;> exact h2

theorem State.withdrawSlots_lds (sel : Slot → Bool) : ((s.withdrawSlots n sel).port m).lds = (s.port m).lds :=
  foldl_same (fun t : State => (t.port m).lds) (fun t _ => t.withdrawSlot_lds n m _) _ s

theorem State.dropStale_lds (sel : Pkt → Bool) : ((s.dropStale sel).port m).lds = (s.port m).lds := by
  refine foldl_same (fun t : State => (t.port m).lds) (fun t p => ?_) _ s
  have h1 : (((t.dropPkt p.id).bump (SWX.CNTA.STALE (cntIdx p.side))).port m).lds = (t.port m).lds :=
    congrArg PortX.lds (t.dropPkt_port m p.id)
  split
  · exact (State.modPort_lds _ _ m fun _ => by rfl).trans h1
  · exact h1

theorem State.relayReset_lds (stale : Bool) : ((s.relayReset n stale).port m).lds = (s.port m).lds := by
  unfold State.relayReset
  extract_lets s1
  have h1 : (s1.port m).lds = (s.port m).lds :=
    (State.modPort_lds _ n m fun _ => by rfl).trans
      (s.withdrawSlots_lds n m _)
  split
  · exact (s1.dropStale_lds m _).trans h1
  · exact h1

theorem State.startReset_lds : ((s.startReset n).port m).lds = (s.port m).lds := by
  unfold State.startReset
  extract_lets s1 s2
  have h2 : (s2.port m).lds = (s1.port m).lds :=
    (congrArg PortX.lds (State.rtDropOwner_port _ n m)).trans
      ((State.relayReset_lds _ n m true).trans (s1.ttAndAlmanac_lds n m true))
  exact (State.modPort_lds _ n m fun _ => by rfl).trans h2

theorem State.startReset_sparesLodestar {g : Field} (hg : 0x20000 * 32 ≤ g.key) : (s.startReset n).rd g = s.rd g := by
  apply Only.rd
  apply State.startReset_only (.refl _ _)
  all_goals (intros; first | exact Part.field_ne rfl (by omega) | exact nofun)

end

/-! ## The operations of Lodestar -/

section
variable (s : State) (n : Nat)

@[simp] theorem State.outs_modLds (m : Nat) (g : LdsPort → LdsPort) : (s.modLds m g).outs = s.outs := rfl
@[simp] theorem State.rd_modLds (m : Nat) (g : LdsPort → LdsPort) (f : Field) : (s.modLds m g).rd f = s.rd f := rfl
@[simp] theorem State.hub_modLds (m : Nat) (g : LdsPort → LdsPort) : (s.modLds m g).hub n = s.hub n := rfl

@[simp] theorem State.lds_modLds_self (g : LdsPort → LdsPort) : ((s.modLds n g).port n).lds = g (s.port n).lds := by
  rw [State.modLds, State.port_modPort_self]

@[simp] theorem State.lds_setEntry_self (e : RosterEntry) :
    ((s.setEntry n e).port n).lds = { (s.port n).lds with entry := e } := by
  unfold State.setEntry
  extract_lets old s1 s2
  have h2 : (s2.port n).lds = { (s.port n).lds with entry := e } := s.lds_modLds_self n fun l => { l with entry := e }
  split
  · rw [State.ldsChange_port, h2]
  · exact h2

@[simp] theorem State.outs_setEntry (e : RosterEntry) : (s.setEntry n e).outs = s.outs := by
  apply Only.outs
  apply State.setEntry_only (.refl _ _)
  all_goals exact nofun

/-- RSUM shows the state of the entry (R288). -/
theorem State.setEntry_rsum (e : RosterEntry) : (s.setEntry n e).rd (LDS.RSUM.STATE n) = e.state % 16 := by
  unfold State.setEntry
  extract_lets old s1 s2
  have h2 : s2.rd (LDS.RSUM.STATE n) = e.state % 16 := by
    dsimp only [s2]
    simp (disch := with_unfolding_all refine Field.key_ne rfl rfl ?_; omega) only [State.flag_eq_wr, State.rd_wr_ne,
      State.rd_wr_self]
    rfl
  split
  · refine Eq.trans ?_ h2
    have hkey : (LDS.RSUM.STATE n).key = (0x20000 + 0x100 + 4 * (n % 48)) * 32 + 0 := rfl
    exact Only.rd (State.ldsChange_only (.refl _ _) n (Part.field_ne rfl (by omega)) (Part.field_ne rfl (by omega)))
  · exact h2

/-- A reset of the port by Lodestar (step 2 of R273). -/
theorem State.ldsReset_resets : (s.ldsReset n).hub n = HS.resetting ∧
    ((s.ldsReset n).port n).lds = { (s.port n).lds.gone with step := .resetting } ∧
    (s.ldsReset n).outs = s.outs ++ [.se0 n] := by
  unfold State.ldsReset
  rw [State.hub_modLds, State.lds_modLds_self, State.outs_modLds, State.startReset_lds]
  exact ⟨s.startReset_hub n, rfl, s.startReset_outs n⟩

theorem State.ldsReset_sparesLodestar {g : Field} (hg : 0x20000 * 32 ≤ g.key) : (s.ldsReset n).rd g = s.rd g := by
  rw [State.ldsReset, State.rd_modLds, State.startReset_sparesLodestar s n hg]

/-- A packet of Lodestar to an address that it reaches. -/
theorem State.ldsPacket_reaches {adr pid : Nat} {bs : List Byte} (h : s.ldsRoute n adr = true) :
    (s.ldsPacket n adr pid bs).outs = s.outs ++ [.device n ⟨adr, 0, false⟩ pid bs] := by
  have he : s.ldsPacket n adr pid bs = (s.iqPass 52 bs).emit (.device n ⟨adr, 0, false⟩ pid bs) := if_pos h
  rw [he]
  exact congrArg (· ++ [Out.device n ⟨adr, 0, false⟩ pid bs]) (State.iqPass_outs (k := 52) s bs)

theorem State.ldsPacket_port (adr pid : Nat) (bs : List Byte) (m : Nat) :
    (s.ldsPacket n adr pid bs).port m = s.port m :=
  Only.port (State.ldsPacket_only (.refl _ _) n adr pid bs nofun nofun nofun nofun nofun)

theorem State.ldsSend_lds (adr : Nat) (step : LdsStep) (r : Setup) (data : List Byte) :
    ((s.ldsSend n adr step r data).port n).lds = { (s.port n).lds with step := step } := by
  unfold State.ldsSend
  extract_lets s1
  have h1 : (s1.port n).lds = { (s.port n).lds with step := step } := by
    dsimp only [s1]
    rw [State.lds_modLds_self, State.ldsPacket_port]
  split
  · exact h1
  · rw [State.ldsPacket_port, h1]

/-- A request without data to an address that Lodestar reaches. -/
theorem State.ldsSend_outs {adr : Nat} (step : LdsStep) (r : Setup) (h : s.ldsRoute n adr = true) :
    (s.ldsSend n adr step r []).outs = s.outs ++ [.device n ⟨adr, 0, false⟩ 0x2D r.bytes] := by
  have he : s.ldsSend n adr step r [] = (s.ldsPacket n adr 0x2D r.bytes).modLds n (fun l => { l with step := step }) := by
    rw [State.ldsSend, List.isEmpty_nil, if_pos rfl]
  rw [he, State.outs_modLds, State.ldsPacket_reaches _ _ h]

/-- The next record of a profile is sent (R277). -/
theorem State.ldsRecord_sends {i : Nat} (h : i < fieldAt (s.profOf n) 11 1) :
    ((s.ldsRecord n i).port n).lds.step = .record ∧ ((s.ldsRecord n i).port n).lds.recIdx = i := by
  unfold State.ldsRecord
  extract_lets p r bm len
  rw [if_pos h, State.ldsSend_lds, State.lds_modLds_self]
  exact ⟨rfl, rfl⟩

/-- The last record of a profile ends the check-in (R279). -/
theorem State.ldsRecord_ends {i : Nat} (h : fieldAt (s.profOf n) 11 1 ≤ i) :
    ((s.ldsRecord n i).entry n).state = 4 ∧ ((s.ldsRecord n i).entry n).result = 1 ∧
      ((s.ldsRecord n i).port n).lds.step = .idle := by
  unfold State.ldsRecord
  extract_lets p r bm len e s1
  rw [if_neg (Nat.not_lt.mpr h)]
  have hend : s1.ldsEnd n 1 4 = (s1.clockUs.2.setEntry n { s1.clockUs.2.entry n with
      state := 4, result := 1, tCheckin := s1.clockUs.1 }).modLds n LdsPort.halt := by
    rw [State.ldsEnd, if_neg (by decide)]
  rw [State.entry, State.lds_modLds_self, hend, State.lds_modLds_self, State.lds_setEntry_self]
  exact ⟨rfl, rfl, rfl⟩

/-- An attempt that fails before the last one begins again (R274). -/
theorem State.ldsBad_retries (stall : Bool) (hstep : (s.port n).lds.step = .devDesc8)
    (htry : (s.port n).lds.attempt < s.rd LDS.CTL.ENUMTRY) :
    s.ldsBad n stall = (s.modLds n (fun l => { l with attempt := l.attempt + 1 })).ldsReset n := by
  simp only [State.ldsBad, hstep, State.ldsFail, if_pos htry]

/-- The first answer of a device gives its packet size, and its address is set (R273). -/
theorem State.ldsData_devDesc8 {bs : List Byte} (hstep : (s.port n).lds.step = .devDesc8)
    (hgood : badDesc bs 8 1 = false)
    (hmps : fieldAt bs 7 1 = 8 ∨ fieldAt bs 7 1 = 16 ∨ fieldAt bs 7 1 = 32 ∨ fieldAt bs 7 1 = 64) :
    s.ldsData n bs = (s.modLds n (fun l => { l with mps0 := fieldAt bs 7 1 })).ldsSend n 0 .setAddress
      ⟨0, 5, n + 1, 0, 0⟩ [] := by
  have hsize : [8, 16, 32, 64].contains (fieldAt bs 7 1) = true := by
    rcases hmps with h | h | h | h <;> rw [h] <;> rfl
  simp only [State.ldsData, hstep, hgood, hsize, Bool.not_true, Bool.false_eq_true, or_self, if_false]

theorem State.ldsAck_setAddress (hstep : (s.port n).lds.step = .setAddress) :
    s.ldsAck n = s.modLds n (fun l => { l with step := .addrWait, route := 1 }) := by
  simp only [State.ldsAck, hstep]

/-! ## Enumeration (R273, R274) -/

end

theorem Completes.did {c : Sys2Proof.Instr} {s t : State} {P : State → Prop} (he : exec c s = done t) (h : P t) :
    Completes c s P := ⟨t, he, h⟩

section
variable {n : Fin 48} {s : State}

theorem ldsEnumStart_completes (hown : s.ldsOwns n = true) (hstate : (s.entry n).state = 1) (hroom : s.ldsBusy < 8)
    (hfirst : ∀ m ∈ allPorts, (s.entry m).state = 1 → s.ldsFirst n m = true) :
    Completes (.ldsEnumStart n) s (fun t => (t.entry n).state = 2 ∧ t.rd (LDS.RSUM.STATE n) = 2 ∧
      (t.port n).lds.step = .connectWait ∧ (t.port n).lds.attempt = 1) := by
  have hall : allPorts.all (fun m => (s.entry m).state != 1 || s.ldsFirst n m) = true := by
    refine List.all_eq_true.mpr fun m hm => ?_
    by_cases h : (s.entry m).state = 1
    · simp [hfirst m hm h]
    · simp [h]
  refine .guarded rfl (by rw [hown, hstate, decide_eq_true hroom, hall]; rfl) ?_
  rw [State.entry, State.lds_modLds_self, State.rd_modLds, State.lds_setEntry_self, State.setEntry_rsum]
  exact ⟨rfl, rfl, rfl, rfl⟩

theorem ldsConnectWaitEnd_completes (hown : s.ldsOwns n = true) (hstep : (s.port n).lds.step = .connectWait)
    (hhub : s.hub n = HS.disabled ∨ s.hub n = HS.enabled) : Completes (.ldsConnectWaitEnd n) s (fun t =>
      t.hub n = HS.resetting ∧ (t.port n).lds.step = .resetting ∧ Out.se0 n ∈ t.outs) := by
  obtain ⟨hreset, hlds, houts⟩ := s.fresh.ldsReset_resets n
  refine .guarded rfl (by rw [hown, hstep]; rcases hhub with h | h <;> rw [h] <;> rfl) ?_
  rw [hlds, houts]
  exact ⟨hreset, rfl, List.mem_append_right _ (List.mem_singleton_self _)⟩

/-- The descriptor that a wait of enumeration ends in (R273). -/
theorem ldsEnumWaitEnd_completes {step : LdsStep} {adr v len : Nat}
    (he : execLdsEnumWaitEnd n s = done (s.fresh.ldsGet n adr step v 0 len)) (hroute : s.ldsRoute n adr = true) :
    Completes (.ldsEnumWaitEnd n) s (fun t => t.outs = [.device n ⟨adr, 0, false⟩ 0x2D
      (Setup.bytes ⟨0x80, 6, v, 0, len⟩)] ∧ (t.port n).lds.step = step) := by
  refine .did he ?_
  unfold State.ldsGet
  rw [State.ldsSend_outs s.fresh n _ _ hroute, State.ldsSend_lds]
  exact ⟨rfl, rfl⟩

theorem ldsControlComplete_devDesc8 {pid : Nat} {bs : List Byte} (hown : s.ldsOwns n = true)
    (hstep : (s.port n).lds.step = .devDesc8) (hgood : badDesc bs 8 1 = false)
    (hmps : fieldAt bs 7 1 = 8 ∨ fieldAt bs 7 1 = 16 ∨ fieldAt bs 7 1 = 32 ∨ fieldAt bs 7 1 = 64) :
    Completes (.ldsControlComplete n (.data pid bs)) s (fun t => (t.port n).lds.step = .setAddress ∧
      (t.port n).lds.mps0 = fieldAt bs 7 1 ∧
      t.outs = [.device n ⟨0, 0, false⟩ 0x2D (Setup.bytes ⟨0, 5, n + 1, 0, 0⟩)]) := by
  have hport : (s.fresh.iqPass n bs).port n = s.port n := State.iqPass_port (k := n) s.fresh bs n
  have hdata := State.ldsData_devDesc8 (s.fresh.iqPass n bs) n (by rw [hport]; exact hstep) hgood hmps
  refine .did (congrArg done ((if_neg (by simp [hown])).trans hdata)) ?_
  rw [State.ldsSend_lds, State.lds_modLds_self, State.ldsSend_outs _ _ _ _ rfl, State.outs_modLds, State.iqPass_outs]
  exact ⟨rfl, rfl, rfl⟩

theorem ldsControlComplete_setAddress (hown : s.ldsOwns n = true) (hstep : (s.port n).lds.step = .setAddress) :
    Completes (.ldsControlComplete n .ack) s (fun t => (t.port n).lds.step = .addrWait ∧ (t.port n).lds.route = 1 ∧
      t.outs = []) := by
  have hack := State.ldsAck_setAddress s.fresh n hstep
  refine .did (congrArg done ((if_neg (by simp [hown])).trans hack)) ?_
  rw [State.lds_modLds_self]
  exact ⟨rfl, rfl, rfl⟩

theorem ldsRequestTimeout_completes (hown : s.ldsOwns n = true) (hstep : (s.port n).lds.step = .devDesc8)
    (htry : (s.port n).lds.attempt < s.rd LDS.CTL.ENUMTRY) : Completes (.ldsRequestTimeout n) s (fun t =>
      CountsUp LDS.CNT1.CTLTMO s t ∧ (t.port n).lds.attempt = (s.port n).lds.attempt + 1 ∧
      (t.port n).lds.step = .resetting ∧ t.hub n = HS.resetting) := by
  refine .guarded rfl (by rw [hown, hstep]; rfl) ?_
  have hcount : CountsUp LDS.CNT1.CTLTMO s (s.fresh.bump LDS.CNT1.CTLTMO) := CountsUp.bump rfl
  have hmax : (s.fresh.bump LDS.CNT1.CTLTMO).rd LDS.CTL.ENUMTRY = s.rd LDS.CTL.ENUMTRY := State.rd_wr_ne _ _ (by decide)
  have hport : (s.fresh.bump LDS.CNT1.CTLTMO).port n = s.port n := rfl
  generalize s.fresh.bump LDS.CNT1.CTLTMO = u at hcount hmax hport
  rw [State.ldsBad_retries u n false (by rw [hport]; exact hstep) (by rw [hport, hmax]; exact htry)]
  obtain ⟨hreset, hlds, -⟩ := State.ldsReset_resets (u.modLds n (fun l => { l with attempt := l.attempt + 1 })) n
  rw [CountsUp, hlds, State.lds_modLds_self, hport, State.ldsReset_sparesLodestar _ n (by decide), State.rd_modLds]
  exact ⟨hcount, rfl, rfl, hreset⟩

/-! ## The heartbeat (R281) -/

theorem ldsHeartbeatPoll_completes (hown : s.ldsOwns n = true) (hstate : (s.entry n).state = 4 ∨ (s.entry n).state = 5)
    (hep : fieldAt (s.profOf n) 12 1 ≠ 0) (hmicro : s.rd SYS.MERIDIAN.COUNT % 8 = 0)
    (hframe : s.rd SYS.MERIDIAN.COUNT / 8 % 2048 % 2 ^ s.hbExp n = n.val % 2 ^ s.hbExp n) (hhub : s.hub n = HS.enabled)
    (hroute : (s.port n).lds.route = 2) (hidle : (s.port n).lds.polling = false)
    (hfresh : (s.port n).lds.polledAt ≠ s.now + 1) : Completes (.ldsHeartbeatPoll n false) s (fun t =>
      (t.port n).lds.polledAt = s.now + 1 ∧ t.outs = [.deviceIn n ⟨n + 1, fieldAt (s.profOf n) 12 1 % 16, true⟩] ∧
      (t.port n).lds.polling = true) := by
  have hup : s.ldsRoute n (n + 1) = true := by simp [State.ldsRoute, hroute]
  have hentry : ((s.entry n).state == 4 || (s.entry n).state == 5) = true := by simpa using hstate
  refine .guarded rfl (by simp [hown, hentry, hep, hmicro, hframe, hhub, hup, hidle, hfresh]) ?_
  rw [if_neg Bool.false_ne_true, State.lds_modLds_self]
  have hemit (u : State) (o : Out) : (u.emit o).port n = u.port n := rfl
  rw [hemit, State.lds_modLds_self]
  exact ⟨rfl, rfl, rfl⟩

theorem ldsHeartbeatOutcome_completes {pid : Nat} {bs : List Byte} (hown : s.ldsOwns n = true)
    (hpoll : (s.port n).lds.polling = true) : Completes (.ldsHeartbeatOutcome n (.data pid bs)) s (fun t =>
      (t.entry n).state = 4 ∧ (t.entry n).hbRec = bs.take 64 ∧ (t.entry n).hbCnt = ((s.entry n).hbCnt + 1) % 65536 ∧
      (t.port n).lds.misses = 0 ∧ (t.port n).lds.polling = false ∧ t.outs = [.deviceAck n]) := by
  refine .did (congrArg done (if_neg (by simp [hown, hpoll]))) ?_
  dsimp only
  rw [State.entry, State.lds_modLds_self, State.lds_setEntry_self, State.outs_modLds, State.outs_setEntry]
  exact ⟨rfl, rfl, rfl, rfl, rfl, State.iqPass_outs (k := n) (s.fresh.emit (.deviceAck n)) bs⟩

end

/-- Settles O54: each command by what Lodestar sends and what its work on the port shows after it. -/
theorem lodestarCommandsComplete : Obligations.LodestarCommandsComplete := by
  intro n pid bs s hown
  refine ⟨ldsEnumStart_completes hown, ldsConnectWaitEnd_completes hown, fun hstep => ?_, fun hstep hroute => ?_,
    ldsControlComplete_devDesc8 hown, ldsControlComplete_setAddress hown, ldsRequestTimeout_completes hown,
    fun hstep hmore => ?_, fun hstep hlast => ?_, ldsHeartbeatPoll_completes hown, ldsHeartbeatOutcome_completes hown⟩
  · have he : execLdsEnumWaitEnd n s = done (s.fresh.ldsGet n 0 .devDesc8 0x100 0 8) := by
      simp [execLdsEnumWaitEnd, hown, hstep]
    exact ldsEnumWaitEnd_completes he rfl
  · have he : execLdsEnumWaitEnd n s = done (s.fresh.ldsGet n (n + 1) .devDesc18 0x100 0 18) := by
      simp [execLdsEnumWaitEnd, hown, hstep]
    exact ldsEnumWaitEnd_completes he (by simp [State.ldsRoute, hroute])
  · exact .guarded rfl (by rw [hown, hstep]; rfl) (s.fresh.ldsRecord_sends n hmore)
  · exact .guarded rfl (by rw [hown, hstep]; rfl) (s.fresh.ldsRecord_ends n hlast)

end Sys2Proof.Machine
end

section
/-! SUPPORT. What lies outside the fault words and the hidden record of a fault block, and the operations of a block's
action and of its restore that change nothing else. -/

namespace Sys2Proof.Machine

/-! ## The parts outside a fault block -/

/-- The part is neither a field of the fault words of block `c` nor its hidden record. -/
def Part.Spares (c : FBlk) : Part → Prop
  | .flt i => i ≠ c.idx
  | .field k => k < c.base * 32 ∨ (c.base + 24) * 32 ≤ k
  | _ => True

/-- The part belongs to no fault block. -/
def Part.Unfaulted (p : Part) : Prop := ∀ c, p.Spares c

/-- The words outside every fault block's, by the blocks of the address map. -/
theorem Part.unfaulted_field {f : Field} {a l w v : Nat} {c : Acc} {z : Bool} (hf : f = ⟨a, l, w, c, v, z⟩)
    (h : l < 32 ∧ (a < 0x100 ∨ 0x118 ≤ a ∧ a < 0x2100 ∨ 0x2118 ≤ a ∧ a < 0x5900 ∨ 0x5918 ≤ a ∧ a < 0x9100 ∨
      0x9118 ≤ a ∧ a < 0xA100 ∨ 0xA118 ≤ a ∧ a < 0xB100 ∨ 0xB118 ≤ a ∧ a < 0xC000 ∨
      0xC000 ≤ a ∧ a < 0xE000 ∧ a % 0x400 < 0x100 ∨ 0xE000 ≤ a ∧ a < 0x10000 ∧ a % 0x200 < 0x100 ∨
      0x10000 ≤ a ∧ a < 0x1C000 ∧ a % 0x400 < 0x100 ∨ 0x1C000 ≤ a)) : Part.Unfaulted (.field f.key) := by
  intro d
  subst hf
  show a * 32 + l < d.base * 32 ∨ (d.base + 24) * 32 ≤ a * 32 + l
  cases d <;> simp only [FBlk.base] <;> omega

section
variable {f : Field} {l w v : Nat} {c : Acc} {z : Bool}

theorem Part.unfaulted_prt {n o : Nat} (hf : f = ⟨0x10000 + 0x400 * (n % 48) + o, l, w, c, v, z⟩)
    (h : o < 0x100 ∧ l < 32) : Part.Unfaulted (.field f.key) :=
  Part.unfaulted_field hf (by omega)

/-- A word of the Almanac. -/
theorem Part.unfaulted_alm {n k : Nat} (hf : f = ⟨0x10000 + 0x400 * (n % 48) + 0x80 + 4 * (k % 16), l, w, c, v, z⟩)
    (h : l < 32) : Part.Unfaulted (.field f.key) :=
  Part.unfaulted_field hf (by omega)

theorem Part.unfaulted_ups {n o : Nat} (hf : f = ⟨0xC000 + 0x400 * (n % 4) + o, l, w, c, v, z⟩)
    (h : o < 0x100 ∧ l < 32) : Part.Unfaulted (.field f.key) :=
  Part.unfaulted_field hf (by omega)

theorem Part.unfaulted_qd {n o : Nat} (hf : f = ⟨0xE000 + 0x200 * (n % 12) + o, l, w, c, v, z⟩)
    (h : o < 0x100 ∧ l < 32) : Part.Unfaulted (.field f.key) :=
  Part.unfaulted_field hf (by omega)

end

section
variable {s t : State} {c : FBlk}

theorem Only.spares (h : Only Part.Unfaulted s t) (c : FBlk) : Only (Part.Spares c) s t :=
  fun p hp => h p fun hall => hp (hall c)

theorem Only.flt (h : Only (Part.Spares c) s t) : t.flt c = s.flt c := h (.flt c.idx) fun hne => hne rfl

/-- A field of the fault words of the block reads as before. -/
theorem Only.faultWord {f : Field} {o l w v : Nat} {x : Acc} {z : Bool} (h : Only (Part.Spares c) s t)
    (hf : f = ⟨c.base + o, l, w, x, v, z⟩) (ho : o < 24) (hl : l < 32) : t.rd f = s.rd f := by
  refine h (.field f.key) ?_ f rfl
  subst hf
  show ¬((c.base + o) * 32 + l < c.base * 32 ∨ (c.base + 24) * 32 ≤ (c.base + o) * 32 + l)
  omega

end

/-! ## Operations that touch no fault block -/

section
variable (s : State) (n : Nat)

theorem State.evalDemand_unfaulted : Only Part.Unfaulted s (s.evalDemand n) := by
  apply State.evalDemand_only (.refl _ _)
  all_goals
    intros
    first
      | exact fun _ => trivial
      | exact Part.unfaulted_prt rfl (by decide)
      | exact Part.unfaulted_field rfl (by omega)

theorem State.markOff_unfaulted : Only Part.Unfaulted s (s.markOff n) := by
  apply State.markOff_only (.refl _ _)
  all_goals
    intros
    first
      | exact fun _ => trivial
      | exact Part.unfaulted_prt rfl (by decide)
      | exact Part.unfaulted_field rfl (by omega)

theorem State.demandFall_unfaulted : Only Part.Unfaulted s (s.demandFall n) := by
  apply State.demandFall_only (.refl _ _)
  all_goals
    intros
    first
      | exact fun _ => trivial
      | exact Part.unfaulted_prt rfl (by decide)
      | exact Part.unfaulted_field rfl (by omega)

theorem State.dropPower_unfaulted : Only Part.Unfaulted s (s.dropPower n) := by
  apply State.dropPower_only (.refl _ _)
  all_goals
    intros
    first
      | exact fun _ => trivial
      | exact Part.unfaulted_prt rfl (by decide)
      | exact Part.unfaulted_field rfl (by omega)

theorem State.discharge_unfaulted : Only Part.Unfaulted s (s.discharge n) := by
  apply State.discharge_only (.refl _ _)
  all_goals
    intros
    first
      | exact fun _ => trivial
      | exact Part.unfaulted_prt rfl (by decide)
      | exact Part.unfaulted_field rfl (by omega)

theorem State.ttAndAlmanac_unfaulted (cut counted : Bool) :
    Only Part.Unfaulted s (s.ttAndAlmanac n cut counted) := by
  apply State.ttAndAlmanac_only (.refl _ _)
  all_goals first | exact fun _ => trivial | exact Part.unfaulted_prt rfl (by decide)

theorem State.queueReset_unfaulted : Only Part.Unfaulted s (s.queueReset n) := by
  apply State.queueReset_only (.refl _ _)
  all_goals
    intros
    first
      | exact fun _ => trivial
      | exact Part.unfaulted_prt rfl (by decide)
      | exact Part.unfaulted_field rfl (by omega)

theorem State.handoverRestart_unfaulted : Only Part.Unfaulted s (s.handoverRestart n) := by
  apply State.handoverRestart_only (.refl _ _)
  all_goals
    intros
    first
      | exact fun _ => trivial
      | exact Part.unfaulted_prt rfl (by decide)
      | exact Part.unfaulted_field rfl (by omega)

theorem State.setHub_unfaulted (st : Nat) : Only Part.Unfaulted s (s.setHub n st) := by
  apply State.setHub_only (.refl _ _)
  all_goals exact Part.unfaulted_field rfl (by omega)

theorem State.fbiHiZ_unfaulted : Only Part.Unfaulted s (s.fbiHiZ n) :=
  State.fbiHiZ_only (.refl _ _) n (fun _ => trivial) (fun _ => trivial)

theorem State.detachPers_unfaulted : Only Part.Unfaulted s (s.detachPers n) := by
  apply State.detachPers_only (.refl _ _)
  all_goals
    intros
    first
      | exact fun _ => trivial
      | exact Part.unfaulted_prt rfl (by decide)
      | exact Part.unfaulted_ups rfl (by decide)
      | exact Part.unfaulted_field rfl (by omega)

theorem State.attachPers_unfaulted : Only Part.Unfaulted s (s.attachPers n) :=
  State.attachPers_only (.refl _ _) n (fun _ => trivial) (Part.unfaulted_ups rfl (by decide))
    (Part.unfaulted_ups rfl (by decide))

theorem State.clearMark_unfaulted : Only Part.Unfaulted s (s.clearMark n) :=
  State.clearMark_only (.refl _ _) n (Part.unfaulted_field rfl (by omega))

theorem State.tryApply_unfaulted : Only Part.Unfaulted s (s.tryApply n) := by
  apply State.tryApply_only (.refl _ _)
  all_goals first | exact fun _ => trivial | exact Part.unfaulted_prt rfl (by decide)

theorem State.faultPin_unfaulted : Only Part.Unfaulted s (s.faultPin n) := by
  apply State.faultPin_only (.refl _ _)
  all_goals first | exact fun _ => trivial | exact Part.unfaulted_field rfl (by omega)

theorem State.engineStop_unfaulted : Only Part.Unfaulted s (s.engineStop n) := by
  apply State.engineStop_only (.refl _ _)
  all_goals
    intros
    first
      | exact fun _ => trivial
      | exact Part.unfaulted_prt rfl (by decide)
      | exact Part.unfaulted_field rfl (by omega)

theorem State.journal_unfaulted (code inst outcome slot reason arg : Nat) :
    Only Part.Unfaulted s (s.journal code inst outcome slot reason arg) := by
  apply State.journal_only (.refl _ _)
  all_goals first | exact fun _ => trivial | exact Part.unfaulted_field rfl (by omega)

theorem State.sectorArm_unfaulted : Only Part.Unfaulted s (s.sectorArm n) := by
  apply State.sectorArm_only (.refl _ _)
  all_goals
    intros
    first
      | exact fun _ => trivial
      | exact Part.unfaulted_prt rfl (by decide)
      | exact Part.unfaulted_field rfl (by omega)

end

/-! ## Image values -/

theorem portImageFields_unfaulted (n : Nat) : ∀ f ∈ portImageFields n, Part.Unfaulted (.field f.key) := by
  unfold portImageFields
  repeat first
    | refine List.forall_mem_cons.mpr ⟨Part.unfaulted_prt rfl (by decide), ?_⟩
    | refine List.forall_mem_cons.mpr ⟨Part.unfaulted_alm rfl (by decide), ?_⟩
  exact List.forall_mem_nil _

theorem quadImage_unfaulted (q : Nat) : ∀ f ∈ quadImage q, Part.Unfaulted (.field f.key) := by
  unfold quadImage
  repeat refine List.forall_mem_cons.mpr ⟨Part.unfaulted_qd rfl (by decide), ?_⟩
  exact List.forall_mem_nil _

theorem secImage_unfaulted (i : Nat) : ∀ f ∈ secImage i, Part.Unfaulted (.field f.key) := by
  unfold secImage
  repeat refine List.forall_mem_cons.mpr ⟨Part.unfaulted_field rfl (by omega), ?_⟩
  exact List.forall_mem_nil _

end Sys2Proof.Machine
end

section
/-! PROOFS. The fault timers: the action at the end of the grace time, the acknowledge, and the restore of a block. -/

namespace Sys2Proof.Machine

/-! ## The action of a block leaves its own fault words (R378) -/

section
variable {s t : State}

/-- What a sector restart does to one port of the sector. -/
theorem State.sectorPort_unfaulted (s : State) (n : Nat) (x : PortX → PortX) : Only Part.Unfaulted s
    ((((((if (s.port n).demand then s.demandFall n else (s.dropPower n).discharge n).ttAndAlmanac n true false).queueReset
      n).handoverRestart n).portToImage n).setHub n HS.off |>.modPort n x) := by
  have h1 : Only Part.Unfaulted s (if (s.port n).demand then s.demandFall n else (s.dropPower n).discharge n) :=
    .ite (s.demandFall_unfaulted n) ((s.dropPower_unfaulted n).trans (State.discharge_unfaulted _ n))
  have h2 := ((h1.trans (State.ttAndAlmanac_unfaulted _ n true false)).trans (State.queueReset_unfaulted _ n)).trans
    (State.handoverRestart_unfaulted _ n)
  have h3 := State.portToImage_only h2 n (fun _ => trivial) (portImageFields_unfaulted n)
    (Part.unfaulted_prt rfl (by decide))
  exact (h3.trans (State.setHub_unfaulted _ n _)).modPort _ _ fun _ => trivial

theorem State.sectorRestart_unfaulted (s : State) (i : Nat) : Only Part.Unfaulted s (s.sectorRestart i) := by
  unfold State.sectorRestart
  extract_lets s1 s2 present vconn s3 s4
  have k1 : Only Part.Unfaulted s s1 :=
    Only.forEach (.refl _ _) _ _ (fun u n hu => hu.trans (u.sectorPort_unfaulted n _))
  have k2 : Only Part.Unfaulted s s2 := k1.forEach _ _ (fun u q hu => hu.imageAll _ (quadImage_unfaulted q))
  have k3 : Only Part.Unfaulted s s3 := k2.imageAll _ (secImage_unfaulted i)
  have k4 : Only Part.Unfaulted s s4 :=
    ((k3.wr _ _ (Part.unfaulted_field rfl (by omega))).wr _ _ (Part.unfaulted_field rfl (by omega))).modSec _ _
      fun _ => trivial
  exact (k4.trans (State.engineStop_unfaulted _ _)).trans (State.engineStop_unfaulted _ _)

/-- A word of another fault block. -/
theorem Part.spares_of_apart {c d : FBlk} {f : Field} {o l w v : Nat} {x : Acc} {z : Bool}
    (h : d.base + 24 ≤ c.base ∨ c.base + 24 ≤ d.base) (hf : f = ⟨d.base + o, l, w, x, v, z⟩) (ho : o < 24) (hl : l < 32) :
    Part.Spares c (.field f.key) := by
  subst hf
  show (d.base + o) * 32 + l < c.base * 32 ∨ (c.base + 24) * 32 ≤ (d.base + o) * 32 + l
  omega

/-- The words of a block of which the part has only one lie apart from those of every other block. -/
theorem FBlk.apart {c d : FBlk} (h : c = .pkm ∨ c = .swx ∨ c = .pwr ∨ c = .nw ∨ c = .sys) (hne : d ≠ c) :
    d.base + 24 ≤ c.base ∨ c.base + 24 ≤ d.base := by
  rcases h with rfl | rfl | rfl | rfl | rfl <;> cases d <;> simp only [FBlk.base] <;> first | omega | exact absurd rfl hne

/-- The safe state stops the timers of the other blocks and leaves the block that brought it (R379, R385). -/
theorem State.safeState_spares {c : FBlk} (h : c = .pkm ∨ c = .swx ∨ c = .pwr ∨ c = .nw ∨ c = .sys) (s : State) (k : Nat) :
    Only (Part.Spares c) s (s.safeState c k) := by
  unfold State.safeState
  extract_lets s1 s2 s3
  have k1 : Only Part.Unfaulted s s1 := Only.forEach (.refl _ _) _ _ fun u n hu => by
    refine Only.trans ?_ (State.fbiHiZ_unfaulted _ n)
    exact .ite (hu.trans (u.demandFall_unfaulted n)) hu
  have k2 : Only Part.Unfaulted s s2 := k1.forEach _ _ fun u n hu => hu.trans (u.detachPers_unfaulted n)
  have k3 : Only (Part.Spares c) s s3 := (k2.spares c).foldl _ _ fun u d hu => by
    split
    · next hd => exact hu.wr _ _ (Part.spares_of_apart (FBlk.apart h hd.1) rfl (by decide) (by decide))
    · exact hu
  have k4 : Only (Part.Spares c) s (s3.forEach (List.range 11) (fun t e => t.engineStop e)) :=
    k3.forEach _ _ fun u e hu => hu.trans ((u.engineStop_unfaulted e).spares c)
  exact (Only.setSafe k4 true trivial).trans ((State.journal_unfaulted _ _ _ _ _ _ _).spares c)

/-- What a block's action does changes nothing of the block's own fault words and record. -/
theorem State.actionEffect_spares {c : FBlk} (hc : c ≠ .icu) (s : State) (k : Nat) :
    Only (Part.Spares c) s (s.actionEffect c k) := by
  unfold State.actionEffect
  split
  case h_1 n => exact (s.evalDemand_unfaulted n).spares _
  case h_2 q =>
    exact (Only.modQuad (.refl _ _) _ _ trivial).forEach _ _ fun u n hu => hu.trans ((u.markOff_unfaulted n).spares _)
  case h_3 i =>
    have k1 : Only (Part.Spares (.sec i)) s (s.forEach (secPorts i) (fun t n =>
        if t.rd (FLT.FLTTIMERS.STATE (.prt n)) = 1 then t.wr (FLT.FLTTIMERS.STATE (.prt n)) 0 else t)) :=
      Only.forEach (.refl _ _) _ _ fun u n hu => by
        refine .ite (hu.wr _ _ (Part.spares_of_apart (d := .prt n) ?_ rfl (by decide) (by decide))) hu
        simp only [FBlk.base]
        omega
    exact k1.trans ((State.sectorRestart_unfaulted _ i).spares _)
  case h_4 u => exact (Only.modUp (.refl _ _) _ _ trivial).trans ((State.detachPers_unfaulted _ u).spares _)
  case h_5 => exact absurd rfl hc
  case h_6 hprt hqd hsec hups hicu =>
    refine State.safeState_spares ?_ s k
    cases c with
    | prt n => exact absurd rfl (hprt n)
    | qd q => exact absurd rfl (hqd q)
    | sec i => exact absurd rfl (hsec i)
    | ups u => exact absurd rfl (hups u)
    | icu => exact absurd rfl hc
    | pkm | swx | pwr | nw | sys => simp

/-- The block is a port's. -/
def FBlk.isPort : FBlk → Bool
  | .prt _ => true
  | _ => false

/-- An action is in force once it is taken, and its block latches or waits the quiet period (R378, R380, R381). -/
theorem State.takeAction_inForce {c : FBlk} (s : State) (k sev : Nat) (hc : c ≠ .icu)
    (hidle : (s.flt c).action = false) : ((s.takeAction c k sev).flt c).action = true ∧
      (s.takeAction c k sev).rd (FLT.FLTTIMERS.STATE c) =
        if 3 ≤ s.rd (FLT.RECOV.WINDOW c) ∨ c.isPort = true ∧ k = 1 then 4 else 2 := by
  unfold State.takeAction
  extract_lets latch s1 u s2
  rw [hidle, if_neg Bool.false_ne_true, if_neg hc]
  have h2 : Only (Part.Spares c) s2 ((s2.faultPin sev).actionEffect c k) :=
    ((s2.faultPin_unfaulted sev).spares c).trans (State.actionEffect_spares hc _ k)
  have hflt : s2.flt c = s1.flt c := by
    dsimp only [s2, u]
    split
    · split
      · split <;> rfl
      · rfl
    · rfl
  have hlatch : latch = true ↔ 3 ≤ s.rd (FLT.RECOV.WINDOW c) ∨ c.isPort = true ∧ k = 1 := by
    cases c <;> simp [latch, FBlk.isPort]
  have hstate : s2.rd (FLT.FLTTIMERS.STATE c) = if latch = true then 4 else 2 := by
    have hu : u.rd (FLT.FLTTIMERS.STATE c) = 4 :=
      (State.rd_wr_ne _ _ (Field.key_ne rfl rfl (by omega))).trans (State.rd_wr_self _ _ _)
    have hlast : (u.raise (FLT.RECOV.LASTING c)).rd (FLT.FLTTIMERS.STATE c) = 4 :=
      (State.rd_wr_ne _ _ (Field.key_ne rfl rfl (by omega))).trans hu
    dsimp only [s2]
    split
    · split
      · split
        · exact hlast
        · exact hu
      · exact hu
    · exact State.rd_wr_self _ _ _
  rw [h2.flt, hflt, h2.faultWord (f := FLT.FLTTIMERS.STATE c) rfl (by decide) (by decide), hstate]
  refine ⟨congrArg FaultX.action (State.flt_modFlt_self s c _), ?_⟩
  simp only [hlatch]

end

/-! ## The restore of a block (R378, R380) -/

section
variable {s : State}

/-- The fault words of a port lie above those of the sectors. -/
theorem FBlk.prt_above (n i : Nat) : (FBlk.prt n).base + 24 ≤ (FBlk.sec i).base ∨ (FBlk.sec i).base + 24 ≤ (FBlk.prt n).base := by
  simp only [FBlk.base]
  omega

/-- A port's word as a part that the sector's block does not hold. -/
theorem Part.spares_prt {i n : Nat} {f : Field} {o l w v : Nat} {x : Acc} {z : Bool}
    (hf : f = ⟨(FBlk.prt n).base + o, l, w, x, v, z⟩) (h : o < 24 ∧ l < 32) : Part.Spares (.sec i) (.field f.key) :=
  Part.spares_of_apart (FBlk.prt_above n i) hf h.1 h.2

/-- A fault of a port changes nothing of its sector's block (R375, R378). -/
theorem State.recordPort_spares {n : Nat} (hn : n < 48) (s : State) (i k : Nat) :
    Only (Part.Spares (.sec i)) s (s.record (.prt n) k) := by
  have hidx : Part.Spares (.sec i) (.flt (FBlk.prt n).idx) := by
    show n ≠ 60 + i
    omega
  have hact (u : State) (sev : Nat) : Only (Part.Spares (.sec i)) u (u.takeAction (.prt n) k sev) := by
    unfold State.takeAction
    extract_lets latch s1 v s2
    have k1 : Only (Part.Spares (.sec i)) u s1 := (Only.refl _ u).modFlt _ _ hidx
    have kv : Only (Part.Spares (.sec i)) u v :=
      (k1.wr _ _ (Part.spares_prt rfl (by decide))).raise _ (Part.spares_prt rfl (by decide))
    have k2 : Only (Part.Spares (.sec i)) u s2 :=
      .ite (.ite (kv.raise _ (Part.spares_prt rfl (by decide))) kv) (k1.wr _ _ (Part.spares_prt rfl (by decide)))
    refine .ite (.refl _ _) ?_
    rw [if_neg nofun]
    exact (k2.trans ((s2.faultPin_unfaulted sev).spares _)).trans ((State.evalDemand_unfaulted _ n).spares _)
  unfold State.record
  extract_lets sev s1 s2
  have k1 : Only (Part.Spares (.sec i)) s s1 := by
    apply State.recordOnly_only (.refl _ _)
    all_goals
      intros
      first
        | exact trivial
        | exact Part.spares_prt rfl (by decide)
        | exact Part.unfaulted_field rfl (by omega) _
  have k2 : Only (Part.Spares (.sec i)) s s2 := k1.modFlt _ _ hidx
  exact .ite k1 (.ite (k1.trans (hact s1 sev)) (.ite (.ite (k2.wr _ _ (Part.spares_prt rfl (by decide))) k2) k1))

theorem State.recordPresent_spares {n : Nat} (hn : n < 48) (s : State) (i : Nat) :
    Only (Part.Spares (.sec i)) s (s.recordPresent (.prt n)) :=
  Only.forEach (.refl _ _) _ _ fun u k hu => hu.trans (u.recordPort_spares hn i k)

theorem mem_secPorts_lt {i n : Nat} (hi : i < 4) (hn : n ∈ secPorts i) : n < 48 := by
  obtain ⟨k, hk, rfl⟩ := List.mem_map.mp hn
  have := List.mem_range.mp hk
  omega

/-- A fold whose every step keeps to the parts. -/
theorem Only.foldl_mem {α : Type} {P : Part → Prop} {s t : State} {l : List α} {g : State → α → State} (h : Only P s t)
    (hg : ∀ (u : State) (a : α), a ∈ l → Only P s u → Only P s (g u a)) : Only P s (l.foldl g t) := by
  induction l generalizing t with
  | nil => exact h
  | cons a l ih =>
    exact ih (hg t a (List.mem_cons_self ..) h) fun u b hb => hg u b (List.mem_cons_of_mem _ hb)

/-- The blocks whose restore is their own and not a reset of the part (R378). -/
def FBlk.Restores : FBlk → Prop
  | .prt _ | .qd _ | .ups _ | .icu => True
  | .sec i => i < 4
  | _ => False

/-- A restore ends the action and leaves the block's fault words as they are. -/
theorem State.restoreBlock_spares {c : FBlk} (hc : c.Restores) (s : State) :
    Only (Part.Spares c) (s.modFlt c (fun x => { x with action := false, major := 0 })) (s.restoreBlock c) := by
  unfold State.restoreBlock
  extract_lets s1
  split
  case h_1 n => exact (s1.evalDemand_unfaulted n).spares _
  case h_2 q =>
    exact (Only.modQuad (.refl _ _) _ _ trivial).forEach _ _ fun u n hu =>
      .ite hu (hu.trans (((u.clearMark_unfaulted n).trans (State.tryApply_unfaulted _ n)).spares _))
  case h_3 i =>
    refine ((s1.sectorArm_unfaulted i).spares _).foldl_mem fun u n hn hu => hu.trans (u.recordPresent_spares ?_ i)
    exact mem_secPorts_lt hc hn
  case h_4 u => exact (Only.modUp (.refl _ _) _ _ trivial).trans ((State.attachPers_unfaulted _ u).spares _)
  case h_5 => exact .refl _ _
  case h_6 hprt hqd hsec hups hicu =>
    cases c with
    | prt n => exact absurd rfl (hprt n)
    | qd q => exact absurd rfl (hqd q)
    | sec i => exact absurd rfl (hsec i)
    | ups u => exact absurd rfl (hups u)
    | icu => exact absurd rfl hicu
    | pkm | swx | pwr | nw | sys => exact hc.elim

/-- A recovery clears the timer, ends the action and is counted; LATCHED stays as it was (R380). -/
theorem State.recover_restores {c : FBlk} (hc : c.Restores) (s : State) :
    (s.recover c).rd (FLT.FLTTIMERS.STATE c) = 0 ∧ ((s.recover c).flt c).action = false ∧
      CountsUp (FLT.RECOV.COUNT c) s (s.recover c) ∧
      (s.recover c).rd (FLT.RECOV.LATCHED c) = s.rd (FLT.RECOV.LATCHED c) := by
  unfold State.recover
  generalize hu : (s.wr (FLT.FLTTIMERS.STATE c) 0).countRecovery c = u
  have hspare := State.restoreBlock_spares hc u
  have hstate : u.rd (FLT.FLTTIMERS.STATE c) = 0 := by
    rw [← hu]
    refine (State.rd_wr_ne _ _ (Field.key_ne rfl rfl (by omega))).trans ?_
    refine (State.rd_wr_ne _ _ (Field.key_ne rfl rfl (by omega))).trans ?_
    exact State.rd_wr_self _ _ _
  have hcount : CountsUp (FLT.RECOV.COUNT c) s u := by
    rw [← hu]
    refine (State.rd_wr_ne _ _ (Field.key_ne rfl rfl (by omega))).trans ?_
    exact CountsUp.bump (State.rd_wr_ne s 0 (Field.key_ne rfl rfl (by omega)))
  have hlatched : u.rd (FLT.RECOV.LATCHED c) = s.rd (FLT.RECOV.LATCHED c) := by
    rw [← hu]
    refine (State.rd_wr_ne _ _ (Field.key_ne rfl rfl (by omega))).trans ?_
    refine (State.rd_wr_ne _ _ (Field.key_ne rfl rfl (by omega))).trans ?_
    exact State.rd_wr_ne _ _ (Field.key_ne rfl rfl (by omega))
  rw [CountsUp, hspare.faultWord (f := FLT.FLTTIMERS.STATE c) rfl (by decide) (by decide), hspare.flt,
    hspare.faultWord (f := FLT.RECOV.COUNT c) rfl (by decide) (by decide),
    hspare.faultWord (f := FLT.RECOV.LATCHED c) rfl (by decide) (by decide)]
  exact ⟨hstate, congrArg FaultX.action (State.flt_modFlt_self u c _), hcount, hlatched⟩

/-- The restore of a block of the whole part is a reset of the part (R378). -/
theorem State.restoreBlock_device {c : FBlk} (hc : c = .pkm ∨ c = .swx ∨ c = .pwr ∨ c = .nw ∨ c = .sys) (s : State) :
    s.restoreBlock c = ((s.modFlt c (fun x => { x with action := false, major := 0 })).devReset 4).startBoot := by
  rcases hc with rfl | rfl | rfl | rfl | rfl <;> rfl

/-- The word of the strap pins lies below every fault word that a recovery writes. -/
theorem State.rd_wr_fault_strap {c : FBlk} {f : Field} {o l w v : Nat} {x : Acc} {z : Bool} (s : State) (y : Nat)
    (hf : f = ⟨c.base + o, l, w, x, v, z⟩) : (s.wr f y).rd SYS.STRAP.MODE = s.rd SYS.STRAP.MODE := by
  refine State.rd_wr_ne s y ?_
  have hbase : 0x100 ≤ c.base := by cases c <;> simp only [FBlk.base] <;> omega
  have hkey : SYS.STRAP.MODE.key < 0x100 * 32 := by decide
  subst hf
  show _ ≠ (c.base + o) * 32 + l
  omega

/-! ## The blocks by their index (R374) -/

theorem FBlk.restores_ofIdx (b : Fin 74) (h : b.val < 68 ∨ b.val = 71) : (FBlk.ofIdx b).Restores := by
  obtain ⟨b, hb⟩ := b
  dsimp only at h
  simp only [FBlk.ofIdx]
  split_ifs <;> first | trivial | (show _ - 60 < 4; omega) | omega

theorem FBlk.device_ofIdx (b : Fin 74) (h : ¬(b.val < 68 ∨ b.val = 71)) : FBlk.ofIdx b = .pkm ∨ FBlk.ofIdx b = .swx ∨
    FBlk.ofIdx b = .pwr ∨ FBlk.ofIdx b = .nw ∨ FBlk.ofIdx b = .sys := by
  obtain ⟨b, hb⟩ := b
  dsimp only at h
  obtain rfl | rfl | rfl | rfl | rfl : b = 68 ∨ b = 69 ∨ b = 70 ∨ b = 72 ∨ b = 73 := by omega
  all_goals simp [FBlk.ofIdx]

theorem FBlk.isPort_ofIdx (b : Fin 74) : (FBlk.ofIdx b).isPort = true ↔ b.val < 48 := by
  simp only [FBlk.ofIdx]
  split_ifs <;> simp_all [FBlk.isPort]

theorem FBlk.ofIdx_ne_icu (b : Fin 74) (h : b.val ≠ 71) : FBlk.ofIdx b ≠ .icu := by
  simp only [FBlk.ofIdx]
  split_ifs <;> simp

theorem wordFields_fltack : ∀ b : Fin 74, wordFields ((FBlk.ofIdx b).base + 12) =
    [FLT.FLTACK.ACK (FBlk.ofIdx b), FLT.FLTACK.CLRLATCH (FBlk.ofIdx b)] := by
  decide

/-- FLTACK stores nothing. -/
theorem State.storeWord_fltack (u : State) (b : Fin 74) (v : Nat) :
    u.storeWord ((FBlk.ofIdx b).base + 12) v = u := by
  unfold State.storeWord
  rw [wordFields_fltack]
  split <;> rfl

/-- The word FLTACK: the acknowledge first, then the latch (R377, R381). -/
theorem State.wordEffect_ackWord (u : State) (r : Requester) (b : Fin 74) (v old : Nat) (test : Option Bool)
    (hclr : pulses v (FLT.FLTACK.CLRLATCH (FBlk.ofIdx b)) = true) (pass : Bool) (htest : test = some pass) :
    u.wordEffect r ((FBlk.ofIdx b).base + 12) v old test =
      (if pulses v (FLT.FLTACK.ACK (FBlk.ofIdx b)) then u.ackEffect (FBlk.ofIdx b) else u).clrlatchEffect
        (FBlk.ofIdx b) pass := by
  subst htest
  simp only [State.wordEffect, faultWord_fltack, if_true, hclr]

theorem State.ackEffect_stops {u : State} {c : FBlk} (h : u.rd (FLT.FLTTIMERS.STATE c) = 1) :
    (u.ackEffect c).rd (FLT.FLTTIMERS.STATE c) = 0 := by
  rw [State.ackEffect, if_pos h, State.rd_modFlt]
  exact State.rd_wr_self _ _ _

theorem State.ackEffect_idle {u : State} {c : FBlk} (h : u.rd (FLT.FLTTIMERS.STATE c) ≠ 1) : u.ackEffect c = u :=
  if_neg h

theorem State.clrlatchEffect_idle {u : State} {c : FBlk} (pass : Bool) (h : u.rd (FLT.FLTTIMERS.STATE c) ≠ 4) :
    u.clrlatchEffect c pass = u := if_pos h

/-- A latch that is cleared with its test passed restores the block (R381). -/
theorem State.clrlatchEffect_restores {u : State} {c : FBlk} {pass : Bool} (hc : c.Restores)
    (h : u.rd (FLT.FLTTIMERS.STATE c) = 4) (hpass : u.testPasses c pass = true) :
    (u.clrlatchEffect c pass).rd (FLT.FLTTIMERS.STATE c) = 0 ∧ (u.clrlatchEffect c pass).rd (FLT.RECOV.LATCHED c) = 0 ∧
      ((u.clrlatchEffect c pass).flt c).action = false := by
  rw [State.clrlatchEffect, if_neg (by simp [h]), if_pos hpass]
  obtain ⟨hstate, haction, -, hlatched⟩ := State.recover_restores hc
    (((u.wr (FLT.RECOV.LATCHED c) 0).wr (FLT.RECOV.WINDOW c) 0).wr (FLT.RECOV.LASTING c) 0)
  refine ⟨hstate, hlatched.trans ?_, haction⟩
  refine (State.rd_wr_ne _ _ (Field.key_ne rfl rfl (by omega))).trans ?_
  refine (State.rd_wr_ne _ _ (Field.key_ne rfl rfl (by omega))).trans ?_
  exact State.rd_wr_self _ _ _

/-! ## The source a grace timer's end acts on (R377, R380) -/

/-- The source of the action among the unacknowledged major faults `m`: of a port source 1 first, else the lowest. -/
def FBlk.graceSource (c : FBlk) (m : Nat) : Nat :=
  match c with
  | .prt _ => if bitAt m 1 then 1 else ((List.range 16).find? (bitAt m)).getD 0
  | _ => ((List.range 16).find? (bitAt m)).getD 0

theorem exec_graceExpire (b : Fin 74) (s : State) : exec (.graceExpire b) s =
    doneIf (s.rd (FLT.FLTTIMERS.STATE (FBlk.ofIdx b)) == 1) s.fresh
      (s.fresh.takeAction (FBlk.ofIdx b) ((FBlk.ofIdx b).graceSource (s.flt (FBlk.ofIdx b)).major) 2) := by
  show execGraceExpire b s = _
  unfold execGraceExpire
  generalize FBlk.ofIdx b = c
  cases c <;> rfl

/-- A port's action is for source 1 just where source 1 waits. -/
theorem FBlk.port_graceSource_eq_one {c : FBlk} {m : Nat} :
    (c.isPort = true ∧ c.graceSource m = 1) ↔ c.isPort = true ∧ bitAt m 1 = true := by
  cases c with
  | prt n =>
    refine and_congr_right fun _ => ⟨fun h => ?_, fun h => if_pos h⟩
    by_contra hbit
    have hfind : ((List.range 16).find? (bitAt m)).getD 0 = 1 := (if_neg hbit).symm.trans h
    cases hres : (List.range 16).find? (bitAt m) with
    | none => simp [hres] at hfind
    | some k =>
      obtain rfl : k = 1 := by simpa [hres] using hfind
      exact hbit (List.find?_some hres)
  | _ => simp [FBlk.isPort]

/-! ## The commands -/

section
variable {b : Fin 74}

theorem graceExpire_completes (hstate : s.rd (FLT.FLTTIMERS.STATE (FBlk.ofIdx b)) = 1)
    (hidle : (s.flt (FBlk.ofIdx b)).action = false) (hb : b.val ≠ 71) : Completes (.graceExpire b) s (fun t =>
      (t.flt (FBlk.ofIdx b)).action = true ∧ t.rd (FLT.FLTTIMERS.STATE (FBlk.ofIdx b)) =
        (if 3 ≤ s.rd (FLT.RECOV.WINDOW (FBlk.ofIdx b)) ∨
          b.val < 48 ∧ bitAt (s.flt (FBlk.ofIdx b)).major 1 = true then 4 else 2)) := by
  refine .guarded (exec_graceExpire b s) (by simp [hstate]) ?_
  obtain ⟨haction, htimer⟩ := State.takeAction_inForce s.fresh
    ((FBlk.ofIdx b).graceSource (s.flt (FBlk.ofIdx b)).major) 2 (FBlk.ofIdx_ne_icu b hb) hidle
  have hlasting : ((FBlk.ofIdx b).isPort = true ∧ (FBlk.ofIdx b).graceSource (s.flt (FBlk.ofIdx b)).major = 1) ↔
      b.val < 48 ∧ bitAt (s.flt (FBlk.ofIdx b)).major 1 = true :=
    FBlk.port_graceSource_eq_one.trans (and_congr_left' (FBlk.isPort_ofIdx b))
  exact ⟨haction, htimer.trans (if_congr (or_congr Iff.rfl hlasting) rfl rfl)⟩

theorem fltackAck_completes {r : Requester} (w : Word) (hrun : s.phase = .running)
    (hacc : Accepts r ((FBlk.ofIdx b).base + 12) (withBit w.toNat 0 true) s)
    (hstate : s.rd (FLT.FLTTIMERS.STATE (FBlk.ofIdx b)) = 1) : Completes (.fltackAck r b w) s (fun t => ResultOk r t ∧
      t.rd (FLT.FLTTIMERS.STATE (FBlk.ofIdx b)) = 0) := by
  have hlt := (FBlk.ofIdx b).base_lt
  have hgo : pulses (withBit w.toNat 0 true) (FLT.FLTACK.ACK (FBlk.ofIdx b)) = true := pulses_withBit _ rfl rfl
  have hstop : (s.fresh.ackEffect (FBlk.ofIdx b)).rd (FLT.FLTTIMERS.STATE (FBlk.ofIdx b)) = 0 :=
    State.ackEffect_stops (u := s.fresh) hstate
  refine .runWord rfl (by omega) hrun hacc ?_
  rw [State.rd_setResult _ _ _ _, State.storeWord_fltack]
  simp only [State.wordEffect, faultWord_fltack, if_true, hgo]
  split
  · rw [State.clrlatchEffect_idle]
    · exact hstop
    · show (s.fresh.ackEffect (FBlk.ofIdx b)).rd _ ≠ 4
      rw [hstop]
      decide
  · exact hstop

theorem quietEnd_restores {pass : Bool} (hstate : s.rd (FLT.FLTTIMERS.STATE (FBlk.ofIdx b)) = 2)
    (hpass : s.testPasses (FBlk.ofIdx b) pass = true) (hb : b.val < 68 ∨ b.val = 71) :
    Completes (.quietEnd b pass) s (fun t => t.rd (FLT.FLTTIMERS.STATE (FBlk.ofIdx b)) = 0 ∧
      (t.flt (FBlk.ofIdx b)).action = false ∧ CountsUp (FLT.RECOV.COUNT (FBlk.ofIdx b)) s t) := by
  refine .guarded rfl (by simp [hstate]) ?_
  rw [if_pos hpass]
  obtain ⟨htimer, haction, hcount, -⟩ := State.recover_restores (FBlk.restores_ofIdx b hb) s.fresh
  exact ⟨htimer, haction, hcount⟩

theorem quietEnd_restarts {pass : Bool} (hstate : s.rd (FLT.FLTTIMERS.STATE (FBlk.ofIdx b)) = 2)
    (hpass : s.testPasses (FBlk.ofIdx b) pass = true) (hb : ¬(b.val < 68 ∨ b.val = 71)) :
    Completes (.quietEnd b pass) s (fun t => RestartsBoot 4 s t) := by
  refine .guarded rfl (by simp [hstate]) ?_
  rw [if_pos hpass, State.recover, State.restoreBlock_device (FBlk.device_ofIdx b hb)]
  refine .of_devReset (by decide) ?_
  refine (State.rd_wr_fault_strap _ _ rfl).trans ?_
  exact (State.rd_wr_fault_strap _ _ rfl).trans (State.rd_wr_fault_strap s.fresh _ rfl)

theorem quietEnd_latches {pass : Bool} (hstate : s.rd (FLT.FLTTIMERS.STATE (FBlk.ofIdx b)) = 2)
    (hfail : s.testPasses (FBlk.ofIdx b) pass = false) : Completes (.quietEnd b pass) s (fun t =>
      t.rd (FLT.FLTTIMERS.STATE (FBlk.ofIdx b)) = 4 ∧ t.rd (FLT.RECOV.LATCHED (FBlk.ofIdx b)) = 1 ∧
      t.rd (FLT.RECOV.LASTING (FBlk.ofIdx b)) = 1) := by
  refine .guarded rfl (by simp [hstate]) ?_
  rw [if_neg (by simp [hfail])]
  simp (disch := with_unfolding_all refine Field.key_ne rfl rfl ?_; omega) only [State.raise_eq_wr, State.rd_wr_ne,
    State.rd_wr_self]
  exact ⟨rfl, rfl, rfl⟩

theorem clrlatch_completes {r : Requester} {pass : Bool} (w : Word) (hrun : s.phase = .running)
    (hacc : Accepts r ((FBlk.ofIdx b).base + 12) (withBit w.toNat 1 true) s)
    (hstate : s.rd (FLT.FLTTIMERS.STATE (FBlk.ofIdx b)) = 4) (hpass : s.testPasses (FBlk.ofIdx b) pass = true)
    (hb : b.val < 68 ∨ b.val = 71) : Completes (.clrlatch r b w pass) s (fun t => ResultOk r t ∧
      t.rd (FLT.FLTTIMERS.STATE (FBlk.ofIdx b)) = 0 ∧ t.rd (FLT.RECOV.LATCHED (FBlk.ofIdx b)) = 0 ∧
      (t.flt (FBlk.ofIdx b)).action = false) := by
  have hlt := (FBlk.ofIdx b).base_lt
  have hgo : pulses (withBit w.toNat 1 true) (FLT.FLTACK.CLRLATCH (FBlk.ofIdx b)) = true := pulses_withBit _ rfl rfl
  have hflt (u : State) (k : Nat) (c : FBlk) : (u.setResult r k).flt c = u.flt c := by cases r <;> rfl
  refine State.write1_accepted (some pass) rfl hacc (by omega) fun hok => ⟨hok, ?_⟩
  rw [State.rd_setResult _ _ _ _, State.rd_setResult _ _ _ _, hflt, State.commitWord_running s.fresh r _ _ _ hrun,
    State.storeWord_fltack, State.wordEffect_ackWord _ r b _ _ _ hgo pass rfl,
    State.ackEffect_idle (show s.fresh.rd _ ≠ 1 from fun h => absurd (hstate.symm.trans h) (by decide)), ite_self]
  exact State.clrlatchEffect_restores (u := s.fresh) (FBlk.restores_ofIdx b hb) hstate hpass

theorem recoveryWindowExpire_completes (h : s.rd (FLT.RECOV.WINDOW (FBlk.ofIdx b)) ≠ 0) :
    Completes (.recoveryWindowExpire b) s (fun t => t.rd (FLT.RECOV.WINDOW (FBlk.ofIdx b)) =
      (s.rd (FLT.RECOV.WINDOW (FBlk.ofIdx b)) - 1) % 2 ^ (FLT.RECOV.WINDOW (FBlk.ofIdx b)).width) := by
  refine .guarded rfl (by simpa using h) ?_
  exact State.rd_wr_self _ _ _

end

end

/-- Settles O43: an action and a restore leave the block's own fault words as its timer set them. -/
theorem faultTimersComplete : Obligations.FaultTimersComplete := by
  intro r b w pass s hrun
  exact ⟨graceExpire_completes, fltackAck_completes w hrun, quietEnd_restores, quietEnd_restarts, quietEnd_latches,
    clrlatch_completes w hrun, recoveryWindowExpire_completes⟩

end Sys2Proof.Machine
end
